-- ==== Sys2Proof/Word.lean ====
section
/-!
DEFINITION. The words of the module and their plainest arithmetic: 32-bit register words (R7), 64-bit core and queue
words, bytes, and the reading and writing of a bit field [lo + len - 1 : lo].
-/

namespace Sys2Proof

/-- A register word (R7). -/
abbrev Word := BitVec 32

/-- A 64-bit word: a core register, a queue word, two adjacent registers (R7). -/
abbrev DWord := BitVec 64

/-- A byte of memory. -/
abbrev Byte := BitVec 8

/-- The field of `len` bits at bit `lo` of a register word, as a number. -/
def fld (w : Word) (lo len : Nat) : Nat := (w.toNat >>> lo) % 2 ^ len

/-- The bit `i` of a register word. -/
def bit (w : Word) (i : Nat) : Bool := w.toNat.testBit i

/-- `w` with the field of `len` bits at bit `lo` replaced by `n`, of which the low `len` bits count. -/
def setFld (w : Word) (lo len n : Nat) : Word :=
  BitVec.ofNat 32 (w.toNat - (fld w lo len) <<< lo + (n % 2 ^ len) <<< lo)

/-- The field of `len` bits at bit `lo` of a number. -/
def nfld (n lo len : Nat) : Nat := (n >>> lo) % 2 ^ len

/-- One register word as a number: the low 32 bits of `n`. -/
def w32 (n : Nat) : Word := BitVec.ofNat 32 n

/-- One 64-bit word: the low 64 bits of `n`. -/
def w64 (n : Nat) : DWord := BitVec.ofNat 64 n

/-- A Bool as a bit of weight 1. -/
def b2n (b : Bool) : Nat := if b then 1 else 0

/-- `n` with its bit `i` set. -/
def nset (n i : Nat) : Nat := if n.testBit i then n else n + 2 ^ i

/-- `n` with its bit `i` cleared. -/
def nclr (n i : Nat) : Nat := if n.testBit i then n - 2 ^ i else n

/-- `n + 1`, not above the largest value of a field of `len` bits. -/
def satInc (n len : Nat) : Nat := if n + 1 < 2 ^ len then n + 1 else 2 ^ len - 1

/-- How many of the low `w` bits of `n` are 1. -/
def popc : (w n : Nat) → Nat
  | 0, _ => 0
  | w + 1, n => popc w n + b2n (n.testBit w)

/-- The numbers below `w` whose bit of `n` is 1, rising. -/
def bitsOf (w n : Nat) : List Nat := (List.range w).filter n.testBit

end Sys2Proof
end

