-- ==== Sys2Proof/Syntax.lean ====
section
/-!
DEFINITION. The commands of the module, one constructor of Instr for each row of the opcode table, with the values a
command carries: who sends it and where it goes, and what the outside world (a supply, a sensor, a pad, a link, the
logic loaded in the fabric) shows at that moment.
-/

namespace Sys2Proof

/-- Who sends an access (R17, R20, R27): a core, a fabric window initiator port, a PCIe function, a quad-SPI port,
one of the internal initiators Fitting and Thimble, to which ownership does not apply, a session, the debug unit, Bobbin (its block port and its
DRAM accesses), or the memory system itself (zero-fill and patrol scrub). -/
inductive Initiator where
  | core (c : Fin 16)
  | win (p : Fin 8)
  | pcie (f : Fin 4)
  | qspi (q : Fin 2)
  | session (slot : Fin 1024)
  | fitting
  | thimble
  | debugUnit
  | bobbin
  | memory
  deriving DecidableEq, Repr

/-- One 32-bit write on the register bus: who sends it, its physical address and its value. -/
structure BusWrite where
  init : Initiator
  addr : Nat
  value : BitVec 32
  deriving DecidableEq, Repr

/-- What the check bits of the memory word accessed show (R53, R171, R253, R260): no error, one wrong bit (its
position in the 72 bits), or two wrong bits. -/
inductive Ecc where
  | none
  | single (pos : Nat)
  | double
  deriving DecidableEq, Repr

/-- The direction of an access. -/
inductive Rw where
  | read
  | write
  deriving DecidableEq, Repr

/-- A configuration plane (R109 to R111). -/
inductive Plane where
  | a
  | b
  | hem
  deriving DecidableEq, Repr

/-- An operation that reaches Bobbin in one 2 ns cycle (R228): a doorbell store of a core, a write of BOB_MAKE_READY or
BOB_CANCEL, BOB_TCMD (with the check bits of its block) or BOB_OBJ_CMD at the register port, the expiry of a thread's
timeout, a cycle of the event intake, overflow recovery. -/
inductive BobReq where
  | door (core : Fin 16) (off : Nat) (arg : BitVec 64)
  | makeReady (word : BitVec 32)
  | cancel (word : BitVec 32)
  | tcmd (word : BitVec 32) (ecc : Ecc)
  | objCmd (word : BitVec 32)
  | timeout (thread : Nat)
  | intake
  | recovery
  deriving DecidableEq, Repr

/-- A request at the life-cycle engine in the same cycle as another (R516), by its requester: 0 a write of LCS_CMD that the register port has let
pass, with its value and what it meets; 1 a JTAG instruction: LC_TRANSITION, LC_CHALLENGE, LC_RESPONSE; 2 the session engine: the frame that
waits at a port, where it holds OP 0x40 or 0x41. -/
inductive LcReq where
  | command (value : BitVec 32) (steps : Nat) (otpMask : BitVec 128) (otpBad : Bool)
  | transition (target : BitVec 8) (token : List (BitVec 8)) (steps : Nat) (otpMask : BitVec 128)
  | challenge (panel : BitVec 8) (scope minutes : BitVec 16) (keyId : BitVec 8)
  | response (body : List (BitVec 8)) (storeBad : Bool)
  | frame (port : Fin 24) (storeBad : Bool)
  deriving DecidableEq, Repr

/-- The requester of a request at the life-cycle engine (R516). -/
def lcRequester : LcReq → Nat
  | .command _ _ _ _ => 0
  | .transition _ _ _ _ => 1
  | .challenge _ _ _ _ => 1
  | .response _ _ => 1
  | .frame _ _ => 2

/-- What a register write meets beside its value: the PLLs whose LKF land is bad (R396), the check bits of a word that the write
makes a block read, how many steps of a life-cycle transition complete before power is lost (11: all, R507), the bits of the state
word that fail verification, whether an OTP bit or the battery-held store fails (R471, R479), whether Thimble's asymmetric unit serves a contested
cycle (R475), whether a plane cell fails to erase (R141), and the requests that reach
Bobbin (R228) and the life-cycle engine (R516) in the same cycle. -/
structure RegEnv where
  badLands : BitVec 8
  ecc : Ecc
  steps : Nat
  otpMask : BitVec 128
  otpBad : Bool
  storeBad : Bool
  contested : Bool
  cellFails : Bool
  bob : List BobReq
  meets : List LcReq
  deriving DecidableEq, Repr

/-- Nothing fails and nothing interferes. -/
def RegEnv.calm : RegEnv := ⟨0, .none, 11, 0, false, false, false, false, [], []⟩

/-- The access a register command arrives by: its initiator, the other register writes that reach the pages in the
same 2 ns cycle of the controller clock (R27, R35), and what the write meets. -/
structure Acc where
  init : Initiator
  others : List BusWrite
  env : RegEnv
  deriving DecidableEq, Repr

/-- What a core meets as it executes an instruction: a parity error in the cache line fetched (R172), the check bits of the word fetched, of
the next where the instruction reaches into it, and of the word accessed, how many of a queue's last words its side does not see yet and who else reaches the queue in the cycle (R300, R305),
the other register writes of the cycle, and what a register write meets. -/
structure CoreEnv where
  parity : Bool
  fetchEcc : Ecc
  nextEcc : Ecc
  dataEcc : Ecc
  lag : Nat
  rivals : List (Initiator × BitVec 64)
  others : List BusWrite
  reg : RegEnv
  deriving DecidableEq, Repr

/-- Nothing fails and nothing interferes. -/
def CoreEnv.calm : CoreEnv := ⟨false, .none, .none, .none, 0, [], [], .calm⟩

/-- An access of up to 16 bytes of memory that arrives in the same cycle as another (R77, R250, R251, R256). -/
structure MemReq where
  init : Initiator
  rw : Rw
  addr : Nat
  bytes : Nat
  value : BitVec 128
  deriving DecidableEq, Repr

/-- What a sweep engine meets in a frame beside its upsets (R148, R154, R162): the check bits of its reference, the cells that do not take a write, and
whether an isolation or a write of basting reaches the region before (false) or after (true) an upset is classified. -/
structure SweepMeets where
  ecc : Ecc
  stuck : List (Fin 4096)
  cut : Option Bool
  deriving DecidableEq, Repr

/-- A frame read by the sweep engine of a bolt: the latch cells that have flipped since it was last written, and what else the engine meets in it. -/
structure SweepRead where
  bolt : Fin 8
  upsets : List (Fin 4096)
  meets : SweepMeets
  deriving DecidableEq, Repr

/-- The spare slots of a frame that is rewritten (R157): how many fail to verify before one does, and whether the old slot fails to erase. -/
structure SlotFails where
  verify : Nat
  erase : Bool
  deriving DecidableEq, Repr

/-- What a flash descriptor meets as it starts (R272 to R275): the page, from 0 in its range, of the first uncorrectable
word read in the array, an uncorrectable word in its buffer, whether the write of STATUS succeeds, and the other
requesters (1 replay, 2 refresh, 3 Fitting) that start an operation in the same bank in the same cycle (R278). -/
structure FlashEnv where
  eccAt : Option Nat
  bufEcc : Bool
  statusOk : Bool
  rivals : List (Fin 4)
  deriving DecidableEq, Repr

/-- What a beat at a queue's data port or in memory meets: how many of the last words moved on the other side its side does not see yet (0: nor is a
request of the other side still on its way), as far as R299 allows, who else pushes to the queue (with the word) or pops from it in the cycle (R305), the
check bits. -/
structure BeatEnv where
  lag : Nat
  rivals : List (Initiator × BitVec 64)
  ecc : Ecc
  deriving DecidableEq, Repr

/-- Nothing fails and nothing interferes. -/
def BeatEnv.calm : BeatEnv := ⟨0, [], .none⟩

/-- The memory BARs of a function (R365). -/
inductive Bar where
  | bar0
  | bar2
  | bar4
  deriving DecidableEq, Repr

/-- A PCIe memory request (R365): the function, the BAR, the offset, the direction, for each DW in ascending order its
byte enables and, in a write, its value, whether a write is poisoned (R368), what its accesses meet, the queue beats among them (R367), and the memory
accesses that reach DRAM in the same cycle (R256). -/
structure PcieReq where
  fn : Fin 4
  bar : Bar
  off : Nat
  rw : Rw
  dws : List (BitVec 4 × BitVec 32)
  poisoned : Bool
  reg : List RegEnv
  others : List BusWrite
  beats : List BeatEnv
  ecc : Ecc
  also : List MemReq
  deriving DecidableEq, Repr

/-- What a start meets (R115, R388, R432, R533): for each of the three samples of the straps (R337), the strap pins IO0_0 to IO0_3 whose level is not what
the board source at the land, or else the HOLD pull, gives; the bank rails that come good, whether XO25 is
ready, the PLLs that lock in time and the LKF lands that are bad, whether DRAM calibration succeeds, whether the first copy of the
candidate and of the Hem plane fails, whether the CRC of Bobbin's save area passes, what the quick test finds, and the monitor's first sample (R537):
each sensor's reading and whether its paths differ, the local voltages in mV. -/
structure StartEnv where
  straps : BitVec 4 × BitVec 4 × BitVec 4
  banks : BitVec 12
  xoReady : Bool
  locked : BitVec 8
  badLands : BitVec 8
  calibOk : Bool
  candFails : Bool
  hemFails : Bool
  saveOk : Bool
  clusters : BitVec 4
  crypto : Bool
  flash : BitVec 8
  readings : List (BitVec 16 × Bool)
  vdd : List Nat
  deriving DecidableEq, Repr

/-- One beat of the fabric window bus (R71): its byte enables and, in a write, its data. -/
structure WinBeat where
  enables : BitVec 16
  data : BitVec 128
  deriving DecidableEq, Repr

/-- A request of a fabric window initiator port (R71): the port, one of the command codes 0b011 (false) and 0b111 (true), which R71 gives to no command,
where the request carries it in place of the row's own; its tag, the address, the beats, what each access of the request meets, in
order, what a register write meets, the other register writes of the cycle, and the accesses of other ports that ask for the data path
in the same cycle (R77). -/
structure WinReq where
  port : Fin 8
  unknown : Option Bool
  tag : Fin 32
  addr : BitVec 40
  beats : List WinBeat
  meets : List BeatEnv
  reg : RegEnv
  others : List BusWrite
  rivals : List MemReq
  deriving DecidableEq, Repr

/-- A request of a PCIe function: to a BAR; one beat to a queue's data port in BAR2 (R303, R367); to the configuration space; a frame
in MBX_IN, given by the bytes written and then MBX_IN_LEN; MBX_OUT_DONE; a DW of the MSI-X table. -/
inductive PcieCmd where
  | mem (q : PcieReq)
  | queue (fn : Fin 4) (que : Fin 64) (off : Fin 512) (rw : Rw) (value : BitVec 64) (meets : BeatEnv)
  | config (fn : Fin 4) (dw : Fin 1024) (rw : Rw) (value : BitVec 32)
  | mbxIn (fn : Fin 4) (bytes : List (Nat × BitVec 8)) (len : Nat)
  | mbxDone (fn : Fin 4) (value : BitVec 32)
  | msix (fn : Fin 4) (dw : Fin 256) (value : BitVec 32)
  deriving DecidableEq, Repr

/-- What the words of a host request meet: register writes, beats at a queue or in memory, and the other register writes of the cycle. -/
structure HostEnv where
  reg : List RegEnv
  beats : List BeatEnv
  others : List BusWrite
  deriving DecidableEq, Repr

def HostEnv.calm : HostEnv := ⟨[], [], []⟩

/-- A request of a quad-SPI host (R374): the port, an opcode that R377 gives to no request, where the request carries one in place of the row's own, TAG,
RCRC as received, the request body, and what it meets. -/
structure QspiReq where
  port : Fin 2
  unknown : Option (BitVec 8)
  tag : BitVec 8
  crc : BitVec 32
  body : List (BitVec 8)
  env : HostEnv
  deriving DecidableEq, Repr

/-- What a debug module access meets: the check bits and the queue of a memory access, the fabric's answer at a target port (none: it does not
answer in time), what a register write meets, and the other register writes of the cycle. -/
structure DmiEnv where
  beat : BeatEnv
  fabric : Option (BitVec 64)
  reg : RegEnv
  others : List BusWrite
  deriving DecidableEq, Repr

/-- What an atomic instruction of a core does (R174): LR, SC, or the operation of an AMO. -/
inductive AtomicKind where
  | lr | sc | swap | add | xor | and | or | min | max | minu | maxu
  deriving DecidableEq, Repr

/-- What a CSR instruction does with its source. -/
inductive CsrKind where
  | write | set | clear
  deriving DecidableEq, Repr

/-- A load or store instruction of a core (R168, R173): a store, log2 of its width, sign extension of a load, an F register; the register,
the base register, the offset, a compressed encoding, and what it meets. -/
structure LoadStore where
  core : Fin 16
  isStore : Bool
  size : Fin 4
  signed : Bool
  fp : Bool
  reg : Fin 32
  base : Fin 32
  offset : BitVec 12
  short : Bool
  env : CoreEnv
  deriving DecidableEq, Repr
/-- The commands of the module: one constructor for each row of the opcode table, in the order of the table. -/
inductive Instr where
  /-- REGISTER_WRITE. A store of `bytes` bytes to a register page (R7, R9, R18, R26). -/
  | registerWrite (a : Acc) (addr bytes : Nat) (value : BitVec 64)
  /-- STAGING_WRITE. A write of a staged register at a distance from 0x6000_0000 (R28, R29); the command names staged registers only. -/
  | stagingWrite (a : Acc) (off : Nat) (value : BitVec 32)
  /-- COMMIT_NOW. SEAM_COMMIT, OP 0b01 (R31). -/
  | commitNow (a : Acc)
  /-- COMMIT_AT. SEAM_COMMIT, OP 0b10 (R32). -/
  | commitAt (a : Acc)
  /-- DISCARD. SEAM_COMMIT, OP 0b11 (R32). -/
  | discard (a : Acc)
  /-- SEAL_POINT. The seal point of a panel's scheduled commit (R32). -/
  | sealPoint (panel : Fin 8)
  /-- APPLY_TICK. The apply tick of the commits that are due (R30, R33, R359). -/
  | applyTick
  /-- TAKE_NOW. SEAM_SNAP, OP 0b01 (R36). -/
  | takeNow (a : Acc)
  /-- TAKE_AT. SEAM_SNAP, OP 0b10 (R36). -/
  | takeAt (a : Acc)
  /-- RELEASE. SEAM_SNAP, OP 0b11 (R36). -/
  | release (a : Acc)
  /-- SNAPSHOT_CAPTURE. The tick of the snapshots that are due (R36). -/
  | snapshotCapture
  /-- SOFT_RESET. CTRL of a page with SOFT_RESET, beside a value of ENABLE (R22). -/
  | softReset (a : Acc) (page : Fin 256) (enable : Bool)
  /-- CTRL_ENABLE_WRITE. CTRL.ENABLE of a page (R22). -/
  | ctrlEnableWrite (a : Acc) (page : Fin 256) (enable : Bool)
  /-- IRQ_SET. IRQ_SET of a page (R22). -/
  | irqSet (a : Acc) (page : Fin 256) (value : BitVec 32)
  /-- PAGE_LOCK. LOCK.LOCKED of a page (R24). -/
  | pageLock (a : Acc) (page : Fin 256)
  /-- BRAM_GUARDED_READ. A port-1 read of a GUARDED word (R53): the bits of its data and of its check bits that have gone wrong since its last read. -/
  | bramGuardedRead (block : Fin 3072) (word : Fin 512) (dataFlips : BitVec 64) (checkFlips : BitVec 8)
  /-- BRAM_REPAIR. The write-back of a corrected word (R53). -/
  | bramRepair (block : Fin 3072) (word : Fin 512)
  /-- DLL_STEP. A STEP pulse of a DLL, DIR given (R64). -/
  | dllStep (dll : Fin 16) (later : Bool)
  /-- DLL_STEP_DONE. STEP_DONE of a DLL (R64). -/
  | dllStepDone (dll : Fin 16)
  /-- DLL_ALIGNED. A DLL completes alignment (R64). -/
  | dllAligned (dll : Fin 16)
  /-- DLL_UNLOCK. ALIGNED of a DLL falls (R404). -/
  | dllUnlock (dll : Fin 16)
  /-- GLOBAL_BUFFER_ENABLE. The enable of a global buffer (R63). -/
  | globalBufferEnable (buffer : Fin 64) (on : Bool)
  /-- GLOBAL_BUFFER_SELECT. The select of a global buffer (R63). -/
  | globalBufferSelect (buffer : Fin 64) (sel : Bool)
  /-- NEEDLE_EDGE. A rising edge on a Needle line (R66). -/
  | needleEdge (line : Fin 4096)
  /-- PARAM_CAPTURE. The capture clock of a region takes the parameter words (R68). -/
  | paramCapture (region : Fin 128)
  /-- RD. A read request of a fabric window initiator port (R71, R72). -/
  | rd (q : WinReq)
  /-- WR_P. A posted write request (R71). -/
  | wrP (q : WinReq)
  /-- WR_NP. A non-posted write request (R71). -/
  | wrNp (q : WinReq)
  /-- AMO_SWAP. An atomic swap of 4 or 8 bytes (R74). -/
  | amoSwap (q : WinReq) (wide : Bool)
  /-- AMO_ADD. An atomic add (R74). -/
  | amoAdd (q : WinReq) (wide : Bool)
  /-- AMO_CAS. A compare-and-swap (R74). -/
  | amoCas (q : WinReq) (wide : Bool)
  /-- TARGET_PORT_ACCESS. A load or store of a core to a target port (R70). -/
  | targetPortAccess (x : LoadStore)
  /-- TARGET_PORT_RESPONSE. The fabric's answer to a core's access at a target port (R75). -/
  | targetPortResponse (port : Fin 8) (core : Fin 16) (code : Fin 6) (value : BitVec 64)
  /-- TARGET_PORT_TIMEOUT. A target port has not answered in time (R76). -/
  | targetPortTimeout (port : Fin 8)
  /-- PARTNER_FRAME_RX. A frame from the fabric on a partner port ends, or is cut off by a fall of LINK_UP (R78, R79). -/
  | partnerFrameRx (port : Fin 16) (bytes : List (BitVec 8)) (cut : Bool)
  /-- PARTNER_FRAME_TX. The oldest waiting frame leaves through a partner port (R78). -/
  | partnerFrameTx (port : Fin 16)
  /-- LINK_UP_CHANGE. The fabric changes LINK_UP of a partner port (R78). -/
  | linkUpChange (port : Fin 16) (up : Bool)
  /-- BOLT_OFF. A write of FAB_BOLT_OFF (R83). -/
  | boltOff (a : Acc) (bolts : BitVec 8)
  /-- PLANE_WRITE. PAT_CMD, WRITE (R119, R120). -/
  | planeWrite (a : Acc) (target : Fin 4)
  /-- PLANE_WRITE_DONE. The read-back of a written plane completes; whether a cell fails it (R120). -/
  | planeWriteDone (cellFails : Bool)
  /-- PAT_ABORT. PAT_CMD, ABORT (R121). -/
  | patAbort (a : Acc)
  /-- PLANE_ERASE. PAT_CMD, ERASE (R121). -/
  | planeErase (a : Acc) (target : Fin 4)
  /-- SWAP. PAT_CMD, SWAP (R122 to R126). -/
  | swap (a : Acc) (target : Fin 4) (trial : Bool)
  /-- SWAP_AT. PAT_CMD, SWAP_AT (R125). -/
  | swapAt (a : Acc) (target : Fin 4) (trial : Bool)
  /-- SWAP_AT_START. The first tick at or after the time of a pending SWAP_AT (R125, R126). -/
  | swapAtStart
  /-- CONFIRM. PAT_CMD, CONFIRM (R134). -/
  | confirm (a : Acc)
  /-- BASTE. BAS_CMD, BASTE (R136). -/
  | baste (a : Acc)
  /-- BAS_ABORT. BAS_CMD, ABORT (R138). -/
  | basAbort (a : Acc)
  /-- RESTORE. BAS_CMD, RESTORE (R139). -/
  | restore (a : Acc)
  /-- SWEEP_START. A sweep engine starts a new sweep (R147). -/
  | sweepStart (bolt : Fin 8)
  /-- SWEEP_FRAME_CHECK. A sweep engine checks its next frame (R148 to R152), with the engines that do so in the same cycle (R154). -/
  | sweepFrameCheck (bolt : Fin 8) (upsets : List (Fin 4096)) (meets : SweepMeets) (also : List SweepRead)
  /-- REGION_RESET_RELEASE. A region reset by a class action is released (R151). -/
  | regionResetRelease (region : Fin 128)
  /-- SWEEP_OVERRUN. A sweep exceeds 20 ms (R164). -/
  | sweepOverrun (bolt : Fin 8)
  /-- REFRESH_PASS_START. The plane refresher starts a pass, by its schedule (R156). -/
  | refreshPassStart (hot : Bool)
  /-- REFRESH_FRAME_CHECK. The refresher checks one frame (R157, R158): whether its margin read differs, its wrong bits, and the spare slots that fail where it is rewritten. -/
  | refreshFrameCheck (differs : Bool) (errors : Nat) (slots : SlotFails)
  /-- OVERLOCK_VOTE_ERROR. A disagreement among Overlock's triplicated state (R161). -/
  | overlockVoteError (majority : Bool)
  /-- OVL_INJECT. OVL_INJECT with GO (R165). -/
  | ovlInject (a : Acc) (far : BitVec 16) (word : BitVec 7) (cell : BitVec 5)
  /-- INSTRUCTION_EXECUTE. A core fetches the instruction at its pc and executes it (R167, R168). -/
  | instructionExecute (core : Fin 16) (env : CoreEnv)
  /-- INSTRUCTION_FETCH. A core fetches the instruction at its pc (R172, R176); the answer is its bits. -/
  | instructionFetch (core : Fin 16) (env : CoreEnv)
  /-- LOAD_STORE. A load or store of a core (R168, R173). -/
  | loadStore (x : LoadStore)
  /-- ATOMIC_ACCESS. An LR, SC or AMO of a core, of a word or a double word (R174). -/
  | atomicAccess (core : Fin 16) (kind : AtomicKind) (double : Bool) (rd rs1 rs2 : Fin 32) (env : CoreEnv)
  /-- WRITE_BUFFER_DRAIN. The oldest posted store of a core is performed (R173). -/
  | writeBufferDrain (core : Fin 16)
  /-- FENCE. FENCE (R173). -/
  | fence (core : Fin 16) (pred succ : BitVec 4) (env : CoreEnv)
  /-- FENCE_I. FENCE.I (R172). -/
  | fenceI (core : Fin 16) (env : CoreEnv)
  /-- WFI. WFI (R182). -/
  | wfi (core : Fin 16) (env : CoreEnv)
  /-- CSR_ACCESS. A CSR instruction (R167, R168). -/
  | csrAccess (core : Fin 16) (kind : CsrKind) (imm : Bool) (rd src : Fin 32) (num : Fin 4096) (env : CoreEnv)
  /-- INTERRUPT_TAKEN. The pending enabled interrupt of a core is taken (R177). -/
  | interruptTaken (core : Fin 16)
  /-- MTIMECMP_MATCH. TIM_NOW has reached CORE_MTIMECMP (R177). -/
  | mtimecmpMatch (core : Fin 16)
  /-- CORE_START. CORE_RUN.START of a core (R185). -/
  | coreStart (a : Acc) (core : Fin 16)
  /-- ICACHE_INVALIDATE. CORE_ICINV of a core (R172). -/
  | icacheInvalidate (a : Acc) (core : Fin 16)
  /-- CLUSTER_OFF. CORE_CLUSTER_OFF of a cluster (R186). -/
  | clusterOff (a : Acc) (cluster : Fin 4)
  /-- DB_READY. A store to DB READY (R208). -/
  | dbReady (core : Fin 16) (arg : BitVec 64) (short : Bool) (env : CoreEnv)
  /-- DB_YIELD. A store to DB YIELD (R209). -/
  | dbYield (core : Fin 16) (arg : BitVec 64) (short : Bool) (env : CoreEnv)
  /-- WAIT_EVENT_READY. WAIT_EVENT, KIND READY (R210). -/
  | waitEventReady (core : Fin 16) (arg : BitVec 62) (short : Bool) (env : CoreEnv)
  /-- WAIT_EVENT_FLAGS_ANY. WAIT_EVENT, KIND FLAGS_ANY (R210, R216). -/
  | waitEventFlagsAny (core : Fin 16) (arg : BitVec 62) (short : Bool) (env : CoreEnv)
  /-- WAIT_EVENT_FLAGS_ALL. WAIT_EVENT, KIND FLAGS_ALL (R210, R216). -/
  | waitEventFlagsAll (core : Fin 16) (arg : BitVec 62) (short : Bool) (env : CoreEnv)
  /-- WAIT_EVENT_SEM. WAIT_EVENT, KIND SEM (R210, R214). -/
  | waitEventSem (core : Fin 16) (arg : BitVec 62) (short : Bool) (env : CoreEnv)
  /-- WAIT_TIMEOUT. A store to DB WAIT_TIMEOUT (R211). -/
  | waitTimeout (core : Fin 16) (arg : BitVec 64) (short : Bool) (env : CoreEnv)
  /-- SEM_POST. SIGNAL, KIND SEM_POST (R212, R214). -/
  | semPost (core : Fin 16) (arg : BitVec 62) (short : Bool) (env : CoreEnv)
  /-- FLAGS_SET. SIGNAL, KIND FLAGS_SET (R216). -/
  | flagsSet (core : Fin 16) (arg : BitVec 62) (short : Bool) (env : CoreEnv)
  /-- FLAGS_CLEAR. SIGNAL, KIND FLAGS_CLEAR (R216). -/
  | flagsClear (core : Fin 16) (arg : BitVec 62) (short : Bool) (env : CoreEnv)
  /-- DB_SUSPEND. A store to DB SUSPEND (R213). -/
  | dbSuspend (core : Fin 16) (arg : BitVec 64) (short : Bool) (env : CoreEnv)
  /-- DB_CANCEL. A store to DB CANCEL (R213). -/
  | dbCancel (core : Fin 16) (arg : BitVec 64) (short : Bool) (env : CoreEnv)
  /-- DISPATCH. A free joined core takes the first ready thread allowed on it (R200); the check bits of its context. -/
  | dispatch (core : Fin 16) (ecc : Ecc)
  /-- DISPATCH_POINT_SWITCH. A running thread at a dispatch point is switched out (R201). -/
  | dispatchPointSwitch (core : Fin 16) (ecc : Ecc)
  /-- QUANTUM_EXPIRY. The quantum of a core's thread expires (R202). -/
  | quantumExpiry (core : Fin 16)
  /-- TIMEOUT_EXPIRY. A wait's deadline is reached (R218), with the operations of the same cycle (R228). -/
  | timeoutExpiry (thread : BitVec 18) (others : List BobReq)
  /-- INIT. BOB_TCMD, INIT (R192). -/
  | init (a : Acc) (thread : BitVec 18)
  /-- FREE. BOB_TCMD, FREE (R221). -/
  | free (a : Acc) (thread : BitVec 18)
  /-- READ. BOB_TCMD, READ (R221). -/
  | read (a : Acc) (thread : BitVec 18)
  /-- SET_PRIO. BOB_TCMD, SET_PRIO (R221). -/
  | setPrio (a : Acc) (thread : BitVec 18)
  /-- SET_AFFINITY. BOB_TCMD, SET_AFFINITY (R221). -/
  | setAffinity (a : Acc) (thread : BitVec 18)
  /-- SET_PIN. BOB_TCMD, SET_PIN (R204). -/
  | setPin (a : Acc) (thread : BitVec 18)
  /-- THREAD_CMD_DONE. A thread or object command completes (R221). -/
  | threadCmdDone
  /-- BOB_MAKE_READY. A write of BOB_MAKE_READY (R197). -/
  | bobMakeReady (a : Acc) (thread : BitVec 18) (resume : Bool)
  /-- BOB_CANCEL. A write of BOB_CANCEL (R213). -/
  | bobCancel (a : Acc) (thread : BitVec 18)
  /-- OBJ_READ. BOB_OBJ_CMD, READ, of a semaphore or a flag group (R221). -/
  | objRead (a : Acc) (group : Bool) (id : BitVec 12)
  /-- OBJ_WRITE. BOB_OBJ_CMD, WRITE (R221). -/
  | objWrite (a : Acc) (group : Bool) (id : BitVec 12)
  /-- EVENT_INTAKE. A cycle of the event intake (R224). -/
  | eventIntake (others : List BobReq)
  /-- BOB_BIND. A write of the high word of BOB_BIND (R247). -/
  | bobBind (a : Acc) (high : BitVec 32)
  /-- SPILL. A spill (R234). -/
  | spill
  /-- REFILL. A refill (R234). -/
  | refill
  /-- SPOOL_SEARCH. A free core searches the Spool (R235). -/
  | spoolSearch (core : Fin 16)
  /-- OVERFLOW_RECOVERY. Overflow recovery makes one thread READY (R240). -/
  | overflowRecovery (others : List BobReq)
  /-- SPOOL_ECC_REBUILD. An uncorrectable error in a Spool block (R241). -/
  | spoolEccRebuild (block : Fin 32768)
  /-- SRAM_ACCESS. An access of shared SRAM, with the writes of the same cycle (R250 to R253). -/
  | sramAccess (init : Initiator) (rw : Rw) (addr bytes : Nat) (value : BitVec 128) (also : List MemReq) (ecc : Ecc)
  /-- DRAM_ACCESS. An access of DRAM, with the writes of the same cycle (R254 to R256). -/
  | dramAccess (init : Initiator) (rw : Rw) (addr bytes : Nat) (value : BitVec 128) (also : List MemReq) (ecc : Ecc)
  /-- ZERO_FILL_SEGMENT. The next 64 KiB segment of DRAM is zero-filled (R257). -/
  | zeroFillSegment
  /-- DRAM_REFRESH. A refresh of DRAM rows: it keeps what memory holds, and the spec gives it no other effect than the time it takes (R258). -/
  | dramRefresh
  /-- DRAM_POWER_DOWN. DRAM power-down after 1 µs without requests (R258). -/
  | dramPowerDown
  /-- PATROL_SCRUB. The patrol scrub reads the next DRAM word (R259). -/
  | patrolScrub (ecc : Ecc)
  /-- ERROR_HOUR_ROLLOVER. A whole hour of TIM_NOW ends (R261, R542, R543). -/
  | errorHourRollover
  /-- DQ_HEAD_WRITE. A write of FLS_DQ_HEAD (R271). -/
  | dqHeadWrite (a : Acc) (value : BitVec 32)
  /-- DQ_FETCH. The controller fetches a descriptor (R271, R274). -/
  | dqFetch (ecc : Ecc)
  /-- DQ_RUN. FLS_DQ_CTRL, RUN (R271). -/
  | dqRun (a : Acc)
  /-- DQ_STOP. FLS_DQ_CTRL, STOP (R271). -/
  | dqStop (a : Acc)
  /-- PROGRAM. The next PROGRAM descriptor of a bank starts (R267, R273). -/
  | program (bank : Fin 8) (env : FlashEnv)
  /-- ERASE. The next ERASE descriptor of a bank starts (R273). -/
  | erase (bank : Fin 8) (env : FlashEnv)
  /-- BLANK_CHECK. The next BLANK_CHECK descriptor of a bank is carried out (R273). -/
  | blankCheck (bank : Fin 8) (env : FlashEnv)
  /-- VERIFY. The next VERIFY descriptor of a bank is carried out (R273). -/
  | verify (bank : Fin 8) (env : FlashEnv)
  /-- MARK_BAD. The next MARK_BAD descriptor of a bank is carried out (R279). -/
  | markBad (bank : Fin 8) (env : FlashEnv)
  /-- OPT_ERASE. The next OPT_ERASE descriptor starts (R283). -/
  | optErase (env : FlashEnv)
  /-- OPT_PROGRAM. The next OPT_PROGRAM descriptor starts (R283). -/
  | optProgram (env : FlashEnv)
  /-- SLOT_BEGIN. The next SLOT_BEGIN descriptor is carried out (R287). -/
  | slotBegin (env : FlashEnv)
  /-- SLOT_COMMIT. The next SLOT_COMMIT descriptor is carried out (R287). -/
  | slotCommit (env : FlashEnv)
  /-- FLASH_FENCE_DESC. The next FENCE descriptor completes (R273). -/
  | flashFenceDesc (env : FlashEnv)
  /-- FLASH_OP_COMPLETE. A page program or sector erase finishes in a bank, or (8) in the option area: whether it verifies, whether the write of STATUS succeeds (R275). -/
  | flashOpComplete (bank : Fin 9) (good statusOk : Bool)
  /-- FLASH_SUSPEND. FLS_SUSPEND, SUSPEND (R277). -/
  | flashSuspend (a : Acc) (banks : BitVec 8)
  /-- FLASH_RESUME. FLS_SUSPEND, RESUME (R276). -/
  | flashResume (a : Acc) (banks : BitVec 8)
  /-- FLASH_READ. A read of code flash or of the option area (R266, R268, R270). -/
  | flashRead (init : Initiator) (addr bytes : Nat) (ecc : Ecc)
  /-- FLASH_REFRESH_PASS. The flash refresher starts a pass, by its schedule (R288). -/
  | flashRefreshPass (hot : Bool)
  /-- REFRESH_HOLD_EXPIRY. FLS_REFRESH_HOLD bits set 24 hours ago clear (R290). -/
  | refreshHoldExpiry
  /-- QUE_PUSH. A beat to QUE_PUSH (R301, R302, R306). -/
  | quePush (init : Initiator) (queue : Fin 64) (value : BitVec 64) (meets : BeatEnv)
  /-- QUE_POP. A beat from QUE_POP (R303, R307). -/
  | quePop (init : Initiator) (queue : Fin 64) (meets : BeatEnv)
  /-- QUE_PEEK. A beat from QUE_PEEK (R303). -/
  | quePeek (init : Initiator) (queue : Fin 64) (meets : BeatEnv)
  /-- MARK. The port command MARK (R312). -/
  | mark (init : Initiator) (queue : Fin 64) (meets : BeatEnv)
  /-- REWIND. The port command REWIND (R312). -/
  | rewind (init : Initiator) (queue : Fin 64) (meets : BeatEnv)
  /-- CLEAR_MARK. The port command CLEAR_MARK (R312). -/
  | clearMark (init : Initiator) (queue : Fin 64) (meets : BeatEnv)
  /-- FLUSH. The port command FLUSH (R309). -/
  | flush (init : Initiator) (queue : Fin 64) (meets : BeatEnv)
  /-- FLUSH_FORCE. The port command FLUSH_FORCE (R310). -/
  | flushForce (init : Initiator) (queue : Fin 64) (meets : BeatEnv)
  /-- FLUSH_POINT. A pending FLUSH reaches its packet boundary (R309). -/
  | flushPoint (queue : Fin 64)
  /-- QUEUE_HANDSHAKE_DONE. A pointer handshake completes (R311, R312). -/
  | queueHandshakeDone (queue : Fin 64)
  /-- QUEUE_RESET. QUE_CMD, RESET (R318). -/
  | queueReset (a : Acc) (queue : Fin 64)
  /-- QUE_CFG_WRITE. A write of QUE_CFG (R295, R318). -/
  | queCfgWrite (a : Acc) (queue : Fin 64) (value : BitVec 32)
  /-- QUEUE_THRESHOLD. The consumer's count follows the write pointer, all but the last words, and may rise to QUE_THRESH (R300, R308). -/
  | queueThreshold (queue : Fin 64) (lag : Nat)
  /-- FORCED_RESET. The copies of a pointer disagree (R313). -/
  | forcedReset (queue : Fin 64) (isRead : Bool)
  /-- PIN_MUX_WRITE. A write of PIN_MUXn (R333). -/
  | pinMuxWrite (a : Acc) (pin : Fin 480) (value : BitVec 32)
  /-- PIN_OUT_SET. A write of PIN_OUT_SET, pins 0 to 31 or 32 to 39 of a bank (R326). -/
  | pinOutSet (a : Acc) (bank : Fin 12) (high : Bool) (mask : BitVec 32)
  /-- PIN_OUT_CLR. A write of PIN_OUT_CLR (R326). -/
  | pinOutClr (a : Acc) (bank : Fin 12) (high : Bool) (mask : BitVec 32)
  /-- PIN_INPUT_CHANGE. The board drives a pin to a level, or floats it, for a number of pad-clock edges (R327, R328, R332). -/
  | pinInputChange (pin : Fin 480) (board : Option Bool) (edges : Nat)
  /-- PIN_MISMATCH. The levels a driven pin reads at 3 consecutive pad-clock edges (R331). -/
  | pinMismatch (pin : Fin 480) (x y z : Bool)
  /-- BANK_RAIL_FAULT. A bank rail leaves regulation or exceeds its limit (R339). -/
  | bankRailFault (bank : Fin 12)
  /-- RAIL_RETRY. PIN_RAIL.RETRY of a bank (R339). -/
  | railRetry (a : Acc) (bank : Fin 12)
  /-- START. PLT_GCMD, START (R347). -/
  | start (a : Acc) (group : Fin 8)
  /-- START_AT. PLT_GCMD, START_AT (R347). -/
  | startAt (a : Acc) (group : Fin 8)
  /-- STOP. PLT_GCMD, STOP (R347). -/
  | stop (a : Acc) (group : Fin 8)
  /-- HALT. PLT_GCMD, HALT (R347). -/
  | halt (a : Acc) (group : Fin 8)
  /-- PLEAT_START_TIME. A pending group reaches T0 (R347). -/
  | pleatStartTime (group : Fin 8)
  /-- PLEAT_SLOT_BOUNDARY. A slot boundary of a group (R344). -/
  | pleatSlotBoundary (group : Fin 8)
  /-- PLEAT_SAMPLE. The sample point of a group's slot (R346). -/
  | pleatSample (group : Fin 8)
  /-- PLEAT_FRAME_END. A frame of a group ends (R346, R349). -/
  | pleatFrameEnd (group : Fin 8)
  /-- PLT_TTE_ARM. A write of PLT_TTE_ARM (R352). -/
  | pltTteArm (a : Acc) (mask : BitVec 16)
  /-- PLT_TTE_CANCEL. A write of PLT_TTE_CANCEL (R352). -/
  | pltTteCancel (a : Acc) (mask : BitVec 16)
  /-- TTE_FIRE. An armed channel reaches its time (R352). -/
  | tteFire (channel : Fin 16)
  /-- PNL_RESET. A write of PNL_RESET (R362). -/
  | pnlReset (a : Acc) (panels : BitVec 8)
  /-- PNL_HOLD. A write of PNL_HOLD (R360). -/
  | pnlHold (a : Acc)
  /-- BAR0_ACCESS. A PCIe request to BAR0 (R366); it names BAR0. -/
  | bar0Access (q : PcieReq)
  /-- BAR4_ACCESS. A PCIe request to BAR4 (R368); it names BAR4. -/
  | bar4Access (q : PcieReq)
  /-- PCIE_CONFIG_ACCESS. A PCIe configuration request (R364). -/
  | pcieConfigAccess (fn : Fin 4) (dw : Fin 1024) (rw : Rw) (value : BitVec 32)
  /-- MBX_IN_LEN. The bytes written to MBX_IN, and then MBX_IN_LEN (R371). -/
  | mbxInLen (fn : Fin 4) (bytes : List (Nat × BitVec 8)) (len : Nat)
  /-- MBX_OUT_DONE. A write of MBX_OUT_DONE (R371). -/
  | mbxOutDone (fn : Fin 4) (value : BitVec 32)
  /-- FLR. A function-level reset (R372). -/
  | flr (fn : Fin 4)
  /-- PERST. A hot reset, or PERST_N falls or rises (R372). -/
  | perst (hot low : Bool)
  /-- LINK_DOWN. The PCIe link is lost (R372, R386). -/
  | linkDown
  /-- LINK_UP. The PCIe link completes training (R382, R385). -/
  | linkUp (speed : BitVec 4) (width : BitVec 6)
  /-- QSPI_RD_REG. RD_REG (R377). -/
  | qspiRdReg (q : QspiReq)
  /-- QSPI_WR_REG. WR_REG (R377). -/
  | qspiWrReg (q : QspiReq)
  /-- Q_PUSH. Q_PUSH (R377). -/
  | qPush (q : QspiReq)
  /-- Q_POP. Q_POP (R377). -/
  | qPop (q : QspiReq)
  /-- Q_CMD. Q_CMD (R377). -/
  | qCmd (q : QspiReq)
  /-- S_SEND. S_SEND (R377). -/
  | sSend (q : QspiReq)
  /-- S_RECV. S_RECV (R377). -/
  | sRecv (q : QspiReq)
  /-- PORT_STATUS. PORT_STATUS (R377). -/
  | portStatus (q : QspiReq)
  /-- WR_MEM. WR_MEM (R379). -/
  | wrMem (q : QspiReq)
  /-- RD_MEM. RD_MEM (R379). -/
  | rdMem (q : QspiReq)
  /-- QSPI_ABORT. CS_N rises early (R375). -/
  | qspiAbort (port : Fin 2)
  /-- RELOCK. CLK_PLLn_CMD, RELOCK (R397). -/
  | relock (a : Acc) (pll : Fin 8)
  /-- HOP. CLK_PLLn_CMD, HOP (R399). -/
  | hop (a : Acc) (pll : Fin 8) (entry : Fin 16)
  /-- STORE. CLK_PLLn_CMD, STORE (R399). -/
  | store (a : Acc) (pll : Fin 8) (entry : Fin 16)
  /-- CLEAR. CLK_PLLn_CMD, CLEAR (R399). -/
  | clear (a : Acc) (pll : Fin 8) (entry : Fin 16)
  /-- CLK_UPDATE. A write of CLK_UPDATE (R393). -/
  | clkUpdate (a : Acc) (plls : BitVec 8)
  /-- UPDATE_DONE. An output update completes (R393). -/
  | updateDone (pll : Fin 8)
  /-- PLL_LOCK. Lock is declared for a PLL (R395). -/
  | pllLock (pll : Fin 8)
  /-- LOCK_LOST. A PLL loses lock (R401). -/
  | lockLost (pll : Fin 8) (badLand : Bool)
  /-- REF_LOST. A reference is lost (R401), with the PLLs that lose lock in the same cycle. -/
  | refLost (ref : Fin 3) (slips : BitVec 8)
  /-- REF_RESTORED. A lost reference is back (R401). -/
  | refRestored (ref : Fin 3) (badLands : BitVec 8)
  /-- LOCK_TIMEOUT. Lock is not declared within 2 ms (R398). -/
  | lockTimeout (pll : Fin 8)
  /-- XO_READY. XO25 is ready (R388). -/
  | xoReady (badLands : BitVec 8)
  /-- RC_FALLBACK. XO25 is not ready 2 ms after VIN valid (R388, R391). -/
  | rcFallback (badLands : BitVec 8)
  /-- XO32_FAIL. XO32 fails (R389). -/
  | xo32Fail
  /-- TIM_NOW_READ. A read of the low or the high word of TIM_NOW (R410). -/
  | timNowRead (init : Initiator) (high : Bool)
  /-- STEER_END. The steering difference reaches 0 (R412). -/
  | steerEnd
  /-- COMPARE_WRITE. A write of the high word of TIM_CMPk (R417). -/
  | compareWrite (a : Acc) (channel : Fin 64) (value : BitVec 32)
  /-- COMPARE_MATCH. A compare channel matches (R416). -/
  | compareMatch (channel : Fin 64)
  /-- WDG_CORE_KICK. A store of a core to WDG_CORE_KICK (R419). -/
  | wdgCoreKick (core : Fin 16) (value : BitVec 32) (others : List BusWrite) (env : RegEnv)
  /-- WDG_PANEL_KICK. A write of WDG_PANEL_KICK (R419). -/
  | wdgPanelKick (a : Acc) (value : BitVec 32)
  /-- WDG_SYS_KICK. A write of WDG_SYS_KICK (R420). -/
  | wdgSysKick (a : Acc) (value : BitVec 32)
  /-- WDG_SYS_ENABLE. WDG_SYS_CFG with EN (R420). -/
  | wdgSysEnable (a : Acc) (window : BitVec 3) (timeout : BitVec 9)
  /-- WDG_WARN. A watchdog has 1/8 of its timeout left (R419): 0 to 15 the cores', 16 to 23 the panels', 24 the system's. -/
  | wdgWarn (watchdog : Fin 25)
  /-- CORE_WDG_EXPIRY. A core watchdog expires (R419), with the watchdogs that expire in the same cycle (R422). -/
  | coreWdgExpiry (core : Fin 16) (others : List (Fin 25))
  /-- PANEL_WDG_EXPIRY. A panel watchdog expires (R419). -/
  | panelWdgExpiry (panel : Fin 8) (others : List (Fin 25))
  /-- SYS_WDG_EXPIRY. The system watchdog expires (R419). -/
  | sysWdgExpiry (others : List (Fin 25))
  /-- MODULE_RESET. A watchdog's module reset passes through HOLD (R421). -/
  | moduleReset
  /-- POWER_ON_START. VIN is valid, or a reset ends: the start sequence (R115, R432). -/
  | powerOnStart (e : StartEnv)
  /-- RAIL_START_FAIL. A rail is not good within 1.5 ms of its start (R433). -/
  | railStartFail (rail : Fin 6)
  /-- RESET_N. RESET_N is recognised low, or has risen (R583). -/
  | resetN (low : Bool)
  /-- BROWN_OUT. VIN stays below 16.0 V for 10 µs (R436, R437). -/
  | brownOut
  /-- HIBERNATE_BROWN_OUT. In HIBERNATE VHOLD falls to 20 V (R439). -/
  | hibernateBrownOut
  /-- OVERVOLT. VIN stays above 82 V for 10 µs (R428). -/
  | overvolt
  /-- ILIMIT. The input current limit acts for 10 ms (R429). -/
  | ilimit
  /-- RAIL_OUT_OF_WINDOW. A rail leaves its window for 10 µs (R434). -/
  | railOutOfWindow (rail : Fin 6)
  /-- VHOLD_OK. VHOLD reaches 52 V, or falls below 48 V (R430). -/
  | vholdOk (ok : Bool)
  /-- VHOLD_ABSENT. VHOLD reaches 52 V within 1 ms, or (late) not within 2 s (R430). -/
  | vholdAbsent (late : Bool)
  /-- PHASE_ADD. VDD_CORE current, in 10 mA, rises past a boundary (R435). -/
  | phaseAdd (current : Nat)
  /-- PHASE_SHED. VDD_CORE current, in 10 mA, has stayed 2 A below a boundary (R435). -/
  | phaseShed (current : Nat)
  /-- POWER_MONITOR_SAMPLE. The 10 µs sample (R444): VIN and VHOLD in mV, the input current and the VDD_CORE current in mA, whether the current limit acts. -/
  | powerMonitorSample (vin vhold iin core : Nat) (limiting : Bool)
  /-- OVER_BUDGET. The input power average has stayed above LIMIT for 10 ms (R445). -/
  | overBudget
  /-- AON_BROWN_OUT. The always-on load has exceeded its limit in low-power mode (R441). -/
  | aonBrownOut
  /-- MODE_REQ_DOZE. AON_MODE_REQ, DOZE (R453). -/
  | modeReqDoze (a : Acc)
  /-- MODE_REQ_NAP. AON_MODE_REQ, NAP (R453). -/
  | modeReqNap (a : Acc)
  /-- MODE_REQ_HIBERNATE. AON_MODE_REQ, HIBERNATE (R453). -/
  | modeReqHibernate (a : Acc)
  /-- MODE_REQ_SAFE. AON_MODE_REQ, SAFE (R453). -/
  | modeReqSafe (a : Acc)
  /-- MODE_REQ_RUN. AON_MODE_REQ, RUN (R453). -/
  | modeReqRun (a : Acc)
  /-- DOZE_ENTRY. DOZE entry, every core halted (R455). -/
  | dozeEntry
  /-- DOZE_WAKE. DOZE ends (R455). -/
  | dozeWake
  /-- NAP_ENTRY. NAP entry (R456). -/
  | napEntry
  /-- NAP_WAKE. NAP ends (R456): the host requests held meanwhile are performed (R382). -/
  | napWake
  /-- HIBERNATE_ENTRY. HIBERNATE entry (R460): it begins, and then, its writes done, ends. -/
  | hibernateEntry
  /-- HIBERNATE_WAKE. The wake from HIBERNATE (R461). -/
  | hibernateWake (e : StartEnv)
  /-- HIBERNATE_WAKE_RETRY. A wake rail is not good within 1.5 ms (R462). -/
  | hibernateWakeRetry (rail : Fin 3)
  /-- WAKE_EVENT. An event of a wake source (R458). -/
  | wakeEvent (code : Fin 16) (idx : Nat)
  /-- TIMED_WAKE. Selvage reaches the edge before a timed target less the lead time (R457). -/
  | timedWake
  /-- WAKE_AT_REACHED. AON_WAKE_AT is reached (R466). -/
  | wakeAtReached
  /-- PROG_SIGN. THM_CMD, PROG_SIGN (R471). -/
  | progSign (a : Acc) (slot : Fin 16)
  /-- REVOKE_SIGN. THM_CMD, REVOKE_SIGN (R471). -/
  | revokeSign (a : Acc) (slot : Fin 16)
  /-- PROG_DKEY. THM_CMD, PROG_DKEY (R471). -/
  | progDkey (a : Acc) (slot : Fin 16)
  /-- REVOKE_DKEY. THM_CMD, REVOKE_DKEY (R471). -/
  | revokeDkey (a : Acc) (slot : Fin 16)
  /-- ATTEST. THM_CMD, ATTEST (R471). -/
  | attest (a : Acc)
  /-- ENROL_WRITE. SES_ENROL_CMD, WRITE (R479). -/
  | enrolWrite (a : Acc) (entry : Fin 1024)
  /-- ENROL_ENABLE. SES_ENROL_CMD, ENABLE (R479). -/
  | enrolEnable (a : Acc) (entry : Fin 1024)
  /-- ENROL_DISABLE. SES_ENROL_CMD, DISABLE (R480). -/
  | enrolDisable (a : Acc) (entry : Fin 1024)
  /-- ENROL_ERASE. SES_ENROL_CMD, ERASE (R480). -/
  | enrolErase (a : Acc) (entry : Fin 1024)
  /-- ENROL_READ. SES_ENROL_CMD, READ (R479). -/
  | enrolRead (a : Acc) (entry : Fin 1024)
  /-- HELLO. The session engine takes a HELLO frame from a port (R484): 0 to 3 PCIe, 4 and 5 quad-SPI, 8 to 23 partner. -/
  | hello (port : Fin 24) (contested : Bool)
  /-- FINISH. The session engine takes a FINISH frame (R484). -/
  | finish (port : Fin 24) (contested : Bool)
  /-- ALERT. The session engine takes an ALERT frame (R490). -/
  | alert (port : Fin 24)
  /-- DATA_FRAME. The session engine takes a DATA frame and executes its request (R487, R489). -/
  | dataFrame (port : Fin 24) (env : HostEnv) (storeBad : Bool)
  /-- HANDSHAKE_TIMEOUT. FINISH has not arrived within HS_TMO (R484). -/
  | handshakeTimeout (slot : Fin 1024)
  /-- SESSION_IDLE. No frame accepted for IDLE_S seconds (R490). -/
  | sessionIdle (slot : Fin 1024)
  /-- SES_TX_CMD. A write of SES_TX_CMD (R488). -/
  | sesTxCmd (a : Acc) (slot : Fin 1024) (len : BitVec 12)
  /-- SES_RX_FREE. A write of SES_RX_FREE (R487). -/
  | sesRxFree (a : Acc) (slot : Fin 1024) (cell : Bool)
  /-- SES_CLOSE. A write of SES_CLOSE (R490). -/
  | sesClose (a : Acc) (slot : Fin 1024)
  /-- TRANSITION. LCS_CMD, TRANSITION (R505). -/
  | transition (a : Acc) (target : BitVec 5)
  /-- PROG_TOKEN. LCS_CMD, PROG_TOKEN (R501). -/
  | progToken (a : Acc) (token : BitVec 5)
  /-- SERVICE_OPEN. LCS_CMD, SERVICE_OPEN (R510). -/
  | serviceOpen (a : Acc)
  /-- SERVICE_END. LCS_CMD, SERVICE_END (R514). -/
  | serviceEnd (a : Acc)
  /-- IDCODE. JTAG IDCODE (R515). -/
  | idcode
  /-- SAMPLE_PRELOAD. JTAG SAMPLE/PRELOAD: the bits shifted in (R515). -/
  | samplePreload (bits : BitVec 960)
  /-- EXTEST. JTAG EXTEST (R515). -/
  | extest (bits : BitVec 960)
  /-- CLAMP. JTAG CLAMP (R515). -/
  | clamp
  /-- HIGHZ. JTAG HIGHZ (R515). -/
  | highz
  /-- LC_STATUS. JTAG LC_STATUS (R515). -/
  | lcStatus
  /-- LC_TRANSITION. JTAG LC_TRANSITION (R505). -/
  | lcTransition (target : BitVec 8) (token : List (BitVec 8)) (env : RegEnv)
  /-- LC_CHALLENGE. JTAG LC_CHALLENGE (R511). -/
  | lcChallenge (panel : BitVec 8) (scope minutes : BitVec 16) (keyId : BitVec 8) (meets : List LcReq)
  /-- LC_RESPONSE. JTAG LC_RESPONSE (R512). -/
  | lcResponse (body : List (BitVec 8)) (storeBad : Bool) (meets : List LcReq)
  /-- DTMCS. JTAG DTMCS (R513). -/
  | dtmcs
  /-- DMI. JTAG DMI (R513). -/
  | dmi (op : Fin 4) (addr : Fin 128) (value : BitVec 32) (env : DmiEnv)
  /-- BYPASS. JTAG BYPASS (R515). -/
  | bypass
  /-- TRST_N. TRST_N falls (R514). -/
  | trstN
  /-- CHALLENGE_EXPIRY. The challenge of 300 s ago expires (R511). -/
  | challengeExpiry
  /-- GRANT_EXPIRY. A debug grant reaches its end (R514). -/
  | grantExpiry
  /-- SLICE_START. Fitting starts its next slice (R529). -/
  | sliceStart
  /-- SLICE_DONE. A slice ends (R522): its length in cycles, its signature, whether two units of a slice differ, an uncorrectable word met. -/
  | sliceDone (cls : Fin 8) (unit : Fin 256) (cycles : Nat) (signature : BitVec 64) (differs : Bool) (ue : Option Nat)
  /-- ROUND_START. A round starts (R530). -/
  | roundStart
  /-- WINDOW_OPEN. The armed idle window opens (R527). -/
  | windowOpen
  /-- WINDOW_CLOSE. The idle window ends (R527). -/
  | windowClose
  /-- RUN_ONE. FIT_CMD, RUN_ONE (R532). -/
  | runOne (a : Acc) (cls : BitVec 4) (unit slice : BitVec 8)
  /-- RUN_UNIT. FIT_CMD, RUN_UNIT (R532). -/
  | runUnit (a : Acc) (cls : BitVec 4) (unit : BitVec 8)
  /-- ABORT_ALL. FIT_CMD, ABORT_ALL (R532). -/
  | abortAll (a : Acc)
  /-- TEMP_SAMPLE. The 100 µs sample (R537 to R539): each sensor's reading and whether its paths differ, the local voltages in mV. -/
  | tempSample (readings : List (BitVec 16 × Bool)) (vdd : List Nat)
  /-- LOCAL_SUPPLY_FAULT. A local supply fault of a bolt (0 to 7) or cluster (8 to 11) that has lasted 1 µs (R539). -/
  | localSupplyFault (domain : Fin 12) (mv : Nat)
  /-- FAULT_LOG. A cycle of the fault collector (R540 to R543). -/
  | faultLog
  /-- FLT_ACK. A write of FLT_ACK (R545). -/
  | fltAck (a : Acc)
  /-- TICK. An edge of the time-base clock (R409). -/
  | tick
  /-- ALWAYS_ON_TICK. An edge of XO32 or RC32 (R414). -/
  | alwaysOnTick
  /-- SELVAGE_POWER_LOSS. The higher of VIN and VHOLD falls below 12 V (R430). -/
  | selvagePowerLoss
  /-- MSIX_TABLE_WRITE. A write of a DW of the MSI-X table (R370). -/
  | msixTableWrite (fn : Fin 4) (dw : Fin 256) (value : BitVec 32)
  /-- FLASH_REFRESH_SECTOR. The refresher finishes its next sector or option unit (R288). -/
  | flashRefreshSector (differs : Bool) (ecc : Ecc)
  /-- AER_ERROR. An error the PCIe endpoint detects, at its bit of the AER status register (R386). -/
  | aerError (fn : Fin 4) (uncorrectable : Bool) (cause : Fin 32)
  deriving DecidableEq, Repr

end Sys2Proof
end

