-- ==== Sys2Proof/Machine/FabricTypes.lean ====
section
/-!
DEFINITION. The plain data of the logic fabric's cells (R44 to R60): what an image sets of a LUT, a slice, a BRAM block, a DSP block and a
clock line, what their registers hold, and the events by which the loaded design's logic acts on them.
-/

namespace Sys2Proof.Machine

/-! ### What an image sets -/

/-- What a LUT serves as (R44, R46): logic, and in a memory slice a RAM or a shift register. -/
inductive LutUse where
  | logic | ram | shift
  deriving DecidableEq, Repr, Inhabited

/-- A LUT as the image sets it (R44): its use, the form SPLIT (else WHOLE), its 64 table bits, and whether FA and FB take the tile inputs DA
and DB in place of LA and LB. -/
structure LutCfg where
  kind : LutUse
  split : Bool
  table : BitVec 64
  faDirect : Bool
  fbDirect : Bool
  deriving DecidableEq, Repr, Inhabited

/-- A slice as the image sets it (R47): asynchronous set/reset (else synchronous), and what set/reset makes of each of its 16 flip-flops. -/
structure SliceCfg where
  isAsync : Bool
  srValue : BitVec 16
  deriving DecidableEq, Repr, Inhabited

/-- The modes of a BRAM block (R50). -/
inductive BramMode where
  | dual | wide | guarded | constant
  deriving DecidableEq, Repr, Inhabited

/-- What a writing port shows in the cycle in which it writes (R51). -/
inductive WriteShow where
  | old | new | keep
  deriving DecidableEq, Repr, Inhabited

/-- One port as the image sets it (R50, R51, R55): its width code (0 to 6: 36, 18, 9, 8, 4, 2, 1), its read-during-write behaviour, and whether
its output register is used. -/
structure PortCfg where
  width : Fin 7
  onWrite : WriteShow
  outReg : Bool
  deriving DecidableEq, Repr, Inhabited

/-- A BRAM block as the image sets it (R50 to R55): its mode, its ports, REPAIR, the correction register of GUARDED, and whether the block above it
in its column joins it through the depth path (R54). -/
structure BramCfg where
  mode : BramMode
  port0 : PortCfg
  port1 : PortCfg
  repair : Bool
  corrReg : Bool
  joinsUp : Bool
  deriving DecidableEq, Repr, Inhabited

/-- What the pre-adder forms (R56). -/
inductive PreOp where
  | add | sub | rsub | pass
  deriving DecidableEq, Repr, Inhabited

/-- What the accumulator stage forms (R56), with P the product. -/
inductive AccOp where
  | accPlusP | accMinusP | zPlusP | zMinusP | accPlusZ | andZ | orZ | xorZ
  deriving DecidableEq, Repr, Inhabited

/-- What the accumulator stage takes as Z (R58): the input Z, CHAIN, or CHAIN shifted right by 24 bits with sign extension. -/
inductive ZSource where
  | z | chain | chainShift
  deriving DecidableEq, Repr, Inhabited

/-- The lanes of the accumulator stage (R59): one of 48 bits, two of 24, or three of 16. -/
inductive Lanes where
  | one | two | three
  deriving DecidableEq, Repr, Inhabited

/-- A DSP block as the image sets it (R56 to R59). -/
structure DspCfg where
  pre : PreOp
  signedX : Bool
  signedY : Bool
  op : AccOp
  zFrom : ZSource
  lanes : Lanes
  useIx : Bool
  useIw : Bool
  useIy : Bool
  useIz : Bool
  usePre : Bool
  useMul : Bool
  matchWord : BitVec 48
  matchMask : BitVec 48
  deriving DecidableEq, Repr, Inhabited

/-- What drives a clock line (R60): an output of a PLL, a tap of a DLL, a fabric net, or, of a regional line, a global line divided by 1
to 8 (`by` + 1). -/
inductive LineSource where
  | pll (n : Fin 8) (output : Fin 4)
  | dll (n : Fin 16) (tap : Fin 4)
  | net
  | global (line : Fin 64) (by' : Fin 8)
  deriving DecidableEq, Repr, Inhabited

/-! ### What the cells hold -/

/-- The registers of a DSP block (R57, R59): the stage registers, ACC, and the carry-out of each lane. -/
structure Dsp where
  ix : BitVec 27
  iw : BitVec 27
  iy : BitVec 24
  iz : BitVec 48
  pre : BitVec 27
  mul : BitVec 48
  acc : BitVec 48
  laneCarry : BitVec 3
  deriving DecidableEq, Repr

def Dsp.reset : Dsp := ⟨0, 0, 0, 0, 0, 0, 0, 0⟩

/-- A BRAM port (R51, R55): what its output shows, the value of its last read, and the values on their way to the output, oldest first. -/
structure BramPort where
  out : BitVec 72
  last : BitVec 72
  pipe : List (BitVec 72)
  deriving DecidableEq, Repr

def BramPort.reset : BramPort := ⟨0, 0, []⟩

/-! ### What the loaded design does -/

/-- What a LUT and its flip-flops see at an edge of the slice clock (R44, R46): I0 to I5, the tile inputs DA and DB, and where the LUT serves as
RAM or shift register the write or shift enable, the write address, and the data for LA and LB. -/
structure LutIn where
  i : BitVec 6
  da : Bool
  db : Bool
  we : Bool
  wa : BitVec 6
  dataA : Bool
  dataB : Bool
  deriving DecidableEq, Repr

/-- A cycle of a BRAM port (R50): which of the joined blocks it addresses (R54), the word address in the port's view, whether it writes, the
data with its parity bits above, the byte-lane enables of WIDE, and the inputs FLIP1 and FLIP2 (R53). -/
structure BramCycle where
  depth : Fin 4
  addr : Nat
  isWrite : Bool
  data : BitVec 72
  lanes : BitVec 9
  flip1 : Bool
  flip2 : Bool
  deriving DecidableEq, Repr

/-- What the logic of the loaded design does to a cell: an edge of a slice's clock with its clock enable and set/reset line, a rise of an
asynchronous set/reset line, the inputs of a carry chain from a slice upward (propagate and generate of each slice), a cycle of one port or
both of a BRAM block, an edge of a DSP block's clock, a rising edge of what drives a clock line, a value on a boundary output. -/
inductive FabricEvent where
  | slice (n : Fin 98304) (enable setReset : Bool) (luts : List LutIn)
  | setReset (n : Fin 98304)
  | carry (n : Fin 98304) (carryIn : Bool) (stages : List (BitVec 8 × BitVec 8))
  | bram (block : Fin 3072) (port0 port1 : Option BramCycle)
  | dsp (block : Fin 2048) (x w : BitVec 27) (y : BitVec 24) (z : BitVec 48)
  | clockEdge (source : LineSource)
  | netEdge (line : Fin 320)
  | boundary (region : Fin 128) (cell : Fin 1536) (value : Bool)
  deriving DecidableEq, Repr

end Sys2Proof.Machine
end

