-- ==== Sys2Proof/Config.lean ====
section
/-!
DEFINITION. What an implementation fixes and what the spec leaves free: constants with no body, of which nothing can be
proved but that they are the same each time. The named cryptographic functions (R87, R94, R95), the digest the boot ROM
holds, the module revision, the boot ROM's bytes, what the loaded design binds, floating-point results, and the free values
of State.fresh.
-/

namespace Sys2Proof

/-- A value that nothing in the spec fixes; the argument is State.fresh, which the model advances at each use. -/
opaque Config.freeValue : Nat → BitVec 64

/-- A frame that nothing in the spec fixes, by State.fresh: what a plane slot with more bits in error than can be corrected gives (R158). -/
opaque Config.freeFrame : Nat → BitVec 4096

/-- The module revision, ID[7:0] of the SEAM page (R15). -/
opaque Config.moduleRevision : BitVec 8

/-- The geometry digest held in boot ROM (R87). -/
opaque Config.geometryHash : BitVec 384

/-- SHA-384 (R86). The value is a byte string, read as a little-endian number. -/
opaque Config.sha384 : List Byte → BitVec 384

/-- Whether an ECDSA P-384 signature verifies: public key (X then Y), digest, r, s (R94). -/
opaque Config.ecdsaVerify : List Byte → BitVec 384 → List Byte → List Byte → Bool

/-- Byte i of the AES-256-GCM key stream of a key and an IV (R95, R482). -/
opaque Config.gcmStream : BitVec 256 → BitVec 96 → Nat → Byte

/-- The AES-256-GCM tag of a key, an IV, additional data and a ciphertext (R95, R482). -/
opaque Config.gcmTag : BitVec 256 → BitVec 96 → List Byte → List Byte → BitVec 128

/-- ECDSA P-384 signing with the device key, whose private part never leaves Thimble: r and s of a digest. -/
opaque Config.deviceSign : BitVec 384 → List Byte

/-- HKDF-SHA384 (RFC 5869; R471, R483): input keying material, salt, info, length. -/
opaque Config.hkdf : List Byte → List Byte → List Byte → Nat → List Byte

/-- The ECDH P-384 secret of the device private key and a public key (R471). -/
opaque Config.ecdhDevice : List Byte → List Byte

/-- The n-th ephemeral key Thimble makes: its public key (X then Y) and the ECDH secret it gives with a partner's (R483). -/
opaque Config.ephemeralKey : Nat → List Byte
opaque Config.ephemeralSecret : Nat → List Byte → List Byte

/-- The n-th nonce of Thimble's random source. -/
opaque Config.nonce : Nat → BitVec 256

/-- Whether 96 bytes, X then Y, are a point on P-384 (R479). -/
opaque Config.onCurve : List Byte → Bool

/-- A byte of the boot ROM (R17). -/
opaque Config.bootRom : Nat → Byte

/-- The signature boot ROM expects of a slice of Fitting: class, unit, slice (R522). -/
opaque Config.fitExpected : Nat → Nat → Nat → BitVec 64

/-- Whether the image in the latches of a region implements the region's window target port (R70): from the region's
boundary and clocking frames 472 to 479. -/
opaque Config.tportImplemented : List (BitVec 4096) → Bool

/-- Whether the image binds the region's parameter capture unit to a clock (R68), from the same frames. -/
opaque Config.captureBound : List (BitVec 4096) → Bool

/-- The observation words the region drives (R69), from the same frames: bit n for FAB_OBSn. -/
opaque Config.obsDriven : List (BitVec 4096) → BitVec 64

/-! The layout of a frame is not in the source: what the image sets of a cell is a free function of the frames that R43 gives the cell. -/

/-- The LUT at a place (0 to 511: 64 x tile + 8 x slice + LUT) of a tile column, of the column's 20 frames (R43, R44, R46). -/
opaque Config.lutCfg : List (BitVec 4096) → Nat → Machine.LutCfg

/-- The slice at a place (0 to 63) of a tile column, of the column's frames (R47). -/
opaque Config.sliceCfg : List (BitVec 4096) → Nat → Machine.SliceCfg

/-- The initial value of a flip-flop at a place (0 to 1,023) of a tile column, of the column's frames (R47). -/
opaque Config.ffInit : List (BitVec 4096) → Nat → Bool

/-- Row n (0 to 511) of a BRAM block's content and parity, of the block's 9 frames (R43). -/
opaque Config.bramRow : List (BitVec 4096) → Nat → BitVec 72

/-- The settings of BRAM block k of a region (R50 to R55), of the region's 480 frames. -/
opaque Config.bramCfg : List (BitVec 4096) → Nat → Machine.BramCfg

/-- A DSP block, of its frame (R43, R56 to R59). -/
opaque Config.dspCfg : BitVec 4096 → Machine.DspCfg

/-- What drives regional line 2k + n of a bolt, from the boundary and clocking frames of the region at position k (R60). -/
opaque Config.regionalSource : List (BitVec 4096) → Fin 2 → Machine.LineSource

/-- What drives an input of the buffer of a global line (R60, R63), 0 or (true) 1, from the boundary and clocking frames of the regions. -/
opaque Config.globalSource : List (BitVec 4096) → Nat → Bool → Machine.LineSource

/-- The isolation constant of a boundary output of a region, from its boundary frames (R80); none where the image sets none. -/
opaque Config.isoConstant : List (BitVec 4096) → Nat → Option Bool

/-- What the loaded design drives on a boundary output from its region's release on, until it changes it: from the region's frames (R80). -/
opaque Config.boundaryStart : List (BitVec 4096) → Nat → Bool

/-- What the logic of the loaded design does to its cells within one tick (R44 to R60), by State.fresh. -/
opaque Config.fabricActivity : Nat → List Machine.FabricEvent

/-- The value the loaded design presents for an observation word at a time (R69). -/
opaque Config.obsValue : Nat → Nat → Word

/-- The flip-flop carry slots and the BRAM carry words marked in a region's frames 472 to 479 (R128). -/
opaque Config.carryFf : List (BitVec 4096) → List Nat
/-- The BRAM carry words marked in a region's frames 472 to 479 (R128). -/
opaque Config.carryBram : List (BitVec 4096) → List Nat

/-- The flip-flop of its region (0 to 12,287) that a carry slot stands for, from the region's frames 472 to 479 (R128). -/
opaque Config.carryFfAt : List (BitVec 4096) → Nat → Nat
/-- The BRAM block of its region and the word of the block's 1K x 36 view that a BRAM carry word stands for, from the same frames (R128). -/
opaque Config.carryBramAt : List (BitVec 4096) → Nat → Nat × Nat

/-- What the loaded design drives on a pin at a time: output enable and level (R323). -/
opaque Config.fabricPin : Nat → Nat → Bool × Bool

/-- The level of a pad that nothing defines (floating, or driven against the module's own output, R330), by time. -/
opaque Config.floatPad : Nat → Nat → Bool

/-- What an image (its header) gives a pin (R325): the driving region, DRIVE, SLEW, OD and PULL as the low byte of
PIN_CFG, and whether its pair is declared LVDS. -/
opaque Config.pinRegion : BitVec 4096 → Nat → Option (Fin 127)
/-- The fields DRIVE, SLEW, OD and PULL an image gives a pin, in the places of PIN_CFG (R325). -/
opaque Config.pinCfg : BitVec 4096 → Nat → BitVec 8
/-- Whether an image declares a pin's pair as LVDS (R325). -/
opaque Config.pinLvds : BitVec 4096 → Nat → Bool

/-- A byte of Bobbin's save area, whose format the spec does not give (R244): by flush and offset. -/
opaque Config.saveByte : Nat → Nat → Byte

/-- What mtval shows of an illegal instruction (the RISC-V privileged ISA leaves it to the implementation): by its bits. -/
opaque Config.illegalTval : Nat → DWord

/-- What mtval shows of a breakpoint: zero or the address, by implementation. -/
opaque Config.ebreakTval : DWord → DWord

/-- How many triggers a hart has (R513 names triggers, not their number). -/
opaque Config.triggerCount : Nat

end Sys2Proof
end

