-- ==== Sys2Proof/Machine/RegMap.lean ====
section
/-!
DEFINITION. The register map: the address of each register of the pages, as the distance from 0x6000_0000, and for
each page its rows (offset, count, stride, the masks of the access codes of R9, the reset value), from the register
tables of the chapters. A 64-bit register has two rows, its low and its high word (R7).
-/

namespace Sys2Proof.Machine

/-- One row of a page's register table: `count` registers from `off`, `stride` apart, with the bits of each access
code (R9) and the reset value. -/
structure RegRow where
  off : Nat
  count : Nat
  stride : Nat
  rw : Nat
  rws : Nat
  w1c : Nat
  w1s : Nat
  wo : Nat
  ro : Nat
  rst : Nat
  deriving DecidableEq, Repr

/-- SEAM_COMMIT. -/
def Reg.SEAM_COMMIT : Nat := 0x40
/-- SEAM_STAGE. -/
def Reg.SEAM_STAGE : Nat := 0x44
/-- SEAM_RESULT. -/
def Reg.SEAM_RESULT : Nat := 0x48
/-- SEAM_AT. -/
def Reg.SEAM_AT : Nat := 0x50
/-- SEAM_GEN. -/
def Reg.SEAM_GEN : Nat := 0x58
/-- SEAM_ARB. -/
def Reg.SEAM_ARB : Nat := 0x5c
/-- SEAM_EPOCH_TIME. -/
def Reg.SEAM_EPOCH_TIME : Nat := 0x60
/-- SEAM_SNAP. -/
def Reg.SEAM_SNAP : Nat := 0x70
/-- SEAM_SNAP_STATUS. -/
def Reg.SEAM_SNAP_STATUS : Nat := 0x74
/-- SEAM_SNAP_TIME. -/
def Reg.SEAM_SNAP_TIME : Nat := 0x78
/-- SEAM_SNAP_MASK0. -/
def Reg.SEAM_SNAP_MASK0 : Nat := 0x80
/-- SEAM_SNAP_MASK1. -/
def Reg.SEAM_SNAP_MASK1 : Nat := 0x84
/-- SEAM_SNAP_MASK2. -/
def Reg.SEAM_SNAP_MASK2 : Nat := 0x88
/-- FAB_WIN_CFG. -/
def Reg.FAB_WIN_CFG : Nat := 0xb040
/-- FAB_WIN_ERR. -/
def Reg.FAB_WIN_ERR : Nat := 0xb044
/-- FAB_WIN_ERR_ADDR. -/
def Reg.FAB_WIN_ERR_ADDR : Nat := 0xb048
/-- FAB_ISO. -/
def Reg.FAB_ISO (k : Nat) : Nat := 0xb050 + 4 * k
/-- FAB_BOLT_OFF. -/
def Reg.FAB_BOLT_OFF : Nat := 0xb060
/-- FAB_ECC_CNT. -/
def Reg.FAB_ECC_CNT : Nat := 0xb064
/-- FAB_ECC_LAST. -/
def Reg.FAB_ECC_LAST : Nat := 0xb068
/-- FAB_PP_DISCARD. -/
def Reg.FAB_PP_DISCARD : Nat := 0xb070
/-- FAB_PARAM. -/
def Reg.FAB_PARAM (k : Nat) : Nat := 0xb100 + 4 * k
/-- FAB_OBS. -/
def Reg.FAB_OBS (k : Nat) : Nat := 0xb200 + 4 * k
/-- PAT_CMD. -/
def Reg.PAT_CMD : Nat := 0x8040
/-- PAT_ACTIVE_PLANE. -/
def Reg.PAT_ACTIVE_PLANE : Nat := 0x8044
/-- PAT_SRC_ADDR. -/
def Reg.PAT_SRC_ADDR : Nat := 0x8048
/-- PAT_SRC_LEN. -/
def Reg.PAT_SRC_LEN : Nat := 0x8050
/-- PAT_ERR. -/
def Reg.PAT_ERR : Nat := 0x8054
/-- PAT_PROGRESS. -/
def Reg.PAT_PROGRESS : Nat := 0x8058
/-- PAT_SWAP_AT. -/
def Reg.PAT_SWAP_AT : Nat := 0x8060
/-- PAT_CARRY_FF. -/
def Reg.PAT_CARRY_FF : Nat := 0x8068
/-- PAT_CARRY_BRAM. -/
def Reg.PAT_CARRY_BRAM : Nat := 0x806c
/-- PAT_CARRY_UNMATCHED. -/
def Reg.PAT_CARRY_UNMATCHED : Nat := 0x8070
/-- PAT_LAST_OUTAGE. -/
def Reg.PAT_LAST_OUTAGE : Nat := 0x8074
/-- PAT_PLANE_SVN. -/
def Reg.PAT_PLANE_SVN : Nat := 0x8080
/-- PAT_PLANE_CYCLES_A. -/
def Reg.PAT_PLANE_CYCLES_A : Nat := 0x8084
/-- PAT_PLANE_CYCLES_B. -/
def Reg.PAT_PLANE_CYCLES_B : Nat := 0x8088
/-- PAT_PLANE_CYCLES_HEM. -/
def Reg.PAT_PLANE_CYCLES_HEM : Nat := 0x808c
/-- PAT_BUILD_A. -/
def Reg.PAT_BUILD_A : Nat := 0x8090
/-- PAT_BUILD_B. -/
def Reg.PAT_BUILD_B : Nat := 0x8098
/-- PAT_BUILD_HEM. -/
def Reg.PAT_BUILD_HEM : Nat := 0x80a0
/-- BAS_CMD. -/
def Reg.BAS_CMD : Nat := 0x9040
/-- BAS_HELD. -/
def Reg.BAS_HELD (k : Nat) : Nat := 0x9060 + 4 * k
/-- BAS_BASTED. -/
def Reg.BAS_BASTED (k : Nat) : Nat := 0x9070 + 4 * k
/-- BAS_BUILD. -/
def Reg.BAS_BUILD : Nat := 0x9080
/-- OVL_CFG. -/
def Reg.OVL_CFG : Nat := 0xa040
/-- OVL_UPSET_LAST. -/
def Reg.OVL_UPSET_LAST : Nat := 0xa044
/-- OVL_UPSET_TIME. -/
def Reg.OVL_UPSET_TIME : Nat := 0xa048
/-- OVL_CNT_NONE. -/
def Reg.OVL_CNT_NONE : Nat := 0xa050
/-- OVL_CNT_ESS. -/
def Reg.OVL_CNT_ESS : Nat := 0xa054
/-- OVL_CNT_CRIT. -/
def Reg.OVL_CNT_CRIT : Nat := 0xa058
/-- OVL_CNT_UNCORR. -/
def Reg.OVL_CNT_UNCORR : Nat := 0xa05c
/-- OVL_SELF_ERR. -/
def Reg.OVL_SELF_ERR : Nat := 0xa060
/-- OVL_REF_ERR. -/
def Reg.OVL_REF_ERR : Nat := 0xa064
/-- OVL_SWEEP. -/
def Reg.OVL_SWEEP : Nat := 0xa068
/-- OVL_SWEEP_COUNT. -/
def Reg.OVL_SWEEP_COUNT : Nat := 0xa06c
/-- OVL_REFRESH_A. -/
def Reg.OVL_REFRESH_A : Nat := 0xa070
/-- OVL_REFRESH_B. -/
def Reg.OVL_REFRESH_B : Nat := 0xa074
/-- OVL_REFRESH_HEM. -/
def Reg.OVL_REFRESH_HEM : Nat := 0xa078
/-- OVL_REFRESH_TIME. -/
def Reg.OVL_REFRESH_TIME : Nat := 0xa080
/-- OVL_SPARE. -/
def Reg.OVL_SPARE : Nat := 0xa088
/-- OVL_PLANE_DAMAGED. -/
def Reg.OVL_PLANE_DAMAGED : Nat := 0xa08c
/-- OVL_KNOWN_BAD. -/
def Reg.OVL_KNOWN_BAD : Nat := 0xa090
/-- OVL_INJECT. -/
def Reg.OVL_INJECT : Nat := 0xa0a0
/-- CORE_RUN. -/
def Reg.CORE_RUN (c : Nat) : Nat := 0x10040 + c * 0x1000
/-- CORE_BOOT_PC. -/
def Reg.CORE_BOOT_PC (c : Nat) : Nat := 0x10048 + c * 0x1000
/-- CORE_MSIP. -/
def Reg.CORE_MSIP (c : Nat) : Nat := 0x10050 + c * 0x1000
/-- CORE_MTIMECMP. -/
def Reg.CORE_MTIMECMP (c : Nat) : Nat := 0x10058 + c * 0x1000
/-- CORE_EXT_EN. -/
def Reg.CORE_EXT_EN (c : Nat) (k : Nat) : Nat := 0x10060 + c * 0x1000 + 4 * k
/-- CORE_EXT_PEND. -/
def Reg.CORE_EXT_PEND (c : Nat) (k : Nat) : Nat := 0x10070 + c * 0x1000 + 4 * k
/-- CORE_EXT_CLAIM. -/
def Reg.CORE_EXT_CLAIM (c : Nat) : Nat := 0x10080 + c * 0x1000
/-- CORE_FAULT. -/
def Reg.CORE_FAULT (c : Nat) : Nat := 0x10084 + c * 0x1000
/-- CORE_FAULT_ADDR. -/
def Reg.CORE_FAULT_ADDR (c : Nat) : Nat := 0x10088 + c * 0x1000
/-- CORE_ECC. -/
def Reg.CORE_ECC (c : Nat) : Nat := 0x10090 + c * 0x1000
/-- CORE_ICINV. -/
def Reg.CORE_ICINV (c : Nat) : Nat := 0x10094 + c * 0x1000
/-- CORE_CLUSTER_OFF. -/
def Reg.CORE_CLUSTER_OFF (c : Nat) : Nat := 0x100a0 + c * 0x1000
/-- BOB_CFG. -/
def Reg.BOB_CFG : Nat := 0x20040
/-- BOB_TCMD. -/
def Reg.BOB_TCMD : Nat := 0x20044
/-- BOB_TARG. -/
def Reg.BOB_TARG : Nat := 0x20048
/-- BOB_TRES. -/
def Reg.BOB_TRES : Nat := 0x20050
/-- BOB_MAKE_READY. -/
def Reg.BOB_MAKE_READY : Nat := 0x20060
/-- BOB_CANCEL. -/
def Reg.BOB_CANCEL : Nat := 0x20064
/-- BOB_OP_RESULT. -/
def Reg.BOB_OP_RESULT : Nat := 0x20068
/-- BOB_THREAD_SEL. -/
def Reg.BOB_THREAD_SEL : Nat := 0x20070
/-- BOB_THREAD_INFO. -/
def Reg.BOB_THREAD_INFO : Nat := 0x20074
/-- BOB_READY_CNT. -/
def Reg.BOB_READY_CNT : Nat := 0x20078
/-- BOB_THREADS. -/
def Reg.BOB_THREADS : Nat := 0x2007c
/-- BOB_FP. -/
def Reg.BOB_FP : Nat := 0x20080
/-- BOB_FP_BOUND. -/
def Reg.BOB_FP_BOUND : Nat := 0x20084
/-- BOB_CACHE. -/
def Reg.BOB_CACHE : Nat := 0x20088
/-- BOB_CACHE_MISS. -/
def Reg.BOB_CACHE_MISS : Nat := 0x2008c
/-- BOB_TIMERS. -/
def Reg.BOB_TIMERS : Nat := 0x20090
/-- BOB_DISCARD_CNT. -/
def Reg.BOB_DISCARD_CNT : Nat := 0x20094
/-- BOB_MERGE_CNT. -/
def Reg.BOB_MERGE_CNT : Nat := 0x20098
/-- BOB_OBJ_CMD. -/
def Reg.BOB_OBJ_CMD : Nat := 0x200a0
/-- BOB_OBJ_DATA. -/
def Reg.BOB_OBJ_DATA : Nat := 0x200a8
/-- BOB_LATENCY. -/
def Reg.BOB_LATENCY : Nat := 0x200b0
/-- BOB_BIND_SEL. -/
def Reg.BOB_BIND_SEL : Nat := 0x200c0
/-- BOB_BIND. -/
def Reg.BOB_BIND : Nat := 0x200c8
/-- BOB_ARB. -/
def Reg.BOB_ARB : Nat := 0x200d0
/-- BOB_ARB_LOSERS. -/
def Reg.BOB_ARB_LOSERS : Nat := 0x200d4
/-- BOB_ARB_CNT. -/
def Reg.BOB_ARB_CNT : Nat := 0x200d8
/-- BOB_EVT_MERGED. -/
def Reg.BOB_EVT_MERGED : Nat := 0x200dc
/-- BOB_EVT_LOST. -/
def Reg.BOB_EVT_LOST : Nat := 0x200e0
/-- SPL_CFG. -/
def Reg.SPL_CFG : Nat := 0x21040
/-- SPL_SEARCH_CFG. -/
def Reg.SPL_SEARCH_CFG : Nat := 0x21044
/-- SPL_SAVE_BASE. -/
def Reg.SPL_SAVE_BASE : Nat := 0x21048
/-- SPL_USED. -/
def Reg.SPL_USED : Nat := 0x21050
/-- SPL_BLOCKS. -/
def Reg.SPL_BLOCKS : Nat := 0x21054
/-- SPL_STALE. -/
def Reg.SPL_STALE : Nat := 0x21058
/-- SPL_OVERFLOW. -/
def Reg.SPL_OVERFLOW : Nat := 0x2105c
/-- SPL_REFUSED. -/
def Reg.SPL_REFUSED : Nat := 0x21060
/-- SPL_SPILLS. -/
def Reg.SPL_SPILLS : Nat := 0x21064
/-- SPL_REFILLS. -/
def Reg.SPL_REFILLS : Nat := 0x21068
/-- SPL_SEARCH_MISS. -/
def Reg.SPL_SEARCH_MISS : Nat := 0x2106c
/-- SPL_STALLS. -/
def Reg.SPL_STALLS : Nat := 0x21070
/-- SPL_ERR. -/
def Reg.SPL_ERR : Nat := 0x21074
/-- SPL_FLUSH_TIME. -/
def Reg.SPL_FLUSH_TIME : Nat := 0x21078
/-- MEM_CFG. -/
def Reg.MEM_CFG : Nat := 0x22040
/-- MEM_SRAM_ECC. -/
def Reg.MEM_SRAM_ECC : Nat := 0x22044
/-- MEM_DRAM_ECC. -/
def Reg.MEM_DRAM_ECC : Nat := 0x22048
/-- MEM_ERR. -/
def Reg.MEM_ERR : Nat := 0x22050
/-- MEM_ERR_ADDR. -/
def Reg.MEM_ERR_ADDR : Nat := 0x22058
/-- MEM_ERR_TIME. -/
def Reg.MEM_ERR_TIME : Nat := 0x22060
/-- MEM_SCRUB. -/
def Reg.MEM_SCRUB : Nat := 0x22068
/-- MEM_INIT. -/
def Reg.MEM_INIT : Nat := 0x2206c
/-- MEM_DRAM_LOAD. -/
def Reg.MEM_DRAM_LOAD : Nat := 0x22070
/-- FLS_CFG. -/
def Reg.FLS_CFG : Nat := 0x24040
/-- FLS_DQ_BASE. -/
def Reg.FLS_DQ_BASE : Nat := 0x24048
/-- FLS_DQ_SIZE. -/
def Reg.FLS_DQ_SIZE : Nat := 0x24050
/-- FLS_DQ_HEAD. -/
def Reg.FLS_DQ_HEAD : Nat := 0x24054
/-- FLS_DQ_TAIL. -/
def Reg.FLS_DQ_TAIL : Nat := 0x24058
/-- FLS_DQ_CTRL. -/
def Reg.FLS_DQ_CTRL : Nat := 0x2405c
/-- FLS_DQ_ERR. -/
def Reg.FLS_DQ_ERR : Nat := 0x24060
/-- FLS_SUSPEND. -/
def Reg.FLS_SUSPEND : Nat := 0x24064
/-- FLS_BANK_STATE. -/
def Reg.FLS_BANK_STATE : Nat := 0x24068
/-- FLS_ARB. -/
def Reg.FLS_ARB : Nat := 0x2406c
/-- FLS_ECC. -/
def Reg.FLS_ECC : Nat := 0x24070
/-- FLS_ERR_ADDR. -/
def Reg.FLS_ERR_ADDR : Nat := 0x24078
/-- FLS_SPARE. -/
def Reg.FLS_SPARE (k : Nat) : Nat := 0x24080 + 4 * k
/-- FLS_REFRESH_HOLD. -/
def Reg.FLS_REFRESH_HOLD : Nat := 0x24088
/-- FLS_REFRESH. -/
def Reg.FLS_REFRESH : Nat := 0x2408c
/-- FLS_SLOT. -/
def Reg.FLS_SLOT : Nat := 0x24090
/-- FLS_CYC_SEL. -/
def Reg.FLS_CYC_SEL : Nat := 0x24094
/-- FLS_CYC. -/
def Reg.FLS_CYC : Nat := 0x24098
/-- FLS_WP. -/
def Reg.FLS_WP (k : Nat) : Nat := 0x24100 + 4 * k
/-- QUE_ARB. -/
def Reg.QUE_ARB (p : Nat) : Nat := 0x28040 + p * 0x1000
/-- QUE_ARB_LOSERS. -/
def Reg.QUE_ARB_LOSERS (p : Nat) : Nat := 0x28044 + p * 0x1000
/-- QUE_ARB_CNT. -/
def Reg.QUE_ARB_CNT (p : Nat) : Nat := 0x28048 + p * 0x1000
/-- QUE_CFG. -/
def Reg.QUE_CFG (q : Nat) : Nat := 0x28100 + q / 16 * 0x1000 + q % 16 * 0x40
/-- QUE_THRESH. -/
def Reg.QUE_THRESH (q : Nat) : Nat := 0x28104 + q / 16 * 0x1000 + q % 16 * 0x40
/-- QUE_OCC. -/
def Reg.QUE_OCC (q : Nat) : Nat := 0x28108 + q / 16 * 0x1000 + q % 16 * 0x40
/-- QUE_STATE. -/
def Reg.QUE_STATE (q : Nat) : Nat := 0x2810c + q / 16 * 0x1000 + q % 16 * 0x40
/-- QUE_CMD. -/
def Reg.QUE_CMD (q : Nat) : Nat := 0x28110 + q / 16 * 0x1000 + q % 16 * 0x40
/-- QUE_ERR. -/
def Reg.QUE_ERR (q : Nat) : Nat := 0x28114 + q / 16 * 0x1000 + q % 16 * 0x40
/-- QUE_PUSHES. -/
def Reg.QUE_PUSHES (q : Nat) : Nat := 0x28118 + q / 16 * 0x1000 + q % 16 * 0x40
/-- QUE_POPS. -/
def Reg.QUE_POPS (q : Nat) : Nat := 0x2811c + q / 16 * 0x1000 + q % 16 * 0x40
/-- QUE_REFUSED. -/
def Reg.QUE_REFUSED (q : Nat) : Nat := 0x28120 + q / 16 * 0x1000 + q % 16 * 0x40
/-- QUE_RESETS. -/
def Reg.QUE_RESETS (q : Nat) : Nat := 0x28124 + q / 16 * 0x1000 + q % 16 * 0x40
/-- QUE_PTRS. -/
def Reg.QUE_PTRS (q : Nat) : Nat := 0x28128 + q / 16 * 0x1000 + q % 16 * 0x40
/-- QUE_MARK. -/
def Reg.QUE_MARK (q : Nat) : Nat := 0x2812c + q / 16 * 0x1000 + q % 16 * 0x40
/-- PIN_OUT. -/
def Reg.PIN_OUT (b : Nat) : Nat := 0x30040 + b * 0x1000
/-- PIN_OE. -/
def Reg.PIN_OE (b : Nat) : Nat := 0x30048 + b * 0x1000
/-- PIN_OUT_SET. -/
def Reg.PIN_OUT_SET (b : Nat) : Nat := 0x30050 + b * 0x1000
/-- PIN_OUT_CLR. -/
def Reg.PIN_OUT_CLR (b : Nat) : Nat := 0x30058 + b * 0x1000
/-- PIN_PAD. -/
def Reg.PIN_PAD (b : Nat) : Nat := 0x30060 + b * 0x1000
/-- PIN_INT_RAW. -/
def Reg.PIN_INT_RAW (b : Nat) : Nat := 0x30068 + b * 0x1000
/-- PIN_INT_EN. -/
def Reg.PIN_INT_EN (b : Nat) : Nat := 0x30070 + b * 0x1000
/-- PIN_MISMATCH. -/
def Reg.PIN_MISMATCH (b : Nat) : Nat := 0x30078 + b * 0x1000
/-- PIN_STRAP. -/
def Reg.PIN_STRAP (b : Nat) : Nat := 0x30080 + b * 0x1000
/-- PIN_WAKE. -/
def Reg.PIN_WAKE (b : Nat) : Nat := 0x30084 + b * 0x1000
/-- PIN_RAIL. -/
def Reg.PIN_RAIL (b : Nat) : Nat := 0x30088 + b * 0x1000
/-- PIN_MUX. -/
def Reg.PIN_MUX (b : Nat) (k : Nat) : Nat := 0x30100 + b * 0x1000 + 4 * k
/-- PIN_CFG. -/
def Reg.PIN_CFG (b : Nat) (k : Nat) : Nat := 0x30200 + b * 0x1000 + 4 * k
/-- PIN_MUX_NEXT. -/
def Reg.PIN_MUX_NEXT (b : Nat) (k : Nat) : Nat := 0x30300 + b * 0x1000 + 4 * k
/-- PLT_TTE_ARM. -/
def Reg.PLT_TTE_ARM : Nat := 0x3c040
/-- PLT_TTE_CANCEL. -/
def Reg.PLT_TTE_CANCEL : Nat := 0x3c044
/-- PLT_TTE_FIRED. -/
def Reg.PLT_TTE_FIRED : Nat := 0x3c048
/-- PLT_TTE_LATE. -/
def Reg.PLT_TTE_LATE : Nat := 0x3c04c
/-- PLT_GCFG. -/
def Reg.PLT_GCFG (g : Nat) : Nat := 0x3c100 + g * 0x40
/-- PLT_GPERIOD. -/
def Reg.PLT_GPERIOD (g : Nat) : Nat := 0x3c104 + g * 0x40
/-- PLT_GSAMPLE. -/
def Reg.PLT_GSAMPLE (g : Nat) : Nat := 0x3c108 + g * 0x40
/-- PLT_GSTART. -/
def Reg.PLT_GSTART (g : Nat) : Nat := 0x3c110 + g * 0x40
/-- PLT_GCMD. -/
def Reg.PLT_GCMD (g : Nat) : Nat := 0x3c118 + g * 0x40
/-- PLT_GSTAT. -/
def Reg.PLT_GSTAT (g : Nat) : Nat := 0x3c11c + g * 0x40
/-- PLT_GFRAMES. -/
def Reg.PLT_GFRAMES (g : Nat) : Nat := 0x3c120 + g * 0x40
/-- PLT_GFRAME_T. -/
def Reg.PLT_GFRAME_T (g : Nat) : Nat := 0x3c128 + g * 0x40
/-- PLT_TTE_AT. -/
def Reg.PLT_TTE_AT (k : Nat) : Nat := 0x3c300 + k * 0x10
/-- PLT_TTE_CTL. -/
def Reg.PLT_TTE_CTL (k : Nat) : Nat := 0x3c308 + k * 0x10
/-- PLT_CAP. -/
def Reg.PLT_CAP (k : Nat) : Nat := 0x3c400 + 4 * k
/-- PLT_TBL. -/
def Reg.PLT_TBL (k : Nat) : Nat := 0x3c800 + 4 * k
/-- PNL_HOLD. -/
def Reg.PNL_HOLD : Nat := 0x1040
/-- PNL_RESET. -/
def Reg.PNL_RESET : Nat := 0x1044
/-- PNL_ERR. -/
def Reg.PNL_ERR : Nat := 0x1048
/-- PNL_ERR_ADDR. -/
def Reg.PNL_ERR_ADDR : Nat := 0x1050
/-- PNL_SELF. -/
def Reg.PNL_SELF : Nat := 0x1058
/-- PNL_INIT. -/
def Reg.PNL_INIT (k : Nat) : Nat := 0x1060 + 4 * k
/-- PNL_DWIN. -/
def Reg.PNL_DWIN (k : Nat) : Nat := 0x1080 + 4 * k
/-- PNL_MOVE_ERR. -/
def Reg.PNL_MOVE_ERR : Nat := 0x10a0
/-- PNL_OWN. -/
def Reg.PNL_OWN (k : Nat) : Nat := 0x1100 + 4 * k
/-- HST_PCIE_CNT. -/
def Reg.HST_PCIE_CNT : Nat := 0x40040
/-- HST_PCIE_AER. -/
def Reg.HST_PCIE_AER : Nat := 0x40044
/-- HST_QSPI_CFG. -/
def Reg.HST_QSPI_CFG (k : Nat) : Nat := 0x40050 + 4 * k
/-- HST_QSPI_SRC. -/
def Reg.HST_QSPI_SRC (q k : Nat) : Nat := 0x40060 + q * 0x10 + 4 * k
/-- HST_QSPI_ERR. -/
def Reg.HST_QSPI_ERR (k : Nat) : Nat := 0x40080 + 4 * k
/-- HST_MBX. -/
def Reg.HST_MBX : Nat := 0x40090
/-- HST_VEC. -/
def Reg.HST_VEC (f v : Nat) : Nat := 0x40400 + f * 0x100 + v * 4
/-- CLK_UPDATE. -/
def Reg.CLK_UPDATE : Nat := 0x4040
/-- CLK_ERR. -/
def Reg.CLK_ERR : Nat := 0x4044
/-- CLK_DLL_EN. -/
def Reg.CLK_DLL_EN : Nat := 0x4080
/-- CLK_DLL_LOCKED. -/
def Reg.CLK_DLL_LOCKED : Nat := 0x4084
/-- CLK_DLL_PHASE. -/
def Reg.CLK_DLL_PHASE (d : Nat) : Nat := 0x40c0 + 4 * d
/-- CLK_PLL_CFG. -/
def Reg.CLK_PLL_CFG (n : Nat) : Nat := 0x4100 + n * 0x40
/-- CLK_PLL_FRAC. -/
def Reg.CLK_PLL_FRAC (n : Nat) : Nat := 0x4104 + n * 0x40
/-- CLK_PLL_CMD. -/
def Reg.CLK_PLL_CMD (n : Nat) : Nat := 0x4108 + n * 0x40
/-- CLK_PLL_STATE. -/
def Reg.CLK_PLL_STATE (n : Nat) : Nat := 0x410c + n * 0x40
/-- CLK_PLL_CTRLV. -/
def Reg.CLK_PLL_CTRLV (n : Nat) : Nat := 0x4110 + n * 0x40
/-- CLK_PLL_ACT. -/
def Reg.CLK_PLL_ACT (n : Nat) : Nat := 0x4114 + n * 0x40
/-- CLK_PLL_OUT. -/
def Reg.CLK_PLL_OUT (n k : Nat) : Nat := 0x4120 + n * 0x40 + 4 * k
/-- CLK_PLL_CEIL. -/
def Reg.CLK_PLL_CEIL (n k : Nat) : Nat := 0x4130 + n * 0x40 + 4 * k
/-- TIM_NOW. -/
def Reg.TIM_NOW : Nat := 0x5040
/-- TIM_AON. -/
def Reg.TIM_AON : Nat := 0x5048
/-- TIM_INC_XO. -/
def Reg.TIM_INC_XO : Nat := 0x5050
/-- TIM_INC_RC. -/
def Reg.TIM_INC_RC : Nat := 0x5058
/-- TIM_TRIM. -/
def Reg.TIM_TRIM : Nat := 0x5060
/-- TIM_SLEEP_T0. -/
def Reg.TIM_SLEEP_T0 : Nat := 0x5068
/-- TIM_SLEEP_N. -/
def Reg.TIM_SLEEP_N : Nat := 0x5070
/-- TIM_CMP_HIT. -/
def Reg.TIM_CMP_HIT (k : Nat) : Nat := 0x5078 + 4 * k
/-- TIM_CMP. -/
def Reg.TIM_CMP (k : Nat) : Nat := 0x5100 + k * 0x10
/-- TIM_CMP_PER. -/
def Reg.TIM_CMP_PER (k : Nat) : Nat := 0x5108 + k * 0x10
/-- TIM_CMP_CTL. -/
def Reg.TIM_CMP_CTL (k : Nat) : Nat := 0x510c + k * 0x10
/-- WDG_CORE_KICK. -/
def Reg.WDG_CORE_KICK : Nat := 0x6040
/-- WDG_SYS_CFG. -/
def Reg.WDG_SYS_CFG : Nat := 0x6044
/-- WDG_SYS_KICK. -/
def Reg.WDG_SYS_KICK : Nat := 0x6048
/-- WDG_SYS_LEFT. -/
def Reg.WDG_SYS_LEFT : Nat := 0x604c
/-- WDG_PANEL_CFG. -/
def Reg.WDG_PANEL_CFG : Nat := 0x6060
/-- WDG_PANEL_KICK. -/
def Reg.WDG_PANEL_KICK : Nat := 0x6064
/-- WDG_PANEL_LEFT. -/
def Reg.WDG_PANEL_LEFT : Nat := 0x6068
/-- WDG_EXPIRED. -/
def Reg.WDG_EXPIRED : Nat := 0x6070
/-- WDG_LAST_RESET. -/
def Reg.WDG_LAST_RESET : Nat := 0x6074
/-- WDG_CORE_CFG. -/
def Reg.WDG_CORE_CFG (k : Nat) : Nat := 0x6100 + 4 * k
/-- PWR_CFG. -/
def Reg.PWR_CFG : Nat := 0x3040
/-- PWR_BUDGET. -/
def Reg.PWR_BUDGET : Nat := 0x3044
/-- PWR_VIN. -/
def Reg.PWR_VIN : Nat := 0x3048
/-- PWR_IIN. -/
def Reg.PWR_IIN : Nat := 0x304c
/-- PWR_PIN. -/
def Reg.PWR_PIN : Nat := 0x3050
/-- PWR_HEADROOM. -/
def Reg.PWR_HEADROOM : Nat := 0x3054
/-- PWR_CORE. -/
def Reg.PWR_CORE : Nat := 0x3058
/-- PWR_LAST_OFF. -/
def Reg.PWR_LAST_OFF : Nat := 0x3060
/-- PWR_LAST_OFF_TIME. -/
def Reg.PWR_LAST_OFF_TIME : Nat := 0x3068
/-- PWR_BOR_CNT. -/
def Reg.PWR_BOR_CNT : Nat := 0x3070
/-- AON_SUPPLY. -/
def Reg.AON_SUPPLY : Nat := 0x20c0
/-- AON_WAKEPIN_CFG. -/
def Reg.AON_WAKEPIN_CFG : Nat := 0x20c4
/-- AON_MODE_REQ. -/
def Reg.AON_MODE_REQ : Nat := 0x2040
/-- AON_MODE_RES. -/
def Reg.AON_MODE_RES : Nat := 0x2044
/-- AON_RETAIN. -/
def Reg.AON_RETAIN : Nat := 0x2048
/-- AON_WAKE_AT. -/
def Reg.AON_WAKE_AT : Nat := 0x2050
/-- AON_WAKE_AT_CTL. -/
def Reg.AON_WAKE_AT_CTL : Nat := 0x2058
/-- AON_WAKE_LAST. -/
def Reg.AON_WAKE_LAST : Nat := 0x2060
/-- AON_WAKE_LAST_TIME. -/
def Reg.AON_WAKE_LAST_TIME : Nat := 0x2068
/-- AON_WAKE_PEND. -/
def Reg.AON_WAKE_PEND : Nat := 0x2070
/-- AON_WAKE_FAIL. -/
def Reg.AON_WAKE_FAIL : Nat := 0x2074
/-- AON_WAKE_CNT. -/
def Reg.AON_WAKE_CNT : Nat := 0x2078
/-- THM_UID. -/
def Reg.THM_UID (k : Nat) : Nat := 0x48040 + 4 * k
/-- THM_SVN. -/
def Reg.THM_SVN : Nat := 0x48050
/-- THM_SIGN_SLOTS. -/
def Reg.THM_SIGN_SLOTS : Nat := 0x48054
/-- THM_DKEY_SLOTS. -/
def Reg.THM_DKEY_SLOTS : Nat := 0x48058
/-- THM_CMD. -/
def Reg.THM_CMD : Nat := 0x48060
/-- THM_ARG. -/
def Reg.THM_ARG : Nat := 0x48068
/-- THM_RESULT. -/
def Reg.THM_RESULT : Nat := 0x48070
/-- THM_BOOT. -/
def Reg.THM_BOOT : Nat := 0x48074
/-- THM_CERT_LEN. -/
def Reg.THM_CERT_LEN : Nat := 0x48078
/-- THM_CERT. -/
def Reg.THM_CERT (k : Nat) : Nat := 0x48400 + 4 * k
/-- SES_CFG. -/
def Reg.SES_CFG : Nat := 0x41040
/-- SES_ENROL_CMD. -/
def Reg.SES_ENROL_CMD : Nat := 0x41044
/-- SES_ENROL_ADDR. -/
def Reg.SES_ENROL_ADDR : Nat := 0x41048
/-- SES_RESULT. -/
def Reg.SES_RESULT : Nat := 0x41050
/-- SES_RX_BASE. -/
def Reg.SES_RX_BASE : Nat := 0x41058
/-- SES_RX_FREE. -/
def Reg.SES_RX_FREE : Nat := 0x41060
/-- SES_TX_ADDR. -/
def Reg.SES_TX_ADDR : Nat := 0x41068
/-- SES_TX_CMD. -/
def Reg.SES_TX_CMD : Nat := 0x41070
/-- SES_TX_STATUS. -/
def Reg.SES_TX_STATUS : Nat := 0x41074
/-- SES_CLOSE. -/
def Reg.SES_CLOSE : Nat := 0x41078
/-- SES_SLOT_SEL. -/
def Reg.SES_SLOT_SEL : Nat := 0x4107c
/-- SES_SLOT_INFO. -/
def Reg.SES_SLOT_INFO : Nat := 0x41080
/-- SES_COUNT. -/
def Reg.SES_COUNT : Nat := 0x41088
/-- SES_DROP. -/
def Reg.SES_DROP : Nat := 0x4108c
/-- LCS_STATE. -/
def Reg.LCS_STATE : Nat := 0x49040
/-- LCS_WORD. -/
def Reg.LCS_WORD (k : Nat) : Nat := 0x49044 + 4 * k
/-- LCS_CMD. -/
def Reg.LCS_CMD : Nat := 0x49060
/-- LCS_RESULT. -/
def Reg.LCS_RESULT : Nat := 0x49064
/-- LCS_TOKEN_SLOTS. -/
def Reg.LCS_TOKEN_SLOTS : Nat := 0x49068
/-- LCS_JTAG. -/
def Reg.LCS_JTAG : Nat := 0x4906c
/-- LCS_TOKEN. -/
def Reg.LCS_TOKEN (k : Nat) : Nat := 0x49080 + 4 * k
/-- LCS_DBG. -/
def Reg.LCS_DBG : Nat := 0x490a0
/-- LCS_DBG_END. -/
def Reg.LCS_DBG_END : Nat := 0x490a8
/-- LCS_LOG_SEL. -/
def Reg.LCS_LOG_SEL : Nat := 0x490b0
/-- LCS_LOG. -/
def Reg.LCS_LOG (k : Nat) : Nat := 0x490c0 + 4 * k
/-- FIT_CFG. -/
def Reg.FIT_CFG : Nat := 0x50040
/-- FIT_CLASS_EN. -/
def Reg.FIT_CLASS_EN : Nat := 0x50044
/-- FIT_ACT. -/
def Reg.FIT_ACT : Nat := 0x50048
/-- FIT_CORE_MASK. -/
def Reg.FIT_CORE_MASK : Nat := 0x5004c
/-- FIT_WINDOW_AT. -/
def Reg.FIT_WINDOW_AT : Nat := 0x50050
/-- FIT_WINDOW_LEN. -/
def Reg.FIT_WINDOW_LEN : Nat := 0x50058
/-- FIT_CMD. -/
def Reg.FIT_CMD : Nat := 0x50060
/-- FIT_RESULT. -/
def Reg.FIT_RESULT : Nat := 0x50068
/-- FIT_SIG. -/
def Reg.FIT_SIG : Nat := 0x50070
/-- FIT_QUICK. -/
def Reg.FIT_QUICK : Nat := 0x50078
/-- FIT_UNIT_SEL. -/
def Reg.FIT_UNIT_SEL : Nat := 0x50080
/-- FIT_UNIT_INFO. -/
def Reg.FIT_UNIT_INFO : Nat := 0x50084
/-- FIT_UNIT_LAST. -/
def Reg.FIT_UNIT_LAST : Nat := 0x50088
/-- FIT_COUNT. -/
def Reg.FIT_COUNT : Nat := 0x50090
/-- FIT_ROUND. -/
def Reg.FIT_ROUND : Nat := 0x50094
/-- MON_TEMP. -/
def Reg.MON_TEMP (k : Nat) : Nat := 0x51040 + 4 * k
/-- MON_THRESH. -/
def Reg.MON_THRESH : Nat := 0x51080
/-- MON_LOCAL. -/
def Reg.MON_LOCAL : Nat := 0x51084
/-- MON_VDD. -/
def Reg.MON_VDD (k : Nat) : Nat := 0x510c0 + 4 * k
/-- FLT_CODE. -/
def Reg.FLT_CODE : Nat := 0x52040
/-- FLT_ACK. -/
def Reg.FLT_ACK : Nat := 0x52044
/-- FLT_COUNT. -/
def Reg.FLT_COUNT : Nat := 0x52048
/-- FLT_SAFE_CAUSE. -/
def Reg.FLT_SAFE_CAUSE : Nat := 0x5204c
/-- FLT_ISO_CFG. -/
def Reg.FLT_ISO_CFG : Nat := 0x52050
/-- FLT_LOG_SEL. -/
def Reg.FLT_LOG_SEL : Nat := 0x52060
/-- FLT_LOG. -/
def Reg.FLT_LOG (k : Nat) : Nat := 0x52070 + 4 * k
/-- FLT_RULE. -/
def Reg.FLT_RULE (k : Nat) : Nat := 0x52100 + 8 * k
/-- BAS_SRC_ADDR. -/
def Reg.BAS_SRC_ADDR : Nat := 0x9048
/-- BAS_SRC_LEN. -/
def Reg.BAS_SRC_LEN : Nat := 0x9050
/-- BAS_ERR. -/
def Reg.BAS_ERR : Nat := 0x9054
/-- BAS_PROGRESS. -/
def Reg.BAS_PROGRESS : Nat := 0x9058

/-- The block registers of the SEAM page. -/
def rowsSEAM : List RegRow := [
  ⟨0x40, 1, 4, 0, 0, 0, 0, 3, 0, 0⟩,
  ⟨0x44, 1, 4, 0, 0, 0, 0, 0, 0x3ffff, 0⟩,
  ⟨0x48, 1, 4, 0, 0, 0, 0, 0, 0xffff000f, 0⟩,
  ⟨0x50, 1, 8, 0xffffffff, 0, 0, 0, 0, 0, 0⟩,
  ⟨0x54, 1, 8, 0xffffffff, 0, 0, 0, 0, 0, 0⟩,
  ⟨0x58, 1, 4, 0, 0, 0, 0, 0, 0xffffffff, 0⟩,
  ⟨0x5c, 1, 4, 0, 0, 0, 0, 0, 0xffffff77, 0⟩,
  ⟨0x60, 1, 8, 0, 0, 0, 0, 0, 0xffffffff, 0⟩,
  ⟨0x64, 1, 8, 0, 0, 0, 0, 0, 0xffffffff, 0⟩,
  ⟨0x70, 1, 4, 0, 0, 0, 0, 3, 0, 0⟩,
  ⟨0x74, 1, 4, 0, 0, 0, 0, 0, 0xf03ff, 0⟩,
  ⟨0x78, 1, 8, 0, 0, 0, 0, 0, 0xffffffff, 0⟩,
  ⟨0x7c, 1, 8, 0, 0, 0, 0, 0, 0xffffffff, 0⟩,
  ⟨0x80, 1, 4, 0xffffffff, 0, 0, 0, 0, 0, 0⟩,
  ⟨0x84, 1, 4, 0xffffffff, 0, 0, 0, 0, 0, 0⟩,
  ⟨0x88, 1, 4, 0xffffffff, 0, 0, 0, 0, 0, 0⟩]

/-- The block registers of the PNL page. -/
def rowsPNL : List RegRow := [
  ⟨0x40, 1, 4, 0, 0, 0, 1, 0, 0, 0⟩,
  ⟨0x44, 1, 4, 0, 0, 0, 0, 0xff, 0, 0⟩,
  ⟨0x48, 1, 4, 0, 0, 0x80000000, 0, 0, 0x30f0f, 0⟩,
  ⟨0x50, 1, 8, 0, 0, 0, 0, 0, 0xffffffff, 0⟩,
  ⟨0x54, 1, 8, 0, 0, 0, 0, 0, 0xff, 0⟩,
  ⟨0x58, 1, 4, 0, 0, 0, 0, 0, 7, 0⟩,
  ⟨0x60, 3, 4, 0, 0x77777777, 0, 0, 0, 0, 0⟩,
  ⟨0x6c, 1, 4, 0, 0x777777, 0, 0, 0, 0, 0⟩,
  ⟨0x80, 8, 4, 0, 0x1ff01ff, 0, 0, 0, 0, 0⟩,
  ⟨0xa0, 1, 4, 0, 0, 0x80000000, 0, 0, 0x7f70ffff, 0⟩,
  ⟨0x100, 21, 4, 0, 0x87878787, 0, 0, 0, 0, 0⟩]

/-- The block registers of the AON page. -/
def rowsAON : List RegRow := [
  ⟨0xc0, 1, 4, 0, 0, 0x80000000, 0, 0, 0x40000fff, 0x28a⟩,
  ⟨0xc4, 1, 4, 0xff, 0, 0, 0, 0, 0, 0⟩,
  ⟨0x40, 1, 4, 0, 0, 0, 0, 0xf, 0, 0⟩,
  ⟨0x44, 1, 4, 0, 0, 0, 0, 0, 0xf0f, 0⟩,
  ⟨0x48, 1, 4, 0xff, 0, 0, 0, 0, 0, 0⟩,
  ⟨0x50, 1, 8, 0xffffffff, 0, 0, 0, 0, 0, 0⟩,
  ⟨0x54, 1, 8, 0xffffffff, 0, 0, 0, 0, 0, 0⟩,
  ⟨0x58, 1, 4, 1, 0, 0, 0, 0, 0, 0⟩,
  ⟨0x60, 1, 4, 0, 0, 0, 0, 0, 0xf001ffff, 0⟩,
  ⟨0x68, 1, 8, 0, 0, 0, 0, 0, 0xffffffff, 0⟩,
  ⟨0x6c, 1, 8, 0, 0, 0, 0, 0, 0xffffffff, 0⟩,
  ⟨0x70, 1, 4, 0, 0, 0, 0, 0, 0x3ffe, 0⟩,
  ⟨0x74, 1, 4, 0, 0, 0x80000000, 0, 0, 0xf07, 0⟩,
  ⟨0x78, 1, 4, 0, 0, 0, 0, 0, 0xffffffff, 0⟩]

/-- The block registers of the PWR page. -/
def rowsPWR : List RegRow := [
  ⟨0x40, 1, 4, 0x107, 0, 0, 0, 0, 0, 0x101⟩,
  ⟨0x44, 1, 4, 0x3ff, 0, 0, 0, 0, 0, 0x1c2⟩,
  ⟨0x48, 1, 4, 0, 0, 0, 0, 0, 0xffffffff, 0⟩,
  ⟨0x4c, 1, 4, 0, 0, 0, 0, 0, 0xffff, 0⟩,
  ⟨0x50, 1, 4, 0, 0, 0, 0, 0, 0xffffffff, 0⟩,
  ⟨0x54, 1, 4, 0, 0, 0, 0, 0, 0xffff, 0⟩,
  ⟨0x58, 1, 4, 0, 0, 0, 0, 0, 0x1fff, 0⟩,
  ⟨0x60, 1, 4, 0, 0, 0, 0, 0, 0x70f, 0⟩,
  ⟨0x68, 1, 8, 0, 0, 0, 0, 0, 0xffffffff, 0⟩,
  ⟨0x6c, 1, 8, 0, 0, 0, 0, 0, 0xffffffff, 0⟩,
  ⟨0x70, 1, 4, 0, 0, 0, 0, 0, 0xffffffff, 0⟩]

/-- The block registers of the CLK page. -/
def rowsCLK : List RegRow := [
  ⟨0x40, 1, 4, 0, 0, 0, 0, 0xff, 0, 0⟩,
  ⟨0x44, 1, 4, 0, 0, 0x80000000, 0, 0, 0xf70f, 0⟩,
  ⟨0x80, 1, 4, 0xffff, 0, 0, 0, 0, 0, 0xffff⟩,
  ⟨0x84, 1, 4, 0, 0, 0, 0, 0, 0xffff, 0⟩,
  ⟨0xc0, 16, 4, 0, 0, 0, 0, 0, 0xff, 0⟩,
  ⟨0x100, 8, 64, 0xc7fffe3f, 0, 0, 0, 0, 0, 0x8000⟩,
  ⟨0x104, 8, 64, 0xffffff, 0, 0, 0, 0, 0, 0⟩,
  ⟨0x108, 8, 64, 0, 0, 0, 0, 0xf0f, 0, 0⟩,
  ⟨0x10c, 8, 64, 0, 0, 0, 0, 0, 0xffffffff, 0⟩,
  ⟨0x110, 8, 64, 0, 0, 0, 0, 0, 0xffff, 0⟩,
  ⟨0x114, 8, 64, 0, 0, 0, 0, 0, 0xffffffff, 0⟩,
  ⟨0x120, 4, 4, 0x80ff00ff, 0, 0, 0, 0, 0, 0⟩,
  ⟨0x160, 4, 4, 0x80ff00ff, 0, 0, 0, 0, 0, 0⟩,
  ⟨0x1a0, 4, 4, 0x80ff00ff, 0, 0, 0, 0, 0, 0⟩,
  ⟨0x1e0, 4, 4, 0x80ff00ff, 0, 0, 0, 0, 0, 0⟩,
  ⟨0x220, 4, 4, 0x80ff00ff, 0, 0, 0, 0, 0, 0⟩,
  ⟨0x260, 4, 4, 0x80ff00ff, 0, 0, 0, 0, 0, 0⟩,
  ⟨0x2a0, 4, 4, 0x80ff00ff, 0, 0, 0, 0, 0, 0⟩,
  ⟨0x2e0, 4, 4, 0x80ff00ff, 0, 0, 0, 0, 0, 0⟩,
  ⟨0x130, 4, 4, 0x1fffff, 0, 0, 0, 0, 0, 0⟩,
  ⟨0x170, 4, 4, 0x1fffff, 0, 0, 0, 0, 0, 0⟩,
  ⟨0x1b0, 4, 4, 0x1fffff, 0, 0, 0, 0, 0, 0⟩,
  ⟨0x1f0, 4, 4, 0x1fffff, 0, 0, 0, 0, 0, 0⟩,
  ⟨0x230, 4, 4, 0x1fffff, 0, 0, 0, 0, 0, 0⟩,
  ⟨0x270, 4, 4, 0x1fffff, 0, 0, 0, 0, 0, 0⟩,
  ⟨0x2b0, 4, 4, 0x1fffff, 0, 0, 0, 0, 0, 0⟩,
  ⟨0x2f0, 4, 4, 0x1fffff, 0, 0, 0, 0, 0, 0⟩]

/-- The block registers of the TIM page. -/
def rowsTIM : List RegRow := [
  ⟨0x40, 1, 8, 0, 0, 0, 0, 0, 0xffffffff, 0⟩,
  ⟨0x44, 1, 8, 0, 0, 0, 0, 0, 0xffffffff, 0⟩,
  ⟨0x48, 1, 8, 0, 0, 0, 0, 0, 0xffffffff, 0⟩,
  ⟨0x4c, 1, 8, 0, 0, 0, 0, 0, 0xffff, 0⟩,
  ⟨0x50, 1, 8, 0xffffffff, 0, 0, 0, 0, 0, 0⟩,
  ⟨0x54, 1, 8, 0xff, 0, 0, 0, 0, 0, 4⟩,
  ⟨0x58, 1, 8, 0xffffffff, 0, 0, 0, 0, 0, 0x1a41a41a⟩,
  ⟨0x5c, 1, 8, 0xff, 0, 0, 0, 0, 0, 4⟩,
  ⟨0x60, 1, 4, 0x1ffffff, 0, 0, 0, 0, 0, 0⟩,
  ⟨0x68, 1, 8, 0, 0, 0, 0, 0, 0xffffffff, 0⟩,
  ⟨0x6c, 1, 8, 0, 0, 0, 0, 0, 0xffffffff, 0⟩,
  ⟨0x70, 1, 8, 0, 0, 0, 0, 0, 0xffffffff, 0⟩,
  ⟨0x74, 1, 8, 0, 0, 0, 0, 0, 0xffff, 0⟩,
  ⟨0x78, 2, 4, 0, 0, 0xffffffff, 0, 0, 0, 0⟩,
  ⟨0x100, 64, 16, 0xffffffff, 0, 0, 0, 0, 0, 0⟩,
  ⟨0x104, 64, 16, 0xffffffff, 0, 0, 0, 0, 0, 0⟩,
  ⟨0x108, 64, 16, 0xffffffff, 0, 0, 0, 0, 0, 0⟩,
  ⟨0x10c, 64, 16, 0xe0000000, 0, 0, 0, 0, 0xffff, 0⟩]

/-- The block registers of the WDG page. -/
def rowsWDG : List RegRow := [
  ⟨0x40, 1, 4, 0, 0, 0, 0, 0xffffffff, 0, 0⟩,
  ⟨0x44, 1, 4, 0x700001ff, 0, 0, 0x80000000, 0, 0, 0x100⟩,
  ⟨0x48, 1, 4, 0, 0, 0, 0, 0xffffffff, 0, 0⟩,
  ⟨0x4c, 1, 4, 0, 0, 0, 0, 0, 0x3ffff, 0⟩,
  ⟨0x60, 1, 4, 0xb0003fff, 0, 0, 0x40000000, 0, 0, 0x3e8⟩,
  ⟨0x64, 1, 4, 0, 0, 0, 0, 0xffffffff, 0, 0⟩,
  ⟨0x68, 1, 4, 0, 0, 0, 0, 0, 0x3fff, 0⟩,
  ⟨0x70, 1, 4, 0, 0, 0xffffff, 0, 0, 0, 0⟩,
  ⟨0x74, 1, 4, 0, 0, 0, 0, 0, 0x7f, 0⟩,
  ⟨0x100, 16, 4, 0xe00fffff, 0, 0, 0, 0, 0, 0x3e8⟩]

/-- The block registers of the PAT page. -/
def rowsPAT : List RegRow := [
  ⟨0x40, 1, 4, 0, 0, 0, 0, 0x7f, 0, 0⟩,
  ⟨0x44, 1, 4, 0, 0, 0, 0, 0, 0xffff0031, 0x30⟩,
  ⟨0x48, 1, 8, 0xffffffff, 0, 0, 0, 0, 0, 0⟩,
  ⟨0x4c, 1, 8, 0xff, 0, 0, 0, 0, 0, 0⟩,
  ⟨0x50, 1, 4, 0xffffffff, 0, 0, 0, 0, 0, 0⟩,
  ⟨0x54, 1, 4, 0, 0, 0, 0, 0, 0xffff, 0⟩,
  ⟨0x58, 1, 4, 0, 0, 0, 0, 0, 0xffff, 0⟩,
  ⟨0x60, 1, 8, 0xffffffff, 0, 0, 0, 0, 0, 0⟩,
  ⟨0x64, 1, 8, 0xffffffff, 0, 0, 0, 0, 0, 0⟩,
  ⟨0x68, 1, 4, 0, 0, 0, 0, 0, 0x3ffff, 0⟩,
  ⟨0x6c, 1, 4, 0, 0, 0, 0, 0, 0x7fff, 0⟩,
  ⟨0x70, 1, 4, 0, 0, 0, 0, 0, 0xffffffff, 0⟩,
  ⟨0x74, 1, 4, 0, 0, 0, 0, 0, 0xffffffff, 0⟩,
  ⟨0x80, 1, 4, 0, 0, 0, 0, 0, 0xffffff, 0⟩,
  ⟨0x84, 1, 4, 0, 0, 0, 0, 0, 0xffff, 0⟩,
  ⟨0x88, 1, 4, 0, 0, 0, 0, 0, 0xffff, 0⟩,
  ⟨0x8c, 1, 4, 0, 0, 0, 0, 0, 0xffff, 0⟩,
  ⟨0x90, 1, 8, 0, 0, 0, 0, 0, 0xffffffff, 0⟩,
  ⟨0x94, 1, 8, 0, 0, 0, 0, 0, 0xffffffff, 0⟩,
  ⟨0x98, 1, 8, 0, 0, 0, 0, 0, 0xffffffff, 0⟩,
  ⟨0x9c, 1, 8, 0, 0, 0, 0, 0, 0xffffffff, 0⟩,
  ⟨0xa0, 1, 8, 0, 0, 0, 0, 0, 0xffffffff, 0⟩,
  ⟨0xa4, 1, 8, 0, 0, 0, 0, 0, 0xffffffff, 0⟩]

/-- The block registers of the BAS page. -/
def rowsBAS : List RegRow := [
  ⟨0x40, 1, 4, 0, 0, 0, 0, 0xf, 0, 0⟩,
  ⟨0x60, 4, 4, 0, 0, 0, 0, 0, 0xffffffff, 0⟩,
  ⟨0x70, 4, 4, 0, 0, 0, 0, 0, 0xffffffff, 0⟩,
  ⟨0x80, 1, 8, 0, 0, 0, 0, 0, 0xffffffff, 0⟩,
  ⟨0x84, 1, 8, 0, 0, 0, 0, 0, 0xffffffff, 0⟩,
  ⟨0x48, 1, 8, 0xffffffff, 0, 0, 0, 0, 0, 0⟩,
  ⟨0x4c, 1, 8, 0xff, 0, 0, 0, 0, 0, 0⟩,
  ⟨0x50, 1, 4, 0xffffffff, 0, 0, 0, 0, 0, 0⟩,
  ⟨0x54, 1, 4, 0, 0, 0, 0, 0, 0xffff, 0⟩,
  ⟨0x58, 1, 4, 0, 0, 0, 0, 0, 0xffff, 0⟩]

/-- The block registers of the OVL page. -/
def rowsOVL : List RegRow := [
  ⟨0x40, 1, 4, 0x30f, 0, 0, 0, 0, 0, 0x104⟩,
  ⟨0x44, 1, 4, 0, 0, 0, 0, 0, 0xffffffff, 0⟩,
  ⟨0x48, 1, 8, 0, 0, 0, 0, 0, 0xffffffff, 0⟩,
  ⟨0x4c, 1, 8, 0, 0, 0, 0, 0, 0xffffffff, 0⟩,
  ⟨0x50, 1, 4, 0, 0, 0, 0, 0, 0xffffffff, 0⟩,
  ⟨0x54, 1, 4, 0, 0, 0, 0, 0, 0xffffffff, 0⟩,
  ⟨0x58, 1, 4, 0, 0, 0, 0, 0, 0xffffffff, 0⟩,
  ⟨0x5c, 1, 4, 0, 0, 0, 0, 0, 0xffffffff, 0⟩,
  ⟨0x60, 1, 4, 0, 0, 0, 0, 0, 0xffffffff, 0⟩,
  ⟨0x64, 1, 4, 0, 0, 0, 0, 0, 0xffffffff, 0⟩,
  ⟨0x68, 1, 4, 0, 0, 0, 0, 0, 0xffff0000, 0⟩,
  ⟨0x6c, 1, 4, 0, 0, 0, 0, 0, 0xffffffff, 0⟩,
  ⟨0x70, 1, 4, 0, 0, 0, 0, 0, 0xffffffff, 0⟩,
  ⟨0x74, 1, 4, 0, 0, 0, 0, 0, 0xffffffff, 0⟩,
  ⟨0x78, 1, 4, 0, 0, 0, 0, 0, 0xffffffff, 0⟩,
  ⟨0x80, 1, 8, 0, 0, 0, 0, 0, 0xffffffff, 0⟩,
  ⟨0x84, 1, 8, 0, 0, 0, 0, 0, 0xffffffff, 0⟩,
  ⟨0x88, 1, 4, 0, 0, 0, 0, 0, 0xffffff, 0⟩,
  ⟨0x8c, 1, 4, 0, 0, 0, 0, 0, 7, 0⟩,
  ⟨0x90, 1, 4, 0, 0, 0, 0, 0, 0xffff, 0⟩,
  ⟨0xa0, 1, 4, 0, 0, 0, 0, 0x1fffffff, 0, 0⟩]

/-- The block registers of the FAB page. -/
def rowsFAB : List RegRow := [
  ⟨0x40, 1, 4, 0xffffff, 0, 0, 0, 0, 0, 0x1000⟩,
  ⟨0x44, 1, 4, 0, 0, 0x80000000, 0, 0, 0x4707ff1f, 0⟩,
  ⟨0x48, 1, 8, 0, 0, 0, 0, 0, 0xffffffff, 0⟩,
  ⟨0x4c, 1, 8, 0, 0, 0, 0, 0, 0xff, 0⟩,
  ⟨0x50, 4, 4, 0, 0, 0, 0, 0, 0xffffffff, 0xffffffff⟩,
  ⟨0x60, 1, 4, 0, 0, 0, 0xff, 0, 0, 0⟩,
  ⟨0x64, 1, 4, 0, 0, 0, 0, 0, 0xffffffff, 0⟩,
  ⟨0x68, 1, 4, 0, 0, 0, 0, 0, 0x8fff01ff, 0⟩,
  ⟨0x70, 1, 4, 0, 0, 0, 0, 0, 0x3fffff, 0⟩,
  ⟨0x100, 64, 4, 0, 0xffffffff, 0, 0, 0, 0, 0⟩,
  ⟨0x200, 64, 4, 0, 0, 0, 0, 0, 0xffffffff, 0⟩]

/-- The block registers of the CORE page. -/
def rowsCORE : List RegRow := [
  ⟨0x40, 1, 4, 0, 0, 0, 1, 0, 0, 0⟩,
  ⟨0x48, 1, 8, 0xfffffffe, 0, 0, 0, 0, 0, 0x8000000⟩,
  ⟨0x4c, 1, 8, 0xff, 0, 0, 0, 0, 0, 0⟩,
  ⟨0x50, 1, 4, 1, 0, 0, 0, 0, 0, 0⟩,
  ⟨0x58, 1, 8, 0xffffffff, 0, 0, 0, 0, 0, 0xffffffff⟩,
  ⟨0x5c, 1, 8, 0xffffffff, 0, 0, 0, 0, 0, 0xffffffff⟩,
  ⟨0x60, 4, 4, 0xffffffff, 0, 0, 0, 0, 0, 0⟩,
  ⟨0x70, 4, 4, 0, 0, 0, 0, 0, 0xffffffff, 0⟩,
  ⟨0x80, 1, 4, 0, 0, 0, 0, 0, 0x8000007f, 0⟩,
  ⟨0x84, 1, 4, 0, 0, 0x80000000, 0, 0, 0xfff, 0⟩,
  ⟨0x88, 1, 8, 0, 0, 0, 0, 0, 0xffffffff, 0⟩,
  ⟨0x8c, 1, 8, 0, 0, 0, 0, 0, 0xff, 0⟩,
  ⟨0x90, 1, 4, 0, 0, 0, 0, 0, 0xffffffff, 0⟩,
  ⟨0x94, 1, 4, 0, 0, 0, 0, 1, 0, 0⟩,
  ⟨0xa0, 1, 4, 0, 0, 0, 1, 0, 0, 0⟩]

/-- The block registers of the BOB page. -/
def rowsBOB : List RegRow := [
  ⟨0x40, 1, 4, 0xffffff03, 0, 0, 0, 0, 0, 0x8001⟩,
  ⟨0x44, 1, 4, 0, 0, 0, 0, 0xf003ffff, 0, 0⟩,
  ⟨0x48, 1, 8, 0xffffffff, 0, 0, 0, 0, 0, 0⟩,
  ⟨0x4c, 1, 8, 0xffffffff, 0, 0, 0, 0, 0, 0⟩,
  ⟨0x50, 1, 4, 0, 0, 0, 0, 0, 0x800f00ff, 0⟩,
  ⟨0x60, 1, 4, 0, 0, 0, 0, 0x8003ffff, 0, 0⟩,
  ⟨0x64, 1, 4, 0, 0, 0, 0, 0x3ffff, 0, 0⟩,
  ⟨0x68, 1, 4, 0, 0, 0, 0, 0, 0xffffffff, 0⟩,
  ⟨0x70, 1, 4, 0x3ffff, 0, 0, 0, 0, 0, 0⟩,
  ⟨0x74, 1, 4, 0, 0, 0, 0, 0, 0xffeffff, 0⟩,
  ⟨0x78, 1, 4, 0, 0, 0, 0, 0, 0x7fff, 0⟩,
  ⟨0x7c, 1, 4, 0, 0, 0, 0, 0, 0x7ffff, 0⟩,
  ⟨0x80, 1, 4, 0, 0, 0, 0, 0, 0x1ffff, 0⟩,
  ⟨0x84, 1, 4, 0, 0, 0, 0, 0, 0x1ffff, 0⟩,
  ⟨0x88, 1, 4, 0, 0, 0, 0, 0, 0x7ff1fff, 0⟩,
  ⟨0x8c, 1, 4, 0, 0, 0, 0, 0, 0xffffffff, 0⟩,
  ⟨0x90, 1, 4, 0, 0, 0, 0, 0, 0x1ffff, 0⟩,
  ⟨0x94, 1, 4, 0, 0, 0, 0, 0, 0xffffffff, 0⟩,
  ⟨0x98, 1, 4, 0, 0, 0, 0, 0, 0xffffffff, 0⟩,
  ⟨0xa0, 1, 4, 0, 0, 0, 0, 0x8f000fff, 0, 0⟩,
  ⟨0xa8, 1, 8, 0xffffffff, 0, 0, 0, 0, 0, 0⟩,
  ⟨0xac, 1, 8, 0, 0, 0, 0, 0, 0x7ffff, 0⟩,
  ⟨0xb0, 1, 4, 0, 0, 0, 0, 0, 0xffffffff, 0⟩,
  ⟨0xc0, 1, 4, 0x1fff, 0, 0, 0, 0, 0, 0⟩,
  ⟨0xc8, 1, 8, 0xffffffff, 0, 0, 0, 0, 0, 0⟩,
  ⟨0xcc, 1, 8, 0xefff0000, 0, 0, 0, 0, 0, 0⟩,
  ⟨0xd0, 1, 4, 0, 0, 0, 0, 0, 0xfffff7df, 0⟩,
  ⟨0xd4, 1, 4, 0, 0, 0, 0, 0, 0x7fffff, 0⟩,
  ⟨0xd8, 1, 4, 0, 0, 0, 0, 0, 0xffffffff, 0⟩,
  ⟨0xdc, 1, 4, 0, 0, 0, 0, 0, 0xffffffff, 0⟩,
  ⟨0xe0, 1, 4, 0, 0, 0, 0, 0, 0xffffffff, 0⟩]

/-- The block registers of the SPL page. -/
def rowsSPL : List RegRow := [
  ⟨0x40, 1, 4, 0x7fff7fff, 0, 0, 0, 0, 0, 0x3f003c00⟩,
  ⟨0x44, 1, 4, 0x1fff, 0, 0, 0, 0, 0, 0x100⟩,
  ⟨0x48, 1, 8, 0xffc00000, 0, 0, 0, 0, 1, 0⟩,
  ⟨0x4c, 1, 8, 0xff, 0, 0, 0, 0, 0, 0⟩,
  ⟨0x50, 1, 4, 0, 0, 0, 0, 0, 0x1fffff, 0⟩,
  ⟨0x54, 1, 4, 0, 0, 0, 0, 0, 0xffffffff, 0⟩,
  ⟨0x58, 1, 4, 0, 0, 0, 0, 0, 0x1fffff, 0⟩,
  ⟨0x5c, 1, 4, 0, 0, 0, 0, 0, 0x7ffff, 0⟩,
  ⟨0x60, 1, 4, 0, 0, 0, 0, 0, 0xffffffff, 0⟩,
  ⟨0x64, 1, 4, 0, 0, 0, 0, 0, 0xffffffff, 0⟩,
  ⟨0x68, 1, 4, 0, 0, 0, 0, 0, 0xffffffff, 0⟩,
  ⟨0x6c, 1, 4, 0, 0, 0, 0, 0, 0xffffffff, 0⟩,
  ⟨0x70, 1, 4, 0, 0, 0, 0, 0, 0xffffffff, 0⟩,
  ⟨0x74, 1, 4, 0, 0, 0x80000000, 0, 0, 0xff7fff, 0⟩,
  ⟨0x78, 1, 4, 0, 0, 0, 0, 0, 0xffffffff, 0⟩]

/-- The block registers of the MEM page. -/
def rowsMEM : List RegRow := [
  ⟨0x40, 1, 4, 0xffff01, 0, 0, 0, 0, 0, 0x401801⟩,
  ⟨0x44, 1, 4, 0, 0, 0, 0, 0, 0xffffffff, 0⟩,
  ⟨0x48, 1, 4, 0, 0, 0, 0, 0, 0xffffffff, 0⟩,
  ⟨0x50, 1, 4, 0, 0, 0x80000000, 0, 0, 0x60fff07f, 0⟩,
  ⟨0x58, 1, 8, 0, 0, 0, 0, 0, 0xfffffff8, 0⟩,
  ⟨0x5c, 1, 8, 0, 0, 0, 0, 0, 0xff, 0⟩,
  ⟨0x60, 1, 8, 0, 0, 0, 0, 0, 0xffffffff, 0⟩,
  ⟨0x64, 1, 8, 0, 0, 0, 0, 0, 0xffffffff, 0⟩,
  ⟨0x68, 1, 4, 0, 0, 0, 0, 0, 0xffff1fff, 0⟩,
  ⟨0x6c, 1, 4, 0, 0, 0, 0, 0, 0x3fff, 0⟩,
  ⟨0x70, 1, 4, 0, 0, 0, 0, 0, 0x3ff, 0⟩]

/-- The block registers of the FLS page. -/
def rowsFLS : List RegRow := [
  ⟨0x40, 1, 4, 7, 0, 0, 0, 0, 0, 3⟩,
  ⟨0x48, 1, 8, 0xffffffe0, 0, 0, 0, 0, 0, 0⟩,
  ⟨0x4c, 1, 8, 0xff, 0, 0, 0, 0, 0, 0⟩,
  ⟨0x50, 1, 4, 0xf, 0, 0, 0, 0, 0, 4⟩,
  ⟨0x54, 1, 4, 0xfff, 0, 0, 0, 0, 0, 0⟩,
  ⟨0x58, 1, 4, 0, 0, 0, 0, 0, 0xfff, 0⟩,
  ⟨0x5c, 1, 4, 0, 0, 0, 0, 3, 0x80000000, 0⟩,
  ⟨0x60, 1, 4, 0, 0, 0x80000000, 0, 0, 0xfff000f, 0⟩,
  ⟨0x64, 1, 4, 0, 0, 0, 0, 0x300ff, 0, 0⟩,
  ⟨0x68, 1, 4, 0, 0, 0, 0, 0, 0xffffffff, 0⟩,
  ⟨0x6c, 1, 4, 0, 0, 0, 0, 0, 0xffff7f33, 0⟩,
  ⟨0x70, 1, 4, 0, 0, 0, 0, 0, 0xffffffff, 0⟩,
  ⟨0x78, 1, 8, 0, 0, 0, 0, 0, 0x3fffff8, 0⟩,
  ⟨0x7c, 1, 8, 0, 0, 0x80000000, 0, 0, 0, 0⟩,
  ⟨0x80, 2, 4, 0, 0, 0, 0, 0, 0xffffffff, 0⟩,
  ⟨0x88, 1, 4, 0xff, 0, 0, 0, 0, 0, 0⟩,
  ⟨0x8c, 1, 4, 0, 0, 0, 0, 0, 0xffffffff, 0⟩,
  ⟨0x90, 1, 4, 0, 0, 0, 0, 0, 0x10f, 0⟩,
  ⟨0x94, 1, 4, 0x3ff, 0, 0, 0, 0, 0, 0⟩,
  ⟨0x98, 1, 4, 0, 0, 0, 0, 0, 0xffffffff, 0⟩,
  ⟨0x100, 32, 4, 0xffffffff, 0, 0, 0, 0, 0, 0xffffffff⟩]

/-- The block registers of the QUE page. -/
def rowsQUE : List RegRow := [
  ⟨0x40, 1, 4, 0, 0, 0, 0, 0, 0xf9f001f, 0⟩,
  ⟨0x44, 1, 4, 0, 0, 0, 0, 0, 0xffffff, 0⟩,
  ⟨0x48, 1, 4, 0, 0, 0, 0, 0, 0xffffffff, 0⟩,
  ⟨0x100, 16, 64, 0xf8f00000, 0, 0, 0, 0, 0, 0⟩,
  ⟨0x104, 16, 64, 0x7fff, 0, 0, 0, 0, 0, 0⟩,
  ⟨0x108, 16, 64, 0, 0, 0, 0, 0, 0x7fff7fff, 0⟩,
  ⟨0x10c, 16, 64, 0, 0, 0, 0, 0, 0xff1f0000, 0x80000000⟩,
  ⟨0x110, 16, 64, 0, 0, 0, 0, 7, 0, 0⟩,
  ⟨0x114, 16, 64, 0, 0, 0x80000000, 0, 0, 0xf07, 0⟩,
  ⟨0x118, 16, 64, 0, 0, 0, 0, 0, 0xffffffff, 0⟩,
  ⟨0x11c, 16, 64, 0, 0, 0, 0, 0, 0xffffffff, 0⟩,
  ⟨0x120, 16, 64, 0, 0, 0, 0, 0, 0xffffffff, 0⟩,
  ⟨0x124, 16, 64, 0, 0, 0, 0, 0, 0xffffffff, 0⟩,
  ⟨0x128, 16, 64, 0, 0, 0, 0, 0, 0x7fff7fff, 0⟩,
  ⟨0x12c, 16, 64, 0, 0, 0, 0, 0, 0x80007fff, 0⟩]

/-- The block registers of the PIN page. -/
def rowsPIN : List RegRow := [
  ⟨0x40, 1, 8, 0, 0xffffffff, 0, 0, 0, 0, 0⟩,
  ⟨0x44, 1, 8, 0, 0xff, 0, 0, 0, 0, 0⟩,
  ⟨0x48, 1, 8, 0, 0xffffffff, 0, 0, 0, 0, 0⟩,
  ⟨0x4c, 1, 8, 0, 0xff, 0, 0, 0, 0, 0⟩,
  ⟨0x50, 1, 8, 0, 0, 0, 0, 0xffffffff, 0, 0⟩,
  ⟨0x54, 1, 8, 0, 0, 0, 0, 0xff, 0, 0⟩,
  ⟨0x58, 1, 8, 0, 0, 0, 0, 0xffffffff, 0, 0⟩,
  ⟨0x5c, 1, 8, 0, 0, 0, 0, 0xff, 0, 0⟩,
  ⟨0x60, 1, 8, 0, 0, 0, 0, 0, 0xffffffff, 0⟩,
  ⟨0x64, 1, 8, 0, 0, 0, 0, 0, 0xff, 0⟩,
  ⟨0x68, 1, 8, 0, 0, 0xffffffff, 0, 0, 0, 0⟩,
  ⟨0x6c, 1, 8, 0, 0, 0xff, 0, 0, 0, 0⟩,
  ⟨0x70, 1, 8, 0xffffffff, 0, 0, 0, 0, 0, 0⟩,
  ⟨0x74, 1, 8, 0xff, 0, 0, 0, 0, 0, 0⟩,
  ⟨0x78, 1, 8, 0, 0, 0xffffffff, 0, 0, 0, 0⟩,
  ⟨0x7c, 1, 8, 0, 0, 0xff, 0, 0, 0, 0⟩,
  ⟨0x80, 1, 4, 0, 0, 0, 0, 0, 0xf, 0⟩,
  ⟨0x84, 1, 4, 0xffff, 0, 0, 0, 0, 0, 0⟩,
  ⟨0x88, 1, 4, 0, 0, 0, 0, 1, 0, 0⟩,
  ⟨0x100, 40, 4, 0x77, 0, 0, 0, 0, 0, 0⟩,
  ⟨0x200, 40, 4, 0xc07f02f7, 0, 0, 0, 0, 0x3f800000, 0x3f800000⟩,
  ⟨0x300, 40, 4, 0, 0x80000077, 0, 0, 0, 0, 0⟩]

/-- The block registers of the PLT page. -/
def rowsPLT : List RegRow := [
  ⟨0x40, 1, 4, 0, 0, 0, 0xffff, 0, 0, 0⟩,
  ⟨0x44, 1, 4, 0, 0, 0, 0, 0xffff, 0, 0⟩,
  ⟨0x48, 1, 4, 0, 0, 0xffff, 0, 0, 0, 0⟩,
  ⟨0x4c, 1, 4, 0, 0, 0xffff, 0, 0, 0, 0⟩,
  ⟨0x100, 8, 64, 0xff00ffff, 0, 0, 0, 0, 0, 0⟩,
  ⟨0x104, 8, 64, 0x3fffff, 0, 0, 0, 0, 0, 0x3e8⟩,
  ⟨0x108, 8, 64, 0x3fffff, 0, 0, 0, 0, 0, 0x1f4⟩,
  ⟨0x110, 8, 64, 0xffffffff, 0, 0, 0, 0, 0, 0⟩,
  ⟨0x114, 8, 64, 0xffffffff, 0, 0, 0, 0, 0, 0⟩,
  ⟨0x118, 8, 64, 0, 0, 0, 0, 7, 0, 0⟩,
  ⟨0x11c, 8, 64, 0, 0, 0, 0, 0, 0xef7fffff, 0⟩,
  ⟨0x120, 8, 64, 0, 0, 0, 0, 0, 0xffffffff, 0⟩,
  ⟨0x128, 8, 64, 0, 0, 0, 0, 0, 0xffffffff, 0⟩,
  ⟨0x12c, 8, 64, 0, 0, 0, 0, 0, 0xffffffff, 0⟩,
  ⟨0x300, 16, 16, 0xffffffff, 0, 0, 0, 0, 0, 0⟩,
  ⟨0x304, 16, 16, 0xffffffff, 0, 0, 0, 0, 0, 0⟩,
  ⟨0x308, 16, 16, 0x301ff, 0, 0, 0, 0, 0, 0⟩,
  ⟨0x400, 240, 4, 0, 0, 0, 0, 0, 0xffffffff, 0⟩,
  ⟨0x800, 480, 4, 0, 0xffffffff, 0, 0, 0, 0, 0⟩]

/-- The block registers of the HST page. -/
def rowsHST : List RegRow := [
  ⟨0x40, 1, 4, 0, 0, 0, 0, 0, 0xffffffff, 0⟩,
  ⟨0x44, 1, 4, 0, 0, 0, 0, 0, 0xffffffff, 0⟩,
  ⟨0x50, 2, 4, 3, 0, 0, 0, 0, 0, 3⟩,
  ⟨0x60, 8, 4, 0xffffffff, 0, 0, 0, 0, 0, 0⟩,
  ⟨0x80, 2, 4, 0, 0, 0, 0, 0, 0xffffff00, 0⟩,
  ⟨0x90, 1, 4, 0, 0, 0, 0, 0, 0xfffff, 0⟩,
  ⟨0x400, 64, 4, 0x8000007f, 0, 0, 0, 0, 0, 0⟩,
  ⟨0x500, 64, 4, 0x8000007f, 0, 0, 0, 0, 0, 0⟩,
  ⟨0x600, 64, 4, 0x8000007f, 0, 0, 0, 0, 0, 0⟩,
  ⟨0x700, 64, 4, 0x8000007f, 0, 0, 0, 0, 0, 0⟩]

/-- The block registers of the SES page. -/
def rowsSES : List RegRow := [
  ⟨0x40, 1, 4, 0xffffff, 0, 0, 0, 0, 0, 0xa0000⟩,
  ⟨0x44, 1, 4, 0, 0, 0, 0, 0xf00003ff, 0, 0⟩,
  ⟨0x48, 1, 8, 0xffffffff, 0, 0, 0, 0, 0, 0⟩,
  ⟨0x4c, 1, 8, 0xff, 0, 0, 0, 0, 0, 0⟩,
  ⟨0x50, 1, 4, 0, 0, 0, 0, 0, 0x800000ff, 0⟩,
  ⟨0x58, 1, 8, 0xff800000, 0, 0, 0, 0, 1, 0⟩,
  ⟨0x5c, 1, 8, 0xff, 0, 0, 0, 0, 0, 0⟩,
  ⟨0x60, 1, 4, 0, 0, 0, 0, 0x103ff, 0, 0⟩,
  ⟨0x68, 1, 8, 0xffffffff, 0, 0, 0, 0, 0, 0⟩,
  ⟨0x6c, 1, 8, 0xff, 0, 0, 0, 0, 0, 0⟩,
  ⟨0x70, 1, 4, 0, 0, 0, 0, 0xfff03ff, 0, 0⟩,
  ⟨0x74, 1, 4, 0, 0, 0, 0, 0, 0x800000ff, 0⟩,
  ⟨0x78, 1, 4, 0, 0, 0, 0, 0x3ff, 0, 0⟩,
  ⟨0x7c, 1, 4, 0x3ff, 0, 0, 0, 0, 0, 0⟩,
  ⟨0x80, 1, 4, 0, 0, 0, 0, 0, 0xffc003ff, 0⟩,
  ⟨0x88, 1, 4, 0, 0, 0, 0, 0, 0x7ff007f, 0⟩,
  ⟨0x8c, 1, 4, 0, 0, 0, 0, 0, 0xffffffff, 0⟩]

/-- The block registers of the THM page. -/
def rowsTHM : List RegRow := [
  ⟨0x40, 4, 4, 0, 0, 0, 0, 0, 0xffffffff, 0⟩,
  ⟨0x50, 1, 4, 0, 0, 0, 0, 0, 0xff, 0⟩,
  ⟨0x54, 1, 4, 0, 0, 0, 0, 0, 0xffffffff, 0⟩,
  ⟨0x58, 1, 4, 0, 0, 0, 0, 0, 0xffff, 0⟩,
  ⟨0x60, 1, 4, 0, 0, 0, 0, 0xf0f, 0, 0⟩,
  ⟨0x68, 1, 8, 0xffffffff, 0, 0, 0, 0, 0, 0⟩,
  ⟨0x6c, 1, 8, 0xff, 0, 0, 0, 0, 0, 0⟩,
  ⟨0x70, 1, 4, 0, 0, 0, 0, 0, 0x800000ff, 0⟩,
  ⟨0x74, 1, 4, 0, 0, 0, 0, 0, 0x1ff, 0⟩,
  ⟨0x78, 1, 4, 0, 0, 0, 0, 0, 0xffffffff, 0⟩,
  ⟨0x400, 768, 4, 0, 0, 0, 0, 0, 0xffffffff, 0⟩]

/-- The block registers of the LCS page. -/
def rowsLCS : List RegRow := [
  ⟨0x40, 1, 4, 0, 0, 0, 0, 0, 0x3f1f, 0⟩,
  ⟨0x44, 4, 4, 0, 0, 0, 0, 0, 0xffffffff, 0⟩,
  ⟨0x60, 1, 4, 0, 0, 0, 0, 0x1f0f, 0, 0⟩,
  ⟨0x64, 1, 4, 0, 0, 0, 0, 0, 0x800000ff, 0⟩,
  ⟨0x68, 1, 4, 0, 0, 0, 0, 0, 0x1ff01ff, 0⟩,
  ⟨0x6c, 1, 4, 0, 0, 0, 0, 0, 0xffff, 0⟩,
  ⟨0x80, 8, 4, 0, 0, 0, 0, 0xffffffff, 0, 0⟩,
  ⟨0xa0, 1, 4, 0, 0, 0, 0, 0, 0xc71ff3ff, 0⟩,
  ⟨0xa8, 1, 8, 0, 0, 0, 0, 0, 0xffffffff, 0⟩,
  ⟨0xac, 1, 8, 0, 0, 0, 0, 0, 0xffffffff, 0⟩,
  ⟨0xb0, 1, 4, 0xff, 0, 0, 0, 0, 0, 0⟩,
  ⟨0xc0, 8, 4, 0, 0, 0, 0, 0, 0xffffffff, 0⟩]

/-- The block registers of the FIT page. -/
def rowsFIT : List RegRow := [
  ⟨0x40, 1, 4, 0x8007ffff, 0, 0, 0, 0, 0, 0x8002003c⟩,
  ⟨0x44, 1, 4, 0xfe, 0, 0, 0, 0, 0, 0xfe⟩,
  ⟨0x48, 1, 4, 0xfffc, 0, 0, 0, 0, 0, 0xa114⟩,
  ⟨0x4c, 1, 4, 0xffff, 0, 0, 0, 0, 0, 0xffff⟩,
  ⟨0x50, 1, 8, 0xffffffff, 0, 0, 0, 0, 0, 0⟩,
  ⟨0x54, 1, 8, 0xffffffff, 0, 0, 0, 0, 0, 0⟩,
  ⟨0x58, 1, 4, 0x80ffffff, 0, 0, 0, 0, 0, 0⟩,
  ⟨0x60, 1, 4, 0, 0, 0, 0, 0xffff00ff, 0, 0⟩,
  ⟨0x68, 1, 8, 0, 0, 0, 0, 0, 0xfffff0ff, 0⟩,
  ⟨0x6c, 1, 8, 0, 0, 0, 0, 0, 0xffffffff, 0⟩,
  ⟨0x70, 1, 8, 0, 0, 0, 0, 0, 0xffffffff, 0⟩,
  ⟨0x74, 1, 8, 0, 0, 0, 0, 0, 0xffffffff, 0⟩,
  ⟨0x78, 1, 4, 0, 0, 0, 0, 0, 0xc0003fef, 0⟩,
  ⟨0x80, 1, 4, 0xfff, 0, 0, 0, 0, 0, 0⟩,
  ⟨0x84, 1, 4, 0, 0, 0, 0, 0, 0xff00ffff, 0⟩,
  ⟨0x88, 1, 8, 0, 0, 0, 0, 0, 0xffffffff, 0⟩,
  ⟨0x8c, 1, 8, 0, 0, 0, 0, 0, 0xffffffff, 0⟩,
  ⟨0x90, 1, 4, 0, 0, 0, 0, 0, 0xffffffff, 0⟩,
  ⟨0x94, 1, 4, 0, 0, 0, 0, 0, 0xffffffff, 0⟩]

/-- The block registers of the MON page. -/
def rowsMON : List RegRow := [
  ⟨0x40, 16, 4, 0, 0, 0, 0, 0, 0xffffffff, 0x80008000⟩,
  ⟨0x80, 1, 4, 0x1ff00ff, 0, 0, 0, 0, 0, 0x7d0073⟩,
  ⟨0x84, 1, 4, 0, 0, 0xfff, 0, 0, 0, 0⟩,
  ⟨0xc0, 12, 4, 0, 0, 0, 0, 0, 0xffffffff, 0xffff0000⟩]

/-- The block registers of the FLT page. -/
def rowsFLT : List RegRow := [
  ⟨0x40, 1, 4, 0, 0, 0, 0, 0, 0xffff, 0⟩,
  ⟨0x44, 1, 4, 0, 0, 0, 0, 1, 0, 0⟩,
  ⟨0x48, 1, 4, 0, 0, 0, 0, 0, 0xffffffff, 0⟩,
  ⟨0x4c, 1, 4, 0, 0, 0x80000000, 0, 0, 0xffff, 0⟩,
  ⟨0x50, 1, 4, 0xc000ffff, 0, 0, 0, 0, 0, 0xc0000408⟩,
  ⟨0x60, 1, 4, 0xff, 0, 0, 0, 0, 0, 0⟩,
  ⟨0x70, 4, 4, 0, 0, 0, 0, 0, 0xffffffff, 0⟩,
  ⟨0x100, 16, 8, 0xffffffff, 0, 0, 0, 0, 0, 0⟩,
  ⟨0x104, 16, 8, 0x8300ff00, 0, 0, 0, 0, 0, 0⟩]

end Sys2Proof.Machine
end

