-- ==== Sys2Proof/Machine/Types.lean ====
section
/-!
DEFINITION. The plain data the state is made of: one record for each subsystem, holding what its chapter gives it beside
the registers (the registers of all pages are one store, State.regs).
-/

namespace Sys2Proof.Machine

/-- The operating modes of R4. -/
inductive Mode where
  | off | hold | load | hemLoad | run | swap | doze | nap | hibernate | service | safe | transit
  deriving DecidableEq, Repr

/-- The code of a mode (R4). -/
def Mode.code : Mode → Nat
  | .off => 0 | .hold => 1 | .load => 2 | .hemLoad => 3 | .run => 4 | .swap => 5 | .doze => 6 | .nap => 7
  | .hibernate => 8 | .service => 9 | .safe => 10 | .transit => 11

/-- What an access answers its initiator (R19, R75, R175). -/
inductive Rsp where
  | okay | decode | access | ecc | timeout | isolated
  deriving DecidableEq, Repr

/-- The code of a response on the fabric window bus (R75). -/
def Rsp.code : Rsp → Nat
  | .okay => 0 | .decode => 1 | .access => 2 | .ecc => 3 | .timeout => 4 | .isolated => 5

/-- The last answer the module gave the outside: a response code, the words read, and the status byte or code of a
port where it has one; and what the other senders of the last cycle that had several received. The model's own field: no rule reads it. -/
structure Answer where
  rsp : Rsp
  data : List (BitVec 64)
  code : Nat
  also : List (Initiator × Rsp × List (BitVec 64))
  deriving DecidableEq, Repr

/-! ### Seam (R28 to R38) -/

/-- A commit that is waiting (R29): the tick it waits for, whether it is a COMMIT_AT, whether its seal point is
reached, and whether it applies late. -/
structure Commit where
  isAt : Bool
  target : Nat
  isSealed : Bool
  late : Bool
  deferred : Bool
  deriving DecidableEq, Repr

/-- A snapshot request that is pending (R36): the tick it waits for, and the registers its masks selected. -/
structure SnapReq where
  target : Nat
  words : List Nat
  deriving DecidableEq, Repr

/-- A panel's share of the Seam engine. `held` are the words of the held snapshot, by address. -/
structure SeamPanel where
  commit : Option Commit
  snapReq : Option SnapReq
  held : Option (List (Nat × Word))
  deriving DecidableEq, Repr

def SeamPanel.reset : SeamPanel := ⟨none, none, none⟩

/-! ### Fabric (R41 to R84) -/

/-- A global clock buffer (R63): its enable, its select, and the clock its output runs on (none: stopped low). -/
structure GBuf where
  en : Bool
  sel : Bool
  out : Option Bool
  deriving DecidableEq, Repr

/-- A DLL (R64, R404): aligned, and the direction of a step that is not yet acknowledged. -/
structure Dll where
  aligned : Bool
  step : Option Bool
  deriving DecidableEq, Repr

/-- A core access to a target port that the fabric has not answered yet (R70, R76): the core, the port, the address,
the direction, the value of a store; for a load the register it writes, its width, whether it is sign-extended and whether the register
is an F register; the length of the instruction; and the time it was forwarded. -/
structure TportReq where
  core : Nat
  port : Nat
  addr : Nat
  isWrite : Bool
  value : BitVec 64
  rd : Nat
  bytes : Nat
  signed : Bool
  fp : Bool
  len : Nat
  start : Nat
  deriving DecidableEq, Repr

/-- The fabric. `latch` and `map` hold the configuration frames and map records by frame address. The cells hold what they took since `start`, the
frames of each region at its last release: `ffs` the flip-flops (R47) by region x 12,288 + column x 1,024 + tile x 128 + slice x 16 + 2 x LUT,
with FB one higher; `luts` the content of LUTs that are RAMs or shift registers (R46) by region x 6,144 + column x 512 + tile x 64 + slice x 8
+ LUT; `chain` what a slice's carry chain last showed (R45), sums low and carries high; `bram` the rows of BRAM by block x 512 + row;
`bports` its ports by 2 x block + port; `clash` the blocks whose CLASH output is 1 (R52); `dsps` the DSP blocks; `lines` the rising edges of
each clock line, global from 0, regional from 64 (R60); `bouts` the boundary outputs that the design has changed, by region x 1,536 + cell, `iso` the boundary frames of an isolated region whose latches
have changed since (R80). `bramErr` are the bits
of the 72 of a guarded BRAM word that are wrong, by block x 512 + word; `repair` the words that wait for a write-back (R53); `params` the words
the capture units present, by region x 64 + n, and `paramPend` the regions that owe a presentation (R68); `pathIn` and `pathOut` the bases of the
data paths to and from the controller die (R77); `ppTx` the frames in the partner ports' buffers towards the fabric and `ppWait` those that wait for
room there (R78); `carry` the carry buffer of a swap by carry slot (flip-flops from 0, BRAM words
from 2^20), each value in bits 0 to 35 and its wrong bits above (R129). -/
structure Fab where
  latch : List (Nat × BitVec 4096)
  map : List (Nat × BitVec 256)
  held : BitVec 128
  badCfg : BitVec 128
  start : List (Nat × BitVec 4096)
  ffs : List (Nat × Bool)
  luts : List (Nat × BitVec 64)
  chain : List (Nat × BitVec 16)
  bram : List (Nat × BitVec 72)
  bports : List (Nat × BramPort)
  clash : List Nat
  dsps : List (Nat × Dsp)
  lines : List (Nat × Nat)
  bouts : List (Nat × Bool)
  iso : List (Nat × List (BitVec 4096))
  bramErr : List (Nat × BitVec 72)
  repair : List Nat
  params : List (Nat × Word)
  paramPend : BitVec 128
  paramUpd : List (Nat × Nat)
  gbufs : List (Nat × GBuf)
  dlls : List (Nat × Dll)
  linkUp : BitVec 16
  tports : List TportReq
  pathIn : Nat
  pathOut : Nat
  ppTx : List (Nat × List Byte)
  ppWait : List (Nat × List Byte)
  carry : List (Nat × BitVec 72)
  resetRel : List (Nat × Nat)
  deriving DecidableEq, Repr

def GBuf.reset : GBuf := ⟨false, false, none⟩
def Dll.reset : Dll := ⟨false, none⟩
def Fab.reset : Fab :=
  ⟨[], [], 0, BitVec.allOnes 128, [], [], [], [], [], [], [], [], [], [], [], [], [], [], 0, [], [], [], 0, [], 0, 0, [], [], [], []⟩

/-! ### Planes, swap and basting (R109 to R144) -/

/-- The stored state of a plane (R109, R110). ACTIVE is not stored. -/
inductive PlaneSt where
  | empty | writing | valid | invalid
  deriving DecidableEq, Repr

/-- A configuration plane: its stored state, its frames and map records by frame address, the 512 header bytes, the
FRAME_CRC of its trailer, its carry counts, its erase count (R122), and the frames with more bits in error than can be corrected (R158), rising. -/
structure PlaneRec where
  st : PlaneSt
  frames : List (Nat × BitVec 4096)
  map : List (Nat × BitVec 256)
  header : BitVec 4096
  frameCrc : Word
  carryFf : Nat
  carryBram : Nat
  cycles : Nat
  lost : List Nat
  deriving DecidableEq, Repr

def PlaneRec.reset : PlaneRec := ⟨.empty, [], [], 0, 0, 0, 0, 0, []⟩

/-- A plane write in progress (R120): its plane, its step (1 header, 2 pass 1, 3 pass 2, 4 verify), the time at which the next step follows, the
source address and its length, the header read once and the FRAME_CRC of the trailer (R96). -/
structure PlaneWrite where
  plane : Plane
  step : Nat
  next : Nat
  addr : Nat
  len : Nat
  header : BitVec 4096
  crc : Word
  deriving DecidableEq, Repr

/-- A swap that is pending or in its outage (R125, R126): the target, whether it is a trial, the time T or the start of
the outage, the mode it started from, which copy is made (0 the target, 1 the previous plane, 2 and 3 the Hem plane, R133) and the time at which
its check follows. -/
structure Swap where
  target : Plane
  trial : Bool
  time : Nat
  ret : Mode
  phase : Nat
  next : Nat
  deriving DecidableEq, Repr

/-- A basting in progress (R136): its step (1 header, 2 pass 1, 3 isolated, 4 writing, 5 verify), the time at which the
next step follows, its mask, the source address, the header read once and the FRAME_CRC of the trailer (R96). -/
structure Baste where
  step : Nat
  next : Nat
  mask : BitVec 128
  addr : Nat
  len : Nat
  header : BitVec 4096
  crc : Word
  deriving DecidableEq, Repr

/-- The pattern controller and basting. OP_STATE of both pages, the plane being written, what an outage, a basting and a RESTORE (its regions, and
when they are checked) hold, the selection and the loaded plane, the straps, the selection that a swap still has to store with its time, and whether
RUN entry owes FALLBACK. -/
structure Pat where
  planeA : PlaneRec
  planeB : PlaneRec
  planeHem : PlaneRec
  selectedB : Bool
  loaded : Option Plane
  trial : Bool
  override : Bool
  hemForced : Bool
  opState : Nat
  writing : Option PlaneWrite
  pending : Option Swap
  outage : Option Swap
  recovery : Bool
  fallback : Bool
  basState : Nat
  baste : Option Baste
  restore : Option (BitVec 128 × Nat)
  store : Option (Nat × Bool)
  deriving DecidableEq, Repr

def Pat.reset : Pat :=
  ⟨.reset, .reset, .reset, false, none, false, false, false, 0, none, none, none, false, false, 0, none, none, none⟩

/-! ### Monitors and the fault collector (R537 to R551) -/

/-- A fault code on its way into the log (R540): with its time, the mode at detection, FLAGS.SAFE and FLAGS.ISOLATE as
known when it was raised, and the bolt a fault 0x0A02 names (R543). -/
structure Intake where
  code : Nat
  time : Nat
  mode : Mode
  safe : Bool
  isolate : Bool
  bolt : Nat
  deriving DecidableEq, Repr

/-- A record of the fault log (R541). -/
structure FltRec where
  time : Nat
  code : Nat
  seq : Nat
  mode : Nat
  flags : Nat
  rep : Nat
  deriving DecidableEq, Repr

/-- The fault collector: the intake buffer (oldest first), the log (newest first), the sequence number of the next
record, the latched ALERT and OVERFLOW, a loss not yet reported (fault 0x5204), the rule counts and isolation counts
of the hour in course, and the copy of the 8 newest records that Selvage keeps. -/
structure Flt where
  intake : List Intake
  log : List FltRec
  seq : Nat
  alert : Bool
  overflow : Bool
  lossDue : Bool
  hour : Nat
  ruleCnt : List (Nat × Nat)
  boltCnt : List (Nat × Nat)
  cluCnt : List (Nat × Nat)
  kept : List FltRec
  safeDue : Bool
  deriving DecidableEq, Repr

def Flt.reset : Flt := ⟨[], [], 0, false, false, false, 0, [], [], [], [], false⟩

/-- A temperature sensor (R537, R538): failed, since when its paths differ or its reading is out of range, since when
it reads at or above CRIT and TRIP, and which of WARN, CRIT and TRIP have acted and not re-armed. -/
structure Sensor where
  failed : Bool
  badSince : Option Nat
  critSince : Option Nat
  tripSince : Option Nat
  warned : Bool
  crited : Bool
  tripped : Bool
  sampled : Bool
  deriving DecidableEq, Repr

def Sensor.reset : Sensor := ⟨false, none, none, none, false, false, false, false⟩

/-! ### Thimble (R468 to R478) -/

/-- An image-signing key slot (R470): programmed, revoked, the SHA-384 digest of its key. -/
structure SignSlot where
  programmed : Bool
  revoked : Bool
  digest : BitVec 384
  deriving DecidableEq, Repr

/-- An image-decryption key slot (R470). -/
structure DkeySlot where
  programmed : Bool
  revoked : Bool
  key : BitVec 256
  deriving DecidableEq, Repr

def SignSlot.reset : SignSlot := ⟨false, false, 0⟩
def DkeySlot.reset : DkeySlot := ⟨false, false, 0⟩

/-- Thimble's one-time-programmable content (R468 to R473): UID, the security-version counter, the key slots, the
certificates; and the result of the start of firmware. -/
structure Thm where
  uid : BitVec 128
  svn : Nat
  sign : List (Nat × SignSlot)
  dkey : List (Nat × DkeySlot)
  certs : List Byte
  certDev : Nat
  certCa : Nat
  bootCode : Nat
  bootSlot : Nat
  asymBase : Nat
  deriving DecidableEq, Repr

def Thm.reset : Thm := ⟨0, 0, [], [], [], 0, 0, 0, 0, 0⟩

/-! ### Overlock (R145 to R166) -/

/-- A sweep engine (R147): sweeping, the region of its bolt and the frame it visits next, when its sweep started,
whether its overrun was reported, and how long its last completed sweep took, in µs. -/
structure Sweep where
  on : Bool
  region : Nat
  frame : Nat
  start : Nat
  late : Bool
  lastUs : Nat
  deriving DecidableEq, Repr

/-- What the refresher keeps of one plane: spare slots, damaged, the active time of the last pass (none: one is owed). -/
structure PlaneCare where
  spare : Nat
  damaged : Bool
  last : Option Nat
  deriving DecidableEq, Repr

/-- Overlock. `ref` is the content of the frames that the check words and syndrome bases of the reference memory stand for;
`bad` holds the known-bad frames, `unchecked` those whose reference is lost; the pass in progress is of plane `rfPlane`,
at frame `rfFrame`, with `rfCount` rewrites; `activeNs` is the time spent in RUN, SERVICE, DOZE and SAFE, and `hotSince` that time when the
case rose above 85 °C, while it stays there. -/
structure Ovl where
  ref : List (Nat × BitVec 4096)
  bad : List (Nat × Bool)
  unchecked : List (Nat × Bool)
  engines : List (Nat × Sweep)
  lastBits : Nat
  rfPlane : Option Plane
  rfFrame : Nat
  rfCount : Nat
  care : List (Nat × PlaneCare)
  activeNs : Nat
  hotSince : Option Nat
  deriving DecidableEq, Repr

def Sweep.reset : Sweep := ⟨false, 0, 0, 0, false, 0⟩
def PlaneCare.reset : PlaneCare := ⟨64, false, none⟩
def Ovl.reset : Ovl := ⟨[], [], [], [], 0, none, 0, 0, [], 0, none⟩

/-! ### Pins (R320 to R342) and pin schedules (R343 to R355) -/

/-- What a pin's pad takes from the module: output enable and level. -/
structure Drive where
  oe : Bool
  level : Bool
  deriving DecidableEq, Repr

/-- A switch of a pin's function in course (R333, R334): the pad-clock edge E, the PIN_MUX word that drives the pad until then (none: the keeper of
the window before), until when the mask of a window before it lasts, whether a commit gave the new function, whether E and E + 20 ns have passed. -/
structure PinSwitch where
  edge : Nat
  prev : Option Nat
  maskTo : Nat
  staged : Bool
  begun : Bool
  taken : Bool
  deriving DecidableEq, Repr

/-- A pin: the level a board source gives the land (none: no source), the accepted level of the detector and at how many edges in a row another has
been sampled (R332), the drive held under LAST while its region is isolated and whether the pad follows the hold policy, as it does from a pad-clock
edge to another (R131, R132), the drive kept in NAP (R335), the keeper's level, the two stages of PIN_PAD's
synchroniser (R330), at how many edges in a row it has differed from the driven level (R331), its switch window (R333), the drive at the last pad-clock edge and since when (R331), the drive of the time-triggered edges, and
the time and the channel of the last one (R351, R352). -/
structure Pin where
  board : Option Bool
  accepted : Bool
  run : Nat
  held : Option Drive
  iso : Bool
  nap : Option Drive
  keep : Bool
  sync1 : Bool
  sync2 : Bool
  differs : Nat
  win : Option PinSwitch
  drv : Drive
  drvAt : Nat
  tte : Drive
  tteLast : Option (Nat × Nat)
  deriving DecidableEq, Repr

/-- A bank: its rail is good, and it was shut down by R339, with the time at which a retry makes it good again; PIN_OUT and PIN_OE as they stand at the pads since the last pad-clock edge, the bits that
PIN_OUT_SET and PIN_OUT_CLR name before the next, the words of PIN_OUT that a commit has applied since the last (R326); the interrupt latches set and
cleared since the last pad-clock edge (R332). -/
structure Bank where
  good : Bool
  shut : Bool
  again : Option Nat
  out : Nat
  oe : Nat
  toSet : Nat
  toClr : Nat
  com : Nat
  setNow : Nat
  clrNow : Nat
  deriving DecidableEq, Repr

def Drive.off : Drive := ⟨false, false⟩
def Pin.reset : Pin := ⟨none, false, 0, none, false, none, false, false, false, 0, none, .off, 0, .off, none⟩
def Bank.reset : Bank := ⟨false, false, none, 0, 0, 0, 0, 0, 0, 0⟩

/-- A pleat group (R343 to R349): running, waiting for T0, T0, the frame and slot in course counted from T0, a STOP
asked, frames left (0: no count), the raw vectors of the frame in course, the last raw vector of each member with how
often it was seen, a halt by NAP, whether the slot in course has been sampled, and the members there since the start of the frame (R349). -/
structure Group where
  running : Bool
  waiting : Bool
  late : Bool
  t0 : Nat
  frame : Nat
  slot : Nat
  stopping : Bool
  left : Nat
  raw : List (Nat × Nat)
  hist : List (Nat × (Nat × Nat))
  napHalt : Bool
  sampled : Bool
  full : List Nat
  deriving DecidableEq, Repr

def Group.reset : Group := ⟨false, false, false, 0, 0, 0, false, 0, [], [], false, false, []⟩

/-- The pleat page: the groups, the tables in use, the tables applied and not yet taken, with the apply tick and the pin (R348), the published
vectors, the group that published each, and the fire time of each armed channel with whether it is late. -/
structure Plt where
  groups : List (Nat × Group)
  tables : List (Nat × Word)
  applied : List (Nat × (Nat × Word))
  published : List (Nat × Nat)
  pubBy : List (Nat × Nat)
  fireAt : List (Nat × (Nat × Bool))
  deriving DecidableEq, Repr

def Plt.reset : Plt := ⟨[], [], [], [], [], []⟩

/-! ### Life cycle (R495 to R520) -/

/-- A token slot (R501, R502). -/
structure TokenSlot where
  programmed : Bool
  consumed : Bool
  digest : BitVec 384
  deriving DecidableEq, Repr

/-- An outstanding debug challenge (R511). -/
structure Challenge where
  jtag : Bool
  panel : Nat
  scope : Nat
  minutes : Nat
  keyId : Nat
  slot : Nat
  nonce : Nat
  issued : Nat
  deriving DecidableEq, Repr

/-- An active debug grant (R512 to R514). `full` is the grant of SERVICE_OPEN (R510). -/
structure Grant where
  jtag : Bool
  panel : Nat
  scope : Nat
  keyId : Nat
  slot : Nat
  endTime : Nat
  full : Bool
  deriving DecidableEq, Repr

/-- An entry of the grant log (R516). -/
structure GrantLog where
  start : Nat
  endT : Nat
  panel : Nat
  keyId : Nat
  scope : Nat
  route : Nat
  partner : Nat
  reason : Nat
  state : Nat
  seq : Nat
  deriving DecidableEq, Repr

/-- The life-cycle controller. `st` is the decoded state (R495), `word` the state word, `records` the transition records,
`tokenBuf` what LCS_TOKEN0 to 7 were given, `log` the grant log (newest first), `base` the rotating base
of R516, `halted` the cores halted by debug, `tap`
the JTAG instruction selected and `bsr` the boundary-scan register. -/
structure Lcs where
  word : BitVec 128
  st : Nat
  records : List Nat
  tokens : List (Nat × TokenSlot)
  tokenBuf : List (Nat × Word)
  lockedOut : Bool
  resumed : Bool
  badWord : Bool
  challenge : Option Challenge
  grant : Option Grant
  log : List GrantLog
  base : Nat
  halted : List Nat
  tap : Nat
  bsr : BitVec 960
  deriving DecidableEq, Repr

def TokenSlot.reset : TokenSlot := ⟨false, false, 0⟩

/-- As shipped (R495): MANUFACTURE, with the nibbles of steps 1 to 15 programmed (R499). -/
def Lcs.reset : Lcs :=
  ⟨0x000F00FF00FF00FF00FF00FF00FF00FF, 0x0F, [], [], [], false, false, false, none, none, [], 0, [], 0x01, 0⟩

/-! ### Cores (R167 to R189) and Bobbin (R190 to R249) -/

/-- What Bobbin saves and restores of a thread on a core, but the F registers (R179, R191): x1 to x31 by number, the
pc, the trap registers, mie, DB_RESULT, the privilege level and the mstatus fields, fcsr. -/
structure Ctx where
  x : List (Nat × BitVec 64)
  pc : BitVec 64
  mepc : BitVec 64
  mcause : BitVec 64
  mtval : BitVec 64
  mscratch : BitVec 64
  mie : BitVec 64
  dbResult : BitVec 64
  prv : Nat
  mstMie : Bool
  mstMpie : Bool
  mpp : Nat
  fs : Nat
  mprv : Bool
  fcsr : Nat
  deriving DecidableEq, Repr

def Ctx.reset : Ctx := ⟨[], 0, 0, 0, 0, 0, 0, 0, 3, false, false, 0, 0, false, 0⟩

/-- A core. It runs outside any thread while `thread` is none; `chosen` is the thread Bobbin has chosen for it and not
yet restored (R200); `waiting` is a store to a doorbell outside a thread that never completes (R203, R245). `outRes` is
DB_RESULT outside a thread (R206), `cancel` mip.CANCEL; `stale` that INIT came for its thread while the cancelled one was still on it, so that nothing
of it is saved (R195); `pmp` holds pmpaddr0 to 15 and, from key 16,
the 16 configuration bytes; `wbuf` the posted stores (address, size, data), oldest first; `resv` the reserved granule;
`icache` the cached lines by line number; `idleTrap` an interrupt handler runs that the core took while it had no thread to run (R182). -/
structure Core where
  started : Bool
  joined : Bool
  halted : Bool
  waiting : Bool
  thread : Option Nat
  chosen : Option Nat
  quantum : Bool
  cancel : Bool
  stale : Bool
  ctx : Ctx
  f : List (Nat × BitVec 64)
  outRes : BitVec 64
  mtvec : BitVec 64
  mcounteren : BitVec 64
  pmp : List (Nat × BitVec 64)
  mcycle : BitVec 64
  minstret : BitVec 64
  wbuf : List (Nat × Nat × BitVec 64)
  resv : Option Nat
  icache : List (Nat × List Byte)
  idleTrap : Bool
  deriving DecidableEq, Repr

def Core.reset : Core :=
  ⟨false, false, false, false, none, none, false, false, false, .reset, [], 0, 0, 0, [], 0, 0, [], none, [], false⟩

/-- The states of a thread (R194). -/
inductive TState where
  | unused | dormant | ready | running | waiting | suspended | cancelled
  deriving DecidableEq, Repr

/-- The code of a state (R194). -/
def TState.code : TState → Nat
  | .unused => 0 | .dormant => 1 | .ready => 2 | .running => 3 | .waiting => 4 | .suspended => 5 | .cancelled => 6

/-- A thread: its context as last saved and the fields Bobbin keeps (R191). `timer` is its timeout slot and deadline;
`seq` the number of its current ready entry (R238); `readyAt` when it became READY; `damaged` an uncorrectable error stands in its record or FP
area (R205). -/
structure Thread where
  ctx : Ctx
  base : Nat
  eff : Nat
  aff : Nat
  st : TState
  reason : Nat
  fp : Bool
  pinned : Bool
  pend : Bool
  fpArea : Option Nat
  onCore : Bool
  waitArg : BitVec 64
  timer : Option (Nat × Nat)
  mutexes : Nat
  runNs : Nat
  lastDispatch : Nat
  dispatches : Nat
  lastCore : Nat
  seq : Nat
  readyAt : Nat
  damaged : Bool
  deriving DecidableEq, Repr

def Thread.reset : Thread :=
  ⟨{ Ctx.reset with prv := 0 }, 0, 0, 0, .unused, 0, false, false, false, none, false, 0, none, 0, 0, 0, 0, 0, 0, 0, false⟩

/-- A semaphore or mutex (R214, R215): its queue in the order in which it is served. -/
structure Sem where
  count : Nat
  mutex : Bool
  owner : Option Nat
  abandoned : Bool
  queue : List Nat
  deriving DecidableEq, Repr

def Sem.reset : Sem := ⟨0, false, none, false, []⟩

/-- An event-flag group (R216): its value and its waiters in the order in which they are examined. -/
structure Grp where
  val : BitVec 32
  waiters : List Nat
  deriving DecidableEq, Repr

def Grp.reset : Grp := ⟨0, []⟩

/-- A ready entry (R237). `held` is the core a thread chosen under R201 is held with: it takes no list entry (R233). `ord` is its place within
its level (R199): the threads that join the tail count up, those that join the head count down. -/
structure Entry where
  ord : Int
  thread : Nat
  level : Nat
  origin : Nat
  aff : Nat
  seq : Nat
  time : Nat
  held : Option Nat
  deriving DecidableEq, Repr

/-- What a slot of the Spool reads as before any entry is written to it: the zeros of the fill (R257). -/
def noEntry : Entry := ⟨0, 0, 0, 0, 0, 0, 0, none⟩

/-- A Spool block (R233 to R239): its number, its level, whether it was made for one preempted thread, its entries. -/
structure SpBlock where
  num : Nat
  level : Nat
  own : Bool
  entries : List Entry
  deriving DecidableEq, Repr

/-- Bobbin. `saved` holds the record of each thread as last saved (R191); `chip` the on-chip ready entries in the order
of dispatch, `pbuf` the placement buffer, `blocks` the Spool's blocks in the order of dispatch; `latches` the pending
sources, rising; `bindLow` the held low word of BOB_BIND, `bindFor` the source
for which it waits for the high word; `cmd` the result of the command in progress; `cache` the
resident contexts, the least recently used first; `fpool` the FP pool by area x 32 + n; `abase` the arbitration base (R231); `missed` the cores
whose Spool search found nothing since the last refill or spill (R235); `rebuild` the levels in rebuild with the time at which each ends
(R241); `saveAt` the save area of the flush (R243); `joins` counts the threads that have joined a level (R199); `slots` what each written slot of the Spool holds, by block x 32 + n, stale entries
included (R237, R238). -/
structure Bob where
  slots : List (Nat × Entry)
  joins : Nat
  threads : List (Nat × Thread)
  saved : List (Nat × Thread)
  sems : List (Nat × Sem)
  groups : List (Nat × Grp)
  chip : List Entry
  pbuf : List Entry
  blocks : List SpBlock
  seq : Nat
  latches : List Nat
  ibase : Nat
  bindings : List (Nat × BitVec 64)
  bindLow : BitVec 32
  bindFor : Option Nat
  lastRec : Nat
  cache : List Nat
  fpool : List (Nat × BitVec 64)
  cmd : Option (Nat × Nat)
  full : Bool
  flushing : Bool
  isSaved : Bool
  abase : Nat
  missed : List Nat
  rebuild : List (Nat × Nat)
  saveAt : Nat
  deriving DecidableEq, Repr

def Bob.reset : Bob := ⟨[], 0, [], [], [], [], [], [], [], 0, [], 0, [], 0, none, 262143, [], [], none, false, false, false, 0, [], [], 0⟩

/-! ### Memories (R250 to R264) -/

/-- The memories beside their bytes. `bad` holds the aligned 64-bit words (address / 8) that read uncorrectable, rising;
`fillNext` and `fillMore` the DRAM segments filled, `fillOn` the zero-fill in course since RUN entry (R257); the hour in course with its corrected errors; the next word of the
patrol scrub, and the time outside NAP and HIBERNATE since its pass began, none before the first (R259); the last request to the DRAM (R258), none
before the first; the rotating base of each SRAM bank; the banks filled at the last HOLD or wake. -/
structure Mem where
  scrubAge : Option Nat
  bad : List Nat
  fillNext : Nat
  fillMore : List Nat
  fillOn : Bool
  hour : Nat
  hourCe : Nat
  hourRaised : Bool
  scrubWord : Nat
  scrubOn : Bool
  selfRefresh : Bool
  down : Bool
  lastReq : Option Nat
  bankBase : List (Nat × Nat)
  lost : Nat
  deriving DecidableEq, Repr

def Mem.reset : Mem := ⟨none, [], 0, [], false, 0, 0, false, 0, false, false, false, none, [], 0xFF⟩

/-! ### Code flash (R265 to R294) -/

/-- A fetched descriptor (R272): its index, the address of its slot in the ring, its fields. -/
structure Desc where
  idx : Nat
  slot : Nat
  op : Nat
  flags : Nat
  count : Nat
  addr : Nat
  buf : Nat
  started : Bool
  deriving DecidableEq, Repr

/-- An operation in the array: its descriptor (none: journal replay), the page or sector in course, the sectors moved to
spares, the data taken from the buffer. -/
structure FlsOp where
  desc : Option Desc
  code : Nat
  addr : Nat
  count : Nat
  pos : Nat
  moved : Nat
  data : List Byte
  deriving DecidableEq, Repr

/-- A bank (R276): its state code, the erase or program, the program within a suspended erase, an automatic suspend, when
an erase was last resumed, a SUSPEND that waits for the 1 ms of R277. -/
structure FlsBank where
  st : Nat
  op : Option FlsOp
  inner : Option FlsOp
  auto : Bool
  resumed : Option Nat
  suspDue : Option Nat
  deriving DecidableEq, Repr

def FlsBank.reset : FlsBank := ⟨0, none, none, false, none, none⟩

/-- The remap table, stored three times (R279): the block of each sector and option unit that does not lie in its own. -/
structure Remap where
  one : List (Nat × Nat)
  two : List (Nat × Nat)
  three : List (Nat × Nat)
  deriving DecidableEq, Repr

/-- The flash controller. `descs` are the fetched descriptors that are not DONE, oldest first; `opt` the operation in the
option area; `retired` the sectors that move to a spare at their next erase, `unusable` those without one; `remap` where each sector and option unit
lies, `dead` the blocks taken out of use (R279); `cycles` the erase cycles of each block; `rfCopy` the unit that refresh copies, with the spare it
copies it into (R288, R290); `bootDue` the slot that boot ROM takes up once its banks are replayed (R287); `replay` the sectors journal replay has still to erase; `optCopy` the configuration copy in use;
`half` the active journal half; `boot` the boot slot that the last start found (R287); `weak` the units of which a normal read needed
correction (R288); `paused` the banks that a NAP entry has suspended, while the NAP lasts (R291); the refresh pass in course; when each hold bit was set; the prefetch and branch lines per
bank, the least recently used first, and the line of the last fetch. -/
structure Fls where
  remap : Remap
  dead : List Nat
  rfCopy : Option (Nat × Nat)
  bootDue : Option Nat
  banks : List (Nat × FlsBank)
  descs : List Desc
  opt : Option FlsOp
  retired : List Nat
  unusable : List Nat
  lowRaised : List Nat
  cycles : List (Nat × Nat)
  half : Nat
  optCopy : Option Nat
  replay : List Nat
  base : Nat
  rfOn : Bool
  rfUnit : Nat
  rfCount : Nat
  rfLast : Option Nat
  holdAt : List (Nat × Nat)
  prefetch : List (Nat × List Nat)
  branch : List (Nat × List Nat)
  lastLine : List (Nat × Nat)
  paused : Option (List Nat)
  stopReset : Bool
  boot : Nat
  weak : List Nat
  deriving DecidableEq, Repr

def Fls.reset : Fls :=
  ⟨⟨[], [], []⟩, [], none, none, [], [], none, [], [], [], [], 0, none, [], 0, false, 0, 0, none, [], [], [], [], none, false, 0, []⟩

/-! ### Queues (R295 to R319) -/

/-- What a handshake in progress does (R311, R313): MARK; REWIND on its way to the producer domain, there with its mark valid, or there with the mark
lost; FLUSH; FLUSH_FORCE; a forced reset. -/
inductive ShakeOp where
  | mark | rewind | rewound | markLost | flush | force | reset
  deriving DecidableEq, Repr

/-- A handshake in progress (R311): what it does, the side its command came from (1 producer, 0 consumer, 2 the register page), the requester whose
store it completes, the pointer it carries, TIM_NOW at its start. -/
structure Shake where
  op : ShakeOp
  side : Nat
  who : Option Nat
  ptr : Nat
  t0 : Nat
  deriving DecidableEq, Repr

/-- A pending flush (R309, R310): the side and the requester it came from, FLUSH_FORCE, whether its request is in the producer domain, TIM_NOW at the
request. -/
structure FlushReq where
  side : Nat
  who : Option Nat
  force : Bool
  reached : Bool
  t0 : Nat
  deriving DecidableEq, Repr

/-- A queue. `ram` holds the words by address, `bad` the addresses that read uncorrectable; `wptr` and `rptr` the
pointers, `wSeen` the write pointer as the consumer sees it and `rSeen` the read pointer as the producer does (R300), `wTimes` and `rTimes` the times of
the pushes and pops which the other side has not seen yet, oldest first (R299); `owner` the requester of the open packet; `mark` the mark, `markLost` one that a push has overwritten (R312); `errWord` an
ERROR word that waits; `taken` the place, from the read pointer, of the next word of a packet in delivery; `armed` the threshold event; `resP` and `resC`
RESULT of the two sides (R304). -/
structure Que where
  ram : List (Nat × BitVec 64)
  bad : List Nat
  wptr : Nat
  rptr : Nat
  wSeen : Nat
  rSeen : Nat
  wTimes : List Nat
  rTimes : List Nat
  owner : Option Nat
  flush : Option FlushReq
  shake : Option Shake
  mark : Option Nat
  markLost : Bool
  errWord : Option (BitVec 64)
  taken : Option Nat
  armed : Bool
  resP : Nat
  resC : Nat
  deriving DecidableEq, Repr

def Que.reset : Que := ⟨[], [], 0, 0, 0, 0, [], [], none, none, none, none, false, none, none, true, 0, 0⟩

/-! ### Clocks (R387 to R407) -/

/-- The settings of a PLL (R390): reference (0 XO25, 1 RC100, 2 PCIE_REFCLK), M, N, F, the spread fields (CFG[14:0]), and
for each output its enable, delay and D. -/
structure PllSet where
  ref : Nat
  m : Nat
  n : Nat
  f : Nat
  ss : Nat
  outs : List (Bool × Nat × Nat)
  deriving DecidableEq, Repr

def PllSet.off : PllSet := ⟨0, 1, 0, 0, 0, []⟩

/-- A band-memory entry (R399). -/
structure PllEntry where
  set : PllSet
  band : Nat
  ctrl : Nat
  deriving DecidableEq, Repr

/-- A PLL: its STATE code, the active settings, the slow-down divider (1: none), the VCO band and control value, the band
memory, LAST_ENTRY, when its relock started, whether fault 0x0406 was raised for it, a lock declared digitally because its
LKF land is bad, an output update that waits for its common restart. -/
structure Pll where
  st : Nat
  act : PllSet
  slow : Nat
  band : Nat
  ctrl : Nat
  entries : List (Nat × PllEntry)
  last : Nat
  start : Nat
  late : Bool
  digital : Bool
  upd : Option PllSet
  deriving DecidableEq, Repr

def Pll.reset : Pll := ⟨0, .off, 1, 0, 0, [], 0, 0, false, false, none⟩

/-- The clocks: the PLLs, XO25 ready, the references lost (bit r), RC fallback, RC32 in use, a bad LKF land, PERST_N. -/
structure Clk where
  plls : List (Nat × Pll)
  xoReady : Bool
  lost : BitVec 3
  fallback : Bool
  rc32 : Bool
  lkfBad : Bool
  perst : Bool
  deriving DecidableEq, Repr

def Clk.reset : Clk := ⟨[], false, 0, false, false, false, true⟩

/-! ### Time base and watchdogs (R408 to R427) -/

/-- A watchdog: the timeout of the count in course (ns; always-on ticks for the system watchdog), what it has counted since
its restart, WARN raised, and expired with the module running on (R419). -/
structure Wdg where
  timeout : Nat
  used : Nat
  warned : Bool
  stopped : Bool
  deriving DecidableEq, Repr

def Wdg.reset : Wdg := ⟨0, 0, false, false⟩

/-- The time base: the fraction carried (2^-32 ns), steering, with where it began (TIM_NOW, fraction, always-on count) and
the difference to remove (2^-32 ns), what each increment gets until the next always-on tick, the high words captured by each initiator, the held low words and the values that
apply at the next tick of the compare channels, the control and period words of those written since the last tick as they stood then, the capture of a sleep (R414: t0, f0, a0); and the watchdogs of the cores
(0 to 15), the panels (16 to 23) and the system (24). -/
structure Tim where
  frac : Nat
  steering : Bool
  steer0 : Nat × Nat × Nat
  diff : Int
  adj : Int
  caps : List (Nat × Word)
  cmpLow : List (Nat × Word)
  cmpNext : List (Nat × BitVec 64)
  cmpWas : List (Nat × Word × Word)
  sleep : Option (Nat × Nat × Nat)
  wdg : List (Nat × Wdg)
  deriving DecidableEq, Repr

def Tim.reset : Tim := ⟨0, false, (0, 0, 0), 0, 0, [], [], [], [], none, []⟩

/-! ### Power and modes (R428 to R467) -/

/-- A latched wake event (R458): source code, INDEX. -/
abbrev Wake := Nat × Nat

/-- What Selvage and the front end hold beside the registers. `vin` VIN is valid; `resetN` RESET_N is held low; `locked`
the module stays in HOLD (R433, R434); `tries` the failed starts; `railOffs` the always-on counts of the last rail
shutdowns; `offDue` the fault of R438 is owed, `borDue` fault 0x0201 and `failDue` fault 0x0202; `charge` the always-on
count at which the VHOLD charging began; `overAt` since when the power average is on
the other side of LIMIT than OVER_BUDGET says; `req` the pending request (a mode
code), `entry` the mode whose entry is in progress, `latch` the wake events, oldest first, `latching` from step 1 of an
entry on; `modReset` the module reset that waits (cause, panel); `wakeHeld` a HIBERNATE wake that failed for good and
`wakeTries` its failed attempts; `runDue` RUN entry waits for PLL0 to PLL2 (true: of a HIBERNATE wake); `alertHeld` ALERT_N stays low, from a shutdown, a RESET_N
or a module reset on until RUN entry (R545); `aonLow` the
held low word of AON_WAKE_AT; `retained` AON_RETAIN as sampled at the entry; `powers` the input power of the last 100
samples in mW, newest first; `alarms` the timed wake targets taken at an entry (source code, INDEX, target). -/
structure Pwr where
  vin : Bool
  resetN : Bool
  locked : Bool
  tries : Nat
  railOffs : List Nat
  offDue : Bool
  borDue : Bool
  failDue : Bool
  alertHeld : Bool
  charge : Option Nat
  overAt : Option Nat
  req : Option Nat
  entry : Option Nat
  latch : List Wake
  latching : Bool
  modReset : Option (Nat × Nat)
  wakeHeld : Bool
  wakeTries : Nat
  runDue : Option Bool
  aonLow : Word
  retained : Nat
  powers : List Nat
  alarms : List (Nat × Nat × Nat)
  deriving DecidableEq, Repr

def Pwr.reset : Pwr :=
  ⟨true, false, false, 0, [], false, false, false, false, none, none, none, none, [], false, none, false, 0, none, 0, 0, [], []⟩

/-! ### Host ports (R364 to R386) -/

/-- A PCIe function: its configuration space by DW (those not at reset), its MSI-X table by DW, the PBA, the vectors whose
source was 1 when last seen, the MBX_IN buffer, the frame in MBX_OUT and those held for it. -/
structure PcieFn where
  cfg : List (Nat × Word)
  msix : List (Nat × Word)
  pba : BitVec 64
  level : BitVec 64
  mbxIn : List (Nat × Byte)
  out : List (List Byte)
  deriving DecidableEq, Repr

def PcieFn.reset : PcieFn := ⟨[], [], 0, 0, [], []⟩

/-- A response kept by a quad-SPI port (R376): TAG, RCRC, STATUS, body. -/
structure Kept where
  tag : Nat
  crc : Word
  status : Nat
  body : List Byte
  deriving DecidableEq, Repr

/-- A quad-SPI port: the kept response, the frames for S_RECV, oldest first. -/
structure QspiPort where
  kept : Option Kept
  out : List (List Byte)
  deriving DecidableEq, Repr

def QspiPort.reset : QspiPort := ⟨none, []⟩

/-- The host ports. `held` are the PCIe requests held in NAP (R382), `msgs` the MSI-X messages issued (function, vector),
oldest first, an output of the module. -/
structure Hst where
  fns : List (Nat × PcieFn)
  ports : List (Nat × QspiPort)
  linkUp : Bool
  speed : Nat
  width : Nat
  held : List PcieCmd
  msgs : List (Nat × Nat)
  deriving DecidableEq, Repr

def Hst.reset : Hst := ⟨[], [], false, 0, 0, [], []⟩

/-! ### Sessions (R478 to R491) -/

/-- An enrolment entry (R478). -/
structure Enrol where
  valid : Bool
  enabled : Bool
  rights : Nat
  panel : Nat
  maxSess : Nat
  label : BitVec 128
  key : List Byte
  deriving DecidableEq, Repr

def Enrol.reset : Enrol := ⟨false, false, 0, 0, 0, 0, []⟩

/-- A session slot (R481 to R490): its state (0 FREE, 1 HANDSHAKE, 2 OPEN), port, partner and generation, the highest SEQ
accepted, the last SEQ sent, the tag failures in a row, when the last frame was accepted (in a handshake: when CHALLENGE
was sent), TH and the 72 bytes derived, the cell whose turn it is, and the cells that are full. -/
structure Slot where
  st : Nat
  port : Nat
  partner : Nat
  gen : Nat
  seqIn : Nat
  seqOut : Nat
  bad : Nat
  last : Nat
  th : BitVec 384
  keys : List Byte
  cell : Bool
  full0 : Bool
  full1 : Bool
  deriving DecidableEq, Repr

def Slot.reset : Slot := ⟨0, 0, 0, 0, 0, 0, 0, 0, 0, [], false, false, false⟩

/-- The session engine: the enrolment table, the slots, the frames that wait for the engine with the port each came by
(0 to 3 PCIe function, 4 and 5 quad-SPI port, 8 to 23 partner port), oldest first. -/
structure Ses where
  enrol : List (Nat × Enrol)
  slots : List (Nat × Slot)
  inbox : List (Nat × List Byte)
  deriving DecidableEq, Repr

def Ses.reset : Ses := ⟨[], [], []⟩

/-! ### The debug module (R513, R515) -/

/-- The debug module behind DTMCS and DMI, of RISC-V External Debug Support 0.13.2: dmactive, hartsel, data0 to data3, cmderr,
the harts whose resume was acknowledged, dcsr of each hart, and the triggers: tselect, and tdata1 and tdata2 by hart x 16 +
trigger. PRESUMED (log 17). -/
structure Dm where
  active : Bool
  hart : Nat
  data : List (Nat × Word)
  cmderr : Nat
  acks : List Nat
  dcsr : List (Nat × Word)
  tselect : List (Nat × Nat)
  tdata1 : List (Nat × BitVec 64)
  tdata2 : List (Nat × BitVec 64)
  deriving DecidableEq, Repr

def Dm.reset : Dm := ⟨false, 0, [], 0, [], [], [], [], []⟩

/-! ### Fitting (R521 to R535) -/

/-- A slice that runs: its class, unit and number, when it started, forced (R527), the repeat of R531, demanded (R532). -/
structure FitRun where
  cls : Nat
  unit : Nat
  slice : Nat
  start : Nat
  forced : Bool
  retry : Bool
  demanded : Bool
  deriving DecidableEq, Repr

/-- A unit: the slices passed in the round (bit n: slice n), the aborts in a row of the pending slice, the slice that is forced,
overdue, FAILED, and when all slices were last passed. -/
structure FitUnit where
  passed : Nat
  aborts : Nat
  force : Option Nat
  overdue : Bool
  failed : Bool
  last : Nat
  deriving DecidableEq, Repr

def FitUnit.reset : FitUnit := ⟨0, 0, none, false, false, 0⟩

/-- Fitting: the units by class x 256 + unit, the slices that run, the demanded slices in order, when the round began and
whether it is done, when a slice last started, the open window's end, and the queues that QUE_CFG may not enable (R531). -/
structure Fit where
  units : List (Nat × FitUnit)
  running : List FitRun
  demand : List (Nat × Nat × Nat)
  began : Nat
  isDone : Bool
  lastStart : Option Nat
  window : Option Nat
  barred : List Nat
  deriving DecidableEq, Repr

def Fit.reset : Fit := ⟨[], [], [], 0, false, none, none, []⟩

end Sys2Proof.Machine
end

