-- ==== Sys2Proof/Machine/State.lean ====
section
/-!
DEFINITION. The state of the module: its mode, the registers of all pages, the staged shadows, the memories, one record
for each subsystem, the last answer, the counter behind the free values, and the queue of the commands that wait.
State.reset is the module as it enters HOLD for the first time.
-/

namespace Sys2Proof.Machine

/-- Why the module stops. No command of this module stops it: the type has one constructor, which no meaning uses.
Safe. -/
inductive Fault where
  /-- Nothing raises it. Safe. -/
  | halted
  deriving DecidableEq, Repr

/-- Why a command has no meaning. -/
inductive Refusal where
  /-- A command the model does not give a meaning to, by its mnemonic; raised by the dispatch only. Safe. -/
  | notModelled (mnemonic : String)
  deriving DecidableEq, Repr

/-- The whole state. `mode` is AON_STATUS.MODE, `prevMode` AON_STATUS.PREV_MODE. `regs` holds the applied value of every
register that is not at its reset value, by its distance from 0x6000_0000 (a copy banked for panel p lies 2^20 x (p + 1)
higher); `shadow` the staged value of a staged register and the panel that staged it (R28). `mem` holds the bytes of the
memories, by physical address, that differ from what an unlisted address reads as. `ans` and `fresh` are the model's own
fields. -/
structure State where
  mode : Mode
  prevMode : Mode
  regs : List (Nat × Word)
  shadow : List (Nat × Option (Nat × Word))
  mem : List Host.Cell
  ans : Answer
  fresh : Nat
  seam : List (Nat × SeamPanel)
  fab : Fab
  pat : Pat
  flt : Flt
  sensors : List (Nat × Sensor)
  thm : Thm
  ovl : Ovl
  pins : List (Nat × Pin)
  banks : List (Nat × Bank)
  plt : Plt
  optRec : List Byte
  lcs : Lcs
  cores : List (Nat × Core)
  bob : Bob
  ram : Mem
  fls : Fls
  ques : List (Nat × Que)
  clk : Clk
  tim : Tim
  pwr : Pwr
  hst : Hst
  ses : Ses
  dm : Dm
  fit : Fit
  strapPort : Bool
  pending : List Instr
  deriving DecidableEq, Repr

/-- The module right after reset: HOLD, every register at its reset value, nothing in memory, no command waiting. -/
def State.reset : State where
    mode := .hold
    prevMode := .off
    regs := []
    shadow := []
    mem := []
    ans := ⟨.okay, [], 0, []⟩
    fresh := 0
    seam := []
    fab := .reset
    pat := .reset
    flt := .reset
    sensors := []
    thm := .reset
    ovl := .reset
    pins := []
    banks := []
    plt := .reset
    optRec := []
    lcs := .reset
    cores := []
    bob := .reset
    ram := .reset
    fls := .reset
    ques := []
    clk := .reset
    tim := .reset
    pwr := .reset
    hst := .reset
    ses := .reset
    dm := .reset
    fit := .reset
    strapPort := false
    pending := []

end Sys2Proof.Machine
end

