-- ==== Sys2Proof/Machine/Ops.lean ====
section
/-!
DEFINITION. The shared operations: sparse maps in one canonical form, the register pages and their reset values, reading
and writing a register or a field, the interrupt and fault registers of a page, memory, panels and ownership, the time.
-/

namespace Sys2Proof.Machine

/-! ### Sparse maps

A list of (key, value) pairs, keys strictly rising, that lists no key at its default value. -/

/-- The value at key `k`; `d` gives what an unlisted key holds. -/
def sget {α : Type} (d : Nat → α) : List (Nat × α) → Nat → α
  | [], k => d k
  | (j, v) :: m, k => if j = k then v else sget d m k

/-- `m` without key `k`. -/
def sdel {α : Type} (k : Nat) : List (Nat × α) → List (Nat × α)
  | [] => []
  | (j, v) :: m => if j = k then sdel k m else (j, v) :: sdel k m

/-- `m` with `v` put at its place by key `k`. -/
def sins {α : Type} (k : Nat) (v : α) : List (Nat × α) → List (Nat × α)
  | [] => [(k, v)]
  | (j, u) :: m => if k < j then (k, v) :: (j, u) :: m else (j, u) :: sins k v m

/-- `m` with key `k` at value `v`; a key at its default value is not listed. -/
def sset {α : Type} [DecidableEq α] (d : Nat → α) (m : List (Nat × α)) (k : Nat) (v : α) : List (Nat × α) :=
  if v = d k then sdel k m else sins k v (sdel k m)

/-- The canonical form, from a key bound on: keys strictly rising, no value at its default. -/
def swfFrom {α : Type} [DecidableEq α] (d : Nat → α) : Option Nat → List (Nat × α) → Bool
  | _, [] => true
  | lo, (k, v) :: m =>
    (match lo with | none => true | some b => decide (b < k)) && !decide (v = d k) && swfFrom d (some k) m

/-- The canonical form of a sparse map. -/
def swf {α : Type} [DecidableEq α] (d : Nat → α) (m : List (Nat × α)) : Bool := swfFrom d none m

/-- `m` without the keys that satisfy `p`. -/
def sdrop {α : Type} (p : Nat → Bool) (m : List (Nat × α)) : List (Nat × α) := m.filter fun x => !p x.1

/-! ### Register pages (R21) -/

/-- The kinds of register page. -/
inductive Page where
  | seam | pnl | aon | pwr | clk | tim | wdg | pat | bas | ovl | fab | core | bob | spl | mem | fls | que | pin | plt
  | hst | ses | thm | lcs | fit | mon | flt
  deriving DecidableEq, Repr

/-- The page kind of a page index; none where R21 assigns none. -/
def pageOf (i : Nat) : Option Page :=
  if i = 0x00 then some .seam else if i = 0x01 then some .pnl else if i = 0x02 then some .aon
  else if i = 0x03 then some .pwr else if i = 0x04 then some .clk else if i = 0x05 then some .tim
  else if i = 0x06 then some .wdg else if i = 0x08 then some .pat else if i = 0x09 then some .bas
  else if i = 0x0A then some .ovl else if i = 0x0B then some .fab
  else if 0x10 ≤ i ∧ i ≤ 0x1F then some .core
  else if i = 0x20 then some .bob else if i = 0x21 then some .spl else if i = 0x22 then some .mem
  else if i = 0x24 then some .fls else if 0x28 ≤ i ∧ i ≤ 0x2B then some .que
  else if 0x30 ≤ i ∧ i ≤ 0x3B then some .pin else if i = 0x3C then some .plt
  else if i = 0x40 then some .hst else if i = 0x41 then some .ses else if i = 0x48 then some .thm
  else if i = 0x49 then some .lcs else if i = 0x50 then some .fit else if i = 0x51 then some .mon
  else if i = 0x52 then some .flt else none

/-- The first index of a page kind: ID.TYPE (R21). -/
def Page.base : Page → Nat
  | .seam => 0 | .pnl => 1 | .aon => 2 | .pwr => 3 | .clk => 4 | .tim => 5 | .wdg => 6 | .pat => 8 | .bas => 9
  | .ovl => 0xA | .fab => 0xB | .core => 0x10 | .bob => 0x20 | .spl => 0x21 | .mem => 0x22 | .fls => 0x24
  | .que => 0x28 | .pin => 0x30 | .plt => 0x3C | .hst => 0x40 | .ses => 0x41 | .thm => 0x48 | .lcs => 0x49
  | .fit => 0x50 | .mon => 0x51 | .flt => 0x52

/-- CAP of a page, as its chapter states it. -/
def Page.cap : Page → Nat
  | .seam => 0 | .pnl => 0x80000000 | .fab | .pin | .plt => 0xC0000000 | .wdg | .thm => 0 | _ => 0x40000000

/-- The block registers of a page kind. -/
def Page.rows : Page → List RegRow
  | .seam => rowsSEAM | .pnl => rowsPNL | .aon => rowsAON | .pwr => rowsPWR | .clk => rowsCLK | .tim => rowsTIM
  | .wdg => rowsWDG | .pat => rowsPAT | .bas => rowsBAS | .ovl => rowsOVL | .fab => rowsFAB | .core => rowsCORE
  | .bob => rowsBOB | .spl => rowsSPL | .mem => rowsMEM | .fls => rowsFLS | .que => rowsQUE | .pin => rowsPIN
  | .plt => rowsPLT | .hst => rowsHST | .ses => rowsSES | .thm => rowsTHM | .lcs => rowsLCS | .fit => rowsFIT
  | .mon => rowsMON | .flt => rowsFLT

/-- Whether the row holds the register at offset `o` of its page. -/
def RegRow.has (r : RegRow) (o : Nat) : Bool :=
  decide (r.off ≤ o) && (o - r.off) % r.stride == 0 && decide ((o - r.off) / r.stride < r.count)

/-- The row of the block register at offset `o` of a page (none: a hole, or the header). -/
def rowAt (k : Page) (o : Nat) : Option RegRow := k.rows.find? (·.has o)

/-- The pages R23 names, whose CTRL is fixed, and those whose chapter says that ENABLE reads 1 and ignores writes. -/
def Page.ctrlFixed : Page → Bool
  | .seam | .pnl | .aon | .pwr | .clk | .tim | .thm | .lcs | .flt => true
  | _ => false

/-- The bytes of PNL_OWN at reset (R25, R359): panel 0 owns every assigned page but SEAM. -/
def ownReset (i : Nat) : Nat :=
  match pageOf i with
  | none => 0
  | some .seam => 0
  | some _ => 0x80

/-- N, F and the four outputs (EN, D - 1) of PLL `n` at reset (R391). -/
def pllReset (n : Nat) : Nat × Nat × List (Bool × Nat) :=
  match n with
  | 0 => (80, 0, [(true, 1), (true, 3), (true, 7), (true, 9)])
  | 1 => (120, 0, [(true, 11), (true, 29), (false, 0), (false, 0)])
  | 2 => (149, 0x51EB85, [(true, 1), (true, 7), (false, 0), (false, 0)])
  | _ => (80, 0, [(true, 7), (false, 7), (false, 7), (false, 7)])

/-- The ceiling of output `k` of PLL `n` at reset, in kHz (R392). -/
def ceilReset (n k : Nat) : Nat :=
  match n, k with
  | 0, 0 => 1005000 | 0, 1 => 502500 | 0, 2 => 251250 | 0, _ => 201000
  | 1, 0 => 251250 | 1, 1 => 100500 | 1, _ => 0
  | 2, 0 => 1876000 | 2, 1 => 469000 | 2, _ => 0
  | _, _ => 703500

/-- The reset value of the register at offset `o` of PLL `n`'s block (R391, R392, R406). -/
def pllRegReset (n o : Nat) : Option Nat :=
  let r := pllReset n
  let out := fun (k : Nat) => r.2.2.getD k (false, 0)
  if o = 0x00 then some (r.1 * 0x10000 + 0x8000)
  else if o = 0x04 then some r.2.1
  else if o = 0x14 then some ((List.range 4).foldl (fun a k => a + (out k).2 * 2 ^ (8 * k)) 0)
  else if 0x20 ≤ o ∧ o < 0x30 then some (b2n (out ((o - 0x20) / 4)).1 * 2 ^ 31 + (out ((o - 0x20) / 4)).2)
  else if 0x30 ≤ o then some (ceilReset n ((o - 0x30) / 4))
  else none

/-- Reset values that are not one constant for the whole row: PNL_INIT (R356), PNL_DWIN0, PNL_OWN (R25), CORE_RUN of
core 0 (R188), PWR STATUS.PHASES (R448), the PLL settings (R391) and ceilings (R392). -/
def resetSpecial (off : Nat) : Option Nat :=
  if off = 0x1060 ∨ off = 0x1064 ∨ off = 0x1068 then some 0
  else if off = 0x106C then some 0x00543210
  else if off = 0x1080 then some 0x170
  else if 0x1100 ≤ off ∧ off ≤ 0x1150 then
    let i := off - 0x1100
    some (ownReset i + ownReset (i + 1) * 0x100 + ownReset (i + 2) * 0x10000 + ownReset (i + 3) * 0x1000000)
  else if off = 0x10040 then some 1
  else if off = 0x3008 then some 0x40000
  else if 0x4100 ≤ off ∧ off < 0x4300 then pllRegReset ((off - 0x4100) / 0x40) ((off - 0x4100) % 0x40)
  else none

/-- The reset value of the register at distance `off` from 0x6000_0000 (banked copies lie 2^20 apart). -/
def regReset (off : Nat) : Word :=
  let o := off % 0x100000
  match resetSpecial o with
  | some n => w32 n
  | none =>
    if o % 0x1000 = 0x00C then w32 1
    else if o % 0x1000 < 0x40 then 0
    else match pageOf (o / 0x1000) with
      | none => 0
      | some k => match rowAt k (o % 0x1000) with
        | none => 0
        | some r => w32 r.rst

namespace State

/-- The applied value of a register. -/
def rg (s : State) (off : Nat) : Word := sget regReset s.regs off

/-- A register with a new value. -/
def wrg (s : State) (off : Nat) (v : Word) : State := { s with regs := sset regReset s.regs off v }

/-- A field of a register, as a number. -/
def rf (s : State) (off lo len : Nat) : Nat := fld (s.rg off) lo len

/-- A bit of a register. -/
def rb (s : State) (off i : Nat) : Bool := bit (s.rg off) i

/-- A field of a register with a new value. -/
def wf (s : State) (off lo len n : Nat) : State := s.wrg off (setFld (s.rg off) lo len n)

/-- A bit of a register with a new value. -/
def wb (s : State) (off i : Nat) (b : Bool) : State := s.wf off i 1 (b2n b)

/-- A 64-bit register: the low word at the lower offset (R7). -/
def rg64 (s : State) (off : Nat) : Nat := (s.rg off).toNat + 2 ^ 32 * (s.rg (off + 4)).toNat

/-- A 64-bit register with a new value. -/
def wrg64 (s : State) (off n : Nat) : State := (s.wrg off (w32 n)).wrg (off + 4) (w32 (n / 2 ^ 32))

/-- A counter field one up, saturating. -/
def incSat (s : State) (off lo len : Nat) : State := s.wf off lo len (satInc (s.rf off lo len) len)

/-- A counter field `n` up, saturating. -/
def addSat (s : State) (off lo len n : Nat) : State := s.wf off lo len (min (s.rf off lo len + n) (2 ^ len - 1))

/-- A counter field one up, wrapping. -/
def incWrap (s : State) (off lo len : Nat) : State := s.wf off lo len (s.rf off lo len + 1)

/-- The registers whose distance satisfies `p` at their reset values. -/
def resetRegs (s : State) (p : Nat → Bool) : State := { s with regs := sdrop p s.regs }

/-- TIM_NOW in nanoseconds (R408). -/
def now (s : State) : Nat := s.rg64 Reg.TIM_NOW

/-- TIM STATUS.SOURCE (R411): 0 PLL1 locked on XO25 or PCIE_REFCLK, 1 locked on RC100, 2 RC100 directly. -/
def timSource (s : State) : Nat :=
  let p := sget (fun _ => Pll.reset) s.clk.plls 1
  if p.st = 3 then (if p.act.ref = 1 then 1 else 0) else 2

/-- The nominal increment in use, in units of 2^-32 ns (R411), without trim and steering. -/
def incBase (s : State) : Nat :=
  match s.timSource with
  | 0 => s.rg64 Reg.TIM_INC_XO
  | 1 => s.rg64 Reg.TIM_INC_RC
  | _ => 10 * 2 ^ 32

/-- The nanoseconds of one tick: the integer part of the increment in use. -/
def tickNs (s : State) : Nat := max 1 (s.incBase / 2 ^ 32)

/-- The first tick at or after a time, as the ticks stand now. -/
def tickAt (s : State) (t : Nat) : Nat :=
  if t ≤ s.now then s.now else s.now + (t - s.now + s.tickNs - 1) / s.tickNs * s.tickNs

/-- A fresh free value: what nothing in the spec fixes. -/
def bump (s : State) : State := { s with fresh := s.fresh + 1 }

/-- A free value below `n`. -/
def freeBelow (s : State) (n : Nat) : Nat := (Config.freeValue s.fresh).toNat % n

/-- The last answer the module gave. -/
def answer (s : State) (r : Rsp) (d : List DWord := []) (code : Nat := 0) : State := { s with ans := ⟨r, d, code, s.ans.also⟩ }

/-- A cycle begins that has several senders. -/
def meeting (s : State) : State := { s with ans := { s.ans with also := [] } }

/-- Another sender of the cycle receives its response and data. -/
def heard (s : State) (i : Initiator) (r : Rsp) (d : List DWord) : State := { s with ans := { s.ans with also := s.ans.also ++ [(i, r, d)] } }

end State

/-- The register copy of panel `p` (R39, R384, R426). -/
def bank (p off : Nat) : Nat := off + (p + 1) * 0x100000

/-- Whether a register is banked per panel: the block registers of SEAM but SEAM_GEN and SEAM_ARB and its IRQ header
registers (R39), PNL_HOLD, PNL_RESET, PNL_ERR, PNL_ERR_ADDR and PNL_SELF (R384), WDG_PANEL_CFG, _KICK and _LEFT
(R426). -/
def isBanked (off : Nat) : Bool :=
  (decide (off < 0x1000) && (decide (0x10 ≤ off) && decide (off < 0x20)
      || decide (0x40 ≤ off) && !(off == 0x58) && !(off == 0x5C)))
    || (decide (0x1040 ≤ off) && decide (off < 0x1060))
    || (decide (0x6060 ≤ off) && decide (off < 0x6070))

/-- The key of a register as panel `p` reaches it. -/
def keyFor (p off : Nat) : Nat := if isBanked off then bank p off else off

/-! ### Interrupt sources and faults of a page (R22) -/

/-- IRQ_RAW of a page. -/
def irqRaw (page : Nat) : Nat := page * 0x1000 + 0x10
/-- IRQ_EN of a page. -/
def irqEn (page : Nat) : Nat := page * 0x1000 + 0x14
/-- FAULT_INFO of a page. -/
def faultInfo (page : Nat) : Nat := page * 0x1000 + 0x2C

/-- The intake with one more code; a code that finds 64 waiting is lost and counted (R540). -/
def intakePush (x : Intake) (s : State) : State :=
  if s.flt.intake.length < 64 then { s with flt := { s.flt with intake := s.flt.intake ++ [x] } }
  else
    let s := s.incSat Reg.FLT_COUNT 16 16
    { s with flt := { s.flt with overflow := true, lossDue := true } }

/-- FAULT_INFO of the page a code names (R12, R22): VALID, the count, the code. -/
def faultNote (code : Nat) (s : State) : State :=
  let r := faultInfo (code / 0x100)
  s.wrg r (w32 (2 ^ 31 + satInc (s.rf r 16 8) 8 * 2 ^ 16 + code))

/-- A page raises a fault (R22, R540): FAULT_INFO of the page, and the code on its way into the log. -/
def raise (code : Nat) (s : State) : State :=
  intakePush ⟨code, s.now, s.mode, false, false, 0⟩ (faultNote code s)

/-- As `raise`, for a fault 0x0A02, which names a bolt (R543). -/
def raiseBolt (code bolt : Nat) (s : State) : State :=
  intakePush ⟨code, s.now, s.mode, false, false, bolt⟩ (faultNote code s)

/-! ### Panels and ownership (R20, R25, R26, R356, R359) -/

/-- The module revision ID[7:0] of SEAM (R15): a letter from 1 on and a digit from 0 to 9, which Config leaves free. -/
def moduleRev : Nat := (1 + Config.moduleRevision.toNat / 16 % 15) * 16 + Config.moduleRevision.toNat % 16 % 10

/-- The panel an initiator carries, by PNL_INIT; in the SAFE state of R118 the recovery port carries panel 0 (R363).
The strap IO0_3 of the last HOLD names that port: 0 quad-SPI port 0, 1 PCIe function 0 (R113). -/
def panelOf (s : State) (sesPanel : Nat → Nat) : Initiator → Nat
  | .core c => s.rf (Reg.PNL_INIT (c.val / 8)) (4 * (c.val % 8)) 3
  | .win p => s.rf (Reg.PNL_INIT 2) (4 * p.val) 3
  | .pcie f => if s.pat.recovery && s.strapPort && f.val == 0 then 0 else s.rf (Reg.PNL_INIT 3) (4 * f.val) 3
  | .qspi q => if s.pat.recovery && !s.strapPort && q.val == 0 then 0 else s.rf (Reg.PNL_INIT 3) (16 + 4 * q.val) 3
  | .session n => sesPanel n.val
  | .debugUnit => match s.lcs.grant with | some g => g.panel | none => 0
  | .fitting | .thimble | .bobbin | .memory => 0

/-- The panel that owns page `i`, if it is assigned (R359). -/
def ownerOf (s : State) (i : Nat) : Option Nat :=
  let b := s.rf (Reg.PNL_OWN (i / 4)) (8 * (i % 4)) 8
  if 0x80 ≤ b then some (b % 8) else none

/-- Whether LOCK.LOCKED of page `i` is set (R24). -/
def isLocked (s : State) (i : Nat) : Bool := s.rb (i * 0x1000 + 0x24) 0

/-- CTRL.ENABLE of page `i`. -/
def isEnabled (s : State) (i : Nat) : Bool := s.rb (i * 0x1000 + 0x0C) 0

/-- The mode as the cores, the pins and the other blocks take it: the HEM_LOAD of a failed swap lets all run as in the outage (R133). DESIGN CHOICE
(log 72) for the pads, of which R117 speaks otherwise. -/
def opMode (s : State) : Mode := if s.mode = .hemLoad ∧ s.pat.outage.isSome then .swap else s.mode

/-! ### Memory (R17) -/

/-- What a byte reads that nothing has written: erased flash and option area 0xFF, zero elsewhere (R252, R257). -/
def memDefault (a : Nat) : Byte := if a < 0x04004000 then 0xFF else 0

/-- The canonical form of memory. -/
def Memory.wf (m : List Host.Cell) : Bool := swf memDefault m

/-- One byte of memory. -/
def readByte (s : State) (a : Nat) : Byte := sget memDefault s.mem a

/-- One byte of memory with a new value. -/
def writeByte (a : Nat) (b : Byte) (s : State) : State := { s with mem := sset memDefault s.mem a b }

/-- `n` bytes from `a` on, the lowest address first. -/
def readBytes (s : State) (a : Nat) : Nat → List Byte
  | 0 => []
  | n + 1 => readByte s a :: readBytes s (a + 1) n

/-- Bytes as a number, little-endian (R8). -/
def leNat : List Byte → Nat
  | [] => 0
  | b :: l => b.toNat + 256 * leNat l

/-- Bytes as a number, big-endian (R86). -/
def beNat (l : List Byte) : Nat := leNat l.reverse

/-- The `n` low bytes of a number, little-endian. -/
def natLe (v : Nat) : Nat → List Byte
  | 0 => []
  | n + 1 => BitVec.ofNat 8 v :: natLe (v / 256) n

/-- `n` bytes from `a` on, as a little-endian number (R8). -/
def readLe (s : State) (a n : Nat) : Nat := leNat (readBytes s a n)

/-- Bytes written from `a` on. -/
def writeBytes (a : Nat) : List Byte → State → State
  | [], s => s
  | b :: l, s => writeBytes (a + 1) l (writeByte a b s)

/-- `n` bytes written from `a` on: the number `v`, little-endian. -/
def writeLe (a n v : Nat) (s : State) : State := writeBytes a (natLe v n) s

/-- Memory without the bytes whose address satisfies `p`: they read as unlisted. -/
def clearMem (p : Nat → Bool) (s : State) : State := { s with mem := sdrop p s.mem }

/-- Shared SRAM (R17). -/
def inSram (a : Nat) : Bool := decide (0x20000000 ≤ a) && decide (a < 0x20800000)
/-- The DRAM user region (R17). -/
def inDramUser (a : Nat) : Bool := decide (0x89000000 ≤ a) && decide (a < 0xA0000000)
/-- A range wholly inside shared SRAM or wholly inside the DRAM user region. -/
def inUserMem (a n : Nat) : Bool :=
  (inSram a && decide (a + n ≤ 0x20800000)) || (inDramUser a && decide (a + n ≤ 0xA0000000))

end Sys2Proof.Machine
end

