-- ==== Sys2Proof/Machine/Pads.lean ====
section
/-!
DEFINITION. What is computed of the pads and the regions: isolation of a region (R80), the power of a bank (R320, R321), the
drive each function gives a pin (R323 to R327, R331, R335, R345, R351), and the level a pad shows (R329, R330).
-/

namespace Sys2Proof.Machine

/-- Whether a region is isolated: basting holds it, its configuration is not valid, its bolt is off, or the mode
isolates all (the list before R80). -/
def isolated (s : State) (r : Nat) : Bool :=
  s.fab.held.getLsbD r || s.fab.badCfg.getLsbD r || s.rb Reg.FAB_BOLT_OFF (r / 16)
    || (match s.mode with
        | .off | .hold | .load | .hemLoad | .swap | .hibernate | .transit => true
        | _ => false)

/-- A pin of a bank: the pins are numbered 40b + i. -/
def pinBank (n : Nat) : Nat := n / 40

def pinOf (s : State) (n : Nat) : Pin := sget (fun _ => Pin.reset) s.pins n
def setPin (n : Nat) (p : Pin) (s : State) : State := { s with pins := sset (fun _ => Pin.reset) s.pins n p }
def bankOf (s : State) (b : Nat) : Bank := sget (fun _ => Bank.reset) s.banks b
def setBank (b : Nat) (k : Bank) (s : State) : State := { s with banks := sset (fun _ => Bank.reset) s.banks b k }
def groupOf (s : State) (g : Nat) : Group := sget (fun _ => Group.reset) s.plt.groups g
def setGroup (g : Nat) (x : Group) (s : State) : State :=
  { s with plt := { s.plt with groups := sset (fun _ => Group.reset) s.plt.groups g x } }

def muxReg (n : Nat) : Nat := Reg.PIN_MUX (n / 40) (n % 40)
def cfgReg (n : Nat) : Nat := Reg.PIN_CFG (n / 40) (n % 40)
/-- PIN_MUX.FUNC of a pin (R323). -/
def pinFunc (s : State) (n : Nat) : Nat := s.rf (muxReg n) 0 3
/-- PIN_MUX.GROUP of a pin. -/
def pinGroup (s : State) (n : Nat) : Nat := s.rf (muxReg n) 4 3
/-- The region that drives a pin, if one does (PIN_CFG.REGION). -/
def pinRegion (s : State) (n : Nat) : Option Nat :=
  let r := s.rf (cfgReg n) 23 7
  if r = 0x7F then none else some r

/-- A byte of the configuration record in use (R282). -/
def optByte (s : State) (i : Nat) : Nat := (s.optRec.getD i 0).toNat
/-- The VCCIO code of a bank (R282, R320). -/
def vccio (s : State) (b : Nat) : Nat := optByte s (8 + b)
/-- The codes R320 allows for the bank's class. -/
def vccioAllowed (b code : Nat) : Bool :=
  code == 0 || code == 0x18 || code == 0x25 || code == 0x33 || (decide (b < 8) && code == 0x50)
    || (decide (8 ≤ b) && (code == 0x12 || code == 0x15))
/-- A bank whose input buffers work (R321, R339): an allowed code, not 0, and a rail that has come good. -/
def bankLive (s : State) (b : Nat) : Bool := vccioAllowed b (vccio s b) && vccio s b != 0 && (bankOf s b).good
/-- A bank whose drivers are powered: R339 has not shut it down. -/
def bankPowered (s : State) (b : Nat) : Bool := bankLive s b && !(bankOf s b).shut
/-- The SAFE_LEVEL code of a pin (R282, R336). -/
def safeLevel (s : State) (n : Nat) : Nat := nfld (optByte s (0x20 + n / 4)) (2 * (n % 4)) 2

/-- The slot code of a member of group `g` while it runs (R345), and while NAP has halted it (R353); the pins of a group that does not run float
(R349). -/
def pleatDrive (s : State) (n g : Nat) : Drive :=
  let g := groupOf s g
  if g.running || g.napHalt then
    match nfld (sget (fun _ => 0) s.plt.tables n).toNat (2 * g.slot) 2 with
    | 1 => ⟨true, false⟩
    | 2 => ⟨true, true⟩
    | _ => .off
  else .off

/-- The drive that the loaded design gives a pin at time `t`, or its hold policy while the pad follows it (R131, R132). -/
def fabricDrive (s : State) (t n : Nat) : Drive :=
  match pinRegion s n with
  | none => .off
  | some _ =>
    if (pinOf s n).iso then
      match s.rf (cfgReg n) 30 2 with
      | 1 => match safeLevel s n with
        | 1 => ⟨true, false⟩
        | 2 => ⟨true, true⟩
        | _ => .off
      | 2 => .off
      | _ => ((pinOf s n).held).getD .off
    else ⟨(Config.fabricPin t n).1, (Config.fabricPin t n).2⟩

/-- The GPIO drive of a pin: PIN_OE and PIN_OUT as they stand at the pads (R326). -/
def gpioDrive (s : State) (n : Nat) : Drive :=
  let k := bankOf s (n / 40)
  ⟨k.oe.testBit (n % 40), k.out.testBit (n % 40)⟩

/-- The drive of a pin at time `t` by a PIN_MUX word (R323). The odd pin of an LVDS pair drives the complement of the even one (R324). -/
def muxDrive (s : State) (t n mux : Nat) : Drive :=
  match mux % 8 with
  | 1 => gpioDrive s n
  | 2 => fabricDrive s t n
  | 3 => pleatDrive s n (mux / 16 % 8)
  | 4 => (pinOf s n).tte
  | 5 => if n % 2 = 0 then fabricDrive s t n else let d := fabricDrive s t (n - 1); ⟨d.oe, !d.level⟩
  | _ => .off

/-- The drive of a pin by its function. -/
def funcDrive (s : State) (n : Nat) : Drive := muxDrive s s.now n (s.rg (muxReg n)).toNat

/-- Open drain: a pin with OD drives only 0, except as LVDS (R327). -/
def odOf (s : State) (n mux : Nat) (d : Drive) : Drive := if s.rb (cfgReg n) 5 && d.level && mux % 8 != 5 then .off else d
def odDrive (s : State) (n : Nat) (d : Drive) : Drive := odOf s n (s.rg (muxReg n)).toNat d

/-- A pin in course of a switch at time `t` (R333): the old function before E (none: a keeper's window goes on), the keeper to E + 20 ns. -/
def switchDrive (s : State) (t n : Nat) (w : PinSwitch) : Option Drive :=
  if t < w.edge then some (match w.prev with | some m => odOf s n m (muxDrive s t n m) | none => .off)
  else if t < w.edge + 20 then some .off
  else none

/-- A pin the boundary-scan instructions may act on (R513): any, or in PROVISIONED and FIELD those of banks whose PIN page the
granted panel owns. -/
def bscanPin (s : State) (n : Nat) : Bool :=
  if s.lcs.st = 0x10 ∨ s.lcs.st = 0x11 then
    match s.lcs.grant with
    | some g => g.scope.testBit 1 && (g.full || ownerOf s (0x30 + n / 40) == some g.panel)
    | none => false
  else true

/-- What EXTEST, CLAMP and HIGHZ make of a pin they may act on (R513, R515): the boundary-scan register drives it, bit 2n its
level and bit 2n + 1 its enable (PRESUMED, log 30), or it floats. -/
def bscanDrive (s : State) (n : Nat) : Option Drive :=
  if (s.lcs.tap = 3 ∨ s.lcs.tap = 4) ∧ bscanPin s n then some ⟨s.lcs.bsr.getLsbD (2 * n + 1), s.lcs.bsr.getLsbD (2 * n)⟩
  else if s.lcs.tap = 5 ∧ bscanPin s n then some .off
  else none

/-- What the module drives on a pad at time `t` (R335): by function, by the hold policy, at its safe level, kept in NAP or while the page is disabled
(R341), or nothing. In the HEM_LOAD of a failed swap R117 holds. -/
def driveAt (s : State) (t n : Nat) : Drive :=
  if !bankPowered s (n / 40) then .off
  else match s.mode with
    | .off | .hold | .load | .hemLoad | .transit | .hibernate => .off
    | .safe =>
      if s.pat.recovery then .off
      else match safeLevel s n with
        | 1 => ⟨true, false⟩
        | 2 => odDrive s n ⟨true, true⟩
        | _ => .off
    | .nap => ((pinOf s n).nap).getD .off
    | _ =>
      match bscanDrive s n with
      | some d => d
      | none =>
        if !isEnabled s (0x30 + n / 40) then (pinOf s n).drv else
        let mux := (s.rg (muxReg n)).toNat
        let own := odOf s n mux (muxDrive s t n mux)
        match (pinOf s n).win with
        | some w => (switchDrive s t n w).getD own
        | none => own

/-- What the module drives on a pad now. -/
def padDrive (s : State) (n : Nat) : Drive := driveAt s s.now n

/-- The keeper acts at time `t` by a switch window. -/
def keeperActs (s : State) (t n : Nat) : Bool :=
  match (pinOf s n).win with
  | some w => (decide (t < w.edge) && w.prev.isNone) || (decide (w.edge ≤ t) && decide (t < w.edge + 20))
  | none => false

/-- The level at the land of a pin at time `t` (R329, R330): what the module drives unless a board source drives against it; else the board's
level; else the pull's. A level that nothing defines is a free value. -/
def levelAt (s : State) (t n : Nat) : Bool :=
  let d := driveAt s t n
  if !bankLive s (n / 40) then false
  else if d.oe then
    match (pinOf s n).board with
    | none => d.level
    | some l => if l = d.level then l else Config.floatPad t n
  else match (pinOf s n).board with
    | some l => l
    | none =>
      match s.mode with
      | .hold | .load | .hemLoad | .transit => false
      | .hibernate => Config.floatPad t n
      | _ =>
        if s.pat.recovery then false
        else if keeperActs s t n then (pinOf s n).keep
        else match s.rf (cfgReg n) 6 2 with
          | 1 => true
          | 2 => false
          | 3 => (pinOf s n).keep
          | _ => Config.floatPad t n

/-- The level at the land of a pin now. -/
def padLevel (s : State) (n : Nat) : Bool := levelAt s s.now n

/-- PIN_PAD of a bank: bit i the level of pin i behind the two stages of the synchroniser (R330); 0 in an unpowered bank (R321). -/
def padWord (s : State) (b : Nat) : Nat :=
  if bankLive s b then (List.range 40).foldl (fun a i => if (pinOf s (40 * b + i)).sync2 then a + 2 ^ i else a) 0 else 0

/-- The next pad-clock edge after a time: a multiple of 10 ns (R322). -/
def padEdge (t : Nat) : Nat := (t / 10 + 1) * 10

/-- All user pins. -/
def allPins : List Nat := List.range 480

/-- A change to every pin that satisfies `p`. -/
def updPins (p : Nat → Bool) (f : Nat → Pin → Pin) (s : State) : State :=
  { s with pins := allPins.foldl (fun m n => if p n then sset (fun _ => Pin.reset) m n (f n (sget (fun _ => Pin.reset) m n)) else m) s.pins }

end Sys2Proof.Machine
end

