-- ==== Sys2Proof/Machine/Cells.lean ====
section
/-!
DEFINITION. The cells of the logic fabric (R41 to R60, R80): the frames of R43, LUTs, carry chains, memory slices and flip-flops, BRAM,
DSP blocks, clock lines and boundary outputs; their state at a region's release (R47) and across a swap (R128, R129); and what the
loaded design's logic does to them within a tick.
-/

namespace Sys2Proof.Machine

/-! ### The frames of a region (R42, R43) -/

/-- `n` frames of region r from frame `lo` on. -/
def framesOf (m : List (Nat × BitVec 4096)) (r lo n : Nat) : List (BitVec 4096) :=
  (List.range n).map fun f => sget (fun _ => 0) m (512 * r + lo + f)

/-- The boundary and clocking frames 472 to 479. -/
def markFrames (m : List (Nat × BitVec 4096)) (r : Nat) : List (BitVec 4096) := framesOf m r 472 8
/-- The frames of BRAM block k of the region. -/
def bramFrames (m : List (Nat × BitVec 4096)) (r k : Nat) : List (BitVec 4096) := framesOf m r (9 * k) 9
/-- The frames of tile column c. -/
def columnFrames (m : List (Nat × BitVec 4096)) (r c : Nat) : List (BitVec 4096) := framesOf m r (216 + 20 * c) 20
/-- The frame of DSP block k of the region. -/
def dspFrame (m : List (Nat × BitVec 4096)) (r k : Nat) : BitVec 4096 := sget (fun _ => 0) m (512 * r + 456 + k)
/-- The 480 frames of the region. -/
def allFrames (m : List (Nat × BitVec 4096)) (r : Nat) : List (BitVec 4096) := framesOf m r 0 480

def allRegions : List Nat := List.range 128

/-! ### LUTs and memory slices (R44, R46) -/

/-- LUT n of the module, as the image in the latches sets it; only slices 0 to 3 of a tile are memory slices. -/
def lutCfgOf (s : State) (n : Nat) : LutCfg :=
  let c := Config.lutCfg (columnFrames s.fab.latch (n / 6144) (n % 6144 / 512)) (n % 512)
  if n % 64 / 8 < 4 then c else { c with kind := .logic }

/-- What a LUT's 64 bits hold at its region's release. -/
def lutInit (s : State) (n : Nat) : BitVec 64 :=
  (Config.lutCfg (columnFrames s.fab.start (n / 6144) (n % 6144 / 512)) (n % 512)).table

/-- The 64 bits of a LUT: its table, or the content of a RAM or shift register. -/
def lutBits (s : State) (n : Nat) : BitVec 64 :=
  match (lutCfgOf s n).kind with
  | .logic => (lutCfgOf s n).table
  | .ram | .shift => sget (lutInit s) s.fab.luts n

/-- The place in a half of the table that I0 to I3 and one further input select (R44). -/
def halfIndex (i : BitVec 6) (last : Nat) : Nat := i.toNat % 16 + 16 * b2n (i.getLsbD last)

/-- LA and LB of a LUT's 64 bits (R44, R46): WHOLE, LA is the bit that I0 to I5 select and LB reads 0; SPLIT, LA is of I0 to I4 in the lower half,
LB of I0 to I3 and I5 in the upper; a shift register shows the tap that I0 to I5 choose. -/
def lutOut (c : LutCfg) (bits : BitVec 64) (i : BitVec 6) : Bool × Bool :=
  if c.split && c.kind != .shift then (bits.getLsbD (halfIndex i 4), bits.getLsbD (32 + halfIndex i 5))
  else (bits.getLsbD i.toNat, false)

/-- One bit of a LUT's content. -/
def lutBit (b : BitVec 64) (i : Nat) (v : Bool) : BitVec 64 :=
  if v then b ||| BitVec.twoPow 64 i else b &&& ~~~(BitVec.twoPow 64 i)

/-- The content after an edge of the slice clock with its write or shift enable (R46): a 64 x 1 RAM, a 32 x 2 RAM with one shared write address,
or a shift register, which moves up by one stage. -/
def lutNext (c : LutCfg) (b : BitVec 64) (x : LutIn) : BitVec 64 :=
  match c.kind with
  | .logic => b
  | .ram =>
    if !x.we then b
    else if c.split then lutBit (lutBit b (x.wa.toNat % 32) x.dataA) (32 + x.wa.toNat % 32) x.dataB
    else lutBit b x.wa.toNat x.dataA
  | .shift => if x.we then lutBit (b <<< 1) 0 x.dataA else b

/-! ### Flip-flops (R44, R47) -/

/-- The initial value of flip-flop n of the module. -/
def ffInitial (s : State) (n : Nat) : Bool := Config.ffInit (columnFrames s.fab.start (n / 12288) (n % 12288 / 1024)) (n % 1024)

/-- What a flip-flop holds. -/
def ffOf (s : State) (n : Nat) : Bool := sget (ffInitial s) s.fab.ffs n
def setFf (n : Nat) (v : Bool) (s : State) : State := { s with fab := { s.fab with ffs := sset (ffInitial s) s.fab.ffs n v } }

/-- A slice as the image in the latches sets it; 768 slices a region, 64 a column. -/
def sliceCfgOf (s : State) (n : Nat) : SliceCfg := Config.sliceCfg (columnFrames s.fab.latch (n / 768) (n % 768 / 64)) (n % 64)

/-- FA and FB of LUT j of slice n take a value at an edge: what set/reset makes of them, else LA or DA and LB or DB where the clock enable is 1. -/
def ffEdge (n : Nat) (enable sr : Bool) (s : State) (x : LutIn × Nat) : State :=
  let j := x.2
  let k := sliceCfgOf s n
  let c := lutCfgOf s (8 * n + j)
  let o := lutOut c (lutBits s (8 * n + j)) x.1.i
  let fa := 16 * n + 2 * j
  if sr then setFf (fa + 1) (k.srValue.getLsbD (2 * j + 1)) (setFf fa (k.srValue.getLsbD (2 * j)) s)
  else if enable then
    setFf (fa + 1) (if c.fbDirect then x.1.db else o.2) (setFf fa (if c.faDirect then x.1.da else o.1) s)
  else s

/-- The content of LUT j of slice n after the edge. -/
def lutEdge (n : Nat) (s : State) (x : LutIn × Nat) : State :=
  let l := 8 * n + x.2
  let c := lutCfgOf s l
  match c.kind with
  | .logic => s
  | .ram | .shift => { s with fab := { s.fab with luts := sset (lutInit s) s.fab.luts l (lutNext c (lutBits s l) x.1) } }

/-- An edge of the clock of slice n (R44, R46, R47): the flip-flops take what the LUTs show before the edge, then RAMs are written and shift
registers move. DESIGN CHOICE (log 67): set/reset acts whatever the clock enable is; the clock enable does not gate RAM writes and shifts. -/
def sliceEdge (n : Nat) (enable sr : Bool) (luts : List LutIn) (s : State) : State :=
  let l := (luts.take 8).zipIdx
  l.foldl (lutEdge n) (l.foldl (ffEdge n enable sr) s)

/-- The set/reset line of a slice rises: asynchronous, it acts at once (R47). -/
def asyncReset (n : Nat) (s : State) : State :=
  let k := sliceCfgOf s n
  if k.isAsync then (List.range 16).foldl (fun s i => setFf (16 * n + i) (k.srValue.getLsbD i) s) s else s

/-! ### Carry chains (R45) -/

/-- The 8 bits of a slice's chain from its carry in, propagate and generate: the sums, and the carry out of each bit. PRESUMED (log 95). -/
def carryByte (cin : Bool) (p g : BitVec 8) : BitVec 8 × BitVec 8 × Bool :=
  (List.range 8).foldl (fun x i =>
    let c := if p.getLsbD i then x.2.2 else g.getLsbD i
    (if (p.getLsbD i).xor x.2.2 then x.1 ||| BitVec.twoPow 8 i else x.1, if c then x.2.1 ||| BitVec.twoPow 8 i else x.2.1, c)) (0, 0, cin)

/-- One slice of a chain, with the carry it hands upward. -/
def carrySlice (x : State × Bool) (y : (BitVec 8 × BitVec 8) × Nat) : State × Bool :=
  let r := carryByte x.2 y.1.1 y.1.2
  let v : BitVec 16 := r.1.setWidth 16 ||| (r.2.1.setWidth 16 <<< 8)
  ({ x.1 with fab := { x.1.fab with chain := sset (fun _ => 0) x.1.fab.chain y.2 v } }, r.2.2)

/-- A carry chain from slice n upward, through the slices of its tile and on into the tiles above, to the end of the column at most (R45, R49). -/
def carryChain (n : Nat) (cin : Bool) (stages : List (BitVec 8 × BitVec 8)) (s : State) : State :=
  (((stages.take (64 - n % 64)).zipIdx n).foldl carrySlice (s, cin)).1

/-! ### Block RAM (R50 to R55) -/

/-- Block b of the module, as the image in the latches sets it. -/
def bramCfgOf (s : State) (b : Nat) : BramCfg := Config.bramCfg (allFrames s.fab.latch (b / 24)) (b % 24)

/-- A row that nothing has written, by block x 512 + row: what the image gave it at its region's release; of a CONST block what the latches hold, in
which Overlock checks it (R149). -/
def rowInit (s : State) (k : Nat) : BitVec 72 :=
  let m := if (bramCfgOf s (k / 512)).mode = .constant then s.fab.latch else s.fab.start
  Config.bramRow (bramFrames m (k / 512 / 24) (k / 512 % 24)) (k % 512)

/-- A row: 64 data bits, 8 parity or check bits above. -/
def rowOf (s : State) (k : Nat) : BitVec 72 := sget (rowInit s) s.fab.bram k
def setRow (k : Nat) (v : BitVec 72) (s : State) : State := { s with fab := { s.fab with bram := sset (rowInit s) s.fab.bram k v } }

/-- The bits of a guarded word that are wrong. -/
def errOf (s : State) (k : Nat) : BitVec 72 := sget (fun _ => 0) s.fab.bramErr k
def setErr (k : Nat) (e : BitVec 72) (s : State) : State :=
  { s with fab := { s.fab with bramErr := sset (fun _ => 0) s.fab.bramErr k e } }

/-- Data and parity bits of a word by width code: 36, 18, 9, 8, 4, 2, 1 (R50). -/
def viewBits (w : Nat) : Nat × Nat :=
  match w with
  | 0 => (32, 4) | 1 => (16, 2) | 2 => (8, 1) | 3 => (8, 0) | 4 => (4, 0) | 5 => (2, 0) | _ => (1, 0)

/-- The row and the place in it of a word address of a view. -/
def viewPlace (w a : Nat) : Nat × Nat := let n := 64 / (viewBits w).1; (a / n % 512, a % n)

/-- The bits of a row that a word of a view takes. -/
def viewMask (w i : Nat) : Nat :=
  let v := viewBits w
  (2 ^ v.1 - 1) * 2 ^ (v.1 * i) + (2 ^ v.2 - 1) * 2 ^ (64 + v.2 * i)

/-- A word of a view, its parity bits above its data bits. DESIGN CHOICE (log 68): word 0 of a row is its low bits. -/
def viewGet (row : BitVec 72) (w i : Nat) : BitVec 72 :=
  let v := viewBits w
  BitVec.ofNat 72 (nfld row.toNat (v.1 * i) v.1 + nfld row.toNat (64 + v.2 * i) v.2 * 2 ^ v.1)

/-- A row with a word of a view written. -/
def viewPut (row : BitVec 72) (w i : Nat) (x : BitVec 72) : BitVec 72 :=
  let v := viewBits w
  let n := nfld x.toNat 0 v.1 * 2 ^ (v.1 * i) + nfld x.toNat v.1 v.2 * 2 ^ (64 + v.2 * i)
  (row &&& ~~~(BitVec.ofNat 72 (viewMask w i))) ||| BitVec.ofNat 72 n

/-- The bits of a row that the byte lanes of WIDE enable: lane l is data byte l with parity bit l. -/
def laneMask (lanes : BitVec 9) : Nat := (List.range 8).foldl (fun a l => if lanes.getLsbD l then a + 255 * 2 ^ (8 * l) + 2 ^ (64 + l) else a) 0

/-- How many blocks join block b through their depth paths, b with them: up to four, of one column (R54). -/
def joined' (s : State) (b : Nat) : Nat :=
  let up := fun (d : Nat) => (bramCfgOf s (b + d)).joinsUp && (b + d) % 12 != 11
  if !up 0 then 1 else if !up 1 then 2 else if !up 2 then 3 else 4

/-- What a port may do in a mode (R50). -/
def portWrites (m : BramMode) (p : Nat) : Bool := match m with | .dual => true | .wide | .guarded => p == 0 | .constant => false
def portReads (m : BramMode) (p : Nat) : Bool := match m with | .dual | .constant => true | .wide | .guarded => p == 1

/-- A port's access: the row (block x 512 + row), the word of the view within it, and the bits of the row it takes. -/
structure BramAt where
  row : Nat
  place : Nat
  mask : Nat
  deriving DecidableEq, Repr

/-- Where a cycle of a port goes, if it is one its block's mode allows. -/
def bramAt (s : State) (b p : Nat) (c : BramCycle) : Option BramAt :=
  let k := bramCfgOf s b
  let w := (if p = 0 then k.port0 else k.port1).width.val
  if joined' s b ≤ c.depth.val then none
  else if !(if c.isWrite then portWrites k.mode p else portReads k.mode p) then none
  else match k.mode with
    | .dual | .constant =>
      let v := viewPlace w c.addr
      some ⟨(b + c.depth.val) * 512 + v.1, v.2, viewMask w v.2⟩
    | .wide => some ⟨(b + c.depth.val) * 512 + c.addr % 512, 0, if c.isWrite then laneMask c.lanes else 2 ^ 72 - 1⟩
    | .guarded => some ⟨(b + c.depth.val) * 512 + c.addr % 512, 0, 2 ^ 72 - 1⟩

/-- The row a write leaves. -/
def bramStored (s : State) (b p : Nat) (c : BramCycle) (x : BramAt) : BitVec 72 :=
  let k := bramCfgOf s b
  let row := rowOf s x.row
  match k.mode with
  | .wide => (row &&& ~~~(BitVec.ofNat 72 x.mask)) ||| (c.data &&& BitVec.ofNat 72 x.mask)
  | .guarded => (c.data.truncate 64).setWidth 72
  | _ => viewPut row (if p = 0 then k.port0 else k.port1).width.val x.place c.data

/-- The word a port shows of a row. -/
def bramShown (s : State) (b p : Nat) (x : BramAt) (row : BitVec 72) : BitVec 72 :=
  let k := bramCfgOf s b
  match k.mode with
  | .dual | .constant => viewGet row (if p = 0 then k.port0 else k.port1).width.val x.place
  | _ => row

/-- The data bits that FLIP1 and FLIP2 invert after the check bits were formed (R53): one, or two; which ones is a free value. -/
def flipMask (s : State) (c : BramCycle) : BitVec 72 :=
  let i := s.freeBelow 64
  let j := (i + 1 + s.bump.freeBelow 63) % 64
  if c.flip2 then BitVec.twoPow 72 i ||| BitVec.twoPow 72 j else if c.flip1 then BitVec.twoPow 72 i else 0

/-- A port's write performed: a guarded word gets right check bits, and a repair that waits for it is over (R53). -/
def bramWrite (b p : Nat) (c : BramCycle) (x : BramAt) (s : State) : State :=
  let v := bramStored s b p c x
  match (bramCfgOf s b).mode with
  | .guarded =>
    let s := (setErr x.row (flipMask s c) (setRow x.row v s)).bump.bump
    { s with fab := { s.fab with repair := s.fab.repair.filter (· != x.row) } }
  | _ => setRow x.row v s

/-- A port of the module: 2 x block + port. -/
def bportOf (s : State) (n : Nat) : BramPort := sget (fun _ => BramPort.reset) s.fab.bports n
def setBport (n : Nat) (x : BramPort) (s : State) : State :=
  { s with fab := { s.fab with bports := sset (fun _ => BramPort.reset) s.fab.bports n x } }

/-- The read latency of a port in its clock cycles (R54, R55): 1, and 1 each for the output register, the correction register and every joined
block beyond the first. -/
def bramLatency (s : State) (b p : Nat) : Nat :=
  let k := bramCfgOf s b
  1 + b2n (if p = 0 then k.port0 else k.port1).outReg + b2n (k.mode == .guarded && k.corrReg) + (joined' s b - 1)

/-- A value enters a port's pipeline of `n` stages, and the oldest shows. -/
def pushPort (n : Nat) (v : BitVec 72) (p : BramPort) : BramPort :=
  let l := p.pipe ++ [v]
  let m := l.drop (l.length - n)
  if m.length < n then { p with pipe := m } else { p with out := m.headD v, pipe := m.drop 1 }

/-- What a port takes into its pipeline: the word of its read, or in a write cycle what its read-during-write behaviour shows (R51). A port that only
writes takes nothing. -/
def bramPush (b p : Nat) (isWrite : Bool) (old new : BitVec 72) (s : State) : State :=
  let k := bramCfgOf s b
  let x := bportOf s (2 * b + p)
  if !portReads k.mode p then s
  else
    let v := if !isWrite then old else match (if p = 0 then k.port0 else k.port1).onWrite with
      | .old => old | .new => new | .keep => x.last
    let y := pushPort (bramLatency s b p) v x
    setBport (2 * b + p) (if isWrite then y else { y with last := v }) s

/-- An error of a guarded word: FAB_ECC_CNT, FAB_ECC_LAST and its source; a double-bit error raises fault 0x0B01. -/
def bramNote (block word : Nat) (ue : Bool) (s : State) : State :=
  let s := s.incSat Reg.FAB_ECC_CNT (if ue then 0 else 16) 16
  let s := s.wrg Reg.FAB_ECC_LAST (w32 (b2n ue * 2 ^ 31 + block * 2 ^ 16 + word))
  let irq1 := fun (n : Nat) (s : State) => s.wrg (irqRaw 0x0B) (w32 (nset (s.rg (irqRaw 0x0B)).toNat n))
  if ue then raise 0x0B01 (irq1 1 s) else irq1 0 s

/-- A port-1 read of the guarded word `key` (R53): the word delivered, and 0, 1 (CORR) or 2 (UNCORR). A single wrong bit is corrected, and with REPAIR
the word waits for its write-back. What three or more wrong bits show is a free value. -/
def guardedRead (key : Nat) (s : State) : State × DWord × Nat :=
  let err := errOf s key
  let content := (rowOf s key).truncate 64
  let raw := content ^^^ err.truncate 64
  match popc 72 err.toNat with
  | 0 => (s, content, 0)
  | 1 =>
    let s := if (bramCfgOf s (key / 512)).repair then
        { s with fab := { s.fab with repair := if s.fab.repair.contains key then s.fab.repair else s.fab.repair ++ [key] } }
      else s
    (bramNote (key / 512) (key % 512) false s, content, 1)
  | 2 => (bramNote (key / 512) (key % 512) true s, raw, 2)
  | _ =>
    let k := s.freeBelow 3
    let data := Config.freeValue (s.fresh + 1)
    let s := s.bump.bump
    (if k = 0 then s else bramNote (key / 512) (key % 512) (k == 2) s, if k = 2 then raw else data, k)

/-- What a port reads of a word: a guarded word through its check. -/
def bramRead (b p : Nat) (x : BramAt) (s : State) : State × BitVec 72 :=
  match (bramCfgOf s b).mode with
  | .guarded => let r := guardedRead x.row s; (r.1, r.2.1.setWidth 72)
  | _ => (s, bramShown s b p x (rowOf s x.row))

/-- A port's cycle that no other meets at its word. -/
def bramOne (b p : Nat) (c : BramCycle) (x : BramAt) (s : State) : State :=
  if c.isWrite then
    let old := bramShown s b p x (rowOf s x.row)
    let t := bramWrite b p c x s
    bramPush b p true old (bramShown t b p x (rowOf t x.row)) t
  else
    let r := bramRead b p x s
    bramPush b p false r.2 r.2 r.1

/-- Whether two accesses take bits of one row in common. -/
def BramAt.meets (x y : BramAt) : Bool := x.row == y.row && x.mask &&& y.mask != 0

/-- The CLASH output of a block: 1 for the port-1 cycle in which both ports wrote one word (R52). -/
def setClash (b : Nat) (on : Bool) (s : State) : State :=
  let l := s.fab.clash.filter (· != b)
  { s with fab := { s.fab with clash := if on then l ++ [b] else l } }

/-- A cycle of both ports (R52). Where both write one word, port 0's data is stored and port 1's write discarded, with CLASH; where one writes the word
the other reads, the read returns the whole old or the whole new word, which is a free value. -/
def bramBoth (b : Nat) (c0 c1 : BramCycle) (x0 x1 : BramAt) (s : State) : State :=
  if !x0.meets x1 then setClash b false (bramOne b 1 c1 x1 (bramOne b 0 c0 x0 s))
  else if c0.isWrite && c1.isWrite then setClash b true (bramOne b 0 c0 x0 s)
  else if s.freeBelow 2 = 0 then setClash b false (bramOne b 1 c1 x1 (bramOne b 0 c0 x0 s.bump))
  else setClash b false (bramOne b 0 c0 x0 (bramOne b 1 c1 x1 s.bump))

/-- A cycle of one port or both of block b. -/
def bramCycle (b : Nat) (p0 p1 : Option BramCycle) (s : State) : State :=
  let go := fun (p : Nat) (c : Option BramCycle) => c.bind fun c => (bramAt s b p c).map fun x => (c, x)
  match go 0 p0, go 1 p1 with
  | none, none => s
  | some c, none => bramOne b 0 c.1 c.2 s
  | none, some c => setClash b false (bramOne b 1 c.1 c.2 s)
  | some c, some d => bramBoth b c.1 d.1 c.2 d.2 s

/-- A corrected word is written back through port 0 in the first cycle in which port 0 does not write: its check bits are right again (R53). -/
def bramRepair (key : Nat) (s : State) : State :=
  if s.fab.repair.contains key ∧ !isolated s (key / 512 / 24) then
    setErr key 0 { s with fab := { s.fab with repair := s.fab.repair.filter (· != key) } }
  else s

/-! ### DSP blocks (R56 to R59) -/

def dspOf (s : State) (n : Nat) : Dsp := sget (fun _ => Dsp.reset) s.fab.dsps n
def dspCfgOf (s : State) (n : Nat) : DspCfg := Config.dspCfg (dspFrame s.fab.latch (n / 16) (n % 16))

/-- CHAIN of a block: ACC of the block below it in its column of 8 (R58); 0 for the lowest. -/
def dspChain (s : State) (n : Nat) : BitVec 48 := if n % 8 = 0 then 0 else (dspOf s (n - 1)).acc

/-- What the pre-adder forms, in 27 bits (R56). -/
def preAdd (op : PreOp) (x w : BitVec 27) : BitVec 27 :=
  match op with | .add => x + w | .sub => x - w | .rsub => w - x | .pass => x

/-- The 27 x 24 product, each operand signed or unsigned, as ACC takes it (R56). -/
def dspProduct (c : DspCfg) (x : BitVec 27) (y : BitVec 24) : BitVec 48 :=
  let a : Int := if c.signedX then x.toInt else x.toNat
  let b : Int := if c.signedY then y.toInt else y.toNat
  BitVec.ofInt 48 (a * b)

/-- The lanes of the accumulator stage: how many, and of how many bits. -/
def laneShape : Lanes → Nat × Nat
  | .one => (1, 48) | .two => (2, 24) | .three => (3, 16)

/-- A sum or difference lane by lane, with the carry-out of each lane (R59). -/
def laneSum (l : Lanes) (a b : BitVec 48) (minus : Bool) : BitVec 48 × BitVec 3 :=
  let k := laneShape l
  (List.range k.1).foldl (fun x i =>
    let u := nfld a.toNat (k.2 * i) k.2
    let v := nfld b.toNat (k.2 * i) k.2
    let t := if minus then u + (2 ^ k.2 - v) else u + v
    (x.1 ||| BitVec.ofNat 48 (t % 2 ^ k.2 * 2 ^ (k.2 * i)), if 2 ^ k.2 ≤ t then x.2 ||| BitVec.twoPow 3 i else x.2)) (0, 0)

/-- What the accumulator stage writes into ACC (R56, R59), from ACC, Z and the product; the multiplier is not used with lanes. -/
def dspStage (c : DspCfg) (acc z p : BitVec 48) : BitVec 48 × BitVec 3 :=
  let p : BitVec 48 := if c.lanes = .one then p else 0
  match c.op with
  | .accPlusP => laneSum c.lanes acc p false
  | .accMinusP => laneSum c.lanes acc p true
  | .zPlusP => laneSum c.lanes z p false
  | .zMinusP => laneSum c.lanes z p true
  | .accPlusZ => laneSum c.lanes acc z false
  | .andZ => (acc &&& z, 0)
  | .orZ => (acc ||| z, 0)
  | .xorZ => (acc ^^^ z, 0)

/-- An edge of a DSP block's clock (R56 to R59): every register takes what stood before it. -/
def dspEdge (n : Nat) (x w : BitVec 27) (y : BitVec 24) (z : BitVec 48) (s : State) : State :=
  let c := dspCfgOf s n
  let d := dspOf s n
  let pre := preAdd c.pre (if c.useIx then d.ix else x) (if c.useIw then d.iw else w)
  let mul := dspProduct c (if c.usePre then d.pre else pre) (if c.useIy then d.iy else y)
  let zin := match c.zFrom with
    | .z => if c.useIz then d.iz else z
    | .chain => dspChain s n
    | .chainShift => (dspChain s n).sshiftRight 24
  let r := dspStage c d.acc zin (if c.useMul then d.mul else mul)
  let e : Dsp := ⟨x, w, y, z, pre, mul, r.1, r.2⟩
  { s with fab := { s.fab with dsps := sset (fun _ => Dsp.reset) s.fab.dsps n e } }

/-- MATCH of a block, one bit for each lane (R56, R59): every bit of ACC that the mask compares agrees with the constant. -/
def dspMatch (s : State) (n : Nat) : BitVec 3 :=
  let c := dspCfgOf s n
  let k := laneShape c.lanes
  let off := ((dspOf s n).acc ^^^ c.matchWord) &&& c.matchMask
  (List.range k.1).foldl (fun x i => if nfld off.toNat (k.2 * i) k.2 = 0 then x ||| BitVec.twoPow 3 i else x) 0

/-! ### Clock lines (R60) -/

/-- Rising edges of a line: 0 to 63 global, 64 + 32b + 2k + j the line that buffer j of the region at position k of bolt b drives. -/
def lineCount (s : State) (n : Nat) : Nat := sget (fun _ => 0) s.fab.lines n
def lineUp (s : State) (n : Nat) : State := { s with fab := { s.fab with lines := sset (fun _ => 0) s.fab.lines n (lineCount s n + 1) } }

/-- The buffer of a global line. -/
def gbufOf (s : State) (n : Nat) : GBuf := sget (fun _ => GBuf.reset) s.fab.gbufs n

/-- What drives a line: of a global line, the input that its buffer selects (R63). -/
def lineSource (s : State) (n : Nat) : LineSource :=
  if n < 64 then Config.globalSource (allRegions.flatMap (markFrames s.fab.latch)) n (gbufOf s n).sel
  else Config.regionalSource (markFrames s.fab.latch ((n - 64) / 2)) (Fin.ofNat 2 (n % 2))

/-- The line may have an edge: the buffer of a global line is enabled (R60, R63, R391), a regional buffer's region not isolated. -/
def lineRuns (s : State) (n : Nat) : Bool :=
  if n < 64 then (gbufOf s n).out.isSome else !isolated s ((n - 64) / 2)

/-- The regional lines that a rising edge of global line g moves: those it drives divided by n, at every n-th edge. -/
def lineDivided (g : Nat) (s : State) : State :=
  ((List.range 256).map (64 + ·)).foldl (fun s n =>
    match lineSource s n with
    | .global l d => if l.val = g ∧ lineRuns s n ∧ lineCount s g % (d.val + 1) = 0 then lineUp s n else s
    | _ => s) s

/-- A rising edge of a line, with the regional lines that follow it. -/
def lineEdge (s : State) (n : Nat) : State :=
  if !lineRuns s n then s else if n < 64 then lineDivided n (lineUp s n) else lineUp s n

/-- A source may drive a line: a DLL drives the regional lines of its own bolt only (R60, R64); PLL3 to PLL7 drive global lines (R391). -/
def sourceReaches (x : LineSource) (n : Nat) : Bool :=
  match x with
  | .pll p _ => decide (n < 64) && decide (3 ≤ p.val)
  | .dll d _ => decide (n < 64) || (n - 64) / 32 == d.val / 2
  | .net | .global _ _ => false

/-- A rising edge of a PLL output or a DLL tap: every line that takes it as its source. -/
def clockEdge (x : LineSource) (s : State) : State :=
  (List.range 320).foldl (fun s n => if sourceReaches x n && lineSource s n == x then lineEdge s n else s) s

/-- A rising edge of the fabric net that drives a line. -/
def netEdge (n : Nat) (s : State) : State := if lineSource s n == .net then lineEdge s n else s

/-! ### Boundary outputs (R48, R80) -/

/-- What a boundary output shows: its region's isolation constant while the region is isolated, from its boundary frames as they were when it was
isolated (0 where they set none); else what the design drives. -/
def boundaryOut (s : State) (r i : Nat) : Bool :=
  if isolated s r then (Config.isoConstant (sget (fun _ => markFrames s.fab.latch r) s.fab.iso r) i).getD false
  else match s.fab.bouts.find? (·.1 == 1536 * r + i) with
    | some x => x.2
    | none => Config.boundaryStart (allFrames s.fab.start r) i

/-- The boundary frames of the isolated regions of a mask kept, before their latches change: the constants stand until release (R80). -/
def keepIso (mask : Nat → Bool) (s : State) : State :=
  { s with fab := { s.fab with
      iso := allRegions.foldl (fun l r =>
        if mask r && isolated s r && !(l.any (·.1 == r)) then sins r (markFrames s.fab.latch r) l else l) s.fab.iso } }

/-! ### Release and state carry (R47, R128 to R130) -/

/-- The cells of a region at its release: its frames are those its cells start from; flip-flops, RAM contents and registers take their initial
values (R47, R130). -/
def initRegion (s : State) (r : Nat) : State :=
  let f := s.fab
  { s with fab := { f with
    start := f.start.filter (fun x => x.1 / 512 != r && decide (x.1 / 512 < r)) ++ f.latch.filter (fun x => x.1 / 512 == r)
      ++ f.start.filter (fun x => decide (r < x.1 / 512))
    ffs := sdrop (fun k => k / 12288 == r) f.ffs
    luts := sdrop (fun k => k / 6144 == r) f.luts
    chain := sdrop (fun k => k / 768 == r) f.chain
    bram := sdrop (fun k => k / 12288 == r) f.bram
    bports := sdrop (fun k => k / 48 == r) f.bports
    clash := f.clash.filter (· / 24 != r)
    dsps := sdrop (fun k => k / 16 == r) f.dsps
    bouts := sdrop (fun k => k / 1536 == r) f.bouts
    iso := sdel r f.iso
    bramErr := sdrop (fun k => k / 12288 == r) f.bramErr
    repair := f.repair.filter (· / 12288 != r) } }

/-- The carry slots of a region's image: flip-flop slots from 0, BRAM words from 2^20 (R128). -/
def carrySlots (m : List (Nat × BitVec 4096)) (r : Nat) : List Nat :=
  Config.carryFf (markFrames m r) ++ (Config.carryBram (markFrames m r)).map (· + 2 ^ 20)

/-- The row and the half of it that a BRAM carry word of region r stands for: a word of the block's 1K x 36 view. -/
def carryRow (m : List (Nat × BitVec 4096)) (r k : Nat) : Nat × Nat :=
  let x := Config.carryBramAt (markFrames m r) k
  ((24 * r + x.1 % 24) * 512 + x.2 / 2 % 512, x.2 % 2)

/-- What the element of a carry slot of region r holds: a flip-flop, or 36 bits of BRAM with the bits of them that are wrong above. -/
def carryGet (s : State) (r k : Nat) : BitVec 72 :=
  if k < 2 ^ 20 then BitVec.ofNat 72 (b2n (ffOf s (12288 * r + Config.carryFfAt (markFrames s.fab.latch r) k % 12288)))
  else
    let x := carryRow s.fab.latch r (k - 2 ^ 20)
    BitVec.ofNat 72 ((viewGet (rowOf s x.1) 0 x.2).toNat + (viewGet (errOf s x.1) 0 x.2).toNat * 2 ^ 36)

/-- The element of a carry slot of region r takes a carried value. -/
def carryPut (r k : Nat) (v : BitVec 72) (s : State) : State :=
  if k < 2 ^ 20 then setFf (12288 * r + Config.carryFfAt (markFrames s.fab.latch r) k % 12288) (v.getLsbD 0) s
  else
    let x := carryRow s.fab.latch r (k - 2 ^ 20)
    let s := setRow x.1 (viewPut (rowOf s x.1) 0 x.2 (BitVec.ofNat 72 (v.toNat % 2 ^ 36))) s
    setErr x.1 (viewPut (errOf s x.1) 0 x.2 (BitVec.ofNat 72 (v.toNat / 2 ^ 36))) s

/-! ### The loaded design's logic -/

/-- The region an event acts in; none for the clock lines, which `lineRuns` governs. -/
def FabricEvent.region : FabricEvent → Option Nat
  | .slice n _ _ _ | .setReset n | .carry n _ _ => some (n.val / 768)
  | .bram b _ _ => some (b.val / 24)
  | .dsp n _ _ _ _ => some (n.val / 16)
  | .boundary r _ _ => some r.val
  | .clockEdge _ | .netEdge _ => none

/-- What an event does to the cells. -/
def FabricEvent.act (e : FabricEvent) (s : State) : State :=
  match e with
  | .slice n en sr l => sliceEdge n.val en sr l s
  | .setReset n => asyncReset n.val s
  | .carry n c l => carryChain n.val c l s
  | .bram b p q => bramCycle b.val p q s
  | .dsp n x w y z => dspEdge n.val x w y z s
  | .clockEdge x => Machine.clockEdge x s
  | .netEdge n => Machine.netEdge n.val s
  | .boundary r i v => { s with fab := { s.fab with bouts := sins (1536 * r.val + i.val) v (sdel (1536 * r.val + i.val) s.fab.bouts) } }

/-- One event of the loaded design's logic: nothing while its region is isolated and held in reset (R80). -/
def fabricEvent (s : State) (e : FabricEvent) : State :=
  match e.region with
  | some r => if isolated s r then s else e.act s
  | none => e.act s

/-- What the logic of the loaded design does within a tick, while the fabric's clocks run (R463): in every mode in which a region is not isolated,
but NAP. The table has no command for a fabric clock: DESIGN CHOICE (log 1). -/
def fabricRun (s : State) : State :=
  if s.mode = .nap ∨ allRegions.all (isolated s) then s
  else (Config.fabricActivity s.fresh).foldl fabricEvent s.bump

end Sys2Proof.Machine
end

