-- ==== Sys2Proof/Machine/Slices.lean ====
section
/-!
DEFINITION. The slices of Fitting that run (R521, R524, R526): the classes, what aborts a slice and what an abort counts. Every access, start
and request that another unit makes goes through these.
-/

namespace Sys2Proof.Machine

def FIT_PAGE : Nat := 0x50

/-- The classes of R521: units, slices per unit, duration in ns, test cycles, power in mW, and whether the class has a MISR. -/
structure FitClass where
  units : Nat
  slices : Nat
  ns : Nat
  cycles : Nat
  mw : Nat
  misr : Bool
  deriving DecidableEq, Repr

def fitClass : Nat → FitClass
  | 1 => ⟨16, 64, 56000, 25000, 300, true⟩
  | 2 => ⟨16, 32, 6000, 5120, 100, false⟩
  | 3 => ⟨8, 16, 82000, 40960, 150, false⟩
  | 4 => ⟨64, 4, 21000, 10240, 50, false⟩
  | 5 => ⟨8, 8, 17000, 4096, 80, true⟩
  | 6 => ⟨1, 4, 1000000, 500000, 400, true⟩
  | 7 => ⟨1, 1, 100000, 50000, 20, false⟩
  | _ => ⟨0, 0, 0, 0, 0, false⟩

def fitUnit (s : State) (c u : Nat) : FitUnit := sget (fun _ => FitUnit.reset) s.fit.units (c * 256 + u)
def setFitUnit (c u : Nat) (x : FitUnit) (s : State) : State :=
  { s with fit := { s.fit with units := sset (fun _ => FitUnit.reset) s.fit.units (c * 256 + u) x } }

/-- The next slice of a unit in the round: the forced one, or the lowest not passed. -/
def fitNext (c : Nat) (x : FitUnit) : Option Nat :=
  match x.force with
  | some k => some k
  | none => (List.range (fitClass c).slices).find? fun k => !x.passed.testBit k

/-- FIT_RESULT. -/
def fitResult (cycles c u k code : Nat) (s : State) : State :=
  s.wrg64 Reg.FIT_RESULT (cycles % 2 ^ 32 * 2 ^ 32 + c % 16 * 2 ^ 28 + u % 256 * 2 ^ 20 + k % 256 * 2 ^ 12 + code)

/-- A slice is aborted (R524, R526): counted, unless it is forced; the 16th abort in a row of the unit's pending slice forces it. A demanded slice is
repeated. The cycles it had run are a free value. -/
def abortOne (r : FitRun) (s : State) : State :=
  let s := fitResult (s.freeBelow (fitClass r.cls).cycles) r.cls r.unit r.slice 5 s.bump
  let s := { s with fit := { s.fit with running := s.fit.running.erase r,
                                        demand := if r.demanded then (r.cls, r.unit, r.slice) :: s.fit.demand else s.fit.demand } }
  if r.forced then s
  else
    let x := fitUnit s r.cls r.unit
    let n := min (x.aborts + 1) 16
    let y := if fitNext r.cls x = some r.slice then { x with aborts := n, force := if n = 16 then some r.slice else x.force } else x
    (setFitUnit r.cls r.unit y s).incSat Reg.FIT_COUNT 16 16

/-- Every ordinary slice that satisfies `p` is aborted. -/
def abortSlices (p : FitRun → Bool) (s : State) : State :=
  (s.fit.running.filter fun r => p r && !r.forced).foldl (fun s r => abortOne r s) s

/-- Every slice is aborted, forced ones too (R532, R534, R535). -/
def abortAll (s : State) : State := s.fit.running.foldl (fun s r => abortOne r s) s

/-! ### The abort events of R524 -/

/-- An access to shared SRAM: the slice of its 64 KiB segment. -/
def fitSram (a n : Nat) (s : State) : State :=
  if s.fit.running.isEmpty then s
  else abortSlices (fun r => r.cls == 3 && decide (a < 0x20000000 + r.unit * 0x100000 + (r.slice + 1) * 0x10000)
    && decide (0x20000000 + r.unit * 0x100000 + r.slice * 0x10000 < a + n)) s

/-- A push, pop or port command. -/
def fitQueue (q : Nat) (s : State) : State := if s.fit.running.isEmpty then s else abortSlices (fun r => r.cls == 4 && r.unit == q) s

/-- A start, read or fetch in a flash bank. -/
def fitFlash (b : Nat) (s : State) : State := if s.fit.running.isEmpty then s else abortSlices (fun r => r.cls == 5 && r.unit == b) s

/-- A request at Thimble's units (R475). -/
def fitCrypto (s : State) : State := if s.fit.running.isEmpty then s else abortSlices (fun r => r.cls == 6) s

/-- A CORE_RUN.START write or a debug halt request. -/
def fitCore (c : Nat) (s : State) : State :=
  if s.fit.running.isEmpty then s else abortSlices (fun r => (r.cls == 1 || r.cls == 2) && r.unit == c) s

/-- An alias access to a core's TCM. -/
def fitTcm (c : Nat) (s : State) : State := if s.fit.running.isEmpty then s else abortSlices (fun r => r.cls == 2 && r.unit == c) s

/-- The slices that a mode lets go on (R534): in SAFE the demanded ones; in HOLD, LOAD, HEM_LOAD and TRANSIT none. -/
def fitStays (m : Mode) (r : FitRun) : Bool :=
  match m with
  | .run | .service | .doze | .swap => true
  | .safe => r.demanded
  | _ => false

end Sys2Proof.Machine
end

