-- ==== Sys2Proof/Machine/System.lean ====
section
/-!
DEFINITION. The operations that several subsystems share: interrupt sources, isolation and release of regions, the planes,
the ends that other mode changes put to image operations (R140), and entry to SAFE (R542, R546).
-/

namespace Sys2Proof.Machine

/-! ### Interrupt sources -/

/-- Whether any source of a page is pending and enabled: IRQ_PEND is not 0 (R22, R178); for SEAM, in any panel's bank. -/
def pageIrq (s : State) (i : Nat) : Bool :=
  if i = 0 then (List.range 8).any fun p => (s.rg (bank p 0x10) &&& s.rg (bank p 0x14)) != 0
  else s.rg (irqRaw i) &&& s.rg (irqEn i) != 0

def fnOf (s : State) (f : Nat) : PcieFn := sget (fun _ => PcieFn.reset) s.hst.fns f
def setFn (f : Nat) (x : PcieFn) (s : State) : State :=
  { s with hst := { s.hst with fns := sset (fun _ => PcieFn.reset) s.hst.fns f x } }

/-- The DW of a function's MSI-X table at reset: vector control masked, the rest 0. -/
def msixReset (i : Nat) : Word := if i % 4 = 3 then 1 else 0

/-- The level of a vector's source (R370): a page's interrupt output, a frame in MBX_OUT, MBX_IN free. -/
def sourceLevel (s : State) (f v : Nat) : Bool :=
  match s.rf (Reg.HST_VEC f v) 0 7 with
  | 0x7E => !(fnOf s f).out.isEmpty
  | 0x7F => !(s.ses.inbox.any fun x => x.1 == f)
  | n => (pageOf n).isSome && pageIrq s n

/-- D3hot: the power state of the function's PMCSR, DW 17 of its configuration space. -/
def inD3 (s : State) (f : Nat) : Bool := fld (sget (fun _ => 0) (fnOf s f).cfg 17) 0 2 == 3

/-- Bus Master Enable: bit 2 of the Command register, DW 1. -/
def busMaster (s : State) (f : Nat) : Bool := bit (sget (fun _ => 0) (fnOf s f).cfg 1) 2

/-- MSI-X Enable and Function Mask: bits 31 and 30 of DW 44. -/
def msixOn (s : State) (f : Nat) : Bool := bit (sget (fun _ => 0) (fnOf s f).cfg 44) 31
def msixMasked (s : State) (f v : Nat) : Bool :=
  bit (sget (fun _ => 0) (fnOf s f).cfg 44) 30 || bit (sget msixReset (fnOf s f).msix (4 * v + 3)) 0

/-- A message of vector v goes out, where the function may issue requests (R365, R385). -/
def sendMsg (f v : Nat) (s : State) : State :=
  if s.hst.linkUp && busMaster s f && !inD3 s f && msixOn s f then
    { s with hst := { s.hst with msgs := s.hst.msgs ++ [(f, v)] } }
  else s

/-- One vector (R370): a source that rises sends the message, or sets the PBA bit where the vector is masked. -/
def vectorScan (f : Nat) (s : State) (v : Nat) : State :=
  let x := fnOf s f
  let now := sourceLevel s f v
  if now = x.level.getLsbD v then s
  else
    let one : BitVec 64 := 1#64 <<< v
    if now then
      if msixMasked s f v then setFn f { x with level := x.level ||| one, pba := x.pba ||| one } s
      else sendMsg f v (setFn f { x with level := x.level ||| one } s)
    else setFn f { x with level := x.level &&& ~~~one } s

/-- The enabled vectors: function and vector of each HST_VECf_v whose EN is 1. -/
def vectorsOn (s : State) : List (Nat × Nat) :=
  s.regs.filterMap fun x =>
    if 0x40400 ≤ x.1 ∧ x.1 < 0x40800 ∧ bit x.2 31 then some ((x.1 - 0x40400) / 0x100, (x.1 - 0x40400) % 0x100 / 4) else none

/-- Every enabled MSI-X vector looks at its source (R370). -/
def hstScan (s : State) : State := (vectorsOn s).foldl (fun s x => vectorScan x.1 s x.2) s

/-- A write of HST_VECf_v: a vector that takes a source which is 1 does not see it rise. -/
def vecWrite (f v : Nat) (w : Word) (s : State) : State :=
  let s := s.wrg (Reg.HST_VEC f v) (w &&& 0x8000007F)
  let x := fnOf s f
  let one : BitVec 64 := 1#64 <<< v
  setFn f { x with level := if sourceLevel s f v then x.level ||| one else x.level &&& ~~~one } s

/-- What an interrupt output that may have risen does to the MSI-X vectors (R370). -/
def hstNotify (_page : Nat) (s : State) : State := hstScan s

/-- The module sets an interrupt source of a page (R22). -/
def irq (page n : Nat) (s : State) : State :=
  hstNotify page (s.wrg (irqRaw page) (w32 (nset (s.rg (irqRaw page)).toNat n)))

/-- A SEAM interrupt source, in the bank of panel `p` (R39). -/
def irqSeam (p n : Nat) (s : State) : State :=
  hstNotify 0 (s.wrg (bank p 0x10) (w32 (nset (s.rg (bank p 0x10)).toNat n)))

/-! ### Planes -/

def planeOf (s : State) : Plane → PlaneRec
  | .a => s.pat.planeA
  | .b => s.pat.planeB
  | .hem => s.pat.planeHem

def setPlane (p : Plane) (r : PlaneRec) (s : State) : State :=
  match p with
  | .a => { s with pat := { s.pat with planeA := r } }
  | .b => { s with pat := { s.pat with planeB := r } }
  | .hem => { s with pat := { s.pat with planeHem := r } }

/-- The code of a plane in PAT_CMD.TARGET and PAT_ACTIVE_PLANE. -/
def Plane.code : Plane → Nat
  | .a => 0 | .b => 1 | .hem => 2

/-- A plane that is ACTIVE: VALID, and its content is in the latches (R109, R110). -/
def isActive (s : State) (p : Plane) : Bool := s.pat.loaded == some p && (planeOf s p).st == .valid

/-- The state code of a plane (R109). -/
def planeCode (s : State) (p : Plane) : Nat :=
  if isActive s p then 4
  else match (planeOf s p).st with
    | .empty => 0 | .writing => 1 | .valid => 2 | .invalid => 3

/-- The selected plane (R112). -/
def selected (s : State) : Plane := if s.pat.selectedB then .b else .a

/-- PAT_ERR with a stage and a code (R142). -/
def patErr (stage code : Nat) (s : State) : State := s.wrg Reg.PAT_ERR (w32 (stage * 256 + code))
/-- BAS_ERR with a stage and a code. -/
def basErr (stage code : Nat) (s : State) : State := s.wrg Reg.BAS_ERR (w32 (stage * 256 + code))

def PAT_PAGE : Nat := 0x08
def BAS_PAGE : Nat := 0x09

/-- The report of a plane write that fails (R120): PAT_ERR, fault 0x0806, FAILED. -/
def writeReport (stage code : Nat) (s : State) : State :=
  irq PAT_PAGE 1 (raise 0x0806 (patErr stage code { s with pat := { s.pat with writing := none, opState := 8 } }))

/-- A plane write ends without a VALID plane (R120, R121): the target INVALID. -/
def writeFails (p : Plane) (stage code : Nat) (s : State) : State :=
  writeReport stage code (setPlane p { planeOf s p with st := .invalid } s)

/-- A plane write in progress is aborted (R121, R140); in its header stage the target is untouched (R90). -/
def abortWrite (s : State) : State :=
  match s.pat.writing with
  | none => s
  | some w => if w.step = 1 then writeReport 0 0x25 s else writeFails w.plane 0 0x25 s

/-- A pending SWAP_AT is cancelled (R125, R140). -/
def cancelSwapAt (s : State) : State :=
  match s.pat.pending with
  | none => s
  | some _ => irq PAT_PAGE 1 (patErr 0 0x25 { s with pat := { s.pat with pending := none, opState := 8 } })

/-- A basting that has not reached step 3 is aborted: nothing in the fabric has changed (R138, R140). -/
def abortBasteEarly (s : State) : State :=
  match s.pat.baste with
  | none => s
  | some b =>
    if b.step < 3 then irq BAS_PAGE 1 (basErr 0 0x25 { s with pat := { s.pat with baste := none, basState := 8 } })
    else s

/-! ### Isolation and release -/

/-- The regions of a mask, isolated and held in reset by basting (R136 step 3, R152). A 1 µs reset in course of one of them (R151) does not release it. -/
def holdRegions (mask : BitVec 128) (s : State) : State :=
  { s with fab := { s.fab with held := s.fab.held ||| mask, paramPend := s.fab.paramPend &&& ~~~mask,
                               resetRel := s.fab.resetRel.filter fun x => !mask.getLsbD x.1 } }

/-- The regions of a mask released: their pads return to fabric drive at the next pad-clock edge, and their capture units owe the current words
(R68). Their flip-flops have their initial values (R47). -/
def releaseRegions (mask : BitVec 128) (s : State) : State :=
  let s := (bitsOf 128 mask.toNat).foldl initRegion s
  { s with fab := { s.fab with
    held := s.fab.held &&& ~~~mask, badCfg := s.fab.badCfg &&& ~~~mask, paramPend := s.fab.paramPend ||| mask } }

/-- The DLLs of `which` stop for a reason other than their enables (R403, R404): ALIGNED falls, IRQ source DLL_UNLOCK. -/
def dllsStop (which : Nat → Bool) (s : State) : State :=
  let hit := s.fab.dlls.any fun x => which x.1 && x.2.aligned
  let s := { s with fab := { s.fab with dlls := s.fab.dlls.filter fun x => !which x.1 } }
  if hit then irq 0x04 7 s else s

/-- A fault of the bolt switched off (R83): its 16 regions isolate and their clocks stop; fault 0x0B03. -/
def boltOff (b : Nat) (s : State) : State :=
  let s := dllsStop (fun d => d / 2 == b) (s.wf Reg.FAB_BOLT_OFF b 1 1)
  let s := match s.pat.baste with
    | some x =>
      if x.step ≥ 3 ∧ (bitsOf 128 x.mask.toNat).any (· / 16 == b) then
        irq BAS_PAGE 1 (raise 0x0901 (basErr 0 0x28 { s with pat := { s.pat with baste := none, basState := 8 } }))
      else s
    | none => s
  raise 0x0B03 s

/-! ### Modes -/

/-- The mode changes; AON_STATUS.PREV_MODE takes the mode left (R466); the slices of Fitting that the new mode does not let go on are
abandoned (R534). -/
def setMode (m : Mode) (s : State) : State :=
  { s with mode := m, prevMode := s.mode, fit := { s.fit with running := s.fit.running.filter (fitStays m) } }

/-- An active debug grant ends (R514): LCS_DBG clears, the halted cores resume, its log entry is closed with the reason
(R516), IRQ source GRANT_END. The mode is the caller's. SAFE entry at the tick of the end time gives that entry REASON 5 (R517). -/
def endGrant (reason : Nat) (s : State) : State :=
  match s.lcs.grant with
  | none =>
    match s.lcs.log with
    | e :: l =>
      if reason = 5 ∧ e.reason = 1 ∧ e.endT = s.now then { s with lcs := { s.lcs with log := { e with reason := 5 } :: l } } else s
    | [] => s
  | some _ =>
    let log := match s.lcs.log with
      | e :: l => { e with endT := s.now, reason := reason } :: l
      | [] => []
    irq 0x49 2 { s with lcs := { s.lcs with grant := none, halted := [], log := log },
                        dm := { s.dm with dcsr := [], tselect := [], tdata1 := [], tdata2 := [] } }

/-- A grant ends and SERVICE with it (R451, R514). -/
def closeGrant (reason : Nat) (s : State) : State :=
  let was := s.lcs.grant.isSome
  let s := endGrant reason s
  if was ∧ s.mode = .service then setMode .run s else s

/-- The grant in force: a grant past its end time is none (R514). -/
def grantNow (s : State) : Option Grant := s.lcs.grant.filter fun g => g.full || decide (s.now < g.endTime)

/-- A grant whose end time is reached ends (R514). -/
def grantExpire (s : State) : State := if s.lcs.grant.isSome ∧ (grantNow s).isNone then closeGrant 1 s else s

/-- The slots once every session is closed: free, GEN one up for each that was in use (R481, R490). -/
def closedSlots (l : List (Nat × Slot)) : List (Nat × Slot) :=
  (l.map fun x => (x.1, { Slot.reset with gen := if x.2.st = 0 then x.2.gen else (x.2.gen + 1) % 65536 })).filter fun x => x.2 != Slot.reset

/-- Every session closes without an ALERT, its receive cells free (R491); the frames that wait are lost with them, and a challenge issued in a
session goes with it (R511). -/
def wipeSessions (s : State) : State :=
  let s := if s.ses.slots.any fun x => x.2.st != 0 then irq 0x41 1 s else s
  { s with ses := { s.ses with inbox := [], slots := closedSlots s.ses.slots },
           lcs := { s.lcs with challenge := s.lcs.challenge.filter (·.jtag) } }

/-- A core that stands in a store to its doorbell page outside any thread issues the store again (R245). -/
def doorAgain (s : State) : State :=
  { s with cores := s.cores.map fun x => (x.1, if x.2.waiting ∧ !x.2.joined then { x.2 with waiting := false } else x.2) }

/-- A SAFE cause abandons a HIBERNATE entry that has not reached its step 6 (R460): the flush ends where it stands; what was
latched since step 1 stays for the replay. Otherwise SAFE entry cancels a pending request (R453). -/
def abandonEntry (s : State) : State :=
  { doorAgain s with bob := { s.bob with flushing := false }, fls := { s.fls with paused := none }, pwr := { s.pwr with entry := none, req := none, latching := false } }

/-- A RESTORE in progress is abandoned, its regions held: fault 0x0902 (R139). DEDUCED (log 73): as a basting from step 3 on (R138, R140). -/
def abortRestore (s : State) : State :=
  match s.pat.restore with
  | none => s
  | some _ => irq BAS_PAGE 1 (raise 0x0902 (basErr 0 0x25 { s with pat := { s.pat with restore := none, basState := 8 } }))

/-- SAFE entry (R546) with what R140 says of image operations. The pads follow from the mode (`padDrive`), as do the
flash controller, Overlock and the watchdogs. -/
def enterSafe (s : State) : State :=
  let s := abandonEntry (endGrant 5 (abortBasteEarly (cancelSwapAt (abortWrite s))))
  let s := match s.pat.baste with
    | some _ => irq BAS_PAGE 1 (raise 0x0901 (basErr 0 0x25 { s with pat := { s.pat with baste := none, basState := 8 } }))
    | none => s
  let s := abortRestore s
  let s := match s.pat.outage with
    | some _ =>
      irq PAT_PAGE 1 (patErr 0 0x25 { s with pat := { s.pat with outage := none, opState := 8, loaded := none, trial := false },
                                             fab := { s.fab with badCfg := BitVec.allOnes 128, carry := [] } })
    | none => s
  setMode .safe s

/-- The value R414 gives for an always-on count, from a capture (t0, f0, a0): whole nanoseconds and fraction. -/
def rebuiltAt (c : Nat × Nat × Nat) (a : Nat) : Nat × Nat :=
  let n := (a + 2 ^ 48 - c.2.2) % 2 ^ 48
  let f := c.2.1 + n * 0x94000000
  (c.1 + n * 30517 + f / 2 ^ 32, f % 2 ^ 32)

/-- The value R414 gives while the time base stands, for the always-on edge after a latch (R458). -/
def sleepNow (s : State) : Nat :=
  match s.tim.sleep with
  | none => s.now
  | some c => (rebuiltAt c (s.rg64 Reg.TIM_AON + 1)).1

/-- The time that the last always-on edge gives: R414's value while the time base sleeps. -/
def edgeNow (s : State) : Nat :=
  match s.tim.sleep with
  | none => s.now
  | some c => (rebuiltAt c (s.rg64 Reg.TIM_AON)).1

/-- The mode whose wake the latch serves: the mode that lasts, or the one whose entry is in progress. -/
def wakeMode (s : State) : Nat :=
  match s.mode with
  | .doze | .nap | .hibernate => s.mode.code
  | _ => s.pwr.entry.getD 0

/-- An event latched while the latch is open (R458), each source and INDEX once: AON_WAKE_PEND, and of the first AON_WAKE_LAST and
AON_WAKE_LAST_TIME. -/
def latchWake (w : Wake) (s : State) : State :=
  if s.pwr.latch.contains w then s
  else
    let s := if s.rg Reg.AON_WAKE_PEND = 0 then
        (s.wrg Reg.AON_WAKE_LAST (w32 (wakeMode s * 2 ^ 28 + w.2 % 512 * 2 ^ 8 + w.1))).wrg64 Reg.AON_WAKE_LAST_TIME (sleepNow s)
      else s
    { s.wb Reg.AON_WAKE_PEND w.1 true with pwr := { s.pwr with latch := s.pwr.latch ++ [w] } }

/-- FLT_SAFE_CAUSE: the first code while VALID is 0 (R542). -/
def noteSafeCause (code : Nat) (s : State) : State :=
  if s.rb Reg.FLT_SAFE_CAUSE 31 then s else s.wrg Reg.FLT_SAFE_CAUSE (w32 (2 ^ 31 + code))

/-- A fault that enters SAFE by itself (R542): from RUN, SERVICE and SWAP at once; from DOZE and NAP by waking into SAFE;
from LOAD and HEM_LOAD at the step at which RUN would be entered; elsewhere it is logged only. -/
def raiseSafe (code : Nat) (s : State) : State :=
  let enters : Bool := match s.mode with
    | .run | .service | .swap | .doze | .nap | .load | .hemLoad => true
    | _ => false
  let s := intakePush ⟨code, s.now, s.mode, enters, false, 0⟩ (faultNote code s)
  if enters then
    let s := noteSafeCause code s
    match s.mode with
    | .run | .service | .swap => enterSafe s
    | _ =>
      let s := { s with flt := { s.flt with safeDue := true } }
      if s.pwr.latching then latchWake (0x0D, 0) s else s
  else s

/-! ### The counts of the watchdogs (R419) -/

def WDG_PAGE : Nat := 0x06

def wdgOf (s : State) (k : Nat) : Wdg := sget (fun _ => Wdg.reset) s.tim.wdg k
def setWdg (k : Nat) (x : Wdg) (s : State) : State := { s with tim := { s.tim with wdg := sset (fun _ => Wdg.reset) s.tim.wdg k x } }

/-- The configuration register of watchdog k: cores 0 to 15, panels 16 to 23, the system 24. -/
def wdgCfg (k : Nat) : Nat :=
  if k < 16 then Reg.WDG_CORE_CFG k else if k < 24 then bank (k - 16) Reg.WDG_PANEL_CFG else Reg.WDG_SYS_CFG

def wdgEn (s : State) (k : Nat) : Bool := s.rb (wdgCfg k) 31

/-- The timeout written: in ns, for the system watchdog in always-on ticks. -/
def wdgTimeout (s : State) (k : Nat) : Nat :=
  if k < 16 then s.rf (wdgCfg k) 0 20 * 1000
  else if k < 24 then s.rf (wdgCfg k) 0 14 * 1000000
  else s.rf (wdgCfg k) 0 9 * 32768

/-- A restart from the full timeout as then written. -/
def wdgRestart (k : Nat) (s : State) : State := setWdg k ⟨wdgTimeout s k, 0, false, false⟩ s

end Sys2Proof.Machine
end

