-- ==== Sys2Proof/Machine/Clocks.lean ====
section
/-!
DEFINITION. Clock generation (R387 to R407): the settings of the PLLs and their checks, relocks, hops, band memory, output
updates, lock and loss, the references, and the writes of the CLK page.
-/

namespace Sys2Proof.Machine

def CLK_PAGE : Nat := 0x04
def TIM_PAGE : Nat := 0x05

def pllOf (s : State) (n : Nat) : Pll := sget (fun _ => Pll.reset) s.clk.plls n

/-- Steering to the always-on counter begins (R412). -/
def steerBegin (s : State) : State :=
  { s with tim := { s.tim with steering := true, diff := 0, steer0 := (s.now, s.tim.frac, s.rg64 Reg.TIM_AON) } }

/-- A PLL's record; PLL1 losing its lock puts the time base on RC100, steered (R411, R412). -/
def setPll (n : Nat) (p : Pll) (s : State) : State :=
  let was := (pllOf s n).st
  let s := { s with clk := { s.clk with plls := sset (fun _ => Pll.reset) s.clk.plls n p } }
  if n = 1 ∧ was = 3 ∧ p.st ≠ 3 then steerBegin s else s

/-- A reference in kHz (R387). -/
def refKhz (r : Nat) : Nat := if r = 0 then 25000 else 100000

/-- A reference is present and in tolerance (R387, R388, R401). -/
def refHere (s : State) (r : Nat) : Bool :=
  match r with
  | 0 => s.clk.xoReady && !s.clk.lost.getLsbD 0
  | 1 => !s.clk.lost.getLsbD 1
  | _ => s.clk.perst && !s.clk.lost.getLsbD 2

/-- f_VCO in kHz, times M, times 2^24 (R390). -/
def vcoNum (x : PllSet) : Nat := refKhz x.ref * (x.n * 2 ^ 24 + x.f)

/-- The ranges of R390. -/
def rangeOk (x : PllSet) : Bool :=
  let u := x.m * 2 ^ 24
  decide (1 ≤ x.m) && decide (x.m ≤ 8) && decide (10000 * x.m ≤ refKhz x.ref) && decide (refKhz x.ref ≤ 100000 * x.m)
    && (if x.f = 0 then decide (16 ≤ x.n) && decide (x.n ≤ 255) else decide (20 ≤ x.n) && decide (x.n ≤ 250))
    && decide (2000000 * u ≤ vcoNum x) && decide (vcoNum x ≤ 4000000 * u)

/-- The ceiling check of R392 for a divider D and a ceiling in kHz. -/
def ceilOk (x : PllSet) (d ceil : Nat) : Bool :=
  let m := if x.ref = 1 then 25 else 5
  let p := if nfld x.ss 13 2 = 2 then 125 * nfld x.ss 9 4 else 0
  decide (vcoNum x * (1000 + m) * (100000 + p) ≤ ceil * x.m * 2 ^ 24 * d * 1000 * 100000)

/-- Every enabled output is within its ceiling as it stands. -/
def ceilsOk (s : State) (n : Nat) (x : PllSet) : Bool :=
  (List.range 4).all fun k =>
    let o := x.outs.getD k (false, 0, 1)
    !o.1 || ceilOk x o.2.2 (s.rf (Reg.CLK_PLL_CEIL n k) 0 21)

/-- N under RC fallback (R391). -/
def fallbackN (n : Nat) : Nat := match n with | 0 => 80 | 1 => 117 | _ => 145

/-- The dividers of PLL0 on RC100 (R391). -/
def fallbackD (k : Nat) : Nat := match k with | 0 => 11 | 1 => 5 | 2 => 10 | _ => 12

/-- One output's shadow: enable, delay, D. -/
def outShadow (s : State) (n k : Nat) : Bool × Nat × Nat :=
  let r := Reg.CLK_PLL_OUT n k
  (s.rb r 31, s.rf r 16 8, s.rf r 0 8 + 1)

/-- The settings the shadows hold (R391, R393): on PLL0 to PLL2 the hardware sets M, N and F for the reference, and the
fixed dividers of PLL0 on RC100. -/
def shadowSet (s : State) (n : Nat) : PllSet :=
  let c := Reg.CLK_PLL_CFG n
  let ref := s.rf c 30 2
  let ss := s.rf c 0 15
  let outs := (List.range 4).map (outShadow s n)
  if n ≤ 2 then
    let t := pllReset n
    let outs' := if n = 0 ∧ ref = 1 then
        (List.range 4).map fun k => if k = 0 then outShadow s n 0 else (true, 0, fallbackD k)
      else outs
    ⟨ref, if ref = 0 then 1 else 4, if ref = 1 then fallbackN n else t.1, if ref = 1 then 0 else t.2.1, ss, outs'⟩
  else ⟨ref, s.rf c 24 3 + 1, s.rf c 16 8, s.rf (Reg.CLK_PLL_FRAC n) 0 24, ss, outs⟩

/-- A refused request of the CLK page (R402, R406): CLK_ERR, IRQ source REFUSED. -/
def clkRefuse (n code : Nat) (s : State) : State :=
  let r := Reg.CLK_ERR
  let s := if s.rb r 31 then s.incSat r 12 4 else ((s.wf r 8 3 n).wf r 0 4 code).wf r 31 1 1
  irq CLK_PAGE 9 s

/-- The slow-down divider of R398: 2 or 4. From OFF there is no starting frequency. -/
def slowDown (old new : PllSet) (wasOff : Bool) : Nat :=
  if wasOff then 2 else if vcoNum old * new.m ≤ 2 * vcoNum new * old.m then 2 else 4

/-- PLL2 relocks with the DRAM in self-refresh (R398). -/
def dramForPll2 (n : Nat) (on : Bool) (s : State) : State :=
  if n = 2 then { s with ram := { s.ram with selfRefresh := on } } else s

/-- A relock begins (R396 to R398) with its precharge check: an open or shorted land stops PLL3 to PLL7 and leaves PLL0 to
PLL2 to lock digitally. `from'` is the stored band and control value of a hop, or what a loss left; none: a full relock,
whose search finds a band and a control value nothing states. A relock that meets one starts from the present control value (R402). -/
def startRelock (n : Nat) (x : PllSet) (from' : Option (Nat × Nat)) (badLand isCmd : Bool) (s : State) : State :=
  let p := pllOf s n
  let s := if badLand then
      let s := irq CLK_PAGE 8 (raise 0x0405 { s with clk := { s.clk with lkfBad := true } })
      if isCmd then clkRefuse n 7 s else s
    else s
  if badLand ∧ 3 ≤ n then setPll n { p with st := 0, upd := none } s
  else
    let act := if badLand ∧ isCmd ∧ p.st ≠ 0 then p.act else x
    let slow := slowDown p.act act (p.st == 0)
    let again : Bool := p.st == 1 || p.st == 2
    dramForPll2 n true (match from' with
      | some (b, c) =>
        setPll n { p with st := 2, act := act, slow := slow, band := b, ctrl := if again then p.ctrl else c, start := s.now, late := false, digital := badLand } s
      | none =>
        (setPll n { p with st := 1, act := act, slow := slow, band := s.freeBelow 256,
                           ctrl := if again then p.ctrl else s.bump.freeBelow 65536, start := s.now, late := false, digital := badLand } s).bump.bump)

/-- Why a relock with settings `x` is refused (R390, R392, R394, R402). -/
def relockRefusal (s : State) (n : Nat) (x : PllSet) : Option Nat :=
  if x.ref = 3 ∨ !rangeOk x then some 2
  else if (n = 1 ∨ n = 2) ∧ nfld x.ss 13 2 ≠ 0 then some 3
  else if !ceilsOk s n x then some 1
  else if !refHere s x.ref then some 6
  else none

/-- RELOCK (R397, R402). -/
def relockCmd (n : Nat) (badLand : Bool) (s : State) : State :=
  let x := shadowSet s n
  match relockRefusal s n x with
  | some c => clkRefuse n c s
  | none => startRelock n x none badLand true s

/-- The shadows take the settings of an entry (R399). -/
def loadShadows (n : Nat) (x : PllSet) (s : State) : State :=
  let c := Reg.CLK_PLL_CFG n
  let s := s.wrg c (w32 (x.ref * 2 ^ 30 + (x.m - 1) * 2 ^ 24 + x.n * 2 ^ 16 + s.rf c 15 1 * 2 ^ 15 + x.ss))
  let s := s.wrg (Reg.CLK_PLL_FRAC n) (w32 x.f)
  (List.range 4).foldl (fun s k =>
    let o := x.outs.getD k (false, 0, 1)
    s.wrg (Reg.CLK_PLL_OUT n k) (w32 (b2n o.1 * 2 ^ 31 + o.2.1 * 2 ^ 16 + (o.2.2 - 1)))) s

/-- HOP (R397, R399, R402). -/
def hopCmd (n h : Nat) (badLand : Bool) (s : State) : State :=
  match sget (fun _ => none) ((pllOf s n).entries.map fun e => (e.1, some e.2)) h with
  | none => clkRefuse n 5 s
  | some e =>
    if !ceilsOk s n e.set then clkRefuse n 1 s
    else if !refHere s e.set.ref then clkRefuse n 6 s
    else
      let s := if badLand then s else loadShadows n e.set s
      let s := startRelock n e.set (some (e.band, e.ctrl)) badLand true s
      if badLand then s else setPll n { pllOf s n with last := h } s

/-- STORE (R399). -/
def storeCmd (n h : Nat) (s : State) : State :=
  let p := pllOf s n
  if p.st ≠ 3 then clkRefuse n 4 s
  else setPll n { p with entries := sins h ⟨p.act, p.band, p.ctrl⟩ (sdel h p.entries) } s

/-- CLEAR (R399). -/
def clearCmd (n h : Nat) (s : State) : State :=
  let p := pllOf s n
  setPll n { p with entries := sdel h p.entries } s

/-- A write of CLK_PLLn_CMD (R397, R399). -/
def pllCmd (n : Nat) (v : Word) (badLand : Bool) (s : State) : State :=
  match fld v 0 4 with
  | 1 => relockCmd n badLand s
  | 2 => hopCmd n (fld v 8 4) badLand s
  | 3 => storeCmd n (fld v 8 4) s
  | 4 => clearCmd n (fld v 8 4) s
  | _ => s

/-- The outputs an update sets: the shadows, but for the fixed outputs of PLL0 to PLL2 (R391), which go on as they run. -/
def updateOuts (s : State) (n : Nat) : List (Bool × Nat × Nat) :=
  let act := (pllOf s n).act.outs
  (List.range 4).map fun k => if n ≤ 2 ∧ !(n = 0 ∧ k = 0) then act.getD k (outShadow s n k) else outShadow s n k

/-- CLK_UPDATE for one PLL (R390, R393, R402): the output and spread shadows as they stand, applied at the next common
restart. DEDUCED (log 40): an update that is held applies the shadows that were checked. -/
def updateOne (s : State) (n : Nat) : State :=
  let p := pllOf s n
  let x : PllSet := { shadowSet s n with outs := updateOuts s n }
  let y : PllSet := { p.act with ss := x.ss, outs := x.outs }
  if p.st ≠ 0 ∧ !rangeOk y then clkRefuse n 2 s
  else if (n = 1 ∨ n = 2) ∧ nfld x.ss 13 2 ≠ 0 then clkRefuse n 3 s
  else if p.st ≠ 0 ∧ !ceilsOk s n y then clkRefuse n 1 s
  else setPll n { p with upd := some x } s

/-- A write of CLK_UPDATE (R393). -/
def clkUpdate (v : Word) (s : State) : State := (bitsOf 8 v.toNat).foldl updateOne s

/-- The common restart applies an update (R393): IRQ source UPDATE_DONE. -/
def applyUpdate (n : Nat) (s : State) : State :=
  let p := pllOf s n
  match p.upd with
  | none => s
  | some x => irq CLK_PAGE 3 (setPll n { p with act := { p.act with ss := x.ss, outs := x.outs }, upd := none } s)

/-- An output update of PLL n completes (R393); one that meets a relock waits for its end (R402). -/
def updateDone (n : Nat) (s : State) : State :=
  let p := pllOf s n
  if p.st = 1 ∨ p.st = 2 then s else applyUpdate n s

/-- Lock is declared for PLL n (R395, R398): the slow-down divider goes, a held update is applied, IRQ source LOCK. PLL0 on
XO25 or PCIE_REFCLK has its ceiling back (R392). -/
def pllLock (n : Nat) (s : State) : State :=
  let p := pllOf s n
  if (p.st = 1 ∨ p.st = 2) ∧ refHere s p.act.ref then
    let s := applyUpdate n (dramForPll2 n false (setPll n { p with st := 3, slow := 1, late := false } s))
    let s := if n = 0 ∧ p.act.ref ≠ 1 ∧ s.clk.fallback then s.wrg (Reg.CLK_PLL_CEIL 0 0) (w32 1005000) else s
    let rc := (List.range 3).any fun k => (pllOf s k).st != 0 && (pllOf s k).act.ref == 1
    irq CLK_PAGE 0 { s with clk := { s.clk with fallback := s.clk.fallback && rc } }
  else s

/-- PLL n coasts (R401): control value frozen, the slow-down divider of an abandoned relock in place. -/
def coast (n : Nat) (s : State) : State := setPll n { pllOf s n with st := 4 } s

/-- CFG.AUTO_RELOCK of a PLL. -/
def autoRelock (s : State) (n : Nat) : Bool := s.rb (Reg.CLK_PLL_CFG n) 15

/-- The relock after a loss (R397): from the coasting control value in the current band. -/
def relockAfterLoss (n : Nat) (badLand : Bool) (s : State) : State :=
  let p := pllOf s n
  startRelock n p.act (some (p.band, p.ctrl)) badLand false s

/-- PLL n loses lock (R401). -/
def lockLost (n : Nat) (badLand : Bool) (s : State) : State :=
  let p := pllOf s n
  if p.st = 3 then
    let s := irq CLK_PAGE 1 (raise 0x0401 (coast n s))
    if autoRelock s n && refHere s p.act.ref then relockAfterLoss n badLand s else s
  else s

/-- A reference is lost (R401, R402). `slips` are the PLLs on it that lose lock in the same cycle. -/
def refLost (r : Fin 3) (slips : BitVec 8) (s : State) : State :=
  let s := { s with clk := { s.clk with lost := s.clk.lost ||| (1#3 <<< r.val) } }
  (List.range 8).foldl (fun s n =>
    let p := pllOf s n
    if p.act.ref = r.val ∧ (p.st = 1 ∨ p.st = 2 ∨ p.st = 3) then
      let s := irq CLK_PAGE 2 (raise 0x0402 (coast n s))
      if slips.getLsbD n ∧ p.st = 3 then irq CLK_PAGE 1 s else s
    else s) s

/-- A lost reference is back for 100 µs (R401). -/
def refRestored (r : Fin 3) (badLands : BitVec 8) (s : State) : State :=
  if !s.clk.lost.getLsbD r.val then s
  else
    let s := { s with clk := { s.clk with lost := s.clk.lost &&& ~~~(1#3 <<< r.val) } }
    (List.range 8).foldl (fun s n =>
      let p := pllOf s n
      if p.st = 4 ∧ p.act.ref = r.val ∧ autoRelock s n ∧ refHere s r.val then relockAfterLoss n (badLands.getLsbD n) s else s) s

/-- Lock is not declared within 2 ms (R398): fault 0x0406, once, and the PLL keeps trying. -/
def lockTimeout (n : Nat) (s : State) : State :=
  let p := pllOf s n
  if (p.st = 1 ∨ p.st = 2) ∧ !p.late ∧ p.start + 2000000 ≤ s.now then raise 0x0406 (setPll n { p with late := true } s)
  else s

/-- The fast clocks have power: every mode but OFF, HIBERNATE and HOLD before its rails are good. -/
def clocksOn (s : State) : Bool := match s.mode with | .off | .hibernate | .hold => false | _ => true

/-- The PLLs that are off start on XO25 (R388). -/
def startPlls (badLands : BitVec 8) (s : State) : State :=
  (List.range 8).foldl (fun s n => if (pllOf s n).st = 0 then startRelock n (shadowSet s n) none (badLands.getLsbD n) false s else s) s

/-- XO25 is ready (R388). -/
def xoReady (badLands : BitVec 8) (s : State) : State :=
  if s.clk.xoReady ∨ s.mode = .off ∨ s.mode = .hibernate then s
  else
    let s := irq CLK_PAGE 4 { s with clk := { s.clk with xoReady := true } }
    if clocksOn s then startPlls badLands s else s

/-- XO25 is not ready 2 ms after VIN valid (R388, R391): PLL0 to PLL2 on RC100, CLK_STATUS.RC_FALLBACK, fault 0x0403. -/
def rcFallback (badLands : BitVec 8) (s : State) : State :=
  if s.clk.xoReady ∨ s.clk.fallback ∨ !clocksOn s then s
  else
    let s := { s with clk := { s.clk with fallback := true } }
    let s := s.wrg (Reg.CLK_PLL_CEIL 0 0) (w32 201000)
    let s := (List.range 3).foldl (fun s n =>
      let x := shadowSet s n
      let outs := if n = 0 then (List.range 4).map fun k => (true, 0, fallbackD k) else x.outs
      startRelock n ⟨1, 4, fallbackN n, 0, x.ss, outs⟩ none (badLands.getLsbD n) false s) s
    irq CLK_PAGE 5 (raise 0x0403 s)

/-- RC32 in use is reported (R389): fault 0x0404, IRQ source XO32_FAIL; again at every start that finds it so. -/
def xo32Report (s : State) : State := if s.clk.rc32 then irq CLK_PAGE 6 (raise 0x0404 s) else s

/-- XO32 fails (R389): Selvage counts RC32. In HOLD and HIBERNATE the CLK page has no power: the start that follows reports it. -/
def xo32Fail (s : State) : State :=
  if s.mode = .off ∨ s.clk.rc32 then s
  else
    let s := { s with clk := { s.clk with rc32 := true } }
    match s.mode with | .hold | .hibernate => s | _ => xo32Report s

/-! ### Writes of the page (R391 to R394) -/

/-- The spread fields of a CFG value are within R394. -/
def spreadOk (v : Word) : Bool :=
  match fld v 13 2 with
  | 0 => true
  | 3 => false
  | _ => decide (1 ≤ fld v 9 4) && decide (fld v 9 4 ≤ 8) && decide (30 ≤ fld v 0 6) && decide (fld v 0 6 ≤ 60)

/-- A write of CLK_PLLn_CFG: FIXED, RANGE, or the shadow stored; a change of REF starts a full relock (R397). -/
def pllCfgWrite (n : Nat) (v : Word) (badLand : Bool) (s : State) : State :=
  let r := Reg.CLK_PLL_CFG n
  let old := s.rg r
  let fixed : Word := if n ≤ 2 then 0x07FF8000 else 0
  if fld v 30 2 = 3 then clkRefuse n 2 s
  else if v &&& fixed ≠ old &&& fixed ∨ ((n = 1 ∨ n = 2) ∧ fld v 0 15 ≠ 0) then clkRefuse n 3 s
  else if !spreadOk v then clkRefuse n 2 s
  else
    let t := s.wrg r (v &&& 0xC7FFFE3F)
    if fld v 30 2 = fld old 30 2 then t
    else match relockRefusal t n (shadowSet t n) with
      | some c => clkRefuse n c s
      | none => startRelock n (shadowSet t n) none badLand true t

def pllFracWrite (n : Nat) (v : Word) (s : State) : State :=
  let r := Reg.CLK_PLL_FRAC n
  if n ≤ 2 ∧ v &&& 0xFFFFFF ≠ s.rg r then clkRefuse n 3 s else s.wrg r (v &&& 0xFFFFFF)

def pllOutWrite (n k : Nat) (v : Word) (s : State) : State :=
  let r := Reg.CLK_PLL_OUT n k
  let fixed : Word := if n = 0 ∧ k = 0 then 0x00FF0000 else if n ≤ 2 then 0xFFFFFFFF else 0
  let w := v &&& 0x80FF00FF
  if w &&& fixed ≠ s.rg r &&& fixed then clkRefuse n 3 s else s.wrg r w

/-- A write of a ceiling (R392): the product limit at most; below the active setting refused; a fixed one stays. -/
def pllCeilWrite (n k : Nat) (v : Word) (s : State) : State :=
  if (n = 0 ∧ k = 0) ∨ 3 ≤ n then
    let limit := if n = 0 ∧ s.clk.fallback then 201000 else ceilReset n k
    let c := min (fld v 0 21) limit
    let p := pllOf s n
    let o := p.act.outs.getD k (false, 0, 1)
    if p.st ≠ 0 ∧ o.1 ∧ !ceilOk p.act o.2.2 c then clkRefuse n 1 s else s.wrg (Reg.CLK_PLL_CEIL n k) (w32 c)
  else s

/-! ### DLLs (R64, R404) -/

def dllOf (s : State) (d : Nat) : Dll := sget (fun _ => Dll.reset) s.fab.dlls d
def setDll (d : Nat) (x : Dll) (s : State) : State :=
  { s with fab := { s.fab with dlls := sset (fun _ => Dll.reset) s.fab.dlls d x } }

/-- DLL d runs: enabled, its bolt on (two DLLs a bolt), and the mode gives it its clock (R403, R404). -/
def dllRuns (s : State) (d : Nat) : Bool :=
  s.rb Reg.CLK_DLL_EN d && !s.rb Reg.FAB_BOLT_OFF (d / 2)
    && (match opMode s with | .run | .service | .safe | .doze | .swap => true | _ => false)

/-- ALIGNED of DLL d falls for a reason other than its enable (R404). -/
def dllUnlock (d : Nat) (s : State) : State :=
  let x := dllOf s d
  if x.aligned then irq CLK_PAGE 7 (setDll d { x with aligned := false, step := none } s) else s

/-- A write of CLK_DLL_EN (R404): the DLLs cleared lose their alignment, with no interrupt. -/
def dllEnable (v : Word) (s : State) : State :=
  let s := s.wrg Reg.CLK_DLL_EN (v &&& 0xFFFF)
  (List.range 16).foldl (fun s d => if bit v d then s else setDll d { dllOf s d with aligned := false, step := none } s) s

/-! ### Computed reads -/

def pllMask (s : State) (p : Pll → Bool) : Nat := (List.range 8).foldl (fun a n => if p (pllOf s n) then a + 2 ^ n else a) 0

/-- CLK STATUS without FAULT (R406). -/
def clkStatus (s : State) : Nat :=
  b2n s.clk.fallback * 2 ^ 30 + b2n (refHere s 0) * 2 ^ 29 + b2n s.clk.rc32 * 2 ^ 28 + b2n s.clk.lkfBad * 2 ^ 27
    + pllMask s (fun p => p.st == 4) * 2 ^ 16 + pllMask s (fun p => p.st == 1 || p.st == 2) * 2 ^ 8
    + pllMask s (fun p => p.st == 3)

/-- CLK_PLLn_STATE: the band search of a full relock takes 0.12 ms (R400), after which it acquires. -/
def pllStateWord (s : State) (n : Nat) : Nat :=
  let p := pllOf s n
  let st := if p.st = 1 ∧ p.start + 120000 ≤ s.now then 2 else p.st
  st * 2 ^ 28 + p.last * 2 ^ 24 + p.band * 2 ^ 16 + p.entries.foldl (fun a e => a + 2 ^ e.1) 0

def pllCtrlWord (s : State) (n : Nat) : Nat := (pllOf s n).ctrl
/-- CLK_PLLn_ACT: the active dividers; those of the reset settings until the PLL has started. -/
def pllActWord (s : State) (n : Nat) : Nat :=
  let p := pllOf s n
  let outs := if p.act.outs.isEmpty then (List.range 4).map (outShadow s n) else p.act.outs
  (List.range 4).foldl (fun a k => a + ((outs.getD k (false, 0, 1)).2.2 - 1) * 2 ^ (8 * k)) 0
def dllLockedWord (s : State) : Nat := (List.range 16).foldl (fun a d => if (dllOf s d).aligned then a + 2 ^ d else a) 0

end Sys2Proof.Machine
end

