-- ==== Sys2Proof/Machine/Image.lean ====
section
/-!
DEFINITION. Zenwick images (R85 to R108): CRC-32C, the header fields, the checks of the header stage and of pass 1 in the
order of R89, and the expansion of the command stream into frames and map records.
-/

namespace Sys2Proof.Machine

/-- One bit step of the reflected CRC-32C (R107). -/
def crcBit (c : Nat) : Nat := if c % 2 = 1 then (c / 2) ^^^ 0x82F63B78 else c / 2

/-- One byte of the CRC-32C. -/
def crcByte (c : Nat) (b : Byte) : Nat :=
  crcBit (crcBit (crcBit (crcBit (crcBit (crcBit (crcBit (crcBit (c ^^^ b.toNat))))))))

/-- CRC-32C (R107). -/
def crc32c (l : List Byte) : Nat := (l.foldl crcByte 0xFFFFFFFF) ^^^ 0xFFFFFFFF

/-- A field of the 512-byte header: the little-endian number of `n` bytes at byte `o` (R86). -/
def hdrFld (h : BitVec 4096) (o n : Nat) : Nat := nfld h.toNat (8 * o) (8 * n)

/-- The bytes `o` to `o + n - 1` of the header, in order. -/
def hdrBytes (h : BitVec 4096) (o n : Nat) : List Byte := natLe (hdrFld h o n) n

/-- KIND of an image (R88): 1 FULL, 2 PARTIAL, 3 HEM. -/
def hdrKind (h : BitVec 4096) : Nat := hdrFld h 0x0B 1
/-- FLAGS.ENCRYPTED. -/
def hdrEncrypted (h : BitVec 4096) : Bool := (hdrFld h 0x0C 4).testBit 0
/-- FLAGS.ADVANCE_SVN (R98). -/
def hdrAdvance (h : BitVec 4096) : Bool := (hdrFld h 0x0C 4).testBit 1
/-- REGION_MASK: bit r for region r. -/
def hdrMask (h : BitVec 4096) : BitVec 128 := BitVec.ofNat 128 (hdrFld h 0x40 16)
/-- FRAME_COUNT. -/
def hdrFrames (h : BitVec 4096) : Nat := hdrFld h 0x50 4
/-- BODY_LENGTH. -/
def hdrBody (h : BitVec 4096) : Nat := hdrFld h 0x54 4
/-- SECURITY_VERSION. -/
def hdrSvn (h : BitVec 4096) : Nat := hdrFld h 0x58 4
/-- BUILD_ID. -/
def hdrBuild (h : BitVec 4096) : Nat := hdrFld h 0xB8 8

/-- A failed check: its code (R93) and its order number in R89. -/
abbrev ImgErr := Nat × Nat

/-- Whether a KIND fits a target (R88): planes A and B take FULL, the Hem plane HEM, basting (none) PARTIAL. -/
def kindFits (k : Nat) : Option Plane → Bool
  | some .hem => k == 3
  | some _ => k == 1
  | none => k == 2

/-- The checks 1 to 4 of R89, made by the pattern controller. DESIGN CHOICE (log 70): GCM_IV and GCM_TAG, which R89 does not list, are judged
with FLAGS, at order 3. -/
def hdrChecks14 (h : BitVec 4096) (target : Option Plane) : Option ImgErr :=
  if hdrFld h 0 4 ≠ 0x5A574B31 then some (0x01, 1)
  else if hdrFld h 4 2 ≠ 0x0100 ∨ hdrFld h 6 2 ≠ 0x0200 ∨ hdrFld h 0xB4 4 ≠ 0 ∨ hdrFld h 0x120 128 ≠ 0 then
    some (0x02, 1)
  else if hdrFld h 8 2 ≠ 0x6480 ∨ moduleRev < hdrFld h 0x0A 1 then some (0x03, 2)
  else if BitVec.ofNat 384 (hdrFld h 0x10 48) ≠ Config.geometryHash then some (0x04, 2)
  else if !kindFits (hdrKind h) target ∨ hdrFld h 0x0C 4 / 4 ≠ 0 ∨ (hdrKind h = 3 ∧ hdrAdvance h)
      ∨ (hdrKind h ≠ 2 ∧ hdrMask h ≠ BitVec.allOnes 128) ∨ hdrMask h = 0
      ∨ hdrFrames h ≠ 480 * popc 128 (hdrMask h).toNat
      ∨ (!hdrEncrypted h ∧ (hdrFld h 0x64 12 ≠ 0 ∨ hdrFld h 0x70 16 ≠ 0)) then some (0x05, 3)
  else if hdrBody h % 4 ≠ 0 ∨ hdrBody h < 8 ∨ 0x02000000 < hdrBody h then some (0x06, 4)
  else none

/-- The checks 5 to 7 of R89, made by Thimble: KEY_ID, ENC_KEY_ID and SIGNER_KEY, the signature, SECURITY_VERSION. -/
def hdrChecks57 (sign : List (Nat × SignSlot)) (dkey : List (Nat × DkeySlot)) (svn : Nat) (h : BitVec 4096) :
    Option ImgErr :=
  let k := sget (fun _ => SignSlot.reset) sign (hdrFld h 0x5C 4)
  let e := sget (fun _ => DkeySlot.reset) dkey (hdrFld h 0x60 4)
  let key := hdrBytes h 0xC0 96
  if 16 ≤ hdrFld h 0x5C 4 ∨ !k.programmed ∨ k.revoked then some (0x07, 5)
  else if !hdrEncrypted h ∧ hdrFld h 0x60 4 ≠ 0 then some (0x05, 5)
  else if hdrEncrypted h ∧ (8 ≤ hdrFld h 0x60 4 ∨ !e.programmed ∨ e.revoked) then some (0x07, 5)
  else if Config.sha384 key ≠ k.digest then some (0x07, 5)
  else if !Config.ecdsaVerify key (Config.sha384 (hdrBytes h 0 0x1A0)) (hdrBytes h 0x1A0 48) (hdrBytes h 0x1D0 48) then
    some (0x08, 6)
  else if 255 < hdrSvn h ∨ hdrSvn h < svn then some (0x09, 7)
  else none

/-- A text of AES-256-GCM as its ciphertext, or the other way round: of the same length (R95). -/
def gcmText (key : BitVec 256) (iv : BitVec 96) (l : List Byte) : List Byte :=
  l.zipIdx.map fun x => x.1 ^^^ Config.gcmStream key iv x.2

/-- AES-256-GCM opening: none where the tag does not verify. -/
def gcmOpen (key : BitVec 256) (iv : BitVec 96) (aad l : List Byte) (tag : BitVec 128) : Option (List Byte) :=
  if Config.gcmTag key iv aad l = tag then some (gcmText key iv l) else none

/-- AES-256-GCM sealing: the ciphertext and the tag. -/
def gcmSeal (key : BitVec 256) (iv : BitVec 96) (aad l : List Byte) : List Byte × BitVec 128 :=
  (gcmText key iv l, Config.gcmTag key iv aad (gcmText key iv l))

/-- The key, the IV and the additional data of an image's body (R95). -/
def bodyKey (dkey : List (Nat × DkeySlot)) (h : BitVec 4096) : BitVec 256 := (sget (fun _ => DkeySlot.reset) dkey (hdrFld h 0x60 4)).key
def bodyIv (h : BitVec 4096) : BitVec 96 := BitVec.ofNat 96 (hdrFld h 0x64 12)

/-- The body as the command stream: decrypted where ENCRYPTED (R95). -/
def bodyClear (dkey : List (Nat × DkeySlot)) (h : BitVec 4096) (body : List Byte) : List Byte :=
  if hdrEncrypted h then gcmText (bodyKey dkey h) (bodyIv h) body else body

/-- GCM_TAG fits an encrypted body (R95). -/
def bodyTagOk (dkey : List (Nat × DkeySlot)) (h : BitVec 4096) (body : List Byte) : Bool :=
  !hdrEncrypted h || Config.gcmTag (bodyKey dkey h) (bodyIv h) (hdrBytes h 0 0x64) body == BitVec.ofNat 128 (hdrFld h 0x70 16)

/-- The checks 8 to 10 of R89 (pass 1): body and trailer present, the trailer, CRC, hash and tag. -/
def pass1Checks (dkey : List (Nat × DkeySlot)) (h : BitVec 4096) (len : Nat) (body trailer : List Byte) :
    Option ImgErr :=
  let t := leNat trailer
  if len < 528 + hdrBody h then some (0x0F, 8)
  else if nfld t 0 32 ≠ 0x5A574B45 ∨ nfld t 64 32 ≠ hdrFrames h ∨ nfld t 96 32 ≠ 0 then some (0x0F, 9)
  else if crc32c body ≠ hdrFld h 0xB0 4 then some (0x0A, 10)
  else if Config.sha384 body ≠ BitVec.ofNat 384 (hdrFld h 0x80 48) then some (0x0B, 10)
  else if !bodyTagOk dkey h body then some (0x0C, 10)
  else none

/-- The FRAME_CRC of a trailer. -/
def trailerCrc (trailer : List Byte) : Word := w32 (nfld (leNat trailer) 32 32)

/-! ### The command stream (R99 to R105) -/

/-- The expansion in progress: FAR where valid, the frames written so far (latest first), the frame written last, the
map records. -/
structure Expand where
  far : Option Nat
  out : List (Nat × BitVec 4096)
  last : Option (BitVec 4096)
  maps : List (Nat × BitVec 256)

/-- A frame address of a region in the mask, frame 479 or lower (R101). -/
def farOk (mask : BitVec 128) (a : Nat) : Bool := mask.getLsbD (a / 512) && decide (a % 512 < 480) && decide (a < 65536)

/-- The entry of an association list. -/
def findKey {α : Type} (l : List (Nat × α)) (k : Nat) : Option α := (l.find? (·.1 == k)).map (·.2)

/-- The frames written at FAR onward (R101, R102): none of them where FAR is not valid, the region ends, or one of them
is written already. DESIGN CHOICE (log 108): R101 gives the first two cases; in the third the frames before the one that is written already are not
written either. -/
def putFrames (x : Expand) (fs : List (BitVec 4096)) : Except Nat Expand :=
  match x.far with
  | none => .error 0x0E
  | some a =>
    if 480 < a % 512 + fs.length then .error 0x0E
    else if (List.range fs.length).any fun i => (findKey x.out (a + i)).isSome then .error 0x0E
    else
      let new := (List.range fs.length).zip fs |>.map fun p => (a + p.1, p.2)
      .ok { x with
        far := if a % 512 + fs.length = 480 then none else some (a + fs.length)
        out := new.reverse ++ x.out
        last := match fs.getLast? with | some f => some f | none => x.last }

/-- Consecutive pieces of `n` bytes, as numbers. -/
def chunks (n : Nat) : Nat → List Byte → List Nat
  | 0, _ => []
  | k + 1, l => leNat (l.take n) :: chunks n k (l.drop n)

/-- The map records of frames `a` on (R104, R105). -/
def putMaps (mask : BitVec 128) (x : Expand) (a : Nat) (ms : List Nat) : Except Nat Expand :=
  if (List.range ms.length).any fun i => !farOk mask (a + i) || (findKey x.maps (a + i)).isSome then .error 0x11
  else .ok { x with maps := ((List.range ms.length).zip ms |>.map fun p => (a + p.1, BitVec.ofNat 256 p.2)) ++ x.maps }

/-- Every frame of the masked regions, rising. -/
def maskFrames (mask : BitVec 128) : List Nat :=
  (bitsOf 128 mask.toNat).flatMap fun r => (List.range 480).map fun f => r * 512 + f

/-- One command of the body, with the bytes that follow it: the new state of the expansion and the rest (R100). DESIGN CHOICE (log 71): of a
command that is wrong in two ways, operand bits or a count out of range are reported first, then a body that ends inside it, then its frames. -/
def runCommand (mask : BitVec 128) (x : Expand) (w : Nat) (rest : List Byte) : Except Nat (Expand × List Byte) :=
  let op := w / 2 ^ 28
  let arg := w % 2 ^ 28
  let n := arg % 2 ^ 16
  let cnt := 2 ^ 16 ≤ arg ∨ n = 0 ∨ 480 < n
  if op = 1 then
    if 2 ^ 16 ≤ arg then .error 0x0D
    else if !farOk mask n then .error 0x0E
    else .ok ({ x with far := some n }, rest)
  else if op = 2 then
    if cnt then .error 0x0D
    else if rest.length < n * 512 then .error 0x0F
    else (putFrames x ((chunks 512 n rest).map (BitVec.ofNat 4096))).map fun y => (y, rest.drop (n * 512))
  else if op = 3 then
    if cnt then .error 0x0D
    else match x.last with
      | none => .error 0x0E
      | some f => (putFrames x (List.replicate n f)).map fun y => (y, rest)
  else if op = 4 then
    let k := arg / 2 ^ 16 + 1
    if 2 ^ 25 ≤ arg then .error 0x0D
    else if 480 < n % 512 + k then .error 0x0E
    else
      let fs := (List.range k).filterMap fun i => findKey x.out (n + i)
      if fs.length ≠ k then .error 0x0E else (putFrames x fs).map fun y => (y, rest)
  else if op = 5 then
    if cnt then .error 0x0D else (putFrames x (List.replicate n 0)).map fun y => (y, rest)
  else if op = 6 then
    if 2 ^ 16 ≤ arg then .error 0x0D
    else if rest.length < 4 then .error 0x0F
    else
      let k := leNat (rest.take 4)
      if k = 0 ∨ 480 < k then .error 0x0D
      else if rest.length < 4 + k * 32 then .error 0x0F
      else (putMaps mask x n (chunks 32 k (rest.drop 4))).map fun y => (y, rest.drop (4 + k * 32))
  else .error 0x0D

/-- The completeness checks at END, in the order of R103: the code of a failure. -/
def endChecks (mask : BitVec 128) (x : Expand) : Option Nat :=
  if (maskFrames mask).any fun a => (findKey x.out a).isNone then some 0x10
  else if (maskFrames mask).any fun a => (findKey x.maps a).isNone then some 0x11
  else none

/-- The command stream from the front of the body, with the code of a failure; the first argument bounds the commands left. DESIGN CHOICE (log 71): of
an END that has operand bits set and stands before the last 4 bytes, the operand is reported first. -/
def runBody (mask : BitVec 128) : Nat → Expand → List Byte → Expand × Option Nat
  | 0, x, _ => (x, some 0x0F)
  | k + 1, x, l =>
    if l.length < 4 then (x, some 0x0F)
    else
      let w := leNat (l.take 4)
      if w / 2 ^ 28 = 0xF then
        (x, if w ≠ 0xF0000000 then some 0x0D else if l.length ≠ 4 then some 0x06 else endChecks mask x)
      else match runCommand mask x w (l.drop 4) with
        | .error e => (x, some e)
        | .ok (y, r) => runBody mask k y r

/-- The whole command stream of an image (R100 to R105): the frames and map records written before it ends, and the code where it fails. -/
def expand (mask : BitVec 128) (body : List Byte) : Expand × Option Nat :=
  runBody mask (body.length + 1) ⟨none, [], none, []⟩ body

/-- A frame as its 512 bytes (R99). -/
def frameBytes (f : BitVec 4096) : List Byte := natLe f.toNat 512

/-- FRAME_CRC (R108): over the frames of the masked regions in ascending address order. -/
def frameCrc (mask : BitVec 128) (frames : List (Nat × BitVec 4096)) : Word :=
  w32 (((maskFrames mask).foldl (fun c a => (frameBytes (sget (fun _ => 0) frames a)).foldl crcByte c) 0xFFFFFFFF)
    ^^^ 0xFFFFFFFF)

/-- Frames put into a plane or into the latches. -/
def storeFrames {n : Nat} (new old : List (Nat × BitVec n)) : List (Nat × BitVec n) :=
  new.foldl (fun m p => sset (fun _ => 0) m p.1 p.2) old

end Sys2Proof.Machine
end

