-- ==== Sys2Proof/Machine/Words.lean ====
section
/-!
DEFINITION. The words of shared SRAM and DRAM and their check bits (R250, R253, R257 to R261): the segments filled on access, corrected and
uncorrectable errors with MEM_ERR, and the reads of the controllers, to which an uncorrectable word is delivered as it stands (R260).
-/

namespace Sys2Proof.Machine

/-- One rising list with `n` in it. -/
def insRising (n : Nat) : List Nat → List Nat
  | [] => [n]
  | a :: l => if n < a then n :: a :: l else if n = a then a :: l else a :: insRising n l

/-- DRAM (R17). -/
def inDram (a : Nat) : Bool := decide (0x80000000 ≤ a) && decide (a < 0xA0000000)

/-- The words (address / 8) that `n` bytes from `a` on touch. -/
def wordsOf (a n : Nat) : List Nat := (List.range ((a + n - 1) / 8 - a / 8 + 1)).map (a / 8 + ·)

/-- The words that a write covers whole hold valid check bits again. -/
def mendBad (a n : Nat) (s : State) : State :=
  { s with ram := { s.ram with bad := s.ram.bad.filter fun w => !(decide (a ≤ 8 * w) && decide (8 * w + 8 ≤ a + n)) } }

/-- A request for `n` bytes of DRAM: it ends a power-down (R258) and the segments it touches that are not filled are filled at once (R257). -/
def dramTouch (a n : Nat) (s : State) : State :=
  if inDram a then
    let seg := fun (x : Nat) => (x - 0x80000000) / 65536
    let more := ((List.range (seg (a + n - 1) - seg a + 1)).map (seg a + ·)).filter (s.ram.fillNext ≤ ·)
    { s with ram := { s.ram with down := false, lastReq := some s.now, fillMore := more.foldl (fun l x => insRising x l) s.ram.fillMore } }
  else s

/-- A request for `n` bytes of shared memory, by any unit: it aborts the slice of Fitting on its SRAM segment (R524), and does to DRAM what
`dramTouch` says. -/
def memTouch (a n : Nat) (s : State) : State := if inSram a then fitSram a n s else dramTouch a n s

def MEM_PAGE : Nat := 0x22

/-- The reader's code in MEM_ERR.SOURCE. -/
def sourceCode : Initiator → Nat
  | .core c => c.val
  | .win p => 0x10 + p.val
  | .pcie f => 0x18 + f.val
  | .qspi _ => 0x21
  | .session _ => 0x21
  | .fitting => 0x22
  | .thimble => 0x21
  | .debugUnit => 0x21
  | .bobbin => 0x20
  | .memory => 0x23

/-- MEM_ERR and its companions (R261): the first error after each clear; an uncorrectable one replaces a corrected one; every other
one counts in LOST. -/
def noteMemErr (src a pos : Nat) (ue : Bool) (s : State) : State :=
  if s.rb Reg.MEM_ERR 31 && !(ue && !s.rb Reg.MEM_ERR 30) then s.incSat Reg.MEM_ERR 12 4
  else
    let w := 2 ^ 31 + b2n ue * 2 ^ 30 + b2n (inDram a) * 2 ^ 29 + src * 2 ^ 16 + s.rf Reg.MEM_ERR 12 4 * 2 ^ 12 + (if ue then 0 else pos)
    ((s.wrg Reg.MEM_ERR (w32 w)).wrg64 Reg.MEM_ERR_ADDR (a / 8 * 8)).wrg64 Reg.MEM_ERR_TIME s.now

/-- A corrected error (R261): counted, and the hour's threshold. -/
def memCe (src a pos : Nat) (s : State) : State :=
  let r := if inDram a then Reg.MEM_DRAM_ECC else Reg.MEM_SRAM_ECC
  let s := noteMemErr src a pos false (s.incSat r 16 16)
  let n := s.ram.hourCe + 1
  let lim := s.rf Reg.MEM_CFG 16 8
  let s := { s with ram := { s.ram with hourCe := n } }
  if lim ≠ 0 ∧ lim < n ∧ !s.ram.hourRaised then
    raise 0x2203 (irq MEM_PAGE 0 { s with ram := { s.ram with hourRaised := true } })
  else s

/-- An uncorrectable error (R260). -/
def memUe (src a : Nat) (s : State) : State :=
  let r := if inDram a then Reg.MEM_DRAM_ECC else Reg.MEM_SRAM_ECC
  let s := noteMemErr src a 0 true (s.incSat r 0 16)
  raise (if inDram a then 0x2202 else 0x2201) (irq MEM_PAGE 1 s)

/-- A word that read uncorrectable stays so until it is written whole (R259). -/
def markBad (w : Nat) (s : State) : State := { s with ram := { s.ram with bad := insRising w s.ram.bad } }

/-- A read of SRAM or DRAM finds the check bits `e`: the state, and whether the word is delivered. -/
def memCheck (src a n : Nat) (e : Ecc) (s : State) : State × Bool :=
  match s.ram.bad.find? fun w => (wordsOf a n).contains w with
  | some w => (memUe src (8 * w) s, false)
  | none => match e with
    | .none => (s, true)
    | .single p => (memCe src a p s, true)
    | .double => (memUe src a (markBad (a / 8) s), false)

/-- Two different bits of a 64-bit word, which ones a free value: those that are wrong in a word with an uncorrectable error. -/
def wrongBits (s : State) : BitVec 64 :=
  let i := s.freeBelow 64
  BitVec.twoPow 64 i ||| BitVec.twoPow 64 ((i + 1 + s.bump.freeBelow 63) % 64)

/-- `n` bytes read with each uncorrectable word in them noted and delivered uncorrected (R260). -/
def badRead (note : Nat → State → State) (a n : Nat) (s : State) : State × List Byte :=
  match s.ram.bad.filter fun w => decide (a / 8 ≤ w) && decide (8 * w < a + n) with
  | [] => (s, readBytes s a n)
  | bad =>
    let m := wrongBits s
    let l := (readBytes s a n).zipIdx a |>.map fun x =>
      if bad.contains (x.2 / 8) then x.1 ^^^ BitVec.ofNat 8 (nfld m.toNat (8 * (x.2 % 8)) 8) else x.1
    (bad.foldl (fun s w => note (8 * w) s) s.bump.bump, l)

/-- A read of SRAM or DRAM by the pattern controller, Thimble or the session engine (R250, R257, R260): a check in progress fails with its
own code. -/
def unitRead (a n : Nat) (s : State) : State × List Byte := badRead (memUe 0x21) a n (memTouch a n s)

end Sys2Proof.Machine
end

