-- ==== Sys2Proof/Machine/Threads.lean ====
section
/-!
DEFINITION. What Bobbin and the cores share: cores and threads, the context record of R191, the write buffer, saving and
restoring a thread (R179, R193, R204, R205), the ready lists and the Spool's placement rules (R199, R200, R201, R232 to
R239).
-/

namespace Sys2Proof.Machine

def BOB_PAGE : Nat := 0x20
def SPL_PAGE : Nat := 0x21

def coreOf (s : State) (c : Nat) : Core := sget (fun _ => Core.reset) s.cores c
def setCore (c : Nat) (k : Core) (s : State) : State := { s with cores := sset (fun _ => Core.reset) s.cores c k }
def updCtx (c : Nat) (f : Ctx → Ctx) (s : State) : State := let k := coreOf s c; setCore c { k with ctx := f k.ctx } s

def threadOf (s : State) (t : Nat) : Thread := sget (fun _ => Thread.reset) s.bob.threads t

/-- A thread's record changes. The context store shows a thread as last saved (R191): while it is RUNNING the record
there stays as it was. -/
def setThread (t : Nat) (x : Thread) (s : State) : State :=
  let b := s.bob
  let sv := if x.st = .running then b.saved else sset (fun _ => Thread.reset) b.saved t x
  { s with bob := { b with threads := sset (fun _ => Thread.reset) b.threads t x, saved := sv } }
def updThread (t : Nat) (f : Thread → Thread) (s : State) : State := setThread t (f (threadOf s t)) s
def setTCtx (t : Nat) (f : Ctx → Ctx) (s : State) : State := updThread t (fun x => { x with ctx := f x.ctx }) s

def semOf (s : State) (n : Nat) : Sem := sget (fun _ => Sem.reset) s.bob.sems n
def setSem (n : Nat) (x : Sem) (s : State) : State :=
  { s with bob := { s.bob with sems := sset (fun _ => Sem.reset) s.bob.sems n x } }
def grpOf (s : State) (n : Nat) : Grp := sget (fun _ => Grp.reset) s.bob.groups n
def setGrp (n : Nat) (x : Grp) (s : State) : State :=
  { s with bob := { s.bob with groups := sset (fun _ => Grp.reset) s.bob.groups n x } }

/-- The cores run in these modes (R4). -/
def modeRuns (s : State) : Bool :=
  match opMode s with
  | .run | .service | .swap | .safe => true
  | _ => false

/-- Whether cluster `k` is isolated (R186). -/
def clusterOff (s : State) (k : Nat) : Bool := s.rb (Reg.CORE_CLUSTER_OFF (4 * k)) 0

/-- A core that is started, in a cluster that is on, in a mode in which the cores run; one whose page is disabled does not act (R22). -/
def coreRuns (s : State) (c : Nat) : Bool :=
  (coreOf s c).started && !clusterOff s (c / 4) && modeRuns s && isEnabled s (0x10 + c)

/-! ### Interrupts and dispatch points (R177, R180, R196) -/

/-- CORE_EXT_PENDk (R178). -/
def extPend (s : State) (k : Nat) : Nat :=
  (List.range 32).foldl (fun a n => if (pageOf (32 * k + n)).isSome && pageIrq s (32 * k + n) then a + 2 ^ n else a) 0

/-- Whether a core has an enabled external source active: mip.MEIP. -/
def meip (s : State) (c : Nat) : Bool :=
  (List.range 4).any fun k => (w32 (extPend s k) &&& s.rg (Reg.CORE_EXT_EN c k)) != 0

/-- mip of a core (R177): MTIP is the level TIM_NOW ≥ CORE_MTIMECMP. -/
def mipOf (s : State) (c : Nat) : Nat :=
  b2n (s.rb (Reg.CORE_MSIP c) 0) * 2 ^ 3 + b2n (decide (s.rg64 (Reg.CORE_MTIMECMP c) ≤ s.now)) * 2 ^ 7 + b2n (meip s c) * 2 ^ 11
    + b2n (coreOf s c).cancel * 2 ^ 16

/-- The first of the interrupts that are pending and enabled in mie (R177). -/
def irqDue (s : State) (c : Nat) : Option Nat := [16, 11, 3, 7].find? (mipOf s c &&& (coreOf s c).ctx.mie.toNat).testBit

/-- The interrupt a core would take: pending, enabled in mie, and enabled by its privilege or mstatus.MIE (R177). -/
def irqTaken (s : State) (c : Nat) : Option Nat :=
  let k := coreOf s c
  if k.ctx.prv = 0 ∨ k.ctx.mstMie then irqDue s c else none

/-- The store of a port command of a SYS requester has not completed: its handshake, or its flush, has not ended (R311). -/
def portHeld (s : State) (r : Nat) : Bool :=
  let waits := fun (q side : Nat) (who : Option Nat) => who == some r && side != 2 && s.rf (Reg.QUE_CFG q) (if side = 1 then 20 else 22) 2 == 0
  s.ques.any fun e => e.2.shake.any (fun h => waits e.1 h.side h.who) || e.2.flush.any (fun f => waits e.1 f.side f.who)

/-- A core inside a store that has not completed: one whose fabric target does not answer (R76, R245), or a port command (R311). -/
def inStore (s : State) (c : Nat) : Bool := s.fab.tports.any (·.core == c) || portHeld s c

/-- A boundary at which R180 allows a switch and no enabled interrupt is taken (R196): the core is in U-mode, or in M-mode with MIE set. -/
def switchPoint (s : State) (c : Nat) : Bool :=
  let k := coreOf s c
  coreRuns s c && !s.lcs.halted.contains c && !inStore s c && (k.ctx.prv == 0 || k.ctx.mstMie) && (irqTaken s c).isNone

/-- The thread on a core is RUNNING, and it is the one the core started. -/
def runsOn (s : State) (c : Nat) : Bool :=
  let k := coreOf s c
  match k.thread with | some t => !k.stale && (threadOf s t).st == .running | none => false

/-- The thread on a core has been suspended or cancelled: it is removed at its next dispatch point (R183, R196). -/
def removed (s : State) (c : Nat) : Bool := (coreOf s c).thread.isSome && !runsOn s c

/-- A core that executes an instruction now: not halted by WFI or debug, not inside a store that has not completed, and not at the dispatch point
at which its thread is removed (R183). -/
def coreActive (s : State) (c : Nat) : Bool :=
  let k := coreOf s c
  coreRuns s c && !k.halted && !k.waiting && !s.lcs.halted.contains c && !inStore s c && !(removed s c && switchPoint s c)

/-- A CORE or TCM slice of Fitting runs on the core (R525). -/
def inTest (s : State) (c : Nat) : Bool := s.fit.running.any fun r => (r.cls == 1 || r.cls == 2) && r.unit == c

/-- A core that is free (R200): joined, and it runs no thread and none is chosen for it; not one under test (R525). -/
def coreFree (s : State) (c : Nat) : Bool :=
  let k := coreOf s c
  k.joined && coreRuns s c && k.waiting && k.thread.isNone && k.chosen.isNone && !inTest s c
    && !s.lcs.halted.contains c

/-- Whether Bobbin dispatches threads (R203, R245). -/
def dispatchOn (s : State) : Bool := isEnabled s BOB_PAGE && !s.bob.flushing && !s.bob.isSaved && modeRuns s

/-- The `n`-th number from `lo` to `lo + len - 1` that is not in `used`, counting from 0 and wrapping; none if all are. -/
def pickFree (lo len : Nat) (used : List Nat) (n : Nat) : Option Nat :=
  let l := ((List.range len).map (lo + ·)).filter fun i => !used.contains i
  l[n % max l.length 1]?

/-! ### The context record (R191) -/

/-- CSTATUS of a context. -/
def cstatus (c : Ctx) : Nat :=
  c.prv % 4 + b2n c.mstMie * 4 + b2n c.mstMpie * 8 + c.mpp % 4 * 16 + c.fs % 4 * 64 + b2n c.mprv * 256

/-- The FLAGS byte of a record. -/
def recFlags (t : Thread) : Nat :=
  b2n t.fp + 2 * b2n t.pinned + 4 * b2n t.pend + 8 * b2n t.fpArea.isSome + 16 * b2n t.onCore

/-- The 384 bytes of a context record. -/
def recBytes (t : Thread) : List Byte :=
  let c := t.ctx
  ((List.range 31).flatMap fun n => natLe (sget (fun _ => 0) c.x (n + 1)).toNat 8)
    ++ natLe c.pc.toNat 8 ++ natLe c.mepc.toNat 8 ++ natLe c.mcause.toNat 8 ++ natLe c.mtval.toNat 8
    ++ natLe c.mscratch.toNat 8 ++ natLe c.mie.toNat 8 ++ natLe c.dbResult.toNat 8 ++ natLe (cstatus c) 4
    ++ natLe (c.fcsr % 256) 4 ++ natLe t.base 1 ++ natLe t.eff 1 ++ natLe t.aff 2
    ++ natLe (t.st.code + 16 * t.reason) 1 ++ natLe (recFlags t) 1 ++ natLe (t.fpArea.getD 0) 2
    ++ natLe t.waitArg.toNat 8
    ++ natLe (match t.timer with | some (n, _) => 2 ^ 31 + n | none => 0) 4 ++ natLe t.mutexes 2 ++ natLe 0 2
    ++ natLe t.runNs 8 ++ natLe t.lastDispatch 8 ++ natLe t.dispatches 4 ++ natLe t.lastCore 1 ++ natLe 0 27

/-- The number in bytes `o` to `o + n - 1` of a block. -/
def blockNum (l : List Byte) (o n : Nat) : Nat := leNat ((l.drop o).take n)

/-- The context a block of R191 gives INIT. -/
def blockCtx (l : List Byte) : Ctx :=
  let st := blockNum l 0x130 4
  { x := (List.range 31).foldl (fun m n => sset (fun _ => 0) m (n + 1) (w64 (blockNum l (8 * n) 8))) []
    pc := w64 (blockNum l 0xF8 8)
    mepc := w64 (blockNum l 0x100 8)
    mcause := w64 (blockNum l 0x108 8)
    mtval := w64 (blockNum l 0x110 8)
    mscratch := w64 (blockNum l 0x118 8)
    mie := w64 (blockNum l 0x120 8)
    dbResult := w64 (blockNum l 0x128 8)
    prv := nfld st 0 2
    mstMie := st.testBit 2
    mstMpie := st.testBit 3
    mpp := nfld st 4 2
    fs := nfld st 6 2
    mprv := st.testBit 8
    fcsr := blockNum l 0x134 4 % 256 }

/-- The checks of INIT on a block (R192): AFFINITY not 0, a privilege level, FS Off unless FP, the fields of Bobbin and the
reserved bytes and bits 0. -/
def blockOk (l : List Byte) : Bool :=
  let st := blockNum l 0x130 4
  let fl := blockNum l 0x13D 1
  blockNum l 0x13A 2 != 0 && (nfld st 0 2 == 0 || nfld st 0 2 == 3) && (nfld st 6 2 == 0 || fl.testBit 0)
    && st / 512 == 0 && blockNum l 0x134 4 / 256 == 0 && blockNum l 0x139 1 == 0 && blockNum l 0x13C 1 == 0
    && fl / 4 == 0 && blockNum l 0x13E 66 == 0

/-! ### Memory writes of the cores -/

/-- A write of memory by some initiator (a core: `own`): it clears the reservation of every other core whose granule it touches
(R174). -/
def dropResv (own : Option Nat) (a n : Nat) (s : State) : State :=
  { s with cores := s.cores.map fun x => (x.1, match x.2.resv with
      | some g => if g ≤ (a + n - 1) / 64 ∧ a / 64 ≤ g ∧ own ≠ some x.1 then { x.2 with resv := none } else x.2
      | none => x.2) }

/-- Bytes written from `a` on by an initiator, with what a write of memory does (R174, R250, R254, R257, R258). -/
def putBy (own : Option Nat) (a : Nat) (l : List Byte) (s : State) : State :=
  mendBad a l.length (dropResv own a l.length (writeBytes a l (memTouch a l.length s)))

/-- Bytes written by an initiator that is no core. -/
def putBytes (a : Nat) (l : List Byte) (s : State) : State := putBy none a l s

/-- The `n` low bytes of `v` written at `a`. -/
def memStore (a n v : Nat) (s : State) : State := putBytes a (natLe v n) s

/-- The oldest posted store of a core is performed (R173). -/
def drainOne (c : Nat) (s : State) : State :=
  let k := coreOf s c
  match k.wbuf with
  | [] => s
  | (a, n, v) :: l => putBy (some c) a (natLe v.toNat n) (setCore c { k with wbuf := l } s)

/-- The write buffer of a core drains, in program order. -/
def drainAll (c : Nat) (s : State) : State := (List.range (coreOf s c).wbuf.length).foldl (fun s _ => drainOne c s) s

/-! ### Ready entries -/

/-- The order of R199: by level, and within a level by the place taken in it. -/
def before (a b : Entry) : Bool := decide (a.level < b.level) || (a.level == b.level && decide (a.ord < b.ord))

/-- An entry at its place. -/
def insEntry (e : Entry) : List Entry → List Entry
  | [] => [e]
  | a :: l => if before e a then e :: a :: l else a :: insEntry e l

/-- The ready entries outside the Spool in the order of R199, those of the placement buffer among them (R236). -/
def readyOrder (s : State) : List Entry := s.bob.pbuf.foldl (fun l e => insEntry e l) s.bob.chip

/-- A block behind the blocks of its level. -/
def insBlockTail (b : SpBlock) : List SpBlock → List SpBlock
  | [] => [b]
  | a :: l => if b.level < a.level then b :: a :: l else a :: insBlockTail b l

/-- A block in front of the blocks of its level. -/
def insBlockHead (b : SpBlock) : List SpBlock → List SpBlock
  | [] => [b]
  | a :: l => if b.level ≤ a.level then b :: a :: l else a :: insBlockHead b l

/-- ON_CHIP: the on-chip entries in use (R232); a thread held with its target core takes none (R233). -/
def onChip (s : State) : Nat := (s.bob.chip.filter fun e => e.held.isNone).length

/-- An entry is current while its thread is READY and it is the thread's last entry (R238). -/
def current (s : State) (e : Entry) : Bool :=
  let t := threadOf s e.thread
  t.st == .ready && t.seq == e.seq

/-- The split level S (R233). -/
def splitLevel (s : State) : Option Nat := s.bob.blocks.head?.map (·.level)

/-- The blocks 0 to 31,999 in use. -/
def usedBlocks (s : State) : List Nat := s.bob.blocks.map (·.num)

/-- Free blocks among 0 to 31,999 (R239). -/
def freeBlocks (s : State) : Nat := 32000 - ((usedBlocks s).filter (· < 32000)).length

/-- A free block of 0 to 31,999, if there is one; which one is a free value. -/
def newBlock (s : State) : Option Nat :=
  if freeBlocks s = 0 then none else pickFree 0 32000 (usedBlocks s) (s.freeBelow 32000)

/-- SPL_BLOCKS.PEAK. -/
def notePeak (s : State) : State :=
  let n := s.bob.blocks.length
  if s.rf Reg.SPL_BLOCKS 16 16 < n then s.wf Reg.SPL_BLOCKS 16 16 n else s

/-- The address of a Spool block. -/
def blockAt (n : Nat) : Nat := 0x87000000 + n * 0x400

/-- Bobbin writes entries to a block from slot `j` on (R233, R237, R257): their words hold valid check bits again. -/
def spoolWrite (num j : Nat) (es : List Entry) (s : State) : State :=
  let a := blockAt num + 32 * j
  let slots := es.zipIdx.foldl (fun m x => sset (fun _ => noEntry) m (32 * num + j + x.2) { x.1 with held := none }) s.bob.slots
  if es.isEmpty then s
  else mendBad a (32 * es.length) (memTouch a (32 * es.length) { s with bob := { s.bob with slots := slots } })

/-- A block with these entries, at the tail or the head of its level. -/
def addBlock (head : Bool) (b : SpBlock) (s : State) : State :=
  let l := if head then insBlockHead b s.bob.blocks else insBlockTail b s.bob.blocks
  notePeak (spoolWrite b.num 0 b.entries ({ s with bob := { s.bob with blocks := l } }.bump))

/-- The last block of a level, if new readies join it. -/
def tailBlock (s : State) (lev : Nat) : Option SpBlock :=
  match (s.bob.blocks.filter (·.level == lev)).getLast? with
  | some b => if !b.own && b.entries.length < 32 then some b else none
  | none => none

/-- An entry behind those of its level in the Spool; none where it needs a block and none is free. -/
def spoolTail (e : Entry) (s : State) : Option State :=
  match tailBlock s e.level with
  | some b =>
    let f := fun (x : SpBlock) => if x.num = b.num then { x with entries := x.entries ++ [e] } else x
    some (spoolWrite b.num b.entries.length [e] { s with bob := { s.bob with blocks := s.bob.blocks.map f } })
  | none => match newBlock s with
    | some n => some (addBlock false ⟨n, e.level, decide (e.ord < 0), [e]⟩ s)
    | none => none

/-- A block divided at the place of an entry: the older entries stay, the entry and the younger ones stand in block `n` behind them. -/
def splitAt (n : Nat) (e : Entry) (b : SpBlock) : List SpBlock :=
  let old := b.entries.filter fun x => before x e
  let new : SpBlock := ⟨n, b.level, b.own, e :: b.entries.filter fun x => !before x e⟩
  if old.isEmpty then [⟨n, b.level, true, [e]⟩, b] else [{ b with entries := old }, new]

/-- An entry at its place of its level in the Spool (R199, R233, R234): behind the others, or before the first that is younger, in a new block of its
own where that is a block's first. DESIGN CHOICE (log 79): elsewhere the block is divided. None where it needs a block and none is free. -/
def spoolPlace (e : Entry) (s : State) : Option State :=
  match s.bob.blocks.find? fun b => b.level == e.level && b.entries.any (before e) with
  | none => spoolTail e s
  | some b => match newBlock s with
    | none => none
    | some n =>
      let l := s.bob.blocks.flatMap fun x => if x.num = b.num then splitAt n e x else [x]
      let es := ((l.find? fun x => x.num == n).map (·.entries)).getD []
      some (notePeak (spoolWrite n 0 es ({ s with bob := { s.bob with blocks := l } }.bump)))

/-- Blocks whose entries are all stale are freed (R238); FULL clears when one of 0 to 31,999 is (R240). -/
def freeStale (s : State) : State :=
  let gone := s.bob.blocks.filter fun b => !b.entries.any (current s)
  if gone.isEmpty then s
  else
    let keep := s.bob.blocks.filter fun b => b.entries.any (current s)
    let full := s.bob.full && !gone.any (·.num < 32000)
    { s with bob := { s.bob with blocks := keep, full := full } }

/-- SPL_CFG.HIGH as it acts (R248). -/
def spillMark (s : State) : Nat := min (s.rf Reg.SPL_CFG 16 15) 16336
/-- SPL_CFG.LOW as it acts. -/
def refillMark (s : State) : Nat := min (s.rf Reg.SPL_CFG 0 15) (spillMark s - 64)

/-- One spill (R234): the 32 youngest on-chip entries of the least urgent level that has any, in one block in front of the
level's spooled part. With the Spool full it does not take place. -/
def spillOne (s : State) : State :=
  match (s.bob.chip.filter fun e => e.held.isNone).getLast?, newBlock s with
  | some last, some n =>
    let mine := s.bob.chip.filter fun e => e.held.isNone && e.level == last.level
    let move := mine.drop (mine.length - 32)
    let keep := s.bob.chip.filter fun e => !move.contains e
    let s := { s with bob := { s.bob with chip := keep, missed := [] } }
    (addBlock true ⟨n, last.level, false, move⟩ s).incSat Reg.SPL_SPILLS 0 32
  | _, _ => s

/-- A level is S or less urgent (R233). -/
def spooledLevel (s : State) (lev : Nat) : Bool := match splitLevel s with | some l => decide (l ≤ lev) | none => false

/-- An entry in the placement buffer. -/
def toPbuf (e : Entry) (s : State) : State := { s with bob := { s.bob with pbuf := insEntry e s.bob.pbuf } }

/-- The place of a new ready's entry (R232, R233, R236, R239): the Spool, the chip, or the placement buffer, which the caller has seen to have
room; none: it is refused. -/
def placeNow (e : Entry) (s : State) : Option State :=
  if spooledLevel s e.level then spoolPlace e s
  else if onChip s < 16368 then some { s with bob := { s.bob with chip := insEntry e s.bob.chip } }
  else if freeBlocks s = 0 then none
  else some (toPbuf e s)

/-- The threads of the placement buffer take their places where there is room for them (R236). -/
def drainPbuf (s : State) : State :=
  (s.bob.pbuf).foldl (fun s e => (placeNow e s).getD (toPbuf e s)) { s with bob := { s.bob with pbuf := [] } }

/-- A spill makes room, and the placement buffer drains (R234, R236). -/
def makeRoom (s : State) : State := drainPbuf (spillOne s)

/-- A ready's entry takes its place, behind those that wait in the placement buffer; none: it is refused. With the buffer full it stalls until a
spill completes (R236). -/
def placeEntry (e : Entry) (s₀ : State) : Option State :=
  let s := drainPbuf s₀
  if spooledLevel s e.level || decide (onChip s < 16368) || decide (s.bob.pbuf.length < 64) then placeNow e s
  else if freeBlocks s = 0 then none
  else placeNow e (makeRoom (s.incSat Reg.SPL_STALLS 0 32))

/-- A ready is refused for lack of room (R239): WAITING with reason OVERFLOW. -/
def refuse (t : Nat) (s : State) : State :=
  let s := updThread t (fun x => { x with st := .waiting, reason := 5 }) s
  let s := s.incSat Reg.SPL_REFUSED 0 32
  if s.bob.full then s else raise 0x2101 (irq SPL_PAGE 0 { s with bob := { s.bob with full := true } })

/-- Whether a thread that leaves a core finds a place: of the 16,384 entries, or through a spill (R232). -/
def roomToLeave (s : State) : Bool := decide (onChip s < 16384) || freeBlocks s != 0

/-- The entry of a thread that leaves a core takes its place (R199, R232, R233). DESIGN CHOICE (log 79): a thread does not leave its core for another
while there is none; one that has to is refused as a ready is. -/
def placeLeaving (e : Entry) (s : State) : State :=
  let onto := fun (s : State) => { s with bob := { s.bob with chip := insEntry e s.bob.chip } }
  let chip := if onChip s < 16384 then onto s else if freeBlocks s = 0 then refuse e.thread s
    else let r := makeRoom s
         if spooledLevel r e.level then (spoolPlace e r).getD (onto r) else onto r
  if spooledLevel s e.level then (spoolPlace e s).getD chip else chip

/-- A thread's on-chip entries are dropped; its spooled entry goes stale. -/
def dropEntry (t : Nat) (s : State) : State :=
  { s with bob := { s.bob with chip := s.bob.chip.filter fun e => e.thread != t,
                               pbuf := s.bob.pbuf.filter fun e => e.thread != t } }

/-- The next entry of thread `t`, at the head or the tail of its level (R199), with its place in the sequence (R237), and the thread READY with it. -/
def newEntry (t origin : Nat) (head : Bool) (s : State) : Entry × State :=
  let x := threadOf s t
  let q := s.bob.seq
  let k := s.bob.joins + 1
  let e : Entry := ⟨if head then -Int.ofNat k else Int.ofNat k, t, x.eff, origin, x.aff, q, s.now, none⟩
  let s := setThread t { x with st := .ready, reason := 0, seq := q, readyAt := s.now } s
  (e, { s with bob := { s.bob with seq := (q + 1) % 2 ^ 32, joins := k } })

/-! ### Choosing cores and targets (R200, R201) -/

/-- A free core starts a search of the Spool, or is in one (R235): it has not searched since the last refill or spill. -/
def owesSearch (s : State) (c : Nat) : Bool := !s.bob.blocks.isEmpty && !s.bob.missed.contains c

/-- The lowest free core that takes a new ready (R200). A core that searches takes none of a level that the search reaches in its turn (R235). -/
def freeCoreFor (s : State) (e : Entry) : Option Nat :=
  (List.range 16).find? fun c => (threadOf s e.thread).aff.testBit c && coreFree s c && (!spooledLevel s e.level || !owesSearch s c)

/-- The lowest free core for which an entry that waits outside the Spool is the first of R199 (R200, R234). -/
def firstFor (s : State) (e : Entry) : Option Nat :=
  (List.range 16).find? fun c => (threadOf s e.thread).aff.testBit c && coreFree s c
    && !(s.bob.blocks.flatMap (·.entries)).any fun x => before x e && current s x && (threadOf s x.thread).aff.testBit c

/-- The thread a core runs or has been given. -/
def runner (s : State) (c : Nat) : Option Nat := (coreOf s c).thread.or (coreOf s c).chosen

/-- A core already the target of a preemption. -/
def targeted (s : State) (c : Nat) : Bool := (readyOrder s).any fun e => e.held == some c

/-- Core `c` may be the target of a thread of priority `p` (R201). -/
def mayTarget (s : State) (p c : Nat) : Bool :=
  !inTest s c && match runner s c with
  | some r => (threadOf s r).st == .running && decide (p < (threadOf s r).eff) && !targeted s c && coreRuns s c
  | none => false

/-- The target R201 picks: the numerically highest EFF_PRIO, the lowest core among equals. -/
def pickTarget (s : State) (t : Nat) : Option Nat :=
  let x := threadOf s t
  (List.range 16).foldl (fun best c =>
    if x.aff.testBit c && mayTarget s x.eff c then
      match best with
      | none => some c
      | some b =>
        let pr : Nat → Nat := fun c => match runner s c with | some r => (threadOf s r).eff | none => 0
        if pr b < pr c then some c else best
    else best) none

/-- An entry is held with its target core (R201, R233). -/
def holdWith (e : Entry) (c : Nat) (s : State) : State :=
  let s := dropEntry e.thread s
  { s with bob := { s.bob with chip := insEntry { e with held := some c } s.bob.chip } }

/-- The preemption that holds an entry stands: its target runs a less urgent thread, and the thread's AFFINITY names it (R201). -/
def holdStands (s : State) (e : Entry) : Bool :=
  match e.held with
  | none => true
  | some c => match runner s c with
    | some r => (threadOf s r).st == .running && decide (e.level < (threadOf s r).eff) && (threadOf s e.thread).aff.testBit c
    | none => false

/-- A thread whose preemption is withdrawn waits in its ready list, at the place it took when it became READY (R199, R201, R233, R234). DESIGN CHOICE
(log 79): where the lists and the Spool are full it is refused as a ready is. -/
def unhold (s : State) (e : Entry) : State :=
  let s := dropEntry e.thread s
  (placeEntry { e with held := none } s).getD (refuse e.thread s)

/-- The preemptions that no longer stand are withdrawn (R201). -/
def withdraw (s : State) : State := ((readyOrder s).filter fun e => !holdStands s e).foldl unhold s

/-! ### The context cache (R204) -/

/-- The address of a thread's record in the context store, and of an area of the FP pool (R190, R193). -/
def recAt (t : Nat) : Nat := 0x80000000 + t * 0x180
def areaAt (a : Nat) : Nat := 0x86000000 + a * 0x100

/-- Bobbin reads a range of DRAM (R257, R260): whether it holds no uncorrectable word. -/
def bobFetch (a n : Nat) (s : State) : State × Bool := memCheck 0x20 a n .none (memTouch a n s)

/-- Bobbin writes a range of DRAM whole. -/
def bobStore (a n : Nat) (s : State) : State := mendBad a n (memTouch a n s)

/-- A thread's record and its FP area read from DRAM; an uncorrectable error in them damages the thread's context (R205). -/
def loadRecord (t : Nat) (s : State) : State :=
  let r := bobFetch (recAt t) 384 s
  let q := match (threadOf s t).fpArea with | some a => bobFetch (areaAt a) 256 r.1 | none => (r.1, true)
  if r.2 && q.2 then q.1
  else
    let b := q.1.bob
    { q.1 with bob := { b with threads := sset (fun _ => Thread.reset) b.threads t { threadOf s t with damaged := true } } }

/-- A thread's record and its FP area written back to DRAM. -/
def storeRecord (t : Nat) (s : State) : State :=
  let s := bobStore (recAt t) 384 s
  match (threadOf s t).fpArea with | some a => bobStore (areaAt a) 256 s | none => s

/-- A resident context becomes the most recently used. -/
def touch (t : Nat) (s : State) : State :=
  if s.bob.cache.contains t then { s with bob := { s.bob with cache := s.bob.cache.filter (· != t) ++ [t] } } else s

/-- The resident contexts change. -/
def setCache (l : List Nat) (s : State) : State := { s with bob := { s.bob with cache := l } }

/-- Room for thread `t` in the cache, another context evicted and written back where it is full: the least recently used unpinned one of a thread
neither READY nor RUNNING; for a dispatch or a pin, failing that, of a thread not RUNNING. None: there is no such context. -/
def cacheRoom (t : Nat) (force : Bool) (s : State) : Option State :=
  let b := s.bob
  if b.cache.length < 4096 then some (setCache (b.cache ++ [t]) s)
  else
    let idle := b.cache.find? fun u => let x := threadOf s u; !x.pinned && x.st != .ready && x.st != .running
    let any := b.cache.find? fun u => let x := threadOf s u; !x.pinned && x.st != .running
    (if force then idle.or any else idle).map fun v => setCache (b.cache.filter (· != v) ++ [t]) (storeRecord v s)

/-- A context is loaded into the cache. -/
def loadCache (t : Nat) (force : Bool) (s : State) : State :=
  if s.bob.cache.contains t then touch t s
  else ((cacheRoom t force s).map (loadRecord t)).getD s

/-- A new context stands in the cache; nothing of the old record is read (R192, R205). -/
def newCache (t : Nat) (s : State) : State :=
  if s.bob.cache.contains t then touch t s else (cacheRoom t true s).getD s

/-- With BOB_CFG.PREFETCH a thread that becomes READY is loaded (R204). -/
def prefetch (t : Nat) (s : State) : State :=
  if s.rb Reg.BOB_CFG 0 && (threadOf s t).st == .ready then loadCache t false s else s

/-- A thread is chosen for a core (R194, R200, R204): RUNNING, with no entry left, and resident. -/
def choose (c t : Nat) (s : State) : State :=
  let s := dropEntry t s
  let s := updThread t (fun x => { x with st := .running, reason := 0 }) s
  let s := if s.bob.cache.contains t then s else s.incSat Reg.BOB_CACHE_MISS 0 32
  let s := loadCache t true s
  let s := setCore c { coreOf s c with chosen := some t } s
  { s with bob := { s.bob with missed := s.bob.missed.filter (· != c) } }

/-- The rules of R200 and R201 applied to every thread READY outside the Spool, in order: free cores take their first threads, preemptions that no
longer stand are withdrawn, others find targets; blocks that are all stale are freed. -/
def settle (s : State) : State :=
  let s := drainPbuf s
  if dispatchOn s then
    let s := (readyOrder s).foldl (fun s e => match firstFor s e with | some c => choose c e.thread s | none => s) s
    let s := withdraw s
    let s := (readyOrder s).foldl (fun s e =>
      if e.held.isSome then s
      else match pickTarget s e.thread with | some c => holdWith e c s | none => s) s
    freeStale (drainPbuf s)
  else freeStale (withdraw s)

/-! ### Becoming READY (R195, R199, R239) -/

/-- A thread that becomes READY from another state: a free core takes it (R200), or it is held with its target (R201), or
it joins the tail of its level, as it does while a core searches for its next thread (R235); false: it is refused. -/
def becomeReady (t origin : Nat) (s : State) : State × Bool :=
  let (e, s1) := newEntry t origin false s
  let on := dispatchOn s1
  match (if on then freeCoreFor s1 e else none) with
  | some c => (choose c t s1, true)
  | none =>
    let search := (List.range 16).any fun c => (threadOf s1 t).aff.testBit c && coreFree s1 c
    match (if on && !search then pickTarget s1 t else none) with
    | some c => (holdWith e c s1, true)
    | none => match placeEntry e s1 with
      | some s2 => (s2, true)
      | none => (refuse t s, false)

/-- A thread that leaves its core and is READY (R199): at the head of its level when preempted or excluded, at the tail
after YIELD or a quantum. -/
def rejoin (t : Nat) (head : Bool) (origin : Nat) (s : State) : State :=
  let (e, s) := newEntry t origin head s
  placeLeaving e s

/-! ### Leaving a core and taking one (R179, R193, R204, R205) -/

/-- The FP areas bound. -/
def fpAreas (s : State) : List Nat := s.bob.threads.filterMap fun x => x.2.fpArea

/-- f0 to f31 of a core saved in an area (R193). -/
def saveFp (area : Nat) (f : List (Nat × DWord)) (s : State) : State :=
  let pool := (List.range 32).foldl (fun m n => sset (fun _ => 0) m (32 * area + n) (sget (fun _ => 0) f n)) s.bob.fpool
  { s with bob := { s.bob with fpool := pool } }

/-- Another core runs a thread of this ID. -/
def elsewhere (s : State) (c t : Nat) : Bool := (List.range 16).any fun d => d != c && (coreOf s d).thread == some t

/-- The outgoing thread of a core is saved, and the core is free (R179, R180, R193, R205): the write buffer drains, f0 to
f31 are saved where FS is Dirty, mip.CANCEL and the reservation clear. -/
def leaveCore (c : Nat) (s : State) : State :=
  let s := drainAll c s
  let k := coreOf s c
  let freed := { k with thread := none, waiting := k.joined, halted := false, quantum := false, cancel := false, stale := false, resv := none }
  match k.thread, k.stale with
  | none, _ => s
  | some t, true => updThread t (fun x => { x with onCore := elsewhere s c t }) (setCore c freed s)
  | some t, false =>
    let x := threadOf s t
    let dirty := x.fp && k.ctx.fs == 3
    let area := x.fpArea.or (if dirty then pickFree 0 65536 (fpAreas s) (s.freeBelow 65536) else none)
    let s := if dirty then (match area with | some a => saveFp a k.f s | none => s).bump else s
    let ctx := if dirty then { k.ctx with fs := 2 } else k.ctx
    let ran := x.runNs + (s.now - x.lastDispatch)
    let s := setThread t { x with ctx := ctx, onCore := false, fpArea := area, runNs := ran % 2 ^ 64 } s
    touch t (setCore c freed s)

/-- The context a core takes at a dispatch (R193): f0 to f31 restored or +0.0, FS Clean, Initial or Off. DESIGN CHOICE (log 80): of a record whose
fields hold what the core's registers do not, MPP takes a level that exists, a free choice (R167), mie its interrupts, pc and mepc an even address. -/
def takeCtx (s : State) (x : Thread) : Ctx :=
  { x.ctx with
    fs := if x.fp then (if x.fpArea.isSome then 2 else 1) else 0
    mpp := if x.ctx.mpp = 0 ∨ x.ctx.mpp = 3 then x.ctx.mpp else 3 * s.freeBelow 2
    mie := x.ctx.mie &&& 0x10888
    pc := x.ctx.pc &&& ~~~1
    mepc := x.ctx.mepc &&& ~~~1 }

/-- f0 to f31 of a dispatched thread. -/
def takeF (s : State) (x : Thread) : List (Nat × DWord) :=
  match x.fpArea with
  | some a => (List.range 32).foldl (fun m n => sset (fun _ => 0) m n (sget (fun _ => 0) s.bob.fpool (32 * a + n))) []
  | none => []

/-- BOB_LATENCY: the time from READY to the first instruction; the part below the tick that the dispatch itself takes is
a free value. -/
def noteLatency (since : Nat) (s : State) : State :=
  let n := min (s.now - since + s.freeBelow 512) 65535
  let s := (s.wf Reg.BOB_LATENCY 0 16 n).bump
  s.wf Reg.BOB_LATENCY 16 16 (max n (s.rf Reg.BOB_LATENCY 16 16))

/-- The thread chosen for a core is restored onto it (R179, R193, R204); with an uncorrectable error in its context or FP
area it is SUSPENDED instead, and the core is free again (R205). A dispatch restarts the core's watchdog (R419). -/
def restoreThread (c : Nat) (e : Ecc) (s : State) : State :=
  match (coreOf s c).chosen with
  | none => s
  | some t =>
    let x := threadOf s t
    if x.damaged || e == .double then
      let s := setCore c { coreOf s c with chosen := none } s
      let s := setThread t { x with st := .suspended, reason := 7, damaged := true } s
      settle (raise 0x2003 (irq BOB_PAGE 5 s))
    else
      let k := coreOf s c
      let f := if x.fp then takeF s x else k.f
      let s := (setCore c { k with chosen := none, thread := some t, waiting := false, halted := false, idleTrap := false,
                                   ctx := takeCtx s x, f := f, quantum := false, resv := none } s).bump
      let s := setThread t { x with onCore := true, dispatches := min (x.dispatches + 1) (2 ^ 32 - 1),
                                    lastCore := c, lastDispatch := s.now } s
      noteLatency x.readyAt (if wdgEn s c then wdgRestart c s else s)

/-! ### Traps -/

/-- The privilege of core `c`, and that of its loads and stores (MPRV). -/
def prvOf (s : State) (c : Nat) : Nat := (coreOf s c).ctx.prv
def dataPrv (s : State) (c : Nat) : Nat :=
  let x := (coreOf s c).ctx
  if x.prv = 3 ∧ x.mprv then x.mpp else x.prv

/-- A trap to M-mode: mepc, mcause and mtval written, MPIE and MPP take MIE and the privilege, the pc goes to mtvec, in vectored mode
to BASE + 4n for interrupt n. -/
def trapTo (c cause : Nat) (isIrq : Bool) (tval : DWord) (s : State) : State :=
  let k := coreOf s c
  let x := k.ctx
  let base := k.mtvec.toNat / 4 * 4
  let pc := if isIrq && k.mtvec.toNat % 4 == 1 then base + 4 * cause else base
  setCore c { k with halted := false, ctx := { x with mepc := x.pc, mcause := w64 (b2n isIrq * 2 ^ 63 + cause), mtval := tval, mstMpie := x.mstMie,
                                                       mstMie := false, mpp := x.prv, prv := 3, pc := w64 pc } } s

/-- An exception. -/
def except (c cause : Nat) (tval : DWord) (s : State) : State := trapTo c cause false tval s

/-- An illegal instruction. -/
def illegal (c bits : Nat) (s : State) : State := except c 2 (Config.illegalTval bits) s

/-- A failed access (R19, R175): CORE_FAULT, IRQ source BUS_FAULT for every reason but PMP, and the access fault. `kind` 0 fetch, 1 load,
2 store or AMO. -/
def coreFault (c kind reason addr : Nat) (s : State) : State :=
  let r := Reg.CORE_FAULT c
  let s := if s.rb r 31 then s.incSat r 8 4
    else (s.wrg r (w32 (2 ^ 31 + s.rf r 8 4 * 2 ^ 8 + kind * 2 ^ 6 + prvOf s c * 2 ^ 4 + reason))).wrg64 (Reg.CORE_FAULT_ADDR c) (addr % 2 ^ 40)
  let s := if reason = 5 then s else irq (0x10 + c) 2 s
  except c (if kind = 0 then 1 else if kind = 1 then 5 else 7) (w64 addr) s

/-! ### PMP (R169) -/

def pmpAddr (s : State) (c i : Nat) : Nat := (sget (fun _ => 0) (coreOf s c).pmp i).toNat
def pmpCfg (s : State) (c i : Nat) : Nat := (sget (fun _ => 0) (coreOf s c).pmp (16 + i)).toNat

/-- The range of an entry, with the grain of 32 bytes; none for OFF. -/
def pmpRange (s : State) (c i : Nat) : Option (Nat × Nat) :=
  match nfld (pmpCfg s c i) 3 2 with
  | 1 =>
    let lo := if i = 0 then 0 else pmpAddr s c (i - 1) / 8 * 32
    some (lo, pmpAddr s c i / 8 * 32)
  | 3 =>
    let x := pmpAddr s c i / 4 * 4 + 3
    let ones := ((List.range 54).takeWhile fun b => x.testBit b).length
    let size := 2 ^ (ones + 3)
    some (x * 4 / size * size, x * 4 / size * size + size)
  | _ => none

/-- Whether PMP lets an access of `n` bytes through at a privilege: `b` 0 read, 1 write, 2 execute. The lowest entry that covers any byte
decides, and it must cover them all. -/
def pmpOk (s : State) (c prv a n b : Nat) : Bool :=
  let hit := (List.range 16).find? fun i =>
    match pmpRange s c i with
    | some (lo, hi) => decide (lo < a + n) && decide (a < hi)
    | none => false
  match hit with
  | none => prv == 3
  | some i =>
    match pmpRange s c i with
    | some (lo, hi) =>
      decide (lo ≤ a) && decide (a + n ≤ hi) && ((prv == 3 && !(pmpCfg s c i).testBit 7) || (pmpCfg s c i).testBit b)
    | none => true

/-- PMP bars an access of `n` bytes by an initiator (R169): `kind` 1 a read, 2 a write. -/
def pmpBars (s : State) (i : Initiator) (kind a n : Nat) : Bool :=
  match i with
  | .core c => !pmpOk s c.val (dataPrv s c.val) a n (b2n (kind == 2))
  | _ => false

/-- What a core that PMP bars takes: the access fault of the kind with reason PMP (R169, R175). -/
def pmpFault (i : Initiator) (kind a : Nat) (s : State) : State :=
  match i with
  | .core c => coreFault c.val kind 5 a s
  | _ => s

/-- A non-posted write of a core waits for its write buffer to drain (R173). -/
def drainFor (i : Initiator) (s : State) : State :=
  match i with
  | .core c => drainAll c.val s
  | _ => s

/-- An access on its way: PMP stops it, or it goes on, a write after the stores that its core has posted (R169, R173). -/
def onWay (i : Initiator) (kind a n : Nat) (f : State → State) (s : State) : State :=
  if pmpBars s i kind a n then pmpFault i kind a s
  else f (if kind = 2 then drainFor i s else s)

end Sys2Proof.Machine
end

