-- ==== Sys2Proof/Machine/Bobbin.lean ====
section
/-!
DEFINITION. Bobbin's operations: readies (R197), waits, semaphores, mutexes and flag groups (R210 to R216), timeouts (R217,
R218), SUSPEND and CANCEL (R213), the doorbell (R206 to R213), thread and object commands (R192, R221), the event intake
and the bindings (R224 to R227, R247), and the cycle in which several operations contest (R228 to R231).
-/

namespace Sys2Proof.Machine

/-! ### Results (R207) -/

/-- A result word. PRIOR is a free value where the operation names no thread. -/
def resWord (code : Nat) (prior : Option Nat) (value : Nat) (s : State) : DWord :=
  w64 (value * 2 ^ 32 + (prior.getD (s.freeBelow 16)) * 2 ^ 16 + code)

/-- The free value of `resWord` is used up. -/
def resBump (prior : Option Nat) (s : State) : State := if prior.isSome then s else s.bump

/-- The store of core `c` completes with a result (R184, R206). -/
def complete (c code : Nat) (prior : Option Nat) (value : Nat) (s : State) : State :=
  let w := resWord code prior value s
  let s := resBump prior s
  let k := coreOf s c
  let ctx := { k.ctx with pc := k.ctx.pc + 4 }
  if k.thread.isSome then setCore c { k with ctx := { ctx with dbResult := w } } s
  else setCore c { k with ctx := ctx, outRes := w } s

/-- The store of core `c` will complete with a result when its thread next runs: the pc that is saved is past it. -/
def passStore (c : Nat) (s : State) : State := updCtx c (fun x => { x with pc := x.pc + 4 }) s

/-- The result a thread's DB_RESULT shows when it next runs. -/
def setRes (t : Nat) (w : DWord) (s : State) : State := setTCtx t (fun x => { x with dbResult := w }) s

/-! ### Effective priority (R199, R215) -/

/-- A waiter at its place: by EFF_PRIO, first-in first-out within a level (R214, R216). -/
def insWait (s : State) (t : Nat) : List Nat → List Nat
  | [] => [t]
  | a :: l => if (threadOf s t).eff < (threadOf s a).eff then t :: a :: l else a :: insWait s t l

/-- The semaphore or group a waiting thread waits on. -/
def waitObj (x : Thread) : Nat := nfld x.waitArg.toNat 48 12

/-- The semaphores a thread owns, rising (R215). -/
def ownedBy (s : State) (t : Nat) : List Nat :=
  (s.bob.sems.filter fun x => x.2.mutex && x.2.owner == some t).map (·.1)

/-- EFF_PRIO takes a value: a READY thread moves to the tail of its new level, a queued one in its queue. DESIGN CHOICE (log 79): the move is
placed, or refused, as a ready is (R232, R233, R236, R239). -/
def setEff (t p : Nat) (s : State) : State :=
  let x := threadOf s t
  let s := setThread t { x with eff := p } s
  match x.st with
  | .ready =>
    let r := newEntry t 0 false (dropEntry t s)
    updThread t (fun y => { y with readyAt := x.readyAt }) ((placeEntry r.1 r.2).getD (refuse t r.2))
  | .waiting =>
    if x.reason = 3 then
      let m := semOf s (waitObj x)
      setSem (waitObj x) { m with queue := insWait s t (m.queue.filter (· != t)) } s
    else if x.reason = 2 then
      let g := grpOf s (waitObj x)
      setGrp (waitObj x) { g with waiters := insWait s t (g.waiters.filter (· != t)) } s
    else s
  | _ => s

/-- EFF_PRIO of a thread recomputed, and along the chain of owners, up to the depth given (R215). -/
def inherit' : Nat → Nat → State → State
  | 0, _, s => s
  | n + 1, t, s =>
    let x := threadOf s t
    let queued := (ownedBy s t).flatMap fun m => (semOf s m).queue
    let p := queued.foldl (fun a q => min a (threadOf s q).eff) x.base
    if p = x.eff then s
    else
      let s := setEff t p s
      if x.st = .waiting ∧ x.reason = 3 then
        match (semOf s (waitObj x)).owner with
        | some o => inherit' n o s
        | none => s
      else s

/-- The recomputation of R215, along a chain of owners up to 8 deep. -/
def reinherit (t : Nat) (s : State) : State := inherit' 8 t s

/-! ### Waits (R195, R210, R217) -/

/-- A thread leaves WAITING: its timeout slot is released and it is removed from any queue. -/
def leaveWait (t : Nat) (s : State) : State :=
  let x := threadOf s t
  if x.st = .waiting then
    let s := setThread t { x with timer := none } s
    if x.reason = 3 then
      let m := semOf s (waitObj x)
      let s := setSem (waitObj x) { m with queue := m.queue.filter (· != t) } s
      match m.owner with
      | some o => if m.mutex then reinherit o s else s
      | none => s
    else if x.reason = 2 then
      let g := grpOf s (waitObj x)
      setGrp (waitObj x) { g with waiters := g.waiters.filter (· != t) } s
    else s
  else s

/-- A waiting thread becomes READY, its store completing with a result. -/
def wake (t : Nat) (w : DWord) (origin : Nat) (s : State) : State :=
  prefetch t (becomeReady t origin (setRes t w (leaveWait t s))).1

/-- The timeout slots held (R217). -/
def timersUsed (s : State) : List Nat := s.bob.threads.filterMap fun x => x.2.timer.map (·.1)

/-- The slot and deadline of a wait of `us` microseconds started now (R217, R218); none: no slot free. -/
def newTimer (s : State) (us : Nat) : Option (Nat × Nat) :=
  (pickFree 0 65536 (timersUsed s) (s.freeBelow 65536)).map fun n => (n, (s.now / 1000 + us + 1) * 1000)

/-- The fault of a wait that found no slot, the first time after each clear of its IRQ_RAW bit (R217). -/
def timersOut (s : State) : State :=
  if s.rb (irqRaw BOB_PAGE) 3 then s else raise 0x2002 (irq BOB_PAGE 3 s)

/-- The thread on core `c` gives up the core into a wait; no slot free: NO_TIMER. A thread that is suspended or cancelled
already is removed at this dispatch point instead (R196). -/
def startWait (c reason us : Nat) (arg : DWord) (s : State) : State :=
  match (coreOf s c).thread with
  | none => s
  | some t =>
    let x := threadOf s t
    if runsOn s c then
      if us ≠ 0 ∧ (newTimer s us).isNone then complete c 0x0A (some x.st.code) 0 (timersOut s)
      else
        let tm := if us = 0 then none else newTimer s us
        let s := if us = 0 then s else s.bump
        let s := leaveCore c (passStore c s)
        let s := updThread t (fun x => { x with st := .waiting, reason := reason, waitArg := arg, timer := tm }) s
        if reason = 3 then
          let n := nfld arg.toNat 48 12
          let m := semOf s n
          let s := setSem n { m with queue := insWait s t m.queue } s
          match m.owner with
          | some o => if m.mutex then reinherit o s else s
          | none => s
        else if reason = 2 then
          let n := nfld arg.toNat 48 12
          let g := grpOf s n
          setGrp n { g with waiters := insWait s t g.waiters } s
        else s
    else
      let stale := (coreOf s c).stale
      let s := leaveCore c (passStore c s)
      if x.st = .suspended ∧ !stale then setRes t (resWord 0x06 (some x.st.code) 0 s) s else s

/-! ### Readies (R197) -/

/-- BOB_DISCARD_CNT and its interrupt source. -/
def noteDiscard (s : State) : State := irq BOB_PAGE 2 (s.incSat Reg.BOB_DISCARD_CNT 0 32)

/-- A ready acts on its thread: the state, the result code and the prior state. -/
def deliver (t : Nat) (resume : Bool) (origin : Nat) (s : State) : State × Nat × Nat :=
  let x := threadOf s t
  let p := x.st.code
  let ready := fun (s : State) => let r := becomeReady t origin s; (prefetch t r.1, if r.2 then 0x00 else 0x0F, p)
  let merge := fun (count : Bool) (s : State) => ((if count then s.incSat Reg.BOB_MERGE_CNT 0 32 else s), 0x04, p)
  match x.st with
  | .unused => (noteDiscard s, 0x0C, p)
  | .dormant => ready s
  | .ready => merge x.pend (setThread t { x with pend := true } s)
  | .running => merge x.pend (setThread t { x with pend := true } s)
  | .waiting =>
    if x.reason = 5 then merge true s
    else if x.reason = 2 ∨ x.reason = 3 then merge x.pend (setThread t { x with pend := true } s)
    else ready (setRes t (resWord 0x01 (some 3) 0 s) (leaveWait t s))
  | .suspended =>
    if resume then
      if x.onCore then (loadCache t true (setThread t { x with st := .running, reason := 0 } s), 0x00, p) else ready s
    else (noteDiscard s, 0x05, p)
  | .cancelled => (noteDiscard s, 0x05, p)

/-! ### Semaphores and mutexes (R214, R215) -/

/-- The first queued thread takes the semaphore: its wait for it is over, and where it now owns a mutex its EFF_PRIO is recomputed, before it becomes
READY. -/
def handOver (n : Nat) (s : State) : State :=
  let m := semOf s n
  match m.queue with
  | [] => s
  | w :: l =>
    let code := if m.abandoned then 0x07 else 0x00
    let s := setSem n { m with queue := l, abandoned := false, owner := if m.mutex then some w else none } s
    let s := updThread w (fun x => { x with timer := none, reason := 1, mutexes := x.mutexes + b2n m.mutex }) s
    wake w (resWord code (some 3) m.count s) 0 (if m.mutex then reinherit w s else s)

/-- A post to semaphore `n` by a thread (none: by no thread); the result code. -/
def semPost (n : Nat) (who : Option Nat) (s : State) : State × Nat :=
  let m := semOf s n
  if m.mutex then
    match m.owner with
    | none => (s, 0x08)
    | some o =>
      if who = some o then
        let s := updThread o (fun x => { x with mutexes := x.mutexes - 1 }) s
        let s := if m.queue.isEmpty then setSem n { m with owner := none, count := 1 } s
          else handOver n (setSem n { m with owner := none } s)
        (reinherit o s, 0x00)
      else (s, 0x08)
  else if !m.queue.isEmpty then (handOver n s, 0x00)
  else if m.count = 65535 then (s, 0x09)
  else (setSem n { m with count := m.count + 1 } s, 0x00)

/-- The mutexes of a cancelled thread are abandoned (R215). -/
def abandonAll (t : Nat) (s : State) : State :=
  let s := (ownedBy s t).foldl (fun s n =>
    let m := semOf s n
    let s := irq BOB_PAGE 4 s
    if m.queue.isEmpty then setSem n { m with owner := none, abandoned := true, count := 1 } s
    else handOver n (setSem n { m with owner := none, abandoned := true } s)) s
  reinherit t (updThread t (fun x => { x with mutexes := 0 }) s)

/-- A take of semaphore `n` by the thread on core `c`. -/
def semTake (c n us : Nat) (arg : DWord) (s : State) : State :=
  match (coreOf s c).thread with
  | none => s
  | some t =>
    let m := semOf s n
    let p := some (threadOf s t).st.code
    if m.mutex ∧ m.owner = some t then complete c 0x0B p 0 s
    else if 0 < m.count then
      let code := if m.abandoned then 0x07 else 0x00
      let s := setSem n { m with count := m.count - 1, abandoned := false, owner := if m.mutex then some t else none } s
      let s := if m.mutex then updThread t (fun x => { x with mutexes := x.mutexes + 1 }) s else s
      let s := complete c code p (m.count - 1) s
      if m.mutex then (if (threadOf s t).st = .cancelled ∨ (coreOf s c).stale then abandonAll t s else reinherit t s) else s
    else startWait c 3 us arg s

/-! ### Flag groups (R210, R216) -/

/-- The matched bits of a flags wait; 0: its condition does not hold. -/
def flagMatch (arg : DWord) (v : Word) : Word :=
  let mask := w32 arg.toNat
  let hit := v &&& mask
  if nfld arg.toNat 62 2 = 1 then hit else if hit = mask then hit else 0

/-- The waiters of a group examined in order: those whose condition holds become READY with OK. -/
def examine (n : Nat) (s : State) : State :=
  (grpOf s n).waiters.foldl (fun s t =>
    let g := grpOf s n
    let x := threadOf s t
    let hit := flagMatch x.waitArg g.val
    if hit = 0 then s
    else
      let s := if x.waitArg.toNat.testBit 61 then setGrp n { g with val := g.val &&& ~~~hit } s else s
      wake t (resWord 0x00 (some 3) g.val.toNat s) 0 s) s

/-- FLAGS_SET and FLAGS_CLEAR. -/
def flagsChange (n : Nat) (set clr : Word) (s : State) : State :=
  let g := grpOf s n
  examine n (setGrp n { g with val := (g.val ||| set) &&& ~~~clr } s)

/-- A flags wait of the thread on core `c`. -/
def flagsWait (c n us : Nat) (arg : DWord) (s : State) : State :=
  let g := grpOf s n
  let hit := flagMatch arg g.val
  if hit = 0 then startWait c 2 us arg s
  else
    let p := (coreOf s c).thread.map fun t => (threadOf s t).st.code
    let s := if arg.toNat.testBit 61 then setGrp n { g with val := g.val &&& ~~~hit } s else s
    complete c 0x00 p g.val.toNat s

/-! ### SUSPEND and CANCEL (R195, R196, R213) -/

/-- A thread chosen for a core, not yet on it, is no longer chosen. -/
def unchoose (t : Nat) (s : State) : State :=
  { s with cores := s.cores.map fun x => (x.1, if x.2.chosen = some t then { x.2 with chosen := none } else x.2) }

/-- The threads WAITING with reason OVERFLOW, rising. -/
def overflowed (s : State) : List Nat :=
  (s.bob.threads.filter fun x => x.2.st == .waiting && x.2.reason == 5).map (·.1)

/-- A thread that was `x` is no longer WAITING with reason OVERFLOW: OVERFLOW_CLEARED when it was the last (R240). -/
def noteCleared (x : Thread) (s : State) : State :=
  if x.st = .waiting ∧ x.reason = 5 ∧ (overflowed s).isEmpty then irq SPL_PAGE 1 s else s

/-- SUSPEND of a thread; the result code. -/
def suspend (t : Nat) (s : State) : State × Nat :=
  let x := threadOf s t
  match x.st with
  | .unused => (s, 0x0C)
  | .suspended => (s, 0x0D)
  | .cancelled => (s, 0x0D)
  | _ =>
    let s := if x.st = .waiting then setRes t (resWord 0x06 (some 3) 0 s) (leaveWait t s) else s
    (noteCleared x (updThread t (fun x => { x with st := .suspended, reason := 0 }) (unchoose t (dropEntry t s))), 0x00)

/-- CANCEL of a thread; the result code. A thread on a core raises mip.CANCEL there (R183). -/
def cancel (t : Nat) (s : State) : State × Nat :=
  let x := threadOf s t
  match x.st with
  | .unused => (s, 0x0C)
  | .cancelled => (s, 0x0D)
  | _ =>
    let s := unchoose t (dropEntry t (leaveWait t s))
    let s := updThread t (fun x => { x with st := .cancelled, reason := 0 }) s
    let s := if x.onCore then setCore x.lastCore { coreOf s x.lastCore with cancel := true } s else s
    (abandonAll t (noteCleared x s), 0x00)

/-! ### The doorbell (R184, R206 to R213) -/

/-- The thread a SUSPEND or CANCEL argument names from core `c`; none: SELF outside a thread. -/
def stopTarget (s : State) (c : Nat) (arg : Nat) : Option Nat :=
  if arg.testBit 63 then (coreOf s c).thread else some (nfld arg 0 18)

/-- SUSPEND and CANCEL from a doorbell. -/
def stopDoor (c : Nat) (arg : Nat) (isCancel : Bool) (s : State) : State :=
  match stopTarget s c arg with
  | none => complete c 0x0E none 0 s
  | some t =>
    if nfld arg 18 45 ≠ 0 then complete c 0x0B (some (threadOf s t).st.code) 0 s
    else
      let p := (threadOf s t).st.code
      let r := if isCancel then cancel t s else suspend t s
      if (coreOf s c).stale ∧ (coreOf s c).thread = some t then leaveCore c s
      else if (coreOf s c).thread = some t ∧ r.2 = 0 then
        if isCancel then leaveCore c r.1
        else setRes t (resWord 0x00 (some p) 0 r.1) (leaveCore c (passStore c r.1))
      else complete c r.2 (some p) 0 r.1

/-- Whether a READY thread of a level that `ok` accepts may run on core `c`. -/
def rivalFor (s : State) (c : Nat) (ok : Nat → Bool) : Bool :=
  (s.bob.chip ++ s.bob.pbuf ++ s.bob.blocks.flatMap (·.entries)).any fun e =>
    ok e.level && current s e && (threadOf s e.thread).aff.testBit c

/-- YIELD (R203, R209). -/
def yieldDoor (c : Nat) (arg : Nat) (s : State) : State :=
  match (coreOf s c).thread with
  | none =>
    if arg ≠ 0 then complete c 0x0B none 0 s
    else setCore c { coreOf s c with joined := true, waiting := true, idleTrap := false } s
  | some t =>
    let x := threadOf s t
    if arg ≠ 0 then complete c 0x0B (some x.st.code) 0 s
    else if runsOn s c then
      if roomToLeave s && rivalFor s c fun l => decide (l ≤ x.eff) then
        let s := leaveCore c (passStore c s)
        rejoin t false 2 (setRes t (resWord 0x00 (some 3) 0 s) s)
      else complete c 0x00 (some 3) 0 s
    else
      let stale := (coreOf s c).stale
      let s := leaveCore c (passStore c s)
      if stale then s else setRes t (resWord 0x00 (some x.st.code) 0 s) s

/-- An argument of WAIT_EVENT with no reserved bit set and a mask where its KIND takes one (R210). -/
def waitArgOk (a : Nat) : Bool :=
  let isFlags := nfld a 62 2 == 1 || nfld a 62 2 == 2
  !a.testBit 60 && (if isFlags then nfld a 0 32 != 0 else nfld a 0 32 == 0)

/-- An argument of SIGNAL that R212 allows. -/
def signalArgOk (a : Nat) : Bool :=
  nfld a 62 2 != 3 && nfld a 60 2 == 0 && nfld a 32 16 == 0 && (nfld a 62 2 != 0 || nfld a 0 32 == 0)

/-- WAIT_EVENT (R210). -/
def waitDoor (c : Nat) (arg : DWord) (s : State) : State :=
  match (coreOf s c).thread with
  | none => complete c 0x0E none 0 s
  | some t =>
    let a := arg.toNat
    let kind := nfld a 62 2
    let x := threadOf s t
    if !waitArgOk a then complete c 0x0B (some x.st.code) 0 s
    else
      let us := nfld a 32 16
      if kind = 1 ∨ kind = 2 then flagsWait c (nfld a 48 12) us arg s
      else if kind = 3 then semTake c (nfld a 48 12) us arg s
      else if x.pend then complete c 0x02 (some x.st.code) 0 (setThread t { x with pend := false } s)
      else startWait c 1 us arg s

/-- WAIT_TIMEOUT (R211). -/
def delayDoor (c : Nat) (arg : DWord) (s : State) : State :=
  match (coreOf s c).thread with
  | none => complete c 0x0E none 0 s
  | some t =>
    if arg.toNat = 0 ∨ 2 ^ 32 ≤ arg.toNat then complete c 0x0B (some (threadOf s t).st.code) 0 s
    else startWait c 4 arg.toNat arg s

/-- SIGNAL (R212). -/
def signalDoor (c : Nat) (arg : DWord) (s : State) : State :=
  let a := arg.toNat
  let kind := nfld a 62 2
  let n := nfld a 48 12
  let mask := nfld a 0 32
  if !signalArgOk a then complete c 0x0B none 0 s
  else if kind = 0 then
    let r := semPost n (coreOf s c).thread s
    complete c r.2 none 0 r.1
  else if kind = 1 then complete c 0x00 none 0 (flagsChange n (w32 mask) 0 s)
  else complete c 0x00 none 0 (flagsChange n 0 (w32 mask) s)

/-- READY (R208). -/
def readyDoor (c : Nat) (arg : DWord) (s : State) : State :=
  let a := arg.toNat
  let t := nfld a 0 18
  if nfld a 18 45 ≠ 0 then complete c 0x0B (some (threadOf s t).st.code) 0 s
  else
    let r := deliver t (a.testBit 63) 0 s
    complete c r.2.1 (some r.2.2) 0 r.1

/-- A doorbell store of core `c`. While Bobbin is closed (R245) a thread is switched out with its pc at the store, and a
core outside any thread halts. -/
def doorbell (c off : Nat) (arg : DWord) (s : State) : State :=
  if s.bob.flushing || s.bob.isSaved then
    match (coreOf s c).thread with
    | some t => if runsOn s c then rejoin t true 1 (leaveCore c s) else leaveCore c s
    | none => setCore c { coreOf s c with waiting := true } s
  else if off = 0x000 then readyDoor c arg s
  else if off = 0x008 then yieldDoor c arg.toNat s
  else if off = 0x010 then waitDoor c arg s
  else if off = 0x018 then delayDoor c arg s
  else if off = 0x020 then signalDoor c arg s
  else if off = 0x028 then stopDoor c arg.toNat false s
  else if off = 0x030 then stopDoor c arg.toNat true s
  else passStore c s

/-! ### Thread commands (R192, R193, R204, R221) -/

/-- A block address that INIT and READ accept. -/
def blockAddrOk (a : Nat) : Bool := decide (a < 2 ^ 40) && a % 64 == 0 && inUserMem a 384

def flagged (s : State) : Nat := (s.bob.threads.filter (·.2.fp)).length
def pinnedCount (s : State) : Nat := (s.bob.threads.filter (·.2.pinned)).length

/-- INIT; the result code. A cancelled thread that is still on its core runs on there to its dispatch point; nothing of it is saved then. -/
def initThread (t arg : Nat) (e : Ecc) (s : State) : State × Nat :=
  let x := threadOf s t
  let q := memCheck 0x20 arg 384 e (memTouch arg 384 s)
  if !(x.st == .unused || x.st == .cancelled) then (s, 0x10)
  else if !blockAddrOk arg then (s, 0x14)
  else if !q.2 then (q.1, 0x14)
  else
    let s := q.1
    let l := readBytes s arg 384
    let fl := blockNum l 0x13D 1
    let fp := fl.testBit 0
    let pin := fl.testBit 1
    if !blockOk l then (s, 0x0B)
    else if fp && decide (65536 ≤ flagged s - b2n x.fp) then (s, 0x11)
    else if pin && decide (1024 ≤ pinnedCount s - b2n x.pinned) then (s, 0x13)
    else
      let b := blockNum l 0x138 1
      let y := { Thread.reset with ctx := blockCtx l, base := b, eff := b, aff := blockNum l 0x13A 2, st := .dormant,
                                   fp := fp, pinned := pin, fpArea := x.fpArea, onCore := x.onCore, lastCore := if x.onCore then x.lastCore else 0 }
      let s := setThread t y s
      let s := if x.onCore then setCore x.lastCore { coreOf s x.lastCore with stale := true } s else s
      ((if pin then newCache t s else if s.bob.cache.contains t then s else bobStore (recAt t) 384 s), 0x00)

/-- FREE; the result code. The record is written as UNUSED (R205). -/
def freeThread (t : Nat) (s : State) : State × Nat :=
  let x := threadOf s t
  if (x.st == .dormant || x.st == .suspended || x.st == .cancelled) && !x.onCore then
    let s := setThread t { Thread.reset with ctx := x.ctx } s
    (bobStore (recAt t) 384 { s with bob := { s.bob with cache := s.bob.cache.filter (· != t) } }, 0x00)
  else (s, 0x10)

/-- READ: the record copied to the block; the result code. -/
def readThread (t arg : Nat) (s : State) : State × Nat :=
  if !blockAddrOk arg then (s, 0x14)
  else (putBytes arg (recBytes (sget (fun _ => Thread.reset) s.bob.saved t)) s, 0x00)

/-- SET_PRIO; the result code. -/
def setPrio (t arg : Nat) (s : State) : State × Nat :=
  let x := threadOf s t
  if 256 ≤ arg then (s, 0x0B)
  else if x.st = .unused then (s, 0x10)
  else (reinherit t (setThread t { x with base := arg } s), 0x00)

/-- SET_AFFINITY; the result code. A thread chosen for a core it may no longer use goes back to the head of its level. -/
def setAffinity (t arg : Nat) (s : State) : State × Nat :=
  let x := threadOf s t
  if arg = 0 ∨ 65536 ≤ arg then (s, 0x0B)
  else if x.st = .unused then (s, 0x10)
  else
    let s := setThread t { x with aff := arg } s
    let out := (List.range 16).any fun c => (coreOf s c).chosen == some t && !arg.testBit c
    ((if out then rejoin t true 1 (unchoose t s) else s), 0x00)

/-- SET_PIN; the result code. -/
def setPin' (t arg : Nat) (s : State) : State × Nat :=
  let x := threadOf s t
  if 2 ≤ arg then (s, 0x0B)
  else if x.st = .unused then (s, 0x10)
  else if arg = 1 ∧ !x.pinned then
    if 1024 ≤ pinnedCount s then (s, 0x13)
    else (loadCache t true (setThread t { x with pinned := true } s), 0x00)
  else if arg = 0 then (setThread t { x with pinned := false } s, 0x00)
  else (s, 0x00)

/-- A write of BOB_TCMD that is accepted: the command runs; THREAD_CMD_DONE publishes its result. -/
def threadCmd (w : Word) (e : Ecc) (s : State) : State :=
  let op := fld w 28 4
  let t := fld w 0 18
  let arg := s.rg64 Reg.BOB_TARG
  if op = 0 then s
  else
    let p := (threadOf s t).st.code
    let r : State × Nat :=
      if op = 1 then initThread t arg e s
      else if op = 2 then freeThread t s
      else if op = 3 then readThread t arg s
      else if op = 4 then setPrio t arg s
      else if op = 5 then setAffinity t arg s
      else if op = 6 then setPin' t arg s
      else (s, 0x0B)
    { r.1 with bob := { r.1.bob with cmd := some (r.2, p) } }

/-- BOB_OBJ_DATA of a semaphore. -/
def semData (m : Sem) : Nat :=
  m.count + b2n m.mutex * 2 ^ 16 + b2n m.abandoned * 2 ^ 17 + b2n (!m.queue.isEmpty) * 2 ^ 18
    + (match m.owner with | some o => 2 ^ 50 + o * 2 ^ 32 | none => 0)

/-- A write of BOB_OBJ_CMD that is accepted. -/
def objCmd (w : Word) (s : State) : State :=
  let op := fld w 24 4
  let n := fld w 0 12
  let d := s.rg64 Reg.BOB_OBJ_DATA
  if op = 0 then s
  else
    let r : State × Nat :=
      if op = 1 then
        (s.wrg64 Reg.BOB_OBJ_DATA (if bit w 31 then (grpOf s n).val.toNat else semData (semOf s n)), 0x00)
      else if op = 2 then
        if bit w 31 then (examine n (setGrp n { grpOf s n with val := w32 d } s), 0x00)
        else
          let m := semOf s n
          if !m.queue.isEmpty || m.owner.isSome then (s, 0x12)
          else if d.testBit 16 && decide (1 < nfld d 0 16) then (s, 0x0B)
          else (setSem n { m with count := nfld d 0 16, mutex := d.testBit 16 } s, 0x00)
      else (s, 0x0B)
    { r.1 with bob := { r.1.bob with cmd := some (r.2, 0) } }

/-- A thread or object command completes (R221): BOB_TRES, CMD_DONE. -/
def cmdDone (s : State) : State :=
  match s.bob.cmd with
  | none => s
  | some (code, prior) =>
    let s := (s.wf Reg.BOB_TRES 0 8 code).wf Reg.BOB_TRES 16 4 prior
    irq BOB_PAGE 0 { s with bob := { s.bob with cmd := none } }

/-! ### Events (R223 to R227, R247) -/

/-- The source indices R223 assigns. -/
def sourceAssigned (n : Nat) : Bool := decide (n ≤ 0x125F) || (decide (0x1400 ≤ n) && decide (n ≤ 0x17FF))

/-- An event of a source sets its pending latch, or is merged (R224). Nothing is delivered while Bobbin is closed. -/
def event (n : Nat) (s : State) : State :=
  if s.bob.flushing || s.bob.isSaved || !sourceAssigned n then s
  else if s.bob.latches.contains n then s.incSat Reg.BOB_EVT_MERGED 0 32
  else { s with bob := { s.bob with latches := insRising n s.bob.latches } }

def bindingOf (s : State) (n : Nat) : Nat := (sget (fun _ => (0 : DWord)) s.bob.bindings n).toNat

/-- Whether a binding keeps the rules of BOB_BIND. -/
def bindOk (b : Nat) : Bool :=
  let act := nfld b 62 2
  let obj := nfld b 48 12
  let arg := nfld b 0 32
  !b.testBit 60 && nfld b 32 16 == 0 && (act == 1 || !b.testBit 61)
    && (if act = 1 then obj == 0 && decide (arg < 2 ^ 18)
        else if act = 2 then arg != 0
        else if act = 3 then arg == 0
        else obj == 0 && arg == 0)

/-- A write of the low word of BOB_BIND is held; of an unassigned source it is ignored (R247). -/
def bindHold (lo : Word) (s : State) : State :=
  if sourceAssigned (s.rf Reg.BOB_BIND_SEL 0 13) then { s with bob := { s.bob with bindLow := lo, bindFor := some (s.rf Reg.BOB_BIND_SEL 0 13) } }
  else s

/-- A write of the high word of BOB_BIND (R226, R247); false: the binding breaks the rules. -/
def bindWrite (hi : Word) (s : State) : State × Bool :=
  let n := s.rf Reg.BOB_BIND_SEL 0 13
  let b := hi.toNat * 2 ^ 32 + s.bob.bindLow.toNat
  if !sourceAssigned n then (s, true)
  else if bindOk b then ({ s with bob := { s.bob with bindings := sset (fun _ => 0) s.bob.bindings n (w64 b), bindFor := none } }, true)
  else (s, false)

/-- The action of one event under a binding (R225, R227). -/
def eventAct (b : Nat) (s : State) : State :=
  let act := nfld b 62 2
  let n := nfld b 48 12
  if act = 1 then (deliver (nfld b 0 18) (b.testBit 61) 0 s).1
  else if act = 2 then flagsChange n (w32 b) 0 s
  else if act = 3 then
    let r := semPost n none s
    if r.2 = 0 then r.1 else r.1.incSat Reg.BOB_EVT_LOST 0 32
  else s

/-- The pending sources in the order the intake serves them: rising from its base, wrapping (R224). -/
def served (s : State) : List Nat :=
  let l := s.bob.latches
  let order := l.filter (s.bob.ibase ≤ ·) ++ l.filter (· < s.bob.ibase)
  order.take 4

/-! ### Overflow recovery (R240) -/

/-- The thread that is recovered next: in ascending ID after the last. -/
def recoverNext (s : State) : Option Nat :=
  let l := overflowed s
  if freeBlocks s < 64 then none else (l.filter (s.bob.lastRec < ·)).head?.or l.head?

/-- One thread recovered. -/
def recoverOne (s : State) : State :=
  match recoverNext s with
  | none => s
  | some t =>
    let x := threadOf s t
    prefetch t (noteCleared x (becomeReady t 3 { s with bob := { s.bob with lastRec := t } }).1)

/-! ### The Bobbin cycle (R228 to R231) -/

/-- Bobbin works: the controller die runs, and its state is not in the save area (R244, R455). -/
def bobRuns (s : State) : Bool := (modeRuns s || opMode s == .doze) && !s.bob.isSaved

/-- Bobbin is closed to new operations (R245): the flush of R244 runs, or its state is saved. -/
def bobClosed (s : State) : Bool := s.bob.flushing || s.bob.isSaved

/-- A thread or object command still runs (R221): BOB_TRES.BUSY. -/
def bobBusy (s : State) : Bool := s.bob.cmd.isSome

/-- An object that an operation reaches: 0 a thread, 1 a semaphore, 2 a flag group, with its number; and the kind of what reaches it, by its place
in the order of R229: 0 CANCEL, 1 SUSPEND, 2 all others. -/
structure Touch where
  obj : Nat × Nat
  rank : Nat
  deriving DecidableEq, Repr

/-- An operation in a Bobbin cycle: its requester, the objects it reaches in a state, and its effect. -/
structure BobOp where
  req : Nat
  objs : State → List Touch
  run : State → State

/-- A thread reached by an operation of the third kind. -/
def onThread (t : Nat) : Touch := ⟨(0, t), 2⟩

/-- The thread to which a semaphore goes (R228): an operation of the third kind. -/
def grantObjs (s : State) (n : Nat) : List Touch := ⟨(1, n), 2⟩ :: ((semOf s n).queue.take 1).map onThread

/-- A semaphore and the thread that a post by `who` grants; a post that fails grants none. -/
def postObjs (s : State) (n : Nat) (who : Option Nat) : List Touch :=
  let m := semOf s n
  if m.mutex && (m.owner.isNone || m.owner != who) then [⟨(1, n), 2⟩] else grantObjs s n

/-- The waiters that a value wakes, each seeing what those before it have consumed (R216). -/
def flagHits (s : State) : Word → List Nat → List Nat
  | _, [] => []
  | v, t :: l =>
    let a := (threadOf s t).waitArg
    let hit := flagMatch a v
    if hit = 0 then flagHits s v l else t :: flagHits s (if a.toNat.testBit 61 then v &&& ~~~hit else v) l

/-- A group that takes a value, and the threads that wakes. -/
def flagObjs (s : State) (n : Nat) (v : Word) : List Touch := ⟨(2, n), 2⟩ :: (flagHits s v (grpOf s n).waiters).map onThread

/-- What a cancel of thread `t` reaches: the thread, and what its mutexes hand over. -/
def cancelObjs (s : State) (t : Nat) : List Touch := ⟨(0, t), 0⟩ :: (ownedBy s t).flatMap (grantObjs s)

/-- The objects of a doorbell store; one whose argument is refused reaches none. -/
def doorObjs (c off : Nat) (arg : Nat) (s : State) : List Touch :=
  let me := ((coreOf s c).thread.map onThread).toList
  let n := nfld arg 48 12
  let v := (grpOf s n).val
  let aimed := nfld arg 18 45 == 0
  if off = 0x000 then (if aimed then [onThread (nfld arg 0 18)] else [])
  else if off = 0x010 then
    if !waitArgOk arg || nfld arg 62 2 == 0 then me else if nfld arg 62 2 = 3 then me ++ [⟨(1, n), 2⟩] else me ++ [⟨(2, n), 2⟩]
  else if off = 0x020 then
    if !signalArgOk arg then []
    else if nfld arg 62 2 = 0 then postObjs s n (coreOf s c).thread
    else flagObjs s n (if nfld arg 62 2 = 1 then v ||| w32 arg else v &&& ~~~w32 arg)
  else if off = 0x028 then match stopTarget s c arg with | some t => if aimed then [⟨(0, t), 1⟩] else [] | none => []
  else if off = 0x030 then match stopTarget s c arg with | some t => if aimed then cancelObjs s t else [] | none => []
  else me

/-- The objects of an event under a binding. -/
def eventObjs (b : Nat) (s : State) : List Touch :=
  let act := nfld b 62 2
  if act = 1 then [onThread (nfld b 0 18)]
  else if act = 2 then flagObjs s (nfld b 48 12) ((grpOf s (nfld b 48 12)).val ||| w32 b)
  else if act = 3 then postObjs s (nfld b 48 12) none else []

/-- The objects of a write of BOB_OBJ_CMD. -/
def objCmdObjs (w : Word) (s : State) : List Touch :=
  let n := fld w 0 12
  if !bit w 31 then [⟨(1, n), 2⟩]
  else if fld w 24 4 = 2 then flagObjs s n (w32 (s.rg64 Reg.BOB_OBJ_DATA)) else [⟨(2, n), 2⟩]

/-- BOB_OP_RESULT. -/
def opResult (t op prior code : Nat) (s : State) : State :=
  s.wrg Reg.BOB_OP_RESULT (w32 (t * 2 ^ 14 + op * 2 ^ 12 + prior * 2 ^ 8 + code))

/-- A timeout expires (R218): the wait ends with TIMED_OUT, VALUE being the group's value for a FLAGS wait (R207). -/
def timeoutEnds (t : Nat) (s : State) : State :=
  let x := threadOf s t
  let v := if x.reason = 2 then (grpOf s (waitObj x)).val.toNat else 0
  match x.timer with
  | some (_, d) => if x.st = .waiting ∧ d ≤ s.now then wake t (resWord 0x03 (some 3) v s) 0 s else s
  | none => s

/-- The operations a request stands for in the state at the start of the cycle. While Bobbin is closed only doorbell stores and timeouts reach
it (R244, R245). -/
def opsOf (s : State) (r : BobReq) : List BobOp :=
  let opened := bobRuns s && !bobClosed s
  match r with
  | .door c off arg =>
    let a := 0x60100000 + c.val * 0x1000 + off
    if !coreActive s c.val then []
    else if pmpBars s (.core c) 2 a 8 then [⟨c.val, fun _ => [], pmpFault (.core c) 2 a⟩]
    else [⟨c.val, doorObjs c.val off arg.toNat, fun s => doorbell c.val off arg (drainAll c.val s)⟩]
  | .makeReady w =>
    let t := fld w 0 18
    if opened then [⟨16, fun _ => [onThread t], fun s => let r := deliver t (bit w 31) 0 s; opResult t 1 r.2.2 r.2.1 r.1⟩] else []
  | .cancel w =>
    let t := fld w 0 18
    if opened then
      [⟨16, fun s => cancelObjs s t, fun s => let p := (threadOf s t).st.code
                                              let r := cancel t s
                                              opResult t 2 p r.2 r.1⟩]
    else []
  | .tcmd w e => if opened && !bobBusy s then [⟨16, fun _ => [onThread (fld w 0 18)], threadCmd w e⟩] else []
  | .objCmd w => if opened && !bobBusy s then [⟨16, objCmdObjs w, objCmd w⟩] else []
  | .timeout t => if bobRuns s then [⟨21, fun _ => [⟨(0, t), 3⟩], timeoutEnds t⟩] else []
  | .intake =>
    if opened then
      (served s).zipIdx.map fun x =>
        let b := bindingOf s x.1
        ⟨17 + x.2, eventObjs b, eventAct b⟩
    else []
  | .recovery => if opened then [⟨22, fun s => ((recoverNext s).map onThread).toList, recoverOne⟩] else []

/-- The place of a requester in the order from the base on (R229, R230). -/
def opKey (base : Nat) (o : BobOp) : Nat := (o.req + 23 - base) % 23

/-- An operation at its place in the order of requesters. -/
def insOp (base : Nat) (o : BobOp) : List BobOp → List BobOp
  | [] => [o]
  | a :: l => if opKey base o < opKey base a then o :: a :: l else a :: insOp base o l

/-- The threads on which an operation stands behind another's of an earlier kind (R229). -/
def behind (s : State) (a o : BobOp) : List (Nat × Nat) :=
  ((o.objs s).filter fun x => x.obj.1 == 0 && (a.objs s).any fun y => y.obj == x.obj && decide (y.rank < x.rank)).map (·.obj)

/-- Operation `a` is applied before `o`, with which it shares an object: by kind on a thread (R229), else in the order of requesters (R229, R230).
DESIGN CHOICE (log 114): where the two rules part, on a thread and a semaphore that both share, the kinds decide. -/
def precedes (base : Nat) (s : State) (a o : BobOp) : Bool :=
  if !(behind s a o).isEmpty then true
  else if !(behind s o a).isEmpty then false
  else decide (opKey base a < opKey base o) && (a.objs s).any fun y => (o.objs s).any fun x => x.obj == y.obj

/-- The operation that is applied next: the first in the order of requesters that none has to precede. DESIGN CHOICE (log 114): where each has one
before it, the first in that order. -/
def nextOp (base : Nat) (s : State) (l : List BobOp) : Option BobOp :=
  (l.find? fun o => !l.any fun a => a.req != o.req && precedes base s a o).or l.head?

/-- What the operations of a cycle reached: each requester with an object, in the order in which they were applied. A thread on which an operation
stood behind another is one it contests, also where its grant then went elsewhere (R229). -/
abbrev Reached := List (Nat × (Nat × Nat))

/-- The operations applied one after the other, each seeing the state left by the one before, with the scheduling rules of R200 and R201 after
each; `held` are the contests of those that had to wait. -/
def applyOps (base : Nat) : Nat → List BobOp → Reached → Reached → State → State × Reached
  | 0, _, _, met, s => (s, met)
  | n + 1, l, held, met, s =>
    match nextOp base s l with
    | none => (s, met)
    | some o =>
      let held := held ++ l.flatMap fun a => l.flatMap fun b => (behind s b a).map fun x => (a.req, x)
      let mine := (o.objs s).map (fun x => (o.req, x.obj)) ++ held.filter fun h => h.1 == o.req
      applyOps base n (l.filter fun a => a.req != o.req) held (met ++ mine.eraseDups) (settle (o.run s))

/-- The requesters that reached an object, in the order of application. -/
def reqsOn (m : Reached) (o : Nat × Nat) : List Nat := ((m.filter fun x => x.2 == o).map (·.1)).eraseDups

/-- Of two objects the one R231 records. -/
def lowerObj (a b : Nat × Nat) : Nat × Nat := if a.1 < b.1 ∨ (a.1 = b.1 ∧ a.2 ≤ b.2) then a else b

/-- The record of a contested cycle, and the base (R231). -/
def noteContest (m : Reached) (s : State) : State :=
  let hot := ((m.map (·.2)).eraseDups).filter fun o => decide (2 ≤ (reqsOn m o).length)
  match hot with
  | [] => s
  | o :: rest =>
    let o := rest.foldl lowerObj o
    match reqsOn m o with
    | [] => s
    | w :: losers =>
      let s := { s with bob := { s.bob with abase := (s.bob.abase + 1) % 23 } }
      let s := s.wrg Reg.BOB_ARB (w32 (o.1 * 2 ^ 30 + o.2 * 2 ^ 12 + w))
      (s.wrg Reg.BOB_ARB_LOSERS (w32 (losers.foldl nset 0))).incSat Reg.BOB_ARB_CNT 0 32

/-- The latches a cycle of the intake serves clear, and its base advances when more than four were pending (R224). -/
def intakeTaken (s : State) : State :=
  if bobRuns s && !bobClosed s then
    let done := served s
    let base := if 4 < s.bob.latches.length then (s.bob.ibase + 1) % 0x1800 else s.bob.ibase
    { s with bob := { s.bob with latches := s.bob.latches.filter fun n => !done.contains n, ibase := base } }
  else s

/-- The requester of R228; 17 stands for the four lanes of the intake. -/
def requester : BobReq → Nat
  | .door c _ _ => c.val
  | .makeReady _ | .cancel _ | .tcmd _ _ | .objCmd _ => 16
  | .intake => 17
  | .timeout _ => 21
  | .recovery => 22

/-- The requests of a cycle, one of each requester. -/
def oneEach (rs : List BobReq) : List BobReq :=
  rs.foldl (fun l r => if l.any fun a => requester a == requester r then l else l ++ [r]) []

/-- One Bobbin cycle: the operations of the requests applied in their order, and the record of its contests. -/
def bobCycle (requests : List BobReq) (s : State) : State :=
  let rs := oneEach requests
  let ops := (rs.flatMap (opsOf s)).foldl (fun l o => insOp s.bob.abase o l) []
  let s := if rs.any fun r => r == .intake then intakeTaken s else s
  let r := applyOps s.bob.abase ops.length ops [] [] s
  noteContest r.2 r.1

end Sys2Proof.Machine
end

