-- ==== Sys2Proof/Machine/Spool.lean ====
section
/-!
DEFINITION. What happens to threads on cores and in the Spool: dispatch and switching (R180, R200 to R205), spill, refill and
search (R234, R235), rebuild after a DRAM error (R241), the loss of a cluster (R198), and the flush and restore around
HIBERNATE (R243 to R246).
-/

namespace Sys2Proof.Machine

/-! ### Dispatch (R180, R196, R200 to R203) -/

/-- A dispatch point of the thread on a core (R180, R196). -/
def atDispatchPoint (s : State) (c : Nat) : Bool := (coreOf s c).thread.isSome && switchPoint s c

/-- The thread held with core `c` as its target (R201). -/
def heldFor (s : State) (c : Nat) : Option Nat :=
  ((readyOrder s).find? fun e => e.held == some c).map (·.thread)

/-- The thread on core `c` reaches a dispatch point: it is removed when suspended or cancelled, switched out when Bobbin
flushes, when it is the target of a preemption, when its AFFINITY excludes the core, or when its quantum has expired and
a competitor waits. The core is then free, and R200 gives it the first thread that it may run; its context shows the given check bits. -/
def dispatchPoint (c : Nat) (e : Ecc) (s : State) : State :=
  match (coreOf s c).thread with
  | none => s
  | some t =>
    let x := threadOf s t
    if !atDispatchPoint s c then s
    else if removed s c then restoreThread c e (settle (leaveCore c s))
    else if s.bob.flushing then rejoin t true 1 (leaveCore c s)
    else if !roomToLeave s then s
    else if (dispatchOn s && (heldFor s c).isSome) || !x.aff.testBit c then restoreThread c e (settle (rejoin t true 1 (leaveCore c s)))
    else if (coreOf s c).quantum && dispatchOn s && rivalFor s c (· == x.eff) then restoreThread c e (settle (rejoin t false 2 (leaveCore c s)))
    else s

/-- A free core takes the first READY thread it may run, or the one chosen for it is restored. -/
def dispatchCore (c : Nat) (e : Ecc) (s : State) : State :=
  restoreThread c e (settle s)

/-- A thread's quantum expires (R202). -/
def quantumExpiry (c : Nat) (s : State) : State :=
  match (coreOf s c).thread with
  | none => s
  | some t =>
    let x := threadOf s t
    let q := s.rf Reg.BOB_CFG 16 16
    if q ≠ 0 ∧ s.rf Reg.BOB_CFG 8 8 ≤ x.eff ∧ x.lastDispatch + q * 1000 ≤ s.now then
      setCore c { coreOf s c with quantum := true } s
    else s

/-! ### Spill, refill, search (R234, R235) -/

/-- A spill, when ON_CHIP has reached HIGH, while Bobbin runs. -/
def spill (s : State) : State :=
  if bobRuns s ∧ !s.bob.flushing ∧ spillMark s ≤ onChip s then settle (makeRoom s) else s

/-- The level is in rebuild: no refill or search reaches its spooled threads (R241). -/
def rebuilding (s : State) (lev : Nat) : Bool := s.bob.rebuild.any fun r => r.1 == lev

/-- Entries in blocks of up to 32, numbered as the list says. -/
def chunk (lev : Nat) : List Nat → List Entry → List SpBlock
  | _, [] => []
  | [], _ => []
  | n :: ns, e :: es => ⟨n, lev, false, (e :: es).take 32⟩ :: chunk lev ns (es.drop 31)

/-- An uncorrectable DRAM error in Spool block `n` (R241): recorded, and the spooled part of its level rebuilt from the residency table, its
threads in ascending ID; the rebuild takes the 4 ms that R242 allows. A block that this frees ends FULL (R240). -/
def spoolEcc (n : Nat) (s : State) : State :=
  match s.bob.blocks.find? fun b => b.num == n with
  | none => s
  | some b =>
    let s := s.wrg Reg.SPL_ERR (w32 (2 ^ 31 + b.level * 2 ^ 16 + n))
    let mine := s.bob.blocks.filter (·.level == b.level)
    let es := (mine.flatMap (·.entries)).filter (current s)
    let byId := es.foldl (fun l e =>
      (l.filter fun a => decide (a.thread < e.thread)) ++ e :: l.filter fun a => decide (e.thread < a.thread)) []
    let sorted := byId.zipWith (fun e x => { e with ord := x.ord }) es
    let fresh := chunk b.level (mine.map (·.num)) sorted
    let rest := s.bob.blocks.filter (·.level != b.level)
    let l := fresh.foldl (fun l x => insBlockTail x l) rest
    let full := s.bob.full && !((mine.map (·.num)).drop fresh.length).any (· < 32000)
    let busy := (s.bob.rebuild.filter (·.1 != b.level)) ++ [(b.level, s.now + 4000000)]
    let s := { s with bob := { s.bob with blocks := l, full := full, rebuild := busy } }
    raise 0x2102 (irq SPL_PAGE 2 (fresh.foldl (fun s x => spoolWrite x.num 0 x.entries s) s))

/-- The rebuilds whose time is over end (R241). -/
def rebuildDue (s : State) : State := { s with bob := { s.bob with rebuild := s.bob.rebuild.filter fun r => decide (s.now < r.2) } }

/-- Bobbin reads a block: none where an uncorrectable word in its entries has it rebuilt (R241). -/
def blockFetch (b : SpBlock) (s : State) : State × Bool :=
  let r := bobFetch (blockAt b.num) (32 * max 1 b.entries.length) s
  if r.2 then r else (spoolEcc b.num r.1, false)

/-- A refill, when ON_CHIP is at LOW or below, while Bobbin runs: the first block of level S, its stale entries skipped. -/
def refill (s : State) : State :=
  match s.bob.blocks with
  | [] => s
  | b :: l =>
    if bobRuns s ∧ !s.bob.flushing ∧ onChip s ≤ refillMark s ∧ !rebuilding s b.level then
      let r := blockFetch b s
      if !r.2 then r.1
      else
        let s := r.1
        let es := b.entries.filter (current s)
        let full := s.bob.full && !(b.num < 32000)
        let s := { s with bob := { s.bob with blocks := l, full := full, missed := [], chip := es.foldl (fun m e => insEntry e m) s.bob.chip } }
        settle (s.incSat Reg.SPL_REFILLS 0 32)
    else s

/-- SPL_SEARCH_CFG.SEARCH as it acts. -/
def searchLen (s : State) : Nat := max 32 (min (s.rf Reg.SPL_SEARCH_CFG 0 13) 4096)

/-- The blocks that a search of `n` entries reads: a prefix that holds them. -/
def searchBlocks : Nat → List SpBlock → List SpBlock
  | _, [] => []
  | n, b :: l => if n = 0 then [] else b :: searchBlocks (n - b.entries.length) l

/-- The Spool search of a free core with no eligible thread on chip (R235); after one that found nothing the core waits for a refill or a
spill. -/
def spoolSearch (c : Nat) (s : State) : State :=
  let onChipToo := (readyOrder s).any fun e => e.held.isNone && (threadOf s e.thread).aff.testBit c
  if coreFree s c && dispatchOn s && !s.bob.blocks.isEmpty && !onChipToo && !s.bob.missed.contains c then
    let reached := s.bob.blocks.filter fun b => !rebuilding s b.level
    let r := (searchBlocks (searchLen s) reached).foldl (fun (a : State × Bool) b => if a.2 then blockFetch b a.1 else a) (s, true)
    let l := (reached.flatMap (·.entries)).take (searchLen s)
    if !r.2 then r.1
    else match l.find? fun e => current r.1 e && (threadOf r.1 e.thread).aff.testBit c with
    | some e => settle (choose c e.thread r.1)
    | none => ({ r.1 with bob := { r.1.bob with missed := c :: r.1.bob.missed } }).incSat Reg.SPL_SEARCH_MISS 0 32
  else s

/-! ### The loss of a cluster (R186, R198) -/

/-- A core of an isolated cluster: accesses in progress are completed or discarded (a free choice), its thread becomes
SUSPENDED with the context of its last save, as does one chosen for it (R194); true: a thread was lost. -/
def coreLost (c : Nat) (s : State) : State × Bool :=
  let s := (if s.freeBelow 2 = 0 then drainAll c s else s).bump
  let k := coreOf s c
  let s := match k.chosen with
    | some t => updThread t (fun x => { x with st := .suspended, reason := 6 }) (unchoose t s)
    | none => s
  let s := { s with fab := { s.fab with tports := s.fab.tports.filter (·.core != c) } }
  let s := setCore c { k with joined := false, waiting := false, halted := false, thread := none, chosen := none,
                              quantum := false, cancel := false, stale := false, wbuf := [], resv := none } s
  match k.thread, k.stale with
  | none, _ => (s, k.chosen.isSome)
  | some t, true => (updThread t (fun x => { x with onCore := elsewhere s c t }) s, false)
  | some t, false =>
    let x := threadOf s t
    let ran := (x.runNs + (s.now - x.lastDispatch)) % 2 ^ 64
    if x.st = .running then (setThread t { x with st := .suspended, reason := 6, onCore := false, runNs := ran } s, true)
    else (setThread t { x with onCore := false, runNs := ran } s, false)

/-- The cores of a cluster lost; fault 0x2001 and THREAD_LOST once. -/
def clusterLost (k : Nat) (s : State) : State :=
  let r := (List.range 4).foldl (fun (a : State × Bool) i =>
    let b := coreLost (4 * k + i) a.1
    (b.1, a.2 || b.2)) (s, false)
  settle (if r.2 then raise 0x2001 (irq BOB_PAGE 1 r.1) else r.1)

/-- CORE_CLUSTER_OFF of cluster `k` set (R186): fault 0x(10 + 4k)03. -/
def clusterOffSet (k : Nat) (s : State) : State :=
  if clusterOff s k then s
  else
    let s := s.wb (Reg.CORE_CLUSTER_OFF (4 * k)) 0 true
    clusterLost k (raise ((0x10 + 4 * k) * 0x100 + 3) s)

/-! ### Flush and restore (R243 to R246) -/

/-- SPL_SAVE_BASE.BASE, and whether the area lies inside the DRAM user region: VALID. -/
def saveBase (s : State) : Nat := s.rg64 Reg.SPL_SAVE_BASE / 0x400000 * 0x400000
def saveValid (s : State) : Bool := inDramUser (saveBase s) && decide (saveBase s + 0x400000 ≤ 0xA0000000)

/-- Step 1 of the flush, into the save area that is valid then (R243). -/
def flushStart (s : State) : State := { s with bob := { s.bob with flushing := true, saveAt := saveBase s } }

/-- A thread chosen and not yet on its core is switched out as if preempted (R244 step 2). -/
def flushChosen (s : State) : State :=
  (List.range 16).foldl (fun s c => match (coreOf s c).chosen with
    | some t => rejoin t true 1 (unchoose t s)
    | none => s) s

/-- Entries in order as front blocks of their levels, from block number `n` on. -/
def flushBlocks : Nat → Nat → List Entry → List SpBlock
  | 0, _, _ => []
  | _, _, [] => []
  | f + 1, n, e :: es =>
    let same := (e :: es).takeWhile fun a => a.level == e.level
    ⟨n, e.level, false, same.take 32⟩ :: flushBlocks f (n + 1) ((e :: es).drop (min same.length 32))

/-- The flush can finish: no thread is on a core. -/
def flushReady (s : State) : Bool := (List.range 16).all fun c => (coreOf s c).thread.isNone

/-- Steps 3 to 5: the cache and the FP areas written back (they are what State holds), every on-chip entry written as a
front block of its level, the tables in the save area, whose format the spec does not give: free bytes. -/
def flushFinish (s : State) : State :=
  let s := flushChosen s
  let s := ((readyOrder s).filter (·.held.isSome)).foldl unhold s
  let es := (readyOrder s).map fun e => { e with origin := 4 }
  let front := flushBlocks 768 32000 es
  let l := front.reverse.foldl (fun l b => insBlockHead b l) s.bob.blocks
  let s := s.bob.cache.foldl (fun s t => storeRecord t s) s
  let s := front.foldl (fun s b => spoolWrite b.num 0 b.entries s) s
  let s := { s with bob := { s.bob with chip := [], pbuf := [], blocks := l, cache := [], missed := [], flushing := false, isSaved := true } }
  let area := (List.range 0x400000).map (Config.saveByte s.fresh)
  let s := notePeak (putBytes s.bob.saveAt area s).bump
  (s.wrg Reg.SPL_FLUSH_TIME (w32 (s.freeBelow 600001))).bump

/-- An uncorrectable error met in a Spool block (R241, R260). -/
def spoolBad (n : Nat) (s : State) : State :=
  if s.bob.blocks.any fun b => b.num == n then spoolEcc n (memUe 0x20 (blockAt n) (markBad (blockAt n / 8) s)) else s

/-- The reserved blocks refilled, lowest first (R246); one that reads uncorrectable has its level rebuilt (R241). -/
def refillReserved (s₀ : State) : State :=
  let s := (s₀.bob.blocks.filter fun b => decide (32000 ≤ b.num)).foldl (fun s b => (blockFetch b s).1) s₀
  let l := s.bob.blocks.filter fun b => decide (32000 ≤ b.num)
  let es := (l.flatMap (·.entries)).filter (current s)
  { s with bob := { s.bob with blocks := s.bob.blocks.filter (fun b => decide (b.num < 32000)),
                               chip := es.foldl (fun m e => insEntry e m) s.bob.chip } }

/-- The pinned threads, which are resident in every state but UNUSED (R204). -/
def loadPinned (s : State) : State := ((s.bob.threads.filter (·.2.pinned)).map (·.1)).foldl (fun s t => loadCache t true s) s

/-- The restore at a wake, or once an entry is abandoned (R245, R246): `ok` is the outcome of the save area's CRC, which fails where the area reads
uncorrectable (R260). -/
def bobRestore (ok : Bool) (s : State) : State :=
  let s := doorAgain s
  let r := if s.bob.isSaved then bobFetch s.bob.saveAt 0x400000 s else (s, true)
  let s := r.1
  if !s.bob.isSaved then { s with bob := { s.bob with flushing := false } }
  else if ok && r.2 then
    let s := loadPinned (notePeak (refillReserved s))
    { s with bob := { s.bob with isSaved := false, flushing := false } }
  else
    let f := fun (t : Thread) =>
      match t.st with
      | .ready | .running => { t with st := TState.suspended, reason := 0, mutexes := 0, eff := t.base }
      | .waiting => { t with st := TState.suspended, reason := 0, mutexes := 0, eff := t.base, timer := none,
                             ctx := { t.ctx with dbResult := w64 (3 * 2 ^ 16 + 6) } }
      | _ => { t with mutexes := 0, eff := t.base }
    let l := s.bob.threads.map fun x => (x.1, f x.2)
    let b := { Bob.reset with threads := l, saved := l, fpool := s.bob.fpool, slots := s.bob.slots, seq := s.bob.seq }
    loadPinned (raise 0x2103 (irq SPL_PAGE 3 { s with bob := b }))

end Sys2Proof.Machine
end

