-- ==== Sys2Proof/Machine/Memory.lean ====
section
/-!
DEFINITION. Shared SRAM and DRAM beside their bytes (R250 to R261): corrected and uncorrectable errors, the zero-fill, the
patrol scrub, power-down, and the order of accesses that arrive in one cycle.
-/

namespace Sys2Proof.Machine

/-- MEM_INIT.SEGMENTS. -/
def segsFilled (s : State) : Nat := s.ram.fillNext + (s.ram.fillMore.filter (s.ram.fillNext ≤ ·)).length

/-- From RUN entry the zero-fill moves on by one segment (R257); INIT_DONE with the last. The content is what unlisted bytes read as. -/
def fillSegment (s : State) : State :=
  if s.ram.fillOn ∧ s.ram.fillNext < 8192 ∧ !s.ram.selfRefresh then
    let s := { s with ram := { s.ram with fillNext := s.ram.fillNext + 1, lastReq := some s.now } }
    if s.ram.fillNext = 8192 then irq MEM_PAGE 2 { s with ram := { s.ram with fillMore := [] } } else s
  else s

/-- DRAM power-down (R258). -/
def dramDown (s : State) : State :=
  let ok : Bool := match s.mode with | .run | .doze | .safe => true | _ => false
  if ok && decide (s.ram.lastReq.getD 0 + 1000 ≤ s.now) then { s with ram := { s.ram with down := true } } else s

/-- The time from one pass of the patrol scrub to the next: MEM_CFG.SCRUB_HOURS, of which 0 acts as 1. -/
def scrubPeriod (s : State) : Nat := max 1 (s.rf Reg.MEM_CFG 8 8) * 3600000000000

/-- The patrol scrub reads the next DRAM word (R259), outside NAP and HIBERNATE, once the controller die works. A pass begins SCRUB_HOURS after the
one before it began. -/
def scrubStep (e : Ecc) (s : State) : State :=
  let works : Bool := match s.mode with | .run | .service | .swap | .hemLoad | .doze | .safe => true | _ => false
  let w := s.ram.scrubWord
  let waits := w == 0 && !s.ram.scrubOn && (match s.ram.scrubAge with | some a => decide (a < scrubPeriod s) | none => false)
  if !works || !s.rb Reg.MEM_CFG 0 || s.ram.selfRefresh || waits then s
  else
    let s := if w = 0 then { s with ram := { s.ram with scrubAge := some 0 } } else s
    let s := memTouch (0x80000000 + 8 * w) 8 s
    let s := (memCheck 0x23 (0x80000000 + 8 * w) 8 e s).1
    let s := s.wf Reg.MEM_SCRUB 0 13 (w / 8192)
    if w + 1 = 0x4000000 then
      irq MEM_PAGE 3 ({ s with ram := { s.ram with scrubWord := 0, scrubOn := false } }.incSat Reg.MEM_SCRUB 16 16)
    else { s with ram := { s.ram with scrubWord := w + 1, scrubOn := true } }

/-! ### The order of the accesses of one cycle (R251, R256) -/

/-- The requester of an SRAM bank, in the order of R250: the four clusters, the eight window ports, Bobbin, the pattern
controller with Thimble, Fitting. -/
def sramReq : Initiator → Nat
  | .core c => c.val / 4
  | .win p => 4 + p.val
  | .bobbin => 12
  | .fitting => 14
  | _ => 13

/-- The class and number of a DRAM request (R256). -/
def dramReq : Initiator → Nat
  | .bobbin => 100
  | .memory => 600
  | .core c => 200 + c.val
  | .win p => 300 + p.val
  | .pcie f => 400 + f.val
  | .fitting => 502
  | _ => 501

def baseOf (s : State) (b : Nat) : Nat := sget (fun _ => 0) s.ram.bankBase b

/-- The key of an access in its cycle: SRAM by the bank's rotating base (R251), DRAM by class and initiator (R256). -/
def reqKey (s : State) (w : MemReq) : Nat :=
  if inSram w.addr then (sramReq w.init + 15 - baseOf s ((w.addr - 0x20000000) / 0x100000)) % 15 else dramReq w.init

/-- An access at its place in the order of keys. -/
def insReq (key : MemReq → Nat) (w : MemReq) : List MemReq → List MemReq
  | [] => [w]
  | a :: l => if key w < key a then w :: a :: l else a :: insReq key w l

/-- The SRAM banks that two requesters or more reach in the cycle. -/
def hotBanks (l : List MemReq) : List Nat :=
  (List.range 8).filter fun b =>
    decide (2 ≤ ((l.filter fun w => inSram w.addr && (w.addr - 0x20000000) / 0x100000 == b).map (sramReq ·.init)).eraseDups.length)

/-- The base of each contested bank advances by one (R251). -/
def turnBanks (l : List MemReq) (s : State) : State :=
  (hotBanks l).foldl (fun s b => { s with ram := { s.ram with bankBase := sset (fun _ => 0) s.ram.bankBase b ((baseOf s b + 1) % 15) } }) s

/-- The core that an initiator is, if it is one. -/
def ownCore : Initiator → Option Nat
  | .core c => some c.val
  | _ => none

/-- The hour of TIM_NOW has rolled over (R261): the count of corrected errors restarts. -/
def memHour (s : State) : State :=
  let h := s.now / 3600000000000
  if s.ram.hour < h then { s with ram := { s.ram with hour := h, hourCe := 0, hourRaised := false } } else s

/-- The memories at a pass through HOLD (R252, R257): SRAM and DRAM filled with zeros. -/
def memHold (s : State) : State :=
  let s := clearMem (fun a => inSram a || inDram a) s
  { s with ram := { s.ram with bad := s.ram.bad.filter (· < 0x4004000 / 8), fillNext := 0, fillMore := [], fillOn := false, selfRefresh := false,
                               down := false, lost := 0xFF, scrubWord := 0, scrubOn := false, scrubAge := none } }

/-- The SRAM at a wake from HIBERNATE (R252): every bank that was not retained is filled with zeros. -/
def memWake (keep : Nat) (s : State) : State :=
  let gone : Nat → Bool := fun a => inSram a && !keep.testBit ((a - 0x20000000) / 0x100000)
  let s := clearMem gone s
  { s with ram := { s.ram with bad := s.ram.bad.filter (fun w => !gone (8 * w)), selfRefresh := false, lost := 255 - keep % 256 } }

end Sys2Proof.Machine
end

