-- ==== Sys2Proof/Machine/Flash.lean ====
section
/-!
DEFINITION. The code flash and its controller (R265 to R291): reads of busy and idle banks, the descriptor queue, the
operations in the array with suspend and resume, spares, the journal and its replay, the update slots, refresh, and what
mode changes do.
-/

namespace Sys2Proof.Machine

def FLS_PAGE : Nat := 0x24

def fbank (s : State) (b : Nat) : FlsBank := sget (fun _ => FlsBank.reset) s.fls.banks b
def setFbank (b : Nat) (x : FlsBank) (s : State) : State :=
  { s with fls := { s.fls with banks := sset (fun _ => FlsBank.reset) s.fls.banks b x } }

/-- The bank of a flash offset. -/
def bankAt (a : Nat) : Nat := a / 0x800000 % 8
/-- The sector of a flash offset. -/
def sectorAt (a : Nat) : Nat := a / 0x10000

/-! ### Blocks and spares (R265, R279, R281) -/

/-- The bank of a unit: of a sector 0 to 1,023, or the option area (8) of the option units that refresh visits after them. -/
def unitBank (u : Nat) : Nat := if u < 1024 then u / 128 else 8

/-- The block that is a unit's own. A bank has 128 blocks and, from 1024 + 16b on, 16 spare ones (R265); the option area has its four and, from 1156
on, 4 spare ones (R281). -/
def ownBlock (u : Nat) : Nat := if u < 1024 then u else u + 128

/-- The blocks of a bank, or of the option area (8), its spare ones last. -/
def blocksOf (b : Nat) : List Nat :=
  if b < 8 then (List.range 128).map (128 * b + ·) ++ (List.range 16).map (1024 + 16 * b + ·) else (List.range 8).map (1152 + ·)

/-- The block in which a unit lies, by the majority of the three copies of the remap table (R279). -/
def blockOf (s : State) (u : Nat) : Nat :=
  let x := fun (l : List (Nat × Nat)) => sget ownBlock l u
  if x s.fls.remap.one = x s.fls.remap.three then x s.fls.remap.one else x s.fls.remap.two

/-- A unit moves to a block: all three copies are written. -/
def setBlock (u p : Nat) (s : State) : State :=
  let f := fun (l : List (Nat × Nat)) => sset ownBlock l u p
  { s with fls := { s.fls with remap := ⟨f s.fls.remap.one, f s.fls.remap.two, f s.fls.remap.three⟩ } }

/-- The free spares of a bank: its blocks in which no unit lies, that are in use, and to which nothing is being copied. -/
def spareBlocks (s : State) (b : Nat) : List Nat :=
  let units := if b < 8 then (List.range 128).map (128 * b + ·) else (List.range 4).map (1024 + ·)
  let held := units.map (blockOf s) ++ s.fls.dead ++ (s.fls.rfCopy.map (·.2)).toList
  (blocksOf b).filter fun p => !held.contains p

/-- FLS_SPARE: how many spares of a bank are free. -/
def freeSpares (s : State) (b : Nat) : Nat := (spareBlocks s b).length

/-- A free spare of a bank, which one being a free choice. -/
def pickSpare (s : State) (b : Nat) : Option Nat := (spareBlocks s b)[s.freeBelow (freeSpares s b)]?

/-- A block has been erased (R288, R293): its cycles, and of a sector's block ENDURANCE at 100,000. -/
def wearBlock (p : Nat) (s : State) : State :=
  let n := min (sget (fun _ => 0) s.fls.cycles p + 1) (2 ^ 32 - 1)
  let s := { s with fls := { s.fls with cycles := sset (fun _ => 0) s.fls.cycles p n } }
  if n = 100000 ∧ p < 1152 then raise 0x2407 (irq FLS_PAGE 6 s) else s

/-- A program or erase of units from `u` on abandons the copy that refresh makes of one of them: its spare returns to the pool (R290). -/
def dropCopy (u n : Nat) (s : State) : State :=
  match s.fls.rfCopy with
  | some (v, _) => if u ≤ v ∧ v < u + n then { s with fls := { s.fls with rfCopy := none } } else s
  | none => s

/-! ### Errors and reads (R266 to R270) -/

/-- An uncorrectable flash word at offset `a` (R266, R289): fault 0x2401, ECC_UE, FLS_ERR_ADDR. -/
def flashUe (a : Nat) (s : State) : State :=
  let s := s.incSat Reg.FLS_ECC 0 16
  let s := if s.rb (Reg.FLS_ERR_ADDR + 4) 31 then s
    else (s.wrg Reg.FLS_ERR_ADDR (w32 (a % 0x4000000 / 8 * 8))).wrg (Reg.FLS_ERR_ADDR + 4) (w32 (2 ^ 31))
  raise 0x2401 (irq FLS_PAGE 2 s)

/-- The unit that refresh visits of an address: sectors 0 to 1,023, then the four option units (R288). -/
def unitAt (a : Nat) : Nat := if a < 0x04000000 then a / 0x10000 else 1024 + (a - 0x04000000) / 0x1000

/-- A normal read of a unit has needed correction (R288). -/
def noteWeak (a : Nat) (s : State) : State := { s with fls := { s.fls with weak := insRising (unitAt a) s.fls.weak } }

/-- A read of flash finds the check bits `e`; the state, and whether the word is delivered. -/
def flashCheck (a n : Nat) (e : Ecc) (s : State) : State × Bool :=
  match s.ram.bad.find? fun w => (wordsOf a n).contains w with
  | some w => (flashUe (8 * w) s, false)
  | none => match e with
    | .none => (s, true)
    | .single _ => (noteWeak a (s.incSat Reg.FLS_ECC 16 16), true)
    | .double => (flashUe a (markBad (a / 8) s), false)

/-- The operation a busy bank reports. -/
def busyOp (k : FlsBank) : Option FlsOp := if k.st = 5 ∨ k.st = 6 then k.inner else k.op

/-- Whether a flash offset is busy (R268); the option area lies outside the banks. -/
def flashBusy (s : State) (a : Nat) : Bool :=
  let k := fbank s (bankAt a)
  if 0x04000000 ≤ a then false
  else match k.st with
  | 1 | 3 | 5 => true
  | 2 => match k.op with
    | some o => decide (o.addr + o.pos * 0x10000 ≤ a) && decide (a < o.addr + o.count * 0x10000)
    | none => false
  | 4 => match k.op with | some o => sectorAt o.addr == sectorAt a | none => false
  | 6 => match k.inner with | some o => sectorAt o.addr == sectorAt a | none => false
  | _ => false

/-- The status word a data read of a busy location returns; the part of the page or sector in course already done is a free
value. -/
def busyWord (s : State) (a : Nat) : Word :=
  match busyOp (fbank s (bankAt a)) with
  | some o => w32 (0xF1B5 * 2 ^ 16 + o.code * 2 ^ 8 + (o.pos * 256 + s.freeBelow 256) / max o.count 1)
  | none => w32 (0xF1B5 * 2 ^ 16)

/-- The lines of a bank's prefetch lines and branch cache that overlap a range are invalidated (R269). -/
def flashInv (a n : Nat) (s : State) : State :=
  let out : Nat → Bool := fun l => decide (32 * l + 32 ≤ a) || decide (a + n ≤ 32 * l)
  let f := fun (x : Nat × List Nat) => (x.1, x.2.filter out)
  { s with fls := { s.fls with prefetch := s.fls.prefetch.map f, branch := s.fls.branch.map f } }

/-- A least-recently-used list takes an entry, of at most `n`. -/
def lruPut (n v : Nat) (l : List Nat) : List Nat :=
  let l := l.filter (· != v) ++ [v]
  l.drop (l.length - n)

/-- The prefetch lines or the branch cache of its bank hold a line, which then is the most recently used (R269); none: they do not. -/
def flashHit (line : Nat) (s : State) : Option State :=
  let b := bankAt (32 * line)
  let pf := sget (fun _ => []) s.fls.prefetch b
  let bc := sget (fun _ => []) s.fls.branch b
  let inPf := s.rb Reg.FLS_CFG 0 && pf.contains line
  let inBc := s.rb Reg.FLS_CFG 1 && bc.contains line
  let use := fun (has : Bool) (n : Nat) (l : List Nat) => if has then lruPut n line l else l
  if inPf || inBc then
    some { s with fls := { s.fls with prefetch := sset (fun _ => []) s.fls.prefetch b (use inPf 4 pf),
                                      branch := sset (fun _ => []) s.fls.branch b (use inBc 32 bc) } }
  else none

/-- A fetch of a line is served from the prefetch lines or the branch cache, or misses in both and fills them (R269). -/
def flashFetchLine (line : Nat) (s₀ : State) : State :=
  let b := bankAt (32 * line)
  let last := sget (fun _ => 0) s₀.fls.lastLine b
  let s := { s₀ with fls := { s₀.fls with lastLine := sset (fun _ => 0) s₀.fls.lastLine b line } }
  match flashHit line s with
  | some t => t
  | none =>
    let pf := sget (fun _ => []) s.fls.prefetch b
    let bc := sget (fun _ => []) s.fls.branch b
    let pf := if s.rb Reg.FLS_CFG 0 then lruPut 4 (line + 2) (lruPut 4 (line + 1) pf) else pf
    let bc := if s.rb Reg.FLS_CFG 1 && line != last + 1 then lruPut 32 line bc else bc
    { s with fls := { s.fls with prefetch := sset (fun _ => []) s.fls.prefetch b pf,
                                 branch := sset (fun _ => []) s.fls.branch b bc } }

/-! ### Journal (R284) -/

/-- The address of a journal half. -/
def halfAt (h : Nat) : Nat := 0x04002000 + 0x1000 * h

/-- A journal entry: its address, TYPE, sector or slot, SEQ, and whether it is open. -/
structure JEntry where
  at_ : Nat
  typ : Nat
  target : Nat
  seq : Nat
  isOpen : Bool

/-- The entry at an address; none where it is erased or its CHECK fails. -/
def jRead (s : State) (a : Nat) : Option JEntry :=
  let o := readLe s a 8
  let chk := crc32c (readBytes s a 8 ++ readBytes s (a + 16) 8)
  if o = 2 ^ 64 - 1 ∨ readLe s (a + 24) 4 ≠ chk then none
  else some ⟨a, nfld o 56 8, nfld o 32 16, nfld o 0 32, readLe s (a + 8) 8 != 0⟩

/-- The entries of a half. -/
def jHalf (s : State) (h : Nat) : List JEntry := (List.range 128).filterMap fun i => jRead s (halfAt h + 32 * i)

/-- All entries of the journal. -/
def jAll (s : State) : List JEntry := jHalf s 0 ++ jHalf s 1

/-- The entry that decides for a sector or slot: the one with the highest SEQ. -/
def jNewest (s : State) (typ target : Nat) (ok : JEntry → Bool) : Option JEntry :=
  ((jAll s).filter fun e => e.typ == typ && e.target == target && ok e).foldl (fun b e =>
    match b with
    | some x => if x.seq < e.seq then some e else b
    | none => some e) none

/-- The erased entries of a half. -/
def jFree (s : State) (h : Nat) : List Nat :=
  ((List.range 128).map fun i => halfAt h + 32 * i).filter fun a => readLe s a 8 == 2 ^ 64 - 1

/-- An entry written at an address. -/
def jWrite (a typ target seq time : Nat) (s : State) : State :=
  let o := typ * 2 ^ 56 + target * 2 ^ 32 + seq
  let chk := crc32c (natLe o 8 ++ natLe time 8)
  writeLe (a + 24) 8 chk (writeLe (a + 16) 8 time (writeLe a 8 o s))

/-- A range of flash erased: its bytes read as erased, with good check bits (R266). -/
def wipe (a n : Nat) (s : State) : State :=
  let s := clearMem (fun x => decide (a ≤ x) && decide (x < a + n)) s
  { s with ram := { s.ram with bad := s.ram.bad.filter fun w => !(decide (a ≤ 8 * w) && decide (8 * w < a + n)) } }

/-- A half erased. -/
def jErase (h : Nat) (s : State) : State := wipe (halfAt h) 0x1000 s

/-- Every open entry and the newest closed SLOT entry of each slot that the other half does not hold are copied there, keeping their SEQ, and
half `h` is erased. -/
def jMove (h : Nat) (s : State) : State :=
  let there := (jHalf s (1 - h)).map (·.seq)
  let keep := (jHalf s h).filter fun e => !there.contains e.seq && (e.isOpen ||
    (e.typ == 2 && (match jNewest s 2 e.target (fun x => !x.isOpen) with | some x => x.seq == e.seq | none => false)))
  let s := (keep.zip (jFree s (1 - h))).foldl (fun s x =>
    let s := jWrite x.2 x.1.typ x.1.target x.1.seq (readLe s (x.1.at_ + 16) 8) s
    if x.1.isOpen then s else writeLe (x.2 + 8) 8 0 s) s
  let s := jErase h s
  { s with fls := { s.fls with half := 1 - h } }

/-- The copy of an active half with fewer than 4 free entries. -/
def jTidy (s : State) : State := if 4 ≤ (jFree s s.fls.half).length then s else jMove s.fls.half s

/-- A start that finds entries in both halves reads them together and erases the older half: the one whose copy was cut off. -/
def jMerge (s : State) : State :=
  if (jHalf s 0).isEmpty || (jHalf s 1).isEmpty then s else jMove s.fls.half s

/-- An entry opened (R284). -/
def jOpen (typ target : Nat) (s : State) : State :=
  let s := jTidy (dropCopy 1026 2 s)
  let seq := (jAll s).foldl (fun m e => max m e.seq) 0 + 1
  match (jFree s s.fls.half).head? with
  | some a => jWrite a typ target (seq % 2 ^ 32) s.now s
  | none => s

/-- The deciding entry of a sector or slot closed. -/
def jClose (typ target : Nat) (s₀ : State) : State :=
  let s := dropCopy 1026 2 s₀
  match jNewest s typ target (fun _ => true) with
  | some e => writeLe (e.at_ + 8) 8 0 s
  | none => s

/-! ### Update slots (R287) -/

/-- The state of a slot: 0 NONE, 1 INCOMPLETE, 2 COMPLETE. -/
def slotState (s : State) (n : Nat) : Nat :=
  match jNewest s 2 n (fun _ => true) with
  | some e => if e.isOpen then 1 else 2
  | none => if n = 0 then 2 else 0

/-- The boot slot that a start finds: of the newest closed SLOT entry, or 0. -/
def slotFound (s : State) : Nat :=
  match ((jAll s).filter fun e => e.typ == 2 && !e.isOpen).foldl (fun (b : Option JEntry) e =>
      match b with
      | some x => if x.seq < e.seq then some e else b
      | none => some e) none with
  | some e => e.target % 2
  | none => 0

/-- The boot slot: a slot that SLOT_COMMIT closes becomes it from the next start. -/
def bootSlot (s : State) : Nat := s.fls.boot

/-- FLS_SLOT. -/
def slotWord (s : State) : Nat := bootSlot s * 256 + slotState s 1 * 4 + slotState s 0

/-! ### Completion (R272, R275) -/

/-- The ring's size (R271). -/
def ringLog (s : State) : Nat := max 4 (min 12 (s.rf Reg.FLS_DQ_SIZE 0 4))

/-- The queue stops on an error (FLS_DQ_ERR). -/
def dqError (idx cause : Nat) (s : State) : State :=
  let s := s.wb Reg.FLS_DQ_CTRL 31 false
  let s := if s.rb Reg.FLS_DQ_ERR 31 then s else s.wrg Reg.FLS_DQ_ERR (w32 (2 ^ 31 + idx * 2 ^ 16 + cause))
  raise 0x2405 (irq FLS_PAGE 7 s)

/-- SOFT_RESET of the page takes effect once the running operations complete (R293). -/
def flsSettle (s : State) : State :=
  if s.fls.stopReset && s.fls.descs.isEmpty then
    let s := s.resetRegs fun o => decide (0x24040 ≤ o) && decide (o < 0x24064)
    { s with fls := { s.fls with stopReset := false } }
  else s

/-- A descriptor completes: DONE_TIME, then STATUS, in its slot; the interrupt sources. `ok` is the outcome of the write. -/
def descDone (d : Desc) (code detail : Nat) (ok : Bool) (s : State) : State :=
  let s := { s with fls := { s.fls with descs := s.fls.descs.filter fun x => x.slot != d.slot } }
  let s := if ok && inUserMem d.slot 32 then memStore (d.slot + 0x14) 4 (2 ^ 31 + detail * 2 ^ 8 + code) (memStore (d.slot + 0x18) 8 s.now s)
    else dqError d.idx 3 s
  let s := if d.flags.testBit 0 then irq FLS_PAGE 0 s else s
  flsSettle (if code = 1 ∨ code = 2 then s else irq FLS_PAGE 1 s)

/-- The completion of an operation's descriptor, if it has one. -/
def opDone (o : FlsOp) (code detail : Nat) (ok : Bool) (s : State) : State :=
  match o.desc with
  | some d => descDone d code detail ok s
  | none => s

/-! ### The descriptor queue (R271 to R274) -/

/-- The flash controller in MEM_ERR.SOURCE. DESIGN CHOICE (log 83): R263 names no code for it; that of the pattern controller is taken. -/
def FLS_SOURCE : Nat := 0x21

/-- A descriptor as its 32 bytes in memory hold it (R272). -/
def descIn (s : State) (tail a : Nat) : Desc :=
  ⟨tail, a, readLe s a 1, readLe s (a + 1) 1, readLe s (a + 2) 2, readLe s (a + 4) 4, readLe s (a + 8) 8, false⟩

/-- A descriptor that has been fetched; `next` is TAIL after it. An opcode that R273 does not list completes at once. -/
def dqTake (d : Desc) (next : Nat) (s : State) : State :=
  let s := s.wf Reg.FLS_DQ_TAIL 0 12 next
  let s := { s with fls := { s.fls with descs := s.fls.descs ++ [d] } }
  if d.op = 0 ∨ 10 < d.op then descDone d 0x12 0 true s else s

/-- The controller fetches the descriptor at TAIL (R271, R274). -/
def dqFetch (e : Ecc) (s : State) : State :=
  let size := 2 ^ ringLog s
  let head := s.rf Reg.FLS_DQ_HEAD 0 12 % size
  let tail := s.rf Reg.FLS_DQ_TAIL 0 12 % size
  let base := s.rg64 Reg.FLS_DQ_BASE
  let far := match s.fls.descs.head? with | some d => decide (16 < (tail + size - d.idx) % size) | none => false
  if !s.rb Reg.FLS_DQ_CTRL 31 || head == tail || far || s.fls.paused.isSome || s.fls.stopReset || s.mode == .safe
      || s.mode == .nap || s.mode == .hibernate then s
  else if !inUserMem base (32 * size) then dqError tail 1 s
  else
    let a := base + 32 * tail
    let c := memCheck FLS_SOURCE a 32 e (memTouch a 32 s)
    if !c.2 then dqError tail 2 c.1 else dqTake (descIn c.1 tail a) ((tail + 1) % size) c.1

/-- The bank a descriptor works in; 8 for the option area and the journal. -/
def descBank (d : Desc) : Nat := if d.op ≤ 5 then bankAt d.addr else 8

/-- Whether a descriptor waits for every earlier one to be DONE (R273). -/
def fenced (d : Desc) : Bool := decide (6 ≤ d.op) || d.flags.testBit 1

/-- The fetched descriptor with opcode `op` that may start now: the first not started, with every earlier one of its bank
started, and every earlier one DONE if it is fenced (R274); none while a NAP lasts (R291). -/
def startable (s : State) (op bank : Nat) : Option Desc :=
  let go := fun (a : Option Desc × List Desc) (d : Desc) =>
    match a.1 with
    | some _ => a
    | none =>
      let blocked := a.2.any fun x => (descBank x == descBank d && !x.started) || fenced d
      if !d.started && d.op == op && descBank d == bank && !blocked then (some d, a.2) else (none, a.2 ++ [d])
  if s.fls.paused.isSome then none else (s.fls.descs.foldl go (none, [])).1

/-- Journal replay starts its next erase in every bank that can take it (R286). -/
def replayKick (s : State) : State :=
  (List.range 8).foldl (fun s b =>
    match s.fls.replay.find? fun sec => sec / 128 == b with
    | some sec =>
      if (fbank s b).st = 0 then
        setFbank b { fbank s b with st := 1, op := some ⟨none, 2, sec * 0x10000, 1, 0, 0, []⟩, auto := false }
          (dropCopy sec 1 (flashInv (sec * 0x10000) 0x10000 s))
      else s
    | none => s) s

/-- The requesters beside the queue whose starts reach a bank in one cycle, of those named the ones that have work there: replay an open sector,
refresh a pass, Fitting where it runs. -/
def startRivals (s : State) (bank : Nat) (rivals : List (Fin 4)) : List Nat :=
  ((rivals.map (·.val)).filter fun r =>
    if r = 1 then s.fls.replay.any fun sec => sec / 128 == bank
    else if r = 2 then s.fls.rfOn && s.fls.paused.isNone else r == 3 && isEnabled s FIT_PAGE).eraseDups

/-- Starts by the requesters `reqs` that reach one bank in the same cycle (R278): the record, and whether the descriptor's is granted. Replay takes the
bank where it is granted first; refresh and Fitting give way to a start by the queue or replay that follows them. -/
def grantStart (bank : Nat) (reqs : List Nat) (s : State) : State × Bool :=
  if reqs.length < 2 then (s, true)
  else
    let base := s.fls.base
    let place := fun (r : Nat) => (r + 4 - base) % 4
    let w := reqs.foldl (fun b r => if place r < place b then r else b) (reqs.headD 0)
    let lost := (reqs.filter (· != w)).foldl nset 0
    let s := { s with fls := { s.fls with base := (base + 1) % 4 } }
    let n := satInc (s.rf Reg.FLS_ARB 16 16) 16
    let s := s.wrg Reg.FLS_ARB (w32 (n * 2 ^ 16 + bank * 2 ^ 12 + lost * 2 ^ 8 + s.fls.base * 2 ^ 4 + w))
    if reqs.contains 1 ∧ (place 1 < place 0 ∨ !reqs.contains 0) then (replayKick s, false) else (s, true)

/-- A descriptor is marked started. -/
def markStarted (d : Desc) (s : State) : State :=
  { s with fls := { s.fls with descs := s.fls.descs.map fun x => if x.slot = d.slot then { x with started := true } else x } }

/-- The first of `n` sectors from an address on that a bit of FLS_WP protects (R280). -/
def protectedIn (s : State) (a n : Nat) : Option Nat :=
  (List.range n).find? fun i => s.rb (Reg.FLS_WP ((sectorAt a + i) / 32)) ((sectorAt a + i) % 32)

/-- The pages of a PROGRAM, BLANK_CHECK or VERIFY lie within one sector (R273). -/
def pagesOk (d : Desc) (limit unit : Nat) : Bool :=
  decide (1 ≤ d.count) && decide (d.count ≤ limit) && d.addr % 256 == 0
    && decide (d.addr % unit + 256 * d.count ≤ unit)

/-- The reserved fields of a descriptor are 0. -/
def descFieldsOk (d : Desc) : Bool := d.flags / 8 == 0 && decide (d.buf < 2 ^ 40) && d.buf % 8 == 0

/-- The first page of data whose words, where not all ones, meet a word that is not erased (R267). -/
def notErased (s : State) (a : Nat) (data : List Byte) : Option Nat :=
  ((List.range (data.length / 8)).find? fun i =>
    let w := (data.drop (8 * i)).take 8
    w.any (· != 0xFF) && ((readBytes s (a + 8 * i) 8).any (· != 0xFF) || s.ram.bad.contains (a / 8 + i))).map (· / 32)

/-- The first page of a range with a word that is not erased. -/
def notBlank (s : State) (a pages : Nat) : Option Nat :=
  (List.range pages).find? fun i => (readBytes s (a + 256 * i) 256).any (· != 0xFF)

/-- The words of one page of data, all-ones words skipped (R267), written at an address. -/
def programWords (a : Nat) (data : List Byte) (s : State) : State :=
  (List.range 32).foldl (fun s i =>
    let w := (data.drop (8 * i)).take 8
    if w.all (· == 0xFF) then s else writeBytes (a + 8 * i) w s) s

/-- 256 bytes that nothing fixes: what a page holds whose program failed or was cut off. -/
def freePage (s : State) : List Byte := (List.range 256).map fun i => BitVec.ofNat 8 ((Config.freeValue (s.fresh + i)).toNat)

/-- What a failed or cut program leaves in its page. -/
def scramble (a : Nat) (data : List Byte) (s : State) : State :=
  let f := freePage s
  let s := (List.range 32).foldl (fun s i =>
    let w := (data.drop (8 * i)).take 8
    if w.all (· == 0xFF) then s else writeBytes (a + 8 * i) ((f.drop (8 * i)).take 8) s) s
  { s with fresh := s.fresh + 256 }

/-! ### Spares (R279) -/

/-- A bank's free spares have fallen: fault 0x2402 and SPARE_LOW once below 4. -/
def sparesLow (b : Nat) (s : State) : State :=
  if freeSpares s b < 4 ∧ !s.fls.lowRaised.contains b then
    raise 0x2402 (irq FLS_PAGE 3 { s with fls := { s.fls with lowRaised := insRising b s.fls.lowRaised } })
  else s

/-- A sector without a spare is unusable. -/
def unusable (sec : Nat) (s : State) : State :=
  raise 0x2403 { s with fls := { s.fls with unusable := insRising sec s.fls.unusable, retired := s.fls.retired.filter (· != sec) } }

/-- A sector is retired: it moves to a spare at its next erase, or is unusable where the bank has none. -/
def retire (sec : Nat) (s : State) : State :=
  if freeSpares s (sec / 128) = 0 then unusable sec s
  else { s with fls := { s.fls with retired := insRising sec s.fls.retired } }

/-- A sector moves to a free spare of its bank; its block is taken out of use. -/
def takeSpare (sec : Nat) (s : State) : State :=
  match pickSpare s (sec / 128) with
  | none => s
  | some p =>
    let dead := insRising (blockOf s sec) s.fls.dead
    let s := setBlock sec p s.bump
    sparesLow (sec / 128) { s with fls := { s.fls with dead := dead, retired := s.fls.retired.filter (· != sec) } }

/-- A sector has been erased: its bytes and check bits, its cycles (R293). -/
def eraseSector (sec : Nat) (s : State) : State :=
  let a := sec * 0x10000
  let s := wipe a 0x10000 s
  wearBlock (blockOf s sec) { s with fls := { s.fls with weak := s.fls.weak.filter (· != sec) } }

/-! ### Descriptors start (R267, R273 to R276, R279, R280, R283, R287) -/

/-- Option-area writes are allowed (R283). -/
def optAllowed (s : State) : Bool := s.rb Reg.FLS_CFG 2 && s.lcs.st != 0x00 && s.lcs.st != 0x13

/-- A descriptor that cannot run completes with a code. -/
def refuseDesc (d : Desc) (code detail : Nat) (env : FlashEnv) (s : State) : State := descDone d code detail env.statusOk s

/-- The data of a descriptor's buffer, as the controller reads it; none where it lies outside the allowed regions or has an uncorrectable word
(R260, R275). -/
def bufRead (s : State) (d : Desc) (env : FlashEnv) : State × Option (List Byte) :=
  let n := 256 * d.count
  if !inUserMem d.buf n then (s, none)
  else
    let c := memCheck FLS_SOURCE d.buf n (if env.bufEcc then .double else .none) (memTouch d.buf n s)
    (c.1, if c.2 then some (readBytes c.1 d.buf n) else none)

/-- Whether PROGRAM can start in a bank, by the suspend table (R276): the next state, and whether an erase is suspended
automatically. The 1 ms of R277 applies to automatic suspends. -/
def programStart (s : State) (k : FlsBank) (d : Desc) : Option (Nat × Bool) :=
  let rested : Bool := match k.resumed with | some t => decide (t + 1000000 ≤ s.now) | none => true
  if k.st = 0 then some (3, false)
  else if k.st = 1 ∧ d.flags.testBit 2 ∧ rested then some (5, true)
  else if k.st = 2 then some (5, false)
  else none

/-- PROGRAM starts. DESIGN CHOICE (log 84): the spec gives no order for the refusals of one descriptor; they are judged in that of this text. -/
def startProgram (bank : Nat) (env : FlashEnv) (s : State) : State :=
  match startable s 1 bank with
  | none => s
  | some d =>
    let k := fbank s bank
    match programStart s k d with
    | none => s
    | some (st, auto) =>
      let g := grantStart bank (0 :: startRivals s bank env.rivals) s
      let s := g.1
      let sec := sectorAt d.addr
      let suspended : Bool := (k.st == 1 || k.st == 2) && (match k.op with
        | some o => decide (sectorAt o.addr ≤ sec) && decide (sec < sectorAt o.addr + o.count)
        | none => false)
      if !g.2 then s
      else if !descFieldsOk d || !pagesOk d 256 0x10000 || decide (0x4000000 ≤ d.addr) then refuseDesc d 0x12 0 env s
      else if suspended then refuseDesc d 0x1E 0 env s
      else if (protectedIn s d.addr 1).isSome then refuseDesc d 0x11 0 env s
      else if s.fls.unusable.contains sec then refuseDesc d 0x16 0 env s
      else
        let b := bufRead s d env
        match b.2 with
        | none => refuseDesc d 0x13 0 env b.1
        | some data =>
          match notErased b.1 d.addr data with
          | some p => refuseDesc d 0x10 p env b.1
          | none =>
            let o : FlsOp := ⟨some d, 1, d.addr, d.count, 0, 0, data⟩
            let k := if st = 3 then { k with st := 3, op := some o } else { k with st := 5, inner := some o, auto := auto }
            dropCopy sec 1 (flashInv d.addr (256 * d.count) (setFbank bank k (markStarted d b.1)))

/-- ERASE starts: its first sector is journalled. -/
def startErase (bank : Nat) (env : FlashEnv) (s : State) : State :=
  match startable s 2 bank with
  | none => s
  | some d =>
    let k := fbank s bank
    if k.st ≠ 0 then s
    else
      let g := grantStart bank (0 :: startRivals s bank env.rivals) s
      let s := g.1
      let sec := sectorAt d.addr
      if !g.2 then s
      else if !descFieldsOk d || d.count = 0 || decide (128 < d.count) || d.addr % 0x10000 != 0 || decide (0x4000000 ≤ d.addr)
          || decide (128 < sec % 128 + d.count) then refuseDesc d 0x12 0 env s
      else match protectedIn s d.addr d.count with
        | some i => refuseDesc d 0x11 i env s
        | none => match (List.range d.count).find? fun i => s.fls.unusable.contains (sec + i) with
          | some i => refuseDesc d 0x16 i env s
          | none =>
            let o : FlsOp := ⟨some d, 2, d.addr, d.count, 0, 0, []⟩
            let s := jOpen 1 sec (setFbank bank { k with st := 1, op := some o, auto := false } (markStarted d s))
            dropCopy sec d.count (flashInv d.addr (0x10000 * d.count) s)

/-- What BLANK_CHECK (3) or VERIFY (4) of a descriptor finds, `data` being the buffer of a VERIFY: the first page that fails its check bits or differs
(R273, R274). -/
def checkDone (op : Nat) (d : Desc) (data : List Byte) (env : FlashEnv) (s : State) : State :=
  let s := match env.eccAt with | some p => markBad ((d.addr + 256 * p) / 8 + s.freeBelow 32) s.bump | none => s
  let word := (s.ram.bad.filter fun w => decide (d.addr ≤ 8 * w) && decide (8 * w < d.addr + 256 * d.count)).head?
  let ecc := word.map fun w => (8 * w - d.addr) / 256
  let ue := flashUe (8 * word.getD 0)
  let diff := if op = 3 then notBlank s d.addr d.count
    else (List.range d.count).find? fun i => readBytes s (d.addr + 256 * i) 256 != (data.drop (256 * i)).take 256
  match ecc, diff with
  | some p, some q =>
    if p ≤ q then refuseDesc d 0x19 p env (ue s)
    else refuseDesc d (if op = 3 then 0x18 else 0x17) q env s
  | some p, none => refuseDesc d 0x19 p env (ue s)
  | none, some q => refuseDesc d (if op = 3 then 0x18 else 0x17) q env s
  | none, none => refuseDesc d 0x01 0 env s

/-- BLANK_CHECK (3) and VERIFY (4): they complete at once in an idle bank. -/
def startCheck (bank op : Nat) (env : FlashEnv) (s : State) : State :=
  match startable s op bank with
  | none => s
  | some d =>
    if (fbank s bank).st ≠ 0 then s
    else
      let g := grantStart bank (0 :: startRivals s bank env.rivals) s
      let s := g.1
      let r := if op = 4 then bufRead s d env else (s, some [])
      if !g.2 then s
      else if !descFieldsOk d || !pagesOk d 256 0x10000 || decide (0x4000000 ≤ d.addr) then refuseDesc d 0x12 0 env s
      else match r.2 with
      | none => refuseDesc d 0x13 0 env r.1
      | some data => checkDone op d data env r.1

/-- MARK_BAD (R279). -/
def startMarkBad (bank : Nat) (env : FlashEnv) (s : State) : State :=
  match startable s 5 bank with
  | none => s
  | some d =>
    if (fbank s bank).st ≠ 0 then s
    else
      let g := grantStart bank (0 :: startRivals s bank env.rivals) s
      let s := g.1
      if !g.2 then s
      else if !descFieldsOk d || d.count != 1 || decide (0x4000000 ≤ d.addr) then refuseDesc d 0x12 0 env s
      else if (protectedIn s d.addr 1).isSome then refuseDesc d 0x11 0 env s
      else refuseDesc d 0x01 0 env (retire (sectorAt d.addr) s)

/-- The configuration copy of an option offset is the one in use (R283). -/
def optCurrent (s : State) (a : Nat) : Bool := s.fls.optCopy == some (a / 0x1000)

/-- OPT_ERASE starts: of the unit that holds its offset. -/
def startOptErase (env : FlashEnv) (s : State) : State :=
  match startable s 6 8 with
  | none => s
  | some d =>
    if s.fls.opt.isSome then s
    else if !descFieldsOk d || d.count != 1 || decide (0x2000 ≤ d.addr) then refuseDesc d 0x12 0 env s
    else if !optAllowed s then refuseDesc d 0x1C 0 env s
    else if optCurrent s d.addr then refuseDesc d 0x1B 0 env s
    else
      let u := d.addr / 0x1000
      let s := dropCopy (1024 + u) 1 (markStarted d s)
      { s with fls := { s.fls with opt := some ⟨some d, 6, 0x1000 * u, 1, 0, 0, []⟩ } }

/-- OPT_PROGRAM starts. -/
def startOptProgram (env : FlashEnv) (s : State) : State :=
  match startable s 7 8 with
  | none => s
  | some d =>
    if s.fls.opt.isSome then s
    else if !descFieldsOk d || !pagesOk d 16 0x1000 || decide (0x2000 ≤ d.addr) then refuseDesc d 0x12 0 env s
    else if !optAllowed s then refuseDesc d 0x1C 0 env s
    else if optCurrent s d.addr then refuseDesc d 0x1B 0 env s
    else
      let b := bufRead s d env
      match b.2 with
      | none => refuseDesc d 0x13 0 env b.1
      | some data =>
        match notErased b.1 (0x04000000 + d.addr) data with
        | some p => refuseDesc d 0x10 p env b.1
        | none =>
          let s := dropCopy (1024 + d.addr / 0x1000) 1 (markStarted d b.1)
          { s with fls := { s.fls with opt := some ⟨some d, 7, d.addr, d.count, 0, 0, data⟩ } }

/-- SLOT_BEGIN and SLOT_COMMIT (R287). -/
def startSlot (op : Nat) (env : FlashEnv) (s : State) : State :=
  match startable s op 8 with
  | none => s
  | some d =>
    if s.fls.opt.isSome then s
    else if !descFieldsOk d || d.count != 0 || decide (1 < d.addr) then refuseDesc d 0x12 0 env s
    else if op = 8 then
      if d.addr = bootSlot s then refuseDesc d 0x1D 0 env s else refuseDesc d 0x01 0 env (jOpen 2 d.addr s)
    else if slotState s d.addr = 1 then refuseDesc d 0x01 0 env (jClose 2 d.addr s)
    else refuseDesc d 0x1D 0 env s

/-- FENCE (R273). -/
def startFence (env : FlashEnv) (s : State) : State :=
  match startable s 10 8 with
  | none => s
  | some d => refuseDesc d (if !descFieldsOk d || d.count != 0 || d.addr != 0 then 0x12 else 0x01) 0 env s

/-! ### Operations finish (R275, R276, R279, R286) -/

/-- A replayed sector is erased: its entry closes; REPLAY_DONE after the last. -/
def replayDone (sec : Nat) (s : State) : State :=
  let s := jClose 1 sec { s with fls := { s.fls with replay := s.fls.replay.filter (· != sec) } }
  replayKick (if s.fls.replay.isEmpty then irq FLS_PAGE 4 s else s)

/-- A sector erase in a bank finishes. -/
def eraseStep (b : Nat) (o : FlsOp) (good ok : Bool) (s : State) : State :=
  let k := fbank s b
  let sec := sectorAt o.addr + o.pos
  let idle := { k with st := 0, op := none, auto := false, resumed := none, suspDue := none }
  let move := !good || s.fls.retired.contains sec
  if move && freeSpares s b == 0 then
    let s := unusable sec (jClose 1 sec (setFbank b idle s))
    let s := flashInv o.addr (0x10000 * o.count) s
    match o.desc with
    | some _ => opDone o (if good then 0x16 else 0x15) (if good then o.pos else 0) ok s
    | none => replayDone sec s
  else
    let s := if move then takeSpare sec s else s
    let s := eraseSector sec s
    let moved := o.moved + b2n move
    match o.desc with
    | none => flashInv o.addr 0x10000 (replayDone sec (setFbank b idle s))
    | some _ =>
      let s := jClose 1 sec s
      if o.pos + 1 < o.count then
        jOpen 1 (sec + 1) (setFbank b { k with op := some { o with pos := o.pos + 1, moved := moved } } s)
      else
        let s := flashInv o.addr (0x10000 * o.count) (setFbank b idle s)
        opDone o (if moved = 0 then 0x01 else 0x02) moved ok s

/-- The bank after a program within or outside a suspended erase completes (R276). -/
def programEnd (s : State) (k : FlsBank) : FlsBank :=
  if k.st = 5 then
    if k.auto then { k with st := 1, inner := none, auto := false, resumed := some s.now } else { k with st := 2, inner := none }
  else { k with st := 0, op := none }

/-- A page program in a bank finishes. -/
def programStep (b : Nat) (o : FlsOp) (good ok : Bool) (s : State) : State :=
  let k := fbank s b
  let page := (o.data.drop (256 * o.pos)).take 256
  let a := o.addr + 256 * o.pos
  if good then
    let s := programWords a page s
    if o.pos + 1 < o.count then
      let o := { o with pos := o.pos + 1 }
      setFbank b (if k.st = 5 then { k with inner := some o } else { k with op := some o }) s
    else opDone o 0x01 0 ok (flashInv o.addr (256 * o.count) (setFbank b (programEnd s k) s))
  else
    let s := retire (sectorAt o.addr) (scramble a page s)
    opDone o 0x14 o.pos ok (flashInv o.addr (256 * o.count) (setFbank b (programEnd s k) s))

/-- An operation in the option area finishes a step. -/
def optStep (o : FlsOp) (good ok : Bool) (s : State) : State :=
  let a := 0x04000000 + o.addr
  if o.code = 6 then
    let s := { s with fls := { s.fls with opt := none } }
    if good then opDone o 0x01 0 ok (wearBlock (blockOf s (1024 + o.addr / 0x1000)) (wipe a 0x1000 s)) else opDone o 0x15 0 ok s
  else
    let page := (o.data.drop (256 * o.pos)).take 256
    if good then
      let s := programWords (a + 256 * o.pos) page s
      if o.pos + 1 < o.count then { s with fls := { s.fls with opt := some { o with pos := o.pos + 1 } } }
      else opDone o 0x01 0 ok { s with fls := { s.fls with opt := none } }
    else opDone o 0x14 o.pos ok (scramble (a + 256 * o.pos) page { s with fls := { s.fls with opt := none } })

/-- A page program or sector erase finishes in a bank (8: the option area): `good` unless it failed to verify. -/
def flashOpDone (b : Nat) (good ok : Bool) (s : State) : State :=
  if s.fls.paused.isSome then s
  else if b = 8 then match s.fls.opt with | some o => optStep o good ok s | none => s
  else
    let k := fbank s b
    match k.st with
    | 1 => match k.op with | some o => eraseStep b o good ok s | none => s
    | 3 => match k.op with | some o => programStep b o good ok s | none => s
    | 5 => match k.inner with | some o => programStep b o good ok s | none => s
    | _ => s

/-! ### Suspend and resume (R276, R277) -/

/-- A bank is suspended. -/
def suspendBank (b : Nat) (s : State) : State :=
  let k := fbank s b
  if k.st = 1 then setFbank b { k with st := 2, suspDue := none } s
  else if k.st = 3 then setFbank b { k with st := 4, suspDue := none } s
  else if k.st = 5 then setFbank b { k with st := 6, suspDue := none } s
  else s

/-- SUSPEND from FLS_SUSPEND: of an erase no earlier than 1 ms after its RESUME. -/
def suspendReq (b : Nat) (s : State) : State :=
  let k := fbank s b
  match k.resumed with
  | some t => if k.st = 1 ∧ s.now < t + 1000000 then setFbank b { k with suspDue := some (t + 1000000) } s else suspendBank b s
  | none => suspendBank b s

/-- The SUSPENDs that waited for the 1 ms of R277 take effect. -/
def suspendsDue (s : State) : State :=
  (List.range 8).foldl (fun s b => match (fbank s b).suspDue with
    | some t => if t ≤ s.now then suspendBank b s else s
    | none => s) s

/-- RESUME acts on the innermost suspended operation; in any other state it has no effect. -/
def resumeBank (b : Nat) (s : State) : State :=
  let k := fbank s b
  if k.st = 2 then setFbank b { k with st := 1, resumed := some s.now, suspDue := none } s
  else if k.st = 4 then setFbank b { k with st := 3 } s
  else if k.st = 6 then setFbank b { k with st := 5 } s
  else s

/-- A write of FLS_SUSPEND. -/
def flashSuspend (w : Word) (s : State) : State :=
  (bitsOf 8 (fld w 0 8)).foldl (fun s b =>
    if fld w 16 2 = 1 then suspendReq b s else if fld w 16 2 = 2 then resumeBank b s else s) s

/-- Every bank suspended at once: a watchdog or a mode change (R277, R285, R291). -/
def suspendAll (s : State) : State := (List.range 8).foldl (fun s b => suspendBank b s) s

/-! ### Refresh (R288 to R290) -/

/-- Active time in days. -/
def dayNs : Nat := 86400000000000

/-- Since when the case is above 85 °C, in active time (R156, R288). -/
def noteHot (hot : Bool) (s : State) : State :=
  { s with ovl := { s.ovl with hotSince := if !hot then none else some (s.ovl.hotSince.getD s.ovl.activeNs) } }

/-- An interval of active time since `last` is over (R156, R288): of `cool` days, or of `warm` days spent above 85 °C. -/
def intervalDue (s : State) (cool warm last : Nat) : Bool :=
  decide (last + cool * dayNs ≤ s.ovl.activeNs)
    || (match s.ovl.hotSince with | some t => decide (max last t + warm * dayNs ≤ s.ovl.activeNs) | none => false)

/-- A pass starts (R288): owed since the module passed through HOLD, or 30 days of active time after the last one, 7 days above 85 °C. -/
def flashPass (hot : Bool) (s : State) : State :=
  let s := noteHot hot s
  let due := match s.fls.rfLast with
    | none => true
    | some t => intervalDue s 30 7 t
  let on : Bool := match s.mode with | .run | .service | .doze | .safe => true | _ => false
  if due && on && !s.fls.rfOn then
    { s with fls := { s.fls with rfOn := true, rfUnit := 0, rfCount := 0, rfLast := some s.ovl.activeNs } }
  else s

/-- A pass ends. -/
def flashPassEnd (s : State) : State :=
  let s := { s with fls := { s.fls with rfOn := false, rfUnit := 0 } }
  let s := (s.incSat Reg.FLS_REFRESH 0 16).wf Reg.FLS_REFRESH 16 16 s.fls.rfCount
  irq FLS_PAGE 5 s

/-- The refresher's read of the `n` bytes from `a`: every word it finds uncorrectable is reported (R289). -/
def refreshReads (a n : Nat) (e : Ecc) (s : State) : State :=
  let stored := s.ram.bad.filter fun w => decide (a ≤ 8 * w) && decide (8 * w < a + n)
  let new := if e == .double then (pickFree (a / 8) (n / 8) stored (s.freeBelow (n / 8))).toList else []
  (stored ++ new).foldl (fun s w => flashUe (8 * w) s) (new.foldl (fun s w => markBad w s) s.bump)

/-- The pass moves on to its next unit. -/
def passNext (s : State) : State :=
  let u := s.fls.rfUnit
  let s := { s with fls := { s.fls with rfUnit := u + 1 } }
  if u + 1 = 1028 then flashPassEnd s else s

/-- The copy of unit `u` in block `p` has been verified (R288): the remap table is switched to it, the old block is erased and becomes a spare. A cycle
counts against each. -/
def refreshSwitch (u p : Nat) (s : State) : State :=
  let old := blockOf s u
  let s := wearBlock old (wearBlock p (setBlock u p s))
  passNext { s with fls := { s.fls with rfCopy := none, weak := s.fls.weak.filter (· != u), rfCount := s.fls.rfCount + 1 } }

/-- The pass visits its next unit, sectors 0 to 1,023 and then the four option units: a word it finds uncorrectable is reported, and where a margin read
differs or a read needed correction the unit is copied into a free spare. DESIGN CHOICE (log 115): the copy is in progress until the next step, which
switches to it. -/
def flashRefreshStep (differs : Bool) (e : Ecc) (s : State) : State :=
  let u := s.fls.rfUnit
  let b := unitBank u
  let on : Bool := match opMode s with | .run | .service | .doze | .swap | .safe => true | _ => false
  let busy := if u < 1024 then (fbank s b).st != 0 || s.rb Reg.FLS_REFRESH_HOLD b else s.fls.opt.isSome
  if !s.fls.rfOn || !on || s.fls.paused.isSome || busy then s
  else match s.fls.rfCopy with
  | some (v, p) => refreshSwitch v p s
  | none =>
    let a := if u < 1024 then u * 0x10000 else 0x04000000 + (u - 1024) * 0x1000
    let n := if u < 1024 then 0x10000 else 0x1000
    let fix := differs || s.fls.weak.contains u || (match e with | .single _ => true | _ => false)
    let s := refreshReads a n e s
    match (if fix then pickSpare s b else none) with
    | some p => { s with fls := { s.fls with rfCopy := some (u, p) } }.bump
    | none => passNext s

/-- The hold bits set 24 hours ago clear (R290). -/
def holdExpiry (s : State) : State :=
  let day := 86400000000000
  (List.range 8).foldl (fun s b =>
    if s.rb Reg.FLS_REFRESH_HOLD b && decide (sget (fun _ => 0) s.fls.holdAt b + day ≤ s.now) then s.wb Reg.FLS_REFRESH_HOLD b false
    else s) s

/-- A write of FLS_REFRESH_HOLD: the time each bit was set. -/
def holdWrite (v : Word) (s : State) : State :=
  let at_ := (List.range 8).foldl (fun m b =>
    if bit v b && !s.rb Reg.FLS_REFRESH_HOLD b then sset (fun _ => 0) m b s.now else m) s.fls.holdAt
  { s with fls := { s.fls with holdAt := at_ } }.wrg Reg.FLS_REFRESH_HOLD (w32 (v.toNat % 256))

/-! ### Starts and mode changes (R282, R285, R286, R291) -/

/-- The journal is read at a start and at a wake, after which the banks can work (R284, R286, R287, R291): the open ERASE entries, fault 0x2404 where there is one, and the boot slot. -/
def replayScan (s₀ : State) : State :=
  let s := jMerge s₀
  let s := { s with fls := { s.fls with boot := slotFound s, paused := none } }
  let l := ((List.range 1024).filter fun sec => match jNewest s 1 sec (fun _ => true) with | some e => e.isOpen | none => false)
  let s := { s with fls := { s.fls with replay := l } }
  if l.isEmpty then s else raise 0x2404 s

/-- Whether a configuration record passes its checks (R282). -/
def optOk (l : List Byte) : Bool :=
  let slot := fun (o : Nat) => (blockNum l o 2, blockNum l (o + 2) 2)
  let (f0, n0) := slot 0x18
  let (f1, n1) := slot 0x1C
  blockNum l 0 4 == 0x4F505431 && blockNum l 0xFFC 4 == crc32c (l.take 0xFFC)
    && n0 != 0 && n1 != 0 && decide (f0 + n0 ≤ 1024) && decide (f1 + n1 ≤ 1024) && (decide (f0 + n0 ≤ f1) || decide (f1 + n1 ≤ f0))

/-- The defaults of R282. -/
def optDefault : List Byte :=
  natLe 0x4F505431 4 ++ natLe 0 4 ++ natLe 0x33 12 ++ natLe 0 4 ++ natLe (128 * 65536) 4 ++ natLe (128 * 65536 + 128) 4 ++ natLe 0 120

/-- In HOLD the controller latches the valid copy with the higher GENERATION, or the defaults with fault 0x2406. -/
def latchOptions (s : State) : State :=
  let c0 := readBytes s 0x04000000 0x1000
  let c1 := readBytes s 0x04001000 0x1000
  let pick := if optOk c0 && (!optOk c1 || decide (blockNum c1 4 4 ≤ blockNum c0 4 4)) then some (0, c0)
    else if optOk c1 then some (1, c1) else none
  match pick with
  | some (n, c) => { s with optRec := c.take 0x98, fls := { s.fls with optCopy := some n } }
  | none => raise 0x2406 { s with optRec := optDefault, fls := { s.fls with optCopy := none } }

/-- What an erase that is cut off leaves in its sector or unit: bytes that nothing fixes. -/
def scrambleAll (a n : Nat) (s : State) : State :=
  let l := (List.range n).map fun i => BitVec.ofNat 8 ((Config.freeValue (s.fresh + i)).toNat)
  { writeBytes a l s with fresh := s.fresh + n }

/-- An operation that is cut off: a program leaves its page open, an erase its sector, which is replayed (R286). -/
def cutOp (base : Nat) (o : FlsOp) (s : State) : State :=
  if o.code = 2 then scrambleAll (base + o.addr + 0x10000 * o.pos) 0x10000 s
  else if o.code = 6 then scrambleAll (base + o.addr) 0x1000 s
  else scramble (base + o.addr + 256 * o.pos) ((o.data.drop (256 * o.pos)).take 256) s

/-- The operations of a bank are cut off: the one it carries out, and a program inside an erase. -/
def cutBank (s : State) (b : Nat) : State :=
  let k := fbank s b
  (k.op.toList ++ k.inner.toList).foldl (fun s o => cutOp 0 o s) s

/-- Every operation in the banks and in the option area is cut off. -/
def cutAll (s : State) : State :=
  let s := (List.range 8).foldl cutBank s
  match s.fls.opt with
  | some o => cutOp 0x04000000 o s
  | none => s

/-- A pass through HOLD: operations cut off, the queue lost, protection set (R280, R291). -/
def flashHold (s : State) : State :=
  let s := cutAll s
  { s with fls := { s.fls with banks := [], descs := [], opt := none, rfOn := false, rfUnit := 0, rfLast := none, rfCopy := none, holdAt := [],
                               prefetch := [], branch := [], lastLine := [], paused := none, stopReset := false, base := 0, bootDue := none } }

/-- A start reads the option area and the journal (R115 step 2, R282, R286). -/
def flashStart (s : State) : State := replayScan (latchOptions s)

/-- NAP entry: every bank suspended, the queue paused, refresh stops; at wake they resume, but for the banks that were suspended before (R291). -/
def flashNap (s : State) : State :=
  let l := (List.range 8).filter fun b => (fbank s b).st % 2 == 1
  let s := suspendAll s
  { s with fls := { s.fls with paused := some l } }
def flashNapWake (s : State) : State :=
  let s := (s.fls.paused.getD []).foldl (fun s b => resumeBank b s) s
  { s with fls := { s.fls with paused := none } }

/-- HIBERNATE entry: operations suspended, running and fetched descriptors written ABORTED, refresh stops; nothing starts until the wake, or until the
entry is abandoned (R460). -/
def flashHibernate (s : State) : State :=
  let s := cutAll (suspendAll s)
  let s := s.fls.descs.foldl (fun s d => descDone d 0x1A 0 true s) s
  { s with fls := { s.fls with banks := [], descs := [], opt := none, rfOn := false, rfCopy := none, prefetch := [], branch := [], lastLine := [],
                               paused := some [], stopReset := false, base := 0, bootDue := none } }

/-- FLS_BANK_STATE, FLS_STATUS.SUSPENDED and FLS_STATUS.BUSY. -/
def bankStateWord (s : State) : Nat := (List.range 8).foldl (fun a b => a + (fbank s b).st * 2 ^ (4 * b)) 0
def suspendedMask (s : State) : Nat :=
  (List.range 8).foldl (fun a b => let t := (fbank s b).st; if t = 2 ∨ t = 4 ∨ t = 5 ∨ t = 6 then a + 2 ^ b else a) 0
def busyMask (s : State) : Nat :=
  (List.range 8).foldl (fun a b => if (fbank s b).st % 2 = 1 then a + 2 ^ b else a) 0

end Sys2Proof.Machine
end

