-- ==== Sys2Proof/Machine/Queues.lean ====
section
/-!
DEFINITION. The queue engine (R295 to R318): the two sides' views, pushes with the packet rules, pops in arrival and in
priority order, the threshold event, the port commands with their handshakes, resets, and the record of contests.
-/

namespace Sys2Proof.Machine

def queOf (s : State) (q : Nat) : Que := sget (fun _ => Que.reset) s.ques q
def setQue (q : Nat) (x : Que) (s : State) : State := { s with ques := sset (fun _ => Que.reset) s.ques q x }

/-- The page of a queue (R318). -/
def quePage (q : Nat) : Nat := 0x28 + q / 16

def queCfg (s : State) (q i : Nat) : Bool := s.rb (Reg.QUE_CFG q) i
/-- The depth D of a queue (R296). -/
def depth (s : State) (q : Nat) : Nat := if queCfg s q 30 && q % 2 == 0 then 16384 else 8192
/-- An odd queue joined to its even partner (R295). -/
def joined (s : State) (q : Nat) : Bool := q % 2 == 1 && queCfg s (q - 1) 30
/-- The producer's and the consumer's class (R297). -/
def pside (s : State) (q : Nat) : Nat := s.rf (Reg.QUE_CFG q) 20 2
def cside (s : State) (q : Nat) : Nat := s.rf (Reg.QUE_CFG q) 22 2
def sorted (s : State) (q : Nat) : Bool := queCfg s q 29

/-- The class of an initiator, and its requester index or function (R297). -/
def queClass : Initiator → Option (Nat × Nat)
  | .core c => some (0, c.val)
  | .win p => some (0, 16 + p.val)
  | .pcie f => some (1, f.val)
  | .qspi q => some (2 + q.val, q.val)
  | _ => none

/-- Words between two pointers, modulo twice D (R296). -/
def between (d hi lo : Nat) : Nat := (hi + 2 * d - lo) % (2 * d)

/-- The producer's count (R300). -/
def prodCount (s : State) (q : Nat) : Nat := let x := queOf s q; between (depth s q) x.wptr x.rSeen
/-- The consumer's count: 0 while a flush is pending (R300, R309). -/
def consCount (s : State) (q : Nat) : Nat :=
  let x := queOf s q
  if x.flush.isSome then 0 else between (depth s q) x.wSeen x.rptr
/-- A forced reset is in progress (R313). -/
def queResetting (s : State) (q : Nat) : Bool := match (queOf s q).shake with | some h => h.op == .reset | none => false
def queFull (s : State) (q : Nat) : Bool := prodCount s q == depth s q
def queEmpty (s : State) (q : Nat) : Bool := consCount s q == 0

/-- The four side clocks run (R297, R315). -/
def queClocked (s : State) : Bool := match opMode s with | .run | .service | .doze | .swap | .safe => true | _ => false

/-- QUE_ERR takes a cause, with its interrupt source, or counts it in LOST (R302, R312 to R314, R318). -/
def queErr (q cause : Nat) (s : State) : State :=
  let r := Reg.QUE_ERR q
  if s.rb r 31 then s.incSat r 8 4 else irq (quePage q) (16 + q % 16) ((s.wf r 0 3 cause).wb r 31 true)

/-! ### Views of the other side (R299, R300, R308) -/

/-- A synchronous queue: one clock on both sides (R297). -/
def oneClock (s : State) (q : Nat) : Bool := pside s q == cside s q
/-- S: the flip-flops of a crossing (R299). -/
def stages (s : State) (q : Nat) : Nat := if queCfg s q 27 then 3 else 2
/-- The period of a class's clock in ns (R297). -/
def sidePeriod : Nat → Nat | 0 => 2 | 1 => 4 | _ => 5
/-- The longest period of a class's clock as the clocks stand: that of RC100 until PLL0 to PLL2 have locked to another source (R391). -/
def longPeriod (s : State) (cls : Nat) : Nat :=
  let fast := fun n => let p := sget (fun _ => Pll.reset) s.clk.plls n; p.st == 3 && p.act.ref != 1
  if (List.range 3).all fast then sidePeriod cls else 10
/-- What left the other domain at `t` may have been seen: the (S − 1) whole periods before the S-th edge have passed. A command stands anywhere between its
TIM_NOW and the next tick, at most 11 ns on. -/
def maySee (s : State) (q cls t : Nat) : Bool := decide (t + (stages s q - 1) * sidePeriod cls < s.now + 11)
/-- What left the other domain at `t` has been seen: its (S + 1)-th edge has passed. -/
def mustSee (s : State) (q cls t : Nat) : Bool := decide (t + (stages s q + 1) * longPeriod s cls + 11 ≤ s.now)
/-- How many of the moves of the other side, made at `times`, the side of class `cls` sees, all but the last `lag` within what R299 allows. In a synchronous
queue a move is seen at the next edge: all are but one of this cycle. -/
def seenOf (s : State) (q cls : Nat) (times : List Nat) (lag : Nat) : Nat :=
  let n := times.length
  let must := if oneClock s q then n - b2n (decide (s.now ≤ times.getLastD 0)) else (times.takeWhile (mustSee s q cls)).length
  let may := if oneClock s q then n else (times.takeWhile (maySee s q cls)).length
  max must (min may (n - lag))
/-- The time of the next move of a side: one side-clock cycle after its last (R303). -/
def moveAt (s : State) (cls : Nat) (times : List Nat) : Nat :=
  match times.getLast? with
  | some t => max s.now (t + sidePeriod cls)
  | none => s.now

/-- The threshold event: the consumer's count has risen to QUE_THRESH; it arms again below it. -/
def threshCheck (q : Nat) (s : State) : State :=
  let t := min (s.rf (Reg.QUE_THRESH q) 0 15) (depth s q)
  let n := consCount s q
  let x := queOf s q
  if t = 0 then s
  else if n < t then setQue q { x with armed := true } s
  else if x.armed then event (0x1000 + q) (irq (quePage q) (q % 16) (setQue q { x with armed := false } s))
  else s

/-- The consumer sees the write pointer, all but the last `lag` words of what it has not seen yet, within R299. -/
def seeWrites (q lag : Nat) (s : State) : State :=
  let x := queOf s q
  let n := seenOf s q (cside s q) x.wTimes lag
  threshCheck q (setQue q { x with wSeen := (x.wSeen + n) % (2 * depth s q), wTimes := x.wTimes.drop n } s)

/-! ### Handshakes, flushes and resets (R309 to R313) -/

/-- RESULT of the side a command came from (R304). -/
def queResult (side v : Nat) (x : Que) : Que :=
  if side = 1 then { x with resP := v } else if side = 0 then { x with resC := v } else x

/-- The flush point of a pending flush whose request is in the producer domain (R309, R310): the write pointer, for FLUSH where no packet is open; the
handshake that carries it starts. FLUSH_FORCE closes the open packet. -/
def fixFlush (q : Nat) (s : State) : State :=
  let x := queOf s q
  match x.flush with
  | some f =>
    if f.reached ∧ x.shake.isNone ∧ (f.force ∨ x.owner.isNone) then
      setQue q { x with owner := none, shake := some ⟨if f.force then .force else .flush, f.side, f.who, x.wptr, s.now⟩ } s
    else s
  | none => s

/-- The request of REWIND in the producer domain, where the mark decides it (R312): the producer's read pointer becomes the mark; pops that it has not seen
are undone. -/
def landRewind (x : Que) : Que :=
  match x.shake, x.mark with
  | some ⟨.rewind, side, who, _, t0⟩, some m => { x with shake := some ⟨.rewound, side, who, m, t0⟩, rSeen := m, rTimes := [] }
  | some ⟨.rewind, side, who, p, t0⟩, none => { x with shake := some ⟨.markLost, side, who, p, t0⟩ }
  | _, _ => x

/-- What is on its way from the consumer's side reaches the producer domain: the request of a flush or of REWIND. -/
def arrive (q : Nat) (s : State) : State :=
  let x := landRewind (queOf s q)
  let reach := fun (f : FlushReq) => { f with reached := true }
  fixFlush q (setQue q { x with flush := x.flush.map reach } s)

/-- When the request of a flush, or of REWIND, that has not reached the producer domain yet left the consumer's side. -/
def underWay (x : Que) : Option Nat :=
  match x.flush, x.shake with
  | some f, _ => if f.reached then none else some f.t0
  | none, some ⟨.rewind, _, _, _, t0⟩ => some t0
  | none, _ => none

/-- The producer sees the read pointer, all but the last `lag` words of what it has not seen yet, within R299; where it sees all, a request that may have
arrived has. -/
def seeReads (q lag : Nat) (s : State) : State :=
  let x := queOf s q
  let n := seenOf s q (pside s q) x.rTimes lag
  let s := setQue q { x with rSeen := (x.rSeen + n) % (2 * depth s q), rTimes := x.rTimes.drop n } s
  if lag = 0 ∧ (underWay x).any (maySee s q (pside s q)) then arrive q s else s

/-- A handshake ends: the command is applied in both domains and its store completes (R311, R312). A flush moves the read pointer of both to its flush
point, which the consumer's view of the write pointer has then reached. -/
def shakeDone (q : Nat) (s : State) : State :=
  let x := landRewind (queOf s q)
  match x.shake with
  | none => s
  | some h =>
    let x := { x with shake := none }
    match h.op with
    | .mark => setQue q (queResult h.side 1 { x with mark := some h.ptr, markLost := false }) s
    | .rewind | .rewound => threshCheck q (setQue q (queResult h.side 1 { x with rptr := h.ptr, rSeen := h.ptr, rTimes := [], taken := none }) s)
    | .markLost => queErr q 5 (setQue q (queResult h.side 2 x) s)
    | .flush | .force =>
      let d := depth s q
      let seen := if between d x.wptr h.ptr < between d x.wptr x.wSeen then h.ptr else x.wSeen
      let left := x.wTimes.drop (x.wTimes.length - between d x.wptr seen)
      let x := { x with rptr := h.ptr, rSeen := h.ptr, wSeen := seen, wTimes := left, rTimes := [], flush := none, mark := none, markLost := false,
                        taken := none }
      threshCheck q (setQue q (queResult h.side 1 (if h.op = .force then { x with errWord := none } else x)) s)
    | .reset => setQue q x s

/-- In a synchronous queue a handshake takes one cycle (R311): it ends with the beat that starts it. -/
def shakeNow (q : Nat) (s : State) : State := if oneClock s q then shakeDone q s else s

/-- FLUSH_POINT: the request of a pending flush that may have arrived is in the producer domain, and its flush point is fixed where no packet stands
open (R309). -/
def flushPoint (q : Nat) (s : State) : State :=
  match (queOf s q).flush with
  | some f => if f.reached || maySee s q (pside s q) f.t0 then arrive q s else s
  | none => s

/-- Everything of a queue discarded: both pointers 0. -/
def queClear (q : Nat) (s : State) : State := setQue q { Que.reset with resP := (queOf s q).resP, resC := (queOf s q).resC } s

/-- A request from the register page, from the producer's side, or in a synchronous queue needs no crossing into the producer domain. -/
def noCrossing (s : State) (q side : Nat) : Bool := side != 0 || oneClock s q

/-- A flush is requested (R309, R310); a mark is invalid from then on. -/
def startFlush (q side : Nat) (who : Option Nat) (force : Bool) (s : State) : State :=
  let x := queOf s q
  let x := { x with flush := some ⟨side, who, force, noCrossing s q side, s.now⟩, shake := none, mark := none, markLost := false }
  shakeNow q (threshCheck q (fixFlush q (setQue q x s)))

/-- A port command (R303, R309 to R312): `side` 1 producer, 0 consumer, 2 the register page. While a handshake runs a second one of the consumer's side is
BUSY, one of another side waits for its end; FLUSH_FORCE overtakes a pending FLUSH. -/
def portCmd (q side : Nat) (who : Option Nat) (op : Nat) (s : State) : State :=
  let x := queOf s q
  let done := fun (v : Nat) => setQue q (queResult side v x) s
  let busy := x.flush.isSome || (side == 0 && x.shake.isSome)
  if op = 0 ∨ 5 < op then done 6
  else if op = 5 ∧ (x.flush.isSome ∨ !busy) then startFlush q side who true (if x.flush.isSome then s else shakeDone q s)
  else if sorted s q ∧ op ≤ 2 then done 4
  else if busy then done 5
  else if op = 1 then shakeNow q (setQue q { x with shake := some ⟨.mark, side, who, x.rptr, s.now⟩ } s)
  else if op = 2 then
    if x.mark.isNone ∧ !x.markLost then done 3
    else
      let s := setQue q { x with shake := some ⟨.rewind, side, who, x.rptr, s.now⟩ } s
      shakeNow q (if noCrossing s q side then arrive q s else s)
  else if op = 3 then setQue q (queResult side 1 { x with mark := none, markLost := false }) s
  else startFlush q side who false (shakeDone q s)

/-- A quad-SPI stream sends nothing before its port command ends (R311), as do the cores and window ports that `portHeld` holds; a PCIe function's write is
posted. -/
def ownShake (q side : Nat) (r : Nat) (s : State) : State :=
  match (queOf s q).shake with
  | some h => if h.side = side ∧ h.who = some r then shakeDone q s else s
  | none => s

/-- A handshake has ended: (S + 1) cycles of either clock have passed, or the one of a synchronous queue (R311). -/
def shakeOver (s : State) (q t0 : Nat) : Bool :=
  if oneClock s q then decide (t0 < s.now)
  else decide (t0 + (stages s q + 1) * (longPeriod s (pside s q) + longPeriod s (cside s q)) + 11 ≤ s.now)

/-- What time has brought to an end at a queue: the pushes and pops that the other side must have seen, the request that must have arrived, the handshake
(R299, R309, R311). -/
def queDue (s : State) (q : Nat) : State :=
  let x := queOf s q
  let s := seeWrites q x.wTimes.length (seeReads q (x.rTimes.length + 1) s)
  let s := if (underWay x).any (mustSee s q (pside s q)) then arrive q s else s
  match (queOf s q).shake with
  | some h => if shakeOver s q h.t0 then shakeDone q s else s
  | none => s

/-- The clocks of both sides have stood in NAP (R315): what was under way starts anew. -/
def queWake (s : State) : State :=
  let anew := fun (x : Que) => { x with wTimes := x.wTimes.map fun _ => s.now, rTimes := x.rTimes.map fun _ => s.now,
                                        flush := x.flush.map fun f => { f with t0 := s.now }, shake := x.shake.map fun h => { h with t0 := s.now } }
  { s with ques := s.ques.map fun e => (e.1, anew e.2) }

/-- The queues at a tick. -/
def quesDue (s : State) : State := if queClocked s then (s.ques.map (·.1)).foldl queDue s else s

/-! ### Push (R301, R302, R305, R306) -/

/-- The TAG of a word. -/
def tagOf (w : DWord) : Nat := nfld w.toNat 60 4

/-- A push refused under R301 or R306. -/
def refuseTag (q : Nat) (s : State) : State := queErr q 2 (s.incSat (Reg.QUE_REFUSED q) 16 16)

/-- The packet rules of R306: whether a word with this tag may be pushed by requester `r`. -/
def packetOk (x : Que) (r tag : Nat) : Bool :=
  match x.owner with
  | none => tag == 1 || tag == 2
  | some o => o == r && (tag == 3 || tag == 4)

/-- One beat to QUE_PUSH by requester `r`: the state, and whether it completes without error. DESIGN CHOICE (log 85): a push that the tag or the packet
rules refuse is not judged against FULL. -/
def pushWord (q r : Nat) (w : DWord) (s : State) : State × Bool :=
  let x := queOf s q
  let d := depth s q
  let tag := tagOf w
  if tag < 1 ∨ 4 < tag ∨ nfld w.toNat 48 4 ≠ 0 then (refuseTag q s, false)
  else if !packetOk x r tag then (refuseTag q s, false)
  else if queFull s q || queResetting s q then (queErr q 1 (s.incSat (Reg.QUE_REFUSED q) 0 16), queCfg s q 28)
  else
    let lostMark := match x.mark with | some m => between d x.wptr m == d | none => false
    let owner := if tag = 2 then some r else if tag = 4 then none else x.owner
    let a := x.wptr % d
    let x := { x with ram := sset (fun _ => 0) x.ram a w, bad := x.bad.filter (· != a), wptr := (x.wptr + 1) % (2 * d), owner := owner,
                      mark := if lostMark then none else x.mark, markLost := x.markLost || lostMark, wTimes := x.wTimes ++ [moveAt s (pside s q) x.wTimes] }
    let s := fixFlush q ((setQue q x s).incSat (Reg.QUE_PUSHES q) 0 32)
    (if x.flush.isSome then shakeNow q s else seeWrites q x.wTimes.length s, true)

/-! ### Pop and peek (R303, R307, R313, R314) -/

/-- The words a consumer sees, in push order. -/
def seenWords (s : State) (q : Nat) : List DWord :=
  let x := queOf s q
  let d := depth s q
  (List.range (consCount s q)).map fun i => sget (fun _ => 0) x.ram ((x.rptr + i) % d)

/-- The place of the packet a sorted pop delivers: the most urgent complete one, the first among equals (R307). Scans the
words from place `i`; `start` is the FIRST word of the packet in course. -/
def bestPacket : Nat → Option (Nat × Nat) → Option (Nat × Nat) → List DWord → Option Nat
  | _, _, best, [] => best.map (·.1)
  | i, start, best, w :: l =>
    let tag := tagOf w
    let pr := nfld w.toNat 52 8
    let better := fun (b : Option (Nat × Nat)) (c : Nat × Nat) =>
      match b with
      | some x => if c.2 < x.2 then some c else b
      | none => some c
    if tag = 1 then bestPacket (i + 1) none (better best (i, pr)) l
    else if tag = 2 then bestPacket (i + 1) (some (i, pr)) best l
    else if tag = 4 then bestPacket (i + 1) none (match start with | some c => better best c | none => best) l
    else bestPacket (i + 1) start best l

/-- The place, from the read pointer, of the word the next pop takes; none: it returns 0. -/
def nextPlace (s : State) (q : Nat) : Option Nat :=
  if queEmpty s q then none
  else if sorted s q then
    match (queOf s q).taken with
    | some i => some i
    | none => bestPacket 0 none none (seenWords s q)
  else some 0

/-- The word at a place taken out, those before it moving up, with the mark of an uncorrectable one. A packet begun is delivered to its end (R307). -/
def takeAt (q i : Nat) (s : State) : State :=
  let x := queOf s q
  let d := depth s q
  let a := fun (j : Nat) => (x.rptr + j) % d
  let ram := (List.range i).foldl (fun m k => let j := i - k; sset (fun _ => 0) m (a j) (sget (fun _ => 0) x.ram (a (j - 1)))) x.ram
  let up := x.bad.filter fun b => !((List.range (i + 1)).map a).contains b
  let bad := up ++ ((List.range i).filter fun j => x.bad.contains (a j)).map fun j => a (j + 1)
  let w := sget (fun _ => 0) x.ram (a i)
  let taken := if tagOf w = 2 ∨ tagOf w = 3 then some i else none
  let times := x.rTimes ++ [moveAt s (cside s q) x.rTimes]
  let x := { x with ram := ram, bad := if i = 0 then x.bad else bad, rptr := (x.rptr + 1) % (2 * d), taken := taken, rTimes := times }
  seeReads q times.length (threshCheck q (setQue q x s))

/-- An uncorrectable word is popped (R314). -/
def popUe (q : Nat) (s : State) : State :=
  let s := queErr q 4 (s.incSat (Reg.QUE_RESETS q) 16 16)
  raise (quePage q * 0x100 + 0x30 + q % 16) s

/-- The word at address `a` of the RAM reads uncorrectable from now on. -/
def spoilWord (q a : Nat) (s : State) : State :=
  let x := queOf s q
  if x.bad.contains a then s else setQue q { x with bad := x.bad ++ [a] } s

/-- What the consumer side may take now: nothing while a flush is pending (R309); else it waits for a handshake in progress, which ends first (R311). -/
def consReady (q : Nat) (s : State) : State := if (queOf s q).flush.isSome then s else shakeDone q s

/-- One beat from QUE_POP with the check bits `e` of its word. -/
def popWord (q : Nat) (e : Ecc) (s : State) : State × Rsp × DWord :=
  let s := consReady q s
  let x := queOf s q
  if x.flush.isSome then (s, .okay, 0)
  else match x.errWord with
  | some w => ((setQue q { x with errWord := none } s).incSat (Reg.QUE_POPS q) 0 32, .okay, w)
  | none =>
    match nextPlace s q with
    | none => (s, .okay, 0)
    | some i =>
      let a := (x.rptr + i) % depth s q
      let w := sget (fun _ => 0) x.ram a
      let isBad := e == .double || x.bad.contains a
      let s := takeAt q i (if isBad then spoilWord q a s else s)
      if isBad then (popUe q s, .ecc, 0) else (s.incSat (Reg.QUE_POPS q) 0 32, .okay, w)

/-- QUE_PEEK. An uncorrectable word is returned as it stands (R314): a free value. -/
def peekWord (q : Nat) (e : Ecc) (s : State) : State × DWord :=
  let s := consReady q s
  let x := queOf s q
  if x.flush.isSome then (s, 0)
  else match x.errWord with
  | some w => (s, w)
  | none => match nextPlace s q with
    | none => (s, 0)
    | some i =>
      let a := (x.rptr + i) % depth s q
      if e == .double || x.bad.contains a then ((spoilWord q a s).bump, w64 (s.freeBelow (2 ^ 64))) else (s, sget (fun _ => 0) x.ram a)

/-! ### The port (R298, R303 to R305) -/

/-- BUSY: a handshake is in progress, from the request of a flush on (R304, R309, R311). -/
def queBusy (s : State) (q : Nat) : Bool := (queOf s q).shake.isSome || (queOf s q).flush.isSome

/-- QUE_PORT_STATUS of a side: 1 producer, 0 consumer (R304). -/
def portStatus (s : State) (q side : Nat) : Nat :=
  let x := queOf s q
  let n := if side = 1 then prodCount s q else consCount s q
  n * 2 ^ 16 + (if side = 1 then b2n (queFull s q) * 2 ^ 11 else 0) + (if side = 0 then b2n (queEmpty s q) * 2 ^ 10 else 0)
    + b2n x.mark.isSome * 2 ^ 9 + b2n (queBusy s q) * 2 ^ 8 + (if side = 1 then x.resP else x.resC)

/-- Whether a queue is enabled (R298). -/
def queOn (s : State) (q : Nat) : Bool := queCfg s q 31 && isEnabled s (quePage q)

/-- The side an initiator acts on: the consumer where its class is both (R304). -/
def sideOf (s : State) (q : Nat) (i : Initiator) : Option Nat :=
  match queClass i with
  | some (c, _) => if c = cside s q then some 0 else if c = pside s q then some 1 else none
  | none => none

/-- Whether the class of an initiator is the producer's, or the consumer's. -/
def isProd (s : State) (q : Nat) (i : Initiator) : Bool := match queClass i with | some (c, _) => c == pside s q | none => false
def isCons (s : State) (q : Nat) (i : Initiator) : Bool := match queClass i with | some (c, _) => c == cside s q | none => false

/-- The panel that carries the access owns the queue's page (R298). -/
def quePanelOk (s : State) (q panel : Nat) : Bool :=
  match ownerOf s (quePage q) with
  | some p => p == panel
  | none => false

/-- The place of a requester in the rotated order of a QUE page (R305). -/
def queKey (s : State) (q : Nat) (i : Initiator) : Nat :=
  (((queClass i).map (·.2)).getD 0 + 24 - s.rf (Reg.QUE_ARB (q / 16)) 16 5) % 24

/-- The record of a contest at a queue (R305): the requesters of the SYS class that reach it in one cycle, in the order in which they are served. -/
def noteQueArb (q : Nat) (dir : Bool) (reqs : List Initiator) (s : State) : State :=
  let n := fun (i : Initiator) => ((queClass i).map (·.2)).getD 0
  match reqs with
  | w :: l :: ls =>
    let p := q / 16
    let base := s.rf (Reg.QUE_ARB p) 16 5
    let s := s.wrg (Reg.QUE_ARB p) (w32 (q % 16 * 2 ^ 24 + b2n dir * 2 ^ 23 + (base + 1) % 24 * 2 ^ 16 + n w))
    let s := s.wrg (Reg.QUE_ARB_LOSERS p) (w32 (((l :: ls).map n).foldl nset 0))
    s.incSat (Reg.QUE_ARB_CNT p) 0 32
  | _ => s

/-- Whether an initiator's beat passes the rules of R298 on the pairing, the panel and the class. -/
def queLets (s : State) (q panel : Nat) (i : Initiator) : Bool := !joined s q && quePanelOk s q panel && (isProd s q i || isCons s q i)

/-- A beat that pushes or pops (R303). -/
def queMoves (s : State) (i : Initiator) (panel q off : Nat) (rw : Rw) : Bool :=
  queLets s q panel i && queOn s q
    && match rw with | .write => decide (off < 0x800) && isProd s q i | .read => decide (0x800 ≤ off) && decide (off < 0xF00) && isCons s q i

/-- One beat to the data port of a queue (R298, R303). `off` is the offset in the port, `lag` how many words of the other side's
pointer the side does not see yet. A push, a pop and a port command take Fitting's slice away (R316). -/
def queBeat (i : Initiator) (panel q off : Nat) (rw : Rw) (w : DWord) (lag : Nat) (e : Ecc) (s : State) : State × Rsp × DWord :=
  let me := (queClass i).map (·.2)
  let side := if isCons s q i then 0 else 1
  let wait := fun (s : State) => match i with | .qspi _ => ownShake q side (me.getD 0) s | _ => s
  let pops : Bool := rw == .read && decide (0x800 ≤ off) && decide (off ≤ 0xF00) && isCons s q i
  if !queLets s q panel i then (s, .access, 0)
  else if !queOn s q then (s, if pops then .okay else .access, 0)
  else match rw with
  | .write =>
    if off < 0x800 then
      if !isProd s q i then (s, .access, 0)
      else
        let x := pushWord q (me.getD 0) w (seeReads q lag (wait (fitQueue q s)))
        (x.1, if x.2 then .okay else .access, 0)
    else if off = 0xF10 then
      let op := if w.toNat < 16 then w.toNat else 0
      if (op == 1 || op == 2 || op == 3) && !isCons s q i then (s, .access, 0)
      else
        let s := wait (fitQueue q s)
        (portCmd q side me op (if side = 0 then seeWrites q lag s else seeReads q lag s), .okay, 0)
    else (s, .okay, 0)
  | .read =>
    if off < 0x800 ∨ 0xF18 < off then (s, .okay, 0)
    else if off < 0xF00 then if isCons s q i then popWord q e (seeWrites q lag (wait (fitQueue q s))) else (s, .access, 0)
    else if off = 0xF00 then
      if isCons s q i then
        let x := peekWord q e (seeWrites q lag (wait s))
        (x.1, .okay, x.2)
      else (s, .access, 0)
    else if off = 0xF18 then
      let s := wait s
      let s := if side = 0 then seeWrites q lag s else seeReads q lag s
      (s, .okay, w64 (portStatus s q side))
    else (s, .okay, 0)

/-! ### Registers, resets and mode changes (R313, R315, R318) -/

/-- Pointer copies disagree: the queue is reset by force (R313), with a handshake in which pushes are refused. -/
def forcedReset (q : Nat) (isRead : Bool) (s : State) : State :=
  let s := s.incSat (Reg.QUE_RESETS q) 0 16
  let n := s.rf (Reg.QUE_RESETS q) 0 16
  let s := queClear q s
  let s := setQue q { queOf s q with errWord := some (w64 (0xE * 2 ^ 60 + b2n isRead * 2 ^ 16 + n)), shake := some ⟨.reset, 2, none, 0, s.now⟩ } s
  raise (quePage q * 0x100 + 0x10 + q % 16) (irq (quePage q) (16 + q % 16) (queErr q 3 s))

/-- QUE_CMD. -/
def queCmd (q : Nat) (w : Word) (s : State) : State :=
  let op := fld w 0 3
  if op = 1 then queClear q s
  else if op = 2 then portCmd q 2 none 4 s
  else if op = 3 then portCmd q 2 none 5 s
  else if op = 4 then setQue q { queOf s q with mark := none, markLost := false } s
  else s

/-- A write of QUE_CFG; false: refused (R295, R307, R318). DEDUCED (log 29): the EN of "a write with EN = 1" is the one in force. DESIGN CHOICE (log 86): what a
change of PAIR leaves of the content, whose pointers change their width, is nothing. -/
def queCfgWrite (q : Nat) (v : Word) (s : State) : State × Bool :=
  let old := s.rg (Reg.QUE_CFG q)
  let mask := if q % 2 = 0 then 0xF8F00000 else 0xB8F00000
  let v := w32 (v.toNat &&& mask)
  let en := bit old 31
  let other := v.toNat % 2 ^ 31 != old.toNat % 2 ^ 31
  let sides := fld v 20 2 != fld v 22 2
  let joins := bit v 30 != bit old 30
  let partner := bit v 30 && joins && s.rb (Reg.QUE_CFG (q + 1)) 31
  if (en && other) || (bit v 29 && sides) || partner || (bit v 31 && s.fit.barred.contains q) then (s, false)
  else
    let s := s.wrg (Reg.QUE_CFG q) v
    (if joins then queClear q (queClear (q + 1) s) else s, true)

/-- A write of QUE_THRESH raises no event: it is armed only while the count is below it (R308). -/
def threshWrite (q : Nat) (v : Word) (s : State) : State :=
  let s := s.wrg (Reg.QUE_THRESH q) (w32 (v.toNat % 2 ^ 15))
  let t := min (s.rf (Reg.QUE_THRESH q) 0 15) (depth s q)
  setQue q { queOf s q with armed := decide (consCount s q < t) } s

/-- Every queue of a page reset, with its registers (R318). -/
def quePageReset (p : Nat) (s : State) : State :=
  { s with ques := sdrop (fun q => q / 16 == p) s.ques }

/-- QUE_OCC, QUE_STATE, QUE_PTRS and QUE_MARK. -/
def occWord (s : State) (q : Nat) : Nat := prodCount s q * 2 ^ 16 + consCount s q
def queStateWord (s : State) (q : Nat) : Nat :=
  let x := queOf s q
  if joined s q then 2 ^ 26
  else b2n (queEmpty s q) * 2 ^ 31 + b2n (queFull s q) * 2 ^ 30 + b2n x.owner.isSome * 2 ^ 29 + b2n x.flush.isSome * 2 ^ 28
    + b2n x.mark.isSome * 2 ^ 27 + b2n (queBusy s q) * 2 ^ 25 + b2n x.errWord.isSome * 2 ^ 24 + x.owner.getD 0 * 2 ^ 16
def ptrsWord (s : State) (q : Nat) : Nat := (queOf s q).rptr * 2 ^ 16 + (queOf s q).wptr
def markWord (s : State) (q : Nat) : Nat := match (queOf s q).mark with | some m => 2 ^ 31 + m | none => 0

end Sys2Proof.Machine
end

