-- ==== Sys2Proof/Machine/Pins.lean ====
section
/-!
DEFINITION. The pin system (R320 to R342): the functions a pin may take, the switch of a function, the GPIO set and clear
registers, the interrupt detector, mismatch, bank rails.
-/

namespace Sys2Proof.Machine

def PIN_PAGE (b : Nat) : Nat := 0x30 + b

/-- The modes in which the pins raise interrupts (R335). -/
def pinIrqMode (s : State) : Bool := match s.mode with
  | .run | .service | .doze | .swap | .safe => true
  | _ => false

/-- The modes in which the pads are sampled (R335). -/
def padSampling (s : State) : Bool := match s.mode with
  | .off | .nap | .hibernate => false
  | _ => true

/-- Whether FUNC `f` is allowed for pin `n` (R323, R324). -/
def funcAllowed (s : State) (n f : Nat) : Bool :=
  if 6 ≤ f then false
  else if f = 5 then decide (320 ≤ n) && n % 2 == 0 && (vccio s (n / 40) == 0x25 || vccio s (n / 40) == 0x33)
  else true

/-- The odd pin of a pair whose even pin is LVDS (R324). -/
def oddOfLvds (s : State) (n : Nat) : Bool := decide (320 ≤ n) && n % 2 == 1 && pinFunc s (n - 1) == 5

/-- How many pins are members of pleat group `g` (R343). -/
def groupMembers (s : State) (g : Nat) : List Nat := allPins.filter fun n => pinFunc s n == 3 && pinGroup s n == g

/-- Whether a write of PIN_MUX or of PIN_MUX_NEXT is allowed (R323, R324, R343 for the direct write). -/
def muxAllowed (s : State) (n func group : Nat) (direct : Bool) : Bool :=
  funcAllowed s n func && !oddOfLvds s n
    && !(direct && func == 3 && !(pinFunc s n == 3 && pinGroup s n == group)
        && decide (64 ≤ (groupMembers s group).length))

/-- The TTE channels that name pin `n` disarm (R352). -/
def disarmPin (n : Nat) (s : State) : State :=
  (List.range 16).foldl (fun s k =>
    if s.rb Reg.PLT_TTE_ARM k && s.rf (Reg.PLT_TTE_CTL k) 0 9 == n then
      let s := s.wf Reg.PLT_TTE_ARM k 1 0
      { s with plt := { s.plt with fireAt := sdel k s.plt.fireAt } }
    else s) s

/-- A pin takes a new function (R333, R334): PIN_MUX takes it at once, the pad from the next pad-clock edge E on, in a window. Before E a later write
replaces it, but a direct write does not replace what a commit gave, were it the function the pin has; within the window it is taken at E + 20 ns,
which starts a new window. A direct write of the function the pin has changes nothing. -/
def switchOne (n func group : Nat) (staged : Bool) (s : State) : State :=
  let p := pinOf s n
  let old := (s.rg (muxReg n)).toNat
  let new := (if func = 3 then group else 0) * 16 + func
  let put := fun (w : PinSwitch) => (setPin n { p with win := some w } s).wrg (muxReg n) (w32 new)
  match p.win with
  | some w =>
    if s.now < w.edge then if w.staged ∧ !staged then s else put { w with staged := staged }
    else if old = new ∧ !staged then s
    else if s.now < w.edge + 20 then put ⟨w.edge + 20, none, w.edge + 40, staged, false, false⟩
    else put ⟨padEdge s.now, some old, w.edge + 40, staged, false, false⟩
  | none => if old = new ∧ !staged then s else put ⟨padEdge s.now, some old, 0, staged, false, false⟩

/-- A new function for pin `n`, by a write or by a commit, with what follows for the odd pin of its pair (R324). `oddGiven` says that the same
commit gives the odd pin a function. -/
def switchPin (n func group : Nat) (staged oddGiven : Bool) (s : State) : State :=
  let was := pinFunc s n
  let s := switchOne n func group staged s
  if 320 ≤ n ∧ n % 2 = 0 then
    if pinFunc s n = 5 then switchOne (n + 1) 5 0 staged s
    else if was = 5 ∧ pinFunc s n ≠ 5 ∧ !oddGiven then switchOne (n + 1) 0 0 staged s
    else s
  else s

/-- A write of PIN_MUXn (R323, R333): refused with ACCESS where the function is not allowed. -/
def writeMux (n : Nat) (v : Word) (s : State) : State × Bool :=
  let f := fld v 0 3
  let g := fld v 4 3
  if muxAllowed s n f g true then (switchPin n f g false false s, true) else (s, false)

/-- The applied PIN_MUX_NEXT registers of a commit (R333, R334): those with APPLY switch their pins; an odd pin whose
even pin becomes LVDS in the same commit is left out. -/
def applyMuxNext (changed : List Nat) (s : State) : State :=
  let nx := fun (n : Nat) => s.rg (Reg.PIN_MUX_NEXT (n / 40) (n % 40))
  let now := changed.filter fun n => bit (nx n) 31
  let lvds := fun (n : Nat) => decide (320 ≤ n) && n % 2 == 1 && now.contains (n - 1) && fld (nx (n - 1)) 0 3 == 5
  now.foldl (fun s n =>
    if lvds n || (oddOfLvds s n && !now.contains (n - 1)) then s
    else switchPin n (fld (nx n) 0 3) (fld (nx n) 4 3) true (now.contains (n + 1)) s) s

/-- The bits of a half of a 64-bit pin register. -/
def halfBits (hi : Bool) (v : Word) : Nat := if hi then v.toNat % 256 * 2 ^ 32 else v.toNat

/-- PIN_OUT_SET and PIN_OUT_CLR (R326): the applied PIN_OUT changes at the next pad-clock edge; the staged shadow stays. `hi` is the high word. -/
def outSet (b : Nat) (hi : Bool) (v : Word) (s : State) : State :=
  let k := bankOf s b
  setBank b { k with toSet := k.toSet ||| halfBits hi v } s

def outClr (b : Nat) (hi : Bool) (v : Word) (s : State) : State :=
  let k := bankOf s b
  setBank b { k with toClr := k.toClr ||| halfBits hi v } s

/-- A commit has applied a register of a PIN page: where it is a word of PIN_OUT, it stands at the next edge whatever a SET or CLR names (R326). -/
def outApplied (off : Nat) (s : State) : State :=
  let o := off % 0x1000
  if 0x30000 ≤ off ∧ off < 0x3C000 ∧ (o = 0x40 ∨ o = 0x44) then
    let b := off / 0x1000 - 0x30
    let k := bankOf s b
    setBank b { k with com := nset k.com ((o - 0x40) / 4) } s
  else s

/-- The highest DRIVE code allowed at the bank's VCCIO (R328). -/
def driveMax (b code : Nat) : Nat :=
  if b < 8 then (if code = 0x50 then 4 else if code = 0x33 then 3 else if code = 0x25 then 2 else if code = 0x18 then 1 else 4)
  else (if code = 0x33 ∨ code = 0x25 then 3 else if code = 0x18 then 2 else if code = 0x15 then 1 else if code = 0x12 then 0 else 3)

/-- A write of PIN_CFGn (R328, R331 of the hold policy, R341): HOLD 0b11 is refused; DRIVE is stored as the highest code
allowed; TERM exists on the even pins of D banks; REGION stays. -/
def writeCfg (n : Nat) (v : Word) (s : State) : State × Bool :=
  if fld v 30 2 = 3 then (s, false)
  else
    let b := n / 40
    let old := s.rg (cfgReg n)
    let v := setFld v 0 3 (min (fld v 0 3) (driveMax b (vccio s b)))
    let v := if 320 ≤ n ∧ n % 2 = 0 then v else setFld v 9 1 0
    let v := setFld v 23 7 (fld old 23 7)
    (s.wrg (cfgReg n) (v &&& 0xFFFF02F7), true)

/-! ### Interrupts -/

/-- Whether the detector and the mismatch check of a pin are masked at a time by a switch window, from E to E + 40 ns (R333). -/
def maskedAt (s : State) (t n : Nat) : Bool :=
  match (pinOf s n).win with
  | some w => (decide (w.edge ≤ t) && decide (t ≤ w.edge + 40)) || decide (t ≤ w.maskTo)
  | none => false

/-- Whether they are masked now. -/
def masked (s : State) (n : Nat) : Bool := maskedAt s s.now n

/-- Whether an accepted level, coming from `old`, sets the latch (R332). -/
def latchSets (mode : Nat) (old new : Bool) : Bool :=
  match mode with
  | 1 => !old && new
  | 2 => old && !new
  | 3 => old != new
  | 4 => new
  | 5 => !new
  | _ => false

/-- The latch of a pin in PIN_INT_RAW. -/
def pinLatch (s : State) (n : Nat) : Bool := (s.rg64 (Reg.PIN_INT_RAW (n / 40))).testBit (n % 40)

/-- The latch of a pin set, and IRQ source PIN_INT where it is enabled; true: it changed from 0 to 1, and not together with a clear, which is the pin's
event (R332). -/
def setLatch (n : Nat) (s : State) : State × Bool :=
  let b := n / 40
  let i := n % 40
  let k := bankOf s b
  let new := !pinLatch s n && !k.clrNow.testBit i
  let s := setBank b { k with setNow := nset k.setNow i } (s.wrg64 (Reg.PIN_INT_RAW b) (nset (s.rg64 (Reg.PIN_INT_RAW b)) i))
  (if (s.rg64 (Reg.PIN_INT_EN b)).testBit i then irq (PIN_PAGE b) 0 s else s, new)

/-- A write of PIN_INT_RAW: a latch that sets at the same edge stays (R332). -/
def latchClear (b : Nat) (hi : Bool) (v : Word) (s : State) : State :=
  let k := bankOf s b
  let m := halfBits hi v
  let raw := s.rg64 (Reg.PIN_INT_RAW b)
  setBank b { k with clrNow := k.clrNow ||| m } (s.wrg64 (Reg.PIN_INT_RAW b) (raw - (raw &&& m) + (raw &&& m &&& k.setNow)))

/-- The event source of a pin (R223, R332). -/
def pinSource (n : Nat) : Nat := 0x1080 + n

/-- A board source drives the land of a pin to a level, or none drives it, for a number of pad-clock edges (R332): PIN_PAD follows after two (R330), the
level the pad then shows is accepted or not, and the latch changes from 0 to 1 or not, which is the pin's event to Bobbin. -/
def pinDetect (n : Nat) (board : Option Bool) (edges : Nat) (s : State) : State × Bool :=
  let p := { pinOf s n with board := board, keep := padLevel s n }
  let s := setPin n p s
  let lv := padLevel s n
  if edges = 0 ∨ !padSampling s ∨ !bankLive s (n / 40) then (setPin n { p with keep := lv } s, false)
  else
    let p := { p with keep := lv, sync1 := lv, sync2 := if edges = 1 then p.sync1 else lv, run := if lv = p.accepted then 0 else p.run + edges }
    let s := setPin n p s
    if masked s n then (s, false)
    else
      let due := decide (s.rf (cfgReg n) 16 4 + 1 ≤ p.run)
      let new := if due then lv else p.accepted
      let sets := pinIrqMode s && latchSets (s.rf (cfgReg n) 20 3) p.accepted new && isEnabled s (PIN_PAGE (n / 40))
      let s := if due then setPin n { p with accepted := lv, run := 0 } s else s
      if sets then setLatch n s else (s, false)

/-- The mismatch check of a pin at the pad-clock edge at `t` (R331): a driven pin, not in open-drain release, whose PIN_PAD differs from the driven level
at 3 edges in a row, none of them one of the two after a change of the driven level or inside a switch window's mask. -/
def mismatchEdge (t : Nat) (s : State) (n : Nat) : State :=
  let p := pinOf s n
  let seen := p.drv.oe && decide (p.drvAt + 20 < t) && !maskedAt s t n && isEnabled s (PIN_PAGE (n / 40)) && padSampling s
  if !seen || p.sync2 == p.drv.level then (if p.differs = 0 then s else setPin n { p with differs := 0 } s)
  else if p.differs < 2 then setPin n { p with differs := p.differs + 1 } s
  else
    let r := Reg.PIN_MISMATCH (n / 40)
    irq (PIN_PAGE (n / 40)) 1 (s.wrg64 r (nset (s.rg64 r) (n % 40)))

/-- PIN_PAD of a pin shows three levels at the last three pad-clock edges (R331). -/
def mismatch (n : Nat) (a b c : Bool) (s : State) : State :=
  let t := s.now / 10 * 10
  if !padSampling s then s
  else
    [(t - 20, a), (t - 10, b), (t, c)].foldl (fun s x => mismatchEdge x.1 (setPin n { pinOf s n with sync1 := x.2, sync2 := x.2 } s) n)
      (setPin n { pinOf s n with differs := 0 } s)

/-- A bank rail out of its window or over its current limit (R339). -/
def railFault (b : Nat) (s : State) : State :=
  if bankPowered s b then
    irq (PIN_PAGE b) 2 (raise ((0x30 + b) * 256 + 2) (setBank b { bankOf s b with shut := true } s))
  else s

/-- PIN_RAIL.RETRY (R339): a rail shut down starts again; its drivers resume once it is good, after a time that the spec does not give (log 107). -/
def railRetry (b : Nat) (s : State) : State :=
  if (bankOf s b).shut then (setBank b { bankOf s b with again := some (s.now + s.freeBelow 1500000) } s).bump else s

/-- A rail that a retry has started is good again. -/
def railRises (s : State) (b : Nat) : State :=
  match (bankOf s b).again with
  | some t => if t ≤ s.now then setBank b { bankOf s b with shut := false, again := none } s else s
  | none => s

/-- The pins an image gives LVDS: the pairs of D banks at 2.5 V or 3.3 V that it declares (R323, R324, R325). -/
def imageLvds (h : BitVec 4096) (s : State) (n : Nat) : Bool :=
  decide (320 ≤ n) && (vccio s (n / 40) == 0x25 || vccio s (n / 40) == 0x33) && Config.pinLvds h (n / 2 * 2)

/-- The fields DRIVE, SLEW, OD and PULL that an image gives a pin, DRIVE as the highest code allowed (R325, R328). -/
def imageCfg (h : BitVec 4096) (s : State) (n : Nat) : Nat :=
  let c := (Config.pinCfg h n).toNat
  (c &&& 0xF0) + min (c % 8) (driveMax (n / 40) (vccio s (n / 40)))

/-- The pins at the end of LOAD and HEM_LOAD (R325; bit 3 of PIN_CFG is reserved, R341): FABRIC or LVDS in powered banks, DRIVE to PULL from the image,
REGION from the image, every other field at its reset value. -/
def pinsFromImage (h : BitVec 4096) (s : State) : State :=
  allPins.foldl (fun s n =>
    let f := if !bankPowered s (n / 40) then 0 else if imageLvds h s n then 5 else 2
    let r := match Config.pinRegion h n with | some r => r.val | none => 0x7F
    (s.wrg (muxReg n) (w32 f)).wrg (cfgReg n) (w32 (r * 2 ^ 23 + imageCfg h s n))) s

/-- The drive every pad keeps through NAP (R335). -/
def captureNap (s : State) : State := updPins (fun _ => true) (fun n k => { k with nap := some (padDrive s n) }) s

def dropNap (s : State) : State := updPins (fun _ => true) (fun _ k => { k with nap := none }) s

/-- The header of the loaded image, if one is loaded. -/
def loadedHeader (s : State) : Option (BitVec 4096) :=
  s.pat.loaded.map fun p => (match p with | .a => s.pat.planeA | .b => s.pat.planeB | .hem => s.pat.planeHem).header

/-- A soft reset of a PIN page (R341): registers at reset, DRIVE to PULL as the loaded image gives them, but PIN_STRAP, PIN_WAKE and REGION; every
PIN_MUX to FABRIC under R333. -/
def pinSoftReset (b : Nat) (s : State) : State :=
  let base := (0x30 + b) * 0x1000
  let keep := (List.range 40).map fun i => (40 * b + i, s.rf (Reg.PIN_CFG b i) 23 7 * 2 ^ 23 + (match loadedHeader s with | some h => imageCfg h s (40 * b + i) | none => 0))
  let s := s.resetRegs fun o => decide (base + 0x40 ≤ o) && decide (o < base + 0x1000)
    && !(o == Reg.PIN_STRAP b) && !(o == Reg.PIN_WAKE b) && !(decide (base + 0x100 ≤ o) && decide (o < base + 0x1A0))
  let s := keep.foldl (fun s p => s.wrg (cfgReg p.1) (w32 p.2)) s
  let k := bankOf s b
  let s := setBank b { k with toSet := 0, toClr := 0, com := 0 } s
  (List.range 40).foldl (fun s i => if pinFunc s (40 * b + i) = 2 then s else switchOne (40 * b + i) 2 0 true s) s

/-! ### The pad clock (R322, R326, R330, R333) -/

/-- What a pin samples at the pad-clock edge at `t`: the level at the land just before it, which PIN_PAD shows one edge later and the keeper keeps. -/
def samplePin (s : State) (t n : Nat) (p : Pin) : Pin :=
  let l := levelAt s (t - 1) n
  { p with sync2 := p.sync1, sync1 := l, keep := l }

/-- PIN_OUT and PIN_OE of a bank reach its pads (R326): what SET and CLR name changes the applied PIN_OUT, CLR before SET, but for the words a commit has
applied since the last edge. With ENABLE = 0 the pads keep their state (R341). -/
def latchBank (s : State) (b : Nat) : State :=
  let k := bankOf s b
  if !isEnabled s (PIN_PAGE b) then s
  else
    let mask := (if k.com.testBit 0 then 0 else 2 ^ 32 - 1) + (if k.com.testBit 1 then 0 else 0xFF * 2 ^ 32)
    let old := s.rg64 (Reg.PIN_OUT b)
    let up := old ||| (k.toSet &&& mask)
    let new := up - (up &&& k.toClr &&& mask)
    let s := if new = old then s else s.wrg64 (Reg.PIN_OUT b) new
    let k' := { k with out := new, oe := s.rg64 (Reg.PIN_OE b), toSet := 0, toClr := 0, com := 0 }
    if k' = k then s else setBank b k' s

def slotsOf (s : State) (g : Nat) : Nat := s.rf (Reg.PLT_GCFG g) 28 4 + 1
def periodOf (s : State) (g : Nat) : Nat := s.rf (Reg.PLT_GPERIOD g) 0 22
/-- The start of the frame in course, and of a slot of it (R344). -/
def frameStart (s : State) (g : Nat) : Nat := (groupOf s g).t0 + (groupOf s g).frame * slotsOf s g * periodOf s g

/-- The applied tables of the pins that `p` names, as a frame that began at `t` uses them (R348): those applied 100 ns or more before. -/
def tablesAt (p : Nat → Bool) (t : Nat) (s : State) : State :=
  let due := fun (x : Nat × (Nat × Word)) => p x.2.1 && decide (x.1 + 100 ≤ t)
  let m := (s.plt.applied.filter due).foldl (fun m x => sset (fun _ => 0) m x.2.1 x.2.2) s.plt.tables
  { s with plt := { s.plt with tables := m, applied := s.plt.applied.filter fun x => !due x } }

/-- A pin leaves pleat group `g`: the frame in course is none of its whole ones (R349). -/
def leavesGroup (n g : Nat) (s : State) : State :=
  let x := groupOf s g
  if x.full.contains n || x.raw.any (·.1 == n) || x.hist.any (·.1 == n) then
    setGroup g { x with full := x.full.erase n, raw := sdel n x.raw, hist := sdel n x.hist } s
  else s

/-- The edge E of a switch (R333): the old function's output enable goes; the pin's TTE channels disarm as it leaves TTE (R352); a hold of R131 ends as it
leaves FABRIC, and begins with the keeper's level as it comes to it while its region is isolated (R334); a pin that leaves a pleat group builds no vector
of it, and one that joins a group takes the table of the group's frame (R348, R349). -/
def switchBegins (n t : Nat) (w : PinSwitch) (s : State) : State :=
  let p := pinOf s n
  let f := pinFunc s n
  let was := w.prev.getD 0
  let fab := fun (x : Nat) => x == 2 || x == 5
  let held := match pinRegion s n with
    | some r =>
      if fab f && isolated s r then some ⟨(muxDrive s (t - 1) n was).oe, p.keep⟩ else if fab (was % 8) then none else p.held
    | none => p.held
  let s := setPin n { p with held := held, win := some { w with begun := true } } s
  let s := if f ≠ 4 then disarmPin n s else s
  let s := if was % 8 = 3 then leavesGroup n (was / 16 % 8) s else s
  if f = 3 ∧ (groupOf s (pinGroup s n)).running then tablesAt (· == n) (frameStart s (pinGroup s n)) s else s

/-- A pin in course of a switch at the pad-clock edge at `t`: E; E + 20 ns, where a pin that is TTE takes its GPIO level and enable (R351); E + 40 ns, where
the detector takes the level for its reference. A pin that has at E the function it had before does not switch. -/
def switchEdge (t : Nat) (s : State) (n : Nat) : State :=
  match (pinOf s n).win with
  | none => s
  | some w =>
    if !w.begun ∧ w.edge ≤ t ∧ !isEnabled s (PIN_PAGE (n / 40)) then setPin n { pinOf s n with win := some { w with edge := t + 10 } } s
    else if !w.begun ∧ w.edge ≤ t ∧ w.prev = some (s.rg (muxReg n)).toNat then
      let s := if w.maskTo ≤ t then setPin n { pinOf s n with win := none } s
        else setPin n { pinOf s n with win := some { w with edge := w.maskTo - 40, begun := true, taken := true } } s
      if pinFunc s n ≠ 4 then disarmPin n s else s
    else
      let s := if !w.begun ∧ w.edge ≤ t then switchBegins n t w s else s
      let p := pinOf s n
      let w := p.win.getD w
      let p := if w.edge + 20 ≤ t ∧ !w.taken then
          { p with win := some { w with taken := true }, tte := if pinFunc s n = 4 then gpioDrive s n else p.tte
                   tteLast := if pinFunc s n = 4 then none else p.tteLast }
        else p
      setPin n (if w.edge + 40 ≤ t then { p with win := none, accepted := p.sync1, run := 0 } else p) s

/-- The driven level of a pin and since which edge (R331): a change that is not timed by the pad clock lies before the edge that sees it. -/
def noteDrive (s : State) (t n : Nat) (p : Pin) : Pin :=
  let d := driveAt s t n
  if p.drv = d then p else { p with drv := d, drvAt := if driveAt s (t - 1) n = d then t - 10 else t }

/-- Whether the region of a pin is isolated. -/
def regionHeld (s : State) (n : Nat) : Bool := match pinRegion s n with | some r => isolated s r | none => false

/-- The pad of a pin takes its hold policy, with what it drove up to this edge as LAST keeps it, or returns to fabric drive (R126, R131, R132). -/
def holdEdge (s : State) (t n : Nat) (p : Pin) : Pin :=
  if regionHeld s n == p.iso then p
  else if regionHeld s n then { p with iso := true, held := some (driveAt s t n) }
  else { p with iso := false, held := none }

/-- A pad-clock edge at `t` (R322): the pads are sampled, then change, and the mismatch check compares. -/
def padsEdge (t : Nat) (s : State) : State :=
  let on := fun (n : Nat) => bankLive s (n / 40)
  let s := (List.range 12).foldl railRises s
  let s := if padSampling s then updPins on (samplePin s t) s else s
  let s := updPins on (holdEdge s t) s
  let s := (List.range 12).foldl latchBank s
  let s := ((s.pins.filter fun x => x.2.win.isSome).map (·.1)).foldl (switchEdge t) s
  let s := updPins on (noteDrive s t) s
  (allPins.filter on).foldl (mismatchEdge t) s

/-- A pad-clock edge has come: the latches' sets and clears of the edge before are past. -/
def latchesPast (s : State) : State :=
  { s with banks := (s.banks.map fun x => (x.1, { x.2 with setNow := 0, clrNow := 0 })).filter fun x => x.2 != Bank.reset }

end Sys2Proof.Machine
end

