-- ==== Sys2Proof/Machine/Pleats.lean ====
section
/-!
DEFINITION. Pin schedules (R343 to R355): the commands of a pleat group, its slots, samples, frame ends and publication, and the
time-triggered edges.
-/

namespace Sys2Proof.Machine

def PLT_PAGE : Nat := 0x3C

def sampleOf (s : State) (g : Nat) : Nat := s.rf (Reg.PLT_GSAMPLE g) 0 22
/-- RUNNING or PENDING. -/
def groupBusy (s : State) (g : Nat) : Bool := (groupOf s g).running || (groupOf s g).waiting

/-- 10 ≤ SAMPLE_OFS ≤ PERIOD − 10 (R347). -/
def sampleOk (s : State) (g : Nat) : Bool := decide (10 ≤ sampleOf s g) && decide (sampleOf s g + 10 ≤ periodOf s g)

/-- The start of the oldest frame in course. -/
def oldestFrame (s : State) : Nat :=
  (List.range 8).foldl (fun t g => if (groupOf s g).running then min t (frameStart s g) else t) s.now

/-- A table applied by a commit waits for a frame start (R348); of those of its pin that any frame in course or to come may take, the last is kept. -/
def tableApplied (n : Nat) (v : Word) (s : State) : State :=
  let mine := s.plt.applied.filter fun x => x.2.1 == n && decide (x.1 + 100 ≤ oldestFrame s)
  let last := (mine.getLast?).toList
  let rest := s.plt.applied.filter fun x => !mine.contains x
  let s := s.wrg (Reg.PLT_TBL n) v
  { s with plt := { s.plt with applied := last ++ rest ++ [(s.now, (n, v))] } }

/-- Applied tables reach the members of a group at a frame start at least 100 ns after the apply tick (R348). -/
def takeTables (g t : Nat) (s : State) : State := tablesAt (groupMembers s g).contains t s

/-- The members whose raw vector the frame that begins builds: those no switch window still keeps from the group (R349). -/
def wholeMembers (s : State) (g : Nat) : List Nat :=
  (groupMembers s g).filter fun n => match (pinOf s n).win with | some w => w.taken | none => true

/-- A frame of group `g` begins at `t`. -/
def frameBegins (g t : Nat) (s : State) : State :=
  let s := takeTables g t s
  setGroup g { groupOf s g with full := wholeMembers s g } s

/-- START and START_AT (R347): T0, LATE, and the group waits for T0. -/
def groupStart (g : Nat) (at? : Bool) (s : State) : State :=
  let t := s.rg64 (Reg.PLT_GSTART g)
  let late := at? && decide (t < s.now + 1000)
  let t0 := if at? && !late then t else s.now + 1000
  let x := groupOf s g
  setGroup g { x with waiting := true, t0 := t0, late := if at? then late else x.late, frame := 0, slot := 0, stopping := false
                      left := s.rf (Reg.PLT_GCFG g) 0 16, raw := [], hist := [], napHalt := false } s

/-- A stopped group: the published vectors stay, the debounce history clears, DONE_g (R347). -/
def groupDone (g : Nat) (s : State) : State :=
  irq PLT_PAGE (8 + g) (setGroup g { groupOf s g with running := false, waiting := false, stopping := false, slot := 0, raw := [], hist := [], napHalt := false } s)

/-- STOP: the group stops at the end of the frame in progress; one that waits for T0 stops at once. -/
def groupStop (g : Nat) (s : State) : State :=
  let x := groupOf s g
  if x.running then setGroup g { x with stopping := true } s
  else if x.waiting then groupDone g s
  else s

/-- HALT: at once, without publication. -/
def groupHalt (g : Nat) (s : State) : State := if groupBusy s g then groupDone g s else s

/-- A write of PLT_GCMD (R347); false: ACCESS. With ENABLE = 0 the block does not act (R22). -/
def groupCmd (g : Nat) (v : Word) (s : State) : State × Bool :=
  if !isEnabled s PLT_PAGE then (s, true)
  else match fld v 0 3 with
  | 1 => if groupBusy s g || !sampleOk s g then (s, false) else (groupStart g false s, true)
  | 2 => if groupBusy s g || !sampleOk s g then (s, false) else (groupStart g true s, true)
  | 3 => (groupStop g s, true)
  | 4 => (groupHalt g s, true)
  | _ => (s, true)

/-- The pleat engines run (R353). -/
def pleatRuns (s : State) : Bool := isEnabled s PLT_PAGE && match opMode s with
  | .run | .service | .doze | .swap | .safe => true
  | _ => false

/-- T0 is reached: the first frame begins (R347). -/
def groupBegins (g : Nat) (s : State) : State :=
  let x := groupOf s g
  if x.waiting ∧ x.t0 ≤ s.now ∧ pleatRuns s then
    frameBegins g x.t0 (setGroup g { x with waiting := false, running := true, frame := 0, slot := 0, raw := [], napHalt := false, sampled := false } s)
  else s

/-- The sample point of the slot in course (R346): each member whose code is SAMPLE records its pad, once. -/
def sampleNow (g : Nat) (s : State) : State :=
  let x := groupOf s g
  if x.sampled then s
  else
    let raw := (groupMembers s g).foldl (fun m n =>
      if nfld (sget (fun _ => 0) s.plt.tables n).toNat (2 * x.slot) 2 = 3 ∧ padLevel s n then
        sset (fun _ => 0) m n (nset (sget (fun _ => 0) m n) x.slot)
      else m) x.raw
    setGroup g { x with raw := raw, sampled := true } s

/-- The sample point is reached. -/
def groupSample (g : Nat) (s : State) : State :=
  let x := groupOf s g
  if x.running ∧ pleatRuns s ∧ frameStart s g + x.slot * periodOf s g + sampleOf s g ≤ s.now then sampleNow g s else s

/-- The next slot boundary within a frame (R344), behind the sample point of its slot. -/
def slotBoundary (g : Nat) (s : State) : State :=
  let s := groupSample g s
  let x := groupOf s g
  if x.running ∧ pleatRuns s ∧ x.slot + 1 < slotsOf s g ∧ frameStart s g + (x.slot + 1) * periodOf s g ≤ s.now then
    setGroup g { x with slot := x.slot + 1, sampled := false } s
  else s

/-- One member at a frame end (R346): its raw vector, how often it was seen in a row, and the published vector. -/
def memberEnd (debounce : Nat) (raw : Nat) (h : Nat × Nat) (pub : Nat) : (Nat × Nat) × Nat :=
  let seen := if h.1 = raw ∧ 0 < h.2 then h.2 + 1 else 1
  ((raw, min seen 16), if raw ≠ pub ∧ debounce + 1 ≤ seen then raw else pub)

/-- A frame of group `g` ends (R346, R347, R348, R349): publication, counts, CHANGE_g, the tables of the next frame; a STOP or a
FRAMES count that is used up stops the group. A vector that a pin's group before has published stays until that group publishes, or this one does. -/
def frameEndNow (g : Nat) (s : State) : State :=
  let x := groupOf s g
  let members := (groupMembers s g).filter x.full.contains
  let db := s.rf (Reg.PLT_GCFG g) 24 4
  let was := fun (n : Nat) => sget (fun _ => 0) s.plt.published n
  let res := members.map fun n => (n, memberEnd db (sget (fun _ => 0) x.raw n) (sget (fun _ => (0, 0)) x.hist n) (was n))
  let mine := fun (n : Nat) => sget (fun _ => 8) s.plt.pubBy n == g
  let new := res.filter fun r => r.2.2 != was r.1
  let pub := new.foldl (fun m r => sset (fun _ => 0) m r.1 r.2.2) (s.plt.published.filter fun q => members.contains q.1 || !mine q.1)
  let by' := new.foldl (fun m r => sset (fun _ => 8) m r.1 g) (s.plt.pubBy.filter fun q => q.2 != g || members.contains q.1)
  let hist := res.foldl (fun m r => sset (fun _ => (0, 0)) m r.1 r.2.1) []
  let start := frameStart s g
  let fin := start + slotsOf s g * periodOf s g
  let s := (s.incWrap (Reg.PLT_GFRAMES g) 0 32).wrg64 (Reg.PLT_GFRAME_T g) start
  let s := s.wf (Reg.PLT_GSTAT g) 0 16 (s.rf (Reg.PLT_GFRAMES g) 0 16)
  let s := { s with plt := { s.plt with published := pub, pubBy := by' } }
  let s := setGroup g { x with frame := x.frame + 1, slot := 0, raw := [], hist := hist, left := x.left - 1, sampled := false } s
  let s := if new.isEmpty then s else irq PLT_PAGE g s
  if x.stopping ∨ x.left = 1 then groupDone g s else frameBegins g fin s

/-- A frame end is reached, behind the sample point of its last slot. -/
def frameEnd (g : Nat) (s : State) : State :=
  let s := groupSample g s
  let x := groupOf s g
  if x.running ∧ pleatRuns s ∧ x.slot + 1 = slotsOf s g ∧ frameStart s g + slotsOf s g * periodOf s g ≤ s.now then frameEndNow g s else s

/-! ### Time-triggered edges (R351, R352) -/

/-- The drive a LEVEL code asks for. -/
def tteDrive : Nat → Drive
  | 0 => ⟨true, false⟩ | 1 => ⟨true, true⟩ | _ => .off

/-- Arming a channel (R352): false where its pin is no TTE pin; one that is armed stays as it is. The fire time is AT, or 100 ns after the arrival when
that is later, and 10 ns after the last edge of the pin at the earliest; then it is LATE. -/
def tteArm (k : Nat) (s : State) : State × Bool :=
  let n := s.rf (Reg.PLT_TTE_CTL k) 0 9
  if !isEnabled s PLT_PAGE ∨ s.rb Reg.PLT_TTE_ARM k then (s, true)
  else if pinFunc s n ≠ 4 then (s, false)
  else
    let at? := s.rg64 (Reg.PLT_TTE_AT k)
    let late := at? < s.now + 100
    let t := if late then s.now + 100 else at?
    let s := s.wf Reg.PLT_TTE_ARM k 1 1
    ({ s with plt := { s.plt with fireAt := sset (fun _ => (0, false)) s.plt.fireAt k (t, decide late) } }, true)

def tteCancel (k : Nat) (s : State) : State :=
  let s := s.wf Reg.PLT_TTE_ARM k 1 0
  { s with plt := { s.plt with fireAt := sdel k s.plt.fireAt } }

/-- The armed channels of one pin fire in the order of their times: none that names the pin of channel `k` is earlier. -/
def tteFirst (k : Nat) (s : State) : Bool :=
  let at' := fun (j : Nat) => (sget (fun _ => (0, false)) s.plt.fireAt j).1
  (List.range 16).all fun j =>
    !(s.rb Reg.PLT_TTE_ARM j && s.rf (Reg.PLT_TTE_CTL j) 0 9 == s.rf (Reg.PLT_TTE_CTL k) 0 9 && decide (at' j < at' k ∨ (at' j = at' k ∧ j < k)))

/-- An armed channel reaches its time and fires (R352). Of the channels that fire on a pin at the same ns the highest decides the level. -/
def tteFire (k : Nat) (s : State) : State :=
  let f := sget (fun _ => (0, false)) s.plt.fireAt k
  let n := s.rf (Reg.PLT_TTE_CTL k) 0 9
  let p := pinOf s n
  let due := match p.tteLast with
    | some (t, _) => if f.1 = t then f.1 else max f.1 (t + 10)
    | none => f.1
  if s.rb Reg.PLT_TTE_ARM k ∧ tteFirst k s ∧ due ≤ s.now ∧ pleatRuns s then
    let lost : Bool := match p.tteLast with | some (t, j) => decide (t = due ∧ k < j) | none => false
    let s := if lost then s else setPin n { p with tte := tteDrive (s.rf (Reg.PLT_TTE_CTL k) 16 2), tteLast := some (due, k) } s
    let s := tteCancel k s
    let s := irq PLT_PAGE 16 (s.wf Reg.PLT_TTE_FIRED k 1 1)
    if f.2 ∨ due ≠ f.1 then irq PLT_PAGE 17 (s.wf Reg.PLT_TTE_LATE k 1 1) else s
  else s

/-- CTRL.ENABLE = 0 on the PLT page (R355): every group halts, every channel disarms. -/
def pleatStopAll (s : State) : State :=
  let s := (List.range 8).foldl (fun s g => groupHalt g s) s
  (List.range 16).foldl (fun s k => tteCancel k s) s

/-- NAP entry: a running group halts at the next slot boundary, keeping its grid; where that is a frame end, the frame ends and is published (R353). -/
def pleatNapOne (s : State) (g : Nat) : State :=
  if !(groupOf s g).running then s
  else
    let s := if (groupOf s g).slot + 1 = slotsOf s g then frameEndNow g (sampleNow g s) else s
    let x := groupOf s g
    if x.running then setGroup g { x with running := false, napHalt := true, raw := [], hist := [] } s else s

/-- NAP entry of every group. -/
def pleatNap (s : State) : State := (List.range 8).foldl pleatNapOne s

/-- Wake from NAP: a halted group starts again at the first frame start of its grid at least 2 µs after the wake. DESIGN CHOICE (log 87): so does a group
whose T0 fell in NAP. -/
def pleatWake (s : State) : State :=
  (List.range 8).foldl (fun s g =>
    let x := groupOf s g
    if x.napHalt ∨ (x.waiting ∧ x.t0 < s.now) then
      let len := slotsOf s g * periodOf s g
      let t := s.now + 2000
      let k := if t ≤ x.t0 then 0 else (t - x.t0 + len - 1) / len
      setGroup g { x with waiting := true, t0 := x.t0 + k * len, frame := 0 } s
    else s) s

/-- PLT_CAP word `w`: the published vectors of pins 2w and 2w + 1; a pin that has left its group reads 0 (R349). -/
def capWord (s : State) (w : Nat) : Word :=
  w32 (sget (fun _ => 0) s.plt.published (2 * w) + sget (fun _ => 0) s.plt.published (2 * w + 1) * 65536)

/-- PLT_GSTAT (R355). -/
def gstatWord (s : State) (g : Nat) : Word :=
  let x := groupOf s g
  w32 (b2n x.running * 2 ^ 31 + b2n x.waiting * 2 ^ 30 + b2n x.late * 2 ^ 29 + x.slot % 16 * 2 ^ 24
    + (groupMembers s g).length % 128 * 2 ^ 16 + s.rf (Reg.PLT_GSTAT g) 0 16)

end Sys2Proof.Machine
end

