-- ==== Sys2Proof/Machine/Seam.lean ====
section
/-!
DEFINITION. Seam (R28 to R38): staging, the commit requests and their apply tick, the moves of pages and initiators with the
holds that refuse them (R359, R360), the snapshot requests, and the rotating base of R27 and R35.
-/

namespace Sys2Proof.Machine

def SEAM_PAGE : Nat := 0

def seamOf (s : State) (p : Nat) : SeamPanel := sget (fun _ => SeamPanel.reset) s.seam p
def setSeam (p : Nat) (x : SeamPanel) (s : State) : State := { s with seam := sset (fun _ => SeamPanel.reset) s.seam p x }

def shadowOf (s : State) (off : Nat) : Option (Nat × Word) := sget (fun _ => none) s.shadow off
def setShadow (off : Nat) (v : Option (Nat × Word)) (s : State) : State :=
  { s with shadow := sset (fun _ => none) s.shadow off v }

/-- The registers panel `p` has staged. -/
def stagedBy (s : State) (p : Nat) : List (Nat × Word) :=
  s.shadow.filterMap fun x => match x.2 with | some (q, v) => if q = p then some (x.1, v) else none | none => none

/-- A register of panel `p`'s bank of the SEAM page. -/
def sb (p off : Nat) : Nat := bank p off

/-- A staging write (R28, R29); false: refused while a commit of the panel waits. -/
def stage (p off : Nat) (v : Word) (s : State) : State × Bool :=
  if (seamOf s p).commit.isSome then (s.wf (sb p Reg.SEAM_STAGE) 17 1 1, false)
  else (setShadow off (some (p, v)) s, true)

/-- Everything panel `p` has staged is dropped. -/
def dropStaged (p : Nat) (s : State) : State :=
  { s with shadow := s.shadow.filter fun x => match x.2 with | some (q, _) => q != p | none => false }

/-- The staged values of a page are dropped (R22, R359). -/
def dropPageStaged (i : Nat) (s : State) : State := { s with shadow := sdrop (fun o => o / 0x1000 == i) s.shadow }

/-- SEAM_RESULT.CODE of panel `p` (R39). -/
def seamCode (p c : Nat) (s : State) : State := s.wf (sb p Reg.SEAM_RESULT) 0 4 c

/-- Commits of PIN_MUX_NEXT by the panels `ps` that would give a pleat group a 65th member (R343). -/
def commitOverfull (ps : List Nat) (s : State) : Bool :=
  let next := fun (n : Nat) =>
    match shadowOf s (Reg.PIN_MUX_NEXT (n / 40) (n % 40)) with
    | some (q, v) => if ps.contains q ∧ bit v 31 then some (fld v 0 3, fld v 4 3) else none
    | none => none
  let lvds := fun (n : Nat) => decide (320 ≤ n) && n % 2 == 1 && (match next (n - 1) with | some (f, _) => f == 5 | none => oddOfLvds s n)
  let given := fun (n : Nat) => if lvds n then some (5, 0) else next n
  (List.range 8).any fun g => decide (64 < (allPins.filter fun n =>
    match given n with
    | some (f, h) => f == 3 && h == g
    | none => pinFunc s n == 3 && pinGroup s n == g).length) && allPins.any fun n => given n == some (3, g)

/-- COMMIT_NOW and COMMIT_AT (R31, R32, R33): BUSY while a commit waits, EMPTY with nothing staged; else the commit
waits. A T less than 40 ns after the arrival makes it a late COMMIT_NOW. -/
def commitReq (p : Nat) (at? : Bool) (s : State) : State :=
  let x := seamOf s p
  if x.commit.isSome then irqSeam p 1 (seamCode p 4 s)
  else if (stagedBy s p).isEmpty then seamCode p 3 s
  else
    let t := s.rg64 (sb p Reg.SEAM_AT)
    let late := at? && decide (t < s.now + 40)
    let isAt := at? && !late
    setSeam p { x with commit := some ⟨isAt, if isAt then t else s.now + 40, !isAt, late, false⟩ } (seamCode p 0 s)

/-- Whether the seal point of a waiting commit is past: 40 ns before its apply tick (R32). -/
def sealPassed (s : State) (c : Commit) : Bool := c.isSealed || decide (s.tickAt c.target ≤ s.now + 40)

/-- DISCARD (R32). -/
def discardReq (p : Nat) (s : State) : State :=
  let x := seamOf s p
  let t := s.wf (sb p Reg.SEAM_STAGE) 17 1 0
  match x.commit with
  | none => seamCode p 6 (dropStaged p t)
  | some c =>
    if sealPassed s c then seamCode p 6 t
    else seamCode p 5 (dropStaged p (setSeam p { x with commit := none } t))

/-- The seal point of a waiting COMMIT_AT is reached (R32). -/
def sealPoint (p : Nat) (s : State) : State :=
  let x := seamOf s p
  match x.commit with
  | some c => if c.isAt ∧ s.tickAt c.target ≤ s.now + 40 then setSeam p { x with commit := some { c with isSealed := true } } s else s
  | none => s

/-! ### Moves and holds (R359, R360) -/

/-- PNL_HOLD of panel `p`. -/
def holds (s : State) (p : Nat) : Bool := s.rb (bank p Reg.PNL_HOLD) 0

/-- A change refused by the hold of panel `p` (R360); page 0x7F where it is no page. -/
def moveRefused (page p : Nat) (s : State) : State :=
  let r := Reg.PNL_MOVE_ERR
  let s := if s.rb r 31 then s else ((s.wf r 24 7 page).wf r 20 3 p).wf r 31 1 1
  raise (0x0120 + p) (irq 1 1 (s.incSat r 0 16))

/-- The kept response of a quad-SPI port is dropped (R376). -/
def dropKept (q : Nat) (s : State) : State :=
  let x := sget (fun _ => QspiPort.reset) s.hst.ports q
  { s with hst := { s.hst with ports := sset (fun _ => QspiPort.reset) s.hst.ports q { x with kept := none } } }

/-- The applied value of PNL_INITk: the nibbles whose panel holds keep their value (R360). -/
def applyInit (k : Nat) (v : Word) (s : State) : State :=
  (List.range (if k = 3 then 6 else 8)).foldl (fun s i =>
    let old := s.rf (Reg.PNL_INIT k) (4 * i) 3
    let new := fld v (4 * i) 3
    if old = new then s
    else if holds s old then moveRefused 0x7F old s
    else
      let s := if k = 3 ∧ 4 ≤ i then dropKept (i - 4) s else s
      s.wf (Reg.PNL_INIT k) (4 * i) 3 new) s

/-- What OWNER of a page shows of its byte of PNL_OWN: ASSIGNED and PANEL; 0 while it is unassigned. -/
def ownView (b : Nat) : Nat := if 0x80 ≤ b then 0x80 + b % 8 else 0

/-- A byte of PNL_OWN that R359 fixes or ignores: no owner to be had, or ASSIGN = 0 for a page that is always owned (R25). -/
def ownFixed (i new : Nat) : Bool :=
  match pageOf i with
  | none | some .seam | some .pnl => true
  | some pg => decide (new < 0x80) && decide (0x80000000 ≤ pg.cap)

/-- The applied value of one byte of PNL_OWN (R359, R360): page `i` goes to its new owner, the stage of the previous one
on it is dropped, and COMMIT_GEN takes the epoch's generation where the page's OWNER changes (R34). -/
def applyOwn (i new gen : Nat) (s : State) : State :=
  let k := Reg.PNL_OWN (i / 4)
  let lo := 8 * (i % 4)
  let old := s.rf k lo 8
  match pageOf i with
  | none => s
  | some _ =>
    if old = new ∨ ownFixed i new then s
    else if ownView old = ownView new then s.wf k lo 8 new
    else if 0x80 ≤ old ∧ holds s (old % 8) then moveRefused i (old % 8) s
    else
      let drop := s.shadow.filter fun x => match x.2 with | some (q, _) => !(x.1 / 0x1000 == i && q != new % 8) | none => false
      (({ s with shadow := drop }).wf k lo 8 new).wrg (i * 0x1000 + 0x20) (w32 gen)

/-- A staged value is taken by its register (R34): one that the rules of R359 and R360 refuse wholly is not. -/
def takesStaged (s : State) (off : Nat) (v : Word) : Bool :=
  if 0x1060 ≤ off ∧ off < 0x1070 then
    let k := (off - 0x1060) / 4
    let old := fun i => s.rf (Reg.PNL_INIT k) (4 * i) 3
    let ch := (List.range 8).filter fun i => old i != fld v (4 * i) 3
    ch.isEmpty || ch.any fun i => !holds s (old i)
  else if 0x1080 ≤ off ∧ off < 0x10A0 then s.rg off == v || !holds s ((off - 0x1080) / 4)
  else if 0x1100 ≤ off ∧ off < 0x1154 then
    (List.range 4).any fun j =>
      let i := off - 0x1100 + j
      let new := fld v (8 * j) 8
      let old := s.rf off (8 * j) 8
      !ownFixed i new && (ownView old == ownView new || !(decide (0x80 ≤ old) && holds s (old % 8)))
  else true

/-- One staged register takes its value (R30): the register, and what the value does at the apply tick. -/
def applyReg (off : Nat) (v : Word) (s : State) : State :=
  if 0x1060 ≤ off ∧ off < 0x1070 then applyInit ((off - 0x1060) / 4) v s
  else if 0x1080 ≤ off ∧ off < 0x10A0 then
    let p := (off - 0x1080) / 4
    if s.rg off = v then s else if holds s p then moveRefused 0x7F p s else s.wrg off v
  else if 0x1100 ≤ off ∧ off < 0x1154 then s
  else if 0xB100 ≤ off ∧ off < 0xB200 then
    let s := s.wrg off v
    let live := (List.range 128).foldl (fun a r => if isolated s r then a else a + 2 ^ r) 0
    { s with fab := { s.fab with paramPend := s.fab.paramPend ||| BitVec.ofNat 128 live } }
  else if 0x3C800 ≤ off ∧ off < 0x3D000 then
    let s := s.wrg off v
    tableApplied ((off - 0x3C800) / 4) v s
  else outApplied off (s.wrg off v)

/-- The pins whose PIN_MUX_NEXT is among the registers. -/
def muxNextPins (l : List (Nat × Word)) : List Nat :=
  l.filterMap fun x =>
    let o := x.1 % 0x1000
    if 0x30000 ≤ x.1 ∧ x.1 < 0x3C000 ∧ 0x300 ≤ o ∧ o < 0x3A0 then some (40 * (x.1 / 0x1000 - 0x30) + (o - 0x300) / 4)
    else none

/-- A commit that is due at this tick. -/
def commitDue (s : State) (p : Nat) : Bool :=
  match (seamOf s p).commit with
  | some c => decide (c.target ≤ s.now)
  | none => false

def allPanels : List Nat := List.range 8

/-- Panel `p`'s share of an epoch (R30, R34, R39): its registers applied, the pages changed, its result, its interrupt
sources. DESIGN CHOICE (log 62): a value staged before LOCK was set on its page still applies; R24 names only writes. -/
def applyPanel (gen : Nat) (s : State) (p : Nat) : State :=
  let x := seamOf s p
  let l := stagedBy s p
  let late := match x.commit with | some c => c.late | none => false
  let taken := l.filter fun r => takesStaged s r.1 r.2
  let s := l.foldl (fun s r => applyReg r.1 r.2 s) s
  let s := applyMuxNext (muxNextPins l) s
  let s := taken.foldl (fun s r => s.wrg (r.1 / 0x1000 * 0x1000 + 0x20) (w32 gen)) s
  let s := setSeam p { x with commit := none } s
  let s := (s.wf (sb p Reg.SEAM_RESULT) 16 16 gen).wf (sb p Reg.SEAM_RESULT) 0 4 (if late then 2 else 1)
  let s := (s.wf (sb p Reg.SEAM_STAGE) 17 1 0).wrg64 (sb p Reg.SEAM_EPOCH_TIME) s.now
  let s := irqSeam p 0 s
  if late then irqSeam p 3 s else s

/-- The ownership bytes of an epoch, after every register of it (R359). -/
def applyOwners (gen : Nat) (l : List (Nat × Word)) (s : State) : State :=
  l.foldl (fun s r =>
    if 0x1100 ≤ r.1 ∧ r.1 < 0x1154 then
      (List.range 4).foldl (fun s j => applyOwn (r.1 - 0x1100 + j) (fld r.2 (8 * j) 8 &&& 0x87) gen s) s
    else s) s

/-- A commit whose apply tick falls in SWAP is deferred (R38): it will be late; fault 0x0001 once. -/
def deferCommit (s : State) (p : Nat) : State :=
  let x := seamOf s p
  match x.commit with
  | some c =>
    if c.target ≤ s.now ∧ !c.deferred then
      raise 0x0001 (setSeam p { x with commit := some { c with late := true, deferred := true, isSealed := true } } s)
    else s
  | none => s

/-- The due commits that R343 lets apply: one that would give a pleat group a 65th member is refused. -/
def commitsKept (s : State) (due : List Nat) : List Nat :=
  due.foldl (fun a p => if commitOverfull (a ++ [p]) s then a else a ++ [p]) []

/-- A commit refused before its apply tick (R343): CANCELLED, with its staged values. -/
def commitRefused (s : State) (p : Nat) : State :=
  seamCode p 5 (dropStaged p (setSeam p { seamOf s p with commit := none } s))

/-- An apply tick (R30, R34, R35): in SWAP the commits that are due are deferred; otherwise they apply together, under
one generation. After step 1 of a HIBERNATE entry none applies (R38). -/
def applyTick (s : State) : State :=
  let all := allPanels.filter (commitDue s)
  let due := commitsKept s all
  if all.isEmpty ∨ s.pwr.entry = some 8 then s
  else if opMode s = .swap then all.foldl deferCommit s
  else
    let s := (all.filter fun p => !due.contains p).foldl commitRefused s
    if due.isEmpty then s
    else
      let s := s.incWrap Reg.SEAM_GEN 0 32
      let gen := (s.rg Reg.SEAM_GEN).toNat
      let own := due.flatMap fun p => stagedBy s p
      let s := due.foldl (applyPanel gen) s
      let s := due.foldl (fun s p => dropStaged p s) s
      let s := applyOwners gen own s
      s.wf Reg.SEAM_ARB 8 8 (due.foldl (fun a p => a + 2 ^ p) 0)

/-! ### Snapshots (R36) -/

/-- The words of a snapshot of one page: STATUS and the registers its chapter names. -/
def snapWords (i : Nat) : List Nat :=
  let b := i * 0x1000
  (b + 8) :: (match pageOf i with
    | some .fab => (List.range 64).map fun n => Reg.FAB_OBS n
    | some .que => (List.range 16).map fun j => b + 0x108 + 0x40 * j
    | some .pin => [b + 0x60, b + 0x64, b + 0x68, b + 0x6C]
    | some .plt => ((List.range 240).map fun w => Reg.PLT_CAP w) ++ ((List.range 8).map fun g => Reg.PLT_GSTAT g)
    | some .ses => [Reg.SES_COUNT]
    | _ => [])

/-- The registers panel `p`'s masks select (R36): pages with CAP.SNAP. -/
def snapSelected (s : State) (p : Nat) : List Nat :=
  (List.range 96).flatMap fun i =>
    let m := s.rg (sb p (Reg.SEAM_SNAP_MASK0 + 4 * (i / 32)))
    match pageOf i with
    | some pg => if bit m (i % 32) && pg.cap.testBit 30 then snapWords i else []
    | none => []

/-- SEAM_SNAP_STATUS.CODE. -/
def snapCode (p c : Nat) (s : State) : State := s.wf (sb p Reg.SEAM_SNAP_STATUS) 16 4 c

/-- TAKE_NOW and TAKE_AT (R36). DESIGN CHOICE (log 63): WORDS reads 0 from the acceptance until the capture, and the masks are read at the
request, for the size and for the capture. -/
def takeReq (p : Nat) (at? : Bool) (s : State) : State :=
  let x := seamOf s p
  let l := snapSelected s p
  if x.snapReq.isSome then irqSeam p 1 (snapCode p 4 s)
  else if 512 < l.length then irqSeam p 1 (snapCode p 3 s)
  else
    let t := s.rg64 (sb p Reg.SEAM_AT)
    let late := decide (t < s.now + 40)
    let target := if at? && !late then t else s.now + 40
    let s := s.wf (sb p Reg.SEAM_SNAP_STATUS) 0 10 0
    setSeam p { x with snapReq := some ⟨target, l⟩, held := none } (snapCode p 2 s)

/-- RELEASE (R36). DESIGN CHOICE (log 63): WORDS reads 0 after it. -/
def releaseReq (p : Nat) (s : State) : State :=
  setSeam p { seamOf s p with snapReq := none, held := none } ((snapCode p 0 s).wf (sb p Reg.SEAM_SNAP_STATUS) 0 10 0)

/-- The base of R27 and R35: a contested cycle is counted, its winner recorded, and the base advances by one. -/
def contestSeam (winner : Nat) (s : State) : State :=
  let s := (s.incSat Reg.SEAM_ARB 16 16).wf Reg.SEAM_ARB 0 3 winner
  s.wf Reg.SEAM_ARB 4 3 ((s.rf Reg.SEAM_ARB 4 3 + 1) % 8)

/-- Step 1 of HIBERNATE entry (R38): every waiting commit and pending snapshot request cancelled, every hold ended, all
staged values discarded; fault 0x0002 once for each commit. DEDUCED (log 63): SEAM_SNAP_STATUS reads NONE where a request or a hold
ended. -/
def seamHibernate (s : State) : State :=
  let s := allPanels.foldl (fun s p =>
    let x := seamOf s p
    let s := if x.commit.isSome then raise 0x0002 (seamCode p 5 s) else s
    if x.snapReq.isSome ∨ x.held.isSome then (snapCode p 0 s).wf (sb p Reg.SEAM_SNAP_STATUS) 0 10 0 else s) s
  { s with seam := [], shadow := [] }

end Sys2Proof.Machine
end

