-- ==== Sys2Proof/Machine/Hosts.lean ====
section
/-!
DEFINITION. Panels and host ports (R356 to R386): panel reset, the record of failed host writes, the mailboxes, the kept
response and the interrupt land of a quad-SPI port, the configuration space, MSI-X table, resets and links of PCIe.
-/

namespace Sys2Proof.Machine

def HST_PAGE : Nat := 0x40

def portOf (s : State) (q : Nat) : QspiPort := sget (fun _ => QspiPort.reset) s.hst.ports q
def setPort (q : Nat) (x : QspiPort) (s : State) : State :=
  { s with hst := { s.hst with ports := sset (fun _ => QspiPort.reset) s.hst.ports q x } }

/-- The panel a session's accesses carry: its partner's (R486). -/
def sesPanel (s : State) (slot : Nat) : Nat :=
  (sget (fun _ => Enrol.reset) s.ses.enrol (sget (fun _ => Slot.reset) s.ses.slots slot).partner).panel

/-- The panel an initiator carries (R20, R356, R363, R486). -/
def panelFor (s : State) (i : Initiator) : Nat := panelOf s (sesPanel s) i

/-- The recovery port of R118: quad-SPI port 0 or PCIe function 0, by the strap IO0_3 (R113). -/
def isRecoveryPort (s : State) : Initiator → Bool
  | .qspi q => q.val == 0 && !s.strapPort
  | .pcie f => f.val == 0 && s.strapPort
  | _ => false

/-- A host port that R363 turns away: every port but the recovery port in the SAFE of R118. -/
def hostBarred (s : State) (i : Initiator) : Bool :=
  match i with
  | .pcie _ | .qspi _ => s.mode == .safe && s.pat.recovery && !isRecoveryPort s i
  | _ => false

/-! ### Panel reset and error record (R362, R384) -/

/-- The PCIe functions and quad-SPI ports assigned to panel p, as session-engine ports. -/
def portsOf (s : State) (p : Nat) : List Nat :=
  ((List.finRange 4).filter fun f => panelFor s (.pcie f) == p).map (·.val)
    ++ ((List.finRange 2).filter fun q => panelFor s (.qspi q) == p).map (·.val + 4)

/-- The frames of a port dropped, with a quad-SPI port's kept response (R362 step 3). -/
def dropPort (k : Nat) (s : State) : State :=
  let s := { s with ses := { s.ses with inbox := s.ses.inbox.filter (·.1 != k) } }
  if k < 4 then setFn k { fnOf s k with out := [] } s else setPort (k - 4) .reset s

/-- A panel reset (R362). -/
def panelReset (p : Nat) (s : State) : State :=
  let s := dropStaged p s
  let s := setSeam p .reset (seamCode p 6 s)
  let s := s.wf (sb p Reg.SEAM_STAGE) 17 1 0
  let s := (snapCode p 0 s).wf (sb p Reg.SEAM_SNAP_STATUS) 0 10 0
  let s := (portsOf s p).foldl (fun s k => dropPort k s) s
  let s := (s.wrg (bank p Reg.PNL_ERR) 0).wrg64 (bank p Reg.PNL_ERR_ADDR) 0
  hstScan (raise (0x0110 + p) (irq 1 0 s))

/-- A write of PNL_RESET by panel `by'` (R362): false, and nothing reset, where it names a panel it may not reset. -/
def panelResets (by' : Nat) (v : Word) (s : State) : State × Bool :=
  let l := bitsOf 8 v.toNat
  if l.all fun p => p == by' || (by' == 0 && !holds s p) then (l.foldl (fun s p => panelReset p s) s, true) else (s, false)

/-- The reason code of PNL_ERR. -/
def errReason : Rsp → Nat
  | .access => 1
  | .ecc => 2
  | _ => 0

/-- A failed posted write or mailbox write of PCIe function f (R19, R371, R384). -/
def noteHostErr (f : Fin 4) (addr : Nat) (r : Rsp) (s : State) : State :=
  let p := panelFor s (.pcie f)
  let e := bank p Reg.PNL_ERR
  if s.rb e 31 then s.incSat e 8 4
  else (s.wrg e (w32 (2 ^ 31 + f.val * 2 ^ 16 + errReason r))).wrg64 (bank p Reg.PNL_ERR_ADDR) (addr % 2 ^ 40)

/-! ### Frames (R371, R377) -/

/-- The session engine has not taken the frame of a port yet. -/
def inBusy (s : State) (k : Nat) : Bool := s.ses.inbox.any (·.1 == k)

/-- A frame for the session engine. -/
def postFrame (k : Nat) (l : List Byte) (s : State) : State :=
  { s with ses := { s.ses with inbox := s.ses.inbox ++ [(k, l)] } }

/-- A frame that the session engine sends through a port (R371, R377, R78); at a partner port it waits for room in the 4 KiB buffer. -/
def sendFrame (k : Nat) (l : List Byte) (s : State) : State :=
  if k < 4 then hstScan (setFn k { fnOf s k with out := (fnOf s k).out ++ [l] } s)
  else if k < 8 then setPort (k - 4) { portOf s (k - 4) with out := (portOf s (k - 4)).out ++ [l] } s
  else
    let mine := fun (x : Nat × List Byte) => x.1 == k - 8
    if ((s.fab.ppTx.filter mine).map (·.2.length)).sum + l.length ≤ 4096 ∧ !s.fab.ppWait.any mine then
      { s with fab := { s.fab with ppTx := s.fab.ppTx ++ [(k - 8, l)] } }
    else { s with fab := { s.fab with ppWait := s.fab.ppWait ++ [(k - 8, l)] } }

/-- A port still holds a frame that the other side has not taken (R488). -/
def outBusy (s : State) (k : Nat) : Bool :=
  if k < 4 then !(fnOf s k).out.isEmpty else if k < 8 then !(portOf s (k - 4)).out.isEmpty
  else s.fab.ppTx.any (·.1 == k - 8) || s.fab.ppWait.any (·.1 == k - 8)

/-- The modes in which the host ports work (R382). -/
def hostsWork (s : State) : Bool :=
  match opMode s with | .run | .service | .doze | .swap | .safe => true | _ => false

/-- The address of the MBX registers in PNL_ERR_ADDR: the module gives BAR2 no physical address; its offset is recorded. -/
def mbxAddr : Nat := 0x43000

/-- Bytes written to MBX_IN by function f (R367, R371): false where IN_BUSY keeps them out. -/
def mbxPut (f : Fin 4) (bytes : List (Nat × Byte)) (s : State) : State × Bool :=
  if inBusy s f then (s, false)
  else
    let x := fnOf s f
    let buf := bytes.foldl (fun m b => if b.1 < 4096 then sset (fun _ => (0 : Byte)) m b.1 b.2 else m) x.mbxIn
    (setFn f { x with mbxIn := buf } s, true)

/-- A write of MBX_IN_LEN (R367, R371): the first L bytes of MBX_IN are posted; false where IN_BUSY or the range of L forbids it. -/
def mbxPost (f : Fin 4) (len : Nat) (s : State) : State × Bool :=
  if inBusy s f ∨ len < 16 ∨ 4096 < len then (s, false)
  else (hstScan (postFrame f ((List.range len).map (sget (fun _ => 0) (fnOf s f).mbxIn)) s), true)

/-- Writes of MBX_IN by function f, then of MBX_IN_LEN (R367, R371). -/
def mbxIn (f : Fin 4) (bytes : List (Nat × Byte)) (len : Nat) (s : State) : State :=
  if !s.hst.linkUp ∨ !hostsWork s ∨ inD3 s f then s
  else if hostBarred s (.pcie f) then noteHostErr f mbxAddr .access s
  else
    let r := mbxPost f len (mbxPut f bytes s).1
    if r.2 then r.1 else noteHostErr f mbxAddr .access r.1

/-- A write of MBX_OUT_DONE (R371): 1 releases the waiting frame; a frame held for the function follows. -/
def mbxDone (f : Fin 4) (v : Word) (s : State) : State :=
  if !s.hst.linkUp ∨ !hostsWork s ∨ inD3 s f then s
  else if hostBarred s (.pcie f) then noteHostErr f (mbxAddr + 8) .access s
  else if bit v 0 then
    let rest := (fnOf s f).out.drop 1
    let s := hstScan (setFn f { fnOf s f with out := [] } s)
    hstScan (setFn f { fnOf s f with out := rest } s)
  else s

/-! ### PCIe (R364, R365, R370, R372) -/

/-- The DWs of the configuration space at reset: the header of R364, and the capabilities at 0x40 (power management),
0x70 (PCI Express), 0xB0 (MSI-X), 0x100 (AER), 0x140 (device serial number) and 0x150 (secondary PCI Express). -/
def cfgReset (f : Nat) (uid : Nat) (i : Nat) : Word :=
  match i with
  | 0 => 0x64801F2D
  | 1 => 0x00100000
  | 2 => w32 (0x11800000 + moduleRev)
  | 3 => if f = 0 then 0x00800000 else 0
  | 8 => 0xC
  | 11 => 0x64801F2D
  | 13 => 0x40
  | 16 => 0x00037001
  | 28 => 0x0002B010
  | 29 => 0x10008001
  | 31 => 0x00000843
  | 39 => 0x0000000E
  | 40 => 0x00000003
  | 44 => 0x003F0011
  | 45 => 0x00040002
  | 46 => 0x00040802
  | 64 => 0x14020001
  | 67 => 0x00462030
  | 69 => 0x00002000
  | 80 => 0x15010003
  | 81 => w32 uid
  | 82 => w32 (uid / 2 ^ 32)
  | 84 => 0x00010019
  | _ => 0

/-- The bits of a configuration DW that a write changes: Command, the BARs by size (R365), interrupt line, PMCSR power state,
Device and Link Control, MSI-X control, the AER masks and severity. -/
def cfgMask (i : Nat) : Word :=
  match i with
  | 1 => 0x00000546
  | 4 => 0xFFF00000
  | 6 => 0xFFF80000
  | 8 => 0xE0000000
  | 9 => 0xFFFFFFFF
  | 15 => 0x000000FF
  | 17 => 0x00000003
  | 30 => 0x00007FFF
  | 32 => 0x00000FFF
  | 40 => 0x0000000F
  | 44 => 0xC0000000
  | 66 | 67 | 69 | 70 => 0xFFFFFFFF
  | _ => 0

/-- A DW of the configuration space as it reads: the Link Status half of DW 32 shows the link's speed and width. -/
def cfgWord (s : State) (f i : Nat) : Word :=
  let w := sget (cfgReset f s.thm.uid.toNat) (fnOf s f).cfg i
  if i = 32 then setFld (setFld w 16 4 s.hst.speed) 20 6 s.hst.width else w

/-- Function f at its reset state, its mailbox frames discarded (R372); a source that stays 1 does not rise (R370). -/
def fnReset (f : Nat) (s : State) : State := hstScan (dropPort f (setFn f { PcieFn.reset with level := (fnOf s f).level } s))

/-- An FLR of function f (R372, R385). -/
def flr (f : Nat) (s : State) : State := irq HST_PAGE 3 (fnReset f s)

/-- The source LINK with a change of LINK_UP (R385). -/
def setLink (up : Bool) (speed width : Nat) (s : State) : State :=
  let was := s.hst.linkUp
  let s := { s with hst := { s.hst with linkUp := up, speed := speed, width := width } }
  if was = up then s else irq HST_PAGE 0 s

/-- PERST_N, or a hot reset (R372): all functions reset, the link retrains. PERST_N low takes PCIE_REFCLK from the PLLs
(R387). -/
def perst (hot low : Bool) (s : State) : State :=
  if !hot ∧ !low then { s with clk := { s.clk with perst := true } }
  else
    let s := (List.range 4).foldl (fun s f => fnReset f s) s
    let s := { s with hst := { s.hst with held := [] } }
    let s := irq HST_PAGE 4 (setLink false 0 0 s)
    if hot then s else refLost 2 0 { s with clk := { s.clk with perst := false } }

/-- The link is lost (R372, R386): requests not yet performed are discarded. -/
def linkDown (s : State) : State :=
  if !s.hst.linkUp then s
  else
    let s := setLink false 0 0 { s with hst := { s.hst with held := [] } }
    let s := s.incSat Reg.HST_PCIE_CNT 16 16
    if s.clk.perst then raise 0x4001 s else s

/-- Training completes (R382, R385); a link that is up has been through Recovery. The link trains at 2.5, 5 or 8 GT/s and at ×1, ×2 or ×4 only (R364). -/
def linkTrained (speed width : Nat) (s : State) : State :=
  if (!hostsWork s ∧ s.mode ≠ .nap) ∨ !(List.contains [1, 2, 3] speed && List.contains [1, 2, 4] width) then s
  else if s.hst.linkUp then setLink true speed width (s.incSat Reg.HST_PCIE_CNT 0 16)
  else setLink true speed width s

/-- Bit `b` of a status register of function f's AER capability: DW 65 uncorrectable, 68 correctable. -/
def aerStatus (f i b : Nat) (s : State) : State :=
  let x := fnOf s f
  setFn f { x with cfg := sset (cfgReset f s.thm.uid.toNat) x.cfg i (w32 (nset (cfgWord s f i).toNat b)) } s

/-- An error the endpoint reports through AER (R385, R386): its status bit, and, where the capability does not mask it, the count, the
source and fault 0x4002. -/
def aerError (f : Nat) (uncorrectable : Bool) (b : Nat) (s : State) : State :=
  if !s.hst.linkUp then s
  else
    let masked := (cfgWord s f (if uncorrectable then 66 else 69)).toNat.testBit b
    let s := aerStatus f (if uncorrectable then 65 else 68) b s
    if masked then s
    else if uncorrectable then raise 0x4002 (irq HST_PAGE 1 (s.incSat Reg.HST_PCIE_AER 16 16))
    else irq HST_PAGE 2 (s.incSat Reg.HST_PCIE_AER 0 16)

/-- A read answered with Completer Abort is logged in AER (R19): an advisory error, of which the capability reports the correctable side,
unless its severity is set to fatal. -/
def aerAbort (f : Nat) (s : State) : State :=
  if (cfgWord s f 67).toNat.testBit 15 then aerError f true 15 s
  else
    let masked := (cfgWord s f 66).toNat.testBit 15
    let s := aerStatus f 65 15 s
    if masked then s else aerError f false 13 s

/-- Vectors that are pending and no longer masked send their message if their source is still 1 (R370). -/
def unmaskScan (f : Nat) (s : State) : State :=
  (List.range 64).foldl (fun s v =>
    let x := fnOf s f
    if x.pba.getLsbD v && !msixMasked s f v then
      let s := setFn f { x with pba := x.pba &&& ~~~(1#64 <<< v) } s
      if sourceLevel s f v && s.rb (Reg.HST_VEC f v) 31 then sendMsg f v s else s
    else s) s

/-- A configuration DW written: status bits fall where 1 is written, a power state other than D0 and D3hot is not taken (R364), the rest changes by
cfgMask. -/
def cfgPut (s : State) (f i : Nat) (v : Word) : Word :=
  let w := cfgWord s f i
  if i = 65 ∨ i = 68 then w &&& ~~~v
  else if i = 17 ∧ (fld v 0 2 = 1 ∨ fld v 0 2 = 2) then w
  else (w &&& ~~~(cfgMask i)) ||| (v &&& cfgMask i)

/-- A configuration request (R364, R372): a read answers the DW; a write changes what cfgMask names, and Device Control
bit 15 starts an FLR. A vector that the Function Mask no longer masks sends what its PBA bit owes (R370). -/
def cfgAccess (f i : Nat) (rw : Rw) (v : Word) (s : State) : State :=
  match rw with
  | .read => s.answer .okay [(cfgWord s f i).setWidth 64]
  | .write =>
    if i = 30 ∧ bit v 15 then (flr f s).answer .okay
    else
      let x := fnOf s f
      let s := setFn f { x with cfg := sset (cfgReset f s.thm.uid.toNat) x.cfg i (cfgPut s f i v) } s
      (if i = 44 then unmaskScan f s else s).answer .okay

/-- A DW of a function's MSI-X table as it reads. -/
def msixWord (s : State) (f i : Nat) : Word := sget msixReset (fnOf s f).msix i

/-- A write of DW i of a function's MSI-X table (R367, R370). -/
def msixWrite (f i : Nat) (v : Word) (s : State) : State :=
  if !s.hst.linkUp ∨ !hostsWork s ∨ inD3 s f then s
  else
    let x := fnOf s f
    let w := if i % 4 = 3 then v &&& 1 else if i % 4 = 0 then v &&& 0xFFFFFFFC else v
    unmaskScan f (setFn f { x with msix := sset msixReset x.msix (i % 256) w } s)

/-! ### Quad-SPI ports (R373 to R381) -/

/-- A quad-SPI port takes requests: EN, and a mode in which CS_N counts (R382). -/
def qspiOn (s : State) (q : Nat) : Bool := s.rb (Reg.HST_QSPI_CFG q) 0 && hostsWork s

/-- QSPIn_INT_N is driven low (R380). -/
def intLow (s : State) (q : Nat) : Bool :=
  ((List.range 3).any fun k => (s.rg (Reg.HST_QSPI_SRC q k) &&& w32 ((List.range 32).foldl (fun a n =>
      if (pageOf (32 * k + n)).isSome && pageIrq s (32 * k + n) then a + 2 ^ n else a) 0)) != 0)
    || (s.rb (Reg.HST_QSPI_CFG q) 1 && !(portOf s q).out.isEmpty)

/-- The CRC that ends a request (R374). -/
def reqCrc (opc tag : Nat) (body : List Byte) : Word := w32 (crc32c (natLe opc 1 ++ natLe tag 1 ++ body))

/-- IRQ source QSPIn_ERR and a count of HST_QSPI_ERRn (R378): 24 CRC, 16 ABORTED, 8 REPEATED, 0 BAD_ARG. -/
def qspiCount (q lo : Nat) (s : State) : State :=
  let s := s.incSat (Reg.HST_QSPI_ERR q) lo 8
  if lo = 24 ∨ lo = 0 then irq HST_PAGE (5 + q) s else s

/-- The response to a request (R374): STATUS, the request's TAG, the body, and SCRC over them; the answer's code is STATUS, its data what follows. -/
def respond (tag status : Nat) (body : List Byte) (s : State) : State :=
  let crc := crc32c (natLe status 1 ++ natLe tag 1 ++ body)
  s.answer .okay ((natLe tag 1 ++ body ++ natLe crc 4).map (·.setWidth 64)) status

/-- A request whose last RCRC byte has come (R375, R376): ignored where the port is off; STATUS CRC; the kept response
again; else executed by `run`, which gives the STATUS and the body: kept from the start of its execution, unless the request itself drops
what is kept. -/
def qspiRun (q opc tag : Nat) (crc : Word) (body : List Byte) (run : State → State × Nat × List Byte) (s : State) : State :=
  if !qspiOn s q then s
  else if crc ≠ reqCrc opc tag body then respond tag 0x10 [] (qspiCount q 24 s)
  else
    let k := (portOf s q).kept
    if k.any fun k => k.tag == tag && k.crc == crc then
      let s := qspiCount q 8 s
      match k with
      | some k => respond tag k.status k.body s
      | none => s
    else
      let r := run (setPort q { portOf s q with kept := some ⟨tag, crc, 0, []⟩ } s)
      let s := if r.2.1 = 0x11 then qspiCount q 0 r.1 else r.1
      let s := if (portOf s q).kept.isSome then setPort q { portOf s q with kept := some ⟨tag, crc, r.2.1, r.2.2⟩ } s else s
      respond tag r.2.1 r.2.2 s

/-- CS_N rises before the last RCRC byte (R375). -/
def qspiAbort (q : Nat) (s : State) : State := if qspiOn s q then qspiCount q 16 s else s

/-- STATUS of a response code (R378). -/
def statusOf : Rsp → Nat
  | .okay => 0 | .decode => 1 | .ecc => 3 | _ => 2

/-- S_SEND (R377, R378). -/
def sSend (q : Nat) (frame : List Byte) (s : State) : State × Nat × List Byte :=
  if frame.length < 16 ∨ 4096 < frame.length then (s, 0x11, [])
  else if inBusy s (q + 4) then (s, 0x12, [])
  else (postFrame (q + 4) frame s, 0, [])

/-- S_RECV (R377, R378). -/
def sRecv (q : Nat) (s : State) : State × Nat × List Byte :=
  match (portOf s q).out with
  | [] => (s, 0x13, [])
  | l :: r => (setPort q { portOf s q with out := r } s, 0, natLe l.length 2 ++ l)

/-- PORT_STATUS (R377). -/
def portStatusWord (s : State) (q : Nat) : Nat :=
  b2n (!(portOf s q).out.isEmpty) + 2 * b2n (inBusy s (q + 4)) + 16 * panelFor s (.qspi (Fin.ofNat 2 q)) + 128 * b2n (intLow s q)

/-- A write of HST_QSPI_CFGn: a change of EN drops the kept response (R376). -/
def qspiCfgWrite (q : Nat) (v : Word) (s : State) : State :=
  let r := Reg.HST_QSPI_CFG q
  let s := if bit (s.rg r) 0 = bit v 0 then s else setPort q { portOf s q with kept := none } s
  s.wrg r (v &&& 3)

/-! ### Computed reads -/

/-- HST STATUS without FAULT (R385). -/
def hstStatus (s : State) : Nat :=
  b2n s.hst.linkUp * 2 ^ 30 + s.hst.speed * 2 ^ 28 + s.hst.width * 2 ^ 24
    + (List.range 4).foldl (fun a f => if busMaster s f then a + 2 ^ (16 + f) else a) 0

/-- HST_MBX (R385). -/
def mbxWord (s : State) : Nat :=
  (List.range 4).foldl (fun a f => a + (b2n (inBusy s f) + 2 * b2n (!(fnOf s f).out.isEmpty)) * 2 ^ (4 * f)) 0
    + (List.range 2).foldl (fun a q => a + (b2n (inBusy s (q + 4)) + 2 * b2n (!(portOf s q).out.isEmpty)) * 2 ^ (16 + 2 * q)) 0

end Sys2Proof.Machine
end

