-- ==== Sys2Proof/Machine/Faults.lean ====
section
/-!
DEFINITION. Monitors, the fault collector and isolation (R537 to R551): temperature samples, local supply faults, the log with
its merges and rules, and the isolation of bolts and clusters.
-/

namespace Sys2Proof.Machine

def MON_PAGE : Nat := 0x51
def FLT_PAGE : Nat := 0x52

/-- STATUS.ALERT is set, IRQ source ALERT (R545). -/
def setAlert (s : State) : State := irq FLT_PAGE 1 { s with flt := { s.flt with alert := true } }

/-- A fault whose record shows that it caused an isolation. -/
def raiseIsolating (code : Nat) (isolates : Bool) (s : State) : State :=
  intakePush ⟨code, s.now, s.mode, false, isolates, 0⟩ (faultNote code s)

/-- The collector isolates a bolt (R543). -/
def isolateBolt (b : Nat) (s : State) : State :=
  if s.rb Reg.FAB_BOLT_OFF b then s else irq FLT_PAGE 2 (raise 0x5201 (boltOff b s))

/-- Isolating cluster k would leave no cluster running (R544). -/
def lastCluster (s : State) (k : Nat) : Bool := (List.range 4).all fun i => i == k || clusterOff s i

/-- CORE_CLUSTER_OFF of a cluster is set (R186), unless that would leave none: SAFE with fault 0x5205 (R544). -/
def isolateCluster (k : Nat) (s : State) : State :=
  if clusterOff s k then s else if lastCluster s k then raiseSafe 0x5205 s else clusterOffSet k s

/-- The collector isolates a cluster (R543). -/
def collectCluster (k : Nat) (s : State) : State :=
  if clusterOff s k then s
  else if lastCluster s k then raiseSafe 0x5205 s
  else irq FLT_PAGE 2 (raise 0x5202 (clusterOffSet k s))

def boltEn (s : State) : Bool := s.rb Reg.FLT_ISO_CFG 31
def clusterEn (s : State) : Bool := s.rb Reg.FLT_ISO_CFG 30

/-- The monitors have power. -/
def monitorsOn (s : State) : Bool := match s.mode with | .off | .hold | .hibernate => false | _ => true

/-! ### Local supplies (R539) -/

/-- A sample of a domain's local VDD_CORE, in mV. -/
def noteVdd (d mv : Nat) (s : State) : State :=
  let r := Reg.MON_VDD d
  (s.wf r 0 16 mv).wf r 16 16 (min (s.rf r 16 16) (min mv 65535))

/-- A cause in a domain (0 to 7 bolt, 8 to 11 cluster) isolates it now (R543, R544). -/
def isolates (s : State) (d : Nat) : Bool :=
  if d < 8 then boltEn s && !s.rb Reg.FAB_BOLT_OFF d else clusterEn s && !clusterOff s (d - 8) && !lastCluster s (d - 8)

/-- The collector acts on a cause in a domain (R543). -/
def collect (d : Nat) (s : State) : State := if d < 8 then isolateBolt d s else collectCluster (d - 8) s

/-- A local supply fault of a domain that has lasted 1 µs (R539, R543). -/
def localFault (d mv : Nat) (s : State) : State :=
  if !monitorsOn s then s
  else
    let en := if d < 8 then boltEn s else clusterEn s
    let s := (noteVdd d mv s).wb Reg.MON_LOCAL d true
    let s := irq MON_PAGE 2 (raiseIsolating 0x5103 (isolates s d) s)
    if en then collect d s else raiseSafe 0x5203 s

/-! ### Temperatures (R537, R538) -/

def sensorOf (s : State) (n : Nat) : Sensor := sget (fun _ => Sensor.reset) s.sensors n
def setSensor (n : Nat) (x : Sensor) (s : State) : State := { s with sensors := sset (fun _ => Sensor.reset) s.sensors n x }

/-- MON_TEMP.NOW as a signed number of 0.125 °C. -/
def tempOf (s : State) (n : Nat) : Int := (BitVec.ofNat 16 (s.rf (Reg.MON_TEMP n) 0 16)).toInt

/-- WARN and CRIT in 0.125 °C. -/
def warnAt (s : State) : Int := 8 * (s.rf Reg.MON_THRESH 0 8 : Nat)
def critAt (s : State) : Int := 8 * (s.rf Reg.MON_THRESH 16 8 : Nat)

/-- A sensor fails (R537): fault 0x5104, IRQ source SENSOR; it reads 0x8000. -/
def sensorFails (n : Nat) (s : State) : State :=
  let s := s.wf (Reg.MON_TEMP n) 0 16 0x8000
  irq MON_PAGE 3 (raise 0x5104 (setSensor n { Sensor.reset with failed := true, sampled := true } s))

/-- Since when a reading is at or above a threshold. -/
def heldSince (now : Nat) (at? : Bool) (old : Option Nat) : Option Nat := if at? then some (old.getD now) else none

/-- A condition has been held for 1 ms. -/
def heldMs (now : Nat) : Option Nat → Bool
  | some t => decide (t + 1000000 ≤ now)
  | none => false

/-- One sensor's sample (R537): its reading, and whether its two paths differ by more than 5 °C. -/
def sampleOne (n : Nat) (v : BitVec 16) (differ : Bool) (s : State) : State :=
  let x := sensorOf s n
  if x.failed then s
  else
    let since := if differ then some (x.badSince.getD s.now) else none
    if v.toInt < -440 ∨ 1200 < v.toInt ∨ heldMs s.now since then sensorFails n s
    else
      let r := Reg.MON_TEMP n
      let peak := BitVec.ofNat 16 (s.rf r 16 16)
      let s := (s.wf r 0 16 v.toNat).wf r 16 16 (if peak.toInt < v.toInt then v.toNat else peak.toNat)
      setSensor n { x with badSince := since, sampled := true } s

/-- The action of a CRIT reading of sensor n (R538, R543). -/
def critAct (n : Nat) (s : State) : State :=
  let cool := (List.range 16).all fun k => k == n || (sensorOf s k).failed || decide (tempOf s k < warnAt s)
  let iso := decide (n < 12) && cool
  let en := if n < 8 then boltEn s else clusterEn s
  let s := irq MON_PAGE 1 (raiseIsolating 0x5102 (iso && isolates s n) s)
  if iso then (if en then collect n s else s)
  else if s.rb Reg.MON_THRESH 24 then raiseSafe 0x5106 s else s

/-- The rules of R538 for one sensor, on its reading as it stands. -/
def tempRules (s : State) (n : Nat) : State :=
  let x := sensorOf s n
  if x.failed ∨ !x.sampled then s
  else
    let t := tempOf s n
    let s := if warnAt s ≤ t ∧ !x.warned then irq MON_PAGE 0 (raise 0x5101 s) else s
    let crit := heldSince s.now (decide (critAt s ≤ t)) x.critSince
    let trip := heldSince s.now (decide (1080 ≤ t)) x.tripSince
    let actC := heldMs s.now crit && !x.crited
    let actT := heldMs s.now trip && !x.tripped
    let y := { x with
      warned := if warnAt s ≤ t then true else if t ≤ warnAt s - 40 then false else x.warned
      critSince := crit
      tripSince := trip
      crited := if actC then true else if t ≤ critAt s - 40 then false else x.crited
      tripped := if actT then true else if t ≤ 1040 then false else x.tripped }
    let s := setSensor n y s
    let s := if actC then critAct n s else s
    if actT then raiseSafe 0x5105 s else s

/-- A sample of every sensor and local supply (R537 to R539): a reading and the difference of the paths of each sensor, the local voltages. -/
def takeSamples (readings : List (BitVec 16 × Bool)) (vdd : List Nat) (s : State) : State :=
  let s := ((List.range 16).zip readings).foldl (fun s p => sampleOne p.1 p.2.1 p.2.2 s) s
  let s := ((List.range 12).zip vdd).foldl (fun s p => noteVdd p.1 p.2 s) s
  (List.range 16).foldl tempRules s

/-- The 100 µs sample. -/
def tempSample (readings : List (BitVec 16 × Bool)) (vdd : List Nat) (s : State) : State :=
  if monitorsOn s then takeSamples readings vdd s else s

/-- STATUS.BLOCK [15:0] of MON (R549). -/
def monStatus (s : State) : Nat :=
  (List.range 16).foldl (fun a n =>
    let x := sensorOf s n
    if x.sampled && !x.failed && decide (warnAt s ≤ tempOf s n) then a + 2 ^ n else a) 0

/-- A write of MON_THRESH (R549); false: ACCESS. -/
def threshOk (v : Word) : Bool :=
  decide (80 ≤ fld v 0 8) && decide (fld v 0 8 ≤ 125) && decide (fld v 0 8 + 5 ≤ fld v 16 8) && decide (fld v 16 8 ≤ 130)

/-! ### The log (R540 to R543) -/

/-- The codes that enter SAFE by themselves (R542). -/
def safeCode (c : Nat) : Bool :=
  [0x0203, 0x0605, 0x0A03, 0x2204, 0x4802, 0x5003, 0x5004, 0x5106, 0x5105, 0x5203, 0x5205].contains c

/-- The codes that set STATUS.ALERT by themselves (R545): those of R538, R539 and R542, and those of the isolations (R83, R186, R543). -/
def alertCode (c : Nat) : Bool :=
  safeCode c || [0x5101, 0x5102, 0x5103, 0x5201, 0x5202, 0x0B03, 0x1003, 0x1403, 0x1803, 0x1C03].contains c

/-- The whole hour of a time. -/
def hourOf (t : Nat) : Nat := t / 3600000000000

/-- The counts of an hour start again in a new one (R261, R542, R543). -/
def hourRoll (s : State) : State :=
  if s.flt.hour = hourOf s.now then s
  else { s with flt := { s.flt with hour := hourOf s.now, ruleCnt := [], boltCnt := [], cluCnt := [] } }

/-- One more in a count. -/
def countUp (m : List (Nat × Nat)) (k : Nat) : List (Nat × Nat) := sset (fun _ => 0) m k (sget (fun _ => 0) m k + 1)

/-- Rule n matches a code (R542). -/
def ruleMatches (s : State) (n code : Nat) : Bool :=
  let r := Reg.FLT_RULE n
  s.rb (r + 4) 31 && (code ^^^ s.rf r 0 16) &&& s.rf r 16 16 == 0

/-- The rules at one code (R542): whether one acts with ALERT, and how many act with SAFE. -/
def runRules (code : Nat) (s : State) : State × Bool × Nat :=
  (List.range 16).foldl (fun (a : State × Bool × Nat) n =>
    let s := a.1
    if ruleMatches s n code then
      let c := sget (fun _ => 0) s.flt.ruleCnt n + 1
      let lim := max 1 (s.rf (Reg.FLT_RULE n + 4) 8 8)
      let act := s.rf (Reg.FLT_RULE n + 4) 24 2
      ({ s with flt := { s.flt with ruleCnt := countUp s.flt.ruleCnt n } },
        a.2.1 || (act == 1 && decide (lim ≤ c)), a.2.2 + b2n (act == 2 && c == lim))
    else a) (s, false, 0)

/-- The isolation counts of R543 at one code: the domain that reaches its limit. -/
def runCounts (x : Intake) (s : State) : State × Option Nat :=
  if x.code = 0x0A02 then
    let c := sget (fun _ => 0) s.flt.boltCnt x.bolt + 1
    let s := { s with flt := { s.flt with boltCnt := countUp s.flt.boltCnt x.bolt } }
    (s, if boltEn s ∧ c = s.rf Reg.FLT_ISO_CFG 0 8 then some x.bolt else none)
  else if 0x1001 ≤ x.code ∧ x.code ≤ 0x1F01 ∧ x.code % 256 = 1 then
    let k := (x.code / 256 - 0x10) / 4
    let c := sget (fun _ => 0) s.flt.cluCnt k + 1
    let s := { s with flt := { s.flt with cluCnt := countUp s.flt.cluCnt k } }
    (s, if clusterEn s ∧ c = s.rf Reg.FLT_ISO_CFG 8 8 then some (8 + k) else none)
  else (s, none)

/-- FLAGS of a record: ALERT, SAFE, ISOLATE, PRIOR (R541). -/
def recFlagBits (alert safe iso prior : Bool) : Nat := b2n alert + 2 * b2n safe + 4 * b2n iso + 8 * b2n prior

/-- A record added to the log, or merged into the newest (R540, R541). The 8 newest are copied to Selvage. -/
def addRecord (x : Intake) (alert iso : Bool) (s : State) : State :=
  let flags := recFlagBits alert x.safe iso false
  let merge := match s.flt.log with
    | r :: _ => r.code == x.code && decide (x.time ≤ r.time + 1000000) && r.flags / 8 == 0
    | [] => false
  let log := match s.flt.log, merge with
    | r :: l, true => { r with rep := satInc r.rep 16, flags := r.flags ||| flags } :: l
    | l, _ => (⟨x.time, x.code, s.flt.seq, x.mode.code, flags, 0⟩ :: l).take 256
  let s := { s with flt := { s.flt with
    log := log, kept := log.take 8, seq := if merge then s.flt.seq else (s.flt.seq + 1) % 65536 } }
  if merge then s else irq FLT_PAGE 0 (s.incSat Reg.FLT_COUNT 0 16)

/-- The collector logs one code (R540 to R543, R545). -/
def logOne (s : State) (x : Intake) : State :=
  let s := hourRoll s
  let r := runRules x.code s
  let c := runCounts x r.1
  let alert := alertCode x.code || r.2.1
  let s := addRecord x alert (x.isolate || c.2.any (isolates c.1)) c.1
  let s := if alert then setAlert s else s
  let s := match c.2 with | some d => collect d s | none => s
  (List.range r.2.2).foldl (fun s _ => raiseSafe 0x5203 s) s

/-- Codes in ascending order where they arrived at one time (R540). -/
def insCode (x : Intake) : List Intake → List Intake
  | [] => [x]
  | y :: l => if x.time = y.time ∧ x.code < y.code then x :: y :: l else y :: insCode x l

/-- A cycle of the collector (R540): up to four codes are logged. Once the buffer has room after a loss, fault 0x5204. -/
def faultLog (s : State) : State :=
  let sorted := s.flt.intake.foldl (fun l x => insCode x l) []
  let s := { s with flt := { s.flt with intake := sorted.drop 4 } }
  let s := (sorted.take 4).foldl logOne s
  if s.flt.lossDue ∧ s.flt.intake.length < 64 then
    irq FLT_PAGE 3 (raise 0x5204 { s with flt := { s.flt with lossDue := false } })
  else s

/-- A write of FLT_ACK (R545). -/
def fltAck (v : Word) (s : State) : State := if bit v 0 then { s with flt := { s.flt with alert := false } } else s

/-- The log at a start and at a wake from HIBERNATE (R541): the kept records, PRIOR. -/
def fltRestart (s : State) : State :=
  let prior := s.flt.kept.map fun r => { r with flags := r.flags % 8 + 8 }
  { s with flt := { Flt.reset with log := prior, kept := prior, seq := s.flt.seq } }

/-- ALERT_N is driven low (R421, R545, R583). -/
def alertLow (s : State) : Bool := s.flt.alert || s.pwr.modReset.isSome || s.pwr.resetN || s.pwr.alertHeld || s.mode == .safe

/-- The level Selvage drives on SAFE_N (R443, R462). -/
def safeNHigh (s : State) : Bool :=
  !s.pwr.resetN && s.pwr.modReset.isNone && !s.pwr.wakeHeld
    && (match s.mode with | .run | .service | .doze | .nap | .swap | .hibernate => true | _ => false)

/-! ### Computed reads -/

def fltStatus (s : State) : Nat :=
  b2n s.flt.alert * 2 ^ 30 + b2n (s.rb Reg.FLT_SAFE_CAUSE 31) * 2 ^ 29 + b2n s.flt.overflow * 2 ^ 28 + s.flt.log.length

def fltCode (s : State) : Nat := match s.flt.log with | r :: _ => r.code | [] => 0

/-- The 16 bytes of a record as a number (R541). -/
def recNum (r : FltRec) : Nat :=
  r.time % 2 ^ 64 + r.code * 2 ^ 64 + r.seq * 2 ^ 80 + r.mode * 2 ^ 96 + r.flags * 2 ^ 104 + r.rep * 2 ^ 112

/-- FLT_LOGk: bytes of the record selected by FLT_LOG_SEL. -/
def fltLogWord (s : State) (k : Nat) : Nat :=
  match s.flt.log[s.rf Reg.FLT_LOG_SEL 0 8]? with
  | some r => nfld (recNum r) (32 * k) 32
  | none => 0

end Sys2Proof.Machine
end

