-- ==== Sys2Proof/Machine/Fitting.lean ====
section
/-!
DEFINITION. Fitting, the built-in self-test (R522 to R536): the conditions under which a slice starts, its judgement, forced slices, rounds
and idle windows, demands, and the quick test. The classes and the aborts are in Machine/Slices.lean.
-/

namespace Sys2Proof.Machine

/-- A class enabled in FIT_CLASS_EN. -/
def fitEnabled (s : State) (c : Nat) : Bool := decide (1 ≤ c) && decide (c ≤ 7) && s.rb Reg.FIT_CLASS_EN c

/-- A unit that is isolated or switched off (R530). -/
def fitGone (s : State) (c u : Nat) : Bool := (c == 1 || c == 2) && clusterOff s (u / 4)

/-- The condition of R524 on taking a unit, and no slice on it already. -/
def fitEligible (s : State) (c u : Nat) : Bool :=
  !(fitUnit s c u).failed && !s.fit.running.any (fun r => r.cls == c && r.unit == u) &&
  match c with
  | 1 | 2 =>
    let k := coreOf s u
    s.rb Reg.FIT_CORE_MASK u && !clusterOff s (u / 4) && (!k.started || (k.joined && k.thread.isNone && k.chosen.isNone))
  | 4 => !queCfg s u 31 || (prodCount s u == 0 && (queOf s u).mark.isNone && (queOf s u).owner.isNone)
  | 5 => (fbank s u).st % 2 == 0
  | _ => true

/-- Two units that no two slices use at once (R529): of one cluster, SRAM bank, flash bank or QUE page. -/
def fitClash (a b : Nat × Nat) : Bool :=
  let core := fun (c : Nat) => c == 1 || c == 2
  (core a.1 && core b.1 && a.2 / 4 == b.2 / 4) || (a.1 == b.1 && (a.1 == 3 || a.1 == 5) && a.2 == b.2)
    || (a.1 == 4 && b.1 == 4 && a.2 / 16 == b.2 / 16)

/-- FIT_CFG.MAX_PAR as it acts. -/
def fitPar (s : State) : Nat := max 1 (min (s.rf Reg.FIT_CFG 16 3) 4)

/-- The power conditions of R529 for a class: headroom and the 1.8 W sum. -/
def fitPower (s : State) (c : Nat) : Bool :=
  !s.rb 0x3008 25 && decide ((s.fit.running.map fun r => (fitClass r.cls).mw).foldl (· + ·) (fitClass c).mw ≤ 1800)

/-- The other conditions of R529: MAX_PAR, the 20 µs since the last start, and no clash. -/
def fitSpace (s : State) (c u : Nat) : Bool :=
  decide (s.fit.running.length < fitPar s)
    && (match s.fit.lastStart with | some t => decide (t + 20000 ≤ s.now) | none => true)
    && !s.fit.running.any fun r => fitClash (r.cls, r.unit) (c, u)

/-- The modes in which slices run, and those in which only demanded slices do (R534). -/
def fitMode (s : State) : Bool := match s.mode with | .run | .service | .doze | .swap => true | _ => false
def fitOn (s : State) : Bool := isEnabled s FIT_PAGE && (fitMode s || s.mode == .safe)

/-- Every class and unit, in the order of the round (R530). -/
def fitAll : List (Nat × Nat) := (List.range 7).flatMap fun c => (List.range (fitClass (c + 1)).units).map fun u => (c + 1, u)

/-- The slices that could start, in the order of R527, R532 and R530: the forced slices of an open window, before any other; then the demanded
slices, the slices of the round. -/
def fitOrder (s : State) : List FitRun :=
  let forced := match s.fit.window with
    | some e => if s.rb Reg.FIT_CFG 31 ∧ fitMode s then
        fitAll.filterMap fun p => match (fitUnit s p.1 p.2).force with
          | some k => if s.now + (fitClass p.1).ns ≤ e ∧ fitEnabled s p.1 then some ⟨p.1, p.2, k, s.now, true, false, false⟩ else none
          | none => none
      else []
    | none => []
  let demand := s.fit.demand.filterMap fun d =>
    if (fitUnit s d.1 d.2.1).force = some d.2.2 then none else some ⟨d.1, d.2.1, d.2.2, s.now, false, false, true⟩
  let round := if fitMode s ∧ !s.fit.isDone then
      fitAll.filterMap fun p =>
        let x := fitUnit s p.1 p.2
        match x.force, fitNext p.1 x with
        | none, some k => if fitEnabled s p.1 ∧ !fitGone s p.1 p.2 then some ⟨p.1, p.2, k, s.now, false, false, false⟩ else none
        | _, _ => none
    else []
  let able := fun (l : List FitRun) => l.filter fun r => fitEligible s r.cls r.unit
  if (able forced).isEmpty then able (demand ++ round) else able forced

/-- A slice starts (R529): the first of the order that the conditions let. -/
def sliceStart (s : State) : State :=
  if !fitOn s then s
  else match (fitOrder s).find? fun r => fitPower s r.cls && fitSpace s r.cls r.unit with
    | none => s
    | some r =>
      let d := if r.demanded then s.fit.demand.erase (r.cls, r.unit, r.slice) else s.fit.demand
      { s with fit := { s.fit with running := s.fit.running ++ [r], demand := d, lastStart := some s.now } }

/-- STATUS.THROTTLED: a slice is pending only because of headroom or the power sum. -/
def fitThrottled (s : State) : Bool := fitOn s && (fitOrder s).any fun r => fitSpace s r.cls r.unit && !fitPower s r.cls

/-- A READY thread that includes a core under test and finds no free core (R524): the slice is aborted, and the thread is
dispatched where it can be. -/
def fitReady (s : State) : State :=
  if s.fit.running.isEmpty || !dispatchOn s then s
  else
    let waits := fun (c : Nat) => (s.bob.chip ++ s.bob.pbuf).any fun e =>
      current s e && (threadOf s e.thread).aff.testBit c && (freeCoreFor s e).isNone
    let t := abortSlices (fun r => (r.cls == 1 || r.cls == 2) && waits r.unit) s
    if t.fit.running.length = s.fit.running.length then s else settle t

/-! ### Judgement (R522, R523, R531) -/

/-- The code of a slice that has ended: short cycles, a wrong signature, a read that differed; 1 when it passes. -/
def fitCode (c u k cycles : Nat) (sig : DWord) (differs : Bool) : Nat :=
  if cycles ≠ (fitClass c).cycles then 4
  else if (fitClass c).misr then (if sig = Config.fitExpected c u k then 1 else 2)
  else if differs then 3 else 1

/-- The round is done when every slice of every enabled unit has passed (R530): ROUND_DONE, FIT_ROUND. -/
def fitRoundDone (s : State) : State :=
  let open' := fitAll.any fun p => fitEnabled s p.1 && !fitGone s p.1 p.2 && !(fitUnit s p.1 p.2).failed
    && (fitNext p.1 (fitUnit s p.1 p.2)).isSome
  if open' || s.fit.isDone then s
  else irq FIT_PAGE 2 ({ s with fit := { s.fit with isDone := true } }.incSat Reg.FIT_ROUND 0 32)

/-- A slice passed. -/
def fitPassed (r : FitRun) (s : State) : State :=
  let x := fitUnit s r.cls r.unit
  let wasNext := fitNext r.cls x == some r.slice
  let p := nset x.passed r.slice
  let n := (fitClass r.cls).slices
  let whole := p == 2 ^ n - 1 && x.passed != 2 ^ n - 1
  let x := { x with passed := p, aborts := if wasNext then 0 else x.aborts, force := if x.force = some r.slice then none else x.force,
                    overdue := x.overdue && x.force != some r.slice, last := if whole then s.now else x.last }
  fitRoundDone (setFitUnit r.cls r.unit x s)

/-- The action of a class (R531). -/
def fitAct (c u : Nat) (s : State) : State :=
  match s.rf Reg.FIT_ACT (2 * c) 2 with
  | 1 =>
    if c = 1 ∨ c = 2 then isolateCluster (u / 4) s
    else if c = 4 then
      let s := (queClear u s).wb (Reg.QUE_CFG u) 31 false
      { s with fit := { s.fit with barred := insRising u s.fit.barred } }
    else s
  | 2 => raiseSafe 0x5004 s
  | _ => s

/-- The uncorrectable word that the march of an SRAM slice meets in its 64 KiB (R523): one that stands there, or one at `ue`. -/
def marchMeets (r : FitRun) (ue : Option Nat) (s : State) : Option Nat :=
  let a := 0x20000000 + r.unit * 0x100000 + r.slice * 0x10000
  let inside := fun (x : Nat) => decide (a ≤ x) && decide (x < a + 0x10000)
  if r.cls ≠ 3 then none
  else match (s.ram.bad.map (8 * ·)).find? inside with
    | some x => some x
    | none => ue.filter inside

/-- A slice ends (R522, R531): pass, one repeat at once, or the unit is FAILED. `ue` is the address of an uncorrectable word that an
SRAM march met (R523). -/
def sliceDone (c u cycles : Nat) (sig : DWord) (differs : Bool) (ue : Option Nat) (s : State) : State :=
  match s.fit.running.find? fun r => r.cls == c && r.unit == u with
  | none => s
  | some r =>
    let met := marchMeets r ue s
    let s := match met with | some a => memUe 0x22 a (markBad (a / 8) s) | none => s
    let code := fitCode c u r.slice cycles sig (differs || met.isSome || (c != 3 && ue.isSome))
    let s := s.wrg64 Reg.FIT_SIG (if (fitClass c).misr then sig.toNat else 0)
    let gone := { s with fit := { s.fit with running := s.fit.running.erase r } }
    if code = 1 then
      let s := fitResult cycles c u r.slice (if r.retry then 6 else 1) gone
      fitPassed r (if r.retry then s.incSat Reg.FIT_COUNT 8 8 else s)
    else
      let s := fitResult cycles c u r.slice code s
      if !r.retry then
        { s with fit := { s.fit with running := s.fit.running.map fun x => if x = r then { r with retry := true, start := s.now } else x } }
      else
        let s := { s with fit := { s.fit with running := s.fit.running.erase r } }
        let s := setFitUnit c u { fitUnit s c u with failed := true, aborts := 0 } (s.incSat Reg.FIT_COUNT 0 8)
        fitRoundDone (fitAct c u (irq FIT_PAGE 0 (raise 0x5001 s)))

/-! ### Rounds, windows, demands (R527, R528, R530, R532) -/

/-- A new round starts when ROUND_MIN minutes have passed (R530); forced slices that have not passed are overdue (R528). -/
def roundStart (s : State) : State :=
  let len := max 1 (s.rf Reg.FIT_CFG 0 16) * 60000000000
  if !fitOn s ∨ s.mode = .safe ∨ s.now < s.fit.began + len then s
  else
    let s := fitAll.foldl (fun s p =>
      let x := fitUnit s p.1 p.2
      let late := x.force.isSome && !x.overdue
      let s := setFitUnit p.1 p.2 { x with passed := 0, overdue := x.overdue || late } s
      if late then irq FIT_PAGE 1 (raise 0x5002 s) else s) s
    { s with fit := { s.fit with began := s.now, isDone := false } }

/-- The armed window opens at the first tick at or after FIT_WINDOW_AT. -/
def windowOpen (s : State) : State :=
  if s.rb Reg.FIT_WINDOW_LEN 31 ∧ s.fit.window.isNone ∧ s.rg64 Reg.FIT_WINDOW_AT ≤ s.now then
    { s with fit := { s.fit with window := some (s.now + s.rf Reg.FIT_WINDOW_LEN 0 24 * 1000) } }
  else s

/-- The window closes; ARM clears. -/
def windowClose (s : State) : State :=
  match s.fit.window with
  | some e => if e ≤ s.now then { s.wb Reg.FIT_WINDOW_LEN 31 false with fit := { s.fit with window := none } } else s
  | none => s

/-- A write of FIT_WINDOW_LEN: ARM = 0 closes the window. -/
def windowWrite (v : Word) (s : State) : State :=
  let s := s.wrg Reg.FIT_WINDOW_LEN (v &&& 0x80FFFFFF)
  if bit v 31 then s else { s with fit := { s.fit with window := none } }

/-- A demand (R532): the slices join the queue, or it is refused. -/
def fitDemand (c u : Nat) (ks : List Nat) (s : State) : State :=
  let bad := !fitEnabled s c || decide ((fitClass c).units ≤ u) || ks.any ((fitClass c).slices ≤ ·)
  if bad then fitResult 0 c u (ks.headD 0) 7 s
  else { s with fit := { s.fit with demand := s.fit.demand ++ ks.map fun k => (c, u, k) } }

/-- ABORT_ALL (R532), as CTRL.ENABLE = 0 does (R535). -/
def fitAbortAll (s : State) : State :=
  let s := abortAll s
  { s with fit := { s.fit with demand := [] } }

/-- A write of FIT_CMD (R532, R535). -/
def fitCmd (v : Word) (s : State) : State :=
  let c := fld v 24 4
  let u := fld v 16 8
  match fld v 28 4 with
  | 1 => fitDemand c u [fld v 0 8] s
  | 2 => fitDemand c u (List.range (fitClass c).slices) s
  | 3 => fitAbortAll s
  | _ => s

/-- CTRL.SOFT_RESET of the page (R535): as ABORT_ALL, and what its registers show is reset; FAILED units stay untested. -/
def fitSoftReset (s : State) : State :=
  let s := fitAbortAll s
  let keep := (s.fit.units.filter fun x => x.2.failed).map fun x => (x.1, { FitUnit.reset with failed := true })
  { s with fit := { Fit.reset with units := keep, began := s.now, barred := s.fit.barred } }

/-! ### The quick test (R533) -/

/-- BOOT_FLAGS.QUICK_TEST of the configuration record (R282). -/
def quickSelected (s : State) : Bool := (optByte s 0x14).testBit 0

/-- The quick test's results and actions, before RUN: FIT_QUICK, the clusters isolated under the reset FIT_ACT, SAFE for cluster 0
or CRYPTO. -/
def quickTest (clusters : BitVec 4) (crypto : Bool) (flash : BitVec 8) (s : State) : State :=
  let ok := clusters == 0 && !crypto && flash == 0
  let s := s.wrg Reg.FIT_QUICK (w32 (2 ^ 31 + b2n ok * 2 ^ 30 + flash.toNat * 2 ^ 6 + b2n crypto * 2 ^ 5 + clusters.toNat))
  let s := ([1, 2, 3].filter clusters.getLsbD).foldl (fun s k => isolateCluster k s) s
  if clusters.getLsbD 0 ∨ crypto then raiseSafe 0x5003 s else s

/-- What RUN entry owes of it: QUICK_DONE, and fault 0x5005 for another cluster or a flash bank. -/
def quickReport (s : State) : State :=
  if s.rb Reg.FIT_QUICK 31 then
    let s := if s.rf Reg.FIT_QUICK 1 3 ≠ 0 ∨ s.rf Reg.FIT_QUICK 6 8 ≠ 0 then raise 0x5005 s else s
    irq FIT_PAGE 3 s
  else s

/-! ### Computed reads (R535) -/

def fitStatus (s : State) : Nat :=
  b2n (!s.fit.running.isEmpty) * 2 ^ 30 + b2n (fitThrottled s) * 2 ^ 29 + b2n s.fit.window.isSome * 2 ^ 28
    + b2n (s.fit.units.any (·.2.overdue)) * 2 ^ 27 + s.fit.running.length % 8
def fitSel (s : State) : Nat × Nat := (s.rf Reg.FIT_UNIT_SEL 8 4, s.rf Reg.FIT_UNIT_SEL 0 8)
def fitInfoWord (s : State) : Nat :=
  let p := fitSel s
  let x := fitUnit s p.1 p.2
  b2n x.failed * 2 ^ 31 + b2n x.overdue * 2 ^ 30 + b2n x.force.isSome * 2 ^ 29 + x.aborts * 2 ^ 24
    + (fitNext p.1 x).getD (fitClass p.1).slices % 256 * 2 ^ 8 + popc 64 x.passed
def fitLast (s : State) : Nat := let p := fitSel s; (fitUnit s p.1 p.2).last

end Sys2Proof.Machine
end

