-- ==== Sys2Proof/Machine/Pattern.lean ====
section
/-!
DEFINITION. The pattern controller and basting (R109 to R144): what PAT_CMD and BAS_CMD do, the load of a plane, the outage of
a swap and its end, the steps of a basting.
-/

namespace Sys2Proof.Machine

/-- The counter rises to an image's SECURITY_VERSION, where it is higher (R98, R473). -/
def raiseSvn (n : Nat) (s : State) : State :=
  if s.thm.svn < n then irq 0x48 2 { s with thm := { s.thm with svn := n } } else s

/-- An image put into use advances the counter where its header says so (R98). -/
def useHeader (h : BitVec 4096) (s : State) : State := if hdrAdvance h then raiseSvn (hdrSvn h) s else s

/-- An image operation of either controller, or a pending SWAP_AT, is in progress (R119, R124, R135). -/
def imageBusy (s : State) : Bool :=
  s.pat.writing.isSome || s.pat.pending.isSome || s.pat.outage.isSome || s.pat.baste.isSome || s.pat.restore.isSome

/-- RUN or SERVICE. -/
def inRun (s : State) : Bool := s.mode == .run || s.mode == .service

/-- Whether the Hem plane may be written: by life-cycle state, in FIELD and PROVISIONED as R496 states (R119, R513). -/
def hemWriteAllowed (s : State) : Bool :=
  let st := s.lcs.st
  (st % 2 == 1 && decide (st < 14)) || st == 0x0F || st == 0x10 || st == 0x12
    || (st == 0x11 && (match grantNow s with
      | some g => g.full || (g.scope.testBit 4 && ownerOf s PAT_PAGE == some g.panel)
      | none => false))

/-- PAT_CMD.TARGET as a plane. -/
def targetOf : Nat → Option Plane
  | 0 => some .a | 1 => some .b | 2 => some .hem | _ => none

/-- The target rules of WRITE and ERASE (R119, R121): the code of a refusal. -/
def targetRefusal (p : Plane) (s : State) : Option Nat :=
  if isActive s p ∨ (s.pat.trial ∧ p = selected s) then some 0x21
  else if p = .hem ∧ !hemWriteAllowed s then some 0x27
  else none

/-- The mode rule of WRITE (R119): RUN, SERVICE, or from panel 0 the SAFE of R118; a SCRAP module takes no write (R497). -/
def writeMode (panel : Nat) (s : State) : Bool :=
  inRun s || (s.mode == .safe && s.pat.recovery && panel == 0 && s.lcs.st != 0x13)

/-- The refusals of WRITE, in the order of R119. -/
def writeRefusal (panel : Nat) (p : Plane) (s : State) : Option Nat :=
  if !writeMode panel s then some 0x29
  else if imageBusy s then some 0x20
  else match targetRefusal p s with
    | some c => some c
    | none =>
      let a := s.rg64 Reg.PAT_SRC_ADDR
      let n := (s.rg Reg.PAT_SRC_LEN).toNat
      if a % 4 ≠ 0 ∨ !inUserMem a n then some 0x26
      else if n < 528 then some 0x0F
      else none

/-- One more erase of a plane (R122), which clears its bit in OVL_PLANE_DAMAGED (R165), drops it from a refresh pass in course (R160);
at 10,000 fault 0x0805 and ENDURANCE, once. -/
def countErase (p : Plane) (s : State) : State :=
  let r := planeOf s p
  let s := setPlane p { r with cycles := satInc r.cycles 16 } s
  let d : Nat → PlaneCare := fun _ => PlaneCare.reset
  let k := sget d s.ovl.care (Plane.code p)
  let s := { s with ovl := { s.ovl with
    care := sset d s.ovl.care (Plane.code p) { k with damaged := false }
    rfPlane := if s.ovl.rfPlane = some p then none else s.ovl.rfPlane } }
  if r.cycles + 1 = 10000 then irq PAT_PAGE 5 (raise 0x0805 s) else s

/-! ### Writing a plane (R119 to R123)

The stages of a write take the longest time R92 and R123 give them: 3.0 ms for the header, one ns for 0.8 bytes in pass 1 and 300 ms for the erase
beside it, 64 µs for each frame programmed. -/

/-- A read of an image source by Thimble, for its checks (R474): a slice of Fitting gives way (R524). -/
def imageRead (a n : Nat) (s : State) : State × List Byte := unitRead a n (fitCrypto s)

/-- The checks of a header as it arrives (R89): those on its own words, then those against the module's keys and counter. -/
def hdrJudge (h : BitVec 4096) (p : Option Plane) (s : State) : Option (Nat × Nat) :=
  (hdrChecks14 h p).orElse fun _ => hdrChecks57 s.thm.sign s.thm.dkey s.thm.svn h

/-- A WRITE whose header has been judged: the report, or the header stage begins (R90, R120). -/
def writeJudged (p : Plane) (addr len : Nat) (h : BitVec 4096) (e : Option (Nat × Nat)) (s : State) : State :=
  match e with
  | some e => writeReport e.2 e.1 s
  | none => { s with pat := { s.pat with opState := 1, writing := some ⟨p, 1, s.now + 3000000, addr, len, h, 0⟩ } }

/-- A WRITE that is not refused (R120): the header is read once and judged (R89, R96); a failure changes nothing but the report (R90). -/
def writePlane (p : Plane) (s : State) : State :=
  let addr := s.rg64 Reg.PAT_SRC_ADDR
  let len := (s.rg Reg.PAT_SRC_LEN).toNat
  let r := imageRead addr 512 ((patErr 0 0 s).wrg Reg.PAT_PROGRESS 0)
  let h := BitVec.ofNat 4096 (leNat r.2)
  writeJudged p addr len h (hdrJudge h (some p) r.1) r.1

/-- The header stage has passed: the target is WRITING and erased, pass 1 runs (R120, R122). -/
def writeErase (w : PlaneWrite) (s : State) : State :=
  let s := countErase w.plane s
  let s := setPlane w.plane { PlaneRec.reset with st := .writing, cycles := (planeOf s w.plane).cycles } s
  { s with pat := { s.pat with opState := 2, writing := some { w with step := 2, next := s.now + max ((528 + hdrBody w.header) * 5 / 4) 300000000 } } }

/-- The end of pass 1 (R89, R96): the trailer is kept, pass 2 begins. DESIGN CHOICE (log 109): the body and the trailer are read where the header says they
stand, before order 8 of R89 compares the lengths, also past the end of the source. -/
def writePass1 (w : PlaneWrite) (s : State) : State :=
  let b := imageRead (w.addr + 512) (hdrBody w.header) s
  let r := imageRead (w.addr + 512 + hdrBody w.header) 16 b.1
  match pass1Checks s.thm.dkey w.header w.len b.2 r.2 with
  | some e => writeFails w.plane e.2 e.1 r.1
  | none =>
    let s := r.1
    { s with pat := { s.pat with opState := 3, writing := some { w with step := 3, crc := trailerCrc r.2, next := s.now + hdrFrames w.header * 64000 } } }

/-- The end of pass 2 (R96, R100 to R105, R120): the frames of the body as it reads now, then the header, the map and the carry counts; the plane stays
WRITING for the read-back. Where it fails, the frames written before stay in the target. -/
def writePass2 (w : PlaneWrite) (s : State) : State :=
  let b := imageRead (w.addr + 512) (hdrBody w.header) s
  let x := expand (hdrMask w.header) (bodyClear s.thm.dkey w.header b.2)
  let frames := storeFrames x.1.out []
  let s := setPlane w.plane { planeOf b.1 w.plane with frames := frames } b.1
  let s := s.wrg Reg.PAT_PROGRESS (w32 (x.1.out.length % 65536))
  if Config.sha384 b.2 ≠ BitVec.ofNat 384 (hdrFld w.header 0x80 48) then writeFails w.plane 11 0x13 s
  else match x.2 with
    | some c => writeFails w.plane 12 c s
    | none =>
      let ff := ((List.range 128).map fun r => (Config.carryFf (markFrames frames r)).length).sum
      let br := ((List.range 128).map fun r => (Config.carryBram (markFrames frames r)).length).sum
      let s := setPlane w.plane { planeOf s w.plane with
        map := storeFrames x.1.maps [], header := w.header, frameCrc := w.crc, carryFf := ff, carryBram := br } s
      { s with pat := { s.pat with opState := 4, writing := some { w with step := 4 } } }

/-- What time brings to a plane write (R120): its next step once its time has come. -/
def writeDue (s : State) : State :=
  match s.pat.writing with
  | none => s
  | some w =>
    if s.now < w.next then s
    else match w.step with
      | 1 => writeErase w s
      | 2 => writePass1 w s
      | 3 => writePass2 w s
      | _ => s

/-- Whether FRAME_CRC fits the frames a plane gives (R108); a frame with more bits in error than can be corrected makes it fail (R158). -/
def planeReads (r : PlaneRec) : Bool := r.lost.isEmpty && frameCrc (BitVec.allOnes 128) r.frames == r.frameCrc

/-- The read-back of a written plane ends (R120): VALID with DONE, or INVALID. -/
def writeDone (cellFails : Bool) (s : State) : State :=
  match s.pat.writing with
  | none => s
  | some w =>
    if w.step < 4 then s
    else if cellFails then writeFails w.plane 0 0x2B s
    else if !planeReads (planeOf s w.plane) then writeFails w.plane 13 0x12 s
    else
      let s := setPlane w.plane { planeOf s w.plane with st := .valid } s
      irq PAT_PAGE 0 { s with pat := { s.pat with writing := none, opState := 7 } }

/-- ERASE of a plane (R121, R122); `cellFails`: a cell fails to erase (R141). DESIGN CHOICE (log 74): WRITE's mode rule holds, the erase is over with
its command, and a plane whose erase fails is INVALID. -/
def erasePlane (panel : Nat) (p : Plane) (cellFails : Bool) (s : State) : State :=
  let refused := if !writeMode panel s then some 0x29 else if imageBusy s then some 0x20 else targetRefusal p s
  match refused with
  | some c => patErr 0 c s
  | none =>
    let s := countErase p (patErr 0 0 s)
    let s := setPlane p { PlaneRec.reset with cycles := (planeOf s p).cycles, st := if cellFails then .invalid else .empty } s
    if cellFails then irq PAT_PAGE 1 (patErr 0 0x2B { s with pat := { s.pat with opState := 8 } })
    else irq PAT_PAGE 0 { s with pat := { s.pat with opState := 7 } }

/-- ABORT (R121, R125): a plane write stops with its target INVALID; a pending SWAP_AT is cancelled. -/
def abortPat (s : State) : State := cancelSwapAt (abortWrite s)

/-! ### Loads and swaps -/

/-- A plane's stored SECURITY_VERSION is below the counter (R98): planes A and B only. -/
def rolledBack (s : State) (p : Plane) : Bool := p != .hem && decide (hdrSvn (planeOf s p).header < s.thm.svn)

/-- A plane's content in the latches (R114, R126), with Overlock's reference taken from it and no region held, basted or
known bad (R137, R145). LOADED and the carry counts of the loaded image follow. -/
def loadPlane (p : Plane) (s : State) : State :=
  let r := planeOf s p
  let s := keepIso (fun _ => true) s
  let s := { s with
    fab := { s.fab with latch := r.frames, map := r.map, held := 0, badCfg := 0, resetRel := [] }
    ovl := { s.ovl with ref := r.frames, bad := [], unchecked := [] }
    pat := { s.pat with loaded := some p } }
  let s := ((s.wrg Reg.PAT_CARRY_FF (w32 (r.carryFf % 2 ^ 18))).wrg Reg.PAT_CARRY_BRAM (w32 (r.carryBram % 2 ^ 15)))
  ((s.wrg (Reg.BAS_BASTED 0) 0).wrg (Reg.BAS_BASTED 1) 0).wrg (Reg.BAS_BASTED 2) 0 |>.wrg (Reg.BAS_BASTED 3) 0

/-- PIN_CFG.REGION reports the loaded image's assignment (R325). -/
def setRegions (h : BitVec 4096) (s : State) : State :=
  allPins.foldl (fun s n => s.wf (cfgReg n) 23 7 (match Config.pinRegion h n with | some r => r.val | none => 0x7F)) s

/-- Every flip-flop and every carried element takes its initial value (R47, R115 step 7). -/
def initAll (s : State) : State := allRegions.foldl initRegion s

/-- The checks of R124 before a swap: the code of the refusal. -/
def swapRefusal (target : Option Plane) (trial : Bool) (s : State) : Option Nat :=
  if !inRun s then some 0x29
  else if imageBusy s then some 0x20
  else match target with
    | none => some 0x21
    | some p =>
      let r := planeOf s p
      if isActive s p then some 0x21
      else if r.st ≠ .valid then some 0x22
      else if rolledBack s p then some 0x23
      else if 131072 < r.carryFf ∨ 16384 < r.carryBram then some 0x24
      else if trial ∧ (hdrAdvance r.header ∨ p = .hem) then some 0x2A
      else none

/-- A refused swap: PAT_ERR, and a target below the counter becomes INVALID (R111, R124). -/
def swapRefused (target : Option Plane) (c : Nat) (s : State) : State :=
  let s := patErr 0 c s
  match target with
  | some p => if c = 0x23 then setPlane p { planeOf s p with st := .invalid } s else s
  | none => s

/-- The carry slots of the latches with their regions, those of regions held by basting apart (R129); the 1 µs reset of R151 holds none so. -/
def liveSlots (s : State) : List (Nat × Nat) :=
  allRegions.flatMap fun r => if s.fab.held.getLsbD r && !s.fab.resetRel.any (·.1 == r) then [] else (carrySlots s.fab.latch r).map fun k => (r, k)

/-- The carried elements read into the carry buffer (R126 step 3, R129): no clock runs since the isolation, so each holds what it took at its last
edge; those of a region in reset (R151) their initial values. -/
def readCarry (s : State) : State :=
  let t := s.fab.resetRel.foldl (fun t x => initRegion t x.1) s
  { s with fab := { s.fab with carry := (liveSlots s).foldl (fun m x => sset (fun _ => 0) m x.2 (carryGet t x.1 x.2)) [] } }

/-- The outage starts (R126 steps 1 to 3): mode SWAP, every region isolated, the carried values read; the pads take their hold policies at
the next pad-clock edge. -/
def startOutage (w : Swap) (s : State) : State :=
  let s := readCarry s
  let o : Swap := { w with time := s.now, ret := s.mode, phase := 0, next := s.now + 2400000 }
  irq PAT_PAGE 2 (setMode .swap { s with pat := { s.pat with pending := none, outage := some o, opState := 6 } })

/-- PAT_CMD SWAP and SWAP_AT (R124, R125): refused, pending until T, or started at once. -/
def swapCmd (at? : Bool) (target : Option Plane) (trial : Bool) (s : State) : State :=
  match swapRefusal target trial s, target with
  | some c, _ => swapRefused target c s
  | none, none => s
  | none, some p =>
    let s := patErr 0 0 s
    let t := s.rg64 Reg.PAT_SWAP_AT
    let w : Swap := ⟨p, trial, t, s.mode, 0, t⟩
    if at? ∧ s.now < t then { s with pat := { s.pat with pending := some w, opState := 5 } }
    else startOutage w s

/-- A pending SWAP_AT starts at the first tick at or after T (R125). -/
def swapAtDue (s : State) : State :=
  match s.pat.pending with
  | some w => if w.time ≤ s.now ∧ inRun s then startOutage w s else s
  | none => s

/-- The carried values written (R126 step 6, R129): what a slot of the old image held goes to the same slot of the new one. -/
def writeCarry (old : List Nat) (s : State) : State :=
  let new := allRegions.flatMap fun r => (carrySlots s.fab.latch r).map fun k => (r, k)
  new.foldl (fun t x => if old.contains x.2 then carryPut x.1 x.2 (sget (fun _ => 0) s.fab.carry x.2) t else t) s

/-- PAT_CARRY_UNMATCHED of a swap from the slots `old` to the image in the latches. -/
def countUnmatched (old : List Nat) (s : State) : State :=
  let new := allRegions.flatMap fun r => carrySlots s.fab.latch r
  let oldOnly := (old.filter fun k => !new.contains k).length
  let newOnly := (new.filter fun k => !old.contains k).length
  s.wrg Reg.PAT_CARRY_UNMATCHED (w32 (min oldOnly 65535 * 65536 + min newOnly 65535))

/-- The end of an outage (R126 step 7): LAST_OUTAGE, the regions released, the mode from which the swap started, SWAP_DONE. -/
def endOutage (w : Swap) (s : State) : State :=
  let ret := if w.ret = .service ∧ s.lcs.grant.isNone then .run else w.ret
  let s := s.wrg Reg.PAT_LAST_OUTAGE (w32 (s.now - w.time))
  let s := { dllsStop (fun _ => true) s with pat := { s.pat with outage := none } }
  let s := { s with fab := { s.fab with paramPend := BitVec.allOnes 128, carry := [] } }
  irq PAT_PAGE 3 (setMode ret s)

/-- The selection that an earlier swap still has to store (R126 step 8). -/
def storeSelection (s : State) : State :=
  match s.pat.store with
  | some (_, b) => { s with pat := { s.pat with store := none, selectedB := b } }
  | none => s

/-- The swap succeeds (R126 steps 5 to 8); the selection is stored 10 ms later. DESIGN CHOICE (log 113): the counter advances (R98) at the end of the outage
also where the mode it returns to is not RUN. -/
def swapSucceeds (w : Swap) (s : State) : State :=
  let old := (liveSlots s).map (·.2)
  let h := (planeOf s w.target).header
  let s := countUnmatched old (writeCarry old (initAll (setRegions h (loadPlane w.target (storeSelection s)))))
  let s := s.incSat Reg.PAT_ACTIVE_PLANE 16 16
  let s := { s with pat := { s.pat with
    opState := 7, trial := w.trial
    store := if !w.trial ∧ w.target ≠ .hem then some (s.now + 10000000, w.target = .b) else none } }
  useHeader h (endOutage w s)

/-- The Hem plane cannot be loaded (R114, R118): fault 0x0802, SAFE with every pin high-impedance and every session closed (R491). DESIGN CHOICE (log 112): PAT_CARRY_FF and PAT_CARRY_BRAM
keep the counts of the image loaded last. -/
def hemFails (s : State) : State :=
  let s := raise 0x0802 { s with pat := { s.pat with loaded := none, recovery := true, outage := none, trial := false },
                                 fab := { s.fab with badCfg := BitVec.allOnes 128, carry := [] }, flt := { s.flt with safeDue := false } }
  wipeSessions (enterSafe s)

/-- A swap has failed (R133): FAILED with LOAD_ERR_FRAME_CRC. -/
def swapReport (s : State) : State := irq PAT_PAGE 1 (patErr 13 0x12 { s with pat := { s.pat with opState := 8 } })

/-- The previous plane reads back (R133): loaded with the carried values, every slot of which matches; fault 0x0804. TRIAL stands as before.
DESIGN CHOICE (log 75). -/
def swapReturns (w : Swap) (prev : Plane) (s : State) : State :=
  let old := (liveSlots s).map (·.2)
  let s := (writeCarry old (initAll (loadPlane prev s))).wrg Reg.PAT_CARRY_UNMATCHED 0
  swapReport (raise 0x0804 (endOutage w s))

/-- The hem label after a failed swap (R133): HEM_LOAD, in which all but the fabric and the watchdogs goes on; the Hem plane is copied, where VALID. -/
def swapToHem (w : Swap) (s : State) : State :=
  let s := swapReport (setMode .hemLoad { s with pat := { s.pat with loaded := none, trial := false }, fab := { s.fab with carry := [] } })
  if (planeOf s .hem).st = .valid then
    { s with pat := { s.pat with outage := some { w with phase := 2, next := s.now + 2120000 } } }
  else hemFails s

/-- Every enabled watchdog counts again from its full timeout (R423). -/
def wdgRestartAll (s : State) : State :=
  ((List.range 25).filter (wdgEn s)).foldl (fun s k => wdgRestart k s) s

/-- The Hem plane is in the latches after a failed swap (R133): fault 0x0801, FALLBACK; a SAFE cause of the load enters SAFE here (R542). -/
def swapOnHem (w : Swap) (s : State) : State :=
  let s := endOutage w (initAll (setRegions (planeOf s .hem).header (loadPlane .hem s)))
  let s := irq PAT_PAGE 4 (raise 0x0801 (wdgRestartAll s))
  if s.flt.safeDue then enterSafe { s with flt := { s.flt with safeDue := false } } else s

/-- The plane copied first fails (R133): the target is INVALID; the previous plane follows, unless there is none or its version is below the counter
(R98). DESIGN CHOICE (log 75): without a previous plane the Hem plane follows. -/
def swapFails (w : Swap) (s : State) : State :=
  let s := setPlane w.target { planeOf s w.target with st := .invalid } s
  match s.pat.loaded with
  | none => swapToHem w s
  | some prev =>
    if rolledBack s prev then swapToHem w (setPlane prev { planeOf s prev with st := .invalid } s)
    else { s with pat := { s.pat with outage := some { w with phase := 1, next := w.time + 4600000 } } }

/-- The check of a copied plane in an outage (R126 step 5, R133, R114). -/
def outageCheck (w : Swap) (s : State) : State :=
  match w.phase with
  | 0 => if planeReads (planeOf s w.target) then swapSucceeds w s else swapFails w s
  | 1 => match s.pat.loaded with
    | none => swapToHem w s
    | some prev =>
      if planeReads (planeOf s prev) then swapReturns w prev s
      else swapToHem w (setPlane prev { planeOf s prev with st := .invalid } s)
  | 2 =>
    if planeReads (planeOf s .hem) then swapOnHem w s
    else raise 0x0803 { s with pat := { s.pat with outage := some { w with phase := 3, next := s.now + 2120000 } } }
  | _ =>
    if planeReads (planeOf s .hem) then swapOnHem w s
    else hemFails (setPlane .hem { planeOf s .hem with st := .invalid } s)

/-- What time brings to an outage (R126, R133) and to the storing of a selection (step 8). -/
def patDue (s : State) : State :=
  let s := match s.pat.store with
    | some (t, _) => if t ≤ s.now then storeSelection s else s
    | none => s
  match s.pat.outage with
  | some w => if w.next ≤ s.now then outageCheck w s else s
  | none => writeDue s

/-- CONFIRM (R134): the ACTIVE plane becomes the selection, at once; the selection names A or B only (R112). DESIGN CHOICE (log 76): it is accepted in
every mode and beside another image operation, whose OP_STATE then stays. -/
def confirm (s : State) : State :=
  if !s.pat.trial then patErr 0 0x29 s
  else
    let s := storeSelection (patErr 0 0 s)
    let sel := match s.pat.loaded with | some .a => false | some .b => true | _ => s.pat.selectedB
    irq PAT_PAGE 0 { s with pat := { s.pat with trial := false, selectedB := sel, opState := if imageBusy s then s.pat.opState else 7 } }

/-- A write of PAT_CMD (R119 to R134, R142). DESIGN CHOICE (log 110): a TARGET that names no plane, and an OP that names no operation, are refused with 0x21
before every other rule; a refusal by the length 528 reports STAGE 0. -/
def patCmd (panel : Nat) (v : Word) (cellFails : Bool) (s : State) : State :=
  let op := fld v 0 4
  let target := targetOf (fld v 4 2)
  let trial := bit v 6
  if op = 0 then s
  else if op ≠ 2 ∧ !isEnabled s PAT_PAGE then patErr 0 0x29 s
  else match op with
    | 1 => match target with
      | none => patErr 0 0x21 s
      | some p => match writeRefusal panel p s with
        | some c => patErr 0 c s
        | none => writePlane p s
    | 2 => abortPat s
    | 3 => swapCmd false target trial s
    | 4 => swapCmd true target trial s
    | 5 => confirm s
    | 6 => match target with
      | none => patErr 0 0x21 s
      | some p => erasePlane panel p cellFails s
    | _ => patErr 0 0x21 s

/-! ### Basting -/

/-- A BASTE whose header has been judged (R135, R136 step 1): refused where a bolt of its regions is off, else the report, or the header stage. -/
def basteJudged (a n : Nat) (h : BitVec 4096) (e : Option (Nat × Nat)) (s : State) : State :=
  if (bitsOf 128 (hdrMask h).toNat).any fun r => s.rb Reg.FAB_BOLT_OFF (r / 16) then basErr 0 0x28 s
  else
    let s := (basErr 0 0 s).wrg Reg.BAS_PROGRESS 0
    match e with
    | some e => irq BAS_PAGE 1 (basErr e.2 e.1 { s with pat := { s.pat with basState := 8 } })
    | none => { s with pat := { s.pat with basState := 1, baste := some ⟨1, s.now + 3000000, hdrMask h, a, n, h, 0⟩ } }

/-- BASTE accepted (R135, R136 step 1): the header is read once and judged. DESIGN CHOICE (log 77): the source is judged before the bolts. -/
def startBaste (s : State) : State :=
  let a := s.rg64 Reg.BAS_SRC_ADDR
  let n := (s.rg Reg.BAS_SRC_LEN).toNat
  if !isEnabled s BAS_PAGE then basErr 0 0x29 s
  else if !inRun s then basErr 0 0x29 s
  else if imageBusy s then basErr 0 0x20 s
  else if a % 4 ≠ 0 ∨ !inUserMem a n then basErr 0 0x26 s
  else if n < 528 then basErr 0 0x0F s
  else
    let r := imageRead a 512 s
    let h := BitVec.ofNat 4096 (leNat r.2)
    basteJudged a n h (hdrJudge h none r.1) r.1

/-- Basting fails after isolation (R138): its regions stay held; fault 0x0901 and FAILED. -/
def basteFails (stage code : Nat) (s : State) : State :=
  irq BAS_PAGE 1 (raise 0x0901 (basErr stage code { s with pat := { s.pat with baste := none, basState := 8 } }))

/-- ABORT of basting (R138) or of a RESTORE. -/
def abortBaste (s : State) : State :=
  match s.pat.baste with
  | none => abortRestore s
  | some b => if b.step < 3 then abortBasteEarly s else basteFails 0 0x25 s

/-- The registers of a set of regions, one bit a region (BAS_BASTED0 to 3), set or cleared. -/
def setBasted (mask : BitVec 128) (on : Bool) (s : State) : State :=
  (List.range 4).foldl (fun s k =>
    let m := BitVec.ofNat 32 (mask.toNat / 2 ^ (32 * k))
    s.wrg (Reg.BAS_BASTED k) (if on then s.rg (Reg.BAS_BASTED k) ||| m else s.rg (Reg.BAS_BASTED k) &&& ~~~m)) s

/-- The frames of a set of regions in `l`. -/
def regionFrames {n : Nat} (mask : BitVec 128) (l : List (Nat × BitVec n)) : List (Nat × BitVec n) :=
  l.filter fun p => mask.getLsbD (p.1 / 512)

/-- Step 7 of a basting (R136, R137, R145): released, the reference taken, BASTED set, the counter advanced. -/
def basteReleases (b : Baste) (s : State) : State :=
  let old := s.ovl.ref.filter fun p => !b.mask.getLsbD (p.1 / 512)
  let s := { s with
    ovl := { s.ovl with ref := storeFrames (regionFrames b.mask s.fab.latch) old
                        bad := s.ovl.bad.filter fun p => !b.mask.getLsbD (p.1 / 512)
                        unchecked := s.ovl.unchecked.filter fun p => !b.mask.getLsbD (p.1 / 512) }
    pat := { s.pat with baste := none, basState := 7 } }
  let s := setBasted b.mask true (releaseRegions b.mask s)
  irq BAS_PAGE 0 (useHeader b.header (s.wrg64 Reg.BAS_BUILD (hdrBuild b.header)))

/-- Pass 2 of a basting (R136 step 4): the latches of the masked regions, or failure with the frames written before in them (R96). -/
def bastePass2 (b : Baste) (s : State) : State :=
  let body := imageRead (b.addr + 512) (hdrBody b.header) s
  let x := expand b.mask (bodyClear s.thm.dkey b.header body.2)
  let s := keepIso (b.mask.getLsbD ·) body.1
  let s := { s with fab := { s.fab with latch := storeFrames x.1.out s.fab.latch, map := storeFrames x.1.maps s.fab.map } }
  let s := s.wrg Reg.BAS_PROGRESS (w32 (x.1.out.length % 65536))
  if Config.sha384 body.2 ≠ BitVec.ofNat 384 (hdrFld b.header 0x80 48) then basteFails 11 0x13 s
  else match x.2 with
    | some c => basteFails 12 c s
    | none =>
      let t := max 1970000 (hdrBody b.header * 5 / 4)
      { s with pat := { s.pat with basState := 3, baste := some { b with step := 4, next := s.now + t + 100000 } } }

/-- What time brings to a basting (R136): its next step once its time has come. The header stage takes 3.0 ms, pass 1
one ns for 0.8 bytes, and the writing its limit of R136. -/
def basDue (s : State) : State :=
  match s.pat.baste with
  | none => s
  | some b =>
    if s.now < b.next then s
    else match b.step with
      | 1 => { s with pat := { s.pat with basState := 2, baste := some { b with step := 2, next := s.now + (528 + hdrBody b.header) * 5 / 4 } } }
      | 2 =>
        let body := imageRead (b.addr + 512) (hdrBody b.header) s
        let trailer := imageRead (b.addr + 512 + hdrBody b.header) 16 body.1
        match pass1Checks s.thm.dkey b.header b.len body.2 trailer.2 with
        | some e => irq BAS_PAGE 1 (basErr e.2 e.1 { trailer.1 with pat := { trailer.1.pat with baste := none, basState := 8 } })
        | none =>
          let s := holdRegions b.mask trailer.1
          { s with pat := { s.pat with baste := some { b with step := 3, next := s.now + 10000, crc := trailerCrc trailer.2 } } }
      | 3 => bastePass2 b s
      | 4 => { s with pat := { s.pat with basState := 4, baste := some { b with step := 5, next := s.now + 20000 } } }
      | _ =>
        if frameCrc b.mask s.fab.latch ≠ b.crc then basteFails 13 0x12 s else basteReleases b s

/-- The bits of BAS_BASTED0 to 3. -/
def bastedMask (s : State) : BitVec 128 :=
  BitVec.ofNat 128 ((List.range 4).foldl (fun a k => a + (s.rg (Reg.BAS_BASTED k)).toNat * 2 ^ (32 * k)) 0)

/-- RESTORE fails (R139): the regions stay held; fault 0x0902 and FAILED. -/
def restoreFails (stage code : Nat) (s : State) : State :=
  irq BAS_PAGE 1 (raise 0x0902 (basErr stage code { s with pat := { s.pat with restore := none, basState := 8 } }))

/-- RESTORE (R139): every held or basted region is isolated and its frames copied from the ACTIVE plane; the check follows 2.2 ms later. DESIGN CHOICE
(log 111): it is refused outside RUN and SERVICE with 0x29 and while an image operation runs with 0x20, as other commands of the page are; with no ACTIVE
plane the regions stay isolated and it fails as R139 says, with 0x22. -/
def restoreRegions (s : State) : State :=
  if !isEnabled s BAS_PAGE ∨ !inRun s then basErr 0 0x29 s
  else if imageBusy s then basErr 0 0x20 s
  else
    let mask := s.fab.held ||| bastedMask s
    let s := keepIso (mask.getLsbD ·) (holdRegions mask (basErr 0 0 s))
    match s.pat.loaded with
    | some p =>
      if isActive s p then
        let keepF := s.fab.latch.filter fun q => !mask.getLsbD (q.1 / 512)
        let keepM := s.fab.map.filter fun q => !mask.getLsbD (q.1 / 512)
        { s with
          fab := { s.fab with latch := storeFrames (regionFrames mask (planeOf s p).frames) keepF
                              map := storeFrames (regionFrames mask (planeOf s p).map) keepM }
          pat := { s.pat with basState := 9, restore := some (mask, s.now + 2200000) } }
      else restoreFails 0 0x22 s
    | none => restoreFails 0 0x22 s

/-- A restored region fits the CRC-32C computed from the ACTIVE plane (R139); a frame that the plane cannot give right makes it fail. -/
def restoredOk (s : State) (p : PlaneRec) (r : Nat) : Bool :=
  !(p.lost.any (· / 512 == r)) && frameCrc (1#128 <<< r) s.fab.latch == frameCrc (1#128 <<< r) p.frames

/-- The restored regions are released (R136 step 7, R139, R145): the reference is taken from them. -/
def restoreReleases (mask : BitVec 128) (s : State) : State :=
  let keep := s.ovl.ref.filter fun q => !mask.getLsbD (q.1 / 512)
  let s := { s with
    ovl := { s.ovl with ref := storeFrames (regionFrames mask s.fab.latch) keep
                        bad := s.ovl.bad.filter fun q => !mask.getLsbD (q.1 / 512)
                        unchecked := s.ovl.unchecked.filter fun q => !mask.getLsbD (q.1 / 512) }
    pat := { s.pat with basState := 7, restore := none } }
  irq BAS_PAGE 2 (setBasted mask false (releaseRegions mask s))

/-- What time brings to a RESTORE: its check and its release. -/
def restoreDue (s : State) : State :=
  match s.pat.restore with
  | none => s
  | some (mask, t) =>
    if s.now < t then s
    else match s.pat.loaded with
      | some p =>
        if (bitsOf 128 mask.toNat).all (restoredOk s (planeOf s p)) then restoreReleases mask s else restoreFails 13 0x12 s
      | none => restoreFails 0 0x22 s

/-- A write of BAS_CMD (R135 to R139, R143). -/
def basCmd (v : Word) (s : State) : State :=
  match fld v 0 4 with
  | 0 => s
  | 1 => startBaste s
  | 2 => abortBaste s
  | 3 => restoreRegions s
  | _ => basErr 0 0x21 s

end Sys2Proof.Machine
end

