-- ==== Sys2Proof/Machine/Identity.lean ====
section
/-!
DEFINITION. Thimble and sessions (R468 to R494): the key slots and commands of Thimble, the check of the firmware slots, partner
enrolment, the handshake, and the closing of sessions. The requests of a DATA frame are in Machine/SessionData.lean.
-/

namespace Sys2Proof.Machine

def THM_PAGE : Nat := 0x48
def SES_PAGE : Nat := 0x41

/-- The states that allow THM_CMD and sessions (R471, R484, R496). -/
def lcOwner (s : State) : Bool := s.lcs.st == 0x0F || s.lcs.st == 0x10 || s.lcs.st == 0x11 || s.lcs.st == 0x12

def signOf (s : State) (k : Nat) : SignSlot := sget (fun _ => SignSlot.reset) s.thm.sign k
def setSign (k : Nat) (x : SignSlot) (s : State) : State :=
  { s with thm := { s.thm with sign := sset (fun _ => SignSlot.reset) s.thm.sign k x } }
def dkeyOf (s : State) (k : Nat) : DkeySlot := sget (fun _ => DkeySlot.reset) s.thm.dkey k
def setDkey (k : Nat) (x : DkeySlot) (s : State) : State :=
  { s with thm := { s.thm with dkey := sset (fun _ => DkeySlot.reset) s.thm.dkey k x } }

/-- Bytes of ASCII text. -/
def ascii (t : String) : List Byte := t.toList.map fun c => BitVec.ofNat 8 c.toNat

/-- The UID as its 16 bytes. -/
def uidBytes (s : State) : List Byte := natLe s.thm.uid.toNat 16

/-- A digest as its 48 bytes. -/
def digestBytes (d : BitVec 384) : List Byte := natLe d.toNat 48

/-- A request at the asymmetric unit (R475): it serves a contested cycle, and a slice of Fitting gives way (R524). -/
def asymContest (contested : Bool) (s : State) : State :=
  let s := fitCrypto s
  if contested then { s with thm := { s.thm with asymBase := (s.thm.asymBase + 1) % 4 } } else s

/-- A block that a command names: a multiple of 8, inside shared SRAM or the DRAM user region. -/
def blockIn (a n : Nat) : Bool := a % 8 == 0 && inUserMem a n

/-- THM_ARG. -/
def thmArg (s : State) : Nat := s.rg64 Reg.THM_ARG % 2 ^ 40

/-- PROG_DKEY (R471): the wrapped key of a block opened; none where the tag fails. -/
def unwrapKey (s : State) (slot : Nat) (l : List Byte) : Option (BitVec 256) :=
  let pub := l.take 96
  let key := Config.hkdf (Config.ecdhDevice pub) (uidBytes s) (ascii "DKEY" ++ natLe slot 1) 32
  (gcmOpen (BitVec.ofNat 256 (leNat key)) (BitVec.ofNat 96 (leNat ((l.drop 96).take 12))) pub ((l.drop 108).take 32)
    (BitVec.ofNat 128 (leNat ((l.drop 140).take 16)))).map fun k => BitVec.ofNat 256 (leNat k)

/-- The result of a command: the code, and the state with the command's effect. `otpBad`: an OTP bit fails verification
(R472); `contested`: the asymmetric unit serves it in a contested cycle (R475). -/
def thmRun (op slot : Nat) (otpBad contested : Bool) (s : State) : State × Nat :=
  let a := thmArg s
  if !lcOwner s then (s, 4)
  else match op with
    | 1 =>
      if slot = 0 then (s, 2)
      else if !blockIn a 48 then (s, 8)
      else if (signOf s slot).programmed then (s, 3)
      else
        let b := unitRead a 48 s
        let s := b.1
        let d := BitVec.ofNat 384 (leNat b.2)
        if otpBad then (raise 0x4803 (setSign slot ⟨true, true, d⟩ s), 7) else (setSign slot ⟨true, false, d⟩ s, 1)
    | 2 =>
      let rest := (List.range 16).any fun k => k != slot && (signOf s k).programmed && !(signOf s k).revoked
      if !rest then (s, 5)
      else
        let s := setSign slot { signOf s slot with revoked := true } s
        if otpBad then (raise 0x4803 s, 7) else (s, 1)
    | 3 =>
      if 8 ≤ slot then (s, 2)
      else if !blockIn a 156 then (s, 8)
      else if (dkeyOf s slot).programmed then (s, 3)
      else
        let b := unitRead a 156 (asymContest contested s)
        let s := b.1
        match unwrapKey s slot b.2 with
        | none => (s, 6)
        | some k => if otpBad then (raise 0x4803 (setDkey slot ⟨true, true, k⟩ s), 7) else (setDkey slot ⟨true, false, k⟩ s, 1)
    | 4 =>
      if 8 ≤ slot then (s, 2)
      else
        let s := setDkey slot { dkeyOf s slot with revoked := true } s
        if otpBad then (raise 0x4803 s, 7) else (s, 1)
    | 5 =>
      if !blockIn a 144 then (s, 8)
      else
        let b := unitRead a 48 (asymContest contested s)
        let sig := (Config.deviceSign (Config.sha384 (ascii "ATTEST" ++ b.2))).take 96
        (putBytes (a + 48) sig b.1, 1)
    | _ => (s, 2)

/-- A write of THM_CMD (R471): THM_RESULT, IRQ source CMD_DONE. -/
def thmCmd (v : Word) (otpBad contested : Bool) (s : State) : State :=
  let r := thmRun (fld v 0 4) (fld v 8 4) otpBad contested s
  irq THM_PAGE 0 (r.1.wrg Reg.THM_RESULT (w32 r.2))

/-! ### Firmware slots (R476, R477, R498) -/

/-- First byte and length of slot n in flash, from the configuration record (R282). -/
def fwSlot (s : State) (n : Nat) : Nat × Nat :=
  (blockNum s.optRec (0x18 + 4 * n) 2 * 0x10000, blockNum s.optRec (0x1A + 4 * n) 2 * 0x10000)

/-- The header and the body of a slot as boot ROM reads them (R266, R476): no body where the slot cannot hold it. -/
def fwRead (n : Nat) (s : State) : State × List Byte × List Byte :=
  let (base, len) := fwSlot s n
  let h := badRead flashUe base 512 s
  let body := blockNum h.2 4 4
  if len < 512 + body then (h.1, h.2, [])
  else
    let b := badRead flashUe (base + 512) body h.1
    (b.1, h.2, b.2)

/-- The failed checks of a slot of `len` bytes with a header and a body, in the order of R476, as codes of THM_BOOT. -/
def fwChecks (s : State) (len : Nat) (h bytes : List Byte) : List Nat :=
  let f := fun (o k : Nat) => blockNum h o k
  let body := f 4 4
  let key := (h.drop 0x48).take 96
  let slot := signOf s (f 0x14 4)
  let ifBad := fun (b : Bool) (c : Nat) => if b then [c] else []
  ifBad (f 0 4 != 0x5A434431) 2
    ++ ifBad (body % 256 != 0 || decide (len < 512 + body)) 7
    ++ ifBad (decide (512 + body ≤ f 8 4) || f 8 4 % 4 != 0) 7
    ++ ifBad (f 0xC 4 != 0 && f 0xC 4 != 2) 7
    ++ ifBad (decide (255 < f 0x10 4) || decide (f 0x10 4 < s.thm.svn)) 5
    ++ ifBad (decide (16 ≤ f 0x14 4) || !slot.programmed || slot.revoked) 3
    ++ ifBad (Config.sha384 bytes != BitVec.ofNat 384 (f 0x18 48)) 6
    ++ ifBad (Config.sha384 key != slot.digest) 3
    ++ ifBad (f 0xA8 248 != 0) 2
    ++ ifBad (!Config.ecdsaVerify key (Config.sha384 (h.take 0x1A0)) ((h.drop 0x1A0).take 48) ((h.drop 0x1D0).take 48)) 4

/-- Unsigned code may run (R496, R498). -/
def unsignedOk (s : State) : Bool := (s.lcs.st % 2 == 1 && decide (s.lcs.st < 14)) || s.lcs.st == 0x0F || s.lcs.st == 0x12

/-- One slot is checked (R477, R498): whether it is entered. -/
def fwTry (n : Nat) (s : State) : State × Bool :=
  let r := fwRead n (fitCrypto s)
  let s := r.1
  let bad := fwChecks s (fwSlot s n).2 r.2.1 r.2.2
  let code := match bad with | c :: _ => c | [] => 1
  let s := s.wrg Reg.THM_BOOT (w32 (n * 256 + code))
  let h := fwSlot s n
  if bad.isEmpty then
    let s := if (readByte s (h.1 + 0xC)).getLsbD 1 then raiseSvn (readLe s (h.1 + 0x10) 4) s else s
    (s, true)
  else (irq THM_PAGE 1 (raise 0x4801 s), unsignedOk s && bad.all fun c => c != 2 && c != 7)

/-- Core 0 runs a slot from its entry point, in M-mode. -/
def fwEnter (n : Nat) (s : State) : State :=
  let base := (fwSlot s n).1
  updCtx 0 (fun c => { c with pc := w64 (base + readLe s (base + 8) 4) }) s

/-- A bank of slot n has a sector that journal replay has still to erase (R287). -/
def slotReplays (s : State) (n : Nat) : Bool :=
  let (base, len) := fwSlot s n
  s.fls.replay.any fun sec => decide (base / 0x10000 / 128 ≤ sec / 128) && decide (sec / 128 ≤ (base + len - 1) / 0x10000 / 128)

/-- Boot ROM takes up slot n, once no bank of it is replayed (R287): none where it waits; else whether the slot is entered. -/
def bootTry (n : Nat) (s : State) : State × Option Bool :=
  if slotReplays s n then ({ s with fls := { s.fls with bootDue := some n } }, none)
  else
    let r := fwTry n { s with fls := { s.fls with bootDue := none } }
    (if r.2 then fwEnter n r.1 else r.1, some r.2)

/-- No slot passes (R477): core 0 halts in boot ROM, and SAFE. -/
def bootFails (s : State) : State := raiseSafe 0x4802 (setCore 0 { coreOf s 0 with halted := true } s)

/-- Boot ROM takes up a slot: the other one follows where the boot slot fails and the other is COMPLETE (R287, R477). -/
def bootFrom (n : Nat) (s : State) : State :=
  let r := bootTry n s
  if r.2 ≠ some false then r.1
  else if n = bootSlot s ∧ slotState r.1 (1 - n) = 2 then
    let q := bootTry (1 - n) r.1
    if q.2 = some false then bootFails q.1 else q.1
  else bootFails r.1

/-- Core 0 at RUN entry (R185, R477, R497): boot ROM's check of the slots. RAW and TEST_LOCKED_n run no slot. -/
def bootCore (s : State) : State :=
  let k : Core := { Core.reset with started := true, ctx := { Ctx.reset with pc := 0x08000000 } }
  let s := setCore 0 k s
  if s.lcs.st = 0 ∨ (s.lcs.st % 2 = 0 ∧ s.lcs.st < 0x0F) then s else bootFrom (bootSlot s) s

/-- Boot ROM goes on once the replay for which it waited is over. -/
def bootGoes (s : State) : State :=
  match s.fls.bootDue with
  | some n => if slotReplays s n then s else bootFrom n s
  | none => s

/-! ### Enrolment (R478 to R480) -/

def enrolOf (s : State) (n : Nat) : Enrol := sget (fun _ => Enrol.reset) s.ses.enrol n
def setEnrol (n : Nat) (x : Enrol) (s : State) : State :=
  { s with ses := { s.ses with enrol := sset (fun _ => Enrol.reset) s.ses.enrol n x } }
def slotOf (s : State) (n : Nat) : Slot := sget (fun _ => Slot.reset) s.ses.slots n
def setSlot (n : Nat) (x : Slot) (s : State) : State :=
  { s with ses := { s.ses with slots := sset (fun _ => Slot.reset) s.ses.slots n x } }

/-- The 128 bytes of an entry (R478), its CRC last. -/
def enrolBytes (x : Enrol) : List Byte :=
  let l := natLe (b2n x.valid + 2 * b2n x.enabled) 4 ++ natLe x.rights 2 ++ natLe x.panel 1 ++ natLe x.maxSess 1
    ++ natLe x.label.toNat 16 ++ (if x.key.isEmpty then List.replicate 96 0 else x.key) ++ natLe 0 4
  l ++ natLe (crc32c l) 4

/-- An entry from a block; none where R479 refuses it. -/
def enrolParse (l : List Byte) : Option Enrol :=
  let f := fun (o n : Nat) => blockNum l o n
  let key := (l.drop 0x18).take 96
  if f 0x7C 4 ≠ crc32c (l.take 0x7C) ∨ 4 ≤ f 0 4 ∨ 32 ≤ f 4 2 ∨ 8 ≤ f 6 1 ∨ f 7 1 = 0 ∨ 16 < f 7 1 ∨ f 0x78 4 ≠ 0
      ∨ !Config.onCurve key then none
  else some ⟨(f 0 4).testBit 0, (f 0 4).testBit 1, f 4 2, f 6 1, f 7 1, BitVec.ofNat 128 (f 8 16), key⟩

/-! ### Frames and closing (R481, R482, R490, R491) -/

/-- A frame header (R481). -/
def frameHead (typ len slot gen seq : Nat) : List Byte :=
  natLe 1 1 ++ natLe typ 1 ++ natLe len 2 ++ natLe slot 2 ++ natLe gen 2 ++ natLe seq 8

/-- The key and salt of a direction: module to partner (out), partner to module. -/
def keyOut (x : Slot) : BitVec 256 := BitVec.ofNat 256 (leNat ((x.keys.drop 32).take 32))
def keyIn (x : Slot) : BitVec 256 := BitVec.ofNat 256 (leNat (x.keys.take 32))
def saltOut (x : Slot) : List Byte := (x.keys.drop 68).take 4
def saltIn (x : Slot) : List Byte := (x.keys.drop 64).take 4

/-- An encrypted frame of a slot (R482). -/
def sealFrame (x : Slot) (n typ seq : Nat) (plain : List Byte) : List Byte :=
  let h := frameHead typ (32 + plain.length) n x.gen seq
  let c := gcmSeal (keyOut x) (BitVec.ofNat 96 (leNat (saltOut x ++ natLe seq 8))) h plain
  h ++ c.1 ++ natLe c.2.toNat 16

/-- The plaintext of an encrypted frame; none where its tag fails. -/
def openFrame (x : Slot) (l : List Byte) : Option (List Byte) :=
  let seq := (l.drop 8).take 8
  gcmOpen (keyIn x) (BitVec.ofNat 96 (leNat (saltIn x ++ seq))) (l.take 16) ((l.drop 16).take (l.length - 32))
    (BitVec.ofNat 128 (leNat (l.drop (l.length - 16))))

/-- An ALERT in clear, SEQ 0 (R484). Its body is the code. -/
def alertClear (port slot gen code : Nat) (s : State) : State := sendFrame port (frameHead 5 17 slot gen 0 ++ natLe code 1) s

/-- The result of a request: the state, STATUS, the response body. -/
abbrev PortRes := State × Nat × List Byte

/-- The address of a receive cell (R487), and VALID of SES_RX_BASE. -/
def rxBase (s : State) : Nat := s.rg64 Reg.SES_RX_BASE % 2 ^ 40 / 0x800000 * 0x800000
def rxValid (s : State) : Bool := inDramUser (rxBase s) && decide (rxBase s + 0x800000 ≤ 0xA0000000)
def cellAddr (s : State) (slot : Nat) (cell : Bool) : Nat := rxBase s + slot * 0x2000 + (if cell then 0x1000 else 0)

/-- A receive cell is freed: its STATE becomes 0 (R487). -/
def freeCell (slot : Nat) (cell : Bool) (s : State) : State :=
  let x := slotOf s slot
  let s := setSlot slot (if cell then { x with full1 := false } else { x with full0 := false }) s
  if rxValid s then memStore (cellAddr s slot cell) 4 0 s else s

/-- The slot is freed (R481, R490): its keys gone, its cells free, GEN one up. A challenge or grant of the session goes with
it (R511, R514). -/
def freeSlot (n : Nat) (s : State) : State :=
  let x := slotOf s n
  let s := if x.full0 then freeCell n false s else s
  let s := if x.full1 then freeCell n true s else s
  let s := setSlot n { Slot.reset with gen := ((slotOf s n).gen + 1) % 65536 } s
  let s := match s.lcs.challenge with
    | some c => if !c.jtag ∧ c.slot = n then { s with lcs := { s.lcs with challenge := none } } else s
    | none => s
  match s.lcs.grant with
  | some g => if !g.jtag ∧ !g.full ∧ g.slot = n then closeGrant 3 s else s
  | none => s

/-- The session of a slot closes with an ALERT (R490). -/
def closeWith (n code : Nat) (s : State) : State :=
  let x := slotOf s n
  if x.st = 0 then s
  else
    let s := if x.st = 2 then sendFrame x.port (sealFrame x n 5 (x.seqOut + 1) (natLe code 1)) s
      else alertClear x.port n x.gen code s
    irq SES_PAGE 1 (freeSlot n s)

/-- The slots in use. -/
def usedSlots (s : State) : List Nat := (s.ses.slots.filter fun x => x.2.st != 0).map (·.1)

/-- Every session of a partner closes with ALERT REVOKED (R480). -/
def closePartner (id : Nat) (s : State) : State :=
  ((usedSlots s).filter fun n => (slotOf s n).partner == id).foldl (fun s n => closeWith n 8 s) s

/-- The effect and result of SES_ENROL_CMD (R479). `storeBad`: the store reads uncorrectable. -/
def enrolRun (op id : Nat) (storeBad : Bool) (s : State) : State × Nat :=
  let a := s.rg64 Reg.SES_ENROL_ADDR % 2 ^ 40
  let x := enrolOf s id
  if op = 0 ∨ 5 < op then (s, 2)
  else if op = 1 then
    if !blockIn a 128 then (s, 3)
    else
      let b := unitRead a 128 s
      match enrolParse b.2 with
      | none => (b.1, 2)
      | some y =>
        let s := setEnrol id y b.1
        (if x.valid ∧ y.key ≠ x.key then closePartner id s else s, 1)
  else if storeBad then (raise 0x4102 s, 4)
  else if !x.valid then (s, 5)
  else match op with
    | 2 => (setEnrol id { x with enabled := true } s, 1)
    | 3 => (closePartner id (setEnrol id { x with enabled := false } s), 1)
    | 4 => (closePartner id (setEnrol id { x with valid := false } s), 1)
    | _ => if !blockIn a 128 then (s, 3) else (putBytes a (enrolBytes x) s, 1)

/-- A write of SES_ENROL_CMD: SES_RESULT, IRQ source ENROL_DONE. -/
def enrolCmd (v : Word) (storeBad : Bool) (s : State) : State :=
  let r := enrolRun (fld v 28 4) (fld v 0 10) storeBad s
  irq SES_PAGE 3 (r.1.wrg Reg.SES_RESULT (w32 r.2))

/-! ### The handshake (R483 to R485) -/

/-- The session engine runs where a frame can reach it: in TRANSIT and in the SAFE of R118 it has no session, and answers a HELLO with ALERT
MODE (R484, R491). -/
def sesRuns (s : State) : Bool := hostsWork s || s.mode == .transit

/-- The handshake fails (R484). -/
def hsFails (port slot gen code : Nat) (s : State) : State := irq SES_PAGE 2 (alertClear port slot gen code s)

/-- FINISH does not arrive within HS_TMO (R484). -/
def hsTimeout (n : Nat) (s : State) : State :=
  let x := slotOf s n
  if x.st = 1 ∧ x.last + max 1 (s.rf Reg.SES_CFG 16 8) * 10000000 ≤ s.now then freeSlot n (hsFails x.port n x.gen 7 s) else s

/-- No frame is accepted for IDLE_S seconds (R490). -/
def sesIdle (n : Nat) (s : State) : State :=
  let x := slotOf s n
  let idle := s.rf Reg.SES_CFG 0 16
  if x.st = 2 ∧ idle ≠ 0 ∧ x.last + idle * 1000000000 ≤ s.now then closeWith n 0xA s else s

/-- What is due of the sessions' timers before a frame acts: a close comes before a frame of its cycle (R490). -/
def sesDue (s : State) : State := (usedSlots s).foldl (fun s n => sesIdle n (hsTimeout n s)) s

/-- The next frame that waits from a port, and the state without it. -/
def takeFrame (port : Nat) (s : State) : Option (List Byte × State) :=
  let s := sesDue s
  match s.ses.inbox.find? (·.1 == port) with
  | none => none
  | some f => some (f.2, hstScan { s with ses := { s.ses with inbox := s.ses.inbox.erase f } })

def ftype (l : List Byte) : Nat := blockNum l 1 1
def fslot (l : List Byte) : Nat := blockNum l 4 2
def fseq (l : List Byte) : Nat := blockNum l 8 8

/-- VERSION, LENGTH and the reserved bits of a frame are right (R481). -/
def frameOk (l : List Byte) : Bool :=
  blockNum l 0 1 == 1 && blockNum l 2 2 == l.length && decide (16 ≤ l.length) && decide (l.length ≤ 4096) && decide (fslot l < 1024)

/-- The frame's SLOT and GEN name a slot in use on the port. -/
def frameSlotOk (s : State) (port : Nat) (l : List Byte) : Bool :=
  let x := slotOf s (fslot l)
  x.st != 0 && x.gen == blockNum l 6 2 && x.port == port

/-- A frame dropped and counted: 0 OTHER, 11 REPLAY, 22 AUTH (R481, R489). -/
def dropFrame (lo : Nat) (s : State) : State := s.incSat Reg.SES_DROP lo (if lo = 22 then 10 else 11)

def handshakes (s : State) : Nat := (s.ses.slots.filter fun x => x.2.st == 1).length
def partnerSlots (s : State) (id : Nat) : Nat := (s.ses.slots.filter fun x => x.2.st != 0 && x.2.partner == id).length

/-- The failed check of a HELLO, in the order of R484. -/
def helloCheck (s : State) (l : List Byte) : Option Nat :=
  let id := blockNum l 16 2
  let e := enrolOf s id
  if blockNum l 0 1 ≠ 1 then some 1
  else if !lcOwner s ∨ !isEnabled s SES_PAGE ∨ s.mode = .transit ∨ (s.mode = .safe ∧ s.pat.recovery) then some 0xD
  else if 1024 ≤ id ∨ !e.valid ∨ !e.enabled then some 2
  else if e.maxSess ≤ partnerSlots s id then some 3
  else if 64 ≤ handshakes s then some 5
  else if 1024 ≤ (usedSlots s).length then some 4
  else none

/-- A HELLO that passes (R485): the lowest free slot, the keys, CHALLENGE. -/
def helloPasses (port : Nat) (l : List Byte) (s : State) : State :=
  let n := ((List.range 1024).find? fun n => (slotOf s n).st == 0).getD 0
  let gen := (slotOf s n).gen
  let nonce := natLe (Config.nonce s.fresh).toNat 32
  let head := frameHead 2 240 n gen 0 ++ nonce ++ (Config.ephemeralKey s.fresh).take 96
  let th := Config.sha384 (l ++ head)
  let secret := Config.ephemeralSecret s.fresh ((l.drop 52).take 96)
  let keys := Config.hkdf secret ((l.drop 20).take 32 ++ nonce) (ascii "TELEROV1" ++ digestBytes th) 72
  let x : Slot := { Slot.reset with st := 1, port := port, partner := blockNum l 16 2, gen := gen, last := s.now, th := th, keys := keys }
  sendFrame port (head ++ (Config.deviceSign th).take 96) (setSlot n x s.bump)

/-- A HELLO that waits at a port (R481, R484, R485). -/
def hello (port : Nat) (contested : Bool) (s : State) : State :=
  match takeFrame port s with
  | none => s
  | some (l, t) =>
    if !sesRuns s then s
    else if ftype l ≠ 1 then (if frameOk l then s else dropFrame 0 t)
    else if l.length ≠ 148 ∨ blockNum l 2 2 ≠ 148 ∨ blockNum l 4 12 ≠ 0 ∨ blockNum l 18 2 ≠ 0 then dropFrame 0 t
    else match helloCheck t l with
      | some c => hsFails port 0 0 c t
      | none => helloPasses port l (asymContest contested t)

/-- A FINISH that waits at a port (R483 to R485). -/
def finish (port : Nat) (contested : Bool) (s : State) : State :=
  match takeFrame port s with
  | none => s
  | some (l, t) =>
    if !sesRuns s ∨ ftype l = 1 then s
    else if !frameOk l then dropFrame 0 t
    else if ftype l ≠ 3 then s
    else
      let n := fslot l
      let x := slotOf t n
      if !frameSlotOk t port l ∨ x.st ≠ 1 ∨ l.length ≠ 112 ∨ fseq l ≠ 0 then dropFrame 0 t
      else
        let t := asymContest contested t
        let e := enrolOf t x.partner
        if !Config.ecdsaVerify e.key (Config.sha384 (digestBytes x.th ++ l.take 16)) ((l.drop 16).take 48) ((l.drop 64).take 48) then
          freeSlot n (hsFails port n x.gen 6 (raise 0x4101 t))
        else
          let y := { x with st := 2, last := t.now }
          let plain := natLe e.panel 1 ++ natLe e.rights 2 ++ natLe 4096 2 ++ natLe (t.rf Reg.SES_CFG 0 16) 2 ++ natLe 0 1
          irq SES_PAGE 0 (sendFrame port (sealFrame y n 4 0 plain) (setSlot n y t))

/-- A frame whose tag fails (R489): sixteen in a row close the session. -/
def authFails (n : Nat) (s : State) : State :=
  let x := slotOf s n
  let s := dropFrame 22 s
  if 16 ≤ x.bad + 1 then closeWith n 9 s else setSlot n { x with bad := x.bad + 1 } s

/-- An encrypted frame of an open session is judged (R489): none where it is dropped; else the plaintext, and the state with
its SEQ consumed. -/
def acceptFrame (l : List Byte) (s : State) : Option (List Byte) × State :=
  let s := fitCrypto s
  let n := fslot l
  let x := slotOf s n
  if fseq l ≤ x.seqIn then (none, dropFrame 11 s)
  else match (if l.length < 32 then none else openFrame x l) with
    | none => (none, authFails n s)
    | some p => (some p, setSlot n { x with seqIn := fseq l, bad := 0, last := s.now } s)

/-- An ALERT from the partner (R490): the session closes. -/
def alertFrame (port : Nat) (s : State) : State :=
  match takeFrame port s with
  | none => s
  | some (l, t) =>
    if !sesRuns s ∨ ftype l = 1 then s
    else if !frameOk l then dropFrame 0 t
    else if ftype l ≠ 5 then s
    else if !frameSlotOk t port l then dropFrame 0 t
    else if (slotOf t (fslot l)).st = 1 then irq SES_PAGE 1 (freeSlot (fslot l) t)
    else match acceptFrame l t with
      | (none, t) => t
      | (some _, t) => irq SES_PAGE 1 (freeSlot (fslot l) t)

/-- An encrypted DATA frame of the module, with the next SEQ; at 2^64 - 1 the session closes (R489). -/
def sendData (n : Nat) (plain : List Byte) (s : State) : State :=
  let s := fitCrypto s
  let x := slotOf s n
  let y := { x with seqOut := x.seqOut + 1 }
  let s := sendFrame x.port (sealFrame y n 0x10 y.seqOut plain) (setSlot n y s)
  if y.seqOut = 2 ^ 64 - 1 then closeWith n 0xC s else s

/-! ### DATA frames up to their request (R481, R486, R489) -/

/-- The frame that waits at a port judged as DATA: the slot and the plaintext of one that is accepted. A frame of a TYPE that no partner sends, and
a DATA frame of a slot still in handshake, are dropped. -/
def dataJudged (port : Nat) (s : State) : State × Option (Nat × List Byte) :=
  match takeFrame port s with
  | none => (s, none)
  | some (l, t) =>
    if !sesRuns s ∨ ftype l = 1 then (s, none)
    else if !frameOk l then (dropFrame 0 t, none)
    else if ftype l = 3 ∨ ftype l = 5 then (s, none)
    else if ftype l ≠ 0x10 ∨ !frameSlotOk t port l ∨ (slotOf t (fslot l)).st ≠ 2 then (dropFrame 0 t, none)
    else
      let r := acceptFrame l t
      (r.2, r.1.map fun p => (fslot l, p))

/-- A right of the partner of a slot (R478): 0 RD, 1 WR, 2 QUE, 3 APP, 4 DEBUG. -/
def hasRight (s : State) (n right : Nat) : Bool := (enrolOf s (slotOf s n).partner).rights.testBit right

/-- What follows a request: the answer, unless the request closed its session. -/
def sesAnswer (n op tag gen : Nat) (r : PortRes) : State :=
  let x := slotOf r.1 n
  if x.st = 2 ∧ x.gen = gen then sendData n (natLe (op % 128 + 128) 1 ++ natLe tag 1 ++ natLe r.2.1 1 ++ r.2.2) r.1 else r.1

/-- The last SEQ of the partner's direction closes the session after its frame (R489). -/
def sesSeqEnd (n gen seq : Nat) (s : State) : State :=
  let x := slotOf s n
  if seq = 2 ^ 64 - 1 ∧ x.st = 2 ∧ x.gen = gen then closeWith n 0xC s else s

/-- A write of SES_TX_CMD (R488): SES_TX_STATUS, IRQ source TX_DONE. The TAG of an APP frame of the module is not stated. -/
def txCmd (v : Word) (s : State) : State :=
  let s := sesDue s
  let n := fld v 0 10
  let len := fld v 16 12
  let a := s.rg64 Reg.SES_TX_ADDR % 2 ^ 40
  let x := slotOf s n
  let r : State × Nat :=
    if x.st ≠ 2 then (s, 2)
    else if len = 0 ∨ 4062 < len then (s, 3)
    else if !inUserMem a len then (s, 4)
    else if outBusy s x.port then (s, 5)
    else
      let b := unitRead a len s
      (sendData n (natLe 0x20 1 ++ natLe (b.1.freeBelow 256) 1 ++ b.2) b.1.bump, 1)
  irq SES_PAGE 4 (r.1.wrg Reg.SES_TX_STATUS (w32 r.2))

/-- CTRL.ENABLE of the SES page written 0 (R494). -/
def sesOff (s : State) : State := (usedSlots s).foldl (fun s n => closeWith n 0xB s) s

/-! ### Computed reads -/

def signSlotsWord (s : State) : Nat :=
  (List.range 16).foldl (fun a k => a + b2n (signOf s k).programmed * 2 ^ k + b2n (signOf s k).revoked * 2 ^ (16 + k)) 0
def dkeySlotsWord (s : State) : Nat :=
  (List.range 8).foldl (fun a k => a + b2n (dkeyOf s k).programmed * 2 ^ k + b2n (dkeyOf s k).revoked * 2 ^ (8 + k)) 0
/-- A word of THM_CERT: the device certificate, then that of the product CA; 0 beyond. -/
def certWord (s : State) (k : Nat) : Nat := leNat ((s.thm.certs.drop (4 * k)).take 4)
def slotInfoWord (s : State) : Nat :=
  let x := slotOf s (s.rf Reg.SES_SLOT_SEL 0 10)
  x.st * 2 ^ 29 + x.port * 2 ^ 24 + b2n x.full1 * 2 ^ 23 + b2n x.full0 * 2 ^ 22 + x.partner
def sesCountWord (s : State) : Nat := (s.ses.slots.filter fun x => x.2.st == 2).length * 2 ^ 16 + handshakes s

end Sys2Proof.Machine
end

