-- ==== Sys2Proof/Machine/Lifecycle.lean ====
section
/-!
DEFINITION. Life cycle and debug authorisation (R495 to R520): the state word, tokens, transitions and their resumption,
debug grants, the grant log, and the JTAG instructions with their gating. The accesses of the debug module are in
Machine/Debug.lean.
-/

namespace Sys2Proof.Machine

def LCS_PAGE : Nat := 0x49

/-! ### The state word (R499, R500) -/

/-- The lowest bit of step `k`'s nibble in the state word: nibble (k - 1) div 8 of group (k - 1) mod 8. -/
def stepBit (k : Nat) : Nat := 16 * ((k - 1) % 8) + 4 * ((k - 1) / 8)

/-- The nibble at bit `b` of the word. -/
def nibbleAt (w : BitVec 128) (b : Nat) : Nat := nfld w.toNat b 4

/-- A nibble reads as programmed with 3 or 4 bits set. -/
def isProgrammed (n : Nat) : Bool := decide (3 ≤ popc 4 n)

/-- The state a word decodes to: k when steps 1 to k read as programmed and every other nibble is clear; else SCRAP, with
false. -/
def lcDecode (w : BitVec 128) : Nat × Bool :=
  let steps := (List.range 19).map (· + 1)
  let reserved := (List.range 32).filter fun i => i % 4 = 3 ∨ (i % 4 = 2 ∧ 3 ≤ i / 4)
  let k := (steps.takeWhile fun j => isProgrammed (nibbleAt w (stepBit j))).length
  let clear := (steps.drop k).all (fun j => nibbleAt w (stepBit j) == 0) && reserved.all (fun i => nibbleAt w (4 * i) == 0)
  if clear then (k, true) else (0x13, false)

/-- Thimble decodes the word at a start (R500). -/
def lcRead (s : State) : State :=
  let r := lcDecode s.lcs.word
  { s with lcs := { s.lcs with st := r.1, badWord := !r.2 } }

/-- The states RAW, TEST_LOCKED_n, TEST_UNLOCKED_n, and those that allow unsigned code and open debug (R496). -/
def isRaw (k : Nat) : Bool := k == 0
def isLockedTest (k : Nat) : Bool := k % 2 == 0 && decide (0 < k) && decide (k < 0x0F)
def isUnlockedTest (k : Nat) : Bool := k % 2 == 1 && decide (k < 0x0F)
def isOpenState (k : Nat) : Bool := isUnlockedTest k || k == 0x0F || k == 0x12

/-! ### Tokens (R501 to R503) -/

def tokenOf (s : State) (n : Nat) : TokenSlot := sget (fun _ => TokenSlot.reset) s.lcs.tokens n
def setToken (n : Nat) (x : TokenSlot) (s : State) : State :=
  { s with lcs := { s.lcs with tokens := sset (fun _ => TokenSlot.reset) s.lcs.tokens n x } }

/-- The 32 bytes of LCS_TOKEN0 to LCS_TOKEN7. -/
def tokenBytes (s : State) : List Byte :=
  (List.range 8).flatMap fun k => natLe (sget (fun _ => 0) s.lcs.tokenBuf k).toNat 4

/-- The digest a token is compared by: SHA-384 of the token and the UID. -/
def tokenDigest (s : State) (token : List Byte) : BitVec 384 := Config.sha384 (token ++ uidBytes s)

/-- A token matches a slot: programmed, not consumed, the digest. -/
def tokenFits (s : State) (n : Nat) (token : List Byte) : Bool :=
  let t := tokenOf s n
  t.programmed && !t.consumed && t.digest == tokenDigest s token

/-- PROG_TOKEN (R501). `otpBad`: an OTP bit fails verification (R472), and the stored digest differs in one bit, which one a free value. -/
def progToken (n : Nat) (otpBad : Bool) (s : State) : State × Nat :=
  let allowed := (decide (n < 8) && s.lcs.st == 0) || (n == 8 && (s.lcs.st == 0x0F || s.lcs.st == 0x10))
  if 9 ≤ n then (s, 2)
  else if !allowed then (s, 8)
  else if (tokenOf s n).programmed then (s, 7)
  else
    let d := tokenDigest s (tokenBytes s)
    let put := fun (x : BitVec 384) => setToken n ⟨true, (tokenOf s n).consumed, x⟩ s
    if otpBad then (raise 0x4803 (put (d ^^^ BitVec.twoPow 384 (s.freeBelow 384))).bump, 9) else (put d, 1)

/-! ### Transitions (R504 to R509) -/

/-- Whether a target is accepted from a state, and the token slot it needs (R504). -/
def lcTarget (st target : Nat) : Option (Option Nat) :=
  let test := decide (0 < st) && decide (st < 0x0F)
  if target = 0x0F then (if test then some (some 7) else none)
  else if target = 0x10 then (if st = 0x0F then some none else none)
  else if target = 0x11 then (if st = 0x10 then some none else none)
  else if target = 0x12 then (if st = 0x0F ∨ st = 0x10 ∨ st = 0x11 then some (some 8) else none)
  else if target = 0x13 then
    if st = 0x10 ∨ st = 0x11 then some (some 8)
    else if st = 0 ∨ test ∨ st = 0x0F ∨ st = 0x12 then some none
    else none
  else if target = 0 ∨ 0x13 < target then none
  else if st = 0 then (if target = 1 then some (some 0) else none)
  else if !test then none
  else if target % 2 = 0 then (if target = st + 1 ∧ st % 2 = 1 then some none else none)
  else if (st + 1) / 2 < (target + 1) / 2 then some (some ((target + 1) / 2 - 1))
  else none

/-- The precondition of PROVISIONED (R504). -/
def lcReady (s : State) (target : Nat) : Bool :=
  target != 0x10
    || ((List.range 15).any (fun k => (signOf s (k + 1)).programmed && !(signOf s (k + 1)).revoked) && (tokenOf s 8).programmed)

/-- A record is free: record 31 is kept for SCRAP (R507). -/
def recordFree (s : State) (target : Nat) : Bool :=
  decide (s.lcs.records.length < (if target = 0x13 then 32 else 31))

/-- The failed check of a transition, in the order of R505, as codes of LCS_RESULT. -/
def lcRefusal (s : State) (target : Nat) (token : List Byte) : Option Nat :=
  if !(s.mode == .run || s.mode == .service) then some 8
  else if s.lcs.lockedOut then some 5
  else match lcTarget s.lcs.st target with
    | none => some 3
    | some slot =>
      if !lcReady s target then some 6
      else if !recordFree s target then some 0xA
      else match slot with
        | some n => if tokenFits s n token then none else some 4
        | none => none

/-- The token slots a transition consumes (R502): those of every TEST_UNLOCKED state it enters or passes over. -/
def consumed (st target : Nat) : List Nat :=
  if target % 2 = 1 ∧ target < 0x0F then
    (List.range 7).filter fun m => (if st = 0 then 0 else (st + 1) / 2) ≤ m ∧ m ≤ (target + 1) / 2 - 1
  else []

/-- The preparation of RMA and SCRAP (R508). -/
def lcPrepare (target : Nat) (s : State) : State :=
  let dkeys := fun (s : State) => (List.range 8).foldl (fun s k => setDkey k { dkeyOf s k with revoked := true } s) s
  if target = 0x12 then
    let s := dkeys s
    let s := { s with ses := { s.ses with enrol := [] } }
    let wipe := fun (p : Plane) (s : State) =>
      let s := countErase p s
      setPlane p { PlaneRec.reset with cycles := (planeOf s p).cycles } s
    wipe .b (wipe .a s)
  else if target = 0x13 then
    (List.range 16).foldl (fun s k => setSign k { signOf s k with revoked := true } s) (dkeys s)
  else s

/-- Write Wj (R507): bit j of the nibble of every step from st + 1 to the target; `bad` bits of the word fail to program: fault 0x4803
(R472). -/
def lcWrite (st target j : Nat) (bad : BitVec 128) (s : State) : State :=
  let bits := (List.range 19).map (· + 1) |>.filter fun k => st < k ∧ k ≤ target
  let w := bits.foldl (fun w k => w ||| (1#128 <<< (stepBit k + j))) (0 : BitVec 128)
  let s := { s with lcs := { s.lcs with word := s.lcs.word ||| (w &&& ~~~bad) } }
  if w &&& bad = 0 then s else raise 0x4803 s

/-- The last record changes. -/
def lastRecord (f : Nat → Nat) (s : State) : State :=
  match s.lcs.records.reverse with
  | r :: l => { s with lcs := { s.lcs with records := (f r :: l).reverse } }
  | [] => s

/-- Mark Mj of the last record. -/
def lcMark (j : Nat) (s : State) : State := lastRecord (fun r => nset r (8 + j)) s

/-- Step `n` of a transition (R507): 0 TARGET with the consumption of R502, 1 OPEN, 2 the preparation, then Wj and Mj in
turn. -/
def lcStep (target : Nat) (bad : BitVec 128) (s : State) (n : Nat) : State :=
  if n = 0 then
    let s := (consumed s.lcs.st target).foldl (fun s k => setToken k { tokenOf s k with consumed := true } s) s
    { s with lcs := { s.lcs with records := s.lcs.records ++ [target] } }
  else if n = 1 then lastRecord (fun r => nset r 15) s
  else if n = 2 then lcPrepare target s
  else if n % 2 = 1 then lcWrite s.lcs.st target ((n - 3) / 2) bad s
  else lcMark ((n - 4) / 2) s

/-- The steps of a transition. -/
def lcSteps : Nat := 11

/-- The PIN registers at their reset values, as in TRANSIT (R335), but for those that Selvage and HOLD give. -/
def pinRegsReset (s : State) : State :=
  let s := s.resetRegs fun o => decide (0x30000 ≤ o) && decide (o < 0x3C000) && decide (0x40 ≤ o % 0x1000)
    && !(o == Reg.PIN_STRAP 0) && !(o == Reg.PIN_WAKE 0)
  let s := (List.range 12).foldl (fun s b => setBank b { bankOf s b with out := 0, oe := 0, toSet := 0, toClr := 0, com := 0 } s) s
  updPins (fun _ => true) (fun _ p => { p with win := none, held := none, iso := false }) s

/-- Entry to TRANSIT (R506): the cores stop, every region is isolated by the mode, sessions close, a grant ends with REASON
7, image operations act as at a pass through HOLD. -/
def enterTransit (s : State) : State :=
  let s := endGrant 7 s
  let s := abortBaste (abortPat s)
  let s := pinRegsReset (wipeSessions (pleatStopAll (suspendAll s)))
  setMode .transit { s with lcs := { s.lcs with challenge := none } }

/-- An accepted transition: TRANSIT, and the first `steps` of its steps; with all of them the module enters HOLD. -/
def lcAccepted (target steps : Nat) (bad : BitVec 128) (s : State) : State :=
  (List.range (min steps lcSteps)).foldl (lcStep target bad) (enterTransit s)

/-- A token that does not match: fault 0x4902 and the lockout (R503). -/
def lcLockout (s : State) : State := raise 0x4902 { s with lcs := { s.lcs with lockedOut := true } }

/-- The transition command, by any route: the code, and whether it was accepted (R505). -/
def lcTransition (target : Nat) (token : List Byte) (steps : Nat) (bad : BitVec 128) (s : State) : State × Nat :=
  match lcRefusal s target token with
  | some 4 => (lcLockout s, 4)
  | some c => (s, c)
  | none => (lcAccepted target steps bad s, 1)

/-- The open transition a start finds (R509): its target and marks; none where there is nothing to resume. -/
def openRecord (s : State) : Option (Nat × Nat) :=
  match s.lcs.records.getLast? with
  | some r => if r.testBit 15 ∧ !r.testBit 11 then some (r % 32, nfld r 8 4) else none
  | none => none

/-- A start resumes the open transition (R509). -/
def lcResume (s : State) : State :=
  match openRecord s with
  | none => s
  | some (target, marks) =>
    let s := if marks.testBit 0 then s else lcPrepare target s
    let s := (List.range 4).foldl (fun s j => if marks.testBit j then s else lcMark j (lcWrite s.lcs.st target j 0 s)) s
    { s with lcs := { s.lcs with resumed := true } }

/-! ### Commands (R501, R505, R510, R514, R519) -/

/-- The end of a command: LCS_RESULT, the token buffer cleared, CMD_DONE. -/
def lcDone (code : Nat) (s : State) : State :=
  irq LCS_PAGE 0 ({ s with lcs := { s.lcs with tokenBuf := [] } }.wrg Reg.LCS_RESULT (w32 code))

/-- An entry of the grant log (R516), the newest first; the oldest beyond 256 is replaced. -/
def logGrant (g : Grant) (s : State) : State :=
  let seq := match s.lcs.log with | e :: _ => e.seq + 1 | [] => 0
  let e : GrantLog :=
    ⟨s.now, 2 ^ 64 - 1, if g.full then 0xFF else g.panel, if g.full then 0xFF else g.keyId, g.scope,
      if g.jtag then 2 ^ 15 else g.slot, if g.jtag || g.full then 0xFFFF else (slotOf s g.slot).partner, 0, s.lcs.st, seq % 2 ^ 32⟩
  { s with lcs := { s.lcs with log := (e :: s.lcs.log).take 256 } }

/-- A grant becomes active: logged, then SERVICE. -/
def startGrant (g : Grant) (s : State) : State :=
  let s := logGrant g s
  irq LCS_PAGE 1 (setMode .service ({ s with lcs := { s.lcs with grant := some g } }.wrg64 Reg.LCS_DBG_END g.endTime))

/-- SERVICE_OPEN (R510, R517). -/
def serviceOpen (s : State) : State × Nat :=
  if s.lcs.grant.isSome then (s, 0xB)
  else if !isOpenState s.lcs.st || s.mode != .run then (s, 8)
  else (startGrant ⟨false, 0, 0x1F, 0, 0, 2 ^ 64 - 1, true⟩ s, 1)

/-- SERVICE_END (R514). -/
def serviceEnd (s : State) : State × Nat := (closeGrant 2 s, 1)

/-- A write of LCS_CMD in its turn (R519). -/
def lcsRun (v : Word) (steps : Nat) (bad : BitVec 128) (otpBad : Bool) (s : State) : State :=
  let s := grantExpire s
  let arg := fld v 8 5
  let r : State × Nat := match fld v 0 4 with
    | 1 => lcTransition arg (tokenBytes s) steps bad s
    | 2 => progToken arg otpBad s
    | 3 => serviceOpen s
    | 4 => serviceEnd s
    | _ => (s, 2)
  lcDone r.2 r.1

/-! ### Challenge and response (R511, R512) -/

/-- The 80 bytes of a challenge. -/
def challengeBytes (s : State) (c : Challenge) : List Byte :=
  ascii "QKMDBG01" ++ uidBytes s ++ natLe c.nonce 32 ++ natLe s.lcs.st 1 ++ natLe c.panel 1 ++ natLe c.scope 2
    ++ natLe c.minutes 2 ++ natLe c.keyId 1 ++ natLe 0 1 ++ natLe c.issued 8 ++ natLe 0 8

/-- An outstanding challenge that is 300 s old is gone (R511). -/
def challengeExpire (s : State) : State :=
  match s.lcs.challenge with
  | some c => if c.issued + 300000000000 ≤ s.now then { s with lcs := { s.lcs with challenge := none } } else s
  | none => s

/-- A request of a grant, by a session slot or by JTAG (R511): the status, and the challenge. -/
def challengeReq (jtag : Bool) (slot panel scope minutes keyId : Nat) (s : State) : State × Nat × List Byte :=
  let s := grantExpire (challengeExpire s)
  if s.lcs.challenge.isSome || s.lcs.grant.isSome then (s, 0x12, [])
  else if !(s.lcs.st == 0x10 || s.lcs.st == 0x11) || s.mode != .run then (s, 0x23, [])
  else if 8 ≤ panel ∨ 32 ≤ scope ∨ minutes = 0 ∨ 1440 < minutes ∨ keyId = 0 ∨ 16 ≤ keyId then (s, 0x11, [])
  else
    let c : Challenge := ⟨jtag, panel, scope, minutes, keyId, slot, (Config.nonce s.fresh).toNat, s.now⟩
    ({ s with lcs := { s.lcs with challenge := some c } }.bump, 0, challengeBytes s c)

/-- A response (R512): the status, and the end time. `storeBad`: the log write fails. -/
def challengeResp (jtag : Bool) (slot : Nat) (body : List Byte) (storeBad : Bool) (s : State) : State × Nat × List Byte :=
  let denied := fun (s : State) =>
    (irq LCS_PAGE 3 (raise 0x4903 { s with lcs := { s.lcs with challenge := none } }), 0x22, ([] : List Byte))
  match s.lcs.challenge with
  | none => denied s
  | some c =>
    let key := body.take 96
    let k := signOf s c.keyId
    let mine := c.jtag == jtag && (jtag || c.slot == slot)
    if !mine || decide (c.issued + 300000000000 ≤ s.now) || s.mode != .run || body.length != 192 then denied s
    else if !k.programmed || k.revoked || k.digest != Config.sha384 key then denied s
    else if !Config.ecdsaVerify key (Config.sha384 (challengeBytes s c)) ((body.drop 96).take 48) ((body.drop 144).take 48) then denied s
    else
      let s := { s with lcs := { s.lcs with challenge := none } }
      if storeBad then (s, 4, [])
      else
        let t := s.now + c.minutes * 60000000000
        (startGrant ⟨jtag, c.panel, c.scope, c.keyId, slot, t, false⟩ s, 0, natLe t 8)

/-- DBG_REQ (PANEL, SCOPE, DURATION, KEY_ID), which needs the DEBUG right, and DBG_RESP of a session (R511, R512). -/
def sesDebug (n op : Nat) (body : List Byte) (storeBad : Bool) (s : State) : PortRes :=
  if op = 0x41 then challengeResp false n body storeBad s
  else if !hasRight s n 4 then (s, 0x20, [])
  else if body.length ≠ 6 then (s, 0x11, [])
  else challengeReq false n (blockNum body 0 1) (blockNum body 1 2) (blockNum body 3 2) (blockNum body 5 1) s

/-! ### JTAG (R515) -/

/-- The letter code of the module revision (R15): the high nibble of ID.REVISION; and IDCODE. -/
def idcode : Nat := moduleRev / 16 * 2 ^ 28 + 0x6480 * 2 ^ 12 + 0x5B3 * 2 + 1

/-- A scope bit of the active grant: 0 CORE, 1 BSCAN, 2 WRITE, 3 INJECT, 4 HEM. -/
def hasScope (s : State) (n : Nat) : Bool := match s.lcs.grant with | some g => g.scope.testBit n | none => false

/-- Whether a JTAG instruction answers in the state of the life cycle. -/
def jtagOpen (s : State) (code : Nat) : Bool :=
  let k := s.lcs.st
  if code = 0x01 ∨ code = 0x10 ∨ code = 0x3F then true
  else if 0x02 ≤ code ∧ code ≤ 0x05 then k == 0 || isOpenState k || ((k == 0x10 || k == 0x11) && hasScope s 1)
  else if code = 0x11 then k != 0x13
  else if code = 0x12 ∨ code = 0x13 then k == 0x10 || k == 0x11
  else if code = 0x18 ∨ code = 0x19 then isOpenState k || ((k == 0x10 || k == 0x11) && hasScope s 0)
  else false

/-- A JTAG instruction is selected: a gated one acts as BYPASS and is counted; whether it answers. -/
def jtagSelect (code : Nat) (s : State) : State × Bool :=
  let s := grantExpire s
  if s.mode = .off ∨ s.mode = .hibernate then (s, false)
  else if jtagOpen s code then ({ s with lcs := { s.lcs with tap := code } }, true)
  else ({ s with lcs := { s.lcs with tap := 0x3F } }.incSat Reg.LCS_JTAG 0 16, false)

/-- LC_TRANSITION, LC_CHALLENGE, LC_RESPONSE in their turn: the code and the bytes shown; none where the instruction is gated. -/
def jtagRun (code : Nat) (act : State → State × Nat × List Byte) (s : State) : State × Option (Nat × List Byte) :=
  let r := jtagSelect code s
  if r.2 then
    let q := act r.1
    (q.1, some q.2)
  else (r.1, none)

/-- LC_TRANSITION: a refused one changes nothing but what R503 says; the code is what the scan returns. -/
def jtagMove (target : Nat) (token : List Byte) (steps : Nat) (bad : BitVec 128) (s : State) : State × Nat × List Byte :=
  let q := lcTransition target token steps bad s
  (q.1, q.2, [])

/-! ### The requests of one cycle (R516, R517) -/

/-- A JTAG instruction beside another request: what it shows is kept with the answers of the cycle, the code first. -/
def jtagBeside (r : State × Option (Nat × List Byte)) : State :=
  match r.2 with
  | some (c, l) => r.1.heard .debugUnit .okay (w64 c :: l.map (·.setWidth 64))
  | none => r.1

/-- A request that meets another: the state with the frame of a session taken, and what it does in its turn. -/
def lcTaken (q : LcReq) (s : State) : State × (State → State) :=
  match q with
  | .command v steps bad otpBad => (s, lcsRun v steps bad otpBad)
  | .transition target token steps bad => (s, fun t => jtagBeside (jtagRun 0x11 (jtagMove target.toNat token steps bad) t))
  | .challenge panel scope minutes keyId =>
    (s, fun t => jtagBeside (jtagRun 0x12 (challengeReq true 0 panel.toNat scope.toNat minutes.toNat keyId.toNat) t))
  | .response body storeBad => (s, fun t => jtagBeside (jtagRun 0x13 (challengeResp true 0 body storeBad) t))
  | .frame port storeBad =>
    match dataJudged port.val s with
    | (t, some (n, p)) =>
      let op := blockNum p 0 1
      let x := slotOf t n
      if p.length < 2 ∨ !(op == 0x40 || op == 0x41) then (s, id)
      else (t, fun u => sesSeqEnd n x.gen x.seqIn (sesAnswer n op (blockNum p 1 1) x.gen (sesDebug n op (p.drop 2) storeBad u)))
    | (t, none) => (t, id)

/-- A request of requester `me` in its turn among those it meets (R516): ascending from the base, each judged on the state the one before it
left; the base advances after a contested cycle. -/
def lcTurn {α : Type} (me : Nat) (meets : List LcReq) (act : State → State × α) (s : State) : State × α :=
  if meets.isEmpty then act s
  else
    let place := fun k => (k + 3 - s.lcs.base) % 3
    let l := meets.foldl (fun (a : State × List (Nat × (State → State))) q =>
      let r := lcTaken q a.1
      (r.1, a.2 ++ [(place (lcRequester q), r.2)])) (s, [])
    let order := (List.range 3).flatMap fun k => l.2.filter (·.1 == k)
    let r := act ((order.filter fun x => decide (x.1 < place me)).foldl (fun t x => x.2 t) l.1)
    let t := (order.filter fun x => decide (place me ≤ x.1)).foldl (fun t x => x.2 t) r.1
    ({ t with lcs := { t.lcs with base := (s.lcs.base + 1) % 3 } }, r.2)

/-- A write of LCS_CMD (R519), in its turn. -/
def lcsCmd (v : Word) (steps : Nat) (bad : BitVec 128) (otpBad : Bool) (meets : List LcReq) (s : State) : State :=
  (lcTurn 0 meets (fun s => (lcsRun v steps bad otpBad s, ())) s).1

/-! ### Boundary scan, TRST_N (R514, R515) -/

/-- The level of every pin, in the bits 2n of the boundary-scan register. -/
def bscanSample (s : State) : BitVec 960 :=
  (List.range 480).foldl (fun w n => if padLevel s n then w ||| (1#960 <<< (2 * n)) else w) 0

/-- SAMPLE/PRELOAD, EXTEST: the register captures the pads, then takes the bits shifted in. -/
def bscanShift (code : Nat) (bits : BitVec 960) (s : State) : State :=
  let r := jtagSelect code s
  if r.2 then
    let cap := bscanSample r.1
    ({ r.1 with lcs := { r.1.lcs with bsr := bits } }).answer .okay
      ((List.range 15).map fun i => w64 (nfld cap.toNat (64 * i) 64))
  else r.1

/-- CLAMP and HIGHZ. -/
def bscanHold (code : Nat) (s : State) : State := (jtagSelect code s).1

/-- TRST_N low: the TAP resets, a JTAG grant ends (R514). -/
def trst (s : State) : State :=
  let s := { s with lcs := { s.lcs with tap := 0x01 } }
  match s.lcs.grant with
  | some g => if g.jtag then closeGrant 4 s else s
  | none => s

/-! ### Computed reads (R519) -/

def lcsStateWord (s : State) : Nat := s.lcs.records.length * 256 + s.lcs.st
def lcsWord (s : State) (k : Nat) : Nat := nfld s.lcs.word.toNat (32 * k) 32
def tokenSlotsWord (s : State) : Nat :=
  (List.range 9).foldl (fun a k => a + b2n (tokenOf s k).programmed * 2 ^ k + b2n (tokenOf s k).consumed * 2 ^ (16 + k)) 0
def lcsStatus (s : State) : Nat :=
  b2n s.lcs.grant.isSome * 2 ^ 30 + b2n s.lcs.lockedOut * 2 ^ 29 + b2n s.lcs.resumed * 2 ^ 28 + s.lcs.st % 32
def lcsDbgWord (s : State) : Nat :=
  match s.lcs.grant with
  | some g => 2 ^ 31 + b2n g.jtag * 2 ^ 30 + g.panel * 2 ^ 24 + g.scope * 2 ^ 16 + g.keyId * 2 ^ 12 + g.slot
  | none => 0
/-- The 32 bytes of a log entry. -/
def grantBytes (e : GrantLog) : List Byte :=
  natLe e.start 8 ++ natLe e.endT 8 ++ natLe e.panel 1 ++ natLe e.keyId 1 ++ natLe e.scope 2 ++ natLe e.route 2
    ++ natLe e.partner 2 ++ natLe e.reason 1 ++ natLe e.state 1 ++ natLe 0 2 ++ natLe e.seq 4
def lcsLogWord (s : State) (k : Nat) : Nat :=
  match s.lcs.log[s.rf Reg.LCS_LOG_SEL 0 8]? with
  | some e => leNat (((grantBytes e).drop (4 * k)).take 4)
  | none => 0

end Sys2Proof.Machine
end

