-- ==== Sys2Proof/Machine/Time.lean ====
section
/-!
DEFINITION. The time base and the watchdogs (R408 to R427): ticks, steering, the rebuild across sleep, the capture of reads, the
compare channels, and the counts, kicks and expiries of the watchdogs.
-/

namespace Sys2Proof.Machine

/-- The time base runs (R408, R414). -/
def timeRuns (s : State) : Bool := match s.mode with | .off | .hold | .nap | .hibernate => false | _ => true

/-! ### Watchdogs (R419 to R423) -/

/-- Enabled watchdogs count in these modes (R423). -/
def wdgMode (s : State) : Bool := match s.mode with | .run | .service | .doze | .swap => true | _ => false

/-- Watchdog k counts: a core watchdog while a thread runs on its core. While the WDG page is disabled (R22) those of the page do not; the
system watchdog is Selvage's, and nothing stops it (R420, R426). -/
def wdgCounts (s : State) (k : Nat) : Bool :=
  wdgEn s k && wdgMode s && !(wdgOf s k).stopped && (decide (k = 24) || isEnabled s WDG_PAGE)
    && (decide (16 ≤ k) || ((coreOf s k).thread.isSome && !s.lcs.halted.contains k))

/-- Watchdog k has reached its timeout and its expiry has not been dealt with. -/
def wdgDue (s : State) (k : Nat) : Bool := wdgCounts s k && decide ((wdgOf s k).timeout ≤ (wdgOf s k).used)

/-- A kick of watchdog k; one that arrives as the watchdog expires is ignored (R422). -/
def wdgKick (k : Nat) (s : State) : State := if wdgEn s k && !wdgDue s k then wdgRestart k s else s

/-- `n` more units of the count of watchdog k. -/
def wdgAdvance (n : Nat) (s : State) (k : Nat) : State :=
  if wdgCounts s k then setWdg k { wdgOf s k with used := (wdgOf s k).used + n } s else s

/-- 1/8 of the timeout remains (R419): WARN, once for each restart. -/
def wdgWarn (k : Nat) (s : State) : State :=
  let x := wdgOf s k
  if wdgCounts s k && !x.warned && decide (7 * x.timeout ≤ 8 * x.used) then
    irq WDG_PAGE (if k < 16 then 0 else if k < 24 then 2 else 4) (setWdg k { x with warned := true } s)
  else s

/-- A watchdog's module reset is asked for (R285, R421): SAFE_N and ALERT_N go low, every flash bank is suspended; the first cause stands. -/
def askReset (cause panel : Nat) (s : State) : State :=
  if s.pwr.modReset.isSome then s else suspendAll { s with pwr := { s.pwr with modReset := some (cause, panel) } }

/-- The ACTION of a core or panel watchdog. -/
def wdgAction (s : State) (k : Nat) : Nat := if k < 16 then s.rf (wdgCfg k) 29 2 else s.rf (wdgCfg k) 28 2

/-- An expiry's fault, EXPIRED bit and interrupt (R419, R422). -/
def wdgReport (s : State) (k : Nat) : State :=
  let s := setWdg k { wdgOf s k with stopped := true } s
  if k < 16 then irq WDG_PAGE 1 (raise 0x0601 (s.wb Reg.WDG_EXPIRED k true))
  else if k < 24 then irq WDG_PAGE 3 (raise 0x0602 (s.wb Reg.WDG_EXPIRED k true))
  else raise 0x0603 s

/-- CANCEL of a core watchdog: the thread on the core at expiry, as BOB_CANCEL (R419). -/
def wdgCancel (threads : List (Nat × Nat)) (s : State) (c : Nat) : State :=
  match threads.find? (·.1 == c) with
  | some (_, t) => settle (cancel t s).1
  | none => s

/-- Several watchdogs that expire in one cycle (R422): every fault; a module reset comes before all; else SAFE, panel
resets, cluster isolation, CANCEL. -/
def wdgExpire (l : List Nat) (s : State) : State :=
  let due := l.filter (wdgDue s)
  let threads := (List.range 16).filterMap fun c => (coreOf s c).thread.map fun t => (c, t)
  let s := due.foldl wdgReport s
  let reset := due.find? fun k => k == 24 || (decide (16 ≤ k) && wdgAction s k == 3)
  match reset with
  | some _ =>
    if due.contains 24 then askReset 2 0 s
    else match reset with
      | some k => askReset 3 (k - 16) s
      | none => s
  | none =>
    let panels := due.filter fun k => 16 ≤ k ∧ k < 24
    let cores := due.filter (· < 16)
    let s := (panels.filter fun k => wdgAction s k == 2).foldl (fun s _ => raiseSafe 0x0605 s) s
    let s := (panels.filter fun k => wdgAction s k == 1).foldl (fun s k => panelReset (k - 16) s) s
    let acts := cores.map fun k => (k, wdgAction s k)
    let s := ((acts.filter (·.2 == 2)).map fun a => a.1 / 4).eraseDups.foldl (fun s k => isolateCluster k s) s
    ((acts.filter (·.2 == 1)).map (·.1)).foldl (wdgCancel threads) s

/-- A write of WDG_SYS_KICK (R420): restarts, or acts as an expiry on a wrong value or inside the window. -/
def sysKick (v : Word) (s : State) : State :=
  if !wdgCounts s 24 ∨ wdgDue s 24 then s
  else
    let x := wdgOf s 24
    let early := decide (x.used * 8 < s.rf Reg.WDG_SYS_CFG 28 3 * x.timeout)
    if v ≠ 0xA55A ∨ early then askReset 4 0 (raise 0x0604 (setWdg 24 { x with stopped := true } s)) else wdgRestart 24 s

/-- A write of WDG_SYS_CFG (R420, R426); false: ACCESS. -/
def sysCfgWrite (v : Word) (s : State) : State × Bool :=
  if wdgEn s 24 then (s, false)
  else if fld v 0 9 = 0 ∨ 256 < fld v 0 9 then (s, false)
  else
    let s := s.wrg Reg.WDG_SYS_CFG (v &&& 0xF00001FF)
    (if bit v 31 then wdgRestart 24 s else s, true)

/-- A write of a core's or panel's configuration: setting EN starts the count. -/
def wdgCfgStore (k : Nat) (v : Word) (s : State) : State :=
  let was := wdgEn s k
  let s := s.wrg (wdgCfg k) v
  if bit v 31 ∧ !was then wdgRestart k s else s

/-- A write of WDG_PANEL_CFG (R426); false: ACCESS. LOCK freezes EN, ACTION and TIMEOUT, as R24 freezes a field (DESIGN CHOICE: log 90). -/
def panelCfgWrite (p : Nat) (v : Word) (s : State) : State × Bool :=
  let r := bank p Reg.WDG_PANEL_CFG
  if fld v 0 14 = 0 ∨ 16000 < fld v 0 14 then (s, false)
  else if s.rb r 30 then (s, false)
  else (wdgCfgStore (16 + p) (v &&& 0xF0003FFF) s, true)

/-- A write of WDG_CORE_CFGc (R426); false: ACCESS. -/
def coreCfgWrite (c : Nat) (v : Word) (s : State) : State × Bool :=
  if fld v 29 2 = 3 ∨ fld v 0 20 = 0 ∨ 1000000 < fld v 0 20 then (s, false)
  else (wdgCfgStore c (v &&& 0xE00FFFFF) s, true)

/-- Every enabled watchdog restarts from its full timeout at a wake from NAP or HIBERNATE (R423). -/
def wdgWake (s : State) : State := (List.range 25).foldl (fun s k => if wdgEn s k then wdgRestart k s else s) s

/-- WDG_PANEL_LEFT and WDG_SYS_LEFT, in ms. -/
def panelLeft (s : State) (p : Nat) : Nat :=
  let x := wdgOf s (16 + p)
  if wdgEn s (16 + p) ∧ !x.stopped then (x.timeout - x.used) / 1000000 else 0
def sysLeft (s : State) : Nat :=
  let x := wdgOf s 24
  if wdgEn s 24 ∧ !x.stopped then (x.timeout - x.used) * 1000 / 32768 else 0

/-! ### The tick (R409 to R413) -/

/-- TIM_TRIM as a signed number of 2^-32 ns (R413). -/
def trimOf (s : State) : Int := (BitVec.ofNat 25 (s.rf Reg.TIM_TRIM 0 25)).toInt

/-- The increment of one tick, in 2^-32 ns (R411 to R413), never 0. While SOURCE is 2 the steering adds what the last always-on tick
found; after it, what remains goes by 1/256 of each increment. -/
def increment (s : State) : Int :=
  max 1 <| if s.timSource = 2 then 10 * 2 ^ 32 + (if s.tim.steering then s.tim.adj else 0)
  else
    let n : Int := s.incBase + trimOf s
    let step := n / 256
    n + (if !s.tim.steering then 0 else if 0 ≤ s.tim.diff then min step s.tim.diff else max (-step) s.tim.diff)

/-- What an increment takes off the difference. -/
def steered (s : State) : Int :=
  if !s.tim.steering then 0
  else if s.timSource = 2 then s.tim.adj else increment s - (s.incBase + trimOf s)

/-- The compare values whose high word was written, and control and period words written, take effect at the tick (R417). -/
def applyCompares (s : State) : State :=
  let s := s.tim.cmpNext.foldl (fun s c => s.wrg64 (Reg.TIM_CMP c.1) c.2.toNat) s
  { s with tim := { s.tim with cmpNext := [], cmpWas := [] } }

/-- TIM_NOW one increment on (R409). -/
def advanceNow (s : State) : State :=
  let sum := (s.now * 2 ^ 32 + s.tim.frac : Int) + increment s
  let n := sum.toNat
  let d := s.tim.diff - steered s
  { s.wrg64 Reg.TIM_NOW (n / 2 ^ 32) with tim := { s.tim with frac := n % 2 ^ 32, diff := d } }

/-- The modes whose time Overlock's refresher counts. -/
def activeMode (s : State) : Bool := match s.mode with | .run | .service | .doze | .safe => true | _ => false

/-- One tick: TIM_NOW advances, and with it what waits for a time alone: compare values written, the counts of the
watchdogs, the age of the patrol scrub's pass, the steps of a plane write, an outage, a basting and a RESTORE, the suspends of flash, the rebuilds of the Spool, the crossings and
handshakes of the queues. -/
def tick (s : State) : State :=
  if !timeRuns s then s
  else
    let t0 := s.now
    let s := applyCompares (advanceNow s)
    let d := s.now - t0
    let s := (List.range 24).foldl (wdgAdvance d) s
    let s := if activeMode s then { s with ovl := { s.ovl with activeNs := s.ovl.activeNs + d } } else s
    let s := if s.mode = .nap ∨ s.mode = .hibernate then s else { s with ram := { s.ram with scrubAge := s.ram.scrubAge.map (· + d) } }
    quesDue (rebuildDue (suspendsDue (restoreDue (basDue (patDue s)))))

/-- The steering at an always-on tick (R412): the difference, spread over the 30517.578125 ns to the next, within 1/16. -/
def steer (s : State) : State :=
  if s.tim.steering ∧ s.timSource = 2 ∧ timeRuns s then
    let v := rebuiltAt s.tim.steer0 (s.rg64 Reg.TIM_AON)
    let d : Int := ((v.1 * 2 ^ 32 + v.2 : Nat) : Int) - ((s.now * 2 ^ 32 + s.tim.frac : Nat) : Int)
    let lim : Int := 10 * 2 ^ 32 / 16
    let a := d * 1280 / 3906250
    { s with tim := { s.tim with diff := d, adj := max (-lim) (min lim a) } }
  else s

/-- An edge of XO32 or RC32 (R412, R414, R419). -/
def aonTick (s : State) : State :=
  if s.mode = .off then s
  else
    let s := s.wrg64 Reg.TIM_AON ((s.rg64 Reg.TIM_AON + 1) % 2 ^ 48)
    wdgAdvance 1 (steer s) 24

/-- The remaining difference has reached 0 after PLL1's lock (R412): IRQ source STEER_END. -/
def steerEnd (s : State) : State :=
  if s.tim.steering ∧ s.timSource ≠ 2 ∧ s.tim.diff = 0 then
    irq TIM_PAGE 3 { s with tim := { s.tim with steering := false, adj := 0 } }
  else s

/-- The capture at entry to NAP or HIBERNATE (R414). -/
def timeCapture (s : State) : State := { s with tim := { s.tim with sleep := some (s.now, s.tim.frac, s.rg64 Reg.TIM_AON) } }

/-- TIM_NOW rebuilt at a wake (R414): IRQ source REBUILT. -/
def timeRebuild (s : State) : State :=
  match s.tim.sleep with
  | none => s
  | some c =>
    let a := s.rg64 Reg.TIM_AON
    let v := rebuiltAt c a
    let s := (s.wrg64 Reg.TIM_NOW v.1).wrg64 Reg.TIM_SLEEP_T0 c.1
    let s := s.wrg64 Reg.TIM_SLEEP_N ((a + 2 ^ 48 - c.2.2) % 2 ^ 48)
    irq TIM_PAGE 2 { s with tim := { s.tim with frac := v.2, sleep := none } }

/-! ### Reads of TIM_NOW (R410) -/

/-- A number for each initiator. -/
def initKey : Initiator → Nat
  | .core c => c.val
  | .win p => 16 + p.val
  | .pcie f => 24 + f.val
  | .qspi q => 28 + q.val
  | .session n => 32 + n.val
  | .fitting => 2000
  | .thimble => 2001
  | .debugUnit => 2002
  | .bobbin => 2003
  | .memory => 2004

/-- A read of the low word captures the whole value for the initiator (R410). -/
def readNowLow (i : Initiator) (s : State) : State × Word :=
  let hi := w32 (s.now / 2 ^ 32)
  ({ s with tim := { s.tim with caps := sset (fun _ => 0) s.tim.caps (initKey i) hi } }, w32 s.now)

/-- A read of the high word returns that of the initiator's last capture. -/
def readNowHigh (i : Initiator) (s : State) : Word := sget (fun _ => 0) s.tim.caps (initKey i)

/-! ### Compare channels (R416, R417) -/

/-- A write of the low word of TIM_CMPk is held. -/
def cmpLowWrite (k : Nat) (v : Word) (s : State) : State :=
  { s with tim := { s.tim with cmpLow := sins k v (sdel k s.tim.cmpLow) } }

/-- A write of the high word applies the whole value at the next tick. -/
def cmpHighWrite (k : Nat) (v : Word) (s : State) : State :=
  let lo := sget (fun _ => s.rg (Reg.TIM_CMP k)) s.tim.cmpLow k
  { s with tim := { s.tim with cmpLow := sdel k s.tim.cmpLow
                               cmpNext := sins k (w64 (lo.toNat + v.toNat * 2 ^ 32)) (sdel k s.tim.cmpNext) } }

/-- The control and period words a match at this tick acts on: as they stood before a write of this tick (R417). -/
def cmpActs (s : State) (k : Nat) : Word × Word := sget (fun _ => (s.rg (Reg.TIM_CMP_CTL k), s.rg (Reg.TIM_CMP_PER k))) s.tim.cmpWas k

/-- Channel k's control and period words are about to be written. -/
def cmpKeep (k : Nat) (s : State) : State := { s with tim := { s.tim with cmpWas := sins k (cmpActs s k) (sdel k s.tim.cmpWas) } }

/-- A write of TIM_CMP_PERk. -/
def cmpPerWrite (k : Nat) (v : Word) (s : State) : State := (cmpKeep k s).wrg (Reg.TIM_CMP_PER k) v

/-- A write of TIM_CMP_CTLk: MISSED clears with EN = 1. -/
def cmpCtlWrite (k : Nat) (v : Word) (s : State) : State :=
  let s := cmpKeep k s
  let r := Reg.TIM_CMP_CTL k
  s.wrg r ((v &&& 0xE0000000) ||| (if bit v 31 then 0 else s.rg r &&& 0xFFFF))

/-- A channel matches (R416), on the settings before a write of this tick (R417); EN as that write sets it then stands. -/
def cmpMatch (k : Nat) (s : State) : State :=
  let c := Reg.TIM_CMP_CTL k
  let at? := s.rg64 (Reg.TIM_CMP k)
  let acts := cmpActs s k
  let wrote := s.tim.cmpWas.any (·.1 == k)
  if bit acts.1 31 ∧ timeRuns s ∧ at? ≤ s.now then
    let s := event (0x1040 + k) s
    let s := s.wb (Reg.TIM_CMP_HIT (k / 32)) (k % 32) true
    let s := if bit acts.1 29 then irq TIM_PAGE 0 s else s
    let p := acts.2.toNat
    let s := { s with tim := { s.tim with cmpWas := s.tim.cmpWas.map fun e => if e.1 = k then (k, 0, e.2.2) else e } }
    if p = 0 then (if wrote then s else s.wb c 31 false)
    else
      let skipped := (s.now - at?) / p
      let s := s.wrg64 (Reg.TIM_CMP k) (at? + (skipped + 1) * p)
      if skipped = 0 then s else irq TIM_PAGE 1 (raise 0x0501 (s.addSat c 0 16 skipped))
  else s

/-- TIM STATUS.BLOCK (R425). -/
def timStatus (s : State) : Nat := b2n s.tim.steering * 2 ^ 30 + s.timSource * 2 ^ 28 + b2n s.clk.rc32 * 2 ^ 27

end Sys2Proof.Machine
end

