-- ==== Sys2Proof/Machine/Overlock.lean ====
section
/-!
DEFINITION. Overlock (R145 to R166): the latch sweep with its judgement and actions, the plane refresher, its self-protection, and
OVL_INJECT.
-/

namespace Sys2Proof.Machine

def OVL_PAGE : Nat := 0x0A

def sweepOf (s : State) (b : Nat) : Sweep := sget (fun _ => Sweep.reset) s.ovl.engines b
def setSweep (b : Nat) (x : Sweep) (s : State) : State :=
  { s with ovl := { s.ovl with engines := sset (fun _ => Sweep.reset) s.ovl.engines b x } }

/-- The modes of the sweep (R155), and CTRL.ENABLE. -/
def sweepRuns (s : State) : Bool :=
  isEnabled s OVL_PAGE && (match s.mode with | .run | .service | .doze | .safe => true | _ => false)

/-- A sweep of a bolt starts, 20 ms after the last one started (R147). -/
def sweepStart (b : Nat) (s : State) : State :=
  let x := sweepOf s b
  if sweepRuns s ∧ !x.on ∧ (x.start = 0 ∨ x.start + 20000000 ≤ s.now) then setSweep b { x with on := true, region := 0, frame := 0, start := s.now, late := false } s else s

/-- A sweep takes longer than 20 ms (R164). -/
def sweepOverrun (b : Nat) (s : State) : State :=
  let x := sweepOf s b
  if x.on ∧ !x.late ∧ x.start + 20000000 < s.now then irq OVL_PAGE 7 (raise 0x0A09 (setSweep b { x with late := true } s)) else s

/-- The engine moves to its next frame; the sweep ends after frame 479 of the bolt's last region. -/
def sweepNext (b : Nat) (s : State) : State :=
  let x := sweepOf s b
  if x.frame + 1 < 480 then setSweep b { x with frame := x.frame + 1 } s
  else if x.region + 1 < 16 then setSweep b { x with region := x.region + 1, frame := 0 } s
  else
    let us := min ((s.now - x.start) / 1000) 65535
    (setSweep b { x with on := false, lastUs := us } s).incWrap Reg.OVL_SWEEP_COUNT 0 32

/-- The class of configuration word `w` in a map record (R104). -/
def wordClass (m : BitVec 256) (w : Nat) : Nat := nfld m.toNat (2 * w) 2

/-- The words of a frame that are not DYNAMIC, as a mask of its bits (R146). -/
def staticMask (m : BitVec 256) : BitVec 4096 :=
  (List.range 128).foldl (fun a w => if wordClass m w = 3 then a else a ||| (BitVec.ofNat 4096 0xFFFFFFFF <<< (32 * w))) 0

/-- A frame with its DYNAMIC words masked to 0. -/
def maskFrame (s : State) (a : Nat) (f : BitVec 4096) : BitVec 4096 := f &&& staticMask (sget (fun _ => 0) s.fab.map a)

/-- The bits of a frame that differ from the reference. -/
def frameDiff (s : State) (a : Nat) : BitVec 4096 :=
  maskFrame s a (sget (fun _ => 0) s.fab.latch a ^^^ sget (fun _ => 0) s.ovl.ref a)

/-- The check word of a masked frame: its CRC-32C. -/
def checkWord (f : BitVec 4096) : Nat := crc32c (frameBytes f)

/-- The syndrome base of a masked frame: the places of its 1 bits and, in bit 15, their parity. PRESUMED (log 96): the spec gives the code's width and what
it can do. -/
def syndrome (f : BitVec 4096) : Nat :=
  (List.range 4096).foldl (fun x i => if f.getLsbD i then x ^^^ (0x8000 + i + 1) else x) 0

/-- What an engine finds in a frame (R148): none, where check word and syndrome equal the reference's; else the cell that the syndrome locates and the
check word confirms, where there is one in a word that is not DYNAMIC (R146). -/
def sweepFinds (s : State) (a : Nat) : Option (Option Nat) :=
  let f := maskFrame s a (sget (fun _ => 0) s.fab.latch a)
  let g := maskFrame s a (sget (fun _ => 0) s.ovl.ref a)
  let d := syndrome f ^^^ syndrome g
  let i := d % 0x8000 - 1
  if checkWord f = checkWord g ∧ d = 0 then none
  else if 0x8000 < d ∧ i < 4096 ∧ (staticMask (sget (fun _ => 0) s.fab.map a)).getLsbD i ∧ checkWord (f ^^^ BitVec.twoPow 4096 i) = checkWord g then some (some i)
  else some none

/-- The region's content came by basting. -/
def isBasted (s : State) (r : Nat) : Bool := s.rb (Reg.BAS_BASTED (r / 32)) (r % 32)

def setLatchFrame (a : Nat) (f : BitVec 4096) (s : State) : State :=
  { s with fab := { s.fab with latch := sset (fun _ => 0) s.fab.latch a f } }

/-- The known-bad bit of frames (R150, R152). -/
def markKnownBad (as : List Nat) (s : State) : State :=
  { s with ovl := { s.ovl with bad := as.foldl (fun m a => sset (fun _ => false) m a true) s.ovl.bad } }

/-- A region is held for an UNCORR upset (R152). -/
def holdForUpset (r : Nat) (s : State) : State :=
  markKnownBad ((List.range 480).map (512 * r + ·)) (holdRegions (1#128 <<< r) s)

/-- RESET_REGION (R151): held for 1 µs. -/
def resetRegion (r : Nat) (s : State) : State :=
  let s := holdRegions (1#128 <<< r) s
  { s with fab := { s.fab with resetRel := s.fab.resetRel.filter (·.1 != r) ++ [(r, s.now + 1000)] } }

/-- The region reset is released with initial flip-flop values (R151). -/
def resetRelease (r : Nat) (s : State) : State :=
  match s.fab.resetRel.find? (·.1 == r) with
  | some (_, t) =>
    if t ≤ s.now then
      let s := { s with fab := { s.fab with resetRel := s.fab.resetRel.filter (·.1 != r) } }
      releaseRegions (1#128 <<< r) s
    else s
  | none => s

/-- A class action (R151). -/
def classAction (act r : Nat) (s : State) : State :=
  match act with
  | 1 => resetRegion r s
  | 2 => raiseSafe 0x0A03 s
  | _ => s

/-- How many bits the latest upset differs in. -/
def setLastBits (n : Nat) (s : State) : State := { s with ovl := { s.ovl with lastBits := n } }

/-- The record of an upset: OVL_UPSET_LAST and OVL_UPSET_TIME. -/
def noteUpset (a : Nat) (diff : BitVec 4096) (kind cls : Nat) (s : State) : State :=
  let low := ((List.range 4096).find? diff.getLsbD).getD 0
  let s := s.wrg Reg.OVL_UPSET_LAST (w32 (kind * 2 ^ 30 + cls * 2 ^ 28 + low % 32 * 2 ^ 23 + low / 32 * 2 ^ 16 + a))
  let s := s.wrg64 Reg.OVL_UPSET_TIME s.now
  setLastBits (min (popc 4096 diff.toNat) 255) s

/-- What is reported of an upset (R150): kind 0 SINGLE, 1 MULTI, 2 UNCORR; class 0 NONE, 1 ESSENTIAL, 2 CRITICAL; `acts` is false
in SAFE and while CORRECT is 0 (R153). -/
def judgeUpset (a : Nat) (diff : BitVec 4096) (kind cls : Nat) (acts : Bool) (s : State) : State :=
  let r := a / 512
  let s := noteUpset a diff kind cls s
  let act := if cls = 2 then s.rf Reg.OVL_CFG 2 2 else s.rf Reg.OVL_CFG 0 2
  if kind = 2 then
    let s := s.incSat (Reg.OVL_CNT_UNCORR) 0 32
    if cls = 0 then markKnownBad [a] s
    else
      let s := raiseBolt 0x0A02 (r / 16) (irq OVL_PAGE 2 s)
      if acts then
        let s := holdForUpset r s
        if act = 2 then raiseSafe 0x0A03 s else s
      else s
  else if cls = 0 then
    let s := s.incSat Reg.OVL_CNT_NONE 0 32
    if s.rb Reg.OVL_CFG 9 then irq OVL_PAGE 8 s else s
  else if cls = 1 then
    let s := irq OVL_PAGE 0 (s.incSat Reg.OVL_CNT_ESS 0 32)
    if acts then classAction act r s else s
  else
    let s := raise 0x0A01 (irq OVL_PAGE 1 (s.incSat Reg.OVL_CNT_CRIT 0 32))
    if acts then classAction act r s else s

/-- A frame as a plane gives it: one with more bits in error than can be corrected is a free value (R158). -/
def planeFrame (s : State) (p : Plane) (a : Nat) : BitVec 4096 :=
  if (planeOf s p).lost.contains a then Config.freeFrame s.fresh else sget (fun _ => 0) (planeOf s p).frames a

/-- What a latch frame holds after a write of `new`: cells in `stuck` keep what they held. -/
def latchTakes (stuck : List (Fin 4096)) (old new : BitVec 4096) : BitVec 4096 :=
  stuck.foldl (fun f i => if old.getLsbD i.val then f ||| BitVec.twoPow 4096 i.val else f &&& ~~~BitVec.twoPow 4096 i.val) new

/-- The class of an upset: the highest among the configuration words that differ. -/
def diffClass (s : State) (a : Nat) (diff : BitVec 4096) : Nat :=
  let m := sget (fun _ => 0) s.fab.map a
  (List.range 128).foldl (fun c w => if nfld diff.toNat (32 * w) 32 = 0 then c else max c (wordClass m w)) 0

/-- What Overlock writes into an upset frame (R148): the one cell toggled, or the words that are not DYNAMIC from the ACTIVE plane. -/
def correction (s : State) (a : Nat) (cell : Option Nat) : BitVec 4096 :=
  let old := sget (fun _ => 0) s.fab.latch a
  let mask := staticMask (sget (fun _ => 0) s.fab.map a)
  match cell, s.pat.loaded with
  | some i, _ => old ^^^ BitVec.twoPow 4096 i
  | none, some p => (old &&& ~~~mask) ||| (planeFrame s p a &&& mask)
  | none, none => old

/-- The frame an engine visits is corrected and judged (R148, R153, R154); `found`: what the comparison says of it. `safe`: the mode was SAFE as the
cycle began, in which engines of several bolts may find upsets (R154); `stuck`: the cells that do not take a write; `cut`: an isolation or a
write of basting reaches the region once the upset is classified (true), so that Overlock counts it and writes nothing, or before (false). -/
def frameFound (safe : Bool) (a : Nat) (stuck : List (Fin 4096)) (cut : Option Bool) (found : Option (Option Nat)) (s : State) : State :=
  match found with
  | none => s
  | some cell =>
    if cut = some false then s
    else
      let diff := frameDiff s a
      let cls := diffClass s a diff
      let acts := !safe && s.rb Reg.OVL_CFG 8 && cut.isNone
      let kind := if cell.isSome then 0 else if isBasted s (a / 512) then 2 else 1
      if !acts ∨ kind = 2 then judgeUpset a diff kind cls acts s
      else
        let t := (setLatchFrame a (latchTakes stuck (sget (fun _ => 0) s.fab.latch a) (correction s a cell)) s).bump
        judgeUpset a diff (if (sweepFinds t a).isNone then kind else 2) cls acts t

/-- The frame an engine visits, as the comparison finds it (R148). -/
def checkFrame (safe : Bool) (a : Nat) (stuck : List (Fin 4096)) (cut : Option Bool) (s : State) : State :=
  frameFound safe a stuck cut (sweepFinds s a) s

/-- A single-bit error in the reference memory is counted; a double-bit error rebuilds the reference, or leaves the frame
unchecked (R162). -/
def refError (a : Nat) (e : Ecc) (s : State) : State :=
  match e with
  | .none => s
  | .single _ => s.incSat Reg.OVL_REF_ERR 0 16
  | .double =>
    let s := irq OVL_PAGE 4 (raise 0x0A06 (s.incSat Reg.OVL_REF_ERR 16 16))
    if isBasted s (a / 512) then
      let s := markKnownBad [a] s
      { s with ovl := { s.ovl with unchecked := sset (fun _ => false) s.ovl.unchecked a true } }
    else match s.pat.loaded with
      | some p => { s with ovl := { s.ovl with ref := sset (fun _ => 0) s.ovl.ref a (planeFrame s p a) } }.bump
      | none => s

/-- An engine reads its next frame (R147, R148), in which the bits of `upsets` have flipped since it was last written. -/
def sweepFrame (safe : Bool) (q : SweepRead) (s : State) : State :=
  let b := q.bolt.val
  let x := sweepOf s b
  if !sweepRuns s ∨ !x.on then s
  else
    let r := 16 * b + x.region
    let a := 512 * r + x.frame
    let f := q.upsets.foldl (fun (f : BitVec 4096) i => f ^^^ BitVec.twoPow 4096 i.val) (sget (fun _ => 0) s.fab.latch a)
    let s := setLatchFrame a f s
    if isolated s r ∨ sget (fun _ => false) s.ovl.bad a then sweepNext b s
    else
      let s := refError a q.meets.ecc s
      let s := if sget (fun _ => false) s.ovl.bad a then s else checkFrame safe a q.meets.stuck q.meets.cut s
      sweepNext b s

/-- The engines that read a frame in one cycle, the lower bolt first (R154). -/
def sweepFrames (l : List SweepRead) (s0 : State) : State :=
  (List.range 8).foldl (fun s b => (l.filter (·.bolt.val == b)).foldl (fun s q => sweepFrame (s0.mode == .safe) q s) s) s0

/-! ### Plane refresh (R156 to R160) -/

def careOf (s : State) (p : Plane) : PlaneCare := sget (fun _ => PlaneCare.reset) s.ovl.care (Plane.code p)
def setCare (p : Plane) (x : PlaneCare) (s : State) : State :=
  { s with ovl := { s.ovl with care := sset (fun _ => PlaneCare.reset) s.ovl.care (Plane.code p) x } }

/-- A pass over a plane is due (R156): owed since the module passed through HOLD, or its interval is over. -/
def passDue (s : State) (p : Plane) : Bool :=
  (planeOf s p).st == .valid && (match (careOf s p).last with
    | none => true
    | some t => intervalDue s 7 2 t)

/-- The plane that an outage copies from (R126, R133). -/
def outagePlane (s : State) (w : Swap) : Option Plane :=
  if w.phase = 0 then some w.target else if w.phase = 1 then s.pat.loaded else some .hem

/-- An image operation needs the plane (R160). -/
def planeNeeded (s : State) (p : Plane) : Bool :=
  (match s.pat.writing with | some w => w.plane == p | none => false)
    || (match s.pat.pending with | some w => w.target == p | none => false)
    || (match s.pat.outage with | some w => outagePlane s w == some p | none => false) || (s.pat.restore.isSome && s.pat.loaded == some p)

/-- The refresher works on a plane that no image operation needs, also through an outage. -/
def refreshOn (s : State) (p : Plane) : Bool := (activeMode s || opMode s == .swap) && !planeNeeded s p

/-- A pass starts over the first plane that is due. -/
def refreshStart (hot : Bool) (s : State) : State :=
  let s := noteHot hot s
  if s.ovl.rfPlane.isSome then s
  else match [Plane.a, Plane.b, Plane.hem].find? fun p => refreshOn s p && passDue s p with
    | some p => { s with ovl := { s.ovl with rfPlane := some p, rfFrame := 0, rfCount := 0 } }
    | none => s

/-- OVL_REFRESH_A, _B, _HEM. -/
def refreshReg (p : Plane) : Nat := Reg.OVL_REFRESH_A + 4 * (Plane.code p)

/-- A spare slot is retired (R157, R159): fault 0x0A08 and SPARE_LOW as the count falls below 8. -/
def loseSpare (p : Plane) (s : State) : State :=
  let x := careOf s p
  let s := setCare p { x with spare := x.spare - 1 } s
  if x.spare = 8 then irq OVL_PAGE 6 (raise 0x0A08 s) else s

/-- A frame rewritten into a spare slot (R157): the slots that fail to verify are retired, one after the other, and so is the old slot where it fails to
erase. Without a slot left the frame stays where it is. -/
def rewriteFrame (p : Plane) (verifyFails : Nat) (eraseFails : Bool) (s : State) : State :=
  let n := min verifyFails (careOf s p).spare
  let s := (List.range n).foldl (fun s _ => loseSpare p s) s
  if (careOf s p).spare = 0 then s
  else
    let s := { s with ovl := { s.ovl with rfCount := s.ovl.rfCount + 1 } }
    if eraseFails then loseSpare p s else s

/-- The pass moves on; after the last frame it ends. -/
def refreshNext (p : Plane) (s : State) : State :=
  if s.ovl.rfFrame + 1 < 61440 then { s with ovl := { s.ovl with rfFrame := s.ovl.rfFrame + 1 } }
  else
    let n := min s.ovl.rfCount 65535
    let s := ((s.incSat (refreshReg p) 0 16).wf (refreshReg p) 16 16 n).wrg64 Reg.OVL_REFRESH_TIME s.now
    let s := setCare p { careOf s p with last := some s.ovl.activeNs } s
    { s with ovl := { s.ovl with rfPlane := none, rfFrame := 0 } }

/-- The refresher reads one frame (R157, R158): `differs` a margin read differs, `errors` the bits in error. -/
def refreshFrame (differs : Bool) (errors verifyFails : Nat) (eraseFails : Bool) (s : State) : State :=
  match s.ovl.rfPlane with
  | none => s
  | some p =>
    if !refreshOn s p then s
    else if (planeOf s p).st ≠ .valid then { s with ovl := { s.ovl with rfPlane := none, rfFrame := 0 } }
    else if 9 ≤ errors then
      let a := s.ovl.rfFrame / 480 * 512 + s.ovl.rfFrame % 480
      let s := setCare p { careOf s p with damaged := true } (setPlane p { planeOf s p with lost := insRising a (planeOf s p).lost } s)
      refreshNext p (irq OVL_PAGE 5 (raise 0x0A07 s))
    else if differs ∨ 2 ≤ errors then refreshNext p (rewriteFrame p verifyFails eraseFails s)
    else refreshNext p s

/-! ### Self-protection and injection (R161, R165) -/

/-- A disagreement among the copies of the control state. DESIGN CHOICE (log 78): without a majority all of it is reset, the copy of OVL_CFG and the pass
timers with the rest, as at a pass through HOLD. -/
def voteError (majority : Bool) (s : State) : State :=
  match s.mode with
  | .off | .hold | .hibernate => s
  | _ =>
    if majority then raise 0x0A04 (irq OVL_PAGE 3 (s.incSat Reg.OVL_SELF_ERR 0 16))
    else
      let es := (List.range 8).foldl (fun es b => sset (fun _ => Sweep.reset) es b
        { sweepOf s b with on := sweepRuns s, region := 0, frame := 0, start := s.now, late := false }) s.ovl.engines
      let care := s.ovl.care.map fun x => (x.1, { x.2 with last := none })
      let s := { s with ovl := { s.ovl with engines := es, rfFrame := 0, rfCount := 0, care := care } }
      raise 0x0A05 ((s.wrg Reg.OVL_CFG (regReset Reg.OVL_CFG)).incSat Reg.OVL_SELF_ERR 16 16)

/-- A write of OVL_INJECT: acts in SERVICE, inside a grant whose scope has INJECT, for the panel that owns the page (R513). -/
def injectUpset (v : Word) (s : State) : State :=
  let a := fld v 0 16
  let ok : Bool := match grantNow s with
    | some g => g.full || (g.scope.testBit 3 && ownerOf s OVL_PAGE == some g.panel)
    | none => false
  if bit v 28 ∧ s.mode = .service ∧ ok ∧ a % 512 < 480 then
    setLatchFrame a (sget (fun _ => 0) s.fab.latch a ^^^ (1#4096 <<< (32 * fld v 16 7 + fld v 23 5))) s
  else s

/-- CTRL.SOFT_RESET of the page (R165): every sweep restarts at frame 0. -/
def ovlSoftReset (s : State) : State := { s with ovl := { s.ovl with engines := [], lastBits := 0 } }

/-- A wake from NAP: the sweeps resume at frame 0 (R155). -/
def ovlWake (s : State) : State :=
  { s with ovl := { s.ovl with engines := s.ovl.engines.map fun x => (x.1, { Sweep.reset with lastUs := x.2.lastUs }) } }

/-! ### Computed reads (R165) -/

def ovlStatus (s : State) : Nat :=
  b2n (sweepRuns s) * 2 ^ 30 + b2n s.ovl.rfPlane.isSome * 2 ^ 29
    + (match s.ovl.rfPlane with | some p => Plane.code p | none => 3) * 2 ^ 27 + b2n (!s.ovl.unchecked.isEmpty) * 2 ^ 26 + s.ovl.lastBits * 2 ^ 8
/-- OVL_SWEEP.LAST_US: of the engine whose last sweep took longest. -/
def sweepWord (s : State) : Nat := (s.ovl.engines.foldl (fun a x => max a x.2.lastUs) 0) * 2 ^ 16
def spareWord (s : State) : Nat := (careOf s .a).spare + (careOf s .b).spare * 2 ^ 8 + (careOf s .hem).spare * 2 ^ 16
def damagedWord (s : State) : Nat := b2n (careOf s .a).damaged + 2 * b2n (careOf s .b).damaged + 4 * b2n (careOf s .hem).damaged

end Sys2Proof.Machine
end

