-- ==== Sys2Proof/Machine/Hold.lean ====
section
/-!
DEFINITION. What the module keeps through HOLD and through HIBERNATE (R463, R466), the pass through HOLD (R437, R583), and the
shutdowns (R429, R434, R436 to R439, R441).
-/

namespace Sys2Proof.Machine

/-- The registers Selvage keeps through HOLD (R463, R466): the AON page but LOCK, PIN_STRAP and PIN_WAKE, TIM_AON,
PWR_LAST_OFF, PWR_LAST_OFF_TIME and PWR_BOR_CNT, WDG_LAST_RESET, FLT_SAFE_CAUSE. -/
def keptHold (o : Nat) : Bool :=
  (decide (0x2000 ≤ o) && decide (o < 0x3000) && !(o == 0x2024))
    || (decide (0x30000 ≤ o) && decide (o < 0x3C000) && (o % 0x1000 == 0x80 || o % 0x1000 == 0x84))
    || o == Reg.TIM_AON || o == Reg.TIM_AON + 4 || o == Reg.PWR_LAST_OFF || o == Reg.PWR_LAST_OFF_TIME
    || o == Reg.PWR_LAST_OFF_TIME + 4 || o == Reg.PWR_BOR_CNT || o == Reg.WDG_LAST_RESET || o == Reg.FLT_SAFE_CAUSE

/-- Those kept through HIBERNATE (R461, R463): also WDG_SYS_CFG, PNL_INIT, PNL_DWIN, PNL_OWN and PNL_HOLD of every panel. -/
def keptHibernate (o : Nat) : Bool :=
  keptHold o || o == Reg.WDG_SYS_CFG || (decide (0x1060 ≤ o) && decide (o < 0x1070))
    || (decide (0x1080 ≤ o) && decide (o < 0x10A0)) || (decide (0x1100 ≤ o) && decide (o < 0x1154))
    || (decide (0x100000 ≤ o) && o % 0x100000 == Reg.PNL_HOLD)

/-- A plane found as WRITING is INVALID (R110). -/
def planeCut (p : PlaneRec) : PlaneRec := if p.st = .writing then { p with st := .invalid } else p

/-- The module with its power gone: what non-volatile cells, OTP, Selvage and the board hold stays; `keep` names the registers
that stay. The mode and what the caller adds are not changed here. -/
def powerless (keep : Nat → Bool) (s : State) : State :=
  { State.reset with
    mode := s.mode
    prevMode := s.prevMode
    regs := s.regs.filter fun x => keep x.1
    mem := s.mem
    ans := s.ans
    fresh := s.fresh
    pat := { Pat.reset with planeA := planeCut s.pat.planeA, planeB := planeCut s.pat.planeB, planeHem := planeCut s.pat.planeHem,
                            selectedB := s.pat.selectedB }
    flt := s.flt
    thm := { s.thm with asymBase := 0 }
    ovl := { Ovl.reset with care := s.ovl.care.map fun x => (x.1, { x.2 with last := none }) }
    pins := (s.pins.map fun x => (x.1, { Pin.reset with board := x.2.board })).filter fun x => x.2 != Pin.reset
    optRec := s.optRec
    lcs := { Lcs.reset with word := s.lcs.word, st := s.lcs.st, records := s.lcs.records, tokens := s.lcs.tokens, log := s.lcs.log }
    fls := s.fls
    ram := { Mem.reset with bad := s.ram.bad.filter fun w => decide (8 * w < 0x04004000) }
    clk := { Clk.reset with rc32 := s.clk.rc32, perst := s.clk.perst }
    pwr := { Pwr.reset with
      vin := s.pwr.vin, resetN := s.pwr.resetN, locked := s.pwr.locked, tries := s.pwr.tries, railOffs := s.pwr.railOffs,
      offDue := s.pwr.offDue, borDue := s.pwr.borDue, failDue := s.pwr.failDue, alertHeld := s.pwr.alertHeld, aonLow := s.pwr.aonLow }
    ses := { Ses.reset with enrol := s.ses.enrol, slots := closedSlots s.ses.slots }
    strapPort := s.strapPort
    pending := s.pending }

/-- A grant still active when the power goes is closed at the next start with END 0 (R516). -/
def grantLost (s : State) : State :=
  match s.lcs.grant, s.lcs.log with
  | some _, e :: l => { s with lcs := { s.lcs with grant := none, log := { e with endT := 0, reason := 6 } :: l } }
  | _, _ => s

/-- The pass through HOLD: every block at reset, memories zeroed (R252, R257), flash operations cut off (R280, R291), the log as
its kept copy (R541). -/
def passHold (s : State) : State :=
  let s := setMode .hold (powerless keptHold s)
  fltRestart (flashHold (clearMem (fun a => 0x04004000 ≤ a) s))

/-- WDG_LAST_RESET (R421, R426). -/
def noteReset (cause panel : Nat) (s : State) : State := s.wrg Reg.WDG_LAST_RESET (w32 (panel * 16 + cause))

/-- RESET_N or a module reset passes through HOLD (R421, R583): a grant ends with REASON 6. -/
def resetPass (cause panel : Nat) (s : State) : State :=
  let s := noteReset cause panel (passHold (endGrant 6 s))
  { s with pwr := { s.pwr with alertHeld := true } }

/-- The shutdown of R437 with a cause and a rail: PWR_LAST_OFF, PWR_LAST_OFF_TIME, PWR_BOR_CNT; HOLD. -/
def shutdown (cause rail : Nat) (s : State) : State :=
  let t := edgeNow s
  let s := passHold (grantLost s)
  let s := (s.wrg Reg.PWR_LAST_OFF (w32 (rail * 256 + cause))).wrg64 Reg.PWR_LAST_OFF_TIME t
  let s := noteReset 0 0 (s.incSat Reg.PWR_BOR_CNT 0 32)
  { s with pwr := { s.pwr with offDue := true, alertHeld := true } }

/-- VIN is removed: the front end's AON_BOR clears (R441), and a module locked in HOLD may start again (R433, R434). -/
def vinGone (s : State) : State :=
  let s := s.wb Reg.AON_SUPPLY 31 false
  { s with pwr := { s.pwr with vin := false, locked := false } }

/-- VIN below 16.0 V for 10 µs (R436, R439); a module held in HIBERNATE by R462 passes through HOLD. A module locked in HOLD has its rails off: nothing is shut down, and the recorded cause
stays for the RUN entry that follows (R438; DESIGN CHOICE: log 91). -/
def brownOut (s : State) : State :=
  if s.mode = .off ∨ !s.pwr.vin then s
  else if s.mode = .hibernate ∧ s.pwr.wakeHeld then vinGone (noteReset 0 0 (passHold s))
  else if s.mode = .hibernate ∨ s.pwr.locked then vinGone s
  else vinGone (shutdown 1 0 s)

/-- In HIBERNATE VHOLD falls to 20 V before VIN returns (R439): it counts as a brown-out shutdown. -/
def hibernateBrownOut (s : State) : State :=
  if s.mode = .hibernate ∧ !s.pwr.vin then shutdown 1 0 s else s

/-- The input current limit has acted for 10 ms (R429). -/
def ilimit (s : State) : State :=
  match s.mode with
  | .off | .hibernate => s
  | _ => if s.pwr.locked then s else shutdown 3 0 s

/-- Ten seconds of the always-on counter. -/
def aon10s : Nat := 327680

/-- A rail leaves its window (R434): in HIBERNATE only the DRAM rails are on (R431). The third such shutdown within 10 s locks
the module in HOLD. -/
def railOut (rail : Fin 6) (s : State) : State :=
  let live : Bool := match s.mode with
    | .off => false
    | .hold => false
    | .hibernate => decide (3 ≤ rail.val)
    | _ => true
  if !live then s
  else
    let a := s.rg64 Reg.TIM_AON
    let l := (a :: s.pwr.railOffs).filter fun t => (a + 2 ^ 48 - t) % 2 ^ 48 < aon10s
    let lock := decide (3 ≤ l.length)
    let s := shutdown (if lock then 5 else 2) rail.val s
    { s with pwr := { s.pwr with railOffs := l, locked := s.pwr.locked || lock } }

/-- A rail of a start is not good within 1.5 ms (R433): the start is repeated, and after three repeats the module stays in
HOLD. -/
def railStartFail (rail : Fin 6) (s : State) : State :=
  if s.mode ≠ .hold ∨ s.pwr.locked ∨ s.pwr.resetN ∨ !s.pwr.vin then s
  else if 3 ≤ s.pwr.tries then
    let s := s.wrg Reg.PWR_LAST_OFF (w32 (rail.val * 256 + 4))
    { s with pwr := { s.pwr with locked := true, offDue := true } }
  else { s with pwr := { s.pwr with tries := s.pwr.tries + 1 } }

/-- RESET_N (R583): low, recognised, passes the module through HOLD; high lets the start follow. -/
def resetN (low : Bool) (s : State) : State :=
  if s.mode = .off then { s with pwr := { s.pwr with resetN := low } }
  else if low ∧ !s.pwr.resetN then
    let s := resetPass 1 0 s
    { s with pwr := { s.pwr with resetN := true, locked := false, tries := 0 } }
  else { s with pwr := { s.pwr with resetN := low } }

/-- The module reset that waits passes through HOLD (R421). -/
def moduleReset (s : State) : State :=
  match s.pwr.modReset with
  | some (c, p) => resetPass c p s
  | none => s

/-- The higher of VIN and VHOLD falls below 12 V (R430): Selvage stops, and all it held is lost. -/
def selvageLoss (s : State) : State :=
  let t := passHold (grantLost s)
  { t with mode := .off, prevMode := .off, regs := [], flt := .reset, tim := .reset,
           clk := { Clk.reset with perst := s.clk.perst }
           pwr := { Pwr.reset with vin := false, resetN := s.pwr.resetN } }

/-- The always-on load exceeds 3 mA (R441): Selvage and all it retains are reset; AON_BOR stays. -/
def aonBrownOut (s : State) : State :=
  if s.mode ≠ .hibernate then s
  else
    let t := selvageLoss s
    { t with mode := .hold, pwr := { Pwr.reset with vin := s.pwr.vin, resetN := s.pwr.resetN, borDue := true } }.wb Reg.AON_SUPPLY 31 true

end Sys2Proof.Machine
end

