-- ==== Sys2Proof/Machine/Power.lean ====
section
/-!
DEFINITION. The power monitors of the PWR page and of Selvage (R428 to R430, R435, R440, R444, R445): overvoltage, the hold-up
capacitor, the phases of VDD_CORE, the power budget. PWR STATUS is kept in its own place of the register store.
-/

namespace Sys2Proof.Machine

def PWR_PAGE : Nat := 0x03
def AON_PAGE : Nat := 0x02

/-- The place of PWR STATUS: [30] RAILS_GOOD, [29] VHOLD_OK, [28] OVERVOLT, [27] ILIMIT, [26] OVER_BUDGET, [25]
LOW_HEADROOM, [18:16] PHASES. -/
def pwrStat : Nat := 0x3008

/-- A bit of PWR STATUS that raises its source when it rises. -/
def pwrFlag (b irqBit : Nat) (on : Bool) (s : State) : State :=
  if on && !s.rb pwrStat b then irq PWR_PAGE irqBit (s.wb pwrStat b true) else s.wb pwrStat b on

/-- VIN stays above 82 V (R428). -/
def overvolt (s : State) : State :=
  match s.mode with
  | .off | .hibernate => s
  | _ => pwrFlag 28 2 true s

/-- VHOLD reaches 52 V or falls below 48 V (R430). -/
def vholdOk (ok : Bool) (s : State) : State :=
  match s.mode with
  | .off | .hibernate => s
  | _ => pwrFlag 29 0 ok s

/-- VHOLD reaches 52 V within 1 ms of the start of charging, and the charger stops, or not within 2 s (R430): fault 0x0305. -/
def vholdAbsent (late : Bool) (s : State) : State :=
  if s.pwr.charge.isNone ∨ (late ∧ s.rb pwrStat 29) then s
  else raise 0x0305 (if late then s else { s with pwr := { s.pwr with charge := none } })

/-! ### Phases (R435) -/

/-- PWR_CFG.PHASES_MIN as it acts. -/
def phasesMin (s : State) : Nat := max 1 (min (s.rf Reg.PWR_CFG 0 3) 4)
/-- The phases a current (in 10 mA) asks for. -/
def phasesFor (i : Nat) : Nat := if i < 900 then 1 else if i < 1900 then 2 else if i < 2900 then 3 else 4
def phases (s : State) : Nat := s.rf pwrStat 16 3
def setPhases (n : Nat) (s : State) : State := s.wf pwrStat 16 3 n

/-- The phases of R435 for the current last measured. -/
def phasesNow (s : State) : Nat := if s.rb Reg.PWR_CFG 8 then max (phasesMin s) (phasesFor (s.rf Reg.PWR_CORE 0 13)) else 4

/-- The current rises past a boundary. -/
def phaseAdd (current : Nat) (s : State) : State :=
  match s.mode with
  | .off | .hold | .hibernate | .nap => s
  | _ => if s.rb Reg.PWR_CFG 8 ∧ phases s < phasesFor current then setPhases (phasesFor current) s else s

/-- The current has stayed 100 µs more than 2 A below the boundary: one phase less, never below PHASES_MIN. -/
def phaseShed (current : Nat) (s : State) : State :=
  match s.mode with
  | .off | .hold | .hibernate | .nap => s
  | _ =>
    let n := phases s
    if s.rb Reg.PWR_CFG 8 ∧ phasesMin s < n ∧ phasesFor (current + 200) < n then setPhases (n - 1) s else s

/-- A write of PWR_CFG. -/
def pwrCfgWrite (v : Word) (s : State) : State :=
  let s := s.wrg Reg.PWR_CFG (v &&& 0x107)
  if s.mode = .nap then s
  else if s.rb Reg.PWR_CFG 8 then setPhases (max (phases s) (phasesMin s)) s else setPhases 4 s

/-! ### The budget (R444, R445) -/

/-- PWR_BUDGET.LIMIT in mW. -/
def budget (s : State) : Nat := s.rf Reg.PWR_BUDGET 0 10 * 100

/-- The average of the samples of the last 1 ms, in mW. -/
def powerAvg (s : State) : Nat :=
  match s.pwr.powers.length with
  | 0 => 0
  | n + 1 => s.pwr.powers.foldl (· + ·) 0 / (n + 1)

/-- OVER_BUDGET and the average are on different sides of LIMIT: since when. -/
def budgetSide (avg : Nat) (s : State) : State :=
  let above := s.rb pwrStat 26
  let other := if above then decide (avg < budget s) else decide (budget s < avg)
  let at_ := if other then some (s.pwr.overAt.getD s.now) else none
  let s := { s with pwr := { s.pwr with overAt := at_ } }
  match at_ with
  | some t =>
    if above ∧ t + 10000000 ≤ s.now then { s.wb pwrStat 26 false with pwr := { s.pwr with overAt := none } } else s
  | none => s

/-- The monitor's sample (R444, R445): VIN and VHOLD in 10 mV, the input current in mA, the VDD_CORE current in 10 mA, and whether
the input current limit acts. -/
def powerSample (vin vhold iin core : Nat) (limiting : Bool) (s : State) : State :=
  match s.mode with
  | .off | .hold | .hibernate => s
  | _ =>
    let s := (s.wrg Reg.PWR_VIN (w32 (vhold % 65536 * 65536 + vin % 65536))).wrg Reg.PWR_IIN (w32 (iin % 65536))
    let s := s.wrg Reg.PWR_CORE (w32 (core % 8192))
    let s := if vin < 8000 then s.wb pwrStat 28 false else s
    let s := pwrFlag 27 3 limiting s
    let s := { s with pwr := { s.pwr with powers := (vin * iin / 100 :: s.pwr.powers).take 100 } }
    let avg := powerAvg s
    let s := (s.wf Reg.PWR_PIN 0 16 (min avg 65535)).wf Reg.PWR_PIN 16 16 (max (s.rf Reg.PWR_PIN 16 16) (min avg 65535))
    let head := budget s - avg
    let s := pwrFlag 25 4 (decide (head < 2000)) (s.wrg Reg.PWR_HEADROOM (w32 head))
    budgetSide avg s

/-- The average has stayed above LIMIT for 10 ms (R445). -/
def overBudget (s : State) : State :=
  match s.pwr.overAt with
  | some t =>
    if !s.rb pwrStat 26 ∧ t + 10000000 ≤ s.now then
      raise 0x0303 (pwrFlag 26 1 true { s with pwr := { s.pwr with overAt := none } })
    else s
  | none => s

/-! ### The always-on regulator (R440, R449) -/

/-- AON_SUPPLY.BUDGET in µA: 650, 250 for each retained bank, 20 for each armed wake pin, 10 for each armed WAKE land. -/
def aonBudget (s : State) : Nat :=
  let pins := ((List.range 8).filter fun k => s.rf (Reg.PIN_WAKE 0) (2 * k) 2 != 0).length
  let lands := ((List.range 4).filter fun k => s.rf Reg.AON_WAKEPIN_CFG (2 * k) 2 != 0).length
  650 + 250 * popc 8 (s.rf Reg.AON_RETAIN 0 8) + 20 * pins + 10 * lands

/-- AON_SUPPLY. -/
def aonSupplyWord (s : State) : Nat :=
  b2n (s.rb Reg.AON_SUPPLY 31) * 2 ^ 31 + b2n (s.mode == .hibernate) * 2 ^ 30 + aonBudget s

/-- STATUS.BLOCK of PWR, and of AON (R448, R466). -/
def pwrStatus (s : State) : Nat := (s.rg pwrStat).toNat % 2 ^ 31
def aonStatus (s : State) : Nat :=
  b2n (safeNHigh s) * 2 ^ 30 + s.prevMode.code * 2 ^ 16 + b2n s.pwr.req.isSome * 2 ^ 8 + s.mode.code

end Sys2Proof.Machine
end

