-- ==== Sys2Proof/Machine/Start.lean ====
section
/-!
DEFINITION. The start of the module: the load decision of R114, what a start reads and brings up (R115, R432, R388, R497), RUN entry
and what it owes (R115 step 8, R185, R438, R467).
-/

namespace Sys2Proof.Machine

/-! ### The load decision (R114) -/

/-- One plane loaded, with up to two tries (R108, R114): fault 0x0803 and LOAD_ERR_FRAME_CRC after a first copy that fails. `fails` says that the
first copy fails; the second fails where FRAME_CRC does not fit the plane's frames. -/
def tryLoad (p : Plane) (fails : Bool) (s : State) : State × Bool :=
  let good := planeReads (planeOf s p)
  let s := if fails || !good then raise 0x0803 (patErr 13 0x12 s) else s
  if good then (loadPlane p s, true)
  else (setPlane p { planeOf s p with st := .invalid } s, false)

/-- The Hem plane is loaded, or the start fails. -/
def loadHem (fails : Bool) (s : State) : State × Bool :=
  let s := if s.mode = .hemLoad then s else setMode .hemLoad s
  if (planeOf s .hem).st = .valid then tryLoad .hem fails s else (s, false)

/-- The candidate cannot be used: fault 0x0801, then the Hem plane; FALLBACK is owed. -/
def fallBack (fails : Bool) (s : State) : State × Bool :=
  let r := loadHem fails (raise 0x0801 s)
  ({ r.1 with pat := { r.1.pat with fallback := r.2 } }, r.2)

/-- The candidate of a start: the selected plane, or with the override strap the other (R113). -/
def candidate (s : State) : Plane :=
  if s.pat.override then (if s.pat.selectedB then .a else .b) else selected s

/-- The pseudocode of R114 up to `run:` or `fail:`; true: a plane is in the latches. -/
def loadDecision (candFails hemFails : Bool) (s : State) : State × Bool :=
  if s.pat.hemForced then loadHem hemFails s
  else
    let p := candidate s
    if (planeOf s p).st ≠ .valid then fallBack hemFails s
    else if rolledBack s p then fallBack hemFails (setPlane p { planeOf s p with st := .invalid } s)
    else
      let r := tryLoad p candFails (setMode .load s)
      if r.2 then r else fallBack hemFails r.1

/-- The latches loaded (R47, R68, R115 step 7, R325): the pins as the image says, initial values in place, every region released. -/
def regionsIn (s : State) : State :=
  match s.pat.loaded with
  | none => s
  | some p =>
    let s := initAll (pinsFromImage (planeOf s p).header s)
    { s with fab := { s.fab with paramPend := BitVec.allOnes 128 } }

/-- A failed start (R114, R118): fault 0x0802, and SAFE in which the recovery port carries panel 0. -/
def startFails (s : State) : State :=
  let s := raise 0x0802 { s with pat := { s.pat with loaded := none, recovery := true, fallback := false } }
  let s := { s with fab := { s.fab with badCfg := BitVec.allOnes 128 }, flt := { s.flt with safeDue := false } }
  setMode .safe s

/-! ### RUN entry -/

/-- The fault of a shutdown cause, reported at the RUN entry that follows (R438). -/
def offFault (s : State) : Nat :=
  match s.rf Reg.PWR_LAST_OFF 0 8 with
  | 1 => 0x0301 | 2 => 0x0302 | 3 => 0x0307 | 4 => 0x0306 | _ => 0x0308

/-- What RUN entry still owes of faults (R438, R441, R462, R504, R509). -/
def owedFaults (s : State) : State :=
  let s := if s.pwr.offDue then raise (offFault s) s else s
  let s := if s.pwr.borDue then raise 0x0201 s else s
  let s := if s.pwr.failDue then raise 0x0202 s else s
  let s := if s.lcs.resumed then raise 0x4901 s else s
  let s := if s.lcs.badWord then raise 0x4904 s else s
  { s with pwr := { s.pwr with offDue := false, borDue := false, failDue := false, alertHeld := false, tries := 0 } }

/-- RUN is entered (R115 step 8): a SAFE cause of the load enters SAFE there, with no core started (R451, R542). -/
def runEntry (s : State) : State :=
  if s.flt.safeDue then enterSafe { s with flt := { s.flt with safeDue := false } }
  else
    let s := bootCore (setMode .run { s with ram := { s.ram with fillOn := true } })
    let s := match s.pat.loaded with
      | some p => useHeader (planeOf s p).header s
      | none => s
    let s := if s.pat.fallback then irq PAT_PAGE 4 { s with pat := { s.pat with fallback := false } } else s
    owedFaults (replayKick s)

/-- RUN entry of a start through HOLD, with what it owes of the quick test (R533). -/
def runEntryQuick (s : State) : State := if s.flt.safeDue then runEntry s else quickReport (runEntry s)

/-- PLL0 to PLL2 are locked (R388). -/
def coreClocks (s : State) : Bool := (List.range 3).all fun n => (pllOf s n).st == 3

/-! ### A start through HOLD (R115, R432) -/

/-- The level of strap pin k at one sample (R337): what the board source at its land, or the HOLD pull, gives it, but where `noise` says otherwise. -/
def strapLevel (s : State) (noise : BitVec 4) (k : Nat) : Bool := ((pinOf s k).board.getD false) != noise.getLsbD k

/-- The straps IO0_0 to IO0_3 by the majority of three samples (R337). -/
def strapWord (s : State) (n : BitVec 4 × BitVec 4 × BitVec 4) : BitVec 4 :=
  (List.range 4).foldl (fun v k =>
    let a := strapLevel s n.1 k
    let b := strapLevel s n.2.1 k
    let c := strapLevel s n.2.2 k
    if (a && b) || (a && c) || (b && c) then v ||| BitVec.twoPow 4 k else v) 0

/-- The straps of R113 and R337. -/
def takeStraps (v : BitVec 4) (s : State) : State :=
  let s := s.wrg (Reg.PIN_STRAP 0) (w32 v.toNat)
  { s with strapPort := v.getLsbD 3, pat := { s.pat with override := v.getLsbD 0, hemForced := v.getLsbD 1 } }

/-- The bank rails that come good; a bank whose VCCIO code is not allowed for its class stays unpowered, with its fault (R321, R342). -/
def banksUp (v : BitVec 12) (s : State) : State :=
  (List.range 12).foldl (fun s b =>
    let s := setBank b { bankOf s b with good := v.getLsbD b } s
    if vccioAllowed b (vccio s b) then s else raise ((0x30 + b) * 0x100 + 1) s) s

/-- TIM_NOW stands at `t`; it is steered where PLL1 is not locked (R408, R412). -/
def startTime (t : Nat) (s : State) : State :=
  let s := s.wrg64 Reg.TIM_NOW t
  if s.timSource = 2 then steerBegin s else s

/-- PWR STATUS at step 5 of R432: the rails good, four phases, and the VHOLD charger begins. The time base starts on RC100, steered (R408). -/
def railsGood (s : State) : State :=
  let s := setPhases 4 (steerBegin (s.wb pwrStat 30 true))
  { s with pwr := { s.pwr with charge := some (s.rg64 Reg.TIM_AON) } }

/-- The clocks as the start finds them (R388, R389, R395): the PLLs start once XO25 is ready, and those that lock do so. -/
def clocksUp (e : StartEnv) (s : State) : State :=
  let s := xo32Report s
  if !(e.xoReady || s.clk.xoReady) then s
  else
    let s := if s.clk.xoReady then s else irq CLK_PAGE 4 { s with clk := { s.clk with xoReady := true } }
    let s := startPlls e.badLands s
    (List.range 8).foldl (fun s n => if e.locked.getLsbD n then pllLock n s else s) s

/-- DRAM calibration fails (R257): fault 0x2204, and SAFE at the step at which RUN would be entered. -/
def calibrate (ok : Bool) (s : State) : State := if ok then s else raiseSafe 0x2204 s

/-- The load of a start and the quick test after it (R114, R115, R533). RUN entry waits for PLL0 to PLL2 (R388). -/
def startLoad (e : StartEnv) (s : State) : State :=
  let r := loadDecision e.candFails e.hemFails s
  if !r.2 then startFails (calibrate e.calibOk r.1)
  else
    let s := calibrate e.calibOk r.1
    let quick := quickSelected s
    let s := if quick then quickTest e.clusters e.crypto e.flash s else s
    let s := regionsIn s
    let s := startTime (if quick then 5000000 else 2500000) s
    if coreClocks s then runEntryQuick s else { s with pwr := { s.pwr with runDue := some false } }

/-- A start that loads nothing (R497): every region isolated, every PIN_MUX OFF, HOLD to LOAD to RUN. -/
def startBare (e : StartEnv) (s : State) : State :=
  let s := setMode .load s
  let s := { s with pat := { s.pat with loaded := none }, fab := { s.fab with badCfg := BitVec.allOnes 128 } }
  let s := startTime 2500000 (calibrate e.calibOk s)
  if coreClocks s then runEntry s else { s with pwr := { s.pwr with runDue := some false } }

/-- The start from HOLD with VIN valid (R115, R432, R451, R497): rails, option area and life cycle read, an interrupted transition
resumed in TRANSIT, which ends in HOLD and starts again; then straps, clocks and the load. -/
def startHold (e : StartEnv) (s : State) : State :=
  let s := lcResume (flashStart (takeSamples e.readings e.vdd (railsGood s)))
  let s := lcRead s
  let s := banksUp e.banks s
  let s := takeStraps (strapWord s e.straps) s
  let s := clocksUp e s
  if s.lcs.st = 0x13 then startFails s
  else if isRaw s.lcs.st || isLockedTest s.lcs.st then startBare e s
  else startLoad e s

/-- POWER_ON_START: VIN becomes valid, or a reset has ended. In HIBERNATE VIN's return only ends the brown-out watch of R439. -/
def powerOnStart (e : StartEnv) (s : State) : State :=
  match s.mode with
  | .off =>
    let s := { setMode .hold s with pwr := { s.pwr with vin := true, locked := false, tries := 0 } }
    if s.pwr.resetN then s else startHold e s
  | .hibernate => { s with pwr := { s.pwr with vin := true } }
  | .hold =>
    if s.pwr.resetN || s.pwr.locked then s else startHold e { s with pwr := { s.pwr with vin := true } }
  | .transit => passHold s
  | _ => s

/-- The lock of a PLL (R395), after which a start or a wake that waited for PLL0 to PLL2 goes on; `wake` is what the wake from HIBERNATE
still does. -/
def lockAndGo (wake : State → State) (n : Nat) (s : State) : State :=
  let s := pllLock n s
  let waits := match s.mode with | .load | .hemLoad => coreClocks s | _ => false
  if !waits then s
  else match s.pwr.runDue with
    | none => s
    | some true => wake { s with pwr := { s.pwr with runDue := none } }
    | some false => runEntryQuick { s with pwr := { s.pwr with runDue := none } }

end Sys2Proof.Machine
end

