-- ==== Sys2Proof/Machine/Modes.lean ====
section
/-!
DEFINITION. The operating modes (R451 to R467): the requests of AON_MODE_REQ, the entries into DOZE, NAP and HIBERNATE, the wake
sources and their latch, the wakes and the replay.
-/

namespace Sys2Proof.Machine

/-! ### Requests (R453) -/

/-- The result of a request: its TARGET and a code. -/
def modeAnswer (target code : Nat) (s : State) : State := s.wrg Reg.AON_MODE_RES (w32 (target % 16 * 256 + code))

/-- A refusal: the result and IRQ source REFUSED. -/
def modeRefused (target code : Nat) (s : State) : State := irq AON_PAGE 6 (modeAnswer target code s)

/-- A compare channel that is a wake source: EN and WAKE (R418). -/
def cmpWakes (s : State) (k : Nat) : Bool := s.rb (Reg.TIM_CMP_CTL k) 31 && s.rb (Reg.TIM_CMP_CTL k) 30

/-- The arming codes of wake pin k and land k (R338, R442). -/
def wakePinMode (s : State) (k : Nat) : Nat := s.rf (Reg.PIN_WAKE 0) (2 * k) 2
def wakeLandMode (s : State) (k : Nat) : Nat := s.rf Reg.AON_WAKEPIN_CFG (2 * k) 2

/-- BOB_CFG.TMO_WAKE and AON_WAKE_AT_CTL.EN. -/
def tmoWake (s : State) : Bool := s.rb Reg.BOB_CFG 1
def wakeAtOn (s : State) : Bool := s.rb Reg.AON_WAKE_AT_CTL 0

/-- At least one HIBERNATE wake source is armed (R457). -/
def hibArmed (s : State) : Bool :=
  ((List.range 8).any fun k => wakePinMode s k != 0) || ((List.range 4).any fun k => wakeLandMode s k != 0)
    || ((List.range 64).any (cmpWakes s)) || tmoWake s || wakeAtOn s

/-- A request for DOZE, NAP or HIBERNATE (R453, in the order of its checks). -/
def sleepReq (target : Nat) (s : State) : State :=
  if s.pwr.req.isSome ∨ s.pwr.entry.isSome then modeRefused target 4 s
  else if s.mode ≠ .run ∧ s.mode ≠ .swap then modeRefused target 5 s
  else if target = 8 ∧ !saveValid s then modeRefused target 6 s
  else if target = 8 ∧ !hibArmed s then modeRefused target 7 s
  else modeAnswer target 1 { s with pwr := { s.pwr with req := some target } }

/-- A request for SAFE: at once, with fault 0x0203. -/
def safeReq (s : State) : State :=
  match s.mode with
  | .run | .service | .swap => modeAnswer 0xA 2 (raiseSafe 0x0203 s)
  | _ => modeRefused 0xA 5 s

/-- A request for RUN: it cancels a request that is pending. -/
def cancelReq (s : State) : State :=
  if s.pwr.req.isSome then modeAnswer 4 3 { s with pwr := { s.pwr with req := none } } else modeAnswer 4 0 s

/-- A write of AON_MODE_REQ. -/
def modeReq (target : Nat) (s : State) : State :=
  match target with
  | 4 => cancelReq s
  | 6 => sleepReq 6 s
  | 7 => sleepReq 7 s
  | 8 => sleepReq 8 s
  | 0xA => safeReq s
  | _ => modeRefused target 8 s

/-! ### Entry conditions (R454) -/

/-- A core that is halted under R182, or not started, or isolated. -/
def coreHalted (s : State) (c : Nat) : Bool :=
  let k := coreOf s c
  !k.started || clusterOff s (c / 4) || k.halted || (k.waiting && k.thread.isNone && k.chosen.isNone)

def coresHalted (s : State) : Bool := (List.range 16).all (coreHalted s)

/-- A basting that has reached its step 3 (R140), or a RESTORE. -/
def basteHolds (s : State) : Bool := s.pat.restore.isSome || (match s.pat.baste with | some b => decide (3 ≤ b.step) | none => false)

/-- The enabled compare channels that are wake sources, with their times. -/
def cmpAlarms (s : State) : List (Nat × Nat × Nat) :=
  ((List.range 64).filter (cmpWakes s)).map fun k => (4, k, s.rg64 (Reg.TIM_CMP k))

/-- The earliest deadline of a wait, where BOB_CFG.TMO_WAKE is 1 (R219). -/
def deadlineAlarms (s : State) : List (Nat × Nat × Nat) :=
  if !tmoWake s then []
  else match (s.bob.threads.filterMap fun x => x.2.timer.map (·.2)) with
    | [] => []
    | t :: l => [(5, 0, l.foldl min t)]

/-- The commits that wait and the armed time-triggered edges (R38, R353). -/
def commitAlarms (s : State) : List (Nat × Nat × Nat) :=
  allPanels.filterMap fun p => (seamOf s p).commit.map fun c => (6, p, c.target)
def tteAlarms (s : State) : List (Nat × Nat × Nat) := s.plt.fireAt.map fun x => (7, x.1, x.2.1)
def wakeAtAlarms (s : State) : List (Nat × Nat × Nat) := if wakeAtOn s then [(8, 0, s.rg64 Reg.AON_WAKE_AT)] else []

/-- A PLL relocks, and fault 0x0406 has not let the entry proceed, or an output update waits (R402). -/
def clocksBusy (s : State) : Bool :=
  (List.range 8).any fun n => let p := pllOf s n; ((p.st == 1 || p.st == 2) && !p.late) || p.upd.isSome

/-- NAP entry waits for a basting, a commit, an edge or a channel that is near, and for the PLLs (R38, R140, R353, R402, R418). -/
def napWaits (s : State) : Bool :=
  s.pat.outage.isSome || basteHolds s || clocksBusy s
    || (commitAlarms s ++ tteAlarms s ++ cmpAlarms s).any fun a => decide (a.2.2 < s.now + 150000)

/-! ### Entries (R455, R456, R460) -/

/-- Step 1 of an entry: the request is taken, the latch armed, AON_WAKE_PEND cleared. -/
def armLatch (target : Nat) (s : State) : State :=
  let s := s.wrg Reg.AON_WAKE_PEND 0
  { s with pwr := { s.pwr with req := none, entry := some target, latch := [], latching := true } }

/-- The mode of an entry is reached: AON_MODE_RES ENTERED. -/
def entered (m : Mode) (s : State) : State :=
  let s := modeAnswer m.code 2 (setMode m s)
  { s with pwr := { s.pwr with entry := none } }

/-- DOZE_ENTRY (R455). -/
def dozeEntry (s : State) : State :=
  if s.mode = .run ∧ s.pwr.req = some 6 ∧ s.pat.outage.isNone ∧ coresHalted s then
    let s := entered .doze (armLatch 6 s)
    { s with pwr := { s.pwr with alarms := [(1, 0, s.bob.seq)] } }
  else s

/-- What step 1 of a NAP or HIBERNATE entry does to image operations and to Fitting (R140, R534). -/
def cutOperations (s : State) : State := abortAll (cancelSwapAt (abortBasteEarly (abortWrite s)))

/-- Every core's posted stores are performed, before the DRAM enters self-refresh (R258). -/
def drainCores (s : State) : State := (List.range 16).foldl (fun s c => drainAll c s) s

/-- NAP_ENTRY (R456), its steps in their order. -/
def napEntry (s : State) : State :=
  if s.mode = .run ∧ s.pwr.req = some 7 ∧ coresHalted s ∧ !napWaits s then
    let al := cmpAlarms s ++ deadlineAlarms s ++ commitAlarms s ++ tteAlarms s ++ wakeAtAlarms s
    let s := cutOperations (flashNap (pleatNap (armLatch 7 s)))
    let s := drainCores s
    let s := { s with ram := { s.ram with selfRefresh := true }, pwr := { s.pwr with alarms := al } }
    let s := captureNap (timeCapture s)
    entered .nap (setPhases 1 (dllsStop (fun _ => true) s))
  else s

/-- Step 1 of a HIBERNATE entry. -/
def hibBegin (s : State) : State :=
  let s := cutOperations (seamHibernate (armLatch 8 s))
  flushStart (pleatStopAll (flashHibernate s))

/-- What HIBERNATE keeps (R463): Selvage, DRAM, the retained banks, flash, and Bobbin through its save area. -/
def hibKept (s : State) : State :=
  let keep := s.rf Reg.AON_RETAIN 0 8
  let t := powerless keptHibernate s
  let stays : Nat → Bool := fun a =>
    decide (a < 0x04004000) || inDram a || (inSram a && keep.testBit ((a - 0x20000000) / 0x100000))
  let t := clearMem (fun a => !stays a) t
  { t with
    bob := { s.bob with latches := [], cmd := none }
    ovl := { t.ovl with care := s.ovl.care, activeNs := s.ovl.activeNs, hotSince := s.ovl.hotSince }
    ram := { s.ram with bad := s.ram.bad.filter (fun w => stays (8 * w)), selfRefresh := true }
    tim := { Tim.reset with sleep := s.tim.sleep, wdg := s.tim.wdg.filter (·.1 == 24) }
    pat := { t.pat with override := s.pat.override, hemForced := s.pat.hemForced }
    lcs := { t.lcs with lockedOut := s.lcs.lockedOut }
    pwr := { t.pwr with entry := s.pwr.entry, latch := s.pwr.latch, latching := true, alarms := s.pwr.alarms, retained := keep } }

/-- The alarms AON keeps through HIBERNATE: the earliest compare channel, the deadlines and WAKE_AT. -/
def hibAlarms (s : State) : State :=
  let cmps := match cmpAlarms s with
    | [] => []
    | a :: l => [l.foldl (fun x y => if y.2.2 < x.2.2 then y else x) a]
  { s with pwr := { s.pwr with alarms := cmps ++ deadlineAlarms s ++ wakeAtAlarms s } }

/-- Steps 2 to 7 of a HIBERNATE entry, once no thread is on a core: the requests outstanding complete before self-refresh (R258). -/
def hibEnd (s : State) : State := entered .hibernate (hibKept (hibAlarms (timeCapture (flushFinish (drainCores s)))))

/-- HIBERNATE_ENTRY (R460): it begins once no outage and no basting from step 3 is in progress, and completes once Bobbin's flush
can. Bobbin refuses the entry while the save area is not valid (R243). -/
def hibernateEntry (s : State) : State :=
  let begins : Bool := s.mode == .run && s.pwr.req == some 8 && s.pat.outage.isNone && !basteHolds s
  let s := if !begins then s
    else if saveValid s then hibBegin s else modeRefused 8 6 { s with pwr := { s.pwr with req := none } }
  if s.mode = .run ∧ s.pwr.entry = some 8 ∧ flushReady s then hibEnd s else s

/-! ### The wake sources (R457, R458) -/

/-- A thread has become READY since DOZE was entered. -/
def newReady (s : State) : Bool := match s.pwr.alarms.head? with | some a => a.2.2 != s.bob.seq | none => false

/-- An interrupt enabled in a started core's mie is pending. -/
def coreIrq (s : State) (c : Nat) : Bool :=
  (coreOf s c).started && !clusterOff s (c / 4) && (mipOf s c &&& (coreOf s c).ctx.mie.toNat) != 0

/-- The core of a CORE_EVENT in DOZE, where there is one: the lowest with an interrupt, or the lowest a ready thread may use. -/
def coreEvent (s : State) : Option Nat :=
  match (List.range 16).find? (coreIrq s) with
  | some c => some c
  | none =>
    if !newReady s then none
    else some (((readyOrder s).findSome? fun e =>
      (List.range 16).find? fun c => (threadOf s e.thread).aff.testBit c).getD 0)

/-- The mode a latched event wakes from: the mode that lasts, or the one that is being entered. -/
def canWake (s : State) (code idx : Nat) : Bool :=
  match code with
  | 1 => wakeMode s == 6 && decide (idx < 16) && (coreIrq s idx || newReady s)
  | 2 => wakeMode s == 8 && decide (idx < 8) && wakePinMode s idx != 0
  | 3 => (wakeMode s == 7 || wakeMode s == 8) && decide (idx < 4) && wakeLandMode s idx != 0
  | 9 => wakeMode s == 7 && decide (idx < 4)
  | 0xA => wakeMode s == 7 && idx == 0 && s.rb (Reg.HST_QSPI_CFG 0) 0
  | 0xB => wakeMode s == 7 && idx == 0 && s.rb (Reg.HST_QSPI_CFG 1) 0
  | 0xC => wakeMode s == 7 && decide (idx < 480) && bankLive s (idx / 40) && (s.rg64 (Reg.PIN_INT_EN (idx / 40))).testBit (idx % 40)
      && decide (1 ≤ s.rf (cfgReg idx) 20 3) && decide (s.rf (cfgReg idx) 20 3 ≤ 5)
  | _ => false

/-- WAKE_EVENT: an event of an armed source while the latch is open (R458); after a wake that failed for good it is ignored (R462). -/
def wakeEvent (code idx : Nat) (s : State) : State :=
  if s.pwr.latching ∧ !s.pwr.wakeHeld ∧ canWake s code idx then latchWake (code, idx) s else s

/-- The lead of a mode, in ns (R457). -/
def leadOf (mode : Nat) : Nat := if mode = 7 then 150000 else 4000000

/-- TIMED_WAKE: in NAP and HIBERNATE at the last always-on edge at or before a target less its lead: the next edge would be too
late; in DOZE 2 µs before AON_WAKE_AT. -/
def timedWake (s : State) : State :=
  match s.mode with
  | .doze => if wakeAtOn s ∧ s.rg64 Reg.AON_WAKE_AT ≤ s.now + 2000 then latchWake (8, 0) s else s
  | .nap | .hibernate =>
    if s.pwr.wakeHeld then s
    else
      let due := s.pwr.alarms.filter fun a => decide (a.2.2 < leadOf s.mode.code + sleepNow s)
      due.foldl (fun s a => latchWake (a.1, a.2.1) s) s
  | _ => s

/-- WAKE_AT_REACHED (R466): EN clears; IRQ source TIMER in RUN. -/
def wakeAtReached (s : State) : State :=
  if wakeAtOn s ∧ s.rg64 Reg.AON_WAKE_AT ≤ edgeNow s then
    let s := s.wb Reg.AON_WAKE_AT_CTL 0 false
    if s.mode = .run then irq AON_PAGE 5 s else s
  else s

/-! ### Replay (R459) -/

/-- A level at a pin's land before and after a change that lasts for a number of pad-clock edges wakes NAP or HIBERNATE where it meets the pin's
condition and its filter (R338): in HIBERNATE pulses of 1 µs or more, none below 0.5 µs; in NAP of 20 ns or more. Between, a free value decides. -/
def pinWakes (n : Nat) (old new : Bool) (edges : Nat) (s : State) : State :=
  let free := s.freeBelow 2 = 1
  if wakeMode s = 7 then
    if !latchSets (s.rf (cfgReg n) 20 3) old new then s
    else if 2 ≤ edges then wakeEvent 0xC n s
    else if free then (wakeEvent 0xC n s).bump else s.bump
  else if wakeMode s = 8 ∧ 4 ≤ n ∧ n < 12 then
    if !latchSets (wakePinMode s (n - 4)) old new then s
    else if 100 ≤ edges then wakeEvent 2 (n - 4) s
    else if edges < 50 then s
    else if free then (wakeEvent 2 (n - 4) s).bump else s.bump
  else s

/-- The level at the land of a wake pin, whose input stage has always-on power. -/
def landLevel (s : State) (n : Nat) : Bool := match (pinOf s n).board with | some l => l | none => padLevel s n

/-- A board source changes a pin (R330, R332, R338). -/
def pinChange (n : Nat) (board : Option Bool) (edges : Nat) (s : State) : State :=
  let old := landLevel s n
  let r := pinDetect n board edges s
  let t := if r.2 then event (pinSource n) r.1 else r.1
  pinWakes n old (landLevel t n) edges t

/-- The pins whose level condition stands as NAP is entered (R338). -/
def napLevels (s : State) : State :=
  allPins.foldl (fun s n => if 4 ≤ s.rf (cfgReg n) 20 3 ∧ latchSets (s.rf (cfgReg n) 20 3) (padLevel s n) (padLevel s n) then wakeEvent 0xC n s else s) s

/-- The latch of a pin set by the replay, and its Bobbin event; nothing in an unpowered bank (R321) or on a disabled page (R341). -/
def replayPin (n : Nat) (s : State) : State :=
  if pinLatch s n || !isEnabled s (PIN_PAGE (n / 40)) || !bankLive s (n / 40) then s
  else
    let r := setLatch n s
    if r.2 then event (pinSource n) r.1 else r.1

def replayOne (s : State) (w : Wake) : State :=
  match w.1 with
  | 2 => replayPin (4 + w.2) s
  | 3 => irq AON_PAGE (1 + w.2) s
  | 8 => irq AON_PAGE 5 s
  | 0xC => replayPin w.2 s
  | _ => s

/-- Every latched event delivered once; the latch closes. -/
def replay (s : State) : State :=
  let l := s.pwr.latch
  l.foldl replayOne { s with pwr := { s.pwr with latch := [], latching := false, alarms := [] } }

/-- The events an abandoned HIBERNATE entry had latched, once SAFE has been entered (R459, R460). -/
def replayAbandoned (s : State) : State :=
  if s.mode = .safe ∧ !s.pwr.latching ∧ !s.pwr.latch.isEmpty then replay s else s

/-- A level-mode latch that is clear while the accepted level of its pin is present (R332, R341). -/
def levelDue (s : State) (n : Nat) : Bool :=
  let b := n / 40
  let m := s.rf (cfgReg n) 20 3
  ((m == 4 && (pinOf s n).accepted) || (m == 5 && !(pinOf s n).accepted)) && !pinLatch s n
    && isEnabled s (PIN_PAGE b) && bankLive s b && !masked s n

/-- IRQ source PIN_INT of a bank, where a pin has its latch and its enable at 1 (R332). -/
def padIrq (s : State) (b : Nat) : State :=
  if s.rg64 (Reg.PIN_INT_RAW b) &&& s.rg64 (Reg.PIN_INT_EN b) = 0 then s else irq (PIN_PAGE b) 0 s

/-- The detector of a pin at a pad-clock edge (R332): the level sampled is accepted at the (FILTER + 1)th edge in a row; the latch sets by IRQ_MODE, that of
a level mode again, which is the pin's event to Bobbin. -/
def padDetect (s : State) (n : Nat) : State :=
  let p := pinOf s n
  if !bankLive s (n / 40) then s
  else if masked s n then (if p.run = 0 then s else setPin n { p with run := 0 } s)
  else
    let due := p.sync1 != p.accepted && decide (s.rf (cfgReg n) 16 4 ≤ p.run)
    let q := if p.sync1 = p.accepted then { p with run := 0 } else if due then { p with accepted := p.sync1, run := 0 } else { p with run := p.run + 1 }
    let s := if q = p then s else setPin n q s
    let sets := due && latchSets (s.rf (cfgReg n) 20 3) p.accepted p.sync1
    if pinIrqMode s ∧ (sets ∨ levelDue s n) then replayPin n s else s

/-- The pad clock at a tick that began at TIM_NOW `t0`: its edges fall at the multiples of 10 ns (R322). -/
def padClockEdge (t0 : Nat) (s : State) : State :=
  if s.now / 10 = t0 / 10 then s
  else
    let s := padsEdge (s.now / 10 * 10) (latchesPast s)
    let s := if padSampling s then allPins.foldl padDetect s else s
    if pinIrqMode s then (List.range 12).foldl padIrq s else s

/-- The mode a wake ends in: RUN, or SAFE when a SAFE cause arose (R451, R456). -/
def wakeTo (s : State) : State :=
  let t := setMode .run { s with flt := { s.flt with safeDue := false } }
  if s.flt.safeDue then
    let u := enterSafe t
    { u with prevMode := s.mode, pwr := { u.pwr with latch := s.pwr.latch, alarms := [] } }
  else t

/-! ### Wakes (R455, R456, R461, R462) -/

/-- DOZE_WAKE (R455). -/
def dozeWake (s : State) : State :=
  if s.mode ≠ .doze then s
  else
    let s := match s.pwr.latch.isEmpty, coreEvent s with
      | true, some c => latchWake (1, c) s
      | _, _ => s
    if s.pwr.latch.isEmpty then s else settle (replay (irq AON_PAGE 0 (wakeTo s)))

/-- NAP_WAKE (R456), its steps in their order. The PCIe requests held are the caller's. -/
def napWake (s : State) : State :=
  if s.mode ≠ .nap ∨ s.pwr.latch.isEmpty then s
  else
    let s := setPhases (phasesNow s) s
    let s := ovlWake { s with ram := { s.ram with selfRefresh := false } }
    let s := wdgWake (flashNapWake (pleatWake (timeRebuild s)))
    let s := queWake (dropNap s)
    let s := (wakeTo s).incSat Reg.AON_WAKE_CNT 0 16
    settle (replay (irq AON_PAGE 0 s))

/-- Steps 9 to 11 of a HIBERNATE wake: RUN, the count, WAKE, the replay. -/
def hibArrive (s : State) : State :=
  let s := (runEntry s).incSat Reg.AON_WAKE_CNT 16 16
  settle (replay (irq AON_PAGE 0 s))

/-- HIBERNATE_WAKE (R461): time rebuilt, the selected plane loaded with the straps of the last HOLD, memories, Bobbin. -/
def hibernateWake (e : StartEnv) (s : State) : State :=
  if s.mode ≠ .hibernate ∨ s.pwr.latch.isEmpty ∨ s.pwr.wakeHeld ∨ !s.pwr.vin then s
  else
    let s := takeSamples e.readings e.vdd (fltRestart (banksUp e.banks (railsGood { s with pwr := { s.pwr with wakeTries := 0 } })))
    let s := lcRead (replayScan (steerBegin (timeRebuild s)))
    let bare := isRaw s.lcs.st || isLockedTest s.lcs.st
    let r := if bare then (setMode .load s, true) else loadDecision e.candFails e.hemFails s
    let s := wdgWake (memWake s.pwr.retained (clocksUp e r.1))
    let s := { s with fit := { s.fit with began := s.now } }
    if !r.2 then replay (bobRestore e.saveOk (startFails s))
    else
      let s := bobRestore e.saveOk (regionsIn s)
      if coreClocks s then hibArrive s else { s with pwr := { s.pwr with runDue := some true } }

/-- HIBERNATE_WAKE_RETRY (R462): a rail (0 VDD_CORE, 1 VDD_AUX, 2 VDD_PHY) is not good; after three repeats the module stays in
HIBERNATE with SAFE_N low. -/
def wakeRetry (rail : Fin 3) (s : State) : State :=
  if s.mode ≠ .hibernate ∨ s.pwr.latch.isEmpty ∨ s.pwr.wakeHeld then s
  else
    let n := s.pwr.wakeTries + 1
    if n < 4 then { s with pwr := { s.pwr with wakeTries := n } }
    else
      let s := s.wrg Reg.AON_WAKE_FAIL (w32 (2 ^ 31 + 4 * 2 ^ 8 + rail.val))
      { s with pwr := { s.pwr with wakeTries := n, wakeHeld := true, failDue := true } }

/-- The lock of a PLL, and what waits for it. -/
def pllLocked (n : Nat) (s : State) : State := lockAndGo hibArrive n s

end Sys2Proof.Machine
end

