-- ==== Sys2Proof/Machine/RegRead.lean ====
section
/-!
DEFINITION. What a read of a register page returns (R9, R21 to R29, R36): the header, the STATUS of each page, the registers whose
value follows from the state, the others from the register store.
-/

namespace Sys2Proof.Machine

/-! ### Status words (STATUS.BLOCK of each page) -/

/-- PAT_STATUS (R142). -/
def patStatus (s : State) : Nat :=
  let ok := fun p => b2n ((planeOf s p).st == .valid)
  s.pat.opState * 2 ^ 24 + b2n s.pat.trial * 2 ^ 17 + b2n s.pat.override * 2 ^ 16 + b2n s.pat.hemForced * 2 ^ 15
    + planeCode s .hem * 2 ^ 12 + planeCode s .b * 2 ^ 9 + planeCode s .a * 2 ^ 6 + ok .a + 2 * ok .b + 4 * ok .hem

/-- BAS_STATUS (R143). -/
def basStatus (s : State) : Nat := s.pat.basState * 2 ^ 24 + popc 128 s.fab.held.toNat

/-- FAB STATUS (R83): a port whose region is isolated shows no link (R81). -/
def fabStatus (s : State) : Nat :=
  let up := (List.range 16).foldl (fun a p => if s.fab.linkUp.getLsbD p && !isolated s (16 * (p / 2) + 1) then a + 2 ^ p else a) 0
  s.rf Reg.FAB_BOLT_OFF 0 8 * 2 ^ 16 + up

/-- STATUS of a CORE page (R188). -/
def coreStatus (s : State) (c : Nat) : Nat :=
  let k := coreOf s c
  let off := clusterOff s (c / 4)
  b2n (k.started && !off) * 2 ^ 30 + b2n (k.started && !off && coreHalted s c) * 2 ^ 29 + b2n off * 2 ^ 28
    + k.ctx.prv % 4 * 2 ^ 26 + b2n k.thread.isSome * 2 ^ 25 + k.thread.getD 0

/-- The threads that are READY. -/
def readyThreads (s : State) : List Thread := (s.bob.threads.map (·.2)).filter (·.st == .ready)

/-- A ready entry of the Spool that is current. -/
def spooled (s : State) : List Entry := (s.bob.blocks.flatMap (·.entries)).filter (current s)

/-- BOB_STATUS (R221). -/
def bobStatus (s : State) : Nat :=
  let joined := (List.range 16).foldl (fun a c => if (coreOf s c).joined then a + 2 ^ c else a) 0
  let top := match (readyThreads s).map (·.eff) with | [] => 0 | e :: l => l.foldl min e
  b2n (!(spooled s).isEmpty) * 2 ^ 30 + b2n (readyThreads s).isEmpty * 2 ^ 29 + top * 2 ^ 16 + joined

/-- SPL_STATUS (R248). -/
def splStatus (s : State) : Nat :=
  b2n s.bob.full * 2 ^ 30 + b2n (!(overflowed s).isEmpty) * 2 ^ 29 + b2n s.bob.isSaved * 2 ^ 28 + b2n s.bob.flushing * 2 ^ 27 + b2n (!s.bob.rebuild.isEmpty) * 2 ^ 26
    + (splitLevel s).getD 0 * 2 ^ 16 + b2n s.bob.blocks.isEmpty

/-- MEM_STATUS (R263). -/
def memStatus (s : State) : Nat :=
  b2n (s.ram.fillNext == 8192) * 2 ^ 30 + b2n s.ram.selfRefresh * 2 ^ 29 + b2n s.ram.scrubOn * 2 ^ 28 + s.ram.lost

/-- FLS_STATUS (R293). -/
def flsStatus (s : State) : Nat :=
  b2n (!s.fls.replay.isEmpty) * 2 ^ 30 + b2n (s.rb Reg.FLS_DQ_CTRL 31) * 2 ^ 29 + b2n s.fls.rfOn * 2 ^ 28
    + suspendedMask s * 2 ^ 16 + busyMask s

/-- STATUS of a QUE page: NOT_EMPTY (R318). -/
def queStatus (s : State) (p : Nat) : Nat :=
  (List.range 16).foldl (fun a j => if queEmpty s (16 * p + j) then a else a + 2 ^ j) 0

/-- STATUS of a PIN page (R341). -/
def pinStatus (s : State) (b : Nat) : Nat :=
  b2n (s.mode == .safe && !s.pat.recovery) * 2 ^ 30 + b2n (decide (8 ≤ b)) * 2 ^ 9
    + b2n ((bankOf s b).good && !(bankOf s b).shut) * 2 ^ 8 + vccio s b

/-- STATUS of PLT: the groups that run (R355). -/
def pltStatus (s : State) : Nat := (List.range 8).foldl (fun a g => if (groupOf s g).running then a + 2 ^ g else a) 0

/-- STATUS.BLOCK of page `i` of kind `k`; pages whose chapter gives it nothing read 0. -/
def pageStatus (s : State) (k : Page) (i : Nat) : Nat :=
  match k with
  | .aon => aonStatus s
  | .pwr => pwrStatus s
  | .clk => clkStatus s
  | .tim => timStatus s
  | .pat => patStatus s
  | .bas => basStatus s
  | .ovl => ovlStatus s
  | .fab => fabStatus s
  | .core => coreStatus s (i - 0x10)
  | .bob => bobStatus s
  | .spl => splStatus s
  | .mem => memStatus s
  | .fls => flsStatus s
  | .que => queStatus s (i - 0x28)
  | .pin => pinStatus s (i - 0x30)
  | .plt => pltStatus s
  | .hst => hstStatus s
  | .lcs => lcsStatus s
  | .fit => fitStatus s
  | .mon => monStatus s
  | .flt => fltStatus s
  | .seam | .pnl | .wdg | .ses | .thm => 0

/-! ### Registers that follow from the state -/

/-- Word `h` (0 low, 1 high) of a 64-bit value. -/
def half (v h : Nat) : Nat := v / 2 ^ (32 * h) % 2 ^ 32

/-- Bits of a mask of 128 as word `k`. -/
def mask32 (m : BitVec 128) (k : Nat) : Nat := nfld m.toNat (32 * k) 32

/-- FAB_ISOk (R80, R83). -/
def isoWord (s : State) (k : Nat) : Nat := (List.range 32).foldl (fun a n => if isolated s (32 * k + n) then a + 2 ^ n else a) 0

/-- FAB_OBSn (R69): what the one region that drives it presents; 0 where that is isolated, has no capture clock, or is none. -/
def obsWord (s : State) (n : Nat) : Nat :=
  let from' := allRegions.find? fun r =>
    let m := markFrames s.fab.latch r
    !isolated s r && Config.captureBound m && (Config.obsDriven m).getLsbD n
  match from' with
  | some _ => (Config.obsValue n s.now).toNat
  | none => 0

def fabRead (o : Nat) (s : State) : Option Nat :=
  if 0x50 ≤ o ∧ o < 0x60 then some (isoWord s ((o - 0x50) / 4))
  else if 0x200 ≤ o ∧ o < 0x300 then some (obsWord s ((o - 0x200) / 4))
  else none

def patRead (o : Nat) (s : State) : Option Nat :=
  let svn := fun p => min (hdrSvn (planeOf s p).header) 255
  let cyc := fun p => (planeOf s p).cycles
  let build := fun p => hdrBuild (planeOf s p).header
  if o = 0x44 then
    some (s.rf Reg.PAT_ACTIVE_PLANE 16 16 * 2 ^ 16 + (match s.pat.loaded with | some p => Plane.code p | none => 3) * 16
      + b2n s.pat.selectedB)
  else if o = 0x80 then some (svn .hem * 2 ^ 16 + svn .b * 2 ^ 8 + svn .a)
  else if o = 0x84 then some (cyc .a)
  else if o = 0x88 then some (cyc .b)
  else if o = 0x8C then some (cyc .hem)
  else if o = 0x90 ∨ o = 0x94 then some (half (build .a) (o % 8 / 4))
  else if o = 0x98 ∨ o = 0x9C then some (half (build .b) (o % 8 / 4))
  else if o = 0xA0 ∨ o = 0xA4 then some (half (build .hem) (o % 8 / 4))
  else none

def basRead (o : Nat) (s : State) : Option Nat :=
  if 0x60 ≤ o ∧ o < 0x70 then some (mask32 s.fab.held ((o - 0x60) / 4)) else none

def ovlRead (o : Nat) (s : State) : Option Nat :=
  if o = 0x68 then some (sweepWord s)
  else if o = 0x88 then some (spareWord s)
  else if o = 0x8C then some (damagedWord s)
  else if o = 0x90 then some (min s.ovl.bad.length 65535)
  else none

/-- CORE_EXT_CLAIM (R188). -/
def claimWord (s : State) (c : Nat) : Nat :=
  match (List.range 96).find? fun i => s.rb (Reg.CORE_EXT_EN c (i / 32)) (i % 32) && (pageOf i).isSome && pageIrq s i with
  | some i => 2 ^ 31 + i
  | none => 0

def coreRead (c o : Nat) (s : State) : Option Nat :=
  if 0x70 ≤ o ∧ o < 0x80 then some (extPend s ((o - 0x70) / 4))
  else if o = 0x80 then some (claimWord s c)
  else if o = 0xA0 ∧ c % 4 ≠ 0 then some 0
  else none

/-- BOB_THREAD_INFO (R221). -/
def threadInfo (s : State) : Nat :=
  let t := s.rf Reg.BOB_THREAD_SEL 0 18
  let x := threadOf s t
  x.lastCore * 2 ^ 24 + b2n x.onCore * 2 ^ 23 + b2n ((spooled s).any (·.thread == t)) * 2 ^ 22 + b2n (s.bob.cache.contains t) * 2 ^ 21
    + b2n x.fpArea.isSome * 2 ^ 20 + b2n x.fp * 2 ^ 19 + b2n x.pinned * 2 ^ 18 + b2n x.pend * 2 ^ 17 + x.eff * 2 ^ 8
    + x.reason * 16 + x.st.code

def bobRead (o : Nat) (s : State) : Option Nat :=
  if o = 0x50 then some (b2n (bobBusy s) * 2 ^ 31 + (s.rg Reg.BOB_TRES).toNat)
  else if o = 0xD0 then some (s.bob.abase * 2 ^ 6 + (s.rg Reg.BOB_ARB).toNat)
  else if o = 0x74 then some (threadInfo s)
  else if o = 0x78 then some (onChip s)
  else if o = 0x7C then some (s.bob.threads.filter (·.2.st != .unused)).length
  else if o = 0x80 then some (flagged s)
  else if o = 0x84 then some (fpAreas s).length
  else if o = 0x88 then some (pinnedCount s * 2 ^ 16 + s.bob.cache.length)
  else if o = 0x90 then some (timersUsed s).length
  else if o = 0xC8 ∧ s.bob.bindFor = some (s.rf Reg.BOB_BIND_SEL 0 13) then some s.bob.bindLow.toNat
  else if o = 0xC8 ∨ o = 0xCC then some (half (bindingOf s (s.rf Reg.BOB_BIND_SEL 0 13)) (o % 8 / 4))
  else none

def splRead (o : Nat) (s : State) : Option Nat :=
  let all := s.bob.blocks.flatMap (·.entries)
  if o = 0x48 then some ((s.rg Reg.SPL_SAVE_BASE).toNat / 0x400000 * 0x400000 + b2n (saveValid s))
  else if o = 0x50 then some all.length
  else if o = 0x54 then some (s.rf Reg.SPL_BLOCKS 16 16 * 2 ^ 16 + (usedBlocks s).length)
  else if o = 0x58 then some (all.filter fun e => !current s e).length
  else if o = 0x5C then some (overflowed s).length
  else none

/-- MEM_INIT, and MEM_DRAM_LOAD: 0 where no request has reached the DRAM in the last 1 ms, else the share of a bus that the model has no time for, a
free value. -/
def memRead (o : Nat) (s : State) : Option Nat :=
  let idle := match s.ram.lastReq with | some t => decide (t + 1000000 < s.now) | none => true
  if o = 0x6C then some (segsFilled s) else if o = 0x70 then some (if idle then 0 else s.freeBelow 1001) else none

def flsRead (o : Nat) (s : State) : Option Nat :=
  let free := fun k => (List.range 4).foldl (fun a b => a + freeSpares s (4 * k + b) % 256 * 2 ^ (8 * b)) 0
  if o = 0x68 then some (bankStateWord s)
  else if o = 0x80 then some (free 0)
  else if o = 0x84 then some (free 1)
  else if o = 0x90 then some (slotWord s)
  else if o = 0x98 then some (sget (fun _ => 0) s.fls.cycles (blockOf s (s.rf Reg.FLS_CYC_SEL 0 10)))
  else none

/-- The registers of a queue, of one joined to its partner PAIRED alone (R295): block j of page p lies at 0x100 + 0x40 j. -/
def queRead (p o : Nat) (s : State) : Option Nat :=
  if o < 0x100 ∨ 0x500 ≤ o then none
  else
    let q := 16 * p + (o - 0x100) / 0x40
    if joined s q then some (if (o - 0x100) % 0x40 = 0x0C then queStateWord s q else 0)
    else match (o - 0x100) % 0x40 with
    | 0x08 => some (occWord s q)
    | 0x0C => some (queStateWord s q)
    | 0x28 => some (ptrsWord s q)
    | 0x2C => some (markWord s q)
    | _ => none

def pinRead (b o : Nat) (s : State) : Option Nat :=
  if o = 0x60 ∨ o = 0x64 then some (half (padWord s b) (o % 8 / 4)) else none

def pltRead (o : Nat) (s : State) : Option Nat :=
  if 0x100 ≤ o ∧ o < 0x300 ∧ (o - 0x100) % 0x40 = 0x1C then some (gstatWord s ((o - 0x100) / 0x40)).toNat
  else if 0x400 ≤ o ∧ o < 0x7C0 then some (capWord s ((o - 0x400) / 4)).toNat
  else none

def clkRead (o : Nat) (s : State) : Option Nat :=
  if o = 0x84 then some (dllLockedWord s)
  else if 0x100 ≤ o ∧ o < 0x300 then
    let n := (o - 0x100) / 0x40
    match (o - 0x100) % 0x40 with
    | 0x0C => some (pllStateWord s n)
    | 0x10 => some (pllCtrlWord s n)
    | 0x14 => some (pllActWord s n)
    | _ => none
  else none

def wdgRead (p o : Nat) (s : State) : Option Nat :=
  if o = 0x4C then some (sysLeft s) else if o = 0x68 then some (panelLeft s p) else none

def thmRead (o : Nat) (s : State) : Option Nat :=
  if 0x40 ≤ o ∧ o < 0x50 then some (nfld s.thm.uid.toNat (8 * (o - 0x40)) 32)
  else if o = 0x50 then some (s.thm.svn % 256)
  else if o = 0x54 then some (signSlotsWord s)
  else if o = 0x58 then some (dkeySlotsWord s)
  else if o = 0x74 then some (s.thm.bootSlot * 256 + s.thm.bootCode)
  else if o = 0x78 then some (s.thm.certCa * 2 ^ 16 + s.thm.certDev)
  else if 0x400 ≤ o ∧ o < 0x1000 then some (certWord s ((o - 0x400) / 4))
  else none

def sesRead (o : Nat) (s : State) : Option Nat :=
  if o = 0x58 then some ((s.rg Reg.SES_RX_BASE).toNat / 0x800000 * 0x800000 + b2n (rxValid s))
  else if o = 0x80 then some (slotInfoWord s)
  else if o = 0x88 then some (sesCountWord s)
  else none

def lcsRead (o : Nat) (s : State) : Option Nat :=
  if o = 0x40 then some (lcsStateWord s)
  else if 0x44 ≤ o ∧ o < 0x54 then some (lcsWord s ((o - 0x44) / 4))
  else if o = 0x68 then some (tokenSlotsWord s)
  else if o = 0xA0 then some (lcsDbgWord s)
  else if o = 0xA8 ∨ o = 0xAC then some (half (match s.lcs.grant with | some g => g.endTime | none => 0) (o % 8 / 4))
  else if 0xC0 ≤ o ∧ o < 0xE0 then some (lcsLogWord s ((o - 0xC0) / 4))
  else none

def fitRead (o : Nat) (s : State) : Option Nat :=
  if o = 0x84 then some (fitInfoWord s)
  else if o = 0x88 ∨ o = 0x8C then some (half (fitLast s) (o % 8 / 4))
  else none

def fltRead (o : Nat) (s : State) : Option Nat :=
  if o = 0x40 then some (fltCode s)
  else if 0x70 ≤ o ∧ o < 0x80 then some (fltLogWord s ((o - 0x70) / 4))
  else none

/-- SEAM_STAGE of panel p: REFUSED is stored, PENDING and COUNT follow (R29, R39). -/
def stageWord (s : State) (p : Nat) : Nat :=
  let pend := match (seamOf s p).commit with | some c => c.isAt | none => false
  s.rf (sb p Reg.SEAM_STAGE) 17 1 * 2 ^ 17 + b2n pend * 2 ^ 16 + min (stagedBy s p).length 65535

/-- AON_WAKE_AT: the low word last written (R9), which takes effect with the high word. -/
def aonRead (o : Nat) (s : State) : Option Nat :=
  if o = 0x50 then some s.pwr.aonLow.toNat else if o = 0xC0 then some (aonSupplyWord s) else none

/-- TIM_CMPk: the words last written (R9), also before they take effect at the next tick (R417). -/
def timRead (o : Nat) (s : State) : Option Nat :=
  if o < 0x100 ∨ 0x500 ≤ o then none
  else
    let k := (o - 0x100) / 0x10
    let v := sget (fun _ => w64 (s.rg64 (Reg.TIM_CMP k))) s.tim.cmpNext k
    match (o - 0x100) % 0x10 with
    | 0x0 => some (sget (fun _ => w32 (v.toNat % 2 ^ 32)) s.tim.cmpLow k).toNat
    | 0x4 => some (v.toNat / 2 ^ 32)
    | _ => none

/-- The registers of a page that follow from the state, for a reader of panel p; none: the register store holds it. -/
def computed (k : Page) (i p o : Nat) (s : State) : Option Nat :=
  match k with
  | .seam => if o = 0x44 then some (stageWord s p) else none
  | .pnl => if o = 0x58 then some p else none
  | .aon => aonRead o s
  | .clk => clkRead o s
  | .wdg => wdgRead p o s
  | .pat => patRead o s
  | .bas => basRead o s
  | .ovl => ovlRead o s
  | .fab => fabRead o s
  | .core => coreRead (i - 0x10) o s
  | .bob => bobRead o s
  | .spl => splRead o s
  | .mem => memRead o s
  | .fls => flsRead o s
  | .que => queRead (i - 0x28) o s
  | .pin => pinRead (i - 0x30) o s
  | .plt => pltRead o s
  | .hst => if o = 0x90 then some (mbxWord s) else none
  | .ses => sesRead o s
  | .thm => thmRead o s
  | .lcs => lcsRead o s
  | .fit => fitRead o s
  | .flt => fltRead o s
  | .tim => timRead o s
  | .pwr | .mon => none

/-! ### The header (R21 to R25) -/

/-- ID.INSTANCE (R21). -/
def pageInstance (k : Page) (i : Nat) : Nat :=
  match k with
  | .core => i - 0x10
  | .que => i - 0x28
  | .pin => i - 0x30
  | _ => 0

/-- ID (R15, R21). -/
def idWord (k : Page) (i : Nat) : Nat :=
  k.base * 2 ^ 16 + pageInstance k i * 2 ^ 8 + (match k with | .seam => moduleRev | _ => 0x10)

/-- The word at offset `o` below 0x40 of page `i`, for a reader of panel p. -/
def headerRead (k : Page) (i p o : Nat) (s : State) : Nat :=
  let at' := fun (x : Nat) => (s.rg (keyFor p (i * 0x1000 + x))).toNat
  match o with
  | 0x00 => idWord k i
  | 0x04 => k.cap
  | 0x08 => b2n (s.rb (faultInfo i) 31) * 2 ^ 31 + pageStatus s k i % 2 ^ 31
  | 0x0C => if k.ctrlFixed then 1 else at' 0x0C % 2
  | 0x10 => at' 0x10
  | 0x14 => at' 0x14
  | 0x18 => (s.rg (keyFor p (i * 0x1000 + 0x10)) &&& s.rg (keyFor p (i * 0x1000 + 0x14))).toNat
  | 0x20 => at' 0x20
  | 0x24 => at' 0x24 % 2
  | 0x28 => match ownerOf s i with | some q => 2 ^ 31 + q | none => 0
  | 0x2C => at' 0x2C
  | _ => 0

/-! ### A register read -/

/-- What a register shows to a reader of panel p now, without what the read itself does. -/
def regValue (k : Page) (i p o : Nat) (s : State) : Nat :=
  if o < 0x40 then headerRead k i p o s
  else match computed k i p o s with
  | some v => v
  | none =>
    match rowAt k o with
    | none => 0
    | some r =>
      let off := i * 0x1000 + o
      let v := match shadowOf s off with
        | some (q, w) => if q = p ∧ r.rws ≠ 0 then w else s.rg (keyFor p off)
        | none => s.rg (keyFor p off)
      (v &&& ~~~(w32 r.wo)).toNat

/-- A word that panel p's held snapshot captured (R36). -/
def heldWord (s : State) (p off : Nat) : Option Word :=
  match (seamOf s p).held with
  | some l => (l.find? (·.1 == off)).map (·.2)
  | none => none

/-- A 32-bit read of the register at distance `off` from 0x6000_0000 by initiator `i` (R18, R26, R36, R410): none, DECODE, for a page
that R21 does not assign. -/
def regRead (i : Initiator) (off : Nat) (s : State) : State × Rsp × Word :=
  match pageOf (off / 0x1000) with
  | none => (s, .decode, 0)
  | some k =>
    let p := panelFor s i
    match heldWord s p off with
    | some w => (s, .okay, w)
    | none =>
      if off = Reg.TIM_NOW then
        let r := readNowLow i s
        (r.1, .okay, r.2)
      else if off = Reg.TIM_NOW + 4 then (s, .okay, readNowHigh i s)
      else
        let v := w32 (regValue k (off / 0x1000) p (off % 0x1000) s)
        (if off = Reg.MEM_DRAM_LOAD then s.bump else s, .okay, v)

/-- The words of a snapshot captured for panel p (R36): live values, as the panel reads them, of the registers its request selected. -/
def captureWords (l : List Nat) (s : State) (p : Nat) : List (Nat × Word) :=
  l.map fun off =>
    match pageOf (off / 0x1000) with
    | some k => (off, w32 (regValue k (off / 0x1000) p (off % 0x1000) s))
    | none => (off, 0)

/-- Snapshot requests whose tick has come (R36): CODE taken, WORDS, TIME, and the words held. -/
def snapDue (s : State) (p : Nat) : State :=
  match (seamOf s p).snapReq with
  | some q =>
    if q.target ≤ s.now then
      let l := captureWords q.words s p
      let s := (snapCode p 1 s).wf (sb p Reg.SEAM_SNAP_STATUS) 0 10 l.length
      let s := s.wrg64 (sb p Reg.SEAM_SNAP_TIME) s.now
      irqSeam p 2 (setSeam p { seamOf s p with snapReq := none, held := some l } s)
    else s
  | none => s

/-- The captures that are due, after the commits that are due at the same tick (R36). -/
def snapTick (s : State) : State :=
  let due := allPanels.any fun p => match (seamOf s p).snapReq with | some q => decide (q.target ≤ s.now) | none => false
  if due then allPanels.foldl snapDue (applyTick s) else s

end Sys2Proof.Machine
end

