-- ==== Sys2Proof/Machine/Traps.lean ====
section
/-!
DEFINITION. What every initiator shares: traps of a core (R19, R168, R175, R177), the records of failed accesses (R19, R83, R175),
who can send an access now (R17, R81, R363, R382, R513), and what its sender sees of an access that fails.
-/

namespace Sys2Proof.Machine

/-- The reason code of R175 of a response. -/
def reasonOf : Rsp → Nat
  | .okay | .decode => 0
  | .access => 1
  | .ecc => 2
  | .timeout => 3
  | .isolated => 4

/-! ### Records -/

/-- A window error (R75, R83): recorded once, later ones counted. DESIGN CHOICE (log 65): LOST is not restarted by a record made after VALID
was cleared; the spec names no event that clears it. -/
def noteWinErr (isPort : Bool) (port code core tag addr : Nat) (s : State) : State :=
  let r := Reg.FAB_WIN_ERR
  if s.rb r 31 then s.incSat r 8 4
  else irq 0x0B 2 ((s.wrg r (w32 (2 ^ 31 + b2n isPort * 2 ^ 30 + port * 2 ^ 24 + code * 2 ^ 16 + core * 2 ^ 12 + s.rf r 8 4 * 2 ^ 8 + tag))).wrg64
    Reg.FAB_WIN_ERR_ADDR (addr % 2 ^ 40))

/-- What the sender of an access sees of its failure beside the answer (R19): a core takes the access fault (`kind` 1 load, 2 store), a PCIe
function's posted write is recorded in PNL_ERR and its failed read logged in AER, a window port's request in FAB_WIN_ERR, whose TAG is then a
free value, as the command names none. -/
def failSeen (i : Initiator) (kind addr : Nat) (r : Rsp) (s : State) : State :=
  if r = .okay then s
  else match i with
    | .core c => coreFault c.val kind (reasonOf r) addr s
    | .pcie f => if kind = 2 then noteHostErr f addr r s else aerAbort f.val s
    | .win p => (noteWinErr true p.val r.code 0 (s.freeBelow 32) addr s).bump
    | _ => s

/-! ### The debug unit's rights (R513, R515) -/

/-- Debug is open by the life-cycle state, not by a grant. -/
def dbgOpen (s : State) : Bool := isOpenState s.lcs.st

/-- The panel of the active grant. -/
def dbgPanel (s : State) : Nat := match s.lcs.grant with | some g => g.panel | none => 0

/-- A hart exists for the debugger: any core where debug is open; under a grant the cores of its panel. -/
def hartSeen (s : State) (c : Nat) : Bool :=
  decide (c < 16) && (dbgOpen s || panelFor s (.core (Fin.ofNat 16 c)) == dbgPanel s)

/-- Writes are permitted: debug is open, or the grant has WRITE. -/
def dbgWrites (s : State) : Bool := dbgOpen s || hasScope s 2

/-! ### Who can send -/

/-- Whether an initiator sends accesses now: a started core whose clock runs, a window port of a region that is not isolated (R81) while the
FAB page is enabled (R22) and no port command of its own is still on its way (R311), a host port in a mode in which it works (R382), a session that is open, the debug unit where debug is open or a
grant gives it (R513). -/
def sends (s : State) : Initiator → Bool
  | .core c => coreActive s c.val
  | .win p => !isolated s (16 * p.val) && isEnabled s 0x0B && !portHeld s (16 + p.val)
  | .pcie f => hostsWork s && s.hst.linkUp && !inD3 s f.val
  | .qspi q => qspiOn s q.val
  | .session n => sesRuns s && (slotOf s n.val).st == 2
  | .fitting => fitOn s
  | .debugUnit => dbgOpen s || hasScope s 0
  | .thimble | .bobbin | .memory => true

end Sys2Proof.Machine
end

