-- ==== Sys2Proof/Machine/RegBus.lean ====
section
/-!
DEFINITION. A write on the register bus: the checks of R18, R24, R26 and R29, the header registers (R22 to R24), the
soft reset and the enable of a page, the registers whose write acts, and every other register by its access codes (R9); and
the writes of one cycle in the order of R27.
-/

namespace Sys2Proof.Machine

/-- A state with the response of a write. -/
abbrev Wr := State × Rsp

/-- A write that may be refused with ACCESS. -/
def okIf (r : State × Bool) : Wr := (r.1, if r.2 then .okay else .access)

/-- A write that is refused with ACCESS where a condition holds. -/
def unless' (c : Bool) (s : State) (f : State → State) : Wr := if c then (s, .access) else (f s, .okay)

/-! ### Soft reset and enable (R22, R23) -/

/-- The block registers of page `i`, in every panel's copy, at their reset values, those that `keep` names apart. -/
def resetPage (i : Nat) (keep : Nat → Bool) (s : State) : State :=
  s.resetRegs fun o => decide (o % 0x100000 / 0x1000 = i) && decide (0x40 ≤ o % 0x1000) && !keep o

/-- The block registers of page `i` that a list names at their reset values. -/
def resetOnly (i : Nat) (l : List Nat) (s : State) : State := resetPage i (fun o => !l.contains (o % 0x1000)) s

/-- What a soft reset of the WDG page keeps: the system watchdog's configuration, frozen until HOLD once EN is set (R420), the last reset
(R426), and the panel watchdogs that are locked. -/
def wdgKeep (s : State) (o : Nat) : Bool :=
  (o == Reg.WDG_SYS_CFG && s.rb Reg.WDG_SYS_CFG 31) || o == Reg.WDG_LAST_RESET
    || (o % 0x100000 == Reg.WDG_PANEL_CFG && decide (0x100000 ≤ o) && s.rb o 30)

/-- CTRL.SOFT_RESET of page `i` (R22), with what its chapter excepts. -/
def softReset (k : Page) (i : Nat) (s : State) : State :=
  let s := dropPageStaged i s
  match k with
  | .fab => resetPage i (· == Reg.FAB_BOLT_OFF) s
  | .core => resetPage i (fun o => o % 0x1000 == 0x40 || o % 0x1000 == 0xA0) s
  | .wdg => resetPage i (wdgKeep s) s
  | .bob => resetOnly i [0x40, 0x8C, 0x94, 0x98, 0xD8, 0xDC, 0xE0] s
  | .spl => resetOnly i [0x40, 0x44, 0x60, 0x64, 0x68, 0x6C, 0x70] s
  | .mem => (resetOnly i [0x40, 0x44, 0x48] s).wf Reg.MEM_SCRUB 16 16 0
  | .fls => flsSettle { resetOnly i [0x40, 0x70, 0x8C] (s.wf Reg.FLS_ARB 16 16 0) with fls := { s.fls with stopReset := true } }
  | .que => quePageReset (i - 0x28) (resetPage i (fun _ => false) s)
  | .pin => pinSoftReset (i - 0x30) s
  | .plt =>
    let s := resetPage i (fun _ => false) (pleatStopAll s)
    { s with plt := { s.plt with groups := [], tables := [], published := [], pubBy := [], applied := [] } }
  | .fit => resetPage i (fun _ => false) (fitSoftReset s)
  | .mon => resetOnly i [0x80] s
  | .ovl => ovlSoftReset (resetPage i (fun _ => false) s)
  | .hst => resetPage i (fun _ => false) (qspiCfgWrite 1 (regReset (Reg.HST_QSPI_CFG 1)) (qspiCfgWrite 0 (regReset (Reg.HST_QSPI_CFG 0)) s))
  | _ => resetPage i (fun _ => false) s

/-- The pages whose chapter says that ENABLE reads 1 and ignores writes, while SOFT_RESET acts. -/
def Page.enableFixed : Page → Bool
  | .spl | .mem | .fls | .hst | .mon => true
  | k => k.ctrlFixed

/-- The pads of a PIN page keep the state they have (R341). -/
def padsKept (i : Nat) (s : State) : State := updPins (fun n => 0x30 + n / 40 == i) (fun n p => { p with drv := padDrive s n }) s

/-- What a block does at CTRL.ENABLE = 0. -/
def disable (k : Page) (i : Nat) (s : State) : State :=
  match k with
  | .ses => sesOff s
  | .fit => fitAbortAll s
  | .plt => pleatStopAll s
  | .pin => padsKept i s
  | _ => s

/-- A write of CTRL.ENABLE. -/
def enableWrite (k : Page) (i : Nat) (on : Bool) (s : State) : State :=
  if k.enableFixed then s
  else
    let s := s.wb (i * 0x1000 + 0x0C) 0 on
    if !on then disable k i s else if k = .bob then settle s else s

/-- A write of CTRL. -/
def ctrlWrite (k : Page) (i : Nat) (v : Word) (s : State) : State :=
  if k.ctrlFixed then s
  else
    let s := enableWrite k i (bit v 0) s
    if bit v 1 then softReset k i s else s

/-! ### The header (R22 to R24) -/

/-- A write of a header register of page `i` by panel `p`. -/
def headerWrite (k : Page) (i p o : Nat) (v : Word) (s : State) : State :=
  let raw := keyFor p (irqRaw i)
  match o with
  | 0x0C => ctrlWrite k i v s
  | 0x10 => s.wrg raw (s.rg raw &&& ~~~v)
  | 0x14 => s.wrg (keyFor p (irqEn i)) v
  | 0x1C => s.wrg raw (s.rg raw ||| v)
  | 0x24 => if bit v 0 then s.wb (i * 0x1000 + 0x24) 0 true else s
  | 0x2C => if bit v 31 then s.wb (faultInfo i) 31 false else s
  | _ => s

/-! ### The cores' registers (R172, R177, R185, R186) -/

/-- CORE_RUN.START of core `c` written 1 (R185): a held core of a cluster that is on starts in M-mode at CORE_BOOT_PC; Fitting's
slice on the core is aborted (R524). -/
def coreStart (c : Nat) (s : State) : State :=
  if clusterOff s (c / 4) then s
  else
    let s := fitCore c s
    let k := coreOf s c
    if k.started then s
    else
      let pc := s.rg64 (Reg.CORE_BOOT_PC c) % 2 ^ 40
      setCore c { Core.reset with started := true, ctx := { Ctx.reset with pc := w64 pc }, pmp := k.pmp, icache := k.icache }
        (s.wb (Reg.CORE_RUN c) 0 true)

/-- The instruction cache of core `c` invalidated (R172). -/
def icacheClear (c : Nat) (s : State) : State := setCore c { coreOf s c with icache := [] } s

/-- The bits of CORE_EXT_ENk whose page index is assigned (R188). -/
def extMask (k : Nat) : Word :=
  w32 ((List.range 32).foldl (fun a n => if (pageOf (32 * k + n)).isSome then a + 2 ^ n else a) 0)

/-! ### Registers by their access codes (R9) -/

/-- A register whose write has no behaviour of its own: RW bits take the value, W1C bits clear, W1S bits are set. -/
def plainWrite (r : RegRow) (key : Nat) (v : Word) (s : State) : State :=
  let x := (s.rg key &&& ~~~(w32 r.rw)) ||| (v &&& w32 r.rw)
  s.wrg key ((x &&& ~~~(v &&& w32 r.w1c)) ||| (v &&& w32 r.w1s))

/-- What a staging write of a PNL_OWN register leaves of its word (R359): the fixed bytes read their fixed values, and ASSIGN = 0 for a page
that is always owned leaves the byte as the panel reads it. -/
def ownStaged (p off : Nat) (v : Word) (s : State) : Word :=
  let now := match shadowOf s off with | some (q, w) => if q = p then w else s.rg off | none => s.rg off
  (List.range 4).foldl (fun w j =>
    let i := off - 0x1100 + j
    if ownFixed i (fld v (8 * j) 8) then setFld w (8 * j) 8 (fld now (8 * j) 8) else w) v

/-- A staging write by panel `p` (R28), refused while a commit of the panel waits (R29), or where R384 or R323 does not allow the value. -/
def stageWrite (r : RegRow) (p off : Nat) (v : Word) (s : State) : Wr :=
  let v := v &&& w32 r.rws
  let v := if 0x1100 ≤ off ∧ off < 0x1154 then ownStaged p off v s else v
  let o := off % 0x1000
  if (seamOf s p).commit.isSome then okIf (stage p off v s)
  else if 0x1080 ≤ off ∧ off < 0x10A0 ∧ 368 < fld v 16 9 + fld v 0 9 then (s, .access)
  else if 0x30000 ≤ off ∧ off < 0x3C000 ∧ 0x300 ≤ o ∧ !muxAllowed s (40 * (off / 0x1000 - 0x30) + (o - 0x300) / 4) (fld v 0 3) (fld v 4 3) false then
    (s, .access)
  else okIf (stage p off v s)

/-! ### Registers whose write acts

Each function answers none where the register at offset `o` of the page has no behaviour of its own. -/

/-- A write that always completes. -/
def acts (s : State) : Option Wr := some (s, .okay)

/-- SEAM_COMMIT (R31 to R33, R343) and SEAM_SNAP (R36) of panel `p`. -/
def seamWrite (p o : Nat) (v : Word) (s : State) : Option Wr :=
  if o = 0x40 then
    let full := commitOverfull [p] s && (seamOf s p).commit.isNone
    match fld v 0 2 with
    | 1 => some (unless' full s (commitReq p false))
    | 2 => some (unless' full s (commitReq p true))
    | 3 => acts (discardReq p s)
    | _ => acts s
  else if o = 0x70 then
    match fld v 0 2 with
    | 1 => acts (takeReq p false s)
    | 2 => acts (takeReq p true s)
    | 3 => acts (releaseReq p s)
    | _ => acts s
  else none

/-- PNL_RESET (R362). -/
def pnlWrite (p o : Nat) (v : Word) (s : State) : Option Wr := if o = 0x44 then some (okIf (panelResets p v s)) else none

/-- AON_MODE_REQ (R453); the compare value of AON_WAKE_AT takes effect with its high word. -/
def aonWrite (o : Nat) (v : Word) (s : State) : Option Wr :=
  if o = 0x40 then acts (modeReq (fld v 0 4) s)
  else if o = 0x50 then acts { s with pwr := { s.pwr with aonLow := v } }
  else if o = 0x54 then acts ((s.wrg Reg.AON_WAKE_AT s.pwr.aonLow).wrg (Reg.AON_WAKE_AT + 4) v)
  else none

/-- PWR_CFG (R435) and PWR_BUDGET (R448). -/
def pwrWrite (o : Nat) (v : Word) (s : State) : Option Wr :=
  if o = 0x40 then acts (pwrCfgWrite v s)
  else if o = 0x44 ∧ !(decide (100 ≤ fld v 0 10) && decide (fld v 0 10 ≤ 450)) then some (s, .access)
  else none

/-- CLK_UPDATE, CLK_DLL_EN and the PLL blocks (R390 to R404). -/
def clkWrite (o : Nat) (v : Word) (e : RegEnv) (s : State) : Option Wr :=
  if o = 0x40 then acts (clkUpdate v s)
  else if o = 0x80 then acts (dllEnable v s)
  else if 0x100 ≤ o ∧ o < 0x300 then
    let n := (o - 0x100) / 0x40
    let q := (o - 0x100) % 0x40
    let badLand := e.badLands.getLsbD n
    if q = 0x00 then acts (pllCfgWrite n v badLand s)
    else if q = 0x04 then acts (pllFracWrite n v s)
    else if q = 0x08 then acts (pllCmd n v badLand s)
    else if 0x20 ≤ q ∧ q < 0x30 then acts (pllOutWrite n ((q - 0x20) / 4) v s)
    else if 0x30 ≤ q then acts (pllCeilWrite n ((q - 0x30) / 4) v s)
    else none
  else none

/-- The compare channels (R417, R418). -/
def timWrite (o : Nat) (v : Word) (s : State) : Option Wr :=
  if 0x100 ≤ o ∧ o < 0x500 then
    let k := (o - 0x100) / 0x10
    match (o - 0x100) % 0x10 with
    | 0x0 => acts (cmpLowWrite k v s)
    | 0x4 => acts (cmpHighWrite k v s)
    | 0x8 => acts (cmpPerWrite k v s)
    | 0xC => acts (cmpCtlWrite k v s)
    | _ => none
  else none

/-- The watchdogs (R419, R420, R426). -/
def wdgWrite (i : Initiator) (p o : Nat) (v : Word) (s : State) : Option Wr :=
  if o = 0x40 then
    match i with
    | .core c => acts (wdgKick c.val s)
    | _ => some (s, .access)
  else if o = 0x44 then some (okIf (sysCfgWrite v s))
  else if o = 0x48 then acts (sysKick v s)
  else if o = 0x60 then some (okIf (panelCfgWrite p v s))
  else if o = 0x64 then acts (wdgKick (16 + p) s)
  else if 0x100 ≤ o ∧ o < 0x140 then some (okIf (coreCfgWrite ((o - 0x100) / 4) v s))
  else none

/-- FAB_BOLT_OFF (R83): the bolts whose bit is new. -/
def fabWrite (o : Nat) (v : Word) (s : State) : Option Wr :=
  if o = 0x60 then
    acts ((bitsOf 8 v.toNat).foldl (fun s b => if s.rb Reg.FAB_BOLT_OFF b then s else boltOff b s) s)
  else none

/-- The registers of core `c` whose write acts. -/
def coreWrite (c o : Nat) (v : Word) (s : State) : Option Wr :=
  if o = 0x40 then acts (if bit v 0 then coreStart c s else s)
  else if 0x60 ≤ o ∧ o < 0x70 then acts (s.wrg (Reg.CORE_RUN c + (o - 0x40)) (v &&& extMask ((o - 0x60) / 4)))
  else if o = 0x94 then acts (if bit v 0 then icacheClear c s else s)
  else if o = 0xA0 then acts (if c % 4 = 0 ∧ bit v 0 then clusterOffSet (c / 4) s else s)
  else none

/-- BOB_TCMD, BOB_MAKE_READY, BOB_CANCEL, BOB_OBJ_CMD (R221) and BOB_BIND (R247). -/
def bobWrite (o : Nat) (v : Word) (e : RegEnv) (s : State) : Option Wr :=
  let req := fun (r : BobReq) => fun s => fitReady (bobCycle (r :: e.bob) s)
  if o = 0x44 then
    some (unless' (bobClosed s || bobBusy s) s (req (.tcmd v e.ecc)))
  else if o = 0x60 then some (unless' (bobClosed s) s (req (.makeReady v)))
  else if o = 0x64 then some (unless' (bobClosed s) s (req (.cancel v)))
  else if o = 0xA0 then some (unless' (bobClosed s || bobBusy s) s (req (.objCmd v)))
  else if o = 0xC8 then some (unless' (bobClosed s) s (bindHold v))
  else if o = 0xCC then some (if bobClosed s then (s, .access) else okIf (bindWrite v (fitReady (bobCycle e.bob s))))
  else none

/-- SPL_SAVE_BASE while the state is saved (R248). -/
def splWrite (o : Nat) (s : State) : Option Wr := if (o = 0x48 ∨ o = 0x4C) ∧ s.bob.isSaved then some (s, .access) else none

/-- The flash queue, suspends and refresh holds (R271, R277, R290). -/
def flsWrite (o : Nat) (v : Word) (s : State) : Option Wr :=
  if (o = 0x48 ∨ o = 0x4C ∨ o = 0x50) ∧ s.rb Reg.FLS_DQ_CTRL 31 then some (s, .access)
  else if o = 0x5C then
    match fld v 0 2 with
    | 1 => acts (s.wb Reg.FLS_DQ_CTRL 31 true)
    | 2 => acts (s.wb Reg.FLS_DQ_CTRL 31 false)
    | _ => acts s
  else if o = 0x64 then acts (flashSuspend v s)
  else if o = 0x88 then acts (holdWrite v s)
  else none

/-- QUE_CFG, QUE_THRESH and QUE_CMD of a queue (R318); writes of a queue joined to its partner have no effect (R295). -/
def queWrite (pg o : Nat) (v : Word) (s : State) : Option Wr :=
  if 0x100 ≤ o ∧ o < 0x500 then
    let q := 16 * pg + (o - 0x100) / 0x40
    if joined s q then acts s
    else match (o - 0x100) % 0x40 with
    | 0x00 => some (okIf (queCfgWrite q v s))
    | 0x04 => acts (threshWrite q v s)
    | 0x10 => acts (queCmd q v (fitQueue q s))
    | _ => none
  else none

/-- The registers of a PIN page whose write acts (R323, R326, R328, R339). -/
def pinWrite (b o : Nat) (v : Word) (s : State) : Option Wr :=
  if o = 0x50 ∨ o = 0x54 then acts (outSet b (o == 0x54) v s)
  else if o = 0x58 ∨ o = 0x5C then acts (outClr b (o == 0x5C) v s)
  else if o = 0x68 ∨ o = 0x6C then acts (latchClear b (o == 0x6C) v s)
  else if o = 0x84 ∧ b ≠ 0 then acts s
  else if o = 0x88 then acts (if bit v 0 then railRetry b s else s)
  else if 0x100 ≤ o ∧ o < 0x1A0 then some (okIf (writeMux (40 * b + (o - 0x100) / 4) v s))
  else if 0x200 ≤ o ∧ o < 0x2A0 then some (okIf (writeCfg (40 * b + (o - 0x200) / 4) v s))
  else none

/-- PLT_TTE_ARM: every channel named is armed, or none. -/
def tteArmAll (v : Word) (s : State) : Wr :=
  let r := (bitsOf 16 v.toNat).foldl (fun (a : State × Bool) k => if a.2 then tteArm k a.1 else a) (s, true)
  if r.2 then (r.1, .okay) else (s, .access)

/-- The registers of the PLT page whose write acts (R347, R352, R355). -/
def pltWrite (o : Nat) (v : Word) (s : State) : Option Wr :=
  if o = 0x40 then some (tteArmAll v s)
  else if o = 0x44 then acts ((bitsOf 16 v.toNat).foldl (fun s k => tteCancel k s) s)
  else if 0x100 ≤ o ∧ o < 0x300 then
    let g := (o - 0x100) / 0x40
    let q := (o - 0x100) % 0x40
    if q = 0x18 then some (okIf (groupCmd g v s))
    else if (q = 0x00 ∨ q = 0x04 ∨ q = 0x08 ∨ q = 0x10 ∨ q = 0x14) ∧ groupBusy s g then some (s, .access)
    else if q = 0x04 ∧ !(decide (50 ≤ fld v 0 22) && decide (fld v 0 22 ≤ 4000000)) then some (s, .access)
    else none
  else if 0x300 ≤ o ∧ o < 0x400 then
    let k := (o - 0x300) / 0x10
    let q := (o - 0x300) % 0x10
    if s.rb Reg.PLT_TTE_ARM k then some (s, .access)
    else if q = 0x08 ∧ (fld v 16 2 = 3 ∨ 479 < fld v 0 9) then some (s, .access)
    else none
  else none

/-- A source HST_VECf_v may name (R385): an assigned page, a frame in MBX_OUT (0x7E), MBX_IN free (0x7F). -/
def vecSourceOk (n : Nat) : Bool := (pageOf n).isSome || n == 0x7E || n == 0x7F

/-- HST_QSPI_CFGn (R376) and HST_VECf_v (R370). -/
def hstWrite (o : Nat) (v : Word) (s : State) : Option Wr :=
  if o = 0x50 ∨ o = 0x54 then acts (qspiCfgWrite ((o - 0x50) / 4) v s)
  else if 0x400 ≤ o ∧ o < 0x800 then
    some (unless' (!vecSourceOk (fld v 0 7)) s (vecWrite ((o - 0x400) / 0x100) ((o - 0x400) % 0x100 / 4) v))
  else none

/-- The commands of the SES page (R479, R487, R488, R490). -/
def sesWrite (o : Nat) (v : Word) (e : RegEnv) (s : State) : Option Wr :=
  if o = 0x44 then acts (enrolCmd v e.storeBad s)
  else if o = 0x60 then acts (freeCell (fld v 0 10) (bit v 16) s)
  else if o = 0x70 then acts (txCmd v s)
  else if o = 0x78 then acts (closeWith (fld v 0 10) 0xB s)
  else none

/-- LCS_CMD and the token buffer (R519). -/
def lcsWrite (o : Nat) (v : Word) (e : RegEnv) (s : State) : Option Wr :=
  if o = 0x60 then acts (lcsCmd v e.steps e.otpMask e.otpBad e.meets s)
  else if 0x80 ≤ o ∧ o < 0xA0 then
    acts { s with lcs := { s.lcs with tokenBuf := sset (fun _ => 0) s.lcs.tokenBuf ((o - 0x80) / 4) v } }
  else none

/-- The idle window and FIT_CMD (R527, R532). -/
def fitWrite (o : Nat) (v : Word) (s : State) : Option Wr :=
  if (o = 0x50 ∨ o = 0x54) ∧ s.rb Reg.FIT_WINDOW_LEN 31 then some (s, .access)
  else if o = 0x58 then acts (windowWrite v s)
  else if o = 0x60 then acts (fitCmd v s)
  else none

/-- A write to the block register at offset `o` of page `i`, kind `k`, by panel `p`, where it acts. -/
def blockWrite (i : Initiator) (k : Page) (pg p o : Nat) (v : Word) (e : RegEnv) (s : State) : Option Wr :=
  match k with
  | .seam => seamWrite p o v s
  | .pnl => pnlWrite p o v s
  | .aon => aonWrite o v s
  | .pwr => pwrWrite o v s
  | .clk => clkWrite o v e s
  | .tim => timWrite o v s
  | .wdg => wdgWrite i p o v s
  | .pat => if o = 0x40 then acts (patCmd p v e.cellFails s) else none
  | .bas => if o = 0x40 then acts (basCmd v s) else none
  | .ovl => if o = 0xA0 then acts (injectUpset v s) else none
  | .fab => fabWrite o v s
  | .core => coreWrite (pg - 0x10) o v s
  | .bob => bobWrite o v e s
  | .spl => splWrite o s
  | .mem => none
  | .fls => flsWrite o v s
  | .que => queWrite (pg - 0x28) o v s
  | .pin => pinWrite (pg - 0x30) o v s
  | .plt => pltWrite o v s
  | .hst => hstWrite o v s
  | .ses => sesWrite o v e s
  | .thm => if o = 0x60 then acts (thmCmd v e.otpBad e.contested s) else none
  | .lcs => lcsWrite o v e s
  | .fit => fitWrite o v s
  | .mon => if o = 0x80 ∧ !threshOk v then some (s, .access) else none
  | .flt => if o = 0x44 then acts (fltAck v s) else none

/-! ### The checks -/

/-- The internal initiators, to which ownership does not apply (R17). -/
def ownerExempt : Initiator → Bool
  | .fitting | .thimble => true
  | _ => false

/-- The initiators that reach register pages at all (R17). -/
def reachesPages : Initiator → Bool
  | .bobbin | .memory => false
  | _ => true

/-- Under a grant the debug unit writes the register pages its panel owns, and no other (R513). -/
def debugLets (i : Initiator) (off : Nat) (s : State) : Bool :=
  match i with
  | .debugUnit => dbgOpen s || (hasScope s 0 && hasScope s 2 && ownerOf s (off / 0x1000) == some (dbgPanel s))
  | _ => true

/-- A register every panel writes in its own copy, or for itself: the SEAM page (unassigned), the banked registers of the PNL
page (R384), the panel watchdogs (R426), and the kick of a core's own watchdog (R419). -/
def selfRegister (off : Nat) : Bool :=
  (decide (0x1040 ≤ off) && decide (off < 0x1060)) || (decide (0x6060 ≤ off) && decide (off < 0x6070)) || off == Reg.WDG_CORE_KICK

/-- Whether ownership lets an initiator write a register (R26). -/
def ownerLets (i : Initiator) (off : Nat) (s : State) : Bool :=
  debugLets i off s && (ownerExempt i || selfRegister off
    || (match ownerOf s (off / 0x1000) with | none => true | some q => q == panelFor s i))

/-- A field that LOCK freezes (R22, R24). -/
def freezes (k : Page) (o : Nat) : Bool :=
  o == 0x0C || (match rowAt k o with | none => false | some r => r.rw + r.rws + r.w1s + r.wo != 0)

/-- A block register by its own behaviour, by staging, or by its access codes. -/
def blockReg (i : Initiator) (k : Page) (off : Nat) (v : Word) (e : RegEnv) (s : State) : Wr :=
  let p := panelFor s i
  let o := off % 0x1000
  match blockWrite i k (off / 0x1000) p o v e s with
  | some r => r
  | none => match rowAt k o with
    | none => (s, .okay)
    | some r => if r.rws ≠ 0 then stageWrite r p off v s else (plainWrite r (keyFor p off) v s, .okay)

/-- A 32-bit write at distance `off` from 0x6000_0000 by an initiator (R18, R24, R26, R29). DESIGN CHOICE (log 66): a write that ownership
or LOCK bars at an offset that holds no register completes with ACCESS, although R18 ignores writes there; a staging write of a locked page by a panel
whose commit waits is judged by LOCK (R24), so that it sets no REFUSED (R29). -/
def regWrite (i : Initiator) (off : Nat) (v : Word) (e : RegEnv) (s : State) : Wr :=
  match pageOf (off / 0x1000) with
  | none => (s, .decode)
  | some k =>
    if !reachesPages i then (s, .decode)
    else if !ownerLets i off s ∨ (isLocked s (off / 0x1000) ∧ freezes k (off % 0x1000)) then (s, .access)
    else
      let r : Wr :=
        if off % 0x1000 < 0x40 then (headerWrite k (off / 0x1000) (panelFor s i) (off % 0x1000) v s, .okay)
        else blockReg i k off v e s
      (hstScan r.1, r.2)

/-! ### The writes of one cycle (R27, R35) -/

/-- The place of an initiator among those of its panel (R27). DESIGN CHOICE (log 2): sessions, Fitting, Thimble and the debug unit, which R27 does
not name, come after those it names. -/
def initRank : Initiator → Nat
  | .core c => c.val
  | .win p => 16 + p.val
  | .pcie f => 24 + f.val
  | .qspi q => 28 + q.val
  | _ => 30

/-- The place of a write in the cycle, from a base. -/
def busKey (s : State) (base : Nat) (w : BusWrite) : Nat := (panelFor s w.init + 8 - base) % 8 * 64 + initRank w.init

/-- A write at its place. -/
def insBus (key : BusWrite → Nat) (w : BusWrite) : List BusWrite → List BusWrite
  | [] => [w]
  | a :: l => if key w < key a then w :: a :: l else a :: insBus key w l

/-- A SEAM request: a write of SEAM_COMMIT or SEAM_SNAP with an operation. -/
def isSeamReq (w : BusWrite) : Bool := (w.addr == 0x60000040 || w.addr == 0x60000070) && fld w.value 0 2 != 0

/-- Two writes of different initiators meet: they name one register, or both are SEAM requests, of different panels (R27, R35). -/
def busMeet (s : State) (w x : BusWrite) : Bool :=
  let key := fun (y : BusWrite) => keyFor (panelFor s y.init) (y.addr - 0x60000000)
  w.init != x.init && ((w.addr == x.addr && key w == key x) || (isSeamReq w && isSeamReq x && panelFor s w.init != panelFor s x.init))

/-- The first write of the cycle, in its order, that meets another: the winner, where the cycle is contested. -/
def busWinner (s : State) (l : List BusWrite) : Option BusWrite := l.find? fun w => l.any (busMeet s w)

/-- The other writes of the cycle: those of other initiators that can send now. -/
def busRivals (a : Acc) (s : State) : List BusWrite := a.others.filter fun w => w.init != a.init && sends s w.init

/-- A write of the cycle at its register (R7, R18, R363). -/
def busServe (w : BusWrite) (e : RegEnv) (s : State) : Wr :=
  if hostBarred s w.init then (s, .access)
  else if w.addr < 0x60000000 ∨ 0x60100000 ≤ w.addr then (s, .decode)
  else if w.addr % 4 ≠ 0 then (s, .access)
  else regWrite w.init (w.addr - 0x60000000) w.value e s

/-- One write of the cycle, in its turn. The answer kept is that to the command's own; the sender of another sees its failure (R19). -/
def busOne (a : Acc) (off : Nat) (v : Word) (x : State × Rsp) (w : BusWrite) : State × Rsp :=
  if w.init = a.init then regWrite a.init off v a.env x.1
  else
    (onWay w.init 2 w.addr 4 (fun s => let t := busServe w .calm s
                                       (failSeen w.init 2 w.addr t.2 t.1).heard w.init t.2 []) x.1, x.2)

/-- The writes of one cycle, the command's own first in the list, applied in the order of R27; the answer is the response to the
command's own. -/
def busCycle (a : Acc) (off : Nat) (v : Word) (s : State) : State :=
  let own : BusWrite := ⟨a.init, 0x60000000 + off, v⟩
  let all := own :: busRivals a s
  let key := busKey s (s.rf Reg.SEAM_ARB 4 3)
  let l := all.foldl (fun l w => insBus key w l) []
  let s := match busWinner s (l.filter fun w => !pmpBars s w.init 2 w.addr 4) with | some w => contestSeam (panelFor s w.init) s | none => s
  let r := l.foldl (busOne a off v) (if l.length ≤ 1 then s else s.meeting, Rsp.okay)
  r.1.answer r.2

end Sys2Proof.Machine
end

