-- ==== Sys2Proof/Machine/Access.lean ====
section
/-!
DEFINITION. The physical address space (R17 to R19) as an initiator reaches it: the region of an address, whether it serves the initiator,
and plain reads and writes of memory, register pages and queue ports.
-/

namespace Sys2Proof.Machine

/-- The regions of R17. -/
inductive Zone where
  | flash | option | rom | tcm (core : Nat) (isData : Bool) | sram | window (port : Nat) | page (off : Nat)
  | door (core off : Nat) | queue (q off : Nat) | store | dram | hole
  deriving DecidableEq, Repr

/-- A core's own TCM as the global alias of the same memory; other addresses as they are. -/
def physFor : Initiator → Nat → Nat
  | .core c, a => if 0x10000000 ≤ a ∧ a < 0x10040000 then 0x11000000 + c.val * 0x40000 + (a - 0x10000000) else a
  | _, a => a

/-- The region of an address. -/
def zoneOf (a : Nat) : Zone :=
  if a < 0x04000000 then .flash
  else if a < 0x04004000 then .option
  else if 0x08000000 ≤ a ∧ a < 0x08008000 then .rom
  else if 0x11000000 ≤ a ∧ a < 0x11400000 then .tcm ((a - 0x11000000) / 0x40000) (decide (0x20000 ≤ (a - 0x11000000) % 0x40000))
  else if inSram a then .sram
  else if 0x40000000 ≤ a ∧ a < 0x50000000 then .window ((a - 0x40000000) / 0x02000000)
  else if 0x60000000 ≤ a ∧ a < 0x60100000 then .page (a - 0x60000000)
  else if 0x60100000 ≤ a ∧ a < 0x60110000 then .door ((a - 0x60100000) / 0x1000) (a % 0x1000)
  else if 0x70000000 ≤ a ∧ a < 0x70040000 then .queue ((a - 0x70000000) / 0x1000) (a % 0x1000)
  else if 0x80000000 ≤ a ∧ a < 0x89000000 then .store
  else if inDramUser a then .dram
  else .hole

/-- Whether a region is only read. -/
def Zone.readOnly : Zone → Bool
  | .flash | .option | .rom | .store => true
  | _ => false

/-- Whether R17 lists an initiator for a region. `machine`: a core access with machine-mode privilege. A PCIe function reaches the DRAM user
region through BAR4; a quad-SPI port reaches memory only as the recovery port in the SAFE of R118. Internal initiators reach what their
chapters name: Fitting those it tests (R521) and, in class 5 of R256, the DRAM; Thimble the sources of images and firmware; the debug unit what R513
lets it read. -/
def listed (s : State) (i : Initiator) (z : Zone) (machine : Bool) : Bool :=
  match i with
  | .core c => match z with
    | .door k _ => k == c.val
    | .store => machine
    | .hole => false
    | _ => true
  | .win _ => match z with
    | .flash | .sram | .page _ | .queue _ _ | .dram => true
    | _ => false
  | .pcie _ => match z with
    | .page _ | .queue _ _ | .dram => true
    | _ => false
  | .session _ => match z with
    | .page _ | .queue _ _ => true
    | _ => false
  | .qspi _ => match z with
    | .page _ | .queue _ _ => true
    | .sram | .dram => s.mode == .safe && s.pat.recovery && isRecoveryPort s i
    | _ => false
  | .fitting => match z with
    | .flash | .tcm _ _ | .sram | .page _ | .queue _ _ | .dram => true
    | _ => false
  | .thimble => match z with
    | .flash | .sram | .page _ | .dram => true
    | _ => false
  | .debugUnit => match z with
    | .hole | .window _ | .door _ _ => false
    | _ => dbgOpen s || hasScope s 0
  | .bobbin => match z with
    | .sram | .dram | .store => true
    | _ => false
  | .memory => match z with
    | .dram | .store => true
    | _ => false

/-- Whether an initiator may write a region it reaches: the context store, the FP pool and the Spool are written by Bobbin and the memory system
(R17), which reach no other region that R17 makes read-only; Thimble and Fitting only read the DRAM (R255), and under a grant the debug unit writes
the DTCM of its panel's cores and register pages only (R513). -/
def writes (s : State) (i : Initiator) (z : Zone) : Bool :=
  match i with
  | .bobbin | .memory => true
  | .thimble | .fitting => !z.readOnly && (match z with | .dram => false | _ => true)
  | .debugUnit => !z.readOnly && (dbgOpen s || (hasScope s 2 && (match z with
      | .tcm k isData => isData && hartSeen s k
      | .page _ => true
      | _ => false)))
  | _ => !z.readOnly

/-- Whether an access is served at all (R17, R18). -/
def servedAt (s : State) (i : Initiator) (z : Zone) (isWrite machine : Bool) : Bool :=
  listed s i z machine && (!isWrite || writes s i z)

/-! ### Memory -/

/-- The number in `n` bytes of a busy location of flash (R268): every 32-bit word holds the status word. -/
def busyBytes (s : State) (a n : Nat) : Nat :=
  let w := (busyWord s a).toNat
  leNat ((List.range n).map fun i => BitVec.ofNat 8 (nfld w (8 * ((a + i) % 4)) 8))

/-- A data read that the prefetch lines and the branch cache serve whole (R269). -/
def flashLines (a n : Nat) (s : State) : Option State :=
  (List.range ((a + n - 1) / 32 - a / 32 + 1)).foldl (fun o k => o.bind (flashHit (a / 32 + k))) (some s)

/-- A read of flash or of the option area (R266, R268, R270). -/
def flashGet (a n : Nat) (e : Ecc) (s : State) : State × Rsp × Nat :=
  let s := if a < 0x04000000 then fitFlash (bankAt a) s else s
  if flashBusy s a then (s.bump, .okay, busyBytes s a n)
  else
    let h := if a < 0x04000000 then flashLines a n s else none
    let r := flashCheck a n (if h.isSome then .none else e) (h.getD s)
    if r.2 then (r.1, .okay, readLe s a n) else (r.1, .ecc, 0)

/-- The check bits of a word of core `c`'s TCM (R171): whether the word is delivered. -/
def tcmCheck (c a n : Nat) (e : Ecc) (s : State) : State × Bool :=
  let ue := fun (s : State) => raise ((0x10 + c) * 0x100 + 1) (irq (0x10 + c) 1 (s.incSat (Reg.CORE_ECC c) 8 8))
  if s.ram.bad.any fun w => (wordsOf a n).contains w then (ue s, false)
  else match e with
    | .none => (s, true)
    | .single _ => (irq (0x10 + c) 0 (s.incSat (Reg.CORE_ECC c) 16 16), true)
    | .double => (ue (markBad (a / 8) s), false)

/-- A TCM access by an initiator that is not its core: the cluster must be on (R186), and Fitting's slice gives way (R524). -/
def tcmReach (i : Initiator) (c : Nat) (s : State) : State × Bool :=
  let own : Bool := match i with | .core k => k.val == c | _ => false
  if own then (s, true) else if clusterOff s (c / 4) then (s, false) else (fitTcm c s, true)

/-- The 32 bytes of a Spool entry (R237). -/
def entryBytes (e : Entry) : List Byte :=
  natLe e.thread 4 ++ natLe e.level 1 ++ natLe e.origin 1 ++ natLe e.aff 2 ++ natLe e.seq 4 ++ natLe 0 4 ++ natLe e.time 8 ++ natLe 0 8

/-- A byte of the context store (R190, R191), the FP pool (R193) or the Spool (R233, R237), which only Bobbin writes. -/
def storeByte (s : State) (a : Nat) : Byte :=
  let o := a - 0x80000000
  if o < 0x06000000 then (recBytes (sget (fun _ => Thread.reset) s.bob.saved (o / 384))).getD (o % 384) 0
  else if o < 0x07000000 then
    let p := o - 0x06000000
    BitVec.ofNat 8 (nfld (sget (fun _ => 0) s.bob.fpool (p / 8)).toNat (8 * (p % 8)) 8)
  else
    let p := o - 0x07000000
    (entryBytes (sget (fun _ => noEntry) s.bob.slots (p / 32))).getD (p % 32) 0

/-- A read of `n` bytes of memory in a region, at a physical address. -/
def memGet (i : Initiator) (z : Zone) (a n : Nat) (e : Ecc) (s : State) : State × Rsp × Nat :=
  match z with
  | .flash | .option => flashGet a n e s
  | .rom => (s, .okay, leNat ((List.range n).map fun k => Config.bootRom (a - 0x08000000 + k)))
  | .tcm c _ =>
    let r := tcmReach i c s
    if !r.2 then (s, .isolated, 0)
    else
      let q := tcmCheck c a n e r.1
      if q.2 then (q.1, .okay, readLe s a n) else (q.1, .ecc, 0)
  | .store =>
    let q := memCheck (sourceCode i) a n e (memTouch a n s)
    if q.2 then (q.1, .okay, leNat ((List.range n).map fun k => storeByte q.1 (a + k))) else (q.1, .ecc, 0)
  | .sram | .dram =>
    let s := memTouch a n s
    let q := memCheck (sourceCode i) a n e s
    if q.2 then (q.1, .okay, readLe s a n) else (q.1, .ecc, 0)
  | _ => (s, .decode, 0)

/-- A write of bytes of memory in a region, at a physical address. DEDUCED (log 106): what Bobbin writes to the context store, the FP pool and the Spool
is what its records hold, so that a write there has the memory's own effects and leaves their content as Bobbin's operations give it. -/
def memPut (i : Initiator) (z : Zone) (a : Nat) (l : List Byte) (s : State) : State × Rsp :=
  match z with
  | .tcm c _ =>
    let r := tcmReach i c s
    if r.2 then (putBy (ownCore i) a l r.1, .okay) else (s, .isolated)
  | .sram | .dram => (putBy (ownCore i) a l s, .okay)
  | .store => (mendBad a l.length (memTouch a l.length s), .okay)
  | _ => (s, .decode)

/-! ### Register pages and queue ports -/

/-- A read of a register page (R7): one aligned 32-bit word. -/
def pageGet (i : Initiator) (off n : Nat) (s : State) : State × Rsp × Nat :=
  match pageOf (off / 0x1000) with
  | none => (s, .decode, 0)
  | some _ =>
    if n ≠ 4 ∨ off % 4 ≠ 0 then (s, .access, 0)
    else
      let r := regRead i off s
      (r.1, r.2.1, r.2.2.toNat)

/-- A write of a register page. -/
def pagePut (a : Acc) (off n : Nat) (v : Nat) (s : State) : State × Rsp :=
  match pageOf (off / 0x1000) with
  | none => (s, .decode)
  | some _ =>
    if n ≠ 4 ∨ off % 4 ≠ 0 then (s, .access)
    else
      let t := busCycle a off (w32 v) s
      (t, t.ans.rsp)

/-- The other requesters of the SYS class that push to, or pop from, a queue in the cycle. -/
def queRivals (i : Initiator) (q off : Nat) (rw : Rw) (b : BeatEnv) (s : State) : List (Initiator × DWord) :=
  b.rivals.filter fun w => w.1 != i && (queClass w.1).any (·.1 == 0) && sends s w.1 && queMoves s w.1 (panelFor s w.1) q off rw

/-- A beat among those of its cycle, by the rotated order. -/
def insBeat (s : State) (q : Nat) (x : Initiator × DWord) : List (Initiator × DWord) → List (Initiator × DWord)
  | [] => [x]
  | y :: l => if queKey s q x.1 < queKey s q y.1 then x :: y :: l else if x.1 == y.1 then y :: l else y :: insBeat s q x l

/-- A beat in its turn; what another than the command's own receives is that requester's (R19, R305). -/
def queTurn (own : Initiator) (panel q off : Nat) (rw : Rw) (b : BeatEnv) (x : State × Rsp × DWord) (w : Initiator × DWord) : State × Rsp × DWord :=
  if w.1 = own then queBeat own panel q off rw w.2 b.lag b.ecc x.1
  else
    let r := queBeat w.1 (panelFor x.1 w.1) q off rw w.2 b.lag .none x.1
    let s := failSeen w.1 (if rw == .write then 2 else 1) (0x70000000 + 0x1000 * q + off) r.2.1 r.1
    (s.heard w.1 r.2.1 (if rw == .read then [r.2.2] else []), x.2)

/-- A beat at a queue's data port with those that contest it (R305), served in ascending index from the page's base. -/
def queCycle (i : Initiator) (panel q off : Nat) (rw : Rw) (v : DWord) (b : BeatEnv) (s : State) : State × Rsp × DWord :=
  let l := queRivals i q off rw b s
  if l.isEmpty || !(queClass i).any (·.1 == 0) || !queMoves s i panel q off rw then queBeat i panel q off rw v b.lag b.ecc s
  else
    let order := ((i, v) :: l).foldl (fun o x => insBeat s q x o) []
    order.foldl (queTurn i panel q off rw b) (noteQueArb q (rw == .read) (order.map (·.1)) s.meeting, .okay, 0)

/-- One beat at a queue's data port (R303). -/
def queGet (i : Initiator) (panel q off n : Nat) (b : BeatEnv) (s : State) : State × Rsp × Nat :=
  if n ≠ 8 ∨ off % 8 ≠ 0 then (s, .access, 0)
  else
    let r := queCycle i panel q off .read 0 b s
    (r.1, r.2.1, r.2.2.toNat)
def quePut (i : Initiator) (panel q off n : Nat) (v : Nat) (b : BeatEnv) (s : State) : State × Rsp :=
  if n ≠ 8 ∨ off % 8 ≠ 0 then (s, .access)
  else
    let r := queCycle i panel q off .write (w64 v) b s
    (r.1, r.2.1)

/-- A read of `n` bytes at an address, everywhere but in the fabric window and the doorbell pages. -/
def busGet (i : Initiator) (machine : Bool) (a n : Nat) (b : BeatEnv) (s : State) : State × Rsp × Nat :=
  let z := zoneOf (physFor i a)
  if !servedAt s i z false machine then (s, .decode, 0)
  else match z with
    | .page off => pageGet i off n s
    | .queue q off => queGet i (panelFor s i) q off n b s
    | z => memGet i z (physFor i a) n b.ecc s

/-- A write of `n` bytes at an address, everywhere but in the fabric window and the doorbell pages. -/
def busPut (acc : Acc) (machine : Bool) (a n v : Nat) (b : BeatEnv) (s : State) : State × Rsp :=
  let i := acc.init
  let z := zoneOf (physFor i a)
  if !servedAt s i z true machine then (s, .decode)
  else match z with
    | .page off => pagePut acc off n v s
    | .queue q off => quePut i (panelFor s i) q off n v b s
    | z => memPut i z (physFor i a) (natLe v n) s

end Sys2Proof.Machine
end

