-- ==== Sys2Proof/Machine/Rv.lean ====
section
/-!
DEFINITION. The instructions of a core (R167): RV64IMAFDC with Zicsr, Zifencei, Zba and Zbb, as decoded. The spec names the extensions
and leaves their content to the RISC-V ISA manual; what stands here and in the files about it is PRESUMED from that manual (log 9).
-/

namespace Sys2Proof.Machine

/-- The operations on two integer operands. -/
inductive AluOp where
  | add | sub | sll | slt | sltu | xor | srl | sra | or | and
  | mul | mulh | mulhsu | mulhu | div | divu | rem | remu
  | sh1add | sh2add | sh3add | addUw | sh1addUw | sh2addUw | sh3addUw | slliUw
  | andn | orn | xnor | max | maxu | min | minu | rol | ror
  | clz | ctz | cpop | sextB | sextH | zextH | orcB | rev8
  deriving DecidableEq, Repr

/-- The conditions of a branch. -/
inductive BrOp where
  | eq | ne | lt | ge | ltu | geu
  deriving DecidableEq, Repr

/-- The operations of an AMO. -/
inductive AmoOp where
  | swap | add | xor | and | or | min | max | minu | maxu
  deriving DecidableEq, Repr

/-- What a CSR instruction does with its source: write, set bits, clear bits. -/
inductive CsrOp where
  | rw | rs | rc
  deriving DecidableEq, Repr

/-- The floating-point operations. In a conversion `w` 0 is a signed word, 1 unsigned, 2 a signed double word, 3 unsigned. -/
inductive FpOp where
  | add | sub | mul | div | sqrt | madd | msub | nmsub | nmadd
  | sgnj | sgnjn | sgnjx | min | max | eq | lt | le | classify
  | toInt (w : Fin 4) | ofInt (w : Fin 4) | ofOther | moveToX | moveOfX
  deriving DecidableEq, Repr

/-- A load or store: its width in bytes (1, 2, 4 or 8), for a load whether it is sign-extended, and whether it concerns an F register. -/
structure MemOp where
  isStore : Bool
  bytes : Nat
  signed : Bool
  fp : Bool
  deriving DecidableEq, Repr

/-- A decoded instruction. Immediates are sign-extended to 64 bits. -/
inductive RvInstr where
  | lui (rd : Nat) (imm : BitVec 64)
  | auipc (rd : Nat) (imm : BitVec 64)
  | jal (rd : Nat) (imm : BitVec 64)
  | jalr (rd rs1 : Nat) (imm : BitVec 64)
  | branch (op : BrOp) (rs1 rs2 : Nat) (imm : BitVec 64)
  | mem (op : MemOp) (reg rs1 : Nat) (imm : BitVec 64)
  | alu (op : AluOp) (word : Bool) (rd rs1 rs2 : Nat)
  | aluImm (op : AluOp) (word : Bool) (rd rs1 : Nat) (imm : BitVec 64)
  | fence (pred succ : Nat)
  | fenceI
  | ecall
  | ebreak
  | mret
  | wfi
  | csr (op : CsrOp) (isImm : Bool) (rd src num : Nat)
  | lr (bytes rd rs1 : Nat)
  | sc (bytes rd rs1 rs2 : Nat)
  | amo (op : AmoOp) (bytes rd rs1 rs2 : Nat)
  | fp (op : FpOp) (isDouble : Bool) (rd rs1 rs2 rs3 rm : Nat)
  | illegal
  deriving DecidableEq, Repr

/-! ### 32-bit encodings -/

/-- A field sign-extended to 64 bits. -/
def sext (n v : Nat) : BitVec 64 := (BitVec.ofNat n v).signExtend 64

/-- The immediate of the I, S, B and J formats. -/
def immI (w : Nat) : BitVec 64 := sext 12 (nfld w 20 12)
def immS (w : Nat) : BitVec 64 := sext 12 (nfld w 25 7 * 32 + nfld w 7 5)
def immB (w : Nat) : BitVec 64 :=
  sext 13 (nfld w 31 1 * 4096 + nfld w 7 1 * 2048 + nfld w 25 6 * 32 + nfld w 8 4 * 2)
def immJ (w : Nat) : BitVec 64 :=
  sext 21 (nfld w 31 1 * 0x100000 + nfld w 12 8 * 4096 + nfld w 20 1 * 2048 + nfld w 21 10 * 2)
def immU (w : Nat) : BitVec 64 := sext 32 (nfld w 12 20 * 4096)

/-- OP-IMM (0x13). -/
def decOpImm (w rd rs1 : Nat) : RvInstr :=
  let imm := immI w
  let sh := BitVec.ofNat 64 (nfld w 20 6)
  match nfld w 12 3 with
  | 0 => .aluImm .add false rd rs1 imm
  | 2 => .aluImm .slt false rd rs1 imm
  | 3 => .aluImm .sltu false rd rs1 imm
  | 4 => .aluImm .xor false rd rs1 imm
  | 6 => .aluImm .or false rd rs1 imm
  | 7 => .aluImm .and false rd rs1 imm
  | 1 =>
    if nfld w 26 6 = 0 then .aluImm .sll false rd rs1 sh
    else match nfld w 20 12 with
      | 0x600 => .aluImm .clz false rd rs1 0
      | 0x601 => .aluImm .ctz false rd rs1 0
      | 0x602 => .aluImm .cpop false rd rs1 0
      | 0x604 => .aluImm .sextB false rd rs1 0
      | 0x605 => .aluImm .sextH false rd rs1 0
      | _ => .illegal
  | _ =>
    if nfld w 26 6 = 0 then .aluImm .srl false rd rs1 sh
    else if nfld w 26 6 = 0x10 then .aluImm .sra false rd rs1 sh
    else if nfld w 26 6 = 0x18 then .aluImm .ror false rd rs1 sh
    else match nfld w 20 12 with
      | 0x287 => .aluImm .orcB false rd rs1 0
      | 0x6B8 => .aluImm .rev8 false rd rs1 0
      | _ => .illegal

/-- OP-IMM-32 (0x1B). -/
def decOpImm32 (w rd rs1 : Nat) : RvInstr :=
  let sh := BitVec.ofNat 64 (nfld w 20 5)
  match nfld w 12 3 with
  | 0 => .aluImm .add true rd rs1 (immI w)
  | 1 =>
    if nfld w 25 7 = 0 then .aluImm .sll true rd rs1 sh
    else if nfld w 26 6 = 2 then .aluImm .slliUw false rd rs1 (BitVec.ofNat 64 (nfld w 20 6))
    else match nfld w 20 12 with
      | 0x600 => .aluImm .clz true rd rs1 0
      | 0x601 => .aluImm .ctz true rd rs1 0
      | 0x602 => .aluImm .cpop true rd rs1 0
      | _ => .illegal
  | 5 =>
    if nfld w 25 7 = 0 then .aluImm .srl true rd rs1 sh
    else if nfld w 25 7 = 0x20 then .aluImm .sra true rd rs1 sh
    else if nfld w 25 7 = 0x30 then .aluImm .ror true rd rs1 sh
    else .illegal
  | _ => .illegal

/-- The operation of OP (0x33) with a funct7 and a funct3. -/
def opOf (f7 f3 : Nat) : Option AluOp :=
  match f7, f3 with
  | 0, 0 => some .add | 0, 1 => some .sll | 0, 2 => some .slt | 0, 3 => some .sltu
  | 0, 4 => some .xor | 0, 5 => some .srl | 0, 6 => some .or | 0, 7 => some .and
  | 0x20, 0 => some .sub | 0x20, 5 => some .sra | 0x20, 4 => some .xnor | 0x20, 6 => some .orn | 0x20, 7 => some .andn
  | 1, 0 => some .mul | 1, 1 => some .mulh | 1, 2 => some .mulhsu | 1, 3 => some .mulhu
  | 1, 4 => some .div | 1, 5 => some .divu | 1, 6 => some .rem | 1, 7 => some .remu
  | 0x10, 2 => some .sh1add | 0x10, 4 => some .sh2add | 0x10, 6 => some .sh3add
  | 0x30, 1 => some .rol | 0x30, 5 => some .ror
  | 5, 4 => some .min | 5, 5 => some .minu | 5, 6 => some .max | 5, 7 => some .maxu
  | _, _ => none

/-- The operation of OP-32 (0x3B), and whether it works on words. -/
def opOf32 (f7 f3 rs2 : Nat) : Option (AluOp × Bool) :=
  match f7, f3 with
  | 0, 0 => some (.add, true) | 0, 1 => some (.sll, true) | 0, 5 => some (.srl, true)
  | 0x20, 0 => some (.sub, true) | 0x20, 5 => some (.sra, true)
  | 1, 0 => some (.mul, true) | 1, 4 => some (.div, true) | 1, 5 => some (.divu, true)
  | 1, 6 => some (.rem, true) | 1, 7 => some (.remu, true)
  | 4, 0 => some (.addUw, false)
  | 4, 4 => if rs2 = 0 then some (.zextH, false) else none
  | 0x10, 2 => some (.sh1addUw, false) | 0x10, 4 => some (.sh2addUw, false) | 0x10, 6 => some (.sh3addUw, false)
  | 0x30, 1 => some (.rol, true) | 0x30, 5 => some (.ror, true)
  | _, _ => none

/-- The atomics (0x2F). -/
def decAmo (w rd rs1 rs2 : Nat) : RvInstr :=
  let f3 := nfld w 12 3
  if f3 ≠ 2 ∧ f3 ≠ 3 then .illegal
  else
    let n := 2 ^ f3
    match nfld w 27 5 with
    | 0x02 => if rs2 = 0 then .lr n rd rs1 else .illegal
    | 0x03 => .sc n rd rs1 rs2
    | 0x01 => .amo .swap n rd rs1 rs2
    | 0x00 => .amo .add n rd rs1 rs2
    | 0x04 => .amo .xor n rd rs1 rs2
    | 0x0C => .amo .and n rd rs1 rs2
    | 0x08 => .amo .or n rd rs1 rs2
    | 0x10 => .amo .min n rd rs1 rs2
    | 0x14 => .amo .max n rd rs1 rs2
    | 0x18 => .amo .minu n rd rs1 rs2
    | 0x1C => .amo .maxu n rd rs1 rs2
    | _ => .illegal

/-- SYSTEM (0x73). There is no supervisor level, so SRET and SFENCE.VMA are illegal. -/
def decSystem (w rd rs1 : Nat) : RvInstr :=
  let num := nfld w 20 12
  match nfld w 12 3 with
  | 0 =>
    if w = 0x00000073 then .ecall else if w = 0x00100073 then .ebreak else if w = 0x30200073 then .mret
    else if w = 0x10500073 then .wfi else .illegal
  | 1 => .csr .rw false rd rs1 num
  | 2 => .csr .rs false rd rs1 num
  | 3 => .csr .rc false rd rs1 num
  | 5 => .csr .rw true rd rs1 num
  | 6 => .csr .rs true rd rs1 num
  | 7 => .csr .rc true rd rs1 num
  | _ => .illegal

/-- OP-FP (0x53). -/
def decFp (w rd rs1 rs2 : Nat) : RvInstr :=
  let d := nfld w 25 1 == 1
  let rm := nfld w 12 3
  let f := fun (op : FpOp) => RvInstr.fp op d rd rs1 rs2 0 rm
  if nfld w 26 1 = 1 then .illegal
  else match nfld w 27 5 with
    | 0x00 => f .add
    | 0x01 => f .sub
    | 0x02 => f .mul
    | 0x03 => f .div
    | 0x0B => if rs2 = 0 then f .sqrt else .illegal
    | 0x04 => match rm with | 0 => f .sgnj | 1 => f .sgnjn | 2 => f .sgnjx | _ => .illegal
    | 0x05 => match rm with | 0 => f .min | 1 => f .max | _ => .illegal
    | 0x08 => if rs2 = (if d then 0 else 1) then f .ofOther else .illegal
    | 0x14 => match rm with | 0 => f .le | 1 => f .lt | 2 => f .eq | _ => .illegal
    | 0x18 => if rs2 < 4 then f (.toInt (Fin.ofNat 4 rs2)) else .illegal
    | 0x1A => if rs2 < 4 then f (.ofInt (Fin.ofNat 4 rs2)) else .illegal
    | 0x1C => if rs2 ≠ 0 then .illegal else match rm with | 0 => f .moveToX | 1 => f .classify | _ => .illegal
    | 0x1E => if rs2 = 0 ∧ rm = 0 then f .moveOfX else .illegal
    | _ => .illegal

/-- The fused multiply-adds (0x43, 0x47, 0x4B, 0x4F). -/
def decFma (op : FpOp) (w rd rs1 rs2 : Nat) : RvInstr :=
  if nfld w 26 1 = 1 then .illegal else .fp op (nfld w 25 1 == 1) rd rs1 rs2 (nfld w 27 5) (nfld w 12 3)

/-- A 32-bit instruction. -/
def decode32 (w : Nat) : RvInstr :=
  let rd := nfld w 7 5
  let rs1 := nfld w 15 5
  let rs2 := nfld w 20 5
  let f3 := nfld w 12 3
  match w % 128 with
  | 0x37 => .lui rd (immU w)
  | 0x17 => .auipc rd (immU w)
  | 0x6F => .jal rd (immJ w)
  | 0x67 => if f3 = 0 then .jalr rd rs1 (immI w) else .illegal
  | 0x63 => match f3 with
    | 0 => .branch .eq rs1 rs2 (immB w) | 1 => .branch .ne rs1 rs2 (immB w)
    | 4 => .branch .lt rs1 rs2 (immB w) | 5 => .branch .ge rs1 rs2 (immB w)
    | 6 => .branch .ltu rs1 rs2 (immB w) | 7 => .branch .geu rs1 rs2 (immB w)
    | _ => .illegal
  | 0x03 => if f3 = 7 then .illegal else .mem ⟨false, 2 ^ (f3 % 4), decide (f3 < 4), false⟩ rd rs1 (immI w)
  | 0x23 => if 3 < f3 then .illegal else .mem ⟨true, 2 ^ f3, false, false⟩ rs2 rs1 (immS w)
  | 0x07 => if f3 = 2 ∨ f3 = 3 then .mem ⟨false, 2 ^ f3, false, true⟩ rd rs1 (immI w) else .illegal
  | 0x27 => if f3 = 2 ∨ f3 = 3 then .mem ⟨true, 2 ^ f3, false, true⟩ rs2 rs1 (immS w) else .illegal
  | 0x13 => decOpImm w rd rs1
  | 0x1B => decOpImm32 w rd rs1
  | 0x33 => match opOf (nfld w 25 7) f3 with | some op => .alu op false rd rs1 rs2 | none => .illegal
  | 0x3B => match opOf32 (nfld w 25 7) f3 rs2 with | some (op, b) => .alu op b rd rs1 rs2 | none => .illegal
  | 0x0F => match f3 with | 0 => .fence (nfld w 24 4) (nfld w 20 4) | 1 => .fenceI | _ => .illegal
  | 0x73 => decSystem w rd rs1
  | 0x2F => decAmo w rd rs1 rs2
  | 0x53 => decFp w rd rs1 rs2
  | 0x43 => decFma .madd w rd rs1 rs2
  | 0x47 => decFma .msub w rd rs1 rs2
  | 0x4B => decFma .nmsub w rd rs1 rs2
  | 0x4F => decFma .nmadd w rd rs1 rs2
  | _ => .illegal

/-! ### 16-bit encodings -/

/-- Register x8 to x15 of a 3-bit field. -/
def cReg (h lo : Nat) : Nat := 8 + nfld h lo 3

/-- Bits of a 16-bit instruction gathered into a number: each entry is (lowest bit, length, place). -/
def gather (h : Nat) (l : List (Nat × Nat × Nat)) : Nat := l.foldl (fun a x => a + nfld h x.1 x.2.1 * 2 ^ x.2.2) 0

/-- Unsigned offsets of the compressed loads and stores: words and double words by register, and by the stack pointer. -/
def cOffW (h : Nat) : BitVec 64 := BitVec.ofNat 64 (gather h [(10, 3, 3), (6, 1, 2), (5, 1, 6)])
def cOffD (h : Nat) : BitVec 64 := BitVec.ofNat 64 (gather h [(10, 3, 3), (5, 2, 6)])
def cSpW (h : Nat) : BitVec 64 := BitVec.ofNat 64 (gather h [(12, 1, 5), (4, 3, 2), (2, 2, 6)])
def cSpD (h : Nat) : BitVec 64 := BitVec.ofNat 64 (gather h [(12, 1, 5), (5, 2, 3), (2, 3, 6)])
def cSpSW (h : Nat) : BitVec 64 := BitVec.ofNat 64 (gather h [(9, 4, 2), (7, 2, 6)])
def cSpSD (h : Nat) : BitVec 64 := BitVec.ofNat 64 (gather h [(10, 3, 3), (7, 3, 6)])

/-- The 6-bit signed immediate and the branch and jump offsets. -/
def cImm (h : Nat) : BitVec 64 := sext 6 (gather h [(12, 1, 5), (2, 5, 0)])
def cShamt (h : Nat) : BitVec 64 := BitVec.ofNat 64 (gather h [(12, 1, 5), (2, 5, 0)])
def cBr (h : Nat) : BitVec 64 := sext 9 (gather h [(12, 1, 8), (5, 2, 6), (2, 1, 5), (10, 2, 3), (3, 2, 1)])
def cJmp (h : Nat) : BitVec 64 :=
  sext 12 (gather h [(12, 1, 11), (8, 1, 10), (9, 2, 8), (6, 1, 7), (7, 1, 6), (2, 1, 5), (11, 1, 4), (3, 3, 1)])

/-- Quadrant 0. -/
def decC0 (h : Nat) : RvInstr :=
  let rd := cReg h 2
  let rs1 := cReg h 7
  match nfld h 13 3 with
  | 0 =>
    let n := gather h [(11, 2, 4), (7, 4, 6), (6, 1, 2), (5, 1, 3)]
    if n = 0 then .illegal else .aluImm .add false rd 2 (BitVec.ofNat 64 n)
  | 1 => .mem ⟨false, 8, false, true⟩ rd rs1 (cOffD h)
  | 2 => .mem ⟨false, 4, true, false⟩ rd rs1 (cOffW h)
  | 3 => .mem ⟨false, 8, true, false⟩ rd rs1 (cOffD h)
  | 5 => .mem ⟨true, 8, false, true⟩ rd rs1 (cOffD h)
  | 6 => .mem ⟨true, 4, false, false⟩ rd rs1 (cOffW h)
  | 7 => .mem ⟨true, 8, false, false⟩ rd rs1 (cOffD h)
  | _ => .illegal

/-- Quadrant 1. -/
def decC1 (h : Nat) : RvInstr :=
  let rd := nfld h 7 5
  let r1 := cReg h 7
  let r2 := cReg h 2
  match nfld h 13 3 with
  | 0 => .aluImm .add false rd rd (cImm h)
  | 1 => if rd = 0 then .illegal else .aluImm .add true rd rd (cImm h)
  | 2 => .aluImm .add false rd 0 (cImm h)
  | 3 =>
    if nfld h 12 1 = 0 ∧ nfld h 2 5 = 0 then .illegal
    else if rd = 2 then .aluImm .add false 2 2 (sext 10 (gather h [(12, 1, 9), (3, 2, 7), (5, 1, 6), (2, 1, 5), (6, 1, 4)]))
    else .lui rd (sext 18 (gather h [(12, 1, 17), (2, 5, 12)]))
  | 4 => match nfld h 10 2 with
    | 0 => .aluImm .srl false r1 r1 (cShamt h)
    | 1 => .aluImm .sra false r1 r1 (cShamt h)
    | 2 => .aluImm .and false r1 r1 (cImm h)
    | _ => match nfld h 12 1, nfld h 5 2 with
      | 0, 0 => .alu .sub false r1 r1 r2
      | 0, 1 => .alu .xor false r1 r1 r2
      | 0, 2 => .alu .or false r1 r1 r2
      | 0, _ => .alu .and false r1 r1 r2
      | _, 0 => .alu .sub true r1 r1 r2
      | _, 1 => .alu .add true r1 r1 r2
      | _, _ => .illegal
  | 5 => .jal 0 (cJmp h)
  | 6 => .branch .eq r1 0 (cBr h)
  | _ => .branch .ne r1 0 (cBr h)

/-- Quadrant 2. -/
def decC2 (h : Nat) : RvInstr :=
  let rd := nfld h 7 5
  let rs2 := nfld h 2 5
  match nfld h 13 3 with
  | 0 => .aluImm .sll false rd rd (cShamt h)
  | 1 => .mem ⟨false, 8, false, true⟩ rd 2 (cSpD h)
  | 2 => if rd = 0 then .illegal else .mem ⟨false, 4, true, false⟩ rd 2 (cSpW h)
  | 3 => if rd = 0 then .illegal else .mem ⟨false, 8, true, false⟩ rd 2 (cSpD h)
  | 4 =>
    if nfld h 12 1 = 0 then
      if rs2 ≠ 0 then .alu .add false rd 0 rs2 else if rd = 0 then .illegal else .jalr 0 rd 0
    else if rs2 ≠ 0 then .alu .add false rd rd rs2
    else if rd = 0 then .ebreak else .jalr 1 rd 0
  | 5 => .mem ⟨true, 8, false, true⟩ rs2 2 (cSpSD h)
  | 6 => .mem ⟨true, 4, false, false⟩ rs2 2 (cSpSW h)
  | _ => .mem ⟨true, 8, false, false⟩ rs2 2 (cSpSD h)

/-- A 16-bit instruction. -/
def decode16 (h : Nat) : RvInstr :=
  match h % 4 with
  | 0 => decC0 h
  | 1 => decC1 h
  | _ => decC2 h

/-! ### Integer arithmetic -/

/-- The ones of a value, its leading zeros and its trailing zeros, in `n` bits. -/
def popCount (n v : Nat) : Nat := (List.range n).foldl (fun a i => a + b2n (v.testBit i)) 0
def leadZeros (n v : Nat) : Nat := ((List.range n).reverse.takeWhile fun i => !v.testBit i).length
def trailZeros (n v : Nat) : Nat := ((List.range n).takeWhile fun i => !v.testBit i).length

/-- The bytes of a double word. -/
def bytesOf (v : BitVec 64) : List Nat := (List.range 8).map fun i => nfld v.toNat (8 * i) 8

/-- A double word from its bytes. -/
def ofBytes (l : List Nat) : BitVec 64 := BitVec.ofNat 64 (l.zipIdx.foldl (fun a x => a + x.1 * 2 ^ (8 * x.2)) 0)

/-- A result on double words. -/
def alu64 (op : AluOp) (a b : BitVec 64) : BitVec 64 :=
  let sh := b.toNat % 64
  let uw : BitVec 64 := BitVec.ofNat 64 (a.toNat % 2 ^ 32)
  match op with
  | .add => a + b
  | .sub => a - b
  | .sll => a <<< sh
  | .slt => BitVec.ofNat 64 (b2n (a.slt b))
  | .sltu => BitVec.ofNat 64 (b2n (a.ult b))
  | .xor => a ^^^ b
  | .srl => a >>> sh
  | .sra => a.sshiftRight sh
  | .or => a ||| b
  | .and => a &&& b
  | .mul => a * b
  | .mulh => BitVec.ofInt 64 (a.toInt * b.toInt / 2 ^ 64)
  | .mulhsu => BitVec.ofInt 64 (a.toInt * b.toNat / 2 ^ 64)
  | .mulhu => BitVec.ofNat 64 (a.toNat * b.toNat / 2 ^ 64)
  | .div => if b = 0 then BitVec.allOnes 64 else a.sdiv b
  | .divu => if b = 0 then BitVec.allOnes 64 else a / b
  | .rem => if b = 0 then a else a.srem b
  | .remu => if b = 0 then a else a % b
  | .sh1add => (a <<< 1) + b
  | .sh2add => (a <<< 2) + b
  | .sh3add => (a <<< 3) + b
  | .addUw => uw + b
  | .sh1addUw => (uw <<< 1) + b
  | .sh2addUw => (uw <<< 2) + b
  | .sh3addUw => (uw <<< 3) + b
  | .slliUw => uw <<< sh
  | .andn => a &&& ~~~b
  | .orn => a ||| ~~~b
  | .xnor => ~~~(a ^^^ b)
  | .max => if a.slt b then b else a
  | .maxu => if a.ult b then b else a
  | .min => if a.slt b then a else b
  | .minu => if a.ult b then a else b
  | .rol => a.rotateLeft sh
  | .ror => a.rotateRight sh
  | .clz => BitVec.ofNat 64 (leadZeros 64 a.toNat)
  | .ctz => BitVec.ofNat 64 (trailZeros 64 a.toNat)
  | .cpop => BitVec.ofNat 64 (popCount 64 a.toNat)
  | .sextB => sext 8 a.toNat
  | .sextH => sext 16 a.toNat
  | .zextH => BitVec.ofNat 64 (a.toNat % 2 ^ 16)
  | .orcB => ofBytes ((bytesOf a).map fun b => if b = 0 then 0 else 255)
  | .rev8 => ofBytes (bytesOf a).reverse

/-- A result on words, before its sign extension. -/
def alu32 (op : AluOp) (a b : BitVec 32) : BitVec 32 :=
  let sh := b.toNat % 32
  match op with
  | .add => a + b
  | .sub => a - b
  | .sll => a <<< sh
  | .srl => a >>> sh
  | .sra => a.sshiftRight sh
  | .mul => a * b
  | .div => if b = 0 then BitVec.allOnes 32 else a.sdiv b
  | .divu => if b = 0 then BitVec.allOnes 32 else a / b
  | .rem => if b = 0 then a else a.srem b
  | .remu => if b = 0 then a else a % b
  | .rol => a.rotateLeft sh
  | .ror => a.rotateRight sh
  | .clz => BitVec.ofNat 32 (leadZeros 32 a.toNat)
  | .ctz => BitVec.ofNat 32 (trailZeros 32 a.toNat)
  | .cpop => BitVec.ofNat 32 (popCount 32 a.toNat)
  | _ => 0

/-- A result of an integer operation; one on words is sign-extended. -/
def aluRun (op : AluOp) (word : Bool) (a b : BitVec 64) : BitVec 64 :=
  if word then (alu32 op (a.setWidth 32) (b.setWidth 32)).signExtend 64 else alu64 op a b

/-- Whether a branch is taken. -/
def brTaken (op : BrOp) (a b : BitVec 64) : Bool :=
  match op with
  | .eq => a == b
  | .ne => a != b
  | .lt => a.slt b
  | .ge => !a.slt b
  | .ltu => a.ult b
  | .geu => !a.ult b

/-- The value an AMO of `n` bytes stores: of the old value and the operand, both sign-extended. -/
def amoRun (op : AmoOp) (n : Nat) (old v : BitVec 64) : BitVec 64 :=
  let less : Bool := match op with
    | .minu | .maxu => decide (old.toNat % 2 ^ (8 * n) < v.toNat % 2 ^ (8 * n))
    | _ => old.slt v
  match op with
  | .swap => v
  | .add => old + v
  | .xor => old ^^^ v
  | .and => old &&& v
  | .or => old ||| v
  | .min | .minu => if less then old else v
  | .max | .maxu => if less then v else old

end Sys2Proof.Machine
end

