-- ==== Sys2Proof/Machine/RvFloat.lean ====
section
/-!
DEFINITION. Floating-point arithmetic of the F and D extensions (R167), by IEEE 754-2008: a finite value is an exact number m x 2^e,
each operation is computed exactly and rounded once. PRESUMED from the RISC-V ISA manual (log 9).
-/

namespace Sys2Proof.Machine

/-- A format: the bits of its exponent and of its fraction. -/
structure FpFmt where
  eBits : Nat
  mBits : Nat
  deriving DecidableEq, Repr

def fmtS : FpFmt := ⟨8, 23⟩
def fmtD : FpFmt := ⟨11, 52⟩
def fmtOf (isDouble : Bool) : FpFmt := if isDouble then fmtD else fmtS

def FpFmt.bias (f : FpFmt) : Nat := 2 ^ (f.eBits - 1) - 1
def FpFmt.width (f : FpFmt) : Nat := 1 + f.eBits + f.mBits

/-- A value: a NaN (signalling or not), an infinity, or an exact number. -/
inductive FpVal where
  | nan (signalling : Bool)
  | inf (neg : Bool)
  | fin (neg : Bool) (m : Nat) (e : Int)
  deriving DecidableEq, Repr

/-- The flags NV, DZ, OF, UF, NX in the places of fcsr. -/
def fNV : Nat := 16
def fDZ : Nat := 8
def fOF : Nat := 4
def fUF : Nat := 2
def fNX : Nat := 1

/-- The value of a bit pattern. -/
def fpUnpack (f : FpFmt) (v : Nat) : FpVal :=
  let neg := v.testBit (f.eBits + f.mBits)
  let x := nfld v f.mBits f.eBits
  let m := v % 2 ^ f.mBits
  if x = 2 ^ f.eBits - 1 then (if m = 0 then .inf neg else .nan (!m.testBit (f.mBits - 1)))
  else if x = 0 then .fin neg m (1 - (f.bias : Int) - f.mBits)
  else .fin neg (m + 2 ^ f.mBits) ((x : Int) - f.bias - f.mBits)

def fpSign (f : FpFmt) (neg : Bool) : Nat := b2n neg * 2 ^ (f.eBits + f.mBits)
def fpInf (f : FpFmt) (neg : Bool) : Nat := fpSign f neg + (2 ^ f.eBits - 1) * 2 ^ f.mBits
def fpZero (f : FpFmt) (neg : Bool) : Nat := fpSign f neg
/-- The canonical NaN. -/
def fpNan (f : FpFmt) : Nat := (2 ^ f.eBits - 1) * 2 ^ f.mBits + 2 ^ (f.mBits - 1)

/-- Whether a magnitude cut at `sh` bits is raised by one, in a rounding mode: 0 RNE, 1 RTZ, 2 RDN, 3 RUP, 4 RMM. -/
def roundUp (rm : Nat) (neg : Bool) (m sh : Nat) : Bool :=
  let rest := m % 2 ^ sh
  let half := 2 ^ (sh - 1)
  match rm with
  | 0 => decide (half < rest) || (decide (rest = half) && decide (0 < sh) && (m / 2 ^ sh) % 2 == 1)
  | 1 => false
  | 2 => neg && decide (rest ≠ 0)
  | 3 => !neg && decide (rest ≠ 0)
  | _ => decide (half ≤ rest) && decide (0 < sh)

/-- A magnitude m x 2^e rounded to a multiple of 2^q: the multiple, and whether it is inexact. -/
def roundAt (rm : Nat) (neg : Bool) (m : Nat) (e q : Int) : Nat × Bool :=
  if q ≤ e then (m * 2 ^ (e - q).toNat, false)
  else
    let sh := (q - e).toNat
    (m / 2 ^ sh + b2n (roundUp rm neg m sh), decide (m % 2 ^ sh ≠ 0))

/-- The result of an operation whose exact value is +-m x 2^e: the bit pattern and the flags. -/
def fpRound (f : FpFmt) (rm : Nat) (neg : Bool) (m : Nat) (e : Int) : Nat × Nat :=
  if m = 0 then (fpZero f neg, 0)
  else
    let top : Int := e + Nat.log2 m
    let eMin : Int := 1 - (f.bias : Int)
    let q := max (top - f.mBits) (eMin - f.mBits)
    let r := roundAt rm neg m e q
    let free := roundAt rm neg m e (top - f.mBits)
    let tiny : Bool := decide (top < eMin) && !(decide (top = eMin - 1) && decide (free.1 = 2 ^ (f.mBits + 1)))
    let carry := r.1 == 2 ^ (f.mBits + 1)
    let k := if carry then 2 ^ f.mBits else r.1
    let q := if carry then q + 1 else q
    if (f.bias : Int) < q + f.mBits ∧ 2 ^ f.mBits ≤ k then
      let toInf : Bool := match rm with | 0 | 4 => true | 2 => neg | 3 => !neg | _ => false
      (if toInf then fpInf f neg else fpInf f neg - 1, fOF + fNX)
    else
      let x : Nat := if k < 2 ^ f.mBits then 0 else (q + f.mBits + f.bias).toNat
      (fpSign f neg + x * 2 ^ f.mBits + k % 2 ^ f.mBits, b2n r.2 * fNX + b2n (r.2 && tiny) * fUF)

def FpVal.isSnan : FpVal → Bool | .nan s => s | _ => false
def FpVal.isNan : FpVal → Bool | .nan _ => true | _ => false

/-- The canonical NaN, with NV where an operand signals or `nv` is given. -/
def fpNanOf (f : FpFmt) (l : List FpVal) (nv : Bool := false) : Nat × Nat := (fpNan f, b2n (nv || l.any (·.isSnan)) * fNV)

/-- The sum of two exact numbers. -/
def fpSum (f : FpFmt) (rm : Nat) (n1 : Bool) (m1 : Nat) (e1 : Int) (n2 : Bool) (m2 : Nat) (e2 : Int) : Nat × Nat :=
  let e := min e1 e2
  let v : Int := (if n1 then -1 else 1) * (m1 * 2 ^ (e1 - e).toNat : Nat) + (if n2 then -1 else 1) * (m2 * 2 ^ (e2 - e).toNat : Nat)
  if v = 0 then (fpZero f (if n1 = n2 then n1 else decide (rm = 2)), 0) else fpRound f rm (decide (v < 0)) v.natAbs e

/-- a x b + c, rounded once. -/
def fpFma (f : FpFmt) (rm : Nat) (a b c : FpVal) : Nat × Nat :=
  let bad : Bool := match a, b with
    | .inf _, .fin _ 0 _ | .fin _ 0 _, .inf _ => true
    | _, _ => false
  if bad || a.isNan || b.isNan || c.isNan then fpNanOf f [a, b, c] bad
  else match a, b, c with
    | .fin na ma ea, .fin nb mb eb, .fin nc mc ec => fpSum f rm (na != nb) (ma * mb) (ea + eb) nc mc ec
    | .fin _ _ _, .fin _ _ _, .inf n => (fpInf f n, 0)
    | _, _, _ =>
      let sg := fun (v : FpVal) => match v with | .inf n | .fin n _ _ => n | .nan _ => false
      let np := sg a != sg b
      match c with
      | .inf n => if n = np then (fpInf f n, 0) else fpNanOf f [] true
      | _ => (fpInf f np, 0)

/-- The value 1, and a value with its sign changed. -/
def fpOne : FpVal := .fin false 1 0
def FpVal.neg : FpVal → FpVal
  | .nan s => .nan s
  | .inf n => .inf (!n)
  | .fin n m e => .fin (!n) m e

def fpMul (f : FpFmt) (rm : Nat) (a b : FpVal) : Nat × Nat :=
  match a, b with
  | .fin na ma ea, .fin nb mb eb => fpRound f rm (na != nb) (ma * mb) (ea + eb)
  | _, _ => fpFma f rm a b (.fin false 0 0)

def fpDiv (f : FpFmt) (rm : Nat) (a b : FpVal) : Nat × Nat :=
  match a, b with
  | .nan _, _ | _, .nan _ => fpNanOf f [a, b]
  | .inf _, .inf _ => fpNanOf f [] true
  | .inf na, .fin nb _ _ => (fpInf f (na != nb), 0)
  | .fin na _ _, .inf nb => (fpZero f (na != nb), 0)
  | .fin na ma ea, .fin nb mb eb =>
    if mb = 0 then (if ma = 0 then fpNanOf f [] true else (fpInf f (na != nb), fDZ))
    else
      let k := 66 + Nat.log2 mb
      let n := ma * 2 ^ k
      fpRound f rm (na != nb) (2 * (n / mb) + b2n (n % mb != 0)) (ea - eb - k - 1)

/-- The integer square root, for values below 2^192. -/
def isqrt (n : Nat) : Nat := (List.range 96).foldl (fun r i => if (r + 2 ^ (95 - i)) ^ 2 ≤ n then r + 2 ^ (95 - i) else r) 0

def fpSqrt (f : FpFmt) (rm : Nat) (a : FpVal) : Nat × Nat :=
  match a with
  | .nan _ => fpNanOf f [a]
  | .inf true => fpNanOf f [] true
  | .inf false => (fpInf f false, 0)
  | .fin n m e =>
    if m = 0 then (fpZero f n, 0)
    else if n then fpNanOf f [] true
    else
      let k : Nat := if e % 2 = 0 then 130 else 131
      let v := m * 2 ^ k
      let r := isqrt v
      fpRound f rm false (2 * r + b2n (r * r != v)) ((e - k) / 2 - 1)

/-- The order of two values that are not NaN: a < b, a = b. -/
def fpCmp (a b : FpVal) : Bool × Bool :=
  match a, b with
  | .inf n, .inf p => (n && !p, n == p)
  | .inf n, _ => (n, false)
  | _, .inf p => (!p, false)
  | .fin n m e, .fin p k g =>
    let q := min e g
    let x : Int := (if n then -1 else 1) * (m * 2 ^ (e - q).toNat : Nat)
    let y : Int := (if p then -1 else 1) * (k * 2 ^ (g - q).toNat : Nat)
    (decide (x < y), decide (x = y))
  | _, _ => (false, false)

/-- FEQ, FLT and FLE: FEQ signals only for a signalling NaN, the others for any. -/
def fpCompare (op : FpOp) (a b : FpVal) : Nat × Nat :=
  if a.isNan || b.isNan then
    (0, b2n (match op with | .eq => a.isSnan || b.isSnan | _ => true) * fNV)
  else
    let c := fpCmp a b
    (b2n (match op with | .eq => c.2 | .lt => c.1 | _ => c.1 || c.2), 0)

/-- FMIN and FMAX, on the values and their bit patterns. -/
def fpMinMax (f : FpFmt) (isMax : Bool) (a b : FpVal) (va vb : Nat) : Nat × Nat :=
  let fl := b2n (a.isSnan || b.isSnan) * fNV
  if a.isNan && b.isNan then (fpNan f, fl)
  else if a.isNan then (vb, fl)
  else if b.isNan then (va, fl)
  else
    let less := (fpCmp a b).1 || ((fpCmp a b).2 && va.testBit (f.width - 1) && !vb.testBit (f.width - 1))
    (if less = isMax then vb else va, fl)

/-- FCLASS. -/
def fpClassify (f : FpFmt) (v : Nat) : Nat :=
  let neg := v.testBit (f.width - 1)
  match fpUnpack f v with
  | .nan true => 2 ^ 8
  | .nan false => 2 ^ 9
  | .inf n => if n then 1 else 2 ^ 7
  | .fin _ m _ =>
    if m = 0 then (if neg then 2 ^ 3 else 2 ^ 4)
    else if m < 2 ^ f.mBits then (if neg then 2 ^ 2 else 2 ^ 5)
    else if neg then 2 ^ 1 else 2 ^ 6

/-- The range of an integer of kind `w` (FpOp). -/
def intRange (w : Nat) : Int × Int :=
  match w with
  | 0 => (-(2 ^ 31), 2 ^ 31 - 1)
  | 1 => (0, 2 ^ 32 - 1)
  | 2 => (-(2 ^ 63), 2 ^ 63 - 1)
  | _ => (0, 2 ^ 64 - 1)

/-- A conversion to an integer: saturating, NV outside the range. -/
def fpToInt (rm w : Nat) (a : FpVal) : Int × Nat :=
  let r := intRange w
  match a with
  | .nan _ => (r.2, fNV)
  | .inf n => (if n then r.1 else r.2, fNV)
  | .fin n m e =>
    let x := roundAt rm n m e 0
    let v : Int := if n then -(x.1 : Int) else x.1
    if v < r.1 then (r.1, fNV) else if r.2 < v then (r.2, fNV) else (v, b2n x.2 * fNX)

/-- A conversion from an integer. -/
def fpOfInt (f : FpFmt) (rm : Nat) (v : Int) : Nat × Nat := fpRound f rm (decide (v < 0)) v.natAbs 0

/-- A conversion between the formats. -/
def fpOther (f : FpFmt) (rm : Nat) (a : FpVal) : Nat × Nat :=
  match a with
  | .nan _ => fpNanOf f [a]
  | .inf n => (fpInf f n, 0)
  | .fin n m e => fpRound f rm n m e

/-- The bit pattern of an F register in a format: a single that is not NaN-boxed counts as the canonical NaN. -/
def fpRegBits (f : FpFmt) (v : BitVec 64) : Nat :=
  if f.mBits = 52 then v.toNat
  else if v.toNat / 2 ^ 32 = 2 ^ 32 - 1 then v.toNat % 2 ^ 32
  else fpNan f

/-- A result for an F register: a single is NaN-boxed. -/
def fpBox (isDouble : Bool) (v : Nat) : BitVec 64 :=
  if isDouble then BitVec.ofNat 64 v else BitVec.ofNat 64 (v % 2 ^ 32 + (2 ^ 32 - 1) * 2 ^ 32)

/-- Whether the operation writes an integer register. -/
def FpOp.toX : FpOp → Bool
  | .eq | .lt | .le | .classify | .toInt _ | .moveToX => true
  | _ => false

/-- Whether the operation rounds, so that its rounding mode must be legal. -/
def FpOp.rounds : FpOp → Bool
  | .sgnj | .sgnjn | .sgnjx | .min | .max | .eq | .lt | .le | .classify | .moveToX | .moveOfX => false
  | _ => true

/-- A result and its flags: of the F operands (as registers), the integer operand, and the rounding mode. The result is what the
destination register takes. -/
def fpRun (op : FpOp) (d : Bool) (rm : Nat) (ra rb rc : BitVec 64) (x : BitVec 64) : BitVec 64 × Nat :=
  let f := fmtOf d
  let va := fpRegBits f ra
  let vb := fpRegBits f rb
  let a := fpUnpack f va
  let b := fpUnpack f vb
  let c := fpUnpack f (fpRegBits f rc)
  let box := fun (r : Nat × Nat) => (fpBox d r.1, r.2)
  let sgn := 2 ^ (f.width - 1)
  let mag := va % sgn
  match op with
  | .add => box (fpFma f rm a fpOne b)
  | .sub => box (fpFma f rm a fpOne b.neg)
  | .mul => box (fpMul f rm a b)
  | .div => box (fpDiv f rm a b)
  | .sqrt => box (fpSqrt f rm a)
  | .madd => box (fpFma f rm a b c)
  | .msub => box (fpFma f rm a b c.neg)
  | .nmsub => box (fpFma f rm a.neg b c)
  | .nmadd => box (fpFma f rm a.neg b c.neg)
  | .sgnj => box (mag + vb / sgn * sgn, 0)
  | .sgnjn => box (mag + (1 - vb / sgn) * sgn, 0)
  | .sgnjx => box (mag + (va / sgn + vb / sgn) % 2 * sgn, 0)
  | .min => box (fpMinMax f false a b va vb)
  | .max => box (fpMinMax f true a b va vb)
  | .eq | .lt | .le => (BitVec.ofNat 64 (fpCompare op a b).1, (fpCompare op a b).2)
  | .classify => (BitVec.ofNat 64 (fpClassify f va), 0)
  | .toInt w =>
    let r := fpToInt rm w.val a
    (if w.val < 2 then (BitVec.ofInt 32 r.1).signExtend 64 else BitVec.ofInt 64 r.1, r.2)
  | .ofInt w =>
    let v : Int := match w.val with
      | 0 => (x.setWidth 32).toInt
      | 1 => (x.toNat % 2 ^ 32 : Nat)
      | 2 => x.toInt
      | _ => x.toNat
    box (fpOfInt f rm v)
  | .ofOther => box (fpOther f rm (fpUnpack (fmtOf !d) (fpRegBits (fmtOf !d) ra)))
  | .moveToX => (if d then ra else (ra.setWidth 32).signExtend 64, 0)
  | .moveOfX => (fpBox d x.toNat, 0)

end Sys2Proof.Machine
end

