-- ==== Sys2Proof/Machine/Cores.lean ====
section
/-!
DEFINITION. The cores (R167 to R189): registers and CSRs, traps, PMP, fetch through the instruction cache, loads and stores with the
write buffer, atomics, doorbell pages and target ports, and the execution of one instruction. Where the spec names the RISC-V ISA for a
content, the content is PRESUMED from it (log 9).
-/

namespace Sys2Proof.Machine

/-! ### Registers -/

/-- Register xr of core `c`; x0 reads 0. -/
def rx (s : State) (c r : Nat) : DWord := if r = 0 then 0 else sget (fun _ => 0) (coreOf s c).ctx.x r
/-- Register xr written; x0 takes nothing. -/
def wx (c r : Nat) (v : DWord) (s : State) : State :=
  if r = 0 then s else updCtx c (fun k => { k with x := sset (fun _ => 0) k.x r v }) s
/-- Register fr. -/
def rfp (s : State) (c r : Nat) : DWord := sget (fun _ => 0) (coreOf s c).f r
/-- Register fr written: FS is Dirty. -/
def wfp (c r : Nat) (v : DWord) (s : State) : State :=
  updCtx c (fun k => { k with fs := 3 }) (setCore c { coreOf s c with f := sset (fun _ => 0) (coreOf s c).f r v } s)

/-- An instruction retires: the pc moves past it, minstret counts it. -/
def passInstr (c len : Nat) (s : State) : State :=
  let k := coreOf s c
  setCore c { k with ctx := { k.ctx with pc := k.ctx.pc + BitVec.ofNat 64 len }, minstret := k.minstret + 1 } s

/-- The pc goes elsewhere. -/
def jumpTo (c : Nat) (pc : DWord) (s : State) : State :=
  let k := coreOf s c
  setCore c { k with ctx := { k.ctx with pc := pc }, minstret := k.minstret + 1 } s

/-! ### Interrupts and MRET (R177, R182) -/

/-- INTERRUPT_TAKEN: the first of the pending enabled interrupts (R177), at an instruction boundary. A core that has no thread to run leaves
its halt for one that its mie enables, whatever mstatus.MIE was (R182); what mepc then holds is a free value, and mret takes the core back into its
halt. A core that R245 keeps in its store stays there. -/
def takeIrq (c : Nat) (s : State) : State :=
  let k := coreOf s c
  if !coreRuns s c || s.lcs.halted.contains c || inStore s c || k.chosen.isSome then s
  else if k.waiting then
    if bobClosed s && !k.joined then s
    else match irqDue s c with
      | none => s
      | some n =>
        let s := trapTo c n true 0 (setCore c { k with waiting := false, idleTrap := true } s)
        (updCtx c (fun x => { x with mepc := Config.freeValue s.fresh }) s).bump
  else match irqTaken s c with
    | none => s
    | some n => trapTo c n true 0 s

/-- MRET. -/
def mretRun (c : Nat) (s : State) : State :=
  let k := coreOf s c
  let x := k.ctx
  let y := { x with pc := x.mepc, prv := x.mpp, mstMie := x.mstMpie, mstMpie := true, mpp := 0, mprv := x.mprv && x.mpp == 3 }
  setCore c { k with ctx := y, minstret := k.minstret + 1, waiting := k.idleTrap, idleTrap := false } s

/-! ### Debug halts and triggers (R513) -/

/-- dcsr of a core. -/
def dcsrOf (s : State) (c : Nat) : Word := sget (fun _ => 0) s.dm.dcsr c

/-- A core halts for the debugger with a cause: 1 ebreak, 2 trigger, 3 haltreq, 4 step. -/
def debugHalt (c cause : Nat) (s : State) : State :=
  let d := setFld (setFld (dcsrOf s c) 6 3 cause) 0 2 (prvOf s c)
  { s with lcs := { s.lcs with halted := insRising c s.lcs.halted }, dm := { s.dm with dcsr := sset (fun _ => 0) s.dm.dcsr c d } }

/-- The trigger of core `c` that an access matches, with its action: `b` 2 execute, 1 store, 0 load. -/
def trigHit (s : State) (c b : Nat) (a : DWord) : Option Nat :=
  let hit := s.dm.tdata1.find? fun t =>
    t.1 / 16 == c && nfld t.2.toNat 60 4 == 2 && t.2.toNat.testBit b && t.2.toNat.testBit (if prvOf s c = 3 then 6 else 3)
      && sget (fun _ => 0) s.dm.tdata2 t.1 == a
  hit.map fun t => nfld t.2.toNat 12 4

/-- What a matching trigger does: a debug halt (action 1), or a breakpoint exception. -/
def trigAct (c : Nat) (a : DWord) (act : Nat) (s : State) : State :=
  if act = 1 then debugHalt c 2 s else except c 3 a s

/-- EBREAK: a debug halt where dcsr asks for it, else a breakpoint exception. -/
def ebreakRun (c : Nat) (s : State) : State :=
  if bit (dcsrOf s c) (if prvOf s c = 3 then 15 else 12) then debugHalt c 1 s
  else except c 3 (Config.ebreakTval (coreOf s c).ctx.pc) s

/-! ### PMP registers (R169) -/

/-- A write of one configuration byte: a locked entry keeps it; NA4 stores OFF; a reserved W without R drops W. -/
def pmpCfgPut (c i v : Nat) (s : State) : State :=
  if (pmpCfg s c i).testBit 7 then s
  else
    let a := nfld v 3 2
    let rwx := if nfld v 0 2 = 2 then nclr (v % 8) 1 else v % 8
    let w := (v / 128 % 2) * 128 + (if a = 2 then 0 else a) * 8 + rwx
    setCore c { coreOf s c with pmp := sset (fun _ => 0) (coreOf s c).pmp (16 + i) (w64 w) } s

/-- A write of pmpaddr: kept while its entry, or the TOR entry above it, is locked. -/
def pmpAddrPut (c i : Nat) (v : DWord) (s : State) : State :=
  let up := pmpCfg s c (i + 1)
  if (pmpCfg s c i).testBit 7 ∨ (i < 15 ∧ up.testBit 7 ∧ nfld up 3 2 = 1) then s
  else setCore c { coreOf s c with pmp := sset (fun _ => 0) (coreOf s c).pmp i (w64 (v.toNat % 2 ^ 54)) } s

/-- pmpaddr as read: with NAPOT its two low bits read 1, otherwise its three low bits read 0. -/
def pmpAddrGet (s : State) (c i : Nat) : Nat :=
  if nfld (pmpCfg s c i) 3 2 = 3 then pmpAddr s c i / 4 * 4 + 3 else pmpAddr s c i / 8 * 8

/-! ### CSRs (R167, R170, R177) -/

/-- mstatus. -/
def mstatusOf (x : Ctx) : Nat :=
  b2n x.mstMie * 2 ^ 3 + b2n x.mstMpie * 2 ^ 7 + x.mpp * 2 ^ 11 + x.fs * 2 ^ 13 + b2n x.mprv * 2 ^ 17 + 2 * 2 ^ 32 + b2n (x.fs == 3) * 2 ^ 63

/-- The thread a core runs is not flagged FP (R181). -/
def fpBarred (s : State) (c : Nat) : Bool :=
  match (coreOf s c).thread with | some t => !(threadOf s t).fp | none => false

/-- A write of mstatus: MPP takes only the levels that exist, FS nothing in a thread without FP (R181). -/
def mstatusPut (c : Nat) (v : DWord) (s : State) : State :=
  let n := v.toNat
  let mpp := nfld n 11 2
  let barred := fpBarred s c
  updCtx c (fun x => { x with mstMie := n.testBit 3, mstMpie := n.testBit 7, mpp := if mpp = 0 ∨ mpp = 3 then mpp else x.mpp,
                              fs := if barred then x.fs else nfld n 13 2, mprv := n.testBit 17 }) s

/-- The cycle counter: what the core clock has counted since mcycle was written is a free value (timing is not modelled). -/
def cycleOf (s : State) (c : Nat) : DWord := (coreOf s c).mcycle + Config.freeValue s.fresh

/-- The trigger selected by tselect. -/
def trigSel (s : State) (c : Nat) : Nat := 16 * c + sget (fun _ => 0) s.dm.tselect c

/-- The value of a CSR; none where there is no such CSR, or it is not reached: F CSRs with FS Off, a counter that mcounteren denies to U-mode. -/
def csrGet (s : State) (c num : Nat) : Option DWord :=
  let k := coreOf s c
  let x := k.ctx
  let user := fun (b : Nat) => x.prv = 3 || k.mcounteren.toNat.testBit b
  let fpOn := x.fs != 0
  if num = 0x001 then (if fpOn then some (w64 (x.fcsr % 32)) else none)
  else if num = 0x002 then (if fpOn then some (w64 (x.fcsr / 32 % 8)) else none)
  else if num = 0x003 then (if fpOn then some (w64 (x.fcsr % 256)) else none)
  else if num = 0xC00 then (if user 0 then some (cycleOf s c) else none)
  else if num = 0xC01 then (if user 1 then some (w64 s.now) else none)
  else if num = 0xC02 then (if user 2 then some k.minstret else none)
  else if 0xC03 ≤ num ∧ num ≤ 0xC1F then (if x.prv = 3 then some 0 else none)
  else if num = 0xF11 then some 0
  else if num = 0xF12 then some 0x6480
  else if num = 0xF13 then some 0x10
  else if num = 0xF14 then some (w64 c)
  else if num = 0x300 then some (w64 (mstatusOf x))
  else if num = 0x301 then some 0x800000000010112D
  else if num = 0x304 then some x.mie
  else if num = 0x305 then some k.mtvec
  else if num = 0x306 then some k.mcounteren
  else if 0x323 ≤ num ∧ num ≤ 0x33F then some 0
  else if num = 0x340 then some x.mscratch
  else if num = 0x341 then some x.mepc
  else if num = 0x342 then some x.mcause
  else if num = 0x343 then some x.mtval
  else if num = 0x344 then some (w64 (mipOf s c))
  else if num = 0x3A0 ∨ num = 0x3A2 then
    some (w64 ((List.range 8).foldl (fun a i => a + pmpCfg s c ((num - 0x3A0) * 4 + i) * 2 ^ (8 * i)) 0))
  else if 0x3B0 ≤ num ∧ num ≤ 0x3BF then some (w64 (pmpAddrGet s c (num - 0x3B0)))
  else if num = 0xB00 then some (cycleOf s c)
  else if num = 0xB02 then some k.minstret
  else if 0xB03 ≤ num ∧ num ≤ 0xB1F then some 0
  else if num = 0x7A0 then some (w64 (sget (fun _ => 0) s.dm.tselect c))
  else if num = 0x7A1 then some (sget (fun _ => 0) s.dm.tdata1 (trigSel s c))
  else if num = 0x7A2 then some (sget (fun _ => 0) s.dm.tdata2 (trigSel s c))
  else if num = 0x7A3 then some 0
  else if num = 0x7A4 then some 4
  else none

/-- A trigger register is written: `dbg` by the debugger, to which dmode triggers belong. The type stays 2 (a match control), with an equal
match; action 1 needs dmode. -/
def trigPut (c num : Nat) (v : DWord) (dbg : Bool) (s : State) : State :=
  let t := trigSel s c
  let n := v.toNat
  if num = 0x7A0 then
    if n < min 16 Config.triggerCount then { s with dm := { s.dm with tselect := sset (fun _ => 0) s.dm.tselect c n } } else s
  else if (sget (fun _ => 0) s.dm.tdata1 t).toNat.testBit 59 ∧ !dbg then s
  else if num = 0x7A1 then
    let dmode := dbg && n.testBit 59
    let act := if nfld n 12 4 = 1 ∧ dmode then 1 else 0
    let w := 2 * 2 ^ 60 + b2n dmode * 2 ^ 59 + act * 2 ^ 12 + (n &&& 0x4F)
    { s with dm := { s.dm with tdata1 := sset (fun _ => 0) s.dm.tdata1 t (w64 w) } }
  else { s with dm := { s.dm with tdata2 := sset (fun _ => 0) s.dm.tdata2 t v } }

/-- A CSR takes a value; read-only fields keep theirs. -/
def csrPut (c num : Nat) (v : DWord) (s : State) : State :=
  let k := coreOf s c
  let n := v.toNat
  if num = 0x001 then updCtx c (fun x => { x with fcsr := x.fcsr / 32 % 8 * 32 + n % 32, fs := 3 }) s
  else if num = 0x002 then updCtx c (fun x => { x with fcsr := n % 8 * 32 + x.fcsr % 32, fs := 3 }) s
  else if num = 0x003 then updCtx c (fun x => { x with fcsr := n % 256, fs := 3 }) s
  else if num = 0x300 then mstatusPut c v s
  else if num = 0x304 then updCtx c (fun x => { x with mie := v &&& 0x10888 }) s
  else if num = 0x305 then setCore c { k with mtvec := v &&& ~~~2 } s
  else if num = 0x306 then setCore c { k with mcounteren := v &&& 7 } s
  else if num = 0x340 then updCtx c (fun x => { x with mscratch := v }) s
  else if num = 0x341 then updCtx c (fun x => { x with mepc := v &&& ~~~1 }) s
  else if num = 0x342 then updCtx c (fun x => { x with mcause := v }) s
  else if num = 0x343 then updCtx c (fun x => { x with mtval := v }) s
  else if num = 0x3A0 ∨ num = 0x3A2 then
    (List.range 8).foldl (fun s i => pmpCfgPut c ((num - 0x3A0) * 4 + i) (nfld n (8 * i) 8) s) s
  else if 0x3B0 ≤ num ∧ num ≤ 0x3BF then pmpAddrPut c (num - 0x3B0) v s
  else if num = 0xB00 then setCore c { k with mcycle := v } s
  else if num = 0xB02 then setCore c { k with minstret := v } s
  else if 0x7A0 ≤ num ∧ num ≤ 0x7A2 then trigPut c num v false s
  else s

/-- A CSR instruction (R167): illegal for a CSR that is not there or needs more privilege, and for a write of a read-only one. A value written to minstret
stands in place of the count of that instruction (R170). -/
def csrRun (c : Nat) (op : CsrOp) (isImm : Bool) (rd src num len bits : Nat) (s : State) : State :=
  let v := if isImm then w64 src else rx s c src
  let writes : Bool := op == .rw || src != 0
  if (256 ≤ num % 1024 ∧ prvOf s c ≠ 3) ∨ (writes ∧ 0xC00 ≤ num) then illegal c bits s
  else match csrGet s c num with
    | none => illegal c bits s
    | some old =>
      let new := match op with | .rw => v | .rs => old ||| v | .rc => old &&& ~~~v
      let s := if num = 0xB00 ∨ num = 0xC00 then s.bump else s
      let s := passInstr c len s
      let s := if writes then csrPut c num new s else s
      wx c rd old s

/-! ### Fetch (R171, R172, R176) -/

/-- The result of an access of a core: a value, a failure with its reason (R175), or none yet (a target port has it). -/
inductive Acs where
  | ok (v : Nat)
  | fail (reason : Nat)
  | held
  deriving DecidableEq, Repr

/-- A line enters the instruction cache: 128 sets of 4; the line that gives way is a free choice. -/
def icacheFill (c line : Nat) (l : List Byte) (s : State) : State :=
  let k := coreOf s c
  let inSet := k.icache.filter fun x => x.1 % 128 == line % 128
  let gone := if inSet.length < 4 then none else (inSet[s.freeBelow 4]?).map (·.1)
  let rest := k.icache.filter fun x => some x.1 != gone
  setCore c { k with icache := rest ++ [(line, l)] } (if gone.isSome then s.bump else s)

/-- Every word of a line holds valid check bits. -/
def lineSound (s : State) (line : Nat) : Bool := !s.ram.bad.any fun w => decide (8 * line ≤ w) && decide (w < 8 * line + 8)

/-- The 64 bytes of a line, of a region that the instruction cache holds, where the cache misses: the fetched word is delivered, and the line cached.
DESIGN CHOICE (log 81): a line that holds an uncorrectable word elsewhere is not cached, so that each fetch from it is checked (R175). -/
def lineGet (c : Nat) (z : Zone) (a : Nat) (e : CoreEnv) (s : State) : State × Acs :=
  let line := a / 64
  let go := fun (s : State) =>
    let r := memGet (.core (Fin.ofNat 16 c)) z (a / 8 * 8) 8 e.fetchEcc s
    match r.2.1 with
    | .okay =>
      let l := match z with
        | .rom => (List.range 64).map fun k => Config.bootRom (64 * line - 0x08000000 + k)
        | _ => readBytes r.1 (64 * line) 64
      (if lineSound r.1 line then icacheFill c line l r.1 else r.1, Acs.ok (leNat ((l.drop (a % 64)).take 2)))
    | q => (r.1, .fail (reasonOf q))
  match z with
  | .flash =>
    let r := go s
    if flashBusy s a then (s, .fail 6) else (flashFetchLine (2 * line + 1) (flashFetchLine (2 * line) r.1), r.2)
  | _ => go s

/-- A parity error in a cached line: the line goes, the event is counted (R172). -/
def parityDrop (c line : Nat) (s : State) : State :=
  let k := coreOf s c
  irq (0x10 + c) 3 ((setCore c { k with icache := k.icache.filter (·.1 != line) } s).incSat (Reg.CORE_ECC c) 0 8)

/-- The 16 bits at an address, as core `c` fetches them. -/
def fetchHalf (c a : Nat) (e : CoreEnv) (s : State) : State × Acs :=
  let i : Initiator := .core (Fin.ofNat 16 c)
  let p := physFor i a
  let z := zoneOf p
  if !pmpOk s c (prvOf s c) a 2 2 then (s, .fail 5)
  else if !servedAt s i z false (prvOf s c == 3) then (s, .fail 0)
  else match z with
    | .flash | .rom | .sram | .dram =>
      match (coreOf s c).icache.find? fun x => x.1 == p / 64 with
      | some x => if e.parity then lineGet c z p e (parityDrop c (p / 64) s) else (s, .ok (leNat ((x.2.drop (p % 64)).take 2)))
      | none => lineGet c z p e s
    | .tcm _ true => (s, .fail 1)
    | .tcm _ false | .option | .store =>
      let r := memGet i z p 2 e.fetchEcc s
      (r.1, match r.2.1 with | .okay => .ok r.2.2 | q => .fail (reasonOf q))
    | _ => (s, .fail 1)

/-- The instruction at the pc: its bits and its length, or the access fault taken. -/
def fetch (c : Nat) (e : CoreEnv) (s : State) : State × Option (Nat × Nat) :=
  let pc := (coreOf s c).ctx.pc.toNat
  let r := fetchHalf c pc e s
  match r.2 with
  | .ok h =>
    if h % 4 ≠ 3 then (r.1, some (h, 2))
    else
      let q := fetchHalf c (pc + 2) { e with parity := e.parity && (pc + 2) % 64 == 0, fetchEcc := if (pc + 2) % 8 == 0 then e.nextEcc else .none } r.1
      match q.2 with
      | .ok g => (q.1, some (h + 65536 * g, 4))
      | .fail n => (coreFault c 0 n (pc + 2) q.1, none)
      | .held => (q.1, none)
  | .fail n => (coreFault c 0 n pc r.1, none)
  | .held => (r.1, none)

/-! ### Loads and stores (R168, R173, R184) -/

/-- A loaded value as the register takes it. -/
def loadValue (op : MemOp) (v : Nat) : DWord :=
  if op.fp then fpBox (op.bytes == 8) v
  else if op.signed then sext (8 * op.bytes) v else w64 (v % 2 ^ (8 * op.bytes))

/-- A load completes. -/
def loadDone (c : Nat) (op : MemOp) (rd len v : Nat) (s : State) : State :=
  let s := passInstr c len s
  if op.fp then wfp c rd (loadValue op v) s else wx c rd (loadValue op v) s

/-- The byte at an address as core `c` sees it: of the youngest posted store that covers it, or of memory. -/
def bufferedByte (s : State) (c a : Nat) (mem : Byte) : Byte :=
  (coreOf s c).wbuf.foldl (fun b w => if w.1 ≤ a ∧ a < w.1 + w.2.1 then BitVec.ofNat 8 (nfld w.2.2.toNat (8 * (a - w.1)) 8) else b) mem

/-- A value read from memory with the buffered stores laid over it (R173). -/
def overlay (s : State) (c a n v : Nat) : Nat :=
  leNat ((natLe v n).zipIdx.map fun x => bufferedByte s c (a + x.2) x.1)

/-- DB_SELF and DB_RESULT (R184); every other offset reads 0. -/
def doorGet (s : State) (c off n : Nat) : Nat :=
  let k := coreOf s c
  let res := match k.thread with | some _ => k.ctx.dbResult | none => k.outRes
  let self := match k.thread with | some t => 2 ^ 31 + (threadOf s t).eff * 2 ^ 18 + t | none => 0
  let v := if off / 8 = 0x20 then res.toNat else if off / 8 = 0x21 then self else 0
  nfld v (8 * (off % 8)) (8 * n)

/-- What a target port answers at once (R70, R81): ISOLATED while its region is isolated; else DECODE where it is not enabled, where the FAB page is
not (R22), or where its region does not implement it; none where the access goes to the fabric. -/
def tportRefuses (s : State) (t : Nat) : Option Rsp :=
  if isolated s (16 * t) then some .isolated
  else if !s.rb Reg.FAB_WIN_CFG (16 + t) ∨ !isEnabled s 0x0B then some .decode
  else if Config.tportImplemented (markFrames s.fab.latch (16 * t)) then none else some .decode

/-- A request at its place on the data path to the fabric (R77): of those of one contested cycle, the lower port index from the base first. -/
def insPath (base : Nat) (q : TportReq) : List TportReq → List TportReq
  | [] => [q]
  | x :: l =>
    if x.start = q.start ∧ (q.port + 8 - base) % 8 < (x.port + 8 - base) % 8 then q :: x :: l else x :: insPath base q l

/-- A request of a core goes to the fabric. The requests of one contested cycle come one command each, the first of which rotates the order for the
cycles after it (R77). -/
def tportSend (q : TportReq) (contested : Bool) (s : State) : State :=
  if !contested then { s with fab := { s.fab with tports := s.fab.tports ++ [q] } }
  else
    let s := if s.fab.tports.any (·.start == q.start) then s else { s with fab := { s.fab with pathOut := (s.fab.pathOut + 1) % 8 } }
    { s with fab := { s.fab with tports := insPath ((s.fab.pathOut + 7) % 8) q s.fab.tports } }

/-- An access of core `c` to a target port (R70): forwarded, or completed with an error. -/
def tportAccess (c t a : Nat) (op : MemOp) (reg len : Nat) (v : DWord) (contested : Bool) (s : State) : State :=
  match tportRefuses s t with
  | some q => coreFault c (if op.isStore then 2 else 1) (reasonOf q) a (noteWinErr false t q.code c 0 a s)
  | none => tportSend ⟨c, t, a, op.isStore, v, reg, op.bytes, op.signed, op.fp, len, s.now⟩ contested s

/-- A store to the core's own doorbell page (R184): an operation, at the operation offsets; the pc that the operation moves on or saves
allows for a compressed store. The write buffer drains first (R173). -/
def doorStore (c off n len : Nat) (v : DWord) (e : CoreEnv) (a : Nat) (s₀ : State) : State :=
  let s := drainAll c s₀
  if off < 0x38 then
    if n ≠ 8 then coreFault c 2 1 a s
    else
      let k := coreOf s c
      let s := if bobClosed s then s
        else setCore c { k with ctx := { k.ctx with pc := k.ctx.pc + BitVec.ofNat 64 len - 4 }, minstret := k.minstret + 1 } s
      fitReady (bobCycle (.door (Fin.ofNat 16 c) off v :: e.reg.bob) s)
  else passInstr c len s

/-- A load that PMP lets through. -/
def loadRun (c : Nat) (op : MemOp) (rd len a : Nat) (e : CoreEnv) (s : State) : State :=
  let i : Initiator := .core (Fin.ofNat 16 c)
  match zoneOf (physFor i a) with
  | .window t => if listed s i (.window t) true then tportAccess c t a op rd len 0 (!e.rivals.isEmpty) s else coreFault c 1 0 a s
  | .door k off => if k = c then loadDone c op rd len (doorGet s c off op.bytes) s else coreFault c 1 0 a s
  | z =>
    let r := busGet i (dataPrv s c == 3) a op.bytes ⟨e.lag, e.rivals, e.dataEcc⟩ s
    match r.2.1 with
    | .okay =>
      let v := match z with | .sram | .dram | .tcm _ _ => overlay r.1 c (physFor i a) op.bytes r.2.2 | _ => r.2.2
      loadDone c op rd len v r.1
    | q => coreFault c 1 (reasonOf q) a r.1

/-- A store is posted in the 8-entry write buffer (R173); a full buffer first performs its oldest. -/
def postStore (c a n : Nat) (v : DWord) (s : State) : State :=
  let s := if (coreOf s c).wbuf.length < 8 then s else drainOne c s
  setCore c { coreOf s c with wbuf := (coreOf s c).wbuf ++ [(a, n, v)] } s

/-- A store that PMP lets through: to the core's own TCM at once, to SRAM, DRAM and the TCM alias posted, elsewhere non-posted, after the
write buffer has drained (R173). -/
def storeRun (c : Nat) (op : MemOp) (len a : Nat) (v : DWord) (e : CoreEnv) (s : State) : State :=
  let i : Initiator := .core (Fin.ofNat 16 c)
  let p := physFor i a
  match zoneOf p with
  | .window t => tportAccess c t a op 0 len v (!e.rivals.isEmpty) (drainAll c s)
  | .door k off => if k = c then doorStore c off op.bytes len v e a s else coreFault c 2 0 a (drainAll c s)
  | .sram | .dram => passInstr c len (postStore c p op.bytes v s)
  | .tcm k _ =>
    if p ≠ a then passInstr c len (putBy (some c) p (natLe v.toNat op.bytes) s)
    else
      let r := tcmReach i k s
      if r.2 then passInstr c len (postStore c p op.bytes v r.1) else coreFault c 2 4 a s
  | _ =>
    let r := busPut ⟨i, e.others, e.reg⟩ (dataPrv s c == 3) a op.bytes (v.toNat % 2 ^ (8 * op.bytes)) ⟨e.lag, e.rivals, e.dataEcc⟩ (drainAll c s)
    match r.2 with
    | .okay => passInstr c len r.1
    | q => coreFault c 2 (reasonOf q) a r.1

/-- A load or store at an address (R168, R169): misaligned, trapped by a trigger, stopped by PMP, or performed. -/
def memRun (c : Nat) (op : MemOp) (reg len : Nat) (a : DWord) (e : CoreEnv) (s : State) : State :=
  let n := a.toNat
  if n % op.bytes ≠ 0 then except c (if op.isStore then 6 else 4) a s
  else match trigHit s c (b2n op.isStore) a with
    | some act => trigAct c a act s
    | none =>
      if !pmpOk s c (dataPrv s c) n op.bytes (b2n op.isStore) then coreFault c (1 + b2n op.isStore) 5 n s
      else if op.isStore then storeRun c op len n (if op.fp then rfp s c reg else rx s c reg) e s
      else loadRun c op reg len n e s

/-! ### Atomics (R174) -/

/-- Where the atomics are served: none, or the reason of the failure. -/
def atomicRefuses (s : State) (c a : Nat) : Option Nat :=
  match zoneOf (physFor (.core (Fin.ofNat 16 c)) a) with
  | .sram | .dram => none
  | .tcm k _ => if k = c then none else if clusterOff s (k / 4) then some 4 else none
  | .flash | .option | .rom | .store | .hole => some 0
  | .door k _ => if k = c then some 1 else some 0
  | _ => some 1

/-- LR, SC or an AMO at an address: `kind` 0 LR, 1 SC, 2 an AMO. The write buffer drains first. Where R174 does not serve them all three take the
store/AMO access fault; DEDUCED (log 82): an LR whose read fails otherwise (PMP, ECC) takes the load access fault, as a load does (R19, R175). -/
def atomicRun (c kind : Nat) (op : AmoOp) (n rd len : Nat) (a v : DWord) (e : CoreEnv) (s : State) : State :=
  let i : Initiator := .core (Fin.ofNat 16 c)
  let addr := a.toNat
  let p := physFor i addr
  let z := zoneOf p
  if addr % n ≠ 0 then except c (if kind = 0 then 4 else 6) a s
  else if !pmpOk s c (dataPrv s c) addr n (if kind = 0 then 0 else 1) ∨ (kind = 2 ∧ !pmpOk s c (dataPrv s c) addr n 0) then
    coreFault c (if kind = 0 then 1 else 2) 5 addr s
  else match atomicRefuses s c addr with
    | some q =>
      match z with
      | .window t => coreFault c 2 q addr (noteWinErr false t 2 c 0 addr s)
      | _ => coreFault c 2 q addr s
    | none =>
      let s := drainAll c s
      let done := fun (x : DWord) (s : State) => wx c rd x (passInstr c len s)
      let clear := fun (s : State) => setCore c { coreOf s c with resv := none } s
      if kind = 1 then
        if (coreOf s c).resv = some (p / 64) then done 0 (clear (memPut i z p (natLe v.toNat n) s).1)
        else done 1 (clear s)
      else
        let r := memGet i z p n e.dataEcc s
        match r.2.1 with
        | .okay =>
          let old := sext (8 * n) r.2.2
          if kind = 0 then done old (setCore c { coreOf r.1 c with resv := some (p / 64) } r.1)
          else done old (memPut i z p (natLe (amoRun op n old (sext (8 * n) v.toNat)).toNat n) r.1).1
        | q => coreFault c (if kind = 0 then 1 else 2) (reasonOf q) addr r.1

/-! ### Floating point (R167, R181) -/

/-- An F or D instruction: illegal with FS Off or a reserved rounding mode; its flags accrue in fcsr. -/
def fpExec (c : Nat) (op : FpOp) (d : Bool) (rd rs1 rs2 rs3 rm len bits : Nat) (s : State) : State :=
  let x := (coreOf s c).ctx
  let mode := if rm = 7 then x.fcsr / 32 % 8 else rm
  if x.fs = 0 ∨ (op.rounds ∧ 5 ≤ mode) then illegal c bits s
  else
    let r := fpRun op d mode (rfp s c rs1) (rfp s c rs2) (rfp s c rs3) (rx s c rs1)
    let s := passInstr c len s
    let s := if r.2 = 0 then s else updCtx c (fun y => { y with fcsr := y.fcsr ||| r.2, fs := 3 }) s
    if op.toX then wx c rd r.1 s else wfp c rd r.1 s

/-! ### One instruction -/

/-- FENCE (R173): with W or O in the predecessor set the write buffer drains. -/
def fenceRun (c pred len : Nat) (s : State) : State :=
  passInstr c len (if pred.testBit 0 || pred.testBit 2 then drainAll c s else s)

/-- WFI (R182): the core halts until mip AND mie is not zero. -/
def wfiRun (c len : Nat) (s : State) : State :=
  let s := passInstr c len s
  if mipOf s c &&& (coreOf s c).ctx.mie.toNat = 0 then setCore c { coreOf s c with halted := true } s else s

/-- A decoded instruction of `len` bytes executes on core `c` (R167, R168). `bits` are those of its encoding. -/
def instrRun (c : Nat) (i : RvInstr) (len bits : Nat) (e : CoreEnv) (s : State) : State :=
  let pc := (coreOf s c).ctx.pc
  let step := BitVec.ofNat 64 len
  match i with
  | .lui rd imm => wx c rd imm (passInstr c len s)
  | .auipc rd imm => wx c rd (pc + imm) (passInstr c len s)
  | .jal rd imm => wx c rd (pc + step) (jumpTo c (pc + imm) s)
  | .jalr rd rs1 imm => wx c rd (pc + step) (jumpTo c ((rx s c rs1 + imm) &&& ~~~1) s)
  | .branch op rs1 rs2 imm => jumpTo c (if brTaken op (rx s c rs1) (rx s c rs2) then pc + imm else pc + step) s
  | .mem op reg rs1 imm => if op.fp ∧ (coreOf s c).ctx.fs = 0 then illegal c bits s else memRun c op reg len (rx s c rs1 + imm) e s
  | .alu op w rd rs1 rs2 => wx c rd (aluRun op w (rx s c rs1) (rx s c rs2)) (passInstr c len s)
  | .aluImm op w rd rs1 imm => wx c rd (aluRun op w (rx s c rs1) imm) (passInstr c len s)
  | .fence pred _ => fenceRun c pred len s
  | .fenceI => passInstr c len (icacheClear c (drainAll c s))
  | .ecall => except c (if prvOf s c = 3 then 11 else 8) 0 s
  | .ebreak => ebreakRun c s
  | .mret => if prvOf s c = 3 then mretRun c s else illegal c bits s
  | .wfi => wfiRun c len s
  | .csr op im rd src num => csrRun c op im rd src num len bits s
  | .lr n rd rs1 => atomicRun c 0 .swap n rd len (rx s c rs1) 0 e s
  | .sc n rd rs1 rs2 => atomicRun c 1 .swap n rd len (rx s c rs1) (rx s c rs2) e s
  | .amo op n rd rs1 rs2 => atomicRun c 2 op n rd len (rx s c rs1) (rx s c rs2) e s
  | .fp op d rd rs1 rs2 rs3 rm => fpExec c op d rd rs1 rs2 rs3 rm len bits s
  | .illegal => illegal c bits s

/-- WFI ends once mip AND mie is not zero (R182). -/
def wfiEnds (c : Nat) (s : State) : State :=
  let k := coreOf s c
  if k.halted ∧ mipOf s c &&& k.ctx.mie.toNat ≠ 0 then setCore c { k with halted := false } s else s

/-- With dcsr.step the core halts again after one instruction (R513). -/
def stepDone (c : Nat) (s : State) : State :=
  if bit (dcsrOf s c) 2 ∧ !s.lcs.halted.contains c then debugHalt c 4 s else s

/-- An instruction of core `c` executes if the core runs. -/
def onCore (c : Nat) (f : State → State) (s : State) : State :=
  let s := wfiEnds c s
  if coreActive s c then stepDone c (f s) else s

/-- The core fetches the instruction at its pc, decodes it and executes it. -/
def executeNext (c : Nat) (e : CoreEnv) (s : State) : State :=
  onCore c (fun s =>
    match trigHit s c 2 (coreOf s c).ctx.pc with
    | some act => trigAct c (coreOf s c).ctx.pc act s
    | none =>
      let r := fetch c e s
      match r.2 with
      | none => r.1
      | some (bits, len) => instrRun c (if len = 2 then decode16 bits else decode32 bits) len bits e r.1) s

/-! ### Target ports (R75, R76) -/

/-- The fabric answers the access of core `c` at a port (R75): its load or store completes, or faults with the code. -/
def tportAnswer (q : TportReq) (r : Rsp) (v : DWord) (s : State) : State :=
  let s := { s with fab := { s.fab with tports := s.fab.tports.filter (· != q) } }
  let op : MemOp := ⟨q.isWrite, q.bytes, q.signed, q.fp⟩
  match r with
  | .okay => stepDone q.core (if q.isWrite then passInstr q.core q.len s else loadDone q.core op q.rd q.len v.toNat s)
  | _ => coreFault q.core (if q.isWrite then 2 else 1) (reasonOf r) q.addr (noteWinErr false q.port r.code q.core 0 q.addr s)

/-- FAB_WIN_CFG.TMO in nanoseconds: values below 64 act as 64 cycles of 2 ns. -/
def tportLimit (s : State) : Nat := 2 * max 64 (s.rf Reg.FAB_WIN_CFG 0 16)

/-- TARGET_PORT_TIMEOUT (R76): the oldest access at the port that has waited for the limit ends with TIMEOUT, fault 0x0B02. -/
def tportExpire (t : Nat) (s : State) : State :=
  match s.fab.tports.find? fun q => q.port == t && decide (q.start + tportLimit s ≤ s.now) with
  | some q => tportAnswer q .timeout 0 (raise 0x0B02 s)
  | none => s

/-- TARGET_PORT_RESPONSE: the fabric answers the access of a core; one that comes after the limit is discarded, and the access ends with TIMEOUT
(R76). -/
def tportRespond (t c : Nat) (r : Rsp) (v : DWord) (s : State) : State :=
  match s.fab.tports.find? fun q => q.port == t && q.core == c with
  | some q => if q.start + tportLimit s < s.now then tportAnswer q .timeout 0 (raise 0x0B02 s) else tportAnswer q r v s
  | none => s

/-- Accesses that wait at the target port of a region that is isolated complete at once with ISOLATED (R81). -/
def tportIsolated (s : State) : State :=
  s.fab.tports.foldl (fun s q => if isolated s (16 * q.port) ∧ s.fab.tports.contains q then tportAnswer q .isolated 0 s else s) s

end Sys2Proof.Machine
end

