-- ==== Sys2Proof/Machine/Rounds.lean ====
section
/-!
DEFINITION. Accesses of SRAM and DRAM that arrive in one cycle (R77, R250 to R256): what bars each, the order in which they are served, and what the
command's own returns.
-/

namespace Sys2Proof.Machine

/-- The bytes of a range lie in one region. -/
def oneZone (a n : Nat) : Bool := decide (1 ≤ n) && decide (n ≤ 16) && zoneOf a == zoneOf (a + n - 1)

/-- The DRAM window of a panel (PNL_DWIN), as offsets from the start of the DRAM user region. -/
def dramWindow (s : State) (p : Nat) : Nat × Nat :=
  let lo := s.rf (Reg.PNL_DWIN p) 16 9 * 0x100000
  (lo, lo + s.rf (Reg.PNL_DWIN p) 0 9 * 0x100000)

/-- Whether a core's access has machine-mode privilege. -/
def machineOf (s : State) : Initiator → Bool
  | .core c => dataPrv s c.val == 3
  | _ => true

/-- The response that an access of SRAM or DRAM gets before memory: DECODE where the region does not serve the initiator (R17, R18), ACCESS where
R363 turns a port away or a PCIe function leaves its panel's DRAM window (R368). -/
def memBars (s : State) (w : MemReq) : Rsp :=
  let win := match w.init with | .pcie f => dramWindow s (panelFor s (.pcie f)) | _ => (0, 0x17000000)
  if hostBarred s w.init then .access
  else if !servedAt s w.init (zoneOf w.addr) (w.rw == .write) (machineOf s w.init) then .decode
  else if inDramUser w.addr && !(decide (0x89000000 + win.1 ≤ w.addr) && decide (w.addr + w.bytes ≤ 0x89000000 + win.2)) then .access
  else .okay

/-- The kind of an access: 1 a read, 2 a write. -/
def memKind (w : MemReq) : Nat := if w.rw == .write then 2 else 1

/-- A value read from memory as its reader sees it: a core with its buffered stores laid over (R173). -/
def seenBy (i : Initiator) (a n : Nat) (r : State × Rsp × Nat) : State × Rsp × Nat :=
  match i with
  | .core c => (r.1, r.2.1, overlay r.1 c.val a n r.2.2)
  | _ => r

/-- An access of a memory, a register page or a queue port at its place: what it returns. A core's write follows those it has posted (R173). -/
def memServe (w : MemReq) (e : Ecc) (s : State) : State × Rsp × Nat :=
  match w.rw with
  | .write =>
    let s := drainFor w.init s
    let r := match zoneOf w.addr with
      | .page _ | .queue _ _ => busPut ⟨w.init, [], .calm⟩ (machineOf s w.init) w.addr w.bytes w.value.toNat .calm s
      | z => memPut w.init z w.addr (natLe w.value.toNat w.bytes) s
    (r.1, r.2, 0)
  | .read => match zoneOf w.addr with
    | .page _ | .queue _ _ => busGet w.init (machineOf s w.init) w.addr w.bytes .calm s
    | z => seenBy w.init w.addr w.bytes (memGet w.init z w.addr w.bytes e s)

/-- An access that something bars: what its sender sees (R19, R169). -/
def memDenied (w : MemReq) (s : State) : State :=
  if !oneZone w.addr w.bytes then failSeen w.init (memKind w) w.addr .decode s
  else if memBars s w ≠ .okay then failSeen w.init (memKind w) w.addr (memBars s w) s
  else pmpFault w.init (memKind w) w.addr s

/-- Whether memory is reached: the bytes lie in one region and nothing bars the access. -/
def memPasses (s : State) (w : MemReq) : Bool := oneZone w.addr w.bytes && !pmpBars s w.init (memKind w) w.addr w.bytes && memBars s w == .okay

/-- An access that reaches the memories: its sender runs, its bytes lie in one region of SRAM or DRAM, and nothing bars it. -/
def memLive (s : State) (w : MemReq) : Bool :=
  sends s w.init && (inSram w.addr || inDram w.addr) && memPasses s w

/-- An access of another sender in the cycle, with what that sender sees of a failure (R19). -/
def memOther (w : MemReq) (s : State) : State :=
  if !sends s w.init then s
  else if !memPasses s w then memDenied w s
  else
    let r := memServe w .none s
    let d := if w.rw == .read then [w64 r.2.2, w64 (r.2.2 / 2 ^ 64)] else []
    (failSeen w.init (memKind w) w.addr r.2.1 r.1).heard w.init r.2.1 d

/-- Other accesses of the cycle one after the other; the answer stays that of the command's own. -/
def memOthers (l : List MemReq) (s : State) : State :=
  let t := l.foldl (fun s w => memOther w s) s.meeting
  { t with ans := { s.ans with also := t.ans.also } }

/-- One access of the cycle, in its turn; what a read returns is kept for the command's own. -/
def memTurn (own : MemReq) (e : Ecc) (x : State × Rsp × Nat) (w : MemReq) : State × Rsp × Nat :=
  if w.init = own.init then memServe own e x.1 else (memOther w x.1, x.2)

/-- The accesses of one cycle in the order of R251 and R256: each read sees the writes served before it, and each contested SRAM bank's base
advances by one. -/
def memRound (own : MemReq) (also : List MemReq) (e : Ecc) (s : State) : State × Rsp × Nat :=
  let all := own :: also.filter (·.init != own.init)
  let order := all.foldl (fun l w => insReq (reqKey s) w l) []
  let r := order.foldl (memTurn own e) (if order.length ≤ 1 then s else s.meeting, .okay, 0)
  (turnBanks (all.filter (memLive s)) r.1, r.2)

/-- An access of SRAM or DRAM with those that reach the memories in the same cycle. -/
def memAccess (own : MemReq) (also : List MemReq) (e : Ecc) (s : State) : State :=
  if !sends s own.init then s
  else if !memPasses s own then
    memOthers (also.filter (·.init != own.init)) (memDenied own (s.answer (if oneZone own.addr own.bytes then memBars s own else .decode)))
  else
    let r := memRound own also e s
    let d := if own.rw == .read then [w64 r.2.2, w64 (r.2.2 / 2 ^ 64)] else []
    failSeen own.init (memKind own) own.addr r.2.1 (r.1.answer r.2.1 d)

/-- The bytes of a range that are enabled, as maximal runs with their addresses. -/
def enabledRuns (a : Nat) : List (Bool × Byte) → List (Nat × List Byte)
  | [] => []
  | (false, _) :: l => enabledRuns (a + 1) l
  | (true, b) :: l => match enabledRuns (a + 1) l with
    | (x, bs) :: r => if x = a + 1 then (a, b :: bs) :: r else (a, [b]) :: (x, bs) :: r
    | [] => [(a, [b])]

end Sys2Proof.Machine
end

