-- ==== Sys2Proof/Machine/Fabric.lean ====
section
/-!
DEFINITION. What passes between the module and the logic loaded in the fabric (R53, R63 to R81): guarded BRAM, DLLs and clock buffers,
Needle lines, parameter words, the fabric window's initiator ports, partner ports. What the logic itself computes is the loaded
design's: it comes in with the commands.
-/

namespace Sys2Proof.Machine

def FAB_PAGE : Nat := 0x0B

/-! ### Guarded BRAM (R53) -/

/-- A port-1 read of a guarded word, `flips` being the bits of the 72 that have gone wrong since it was last read; nothing in a block of another mode,
or while its region is isolated. The answer is the word delivered, and 0, 1 (CORR) or 2 (UNCORR). -/
def guardedAccess (block word : Nat) (flips : BitVec 72) (s : State) : State :=
  if isolated s (block / 24) ∨ (bramCfgOf s block).mode ≠ .guarded then s
  else
    let key := block * 512 + word
    let r := guardedRead key (setErr key (errOf s key ^^^ flips) s)
    let v : BitVec 72 := r.2.1.setWidth 72
    (hstScan (bramPush block 1 false v v r.1)).answer .okay [r.2.1] r.2.2

/-! ### DLLs and clock buffers (R63, R64) -/

/-- A STEP pulse: all four taps move by 1/256 of the period, later where `later` is true; ignored until the step before is acknowledged. -/
def dllStep (d : Nat) (later : Bool) (s : State) : State :=
  let x := dllOf s d
  if dllRuns s d ∧ x.step.isNone then
    (setDll d { x with step := some later } s).wf (Reg.CLK_DLL_PHASE d) 0 8 (s.rf (Reg.CLK_DLL_PHASE d) 0 8 + (if later then 1 else 255))
  else s

/-- STEP_DONE. -/
def dllStepDone (d : Nat) (s : State) : State := setDll d { dllOf s d with step := none } s

/-- A DLL completes alignment: T0 is aligned with FB, with no phase shift. -/
def dllAligned (d : Nat) (s : State) : State :=
  let x := dllOf s d
  if dllRuns s d ∧ !x.aligned then (setDll d { x with aligned := true } s).wf (Reg.CLK_DLL_PHASE d) 0 8 0 else s

/-- A global buffer as the fabric sets it: its output is the selected clock while enabled, else low. -/
def bufSet (n : Nat) (f : GBuf → GBuf) (s : State) : State :=
  let x := f (sget (fun _ => GBuf.reset) s.fab.gbufs n)
  let y := { x with out := if x.en then some x.sel else none }
  { s with fab := { s.fab with gbufs := sset (fun _ => GBuf.reset) s.fab.gbufs n y } }

/-! ### Needle lines and parameter words (R65 to R68) -/

/-- A rising edge on a Needle line: one event to Bobbin, unless its region is isolated (R67) or the FAB page disabled (R22). -/
def needleEdge (n : Nat) (s : State) : State := if isolated s (n / 32) ∨ !isEnabled s FAB_PAGE then s else event n s

/-- The capture unit of a region presents all 64 words with PARAM_UPD, at its capture-clock edge after the apply tick or release. -/
def paramCapture (r : Nat) (s : State) : State :=
  if s.fab.paramPend.getLsbD r ∧ !isolated s r ∧ isEnabled s FAB_PAGE then
    let s := { s with fab := { s.fab with paramPend := s.fab.paramPend &&& ~~~(BitVec.twoPow 128 r) } }
    if Config.captureBound (markFrames s.fab.latch r) then
      let words := (List.range 64).foldl (fun m n => sset (fun _ => 0) m (64 * r + n) (s.rg (Reg.FAB_PARAM n))) s.fab.params
      { s with fab := { s.fab with params := words, paramUpd := sset (fun _ => 0) s.fab.paramUpd r (sget (fun _ => 0) s.fab.paramUpd r + 1) } }
    else s
  else s

/-! ### The fabric window's initiator ports (R70 to R77) -/

/-- The place of a port in the rotated order of the data path to the controller die (R77). -/
def pathPlace (s : State) : Initiator → Nat
  | .win p => (p.val + 8 - s.fab.pathIn) % 8
  | _ => 8

/-- The accesses of other ports that ask for the data path in the same cycle. -/
def pathRivals (q : WinReq) (s : State) : List MemReq :=
  q.rivals.filter fun w => pathPlace s w.init != 8 && w.init != .win q.port && sends s w.init

/-- A request in its turn on the data path (R77): the rivals whose ports stand before its own are served first, the others after it; a contested
cycle rotates the order by one. -/
def inTurn (q : WinReq) (act : State → State) (s : State) : State :=
  let l := pathRivals q s
  let first := l.filter fun w => pathPlace s w.init < pathPlace s (.win q.port)
  let later := l.filter fun w => !first.contains w
  if l.isEmpty then act s
  else
    let t := memOthers first { s with fab := { s.fab with pathIn := (s.fab.pathIn + 1) % 8 } }
    memOthers later (act t)

/-- The first byte of the request's first beat: beats are 16 bytes wide and aligned. -/
def winBase (q : WinReq) : Nat := q.addr.toNat / 16 * 16

/-- A request that R71 refuses with DECODE: of a code that is no command's, of no beats or more than 16, or one that would cross a 4 KiB boundary. -/
def winBad (q : WinReq) : Bool :=
  q.unknown.isSome || q.beats.isEmpty || decide (16 < q.beats.length) || decide (4096 < winBase q % 4096 + 16 * q.beats.length)

/-- The pieces in which a request is performed: registers by 4 bytes, everything else by 8. -/
def winUnit (q : WinReq) : Nat := match zoneOf (winBase q) with | .page _ => 4 | _ => 8

/-- The pieces of a request with at least one byte enabled: their place, their enables, their data, and what each meets. -/
def winPieces (q : WinReq) : List (Nat × Nat × Nat × BeatEnv) :=
  let u := winUnit q
  let all := (q.beats.zipIdx.map fun x =>
    (List.range (16 / u)).map fun k =>
      (16 * x.2 + u * k, nfld x.1.enables.toNat (u * k) u, nfld x.1.data.toNat (8 * u * k) (8 * u))).flatten
  let live := all.filter fun x => x.2.1 != 0
  live.zipIdx.map fun x => (x.1.1, x.1.2.1, x.1.2.2, q.meets.getD x.2 .calm)

/-- A response code stays at the first that is not OKAY. -/
def firstBad (a b : Rsp) : Rsp := if a = .okay then b else a

/-- A request that ends with a code: FAB_WIN_ERR where it is an error (R72, R75), and the answer. A request that has isolated its own port's region gets
no response (R81). -/
def winEnd (q : WinReq) (r : Rsp) (d : List DWord) (s : State) : State :=
  let s := if r = .okay then s else noteWinErr true q.port.val r.code 0 q.tag.val q.addr.toNat s
  if isolated s (16 * q.port.val) then s.answer .okay else s.answer r d r.code

/-- The initiator of a request. -/
def winInit (q : WinReq) : Initiator := .win q.port

/-- RD: the pieces read in ascending order; a piece of a page or a queue port not enabled whole fails with ACCESS. -/
def winRead (q : WinReq) (s : State) : State :=
  if !sends s (winInit q) then s
  else inTurn q (fun s =>
    if winBad q then winEnd q .decode [] s
    else
      let u := winUnit q
      let whole := 2 ^ u - 1
      let strict : Bool := match zoneOf (winBase q) with | .page _ | .queue _ _ => true | _ => false
      let r := (winPieces q).foldl (fun (x : State × Rsp × List DWord) p =>
          if strict ∧ p.2.1 ≠ whole then (x.1, firstBad x.2.1 .access, x.2.2)
          else
            let y := busGet (winInit q) false (winBase q + p.1) u p.2.2.2 x.1
            (y.1, firstBad x.2.1 y.2.1, x.2.2 ++ [w64 y.2.2])) (s, Rsp.okay, [])
      winEnd q r.2.1 r.2.2 r.1) s

/-- The enabled bytes of a piece written one by one in memory. -/
def winBytes (q : WinReq) (z : Zone) (p : Nat × Nat × Nat × BeatEnv) (s : State) : State × Rsp :=
  (bitsOf 8 p.2.1).foldl (fun (x : State × Rsp) k =>
    let y := memPut (winInit q) z (winBase q + p.1 + k) [BitVec.ofNat 8 (nfld p.2.2.1 (8 * k) 8)] x.1
    (y.1, firstBad x.2 y.2)) (s, .okay)

/-- One piece of WR_P and WR_NP written, in its turn, with the response code so far; the other register writes of the cycle meet the first. -/
def winStore (q : WinReq) (x : State × Rsp) (y : (Nat × Nat × Nat × BeatEnv) × Nat) : State × Rsp :=
  let p := y.1
  let u := winUnit q
  let a := winBase q + p.1
  let z := zoneOf a
  let whole : Bool := p.2.1 == 2 ^ u - 1
  let paged : Bool := match z with | .page _ | .queue _ _ => true | _ => false
  if !servedAt x.1 (winInit q) z true false then (x.1, firstBad x.2 .decode)
  else if paged && !whole then (x.1, firstBad x.2 .access)
  else
    let y :=
      if paged then busPut ⟨winInit q, if y.2 = 0 then q.others else [], q.reg⟩ false a u p.2.2.1 p.2.2.2 x.1
      else if whole then memPut (winInit q) z a (natLe p.2.2.1 u) x.1
      else winBytes q z p x.1
    (y.1, firstBad x.2 y.2)

/-- The writes of WR_P and WR_NP, in ascending order, with the response code. -/
def winStores (q : WinReq) (s : State) : State × Rsp := (winPieces q).zipIdx.foldl (winStore q) (s, Rsp.okay)

/-- WR_P and WR_NP. A posted write is given no response: its answer is OKAY with nothing in it (R72). -/
def winWrite (posted : Bool) (q : WinReq) (s : State) : State :=
  if !sends s (winInit q) then s
  else inTurn q (fun s =>
    let r : State × Rsp := if winBad q then (s, .decode) else winStores q s
    let t := winEnd q r.2 [] r.1
    if posted then t.answer .okay else t) s

/-- The atomic commands of an initiator port. -/
inductive WinAtomic where
  | swap | add | cas
  deriving DecidableEq, Repr

/-- What an atomic command stores, from the old value, the first 8 bytes of the beat and the next 8; none: nothing. -/
def WinAtomic.store (op : WinAtomic) (old lo hi : Nat) : Option Nat :=
  match op with
  | .swap => some lo
  | .add => some (old + lo)
  | .cas => if old = lo then some hi else none

/-- An atomic command served in SRAM or DRAM (R74): the response returns the old value; any reservation it touches is cleared. -/
def winAtomicAt (op : WinAtomic) (n a : Nat) (q : WinReq) (s : State) : State :=
  let beat := (q.beats.getD 0 ⟨0, 0⟩).data.toNat
  let z := zoneOf a
  let r := memGet (winInit q) z a n ((q.meets.getD 0 .calm).ecc) (dropResv none a n s)
  if r.2.1 ≠ .okay then winEnd q r.2.1 [] r.1
  else
    let t := match op.store r.2.2 (nfld beat 0 (8 * n)) (nfld beat 64 (8 * n)) with
      | some v => (memPut (winInit q) z a (natLe v n) r.1).1
      | none => r.1
    winEnd q .okay [w64 r.2.2] t

/-- An atomic command (R71, R74) of 4 or 8 bytes, at the aligned place that holds its address; outside shared SRAM and the DRAM user region it is
refused with ACCESS. DESIGN CHOICE (log 69): the operand of AMO_SWAP and AMO_ADD, and the compare value of a 4-byte AMO_CAS, are the first bytes
of the beat whatever the address. -/
def winAtomic (op : WinAtomic) (wide : Bool) (q : WinReq) (s : State) : State :=
  if !sends s (winInit q) then s
  else inTurn q (fun s =>
    let n := if wide then 8 else 4
    let a := q.addr.toNat / n * n
    if winBad q then winEnd q .decode [] s
    else match zoneOf a with
      | .sram | .dram => winAtomicAt op n a q s
      | _ => winEnd q .access [] s) s

/-! ### Partner ports (R78 to R81) -/

/-- The region of a partner port. -/
def ppRegion (p : Nat) : Nat := 16 * (p / 2) + 1

/-- LINK_UP of a port as the module takes it: 0 while its region is isolated. -/
def ppUp (s : State) (p : Nat) : Bool := s.fab.linkUp.getLsbD p && !isolated s (ppRegion p)

/-- The bytes of a port's frames in its buffer towards the fabric. -/
def ppFilled (s : State) (p : Nat) : Nat := ((s.fab.ppTx.filter (·.1 == p)).map (·.2.length)).sum

/-- Frames that wait for room enter the 4 KiB buffers in their order (R78). -/
def ppMove (s : State) : State :=
  s.fab.ppWait.foldl (fun s f =>
    if ppFilled s f.1 + f.2.length ≤ 4096 ∧ !(s.fab.ppWait.any (·.1 == f.1)) then { s with fab := { s.fab with ppTx := s.fab.ppTx ++ [f] } }
    else { s with fab := { s.fab with ppWait := s.fab.ppWait ++ [f] } }) { s with fab := { s.fab with ppWait := [] } }

/-- A frame is discarded: FAB_PP_DISCARD, IRQ source PP_DISCARD. -/
def ppDiscard (p reason : Nat) (s : State) : State :=
  irq FAB_PAGE 3 (((s.incSat Reg.FAB_PP_DISCARD 0 16).wf Reg.FAB_PP_DISCARD 16 4 p).wf Reg.FAB_PP_DISCARD 20 2 reason)

/-- The bytes of a partner port's frames that the session engine has not taken. -/
def ppWaiting (s : State) (p : Nat) : Nat := ((s.ses.inbox.filter (·.1 == 8 + p)).map (·.2.length)).sum

/-- A frame from the fabric ends, or is cut off. -/
def ppFrame (p : Nat) (l : List Byte) (cut : Bool) (s : State) : State :=
  if !isEnabled s FAB_PAGE then s
  else if cut ∨ !ppUp s p then ppDiscard p 3 s
  else if l.length < 16 then ppDiscard p 0 s
  else if 4096 < l.length then ppDiscard p 1 s
  else if 4096 < ppWaiting s p + l.length then ppDiscard p 2 s
  else postFrame (8 + p) l s

/-- The oldest frame for the fabric leaves through the port; the answer is its bytes. -/
def ppSend (p : Nat) (s : State) : State :=
  if !ppUp s p ∨ !isEnabled s FAB_PAGE then s
  else match s.fab.ppTx.find? (·.1 == p) with
    | none => s
    | some f => (ppMove { s with fab := { s.fab with ppTx := s.fab.ppTx.erase f } }).answer .okay (f.2.map (·.setWidth 64))

/-- The fabric changes LINK_UP of a port. -/
def ppLink (p : Nat) (up : Bool) (s : State) : State :=
  if isolated s (ppRegion p) ∨ !isEnabled s FAB_PAGE ∨ s.fab.linkUp.getLsbD p = up then s
  else irq FAB_PAGE 4 { s with fab := { s.fab with linkUp := s.fab.linkUp ^^^ BitVec.twoPow 16 p } }

/-! ### Isolation (R81) -/

/-- A port whose region is isolated has no link. -/
def ppDrop (p : Nat) (s : State) : State :=
  if s.fab.linkUp.getLsbD p ∧ isolated s (ppRegion p) then
    irq FAB_PAGE 4 { s with fab := { s.fab with linkUp := s.fab.linkUp &&& ~~~(BitVec.twoPow 16 p) } }
  else s

/-- What a change of isolation brings at once: accesses that wait at target ports end with ISOLATED, partner ports lose their link. -/
def isolationSettles (s : State) : State := (List.range 16).foldl (fun s p => ppDrop p s) (tportIsolated s)

end Sys2Proof.Machine
end

