-- ==== Sys2Proof/Machine/HostPort.lean ====
section
/-!
DEFINITION. Requests of the host ports: the register, queue and memory operations of quad-SPI and session requests (R377, R379, R486), and
PCIe requests to the BARs, the configuration space and the mailboxes (R364 to R372), held while the module is in NAP (R382).
-/

namespace Sys2Proof.Machine

/-! ### The operations of R377 -/

/-- A loop over words that stops at the first failure: the state, the code, the words done, the bytes read. -/
abbrev Loop := State × Rsp × Nat × List Byte

/-- One more word of a loop: `f` gives the state, the code and the bytes read. -/
def Loop.next (f : State → State × Rsp × List Byte) (x : Loop) : Loop :=
  if x.2.1 ≠ .okay then x
  else
    let r := f x.1
    match r.2.1 with
    | .okay => (r.1, .okay, x.2.2.1 + 1, x.2.2.2 ++ r.2.2)
    | q => (r.1, q, x.2.2.1, x.2.2.2)

/-- The result of a loop, with N in `w` bytes. -/
def Loop.done (w : Nat) (x : Loop) : PortRes := (x.1, statusOf x.2.1, natLe x.2.2.1 w ++ x.2.2.2)

/-- RD_REG and WR_REG name a range of the register space. -/
def regRange (a n : Nat) : Bool := decide (1 ≤ n) && decide (n ≤ 64) && a % 4 == 0 && decide (a + 4 * n ≤ 0x100000)

/-- RD_REG. -/
def rdReg (i : Initiator) (body : List Byte) (s : State) : PortRes :=
  let a := leNat (body.take 4)
  let n := (body.getD 4 0).toNat
  if body.length ≠ 5 ∨ !regRange a n then (s, 0x11, [])
  else
    ((List.range n).foldl (fun x k => Loop.next (fun s =>
      let r := pageGet i (a + 4 * k) 4 s
      (r.1, r.2.1, natLe r.2.2 4)) x) (s, .okay, 0, [])).done 1

/-- WR_REG. -/
def wrReg (i : Initiator) (body : List Byte) (env : HostEnv) (s : State) : PortRes :=
  let a := leNat (body.take 4)
  let n := (body.getD 4 0).toNat
  if !regRange a n ∨ body.length ≠ 5 + 4 * n then (s, 0x11, [])
  else
    ((List.range n).foldl (fun x k => Loop.next (fun s =>
      let acc : Acc := ⟨i, if k = 0 then env.others else [], env.reg.getD k .calm⟩
      let r := pagePut acc (a + 4 * k) 4 (leNat ((body.drop (5 + 4 * k)).take 4)) s
      (r.1, r.2, [])) x) (s, .okay, 0, [])).done 1

/-- A count of words from 1 to 512. -/
def wordCount (n : Nat) : Bool := decide (1 ≤ n) && decide (n ≤ 512)

/-- Q_PUSH by an initiator for a panel (the queue's class is the initiator's). -/
def qPush (i : Initiator) (panel : Nat) (body : List Byte) (env : HostEnv) (s : State) : PortRes :=
  let q := (body.getD 0 0).toNat
  let n := leNat ((body.drop 1).take 2)
  if 64 ≤ q ∨ !wordCount n ∨ body.length ≠ 3 + 8 * n then (s, 0x11, [])
  else
    ((List.range n).foldl (fun x k => Loop.next (fun s =>
      let r := quePut i panel q 0 8 (leNat ((body.drop (3 + 8 * k)).take 8)) (env.beats.getD k .calm) s
      (r.1, r.2, [])) x) (s, .okay, 0, [])).done 2

/-- Whether a pop of a queue by an initiator would take a word (R302): the words its side sees, `lag` of the last not yet. -/
def popTakes (i : Initiator) (q lag : Nat) (s : State) : Bool :=
  let t := consReady q (seeWrites q lag s)
  queOn t q && isCons t q i && (queOf t q).flush.isNone && ((queOf t q).errWord.isSome || (nextPlace t q).isSome)

/-- One word of Q_POP, in its turn; the mark says that a pop would return no word. -/
def qPopOne (i : Initiator) (panel q : Nat) (env : HostEnv) (x : Loop × Bool) (k : Nat) : Loop × Bool :=
  let b := env.beats.getD k .calm
  if x.2 then x
  else if isCons x.1.1 q i ∧ queLets x.1.1 q panel i ∧ x.1.2.1 = .okay ∧ !popTakes i q b.lag x.1.1 then (x.1, true)
  else (Loop.next (fun s =>
    let r := queGet i panel q 0x800 8 b s
    (r.1, r.2.1, natLe r.2.2 8)) x.1, false)

/-- Q_POP: it stops without an error where a pop would return no word. -/
def qPop (i : Initiator) (panel : Nat) (body : List Byte) (env : HostEnv) (s : State) : PortRes :=
  let q := (body.getD 0 0).toNat
  let n := leNat ((body.drop 1).take 2)
  if 64 ≤ q ∨ !wordCount n ∨ body.length ≠ 3 then (s, 0x11, [])
  else
    let r := (List.range n).foldl (qPopOne i panel q env) (((s, .okay, 0, []) : Loop), false)
    r.1.done 2

/-- Q_CMD: the port command, then QUE_PORT_STATUS as the port sees it. -/
def qCmd (i : Initiator) (panel : Nat) (body : List Byte) (env : HostEnv) (s : State) : PortRes :=
  let q := (body.getD 0 0).toNat
  let op := (body.getD 1 0).toNat
  if 64 ≤ q ∨ op = 0 ∨ 5 < op ∨ body.length ≠ 2 then (s, 0x11, [])
  else
    let b := env.beats.getD 0 .calm
    let r := quePut i panel q 0xF10 8 op b s
    let t := queGet i panel q 0xF18 8 b r.1
    (t.1, statusOf r.2, natLe t.2.2 8)

/-- WR_MEM and RD_MEM are served: the recovery port in the SAFE of R118 (R379). -/
def memServed (s : State) (i : Initiator) : Bool := s.mode == .safe && s.pat.recovery && isRecoveryPort s i

/-- The fields of WR_MEM and RD_MEM: none where they may act, else the STATUS. -/
def memFields (a n : Nat) : Option Nat :=
  if !wordCount n then some 0x11 else if a % 8 ≠ 0 ∨ !inUserMem a (8 * n) then some 1 else none

/-- WR_MEM. -/
def wrMem (i : Initiator) (body : List Byte) (s : State) : PortRes :=
  let a := leNat (body.take 4)
  let n := leNat ((body.drop 4).take 2)
  if !memServed s i then (s, 2, [0, 0])
  else if body.length ≠ 6 + 8 * n then (s, 0x11, [])
  else match memFields a n with
    | some c => (s, c, if c = 0x11 then [] else [0, 0])
    | none =>
      ((List.range n).foldl (fun x k => Loop.next (fun s =>
        let r := memPut i (zoneOf a) (a + 8 * k) ((body.drop (6 + 8 * k)).take 8) s
        (r.1, r.2, [])) x) (s, .okay, 0, [])).done 2

/-- RD_MEM. -/
def rdMem (i : Initiator) (body : List Byte) (env : HostEnv) (s : State) : PortRes :=
  let a := leNat (body.take 4)
  let n := leNat ((body.drop 4).take 2)
  if !memServed s i then (s, 2, [0, 0])
  else if body.length ≠ 6 then (s, 0x11, [])
  else match memFields a n with
    | some c => (s, c, if c = 0x11 then [] else [0, 0])
    | none =>
      ((List.range n).foldl (fun x k => Loop.next (fun s =>
        let r := memGet i (zoneOf a) (a + 8 * k) 8 ((env.beats.getD k .calm).ecc) s
        (r.1, r.2.1, natLe r.2.2 8)) x) (s, .okay, 0, [])).done 2

/-! ### Quad-SPI requests -/

/-- The opcode of a request: the row's own, or the unknown one it carries (R377, R378). -/
def opcodeOf (opc : Nat) (r : QspiReq) : Nat :=
  match r.unknown with
  | some u => if 1 ≤ u.toNat ∧ u.toNat ≤ 10 then opc else u.toNat
  | none => opc

/-- The response body of a request that R363 turns away: the counts of R377 at 0. -/
def barredBody (opc : Nat) : List Byte :=
  match opc with
  | 1 | 2 => natLe 0 1
  | 3 | 4 | 7 | 9 | 10 => natLe 0 2
  | 5 => natLe 0 8
  | 8 => natLe 0 4
  | _ => []

/-- What a request with opcode `opc` gives (R363, R378): ACCESS where the port is turned away, BAD_ARG for an unknown opcode, else what `run` does. -/
def qspiServe (opc : Nat) (r : QspiReq) (run : Initiator → State → PortRes) (s : State) : PortRes :=
  if hostBarred s (.qspi r.port) then (s, 2, barredBody (opcodeOf opc r))
  else if opcodeOf opc r ≠ opc then (s, 0x11, [])
  else run (.qspi r.port) s

/-- A quad-SPI request with opcode `opc`, carried out by `run`. In NAP the fall of CS_N wakes the module and the request is ignored
(R382). -/
def qspiReq (opc : Nat) (r : QspiReq) (run : Initiator → State → PortRes) (s : State) : State :=
  if s.mode = .nap ∧ s.rb (Reg.HST_QSPI_CFG r.port.val) 0 then wakeEvent (10 + r.port.val) 0 s
  else qspiRun r.port.val (opcodeOf opc r) r.tag.toNat r.crc r.body (qspiServe opc r run) s

/-- A request with an empty body (S_RECV, PORT_STATUS). -/
def bareReq (body : List Byte) (run : State → PortRes) (s : State) : PortRes :=
  if body.isEmpty then run s else (s, 0x11, [])

/-- S_SEND: LEN, then the frame. -/
def sSendReq (q : Nat) (body : List Byte) (s : State) : PortRes :=
  if body.length ≠ 2 + leNat (body.take 2) then (s, 0x11, []) else sSend q (body.drop 2) s

/-- PORT_STATUS. -/
def portStatusReq (q : Nat) (s : State) : PortRes := (s, 0, natLe (portStatusWord s q) 4)

/-! ### PCIe requests -/

/-- A failed PCIe request (R19): a write is recorded in PNL_ERR, a read answered with Completer Abort and logged in AER. -/
def pcieFail (f : Fin 4) (rw : Rw) (addr : Nat) (r : Rsp) (s : State) : State :=
  match rw with
  | .write => (noteHostErr f addr r s).answer r
  | .read => (aerAbort f.val s).answer r

/-- One dword of a BAR0 request, in its turn: the state, the code and address so far, the values read. -/
def bar0One (q : PcieReq) (x : State × Rsp × Nat × List DWord) (d : (BitVec 4 × Word) × Nat) : State × Rsp × Nat × List DWord :=
  if x.2.1 ≠ .okay then x
  else
    let o := q.off + 4 * d.2
    let a := 0x60000000 + o
    if d.1.1 ≠ (15 : BitVec 4) then (x.1, .access, a, x.2.2.2)
    else match q.rw with
      | .read =>
        let r := pageGet (.pcie q.fn) o 4 x.1
        (r.1, r.2.1, a, x.2.2.2 ++ [w64 r.2.2])
      | .write =>
        let r := pagePut ⟨.pcie q.fn, if d.2 = 0 then q.others else [], q.reg.getD d.2 .calm⟩ o 4 d.1.2.toNat x.1
        (r.1, r.2, a, x.2.2.2)

/-- The DWs of a BAR0 request, one after the other up to the first that fails: the state, the code, the address of the failure, the words
read. -/
def bar0Run (q : PcieReq) (s : State) : State × Rsp × Nat × List DWord := q.dws.zipIdx.foldl (bar0One q) (s, .okay, 0, [])

/-- A BAR0 request (R366). -/
def bar0 (q : PcieReq) (s : State) : State :=
  let base := 0x60000000 + q.off
  if q.poisoned ∧ q.rw = .write then pcieFail q.fn .write base .ecc (aerError q.fn.val true 12 s)
  else if q.off % 4 ≠ 0 ∨ 0x100000 < q.off + 4 * q.dws.length then pcieFail q.fn q.rw base .decode s
  else if q.rw = .read ∧ 16 < q.dws.length then pcieFail q.fn .read base .access s
  else
    let r := bar0Run q s
    if r.2.1 = .okay then r.1.answer .okay r.2.2.2 else pcieFail q.fn q.rw r.2.2.1 r.2.1 r.1

/-- A BAR4 request (R365, R368), with the accesses that reach DRAM in the same cycle in the order of R256. -/
def bar4 (q : PcieReq) (s : State) : State :=
  let n := 4 * q.dws.length
  let a := 0x89000000 + q.off
  let w := dramWindow s (panelFor s (.pcie q.fn))
  let also := q.also.filter (·.init != .pcie q.fn)
  if q.poisoned ∧ q.rw = .write then memOthers also (pcieFail q.fn .write a .ecc (aerError q.fn.val true 12 s))
  else if 0x17000000 < q.off + n then memOthers also (pcieFail q.fn q.rw a .decode s)
  else if q.off < w.1 ∨ w.2 < q.off + n then memOthers also (pcieFail q.fn q.rw a .access s)
  else
    let first := also.filter fun w => dramReq w.init < dramReq (.pcie q.fn)
    let later := also.filter fun w => !first.contains w
    let s := memOthers first s
    match q.rw with
    | .write =>
      let bytes := q.dws.flatMap fun d => (List.range 4).map fun k => (d.1.getLsbD k, BitVec.ofNat 8 (nfld d.2.toNat (8 * k) 8))
      (memOthers later ((enabledRuns a bytes).foldl (fun s r => putBytes r.1 r.2 s) s)).answer .okay
    | .read =>
      let r := memGet (.pcie q.fn) .dram a n q.ecc s
      let t := memOthers later r.1
      if r.2.1 = .okay then t.answer .okay ((chunks 4 q.dws.length (natLe r.2.2 n)).map w64) else pcieFail q.fn .read a r.2.1 t

/-- A beat of a PCIe function at a queue's data port (R303, R367). -/
def bar2Queue (f : Fin 4) (que : Fin 64) (off : Nat) (rw : Rw) (v : DWord) (b : BeatEnv) (s : State) : State :=
  let a := 0x70000000 + que.val * 0x1000 + 8 * off
  match rw with
  | .write =>
    let r := quePut (.pcie f) (panelFor s (.pcie f)) que.val (8 * off) 8 v.toNat b s
    if r.2 = .okay then r.1.answer .okay else pcieFail f .write a r.2 r.1
  | .read =>
    let r := queGet (.pcie f) (panelFor s (.pcie f)) que.val (8 * off) 8 b s
    if r.2.1 = .okay then r.1.answer .okay [w64 r.2.2] else pcieFail f .read a r.2.1 r.1

/-- The DWs of a BAR2 request by what they reach: beats of 8 bytes at the queues, else single DWs (R367). -/
def bar2Beats (off : Nat) : List (BitVec 4 × Word) → List (Nat × List (BitVec 4 × Word))
  | [] => []
  | [d] => [(off, [d])]
  | d :: e :: l => if off < 0x40000 then (off, [d, e]) :: bar2Beats (off + 8) l else (off, [d]) :: bar2Beats (off + 4) (e :: l)

/-- A DW of BAR2 beyond the queues as it reads (R367); none: an unused offset. What is write only reads 0. -/
def bar2Word (s : State) (f : Fin 4) (o : Nat) : Option Nat :=
  let x := fnOf s f
  let frame := x.out.headD []
  if 0x40000 ≤ o ∧ o < 0x40400 then some (msixWord s f ((o - 0x40000) / 4)).toNat
  else if o = 0x40800 ∨ o = 0x40804 then some (nfld x.pba.toNat (8 * (o - 0x40800)) 32)
  else if 0x41000 ≤ o ∧ o < 0x42000 then some 0
  else if 0x42000 ≤ o ∧ o < 0x43000 then some (leNat ((frame.drop (o - 0x42000)).take 4))
  else if o = 0x43000 ∨ o = 0x43008 then some 0
  else if o = 0x43004 then some frame.length
  else if o = 0x4300C then some (b2n (inBusy s f) + 2 * b2n (!x.out.isEmpty))
  else none

/-- The enabled bytes of a DW laid over a word. -/
def mergeDw (be : BitVec 4) (v old : Word) : Word :=
  w32 (leNat ((List.range 4).map fun k => BitVec.ofNat 8 (if be.getLsbD k then nfld v.toNat (8 * k) 8 else nfld old.toNat (8 * k) 8)))

/-- A write of a DW of BAR2 beyond the queues (R367, R370, R371). DEDUCED (log 116): what is read only ignores writes; a mailbox register takes a whole
DW (R7). -/
def bar2Put (f : Fin 4) (o : Nat) (be : BitVec 4) (v : Word) (s : State) : State × Rsp :=
  if (bar2Word s f o).isNone then (s, .decode)
  else if o < 0x40400 then
    let i := (o - 0x40000) / 4
    (msixWrite f i (mergeDw be v (msixWord s f i)) s, .okay)
  else if 0x41000 ≤ o ∧ o < 0x42000 then
    let l := ((List.range 4).filter be.getLsbD).map fun k => (o - 0x41000 + k, BitVec.ofNat 8 (nfld v.toNat (8 * k) 8))
    let r := mbxPut f l s
    (r.1, if r.2 then .okay else .access)
  else if o < 0x43000 then (s, .okay)
  else if be ≠ (15 : BitVec 4) then (s, .access)
  else if o = 0x43000 then
    let r := mbxPost f v.toNat s
    (r.1, if r.2 then .okay else .access)
  else if o = 0x43008 then (mbxDone f v s, .okay)
  else (s, .okay)

/-- The address of an offset in BAR2: of a queue's data port; elsewhere, where the module gives none, the offset. -/
def bar2Addr (o : Nat) : Nat := if o < 0x40000 then 0x70000000 + o else o

/-- One queue beat, or DW, of a BAR2 request in its turn: the state, the code and address so far, the values read. -/
def bar2One (q : PcieReq) (x : State × Rsp × Nat × List DWord) (d : (Nat × List (BitVec 4 × Word)) × Nat) : State × Rsp × Nat × List DWord :=
  if x.2.1 ≠ .okay then x
  else
    let o := d.1.1
    let a := bar2Addr o
    let fn : Initiator := .pcie q.fn
    let b := q.beats.getD d.2 .calm
    let ends := fun (r : State × Rsp) => (r.1, r.2, a, x.2.2.2)
    match d.1.2 with
    | [lo, hi] =>
      if o % 8 ≠ 0 ∨ lo.1 ≠ (15 : BitVec 4) ∨ hi.1 ≠ (15 : BitVec 4) then (x.1, .access, a, x.2.2.2)
      else match q.rw with
        | .write => ends (quePut fn (panelFor x.1 fn) (o / 0x1000) (o % 0x1000) 8 (lo.2.toNat + hi.2.toNat * 2 ^ 32) b x.1)
        | .read =>
          let r := queGet fn (panelFor x.1 fn) (o / 0x1000) (o % 0x1000) 8 b x.1
          (r.1, r.2.1, a, x.2.2.2 ++ [w64 (nfld r.2.2 0 32), w64 (nfld r.2.2 32 32)])
    | [w] =>
      if o % 4 ≠ 0 ∨ o < 0x40000 then (x.1, .access, a, x.2.2.2)
      else match q.rw with
        | .write => ends (bar2Put q.fn o w.1 w.2 x.1)
        | .read => match bar2Word x.1 q.fn o with
          | some v => (x.1, .okay, a, x.2.2.2 ++ [w64 v])
          | none => (x.1, .decode, a, x.2.2.2)
    | _ => x

/-- A BAR2 request (R365, R367), with the failure rule of R366. -/
def bar2 (q : PcieReq) (s : State) : State :=
  if q.poisoned ∧ q.rw = .write then pcieFail q.fn .write (bar2Addr q.off) .ecc (aerError q.fn.val true 12 s)
  else
    let r := (bar2Beats q.off q.dws).zipIdx.foldl (bar2One q) (s, .okay, 0, [])
    if r.2.1 = .okay then r.1.answer .okay r.2.2.2 else pcieFail q.fn q.rw r.2.2.1 r.2.1 r.1

/-- The function of a request, its direction, and the address recorded where R363 turns it away. -/
def pcieSource : PcieCmd → Fin 4 × Rw × Nat
  | .mem q => (q.fn, q.rw, match q.bar with | .bar0 => 0x60000000 + q.off | .bar2 => bar2Addr q.off | .bar4 => 0x89000000 + q.off)
  | .queue f q o rw _ _ => (f, rw, 0x70000000 + q.val * 0x1000 + 8 * o.val)
  | .config f _ rw _ => (f, rw, 0)
  | .mbxIn f _ _ => (f, .write, mbxAddr)
  | .mbxDone f _ => (f, .write, mbxAddr + 8)
  | .msix f d _ => (f, .write, 0x40000 + 4 * d.val)

/-- A configuration request, which R363 and D3hot do not touch. -/
def pcieIsConfig : PcieCmd → Bool
  | .config _ _ _ _ => true
  | _ => false

/-- A request performed. -/
def pcieDo (c : PcieCmd) (s : State) : State :=
  match c with
  | .mem q => match q.bar with | .bar0 => bar0 q s | .bar2 => bar2 q s | .bar4 => bar4 q s
  | .queue f q o rw v b => bar2Queue f q o.val rw v b s
  | .config f d rw v => cfgAccess f.val d.val rw v s
  | .mbxIn f l n => mbxIn f l n s
  | .mbxDone f v =>
    let frame := (fnOf s f.val).out.headD []
    let t := mbxDone f v s
    t.answer .okay (frame.map (·.setWidth 64))
  | .msix f d v => (msixWrite f.val d.val v s).answer .okay

/-- A PCIe request that reaches the module in a mode in which the ports work (R363, R382). -/
def pcieServe (c : PcieCmd) (s : State) : State :=
  let f := (pcieSource c).1
  if !s.hst.linkUp ∨ !hostsWork s ∨ (inD3 s f.val ∧ !(pcieIsConfig c)) then s
  else if hostBarred s (.pcie f) ∧ !(pcieIsConfig c) then pcieFail f (pcieSource c).2.1 (pcieSource c).2.2 .access s
  else pcieDo c s

/-- A PCIe request: in NAP it is held and wakes the module (R382). -/
def pcieRun (c : PcieCmd) (s : State) : State :=
  if s.mode = .nap ∧ s.hst.linkUp then
    wakeEvent 9 (pcieSource c).1.val { s with hst := { s.hst with held := s.hst.held ++ [c] } }
  else pcieServe c s

/-- The requests held in NAP are performed after the wake, in the order in which they came. -/
def heldGo (s : State) : State :=
  if hostsWork s then s.hst.held.foldl (fun s c => pcieServe c s) { s with hst := { s.hst with held := [] } } else s

end Sys2Proof.Machine
end

