-- ==== Sys2Proof/Machine/SessionData.lean ====
section
/-!
DEFINITION. The requests of an open session (R486, R487, R489, R511, R512): the operations of R377 with the partner's rights and panel,
application data into a receive cell, CLOSE, the debug request and response.
-/

namespace Sys2Proof.Machine

/-- The right an operation needs; none: none. -/
def rightOf (op : Nat) : Option Nat :=
  match op with
  | 1 => some 0
  | 2 => some 1
  | 3 | 4 | 5 => some 2
  | 0x20 => some 3
  | _ => none

/-- The initiator whose class a session's queue accesses take: that of its port; none for a partner port. -/
def queueSide (port : Nat) : Option Initiator :=
  if port < 4 then some (.pcie (Fin.ofNat 4 port)) else if port < 6 then some (.qspi (Fin.ofNat 2 port)) else none

/-- The most words one answer can carry: a frame holds at most 4,096 bytes. -/
def popLimit : Nat := 507

/-- A queue request of a session. -/
def sesQueue (n op : Nat) (body : List Byte) (env : HostEnv) (s : State) : PortRes :=
  let panel := sesPanel s n
  match queueSide (slotOf s n).port with
  | none => (s, 2, if op = 5 then natLe 0 8 else [0, 0])
  | some i =>
    if op = 3 then qPush i panel body env s
    else if op = 4 then
      if popLimit < leNat ((body.drop 1).take 2) then (s, 0x11, []) else qPop i panel body env s
    else qCmd i panel body env s

/-- APP (R487): the data goes into the cell whose turn it is, STATE last, and Bobbin gets the slot's event. -/
def sesApp (n : Nat) (body : List Byte) (s : State) : PortRes :=
  let x := slotOf s n
  let full := if x.cell then x.full1 else x.full0
  if body.isEmpty ∨ 4062 < body.length then (s, 0x11, [])
  else if full || !rxValid s then (irq SES_PAGE 5 s, 0x21, [])
  else
    let a := cellAddr s n x.cell
    let cell := natLe body.length 4 ++ natLe x.seqIn 8 ++ natLe s.now 8 ++ natLe 0 8 ++ body
    let s := memStore a 4 1 (putBytes (a + 4) cell s)
    let y := if x.cell then { x with full1 := true, cell := false } else { x with full0 := true, cell := true }
    (event (0x1400 + n) (setSlot n y s), 0, [])

/-- A request that reaches no life-cycle engine: the result. -/
def sesRequest (n op : Nat) (body : List Byte) (env : HostEnv) (s : State) : PortRes :=
  let i : Initiator := .session (Fin.ofNat 1024 n)
  match rightOf op with
  | some r =>
    if !hasRight s n r then (s, 0x20, [])
    else if op = 1 then rdReg i body s
    else if op = 2 then wrReg i body env s
    else if op = 0x20 then sesApp n body s
    else sesQueue n op body env s
  | none => (s, 0x11, [])

/-- The request of an accepted frame, but CLOSE: the debug operations are in their turn at the life-cycle engine (R516). -/
def sesServed (n op : Nat) (body : List Byte) (env : HostEnv) (storeBad : Bool) (s : State) : PortRes :=
  if op = 0x40 ∨ op = 0x41 then
    let meets := (env.reg.headD .calm).meets
    lcTurn 2 meets (sesDebug n op body storeBad) (if meets.isEmpty then s else s.meeting)
  else sesRequest n op body env s

/-- The plaintext of an accepted frame: OP, TAG and the body. `storeBad`: the grant log fails (R512). -/
def sesPlain (n : Nat) (p : List Byte) (env : HostEnv) (storeBad : Bool) (s : State) : State :=
  let op := blockNum p 0 1
  let gen := (slotOf s n).gen
  let seq := (slotOf s n).seqIn
  if p.length < 2 then sesSeqEnd n gen seq s
  else if op = 0x30 then irq SES_PAGE 1 (freeSlot n s)
  else sesSeqEnd n gen seq (sesAnswer n op (blockNum p 1 1) gen (sesServed n op (p.drop 2) env storeBad s))

/-- DATA_FRAME: the frame that waits at a port is judged, and its request executed. -/
def dataFrame (port : Nat) (env : HostEnv) (storeBad : Bool) (s : State) : State :=
  match dataJudged port s with
  | (t, some (n, p)) => sesPlain n p env storeBad t
  | (t, none) => t

end Sys2Proof.Machine
end

