-- ==== Sys2Proof/Machine/Debug.lean ====
section
/-!
DEFINITION. The debug module behind the JTAG instructions DTMCS and DMI (R513, R515). The spec names RISC-V External Debug Support 0.13.2 and
says what a grant permits; the registers, their fields and the abstract commands are PRESUMED from that standard (log 17).
-/

namespace Sys2Proof.Machine

/-! ### Rights (R513, R515) -/

/-- The hart selected is halted by the debugger. -/
def hartHalted (s : State) (c : Nat) : Bool := s.lcs.halted.contains c

/-! ### Halt and resume -/

/-- A halt request: a core that runs halts; Fitting's slice on it gives way (R524). -/
def hartHalt (c : Nat) (s : State) : State :=
  if hartSeen s c ∧ coreRuns s c ∧ !hartHalted s c then debugHalt c 3 (fitCore c s) else s

/-- A resume request of a halted core: it goes on at its pc with the privilege dcsr holds. -/
def hartResume (c : Nat) (s : State) : State :=
  if hartSeen s c ∧ hartHalted s c then
    let s := { s with lcs := { s.lcs with halted := s.lcs.halted.filter (· != c) }, dm := { s.dm with acks := insRising c s.dm.acks } }
    if dbgOpen s then updCtx c (fun x => { x with prv := if fld (dcsrOf s c) 0 2 = 3 then 3 else 0 }) s else s
  else s

/-! ### Registers of the debug module -/

/-- dmcontrol written: dmactive 0 resets the module; else the hart is selected, and halted or resumed. -/
def dmControl (v : Word) (s : State) : State :=
  if !bit v 0 then
    { s with dm := { Dm.reset with dcsr := s.dm.dcsr, tselect := s.dm.tselect, tdata1 := s.dm.tdata1, tdata2 := s.dm.tdata2 } }
  else
    let c := fld v 16 10 + 1024 * fld v 6 10
    let s := { s with dm := { s.dm with active := true, hart := c } }
    if bit v 31 then hartHalt c s
    else if bit v 30 then hartResume c { s with dm := { s.dm with acks := s.dm.acks.filter (· != c) } }
    else s

/-- dmstatus. -/
def dmStatus (s : State) : Nat :=
  let c := s.dm.hart
  let pair := fun (b : Bool) (n : Nat) => b2n b * 3 * 2 ^ n
  let seen := hartSeen s c
  let halted := hartHalted s c
  let up := coreRuns s c
  2 + 2 ^ 7 + pair (seen && halted) 8 + pair (seen && !halted && up) 10 + pair (seen && !halted && !up) 12 + pair (!seen) 14
    + pair (seen && s.dm.acks.contains c) 16

/-- abstractcs: no program buffer, four data words. -/
def abstractCs (s : State) : Nat := s.dm.cmderr * 2 ^ 8 + 4

def dmWord (s : State) (k : Nat) : Word := sget (fun _ => 0) s.dm.data k
def setDmWord (k : Nat) (v : Word) (s : State) : State := { s with dm := { s.dm with data := sset (fun _ => 0) s.dm.data k v } }
/-- Argument `k` of an abstract command: two data words. -/
def dmArg (s : State) (k : Nat) : Nat := (dmWord s (2 * k)).toNat + (dmWord s (2 * k + 1)).toNat * 2 ^ 32
/-- An argument takes a value of `n` bytes: with 8, both its words. -/
def setDmArg (k n v : Nat) (s : State) : State :=
  let s := setDmWord (2 * k) (w32 v) s
  if n = 8 then setDmWord (2 * k + 1) (w32 (v / 2 ^ 32)) s else s

/-- An abstract command fails: 2 not supported, 3 exception, 4 the hart is not in the state it needs. -/
def cmdFails (e : Nat) (s : State) : State := { s with dm := { s.dm with cmderr := e } }

/-! ### Access Register -/

/-- The value of an abstract register; none where there is none. -/
def absGet (s : State) (c n : Nat) : Option DWord :=
  if 0x1000 ≤ n ∧ n < 0x1020 then some (rx s c (n - 0x1000))
  else if 0x1020 ≤ n ∧ n < 0x1040 then some (rfp s c (n - 0x1020))
  else if n = 0x7B0 then some (w64 (setFld (setFld (dcsrOf s c) 28 4 4) 0 2 (prvOf s c)).toNat)
  else if n = 0x7B1 then some (coreOf s c).ctx.pc
  else if n < 0x1000 then csrGet (updCtx c (fun x => { x with prv := 3 }) s) c n
  else none

/-- dcsr written: ebreakm, ebreaku and step; the privilege only where debug is open. -/
def dcsrPut (c : Nat) (v : DWord) (s : State) : State :=
  let w := w32 v.toNat
  let d := (dcsrOf s c &&& ~~~0x9004) ||| (w &&& 0x9004)
  let s := { s with dm := { s.dm with dcsr := sset (fun _ => 0) s.dm.dcsr c d } }
  if dbgOpen s then
    let p := if fld w 0 2 = 3 then 3 else 0
    updCtx c (fun x => { x with prv := p }) { s with dm := { s.dm with dcsr := sset (fun _ => 0) s.dm.dcsr c (setFld d 0 2 p) } }
  else s

/-- An abstract register written; none where the write fails: what R513 names may be written under a grant with WRITE, dcsr and the triggers
under any, everything where debug is open. -/
def absPut (c n : Nat) (v : DWord) (s : State) : Option State :=
  if n = 0x7B0 then some (dcsrPut c v s)
  else if 0x7A0 ≤ n ∧ n ≤ 0x7A2 then some (trigPut c n v true s)
  else if !dbgWrites s then none
  else if 0x1000 ≤ n ∧ n < 0x1020 then some (wx c (n - 0x1000) v s)
  else if 0x1020 ≤ n ∧ n < 0x1040 then some (wfp c (n - 0x1020) v s)
  else if 1 ≤ n ∧ n ≤ 3 then some (csrPut c n v s)
  else if !dbgOpen s then none
  else if n = 0x7B1 then some (updCtx c (fun x => { x with pc := v &&& ~~~1 }) s)
  else if n < 0xC00 ∧ (absGet s c n).isSome then some (csrPut c n v s)
  else none

/-- Access Register: 32-bit reads, 64-bit reads and writes of a halted hart; there is no program buffer to run after it. -/
def accessRegister (v : Word) (s : State) : State :=
  let c := s.dm.hart
  let size := fld v 20 3
  let n := fld v 0 16
  if !hartSeen s c || !hartHalted s c then cmdFails 4 s
  else if bit v 18 || bit v 19 then cmdFails 2 s
  else if !bit v 17 then s
  else if size ≠ 3 ∧ (size ≠ 2 ∨ bit v 16) then cmdFails 2 s
  else if bit v 16 then
    match absPut c n (w64 (dmArg s 0)) s with
    | some t => t
    | none => cmdFails 3 s
  else match absGet s c n with
    | some x => setDmArg 0 (if size = 3 then 8 else 4) x.toNat s.bump
    | none => cmdFails 3 s

/-! ### Access Memory -/

/-- An access of the debugger to a target port (R70, R76): refused, answered by the fabric, or out of time. -/
def dbgWindow (c t a : Nat) (e : DmiEnv) (s : State) : State × Bool :=
  match tportRefuses s t with
  | some q => (noteWinErr false t q.code c 0 a s, false)
  | none => if e.fabric.isSome then (s, true) else (noteWinErr false t 4 c 0 a (raise 0x0B02 s), false)

/-- A load of the debugger on a core: the value, or none where it fails. -/
def dbgLoad (c a n : Nat) (e : DmiEnv) (s : State) : State × Option Nat :=
  let i : Initiator := .core (Fin.ofNat 16 c)
  let s := drainAll c s
  match zoneOf (physFor i a) with
  | .window t =>
    let r := dbgWindow c t a e s
    (r.1, if r.2 then some ((e.fabric.getD 0).toNat % 2 ^ (8 * n)) else none)
  | .door k off => (s, if k = c then some (doorGet s c off n) else none)
  | _ =>
    let r := busGet i true a n e.beat s
    (r.1, if r.2.1 = .okay then some r.2.2 else none)

/-- Whether a store of the debugger to an address is permitted (R513): under a grant, the DTCM of a core of the panel, or a register page the
panel owns. -/
def dbgStoreOk (s : State) (c a : Nat) : Bool :=
  dbgOpen s || (hasScope s 2 && (match zoneOf (physFor (.core (Fin.ofNat 16 c)) a) with
    | .tcm k isData => isData && hartSeen s k
    | .page off => ownerOf s (off / 0x1000) == some (dbgPanel s)
    | _ => false))

/-- A store of the debugger: whether it is performed. -/
def dbgStore (c a n v : Nat) (e : DmiEnv) (s : State) : State × Bool :=
  if !dbgStoreOk s c a then (s, false)
  else
    let i : Initiator := .core (Fin.ofNat 16 c)
    let s := drainAll c s
    match zoneOf (physFor i a) with
    | .window t => dbgWindow c t a e s
    | _ =>
      let r := busPut ⟨i, e.others, e.reg⟩ true a n v e.beat s
      (r.1, r.2 == .okay)

/-- Argument 1 after an access of `n` bytes: it moves on where aampostincrement is set. -/
def argMoves (v : Word) (n : Nat) (s : State) : State :=
  if bit v 19 then setDmArg 1 8 ((dmArg s 1 + n) % 2 ^ 64) s else s

/-- Access Memory, a write of `n` bytes. -/
def memStoreCmd (v : Word) (n : Nat) (e : DmiEnv) (s : State) : State :=
  let r := dbgStore s.dm.hart (dmArg s 1) n (dmArg s 0 % 2 ^ (8 * n)) e s
  if r.2 then argMoves v n r.1 else cmdFails 3 r.1

/-- The end of an Access Memory read, from what the load gave. -/
def memLoaded (v : Word) (n : Nat) (r : State × Option Nat) : State :=
  match r.2 with
  | some x => argMoves v n (setDmArg 0 n x r.1)
  | none => cmdFails 3 r.1

/-- Access Memory, a read of `n` bytes. -/
def memLoadCmd (v : Word) (n : Nat) (e : DmiEnv) (s : State) : State := memLoaded v n (dbgLoad s.dm.hart (dmArg s 1) n e s)

/-- Access Memory: 1 to 8 bytes at the address in argument 1. -/
def accessMemory (v : Word) (e : DmiEnv) (s : State) : State :=
  let size := fld v 20 3
  if !hartSeen s s.dm.hart || !hartHalted s s.dm.hart then cmdFails 4 s
  else if 3 < size then cmdFails 2 s
  else if dmArg s 1 % 2 ^ size ≠ 0 then cmdFails 3 s
  else if bit v 16 then memStoreCmd v (2 ^ size) e s
  else memLoadCmd v (2 ^ size) e s

/-- A write of command: ignored while an error stands. -/
def dmCommand (v : Word) (e : DmiEnv) (s : State) : State :=
  if s.dm.cmderr ≠ 0 then s
  else match fld v 24 8 with
    | 0 => accessRegister v s
    | 2 => accessMemory v e s
    | _ => cmdFails 2 s

/-! ### DMI and DTMCS -/

/-- A register of the debug module read. -/
def dmiRead (s : State) (a : Nat) : Word :=
  if !s.dm.active ∧ a ≠ 0x10 then 0
  else match a with
    | 0x04 | 0x05 | 0x06 | 0x07 => dmWord s (a - 4)
    | 0x10 => w32 (s.dm.hart % 1024 * 2 ^ 16 + s.dm.hart / 1024 * 2 ^ 6 + b2n s.dm.active)
    | 0x11 => w32 (dmStatus s)
    | 0x16 => w32 (abstractCs s)
    | 0x40 => w32 ((List.range 16).foldl (fun x c => x + b2n (hartSeen s c && hartHalted s c) * 2 ^ c) 0)
    | _ => 0

/-- A register of the debug module written. -/
def dmiWrite (a : Nat) (v : Word) (e : DmiEnv) (s : State) : State :=
  if a = 0x10 then dmControl v s
  else if !s.dm.active then s
  else match a with
    | 0x04 | 0x05 | 0x06 | 0x07 => setDmWord (a - 4) v s
    | 0x16 => { s with dm := { s.dm with cmderr := s.dm.cmderr &&& ((7 - fld v 8 3) % 8) } }
    | 0x17 => dmCommand v e s
    | _ => s

/-- DMI: the instruction is selected and the scan performs its operation (0 none, 1 read, 2 write); the answer is the word. -/
def dmi (op a : Nat) (v : Word) (e : DmiEnv) (s : State) : State :=
  let r := jtagSelect 0x19 s
  if !r.2 then r.1
  else
    let s := r.1
    match op with
    | 1 => s.answer .okay [(dmiRead s a).setWidth 64]
    | 2 => (dmiWrite a v e s).answer .okay [v.setWidth 64]
    | _ => s.answer .okay [0]

/-- DTMCS: version 1, 7 address bits; its resets have nothing to reset, as every access completes. -/
def dtmcs (s : State) : State :=
  let r := jtagSelect 0x18 s
  if r.2 then r.1.answer .okay [0x71] else r.1

/-! ### The other JTAG instructions -/

/-- An instruction that shows one word. -/
def jtagWord (code v : Nat) (s : State) : State :=
  let r := jtagSelect code s
  if r.2 then r.1.answer .okay [w64 v] else r.1

/-- A JTAG instruction of the life-cycle engine, in its turn (R516): the code, and the bytes shown. -/
def jtagServed (code : Nat) (meets : List LcReq) (act : State → State × Nat × List Byte) (s : State) : State :=
  match lcTurn 1 meets (jtagRun code act) (if meets.isEmpty then s else s.meeting) with
  | (t, some (c, l)) => t.answer .okay (l.map (·.setWidth 64)) c
  | (t, none) => t

/-- LC_TRANSITION. -/
def jtagTransition (target : Nat) (token : List Byte) (e : RegEnv) (s : State) : State :=
  jtagServed 0x11 e.meets (jtagMove target token e.steps e.otpMask) s

/-- LC_CHALLENGE: the request, answered with STATUS and the challenge. -/
def jtagChallenge (panel scope minutes keyId : Nat) (meets : List LcReq) (s : State) : State :=
  jtagServed 0x12 meets (challengeReq true 0 panel scope minutes keyId) s

/-- LC_RESPONSE. -/
def jtagResponse (body : List Byte) (storeBad : Bool) (meets : List LcReq) (s : State) : State :=
  jtagServed 0x13 meets (challengeResp true 0 body storeBad) s

/-! ### The end of a life-cycle transition (R506, R507) -/

/-- A transition whose last mark is made leaves TRANSIT through HOLD. -/
def transitSettles (s : State) : State :=
  let marked : Bool := match s.lcs.records.getLast? with | some r => r.testBit 11 | none => false
  if s.mode = .transit ∧ marked then passHold s else s

/-- What every command leaves to be done at once: a completed transition, and a change of isolation. -/
def settled (s : State) : State := isolationSettles (transitSettles s)

end Sys2Proof.Machine
end

