-- ==== Sys2Proof/Machine/Operands.lean ====
section
/-!
DEFINITION. The operand forms of the commands: a write or read of a register page by an initiator, an access of memory in a cycle that others
share, a beat at a queue, an instruction of a core.
-/

namespace Sys2Proof.Machine

/-! ### Register pages -/

/-- What an initiator sees of a failed write beside its answer (R19). -/
def writeSeen (i : Initiator) (addr : Nat) (s : State) : State := failSeen i 2 addr s.ans.rsp s

/-- A write at distance `off` from 0x6000_0000 by an initiator that can send now and that PMP lets through; a host port that R363 turns away
completes with ACCESS. -/
def regCmd (a : Acc) (off : Nat) (v : Word) (s : State) : State :=
  if !sends s a.init then s
  else if hostBarred s a.init then writeSeen a.init (0x60000000 + off) (s.answer .access)
  else onWay a.init 2 (0x60000000 + off) 4 (fun s => settled (writeSeen a.init (0x60000000 + off) (busCycle a off v s))) s

/-- A store of `n` bytes to a register page (R7, R18). -/
def regStore (a : Acc) (addr n : Nat) (v : DWord) (s : State) : State :=
  if !sends s a.init then s
  else if hostBarred s a.init then writeSeen a.init addr (s.answer .access)
  else if addr < 0x60000000 ∨ 0x60100000 ≤ addr ∨ (pageOf ((addr - 0x60000000) / 0x1000)).isNone then
    writeSeen a.init addr (s.answer .decode)
  else if n ≠ 4 ∨ addr % 4 ≠ 0 then writeSeen a.init addr (s.answer .access)
  else regCmd a (addr - 0x60000000) (w32 v.toNat) s

/-- A register that is staged (RWS, R28). -/
def isStaged (off : Nat) : Bool :=
  match pageOf (off / 0x1000) with
  | none => false
  | some k => match rowAt k (off % 0x1000) with
    | none => false
    | some r => r.rws != 0

/-- A read of a register by an initiator that can send now. -/
def regFetch (i : Initiator) (off : Nat) (s : State) : State :=
  if !sends s i then s
  else onWay i 1 (0x60000000 + off) 4 (fun s =>
    let r := if hostBarred s i then (s, .access, 0) else pageGet i off 4 s
    failSeen i 1 (0x60000000 + off) r.2.1 (r.1.answer r.2.1 [w64 r.2.2])) s

/-- A write of CTRL of a page. -/
def ctrlWord (enable reset : Bool) : Word := w32 (b2n enable + 2 * b2n reset)

/-! ### Flash -/

/-- A read of the code flash or the option area by an initiator. -/
def flashRead (i : Initiator) (a n : Nat) (e : Ecc) (s : State) : State :=
  if !sends s i then s
  else if !servedAt s i (zoneOf a) false true then failSeen i 1 a .decode (s.answer .decode)
  else match zoneOf a with
    | .flash | .option => onWay i 1 a n (fun s =>
      let r := flashGet a n e s
      failSeen i 1 a r.2.1 (r.1.answer r.2.1 [w64 r.2.2])) s
    | _ => s

/-- The start of a descriptor aborts the slice of Fitting on its bank (R524). -/
def fitDesc (d : Desc) (s : State) : State := if descBank d < 8 then fitFlash (descBank d) s else s

/-- The descriptor with opcode `op` of a bank (8: the option area) that can start does so; where there is none, the starts of the cycle are those of
the other requesters (R278). -/
def flashStarts (bank op : Nat) (rivals : List (Fin 4)) (f : State → State) (s : State) : State :=
  match startable s op bank with
  | some d => f (fitDesc d s)
  | none => (grantStart bank (startRivals s bank rivals) s).1

/-! ### Queues -/

/-- A beat at a queue's data port, at word `slot` of the port (R303). -/
def queCmdAt (i : Initiator) (q : Fin 64) (slot : Fin 512) (rw : Rw) (v : DWord) (b : BeatEnv) (s : State) : State :=
  match i with
  | .pcie f => pcieRun (.queue f q slot rw v b) s
  | _ =>
    if !sends s i then s
    else
      let a := 0x70000000 + 0x1000 * q.val + 8 * slot.val
      let kind := if rw == .write then 2 else 1
      if hostBarred s i then failSeen i kind a .access (s.answer .access)
      else if !servedAt s i (.queue q.val (8 * slot.val)) (rw == .write) true then failSeen i kind a .decode (s.answer .decode)
      else onWay i kind a 8 (fun s => match rw with
        | .write =>
          let r := quePut i (panelFor s i) q.val (8 * slot.val) 8 v.toNat b s
          failSeen i 2 a r.2 (r.1.answer r.2)
        | .read =>
          let r := queGet i (panelFor s i) q.val (8 * slot.val) 8 b s
          failSeen i 1 a r.2.1 (r.1.answer r.2.1 [w64 r.2.2])) s

/-! ### Instructions of a core -/

/-- The length of an instruction. -/
def instrLen (short : Bool) : Nat := if short then 2 else 4

/-- An instruction of a core executes. -/
def coreInstr (c : Fin 16) (i : RvInstr) (short : Bool) (e : CoreEnv) (s : State) : State :=
  settled (onCore c.val (instrRun c.val i (instrLen short) 0 e) s)

/-- A load or store as an instruction. -/
def loadStoreInstr (x : LoadStore) : RvInstr :=
  .mem ⟨x.isStore, 2 ^ x.size.val, x.signed, x.fp⟩ x.reg.val x.base.val (sext 12 x.offset.toNat)

/-- The address of a load or store. -/
def loadStoreAddr (x : LoadStore) (s : State) : Nat := (rx s x.core.val x.base.val + sext 12 x.offset.toNat).toNat

/-- A load or store to a target port of the fabric window. -/
def portInstr (x : LoadStore) (s : State) : State :=
  match zoneOf (loadStoreAddr x s) with
  | .window _ => coreInstr x.core (loadStoreInstr x) x.short x.env s
  | _ => s

/-- An atomic instruction. -/
def atomicInstr (k : AtomicKind) (n : Nat) (rd rs1 rs2 : Nat) : RvInstr :=
  match k with
  | .lr => .lr n rd rs1
  | .sc => .sc n rd rs1 rs2
  | .swap => .amo .swap n rd rs1 rs2
  | .add => .amo .add n rd rs1 rs2
  | .xor => .amo .xor n rd rs1 rs2
  | .and => .amo .and n rd rs1 rs2
  | .or => .amo .or n rd rs1 rs2
  | .min => .amo .min n rd rs1 rs2
  | .max => .amo .max n rd rs1 rs2
  | .minu => .amo .minu n rd rs1 rs2
  | .maxu => .amo .maxu n rd rs1 rs2

/-- The operation of a CSR instruction. -/
def csrOpOf : CsrKind → CsrOp
  | .write => .rw
  | .set => .rs
  | .clear => .rc

/-- A store of core `c` to an operation of its doorbell page (R184). -/
def doorCmd (c : Fin 16) (off : Nat) (arg : DWord) (short : Bool) (e : CoreEnv) (s : State) : State :=
  let a := 0x60100000 + c.val * 0x1000 + off
  settled (onCore c.val (onWay (.core c) 2 a 8 (doorStore c.val off 8 (instrLen short) arg e a)) s)

/-- An argument with its KIND in the two highest bits (R210, R212). -/
def kindArg (k : Nat) (arg : BitVec 62) : DWord := w64 (k * 2 ^ 62 + arg.toNat)

/-- An instruction fetch: the answer is the instruction's bits. -/
def fetchCmd (c : Fin 16) (e : CoreEnv) (s : State) : State :=
  onCore c.val (fun s =>
    let r := fetch c.val e s
    match r.2 with
    | some x => r.1.answer .okay [w64 x.1]
    | none => r.1) s

/-- TIM_NOW has reached CORE_MTIMECMP (R177): mip.MTIP is 1, and a core that WFI halts goes on where mie enables it (R182). -/
def mtimeMatch (c : Nat) (s : State) : State := if s.rg64 (Reg.CORE_MTIMECMP c) ≤ s.now then wfiEnds c s else s

/-! ### Bobbin's cycles and the fabric's codes -/

/-- One Bobbin cycle with the requests of others, after which Fitting gives way to threads that found no core (R524). -/
def bobStep (r : BobReq) (others : List BobReq) (s : State) : State := fitReady (bobCycle (r :: others) s)

/-- The code of a response (R75). -/
def rspOf (code : Nat) : Rsp :=
  match code with
  | 0 => .okay
  | 1 => .decode
  | 2 => .access
  | 3 => .ecc
  | 4 => .timeout
  | _ => .isolated

end Sys2Proof.Machine
end

