-- ==== Sys2Proof/Machine/CmdBobbin.lean ====
section
/-!
DEFINITION. Bobbin and the Spool: the meaning of each command (R190 to R248).
-/

namespace Sys2Proof.Machine

/-- DB_READY. A store to DB READY (R208). -/
def execDbReady (core : Fin 16) (arg : DWord) (short : Bool) (env : CoreEnv) (s : State) : Host.Outcome State Fault Refusal :=
  .next (doorCmd core 0x00 arg short env s)

/-- DB_YIELD. A store to DB YIELD (R209). -/
def execDbYield (core : Fin 16) (arg : DWord) (short : Bool) (env : CoreEnv) (s : State) : Host.Outcome State Fault Refusal :=
  .next (doorCmd core 0x08 arg short env s)

/-- WAIT_EVENT_READY. WAIT_EVENT, KIND READY (R210). -/
def execWaitEventReady (core : Fin 16) (arg : BitVec 62) (short : Bool) (env : CoreEnv) (s : State) : Host.Outcome State Fault Refusal :=
  .next (doorCmd core 0x10 (kindArg 0 arg) short env s)

/-- WAIT_EVENT_FLAGS_ANY. WAIT_EVENT, KIND FLAGS_ANY (R210, R216). -/
def execWaitEventFlagsAny (core : Fin 16) (arg : BitVec 62) (short : Bool) (env : CoreEnv) (s : State) : Host.Outcome State Fault Refusal :=
  .next (doorCmd core 0x10 (kindArg 1 arg) short env s)

/-- WAIT_EVENT_FLAGS_ALL. WAIT_EVENT, KIND FLAGS_ALL (R210, R216). -/
def execWaitEventFlagsAll (core : Fin 16) (arg : BitVec 62) (short : Bool) (env : CoreEnv) (s : State) : Host.Outcome State Fault Refusal :=
  .next (doorCmd core 0x10 (kindArg 2 arg) short env s)

/-- WAIT_EVENT_SEM. WAIT_EVENT, KIND SEM (R210, R214). -/
def execWaitEventSem (core : Fin 16) (arg : BitVec 62) (short : Bool) (env : CoreEnv) (s : State) : Host.Outcome State Fault Refusal :=
  .next (doorCmd core 0x10 (kindArg 3 arg) short env s)

/-- WAIT_TIMEOUT. A store to DB WAIT_TIMEOUT (R211). -/
def execWaitTimeout (core : Fin 16) (arg : DWord) (short : Bool) (env : CoreEnv) (s : State) : Host.Outcome State Fault Refusal :=
  .next (doorCmd core 0x18 arg short env s)

/-- SEM_POST. SIGNAL, KIND SEM_POST (R212, R214). -/
def execSemPost (core : Fin 16) (arg : BitVec 62) (short : Bool) (env : CoreEnv) (s : State) : Host.Outcome State Fault Refusal :=
  .next (doorCmd core 0x20 (kindArg 0 arg) short env s)

/-- FLAGS_SET. SIGNAL, KIND FLAGS_SET (R216). -/
def execFlagsSet (core : Fin 16) (arg : BitVec 62) (short : Bool) (env : CoreEnv) (s : State) : Host.Outcome State Fault Refusal :=
  .next (doorCmd core 0x20 (kindArg 1 arg) short env s)

/-- FLAGS_CLEAR. SIGNAL, KIND FLAGS_CLEAR (R216). -/
def execFlagsClear (core : Fin 16) (arg : BitVec 62) (short : Bool) (env : CoreEnv) (s : State) : Host.Outcome State Fault Refusal :=
  .next (doorCmd core 0x20 (kindArg 2 arg) short env s)

/-- DB_SUSPEND. A store to DB SUSPEND (R213). -/
def execDbSuspend (core : Fin 16) (arg : DWord) (short : Bool) (env : CoreEnv) (s : State) : Host.Outcome State Fault Refusal :=
  .next (doorCmd core 0x28 arg short env s)

/-- DB_CANCEL. A store to DB CANCEL (R213). -/
def execDbCancel (core : Fin 16) (arg : DWord) (short : Bool) (env : CoreEnv) (s : State) : Host.Outcome State Fault Refusal :=
  .next (doorCmd core 0x30 arg short env s)

/-- DISPATCH. A free joined core takes the first ready thread allowed on it (R200); the check bits of its context. -/
def execDispatch (core : Fin 16) (ecc : Ecc) (s : State) : Host.Outcome State Fault Refusal :=
  .next (dispatchCore core.val ecc s)

/-- DISPATCH_POINT_SWITCH. A running thread at a dispatch point is switched out (R201). -/
def execDispatchPointSwitch (core : Fin 16) (ecc : Ecc) (s : State) : Host.Outcome State Fault Refusal :=
  .next (dispatchPoint core.val ecc s)

/-- QUANTUM_EXPIRY. The quantum of a core's thread expires (R202). -/
def execQuantumExpiry (core : Fin 16) (s : State) : Host.Outcome State Fault Refusal :=
  .next (quantumExpiry core.val s)

/-- TIMEOUT_EXPIRY. A wait's deadline is reached (R218), with the operations of the same cycle (R228). -/
def execTimeoutExpiry (thread : BitVec 18) (others : List BobReq) (s : State) : Host.Outcome State Fault Refusal :=
  .next (bobStep (.timeout thread.toNat) others s)

/-- INIT. BOB_TCMD, INIT (R192). -/
def execInit (a : Acc) (thread : BitVec 18) (s : State) : Host.Outcome State Fault Refusal :=
  .next (regCmd a 0x20044 (w32 (1 * 2 ^ 28 + thread.toNat)) s)

/-- FREE. BOB_TCMD, FREE (R221). -/
def execFree (a : Acc) (thread : BitVec 18) (s : State) : Host.Outcome State Fault Refusal :=
  .next (regCmd a 0x20044 (w32 (2 * 2 ^ 28 + thread.toNat)) s)

/-- READ. BOB_TCMD, READ (R221). -/
def execRead (a : Acc) (thread : BitVec 18) (s : State) : Host.Outcome State Fault Refusal :=
  .next (regCmd a 0x20044 (w32 (3 * 2 ^ 28 + thread.toNat)) s)

/-- SET_PRIO. BOB_TCMD, SET_PRIO (R221). -/
def execSetPrio (a : Acc) (thread : BitVec 18) (s : State) : Host.Outcome State Fault Refusal :=
  .next (regCmd a 0x20044 (w32 (4 * 2 ^ 28 + thread.toNat)) s)

/-- SET_AFFINITY. BOB_TCMD, SET_AFFINITY (R221). -/
def execSetAffinity (a : Acc) (thread : BitVec 18) (s : State) : Host.Outcome State Fault Refusal :=
  .next (regCmd a 0x20044 (w32 (5 * 2 ^ 28 + thread.toNat)) s)

/-- SET_PIN. BOB_TCMD, SET_PIN (R204). -/
def execSetPin (a : Acc) (thread : BitVec 18) (s : State) : Host.Outcome State Fault Refusal :=
  .next (regCmd a 0x20044 (w32 (6 * 2 ^ 28 + thread.toNat)) s)

/-- THREAD_CMD_DONE. A thread or object command completes (R221). -/
def execThreadCmdDone (s : State) : Host.Outcome State Fault Refusal :=
  .next (cmdDone s)

/-- BOB_MAKE_READY. A write of BOB_MAKE_READY (R197). -/
def execBobMakeReady (a : Acc) (thread : BitVec 18) (resume : Bool) (s : State) : Host.Outcome State Fault Refusal :=
  .next (regCmd a 0x20060 (w32 (b2n resume * 2 ^ 31 + thread.toNat)) s)

/-- BOB_CANCEL. A write of BOB_CANCEL (R213). -/
def execBobCancel (a : Acc) (thread : BitVec 18) (s : State) : Host.Outcome State Fault Refusal :=
  .next (regCmd a 0x20064 (w32 thread.toNat) s)

/-- OBJ_READ. BOB_OBJ_CMD, READ, of a semaphore or a flag group (R221). -/
def execObjRead (a : Acc) (group : Bool) (id : BitVec 12) (s : State) : Host.Outcome State Fault Refusal :=
  .next (regCmd a 0x200A0 (w32 (b2n group * 2 ^ 31 + 1 * 2 ^ 24 + id.toNat)) s)

/-- OBJ_WRITE. BOB_OBJ_CMD, WRITE (R221). -/
def execObjWrite (a : Acc) (group : Bool) (id : BitVec 12) (s : State) : Host.Outcome State Fault Refusal :=
  .next (regCmd a 0x200A0 (w32 (b2n group * 2 ^ 31 + 2 * 2 ^ 24 + id.toNat)) s)

/-- EVENT_INTAKE. A cycle of the event intake (R224). -/
def execEventIntake (others : List BobReq) (s : State) : Host.Outcome State Fault Refusal :=
  .next (bobStep .intake others s)

/-- BOB_BIND. A write of the high word of BOB_BIND (R247). -/
def execBobBind (a : Acc) (high : Word) (s : State) : Host.Outcome State Fault Refusal :=
  .next (regCmd a 0x200CC high s)

/-- SPILL. A spill (R234). -/
def execSpill (s : State) : Host.Outcome State Fault Refusal :=
  .next (spill s)

/-- REFILL. A refill (R234). -/
def execRefill (s : State) : Host.Outcome State Fault Refusal :=
  .next (refill s)

/-- SPOOL_SEARCH. A free core searches the Spool (R235). -/
def execSpoolSearch (core : Fin 16) (s : State) : Host.Outcome State Fault Refusal :=
  .next (spoolSearch core.val s)

/-- OVERFLOW_RECOVERY. Overflow recovery makes one thread READY (R240). -/
def execOverflowRecovery (others : List BobReq) (s : State) : Host.Outcome State Fault Refusal :=
  .next (bobStep .recovery others s)

/-- SPOOL_ECC_REBUILD. An uncorrectable error in a Spool block (R241). -/
def execSpoolEccRebuild (block : Fin 32768) (s : State) : Host.Outcome State Fault Refusal :=
  .next (spoolBad block.val s)

end Sys2Proof.Machine
end

