-- ==== Sys2Proof/Machine/CmdClock.lean ====
section
/-!
DEFINITION. Clocks: the meaning of each command (R387 to R407).
-/

namespace Sys2Proof.Machine

/-- RELOCK. CLK_PLLn_CMD, RELOCK (R397). -/
def execRelock (a : Acc) (pll : Fin 8) (s : State) : Host.Outcome State Fault Refusal :=
  .next (regCmd a (0x4108 + pll.val * 0x40) (w32 (1)) s)

/-- HOP. CLK_PLLn_CMD, HOP (R399). -/
def execHop (a : Acc) (pll : Fin 8) (entry : Fin 16) (s : State) : Host.Outcome State Fault Refusal :=
  .next (regCmd a (0x4108 + pll.val * 0x40) (w32 (2 + 256 * entry.val)) s)

/-- STORE. CLK_PLLn_CMD, STORE (R399). -/
def execStore (a : Acc) (pll : Fin 8) (entry : Fin 16) (s : State) : Host.Outcome State Fault Refusal :=
  .next (regCmd a (0x4108 + pll.val * 0x40) (w32 (3 + 256 * entry.val)) s)

/-- CLEAR. CLK_PLLn_CMD, CLEAR (R399). -/
def execClear (a : Acc) (pll : Fin 8) (entry : Fin 16) (s : State) : Host.Outcome State Fault Refusal :=
  .next (regCmd a (0x4108 + pll.val * 0x40) (w32 (4 + 256 * entry.val)) s)

/-- CLK_UPDATE. A write of CLK_UPDATE (R393). -/
def execClkUpdate (a : Acc) (plls : BitVec 8) (s : State) : Host.Outcome State Fault Refusal :=
  .next (regCmd a 0x4040 (w32 plls.toNat) s)

/-- UPDATE_DONE. An output update completes (R393). -/
def execUpdateDone (pll : Fin 8) (s : State) : Host.Outcome State Fault Refusal :=
  .next (updateDone pll.val s)

/-- PLL_LOCK. Lock is declared for a PLL (R395). -/
def execPllLock (pll : Fin 8) (s : State) : Host.Outcome State Fault Refusal :=
  .next (settled (pllLocked pll.val s))

/-- LOCK_LOST. A PLL loses lock (R401). -/
def execLockLost (pll : Fin 8) (badLand : Bool) (s : State) : Host.Outcome State Fault Refusal :=
  .next (lockLost pll.val badLand s)

/-- REF_LOST. A reference is lost (R401), with the PLLs that lose lock in the same cycle. -/
def execRefLost (ref : Fin 3) (slips : BitVec 8) (s : State) : Host.Outcome State Fault Refusal :=
  .next (refLost ref slips s)

/-- REF_RESTORED. A lost reference is back (R401). -/
def execRefRestored (ref : Fin 3) (badLands : BitVec 8) (s : State) : Host.Outcome State Fault Refusal :=
  .next (refRestored ref badLands s)

/-- LOCK_TIMEOUT. Lock is not declared within 2 ms (R398). -/
def execLockTimeout (pll : Fin 8) (s : State) : Host.Outcome State Fault Refusal :=
  .next (lockTimeout pll.val s)

/-- XO_READY. XO25 is ready (R388). -/
def execXoReady (badLands : BitVec 8) (s : State) : Host.Outcome State Fault Refusal :=
  .next (xoReady badLands s)

/-- RC_FALLBACK. XO25 is not ready 2 ms after VIN valid (R388, R391). -/
def execRcFallback (badLands : BitVec 8) (s : State) : Host.Outcome State Fault Refusal :=
  .next (rcFallback badLands s)

/-- XO32_FAIL. XO32 fails (R389). -/
def execXo32Fail (s : State) : Host.Outcome State Fault Refusal :=
  .next (xo32Fail s)

end Sys2Proof.Machine
end

