-- ==== Sys2Proof/Machine/CmdCore.lean ====
section
/-!
DEFINITION. The cores: the meaning of each command (R166 to R188).
-/

namespace Sys2Proof.Machine

/-- INSTRUCTION_EXECUTE. A core fetches the instruction at its pc and executes it (R167, R168). -/
def execInstructionExecute (core : Fin 16) (env : CoreEnv) (s : State) : Host.Outcome State Fault Refusal :=
  .next (settled (executeNext core.val env s))

/-- INSTRUCTION_FETCH. A core fetches the instruction at its pc (R172, R176); the answer is its bits. -/
def execInstructionFetch (core : Fin 16) (env : CoreEnv) (s : State) : Host.Outcome State Fault Refusal :=
  .next (fetchCmd core env s)

/-- LOAD_STORE. A load or store of a core (R168, R173). -/
def execLoadStore (x : LoadStore) (s : State) : Host.Outcome State Fault Refusal :=
  .next (coreInstr x.core (loadStoreInstr x) x.short x.env s)

/-- ATOMIC_ACCESS. An LR, SC or AMO of a core, of a word or a double word (R174). -/
def execAtomicAccess (core : Fin 16) (kind : AtomicKind) (double : Bool) (rd rs1 rs2 : Fin 32) (env : CoreEnv) (s : State) : Host.Outcome State Fault Refusal :=
  .next (coreInstr core (atomicInstr kind (if double then 8 else 4) rd.val rs1.val rs2.val) false env s)

/-- WRITE_BUFFER_DRAIN. The oldest posted store of a core is performed (R173). -/
def execWriteBufferDrain (core : Fin 16) (s : State) : Host.Outcome State Fault Refusal :=
  .next (drainOne core.val s)

/-- FENCE. FENCE (R173). -/
def execFence (core : Fin 16) (pred succ : BitVec 4) (env : CoreEnv) (s : State) : Host.Outcome State Fault Refusal :=
  .next (coreInstr core (.fence pred.toNat succ.toNat) false env s)

/-- FENCE_I. FENCE.I (R172). -/
def execFenceI (core : Fin 16) (env : CoreEnv) (s : State) : Host.Outcome State Fault Refusal :=
  .next (coreInstr core .fenceI false env s)

/-- WFI. WFI (R182). -/
def execWfi (core : Fin 16) (env : CoreEnv) (s : State) : Host.Outcome State Fault Refusal :=
  .next (coreInstr core .wfi false env s)

/-- CSR_ACCESS. A CSR instruction (R167, R168). -/
def execCsrAccess (core : Fin 16) (kind : CsrKind) (imm : Bool) (rd src : Fin 32) (num : Fin 4096) (env : CoreEnv) (s : State) : Host.Outcome State Fault Refusal :=
  .next (coreInstr core (.csr (csrOpOf kind) imm rd.val src.val num.val) false env s)

/-- INTERRUPT_TAKEN. The pending enabled interrupt of a core is taken (R177). -/
def execInterruptTaken (core : Fin 16) (s : State) : Host.Outcome State Fault Refusal :=
  .next (takeIrq core.val s)

/-- MTIMECMP_MATCH. TIM_NOW has reached CORE_MTIMECMP (R177). -/
def execMtimecmpMatch (core : Fin 16) (s : State) : Host.Outcome State Fault Refusal :=
  .next (mtimeMatch core.val s)

/-- CORE_START. CORE_RUN.START of a core (R185). -/
def execCoreStart (a : Acc) (core : Fin 16) (s : State) : Host.Outcome State Fault Refusal :=
  .next (regCmd a (0x10040 + core.val * 0x1000) 1 s)

/-- ICACHE_INVALIDATE. CORE_ICINV of a core (R172). -/
def execIcacheInvalidate (a : Acc) (core : Fin 16) (s : State) : Host.Outcome State Fault Refusal :=
  .next (regCmd a (0x10094 + core.val * 0x1000) 1 s)

/-- CLUSTER_OFF. CORE_CLUSTER_OFF of a cluster (R186). -/
def execClusterOff (a : Acc) (cluster : Fin 4) (s : State) : Host.Outcome State Fault Refusal :=
  .next (regCmd a (0x100A0 + cluster.val * 0x4000) 1 s)

end Sys2Proof.Machine
end

