-- ==== Sys2Proof/Machine/CmdFabric.lean ====
section
/-!
DEFINITION. The fabric: the meaning of each command (R41 to R83).
-/

namespace Sys2Proof.Machine

/-- BRAM_GUARDED_READ. A port-1 read of a GUARDED word (R53): the bits of its 64 data bits and of its 8 check bits that have gone wrong since its last read are
given. -/
def execBramGuardedRead (block : Fin 3072) (word : Fin 512) (dataFlips : BitVec 64) (checkFlips : BitVec 8) (s : State) :
    Host.Outcome State Fault Refusal :=
  .next (guardedAccess block.val word.val (checkFlips ++ dataFlips) s)

/-- BRAM_REPAIR. The write-back of a corrected word (R53). -/
def execBramRepair (block : Fin 3072) (word : Fin 512) (s : State) : Host.Outcome State Fault Refusal :=
  .next (bramRepair (block.val * 512 + word.val) s)

/-- DLL_STEP. A STEP pulse of a DLL, DIR given (R64). -/
def execDllStep (dll : Fin 16) (later : Bool) (s : State) : Host.Outcome State Fault Refusal :=
  .next (dllStep dll.val later s)

/-- DLL_STEP_DONE. STEP_DONE of a DLL (R64). -/
def execDllStepDone (dll : Fin 16) (s : State) : Host.Outcome State Fault Refusal :=
  .next (dllStepDone dll.val s)

/-- DLL_ALIGNED. A DLL completes alignment (R64). -/
def execDllAligned (dll : Fin 16) (s : State) : Host.Outcome State Fault Refusal :=
  .next (dllAligned dll.val s)

/-- DLL_UNLOCK. ALIGNED of a DLL falls (R404). -/
def execDllUnlock (dll : Fin 16) (s : State) : Host.Outcome State Fault Refusal :=
  .next (dllUnlock dll.val s)

/-- GLOBAL_BUFFER_ENABLE. The enable of a global buffer (R63). -/
def execGlobalBufferEnable (buffer : Fin 64) (on : Bool) (s : State) : Host.Outcome State Fault Refusal :=
  .next (bufSet buffer.val (fun x => { x with en := on }) s)

/-- GLOBAL_BUFFER_SELECT. The select of a global buffer (R63). -/
def execGlobalBufferSelect (buffer : Fin 64) (sel : Bool) (s : State) : Host.Outcome State Fault Refusal :=
  .next (bufSet buffer.val (fun x => { x with sel := sel }) s)

/-- NEEDLE_EDGE. A rising edge on a Needle line (R66). -/
def execNeedleEdge (line : Fin 4096) (s : State) : Host.Outcome State Fault Refusal :=
  .next (needleEdge line.val s)

/-- PARAM_CAPTURE. The capture clock of a region takes the parameter words (R68). -/
def execParamCapture (region : Fin 128) (s : State) : Host.Outcome State Fault Refusal :=
  .next (paramCapture region.val s)

/-- RD. A read request of a fabric window initiator port (R71, R72). -/
def execRd (q : WinReq) (s : State) : Host.Outcome State Fault Refusal :=
  .next (winRead q s)

/-- WR_P. A posted write request (R71). -/
def execWrP (q : WinReq) (s : State) : Host.Outcome State Fault Refusal :=
  .next (settled (winWrite true q s))

/-- WR_NP. A non-posted write request (R71). -/
def execWrNp (q : WinReq) (s : State) : Host.Outcome State Fault Refusal :=
  .next (settled (winWrite false q s))

/-- AMO_SWAP. An atomic swap of 4 or 8 bytes (R74). -/
def execAmoSwap (q : WinReq) (wide : Bool) (s : State) : Host.Outcome State Fault Refusal :=
  .next (winAtomic .swap wide q s)

/-- AMO_ADD. An atomic add (R74). -/
def execAmoAdd (q : WinReq) (wide : Bool) (s : State) : Host.Outcome State Fault Refusal :=
  .next (winAtomic .add wide q s)

/-- AMO_CAS. A compare-and-swap (R74). -/
def execAmoCas (q : WinReq) (wide : Bool) (s : State) : Host.Outcome State Fault Refusal :=
  .next (winAtomic .cas wide q s)

/-- TARGET_PORT_ACCESS. A load or store of a core to a target port (R70). -/
def execTargetPortAccess (x : LoadStore) (s : State) : Host.Outcome State Fault Refusal :=
  .next (portInstr x s)

/-- TARGET_PORT_RESPONSE. The fabric's answer to a core's access at a target port (R75). -/
def execTargetPortResponse (port : Fin 8) (core : Fin 16) (code : Fin 6) (value : DWord) (s : State) : Host.Outcome State Fault Refusal :=
  .next (tportRespond port.val core.val (rspOf code.val) value s)

/-- TARGET_PORT_TIMEOUT. A target port has not answered in time (R76). -/
def execTargetPortTimeout (port : Fin 8) (s : State) : Host.Outcome State Fault Refusal :=
  .next (tportExpire port.val s)

/-- PARTNER_FRAME_RX. A frame from the fabric on a partner port ends, or is cut off by a fall of LINK_UP (R78, R79). -/
def execPartnerFrameRx (port : Fin 16) (bytes : List (BitVec 8)) (cut : Bool) (s : State) : Host.Outcome State Fault Refusal :=
  .next (ppFrame port.val bytes cut s)

/-- PARTNER_FRAME_TX. The oldest waiting frame leaves through a partner port (R78). -/
def execPartnerFrameTx (port : Fin 16) (s : State) : Host.Outcome State Fault Refusal :=
  .next (ppSend port.val s)

/-- LINK_UP_CHANGE. The fabric changes LINK_UP of a partner port (R78). -/
def execLinkUpChange (port : Fin 16) (up : Bool) (s : State) : Host.Outcome State Fault Refusal :=
  .next (ppLink port.val up s)

/-- BOLT_OFF. A write of FAB_BOLT_OFF (R83). -/
def execBoltOff (a : Acc) (bolts : BitVec 8) (s : State) : Host.Outcome State Fault Refusal :=
  .next (regCmd a 0xB060 (w32 bolts.toNat) s)

end Sys2Proof.Machine
end

