-- ==== Sys2Proof/Machine/CmdFault.lean ====
section
/-!
DEFINITION. Monitors and faults: the meaning of each command (R537 to R549).
-/

namespace Sys2Proof.Machine

/-- TEMP_SAMPLE. The 100 µs sample (R537 to R539): each sensor's reading and whether its paths differ, the local voltages in mV. -/
def execTempSample (readings : List (BitVec 16 × Bool)) (vdd : List Nat) (s : State) : Host.Outcome State Fault Refusal :=
  .next (settled (tempSample readings vdd s))

/-- LOCAL_SUPPLY_FAULT. A local supply fault of a bolt (0 to 7) or cluster (8 to 11) that has lasted 1 µs (R539). -/
def execLocalSupplyFault (domain : Fin 12) (mv : Nat) (s : State) : Host.Outcome State Fault Refusal :=
  .next (settled (localFault domain.val mv s))

/-- FAULT_LOG. A cycle of the fault collector (R540 to R543). -/
def execFaultLog (s : State) : Host.Outcome State Fault Refusal :=
  .next (settled (faultLog s))

/-- FLT_ACK. A write of FLT_ACK (R545). -/
def execFltAck (a : Acc) (s : State) : Host.Outcome State Fault Refusal :=
  .next (regCmd a 0x52044 1 s)

end Sys2Proof.Machine
end

