-- ==== Sys2Proof/Machine/CmdFitting.lean ====
section
/-!
DEFINITION. Fitting: the meaning of each command (R520 to R536).
-/

namespace Sys2Proof.Machine

/-- SLICE_START. Fitting starts its next slice (R529). -/
def execSliceStart (s : State) : Host.Outcome State Fault Refusal :=
  .next (sliceStart s)

/-- SLICE_DONE. A slice ends (R522): its test cycles, its signature, whether a read of its march differed, an uncorrectable word met. -/
def execSliceDone (cls : Fin 8) (unit : Fin 256) (cycles : Nat) (signature : DWord) (differs : Bool) (ue : Option Nat) (s : State) : Host.Outcome State Fault Refusal :=
  .next (settled (sliceDone cls.val unit.val cycles signature differs ue s))

/-- ROUND_START. A round starts (R530). -/
def execRoundStart (s : State) : Host.Outcome State Fault Refusal :=
  .next (roundStart s)

/-- WINDOW_OPEN. The armed idle window opens (R527). -/
def execWindowOpen (s : State) : Host.Outcome State Fault Refusal :=
  .next (windowOpen s)

/-- WINDOW_CLOSE. The idle window ends (R527). -/
def execWindowClose (s : State) : Host.Outcome State Fault Refusal :=
  .next (windowClose s)

/-- RUN_ONE. FIT_CMD, RUN_ONE (R532). -/
def execRunOne (a : Acc) (cls : BitVec 4) (unit slice : BitVec 8) (s : State) : Host.Outcome State Fault Refusal :=
  .next (regCmd a 0x50060 (w32 (1 * 2 ^ 28 + cls.toNat * 2 ^ 24 + unit.toNat * 2 ^ 16 + slice.toNat)) s)

/-- RUN_UNIT. FIT_CMD, RUN_UNIT (R532). -/
def execRunUnit (a : Acc) (cls : BitVec 4) (unit : BitVec 8) (s : State) : Host.Outcome State Fault Refusal :=
  .next (regCmd a 0x50060 (w32 (2 * 2 ^ 28 + cls.toNat * 2 ^ 24 + unit.toNat * 2 ^ 16)) s)

/-- ABORT_ALL. FIT_CMD, ABORT_ALL (R532). -/
def execAbortAll (a : Acc) (s : State) : Host.Outcome State Fault Refusal :=
  .next (regCmd a 0x50060 (w32 (3 * 2 ^ 28)) s)

end Sys2Proof.Machine
end

