-- ==== Sys2Proof/Machine/CmdFlash.lean ====
section
/-!
DEFINITION. Code flash: the meaning of each command (R265 to R294).
-/

namespace Sys2Proof.Machine

/-- DQ_HEAD_WRITE. A write of FLS_DQ_HEAD (R271). -/
def execDqHeadWrite (a : Acc) (value : Word) (s : State) : Host.Outcome State Fault Refusal :=
  .next (regCmd a 0x24054 value s)

/-- DQ_FETCH. The controller fetches a descriptor (R271, R274). -/
def execDqFetch (ecc : Ecc) (s : State) : Host.Outcome State Fault Refusal :=
  .next (dqFetch ecc s)

/-- DQ_RUN. FLS_DQ_CTRL, RUN (R271). -/
def execDqRun (a : Acc) (s : State) : Host.Outcome State Fault Refusal :=
  .next (regCmd a 0x2405C 1 s)

/-- DQ_STOP. FLS_DQ_CTRL, STOP (R271). -/
def execDqStop (a : Acc) (s : State) : Host.Outcome State Fault Refusal :=
  .next (regCmd a 0x2405C 2 s)

/-- PROGRAM. The next PROGRAM descriptor of a bank starts (R267, R273). -/
def execProgram (bank : Fin 8) (env : FlashEnv) (s : State) : Host.Outcome State Fault Refusal :=
  .next (flashStarts bank.val 1 env.rivals (startProgram bank.val env) s)

/-- ERASE. The next ERASE descriptor of a bank starts (R273). -/
def execErase (bank : Fin 8) (env : FlashEnv) (s : State) : Host.Outcome State Fault Refusal :=
  .next (flashStarts bank.val 2 env.rivals (startErase bank.val env) s)

/-- BLANK_CHECK. The next BLANK_CHECK descriptor of a bank is carried out (R273). -/
def execBlankCheck (bank : Fin 8) (env : FlashEnv) (s : State) : Host.Outcome State Fault Refusal :=
  .next (flashStarts bank.val 3 env.rivals (startCheck bank.val 3 env) s)

/-- VERIFY. The next VERIFY descriptor of a bank is carried out (R273). -/
def execVerify (bank : Fin 8) (env : FlashEnv) (s : State) : Host.Outcome State Fault Refusal :=
  .next (flashStarts bank.val 4 env.rivals (startCheck bank.val 4 env) s)

/-- MARK_BAD. The next MARK_BAD descriptor of a bank is carried out (R279). -/
def execMarkBad (bank : Fin 8) (env : FlashEnv) (s : State) : Host.Outcome State Fault Refusal :=
  .next (flashStarts bank.val 5 env.rivals (startMarkBad bank.val env) s)

/-- OPT_ERASE. The next OPT_ERASE descriptor starts (R283). -/
def execOptErase (env : FlashEnv) (s : State) : Host.Outcome State Fault Refusal :=
  .next (flashStarts 8 6 [] (startOptErase env) s)

/-- OPT_PROGRAM. The next OPT_PROGRAM descriptor starts (R283). -/
def execOptProgram (env : FlashEnv) (s : State) : Host.Outcome State Fault Refusal :=
  .next (flashStarts 8 7 [] (startOptProgram env) s)

/-- SLOT_BEGIN. The next SLOT_BEGIN descriptor is carried out (R287). -/
def execSlotBegin (env : FlashEnv) (s : State) : Host.Outcome State Fault Refusal :=
  .next (flashStarts 8 8 [] (startSlot 8 env) s)

/-- SLOT_COMMIT. The next SLOT_COMMIT descriptor is carried out (R287). -/
def execSlotCommit (env : FlashEnv) (s : State) : Host.Outcome State Fault Refusal :=
  .next (flashStarts 8 9 [] (startSlot 9 env) s)

/-- FLASH_FENCE_DESC. The next FENCE descriptor completes (R273). -/
def execFlashFenceDesc (env : FlashEnv) (s : State) : Host.Outcome State Fault Refusal :=
  .next (flashStarts 8 10 [] (startFence env) s)

/-- FLASH_OP_COMPLETE. A page program or sector erase finishes in a bank, or (8) in the option area: whether it verifies, whether the write of STATUS succeeds (R275). -/
def execFlashOpComplete (bank : Fin 9) (good statusOk : Bool) (s : State) : Host.Outcome State Fault Refusal :=
  .next (bootGoes (flashOpDone bank.val good statusOk s))

/-- FLASH_SUSPEND. FLS_SUSPEND, SUSPEND (R277). -/
def execFlashSuspend (a : Acc) (banks : BitVec 8) (s : State) : Host.Outcome State Fault Refusal :=
  .next (regCmd a 0x24064 (w32 (1 * 2 ^ 16 + banks.toNat)) s)

/-- FLASH_RESUME. FLS_SUSPEND, RESUME (R276). -/
def execFlashResume (a : Acc) (banks : BitVec 8) (s : State) : Host.Outcome State Fault Refusal :=
  .next (regCmd a 0x24064 (w32 (2 * 2 ^ 16 + banks.toNat)) s)

/-- FLASH_READ. A read of code flash or of the option area (R266, R268, R270). -/
def execFlashRead (init : Initiator) (addr bytes : Nat) (ecc : Ecc) (s : State) : Host.Outcome State Fault Refusal :=
  .next (flashRead init addr bytes ecc s)

/-- FLASH_REFRESH_PASS. The flash refresher starts a pass, by its schedule (R288). -/
def execFlashRefreshPass (hot : Bool) (s : State) : Host.Outcome State Fault Refusal :=
  .next (flashPass hot s)

/-- REFRESH_HOLD_EXPIRY. FLS_REFRESH_HOLD bits set 24 hours ago clear (R290). -/
def execRefreshHoldExpiry (s : State) : Host.Outcome State Fault Refusal :=
  .next (holdExpiry s)

/-- FLASH_REFRESH_SECTOR. The refresher finishes its next sector or option unit (R288). -/
def execFlashRefreshSector (differs : Bool) (ecc : Ecc) (s : State) : Host.Outcome State Fault Refusal :=
  .next (flashRefreshStep differs ecc s)

end Sys2Proof.Machine
end

