-- ==== Sys2Proof/Machine/CmdHost.lean ====
section
/-!
DEFINITION. Panels and hosts: the meaning of each command (R356 to R386).
-/

namespace Sys2Proof.Machine

/-- PNL_RESET. A write of PNL_RESET (R362). -/
def execPnlReset (a : Acc) (panels : BitVec 8) (s : State) : Host.Outcome State Fault Refusal :=
  .next (regCmd a 0x1044 (w32 panels.toNat) s)

/-- PNL_HOLD. A write of PNL_HOLD (R360). -/
def execPnlHold (a : Acc) (s : State) : Host.Outcome State Fault Refusal :=
  .next (regCmd a 0x1040 1 s)

/-- BAR0_ACCESS. A PCIe request to BAR0 (R366). DESIGN CHOICE (log 116): a request of a general form to BAR2 (R367), for which the table has no row, comes
with this command too. -/
def execBar0Access (q : PcieReq) (s : State) : Host.Outcome State Fault Refusal :=
  .next (settled (if q.bar = .bar4 then s else pcieRun (.mem q) s))

/-- BAR4_ACCESS. A PCIe request to BAR4 (R368); it names BAR4. -/
def execBar4Access (q : PcieReq) (s : State) : Host.Outcome State Fault Refusal :=
  .next (settled (if q.bar = .bar4 then pcieRun (.mem q) s else s))

/-- PCIE_CONFIG_ACCESS. A PCIe configuration request (R364). -/
def execPcieConfigAccess (fn : Fin 4) (dw : Fin 1024) (rw : Rw) (value : Word) (s : State) : Host.Outcome State Fault Refusal :=
  .next (pcieRun (.config fn dw rw value) s)

/-- MBX_IN_LEN. The bytes written to MBX_IN, and then MBX_IN_LEN (R371). -/
def execMbxInLen (fn : Fin 4) (bytes : List (Nat × BitVec 8)) (len : Nat) (s : State) : Host.Outcome State Fault Refusal :=
  .next (pcieRun (.mbxIn fn bytes len) s)

/-- MBX_OUT_DONE. A write of MBX_OUT_DONE (R371). -/
def execMbxOutDone (fn : Fin 4) (value : Word) (s : State) : Host.Outcome State Fault Refusal :=
  .next (pcieRun (.mbxDone fn value) s)

/-- FLR. A function-level reset (R372), which bit 15 of Device Control starts. -/
def execFlr (fn : Fin 4) (s : State) : Host.Outcome State Fault Refusal :=
  .next (pcieRun (.config fn 30 .write 0x8000) s)

/-- PERST. A hot reset, or PERST_N falls or rises (R372). -/
def execPerst (hot low : Bool) (s : State) : Host.Outcome State Fault Refusal :=
  .next (perst hot low s)

/-- LINK_DOWN. The PCIe link is lost (R372, R386). -/
def execLinkDown (s : State) : Host.Outcome State Fault Refusal :=
  .next (linkDown s)

/-- LINK_UP. The PCIe link completes training (R382, R385). -/
def execLinkUp (speed : BitVec 4) (width : BitVec 6) (s : State) : Host.Outcome State Fault Refusal :=
  .next (linkTrained speed.toNat width.toNat s)

/-- QSPI_RD_REG. RD_REG (R377). -/
def execQspiRdReg (q : QspiReq) (s : State) : Host.Outcome State Fault Refusal :=
  .next (qspiReq 1 q (fun i s => rdReg i q.body s) s)

/-- QSPI_WR_REG. WR_REG (R377). -/
def execQspiWrReg (q : QspiReq) (s : State) : Host.Outcome State Fault Refusal :=
  .next (settled (qspiReq 2 q (fun i s => wrReg i q.body q.env s) s))

/-- Q_PUSH. Q_PUSH (R377). -/
def execQPush (q : QspiReq) (s : State) : Host.Outcome State Fault Refusal :=
  .next (settled (qspiReq 3 q (fun i s => qPush i (panelFor s i) q.body q.env s) s))

/-- Q_POP. Q_POP (R377). -/
def execQPop (q : QspiReq) (s : State) : Host.Outcome State Fault Refusal :=
  .next (qspiReq 4 q (fun i s => qPop i (panelFor s i) q.body q.env s) s)

/-- Q_CMD. Q_CMD (R377). -/
def execQCmd (q : QspiReq) (s : State) : Host.Outcome State Fault Refusal :=
  .next (qspiReq 5 q (fun i s => qCmd i (panelFor s i) q.body q.env s) s)

/-- S_SEND. S_SEND (R377). -/
def execSSend (q : QspiReq) (s : State) : Host.Outcome State Fault Refusal :=
  .next (settled (qspiReq 6 q (fun _ s => sSendReq q.port.val q.body s) s))

/-- S_RECV. S_RECV (R377). -/
def execSRecv (q : QspiReq) (s : State) : Host.Outcome State Fault Refusal :=
  .next (qspiReq 7 q (fun _ s => bareReq q.body (sRecv q.port.val) s) s)

/-- PORT_STATUS. PORT_STATUS (R377). -/
def execPortStatus (q : QspiReq) (s : State) : Host.Outcome State Fault Refusal :=
  .next (qspiReq 8 q (fun _ s => bareReq q.body (portStatusReq q.port.val) s) s)

/-- WR_MEM. WR_MEM (R379). -/
def execWrMem (q : QspiReq) (s : State) : Host.Outcome State Fault Refusal :=
  .next (qspiReq 9 q (fun i s => wrMem i q.body s) s)

/-- RD_MEM. RD_MEM (R379). -/
def execRdMem (q : QspiReq) (s : State) : Host.Outcome State Fault Refusal :=
  .next (qspiReq 10 q (fun i s => rdMem i q.body q.env s) s)

/-- QSPI_ABORT. CS_N rises early (R375). -/
def execQspiAbort (port : Fin 2) (s : State) : Host.Outcome State Fault Refusal :=
  .next (qspiAbort port.val s)

/-- MSIX_TABLE_WRITE. A write of a DW of the MSI-X table (R370). -/
def execMsixTableWrite (fn : Fin 4) (dw : Fin 256) (value : Word) (s : State) : Host.Outcome State Fault Refusal :=
  .next (pcieRun (.msix fn dw value) s)

/-- AER_ERROR. An error the PCIe endpoint detects, at its bit of the AER status register (R386). -/
def execAerError (fn : Fin 4) (uncorrectable : Bool) (cause : Fin 32) (s : State) : Host.Outcome State Fault Refusal :=
  .next (aerError fn.val uncorrectable cause.val s)

end Sys2Proof.Machine
end

