-- ==== Sys2Proof/Machine/CmdLifeCycle.lean ====
section
/-!
DEFINITION. Life cycle, JTAG and debug: the meaning of each command (R496 to R519).
-/

namespace Sys2Proof.Machine

/-- TRANSITION. LCS_CMD, TRANSITION (R505). -/
def execTransition (a : Acc) (target : BitVec 5) (s : State) : Host.Outcome State Fault Refusal :=
  .next (regCmd a 0x49060 (w32 (1 + 256 * target.toNat)) s)

/-- PROG_TOKEN. LCS_CMD, PROG_TOKEN (R501). -/
def execProgToken (a : Acc) (token : BitVec 5) (s : State) : Host.Outcome State Fault Refusal :=
  .next (regCmd a 0x49060 (w32 (2 + 256 * token.toNat)) s)

/-- SERVICE_OPEN. LCS_CMD, SERVICE_OPEN (R510). -/
def execServiceOpen (a : Acc) (s : State) : Host.Outcome State Fault Refusal :=
  .next (regCmd a 0x49060 (w32 (3)) s)

/-- SERVICE_END. LCS_CMD, SERVICE_END (R514). -/
def execServiceEnd (a : Acc) (s : State) : Host.Outcome State Fault Refusal :=
  .next (regCmd a 0x49060 (w32 (4)) s)

/-- IDCODE. JTAG IDCODE (R515). -/
def execIdcode (s : State) : Host.Outcome State Fault Refusal :=
  .next (jtagWord 0x01 idcode s)

/-- SAMPLE_PRELOAD. JTAG SAMPLE/PRELOAD: the bits shifted in (R515). -/
def execSamplePreload (bits : BitVec 960) (s : State) : Host.Outcome State Fault Refusal :=
  .next (bscanShift 2 bits s)

/-- EXTEST. JTAG EXTEST (R515). -/
def execExtest (bits : BitVec 960) (s : State) : Host.Outcome State Fault Refusal :=
  .next (bscanShift 3 bits s)

/-- CLAMP. JTAG CLAMP (R515). -/
def execClamp (s : State) : Host.Outcome State Fault Refusal :=
  .next (bscanHold 4 s)

/-- HIGHZ. JTAG HIGHZ (R515). -/
def execHighz (s : State) : Host.Outcome State Fault Refusal :=
  .next (bscanHold 5 s)

/-- LC_STATUS. JTAG LC_STATUS (R515). -/
def execLcStatus (s : State) : Host.Outcome State Fault Refusal :=
  .next (jtagWord 0x10 (lcsStateWord s) s)

/-- LC_TRANSITION. JTAG LC_TRANSITION (R505). -/
def execLcTransition (target : BitVec 8) (token : List (BitVec 8)) (env : RegEnv) (s : State) : Host.Outcome State Fault Refusal :=
  .next (settled (jtagTransition target.toNat token env s))

/-- LC_CHALLENGE. JTAG LC_CHALLENGE (R511). -/
def execLcChallenge (panel : BitVec 8) (scope minutes : BitVec 16) (keyId : BitVec 8) (meets : List LcReq) (s : State) :
    Host.Outcome State Fault Refusal :=
  .next (settled (jtagChallenge panel.toNat scope.toNat minutes.toNat keyId.toNat meets s))

/-- LC_RESPONSE. JTAG LC_RESPONSE (R512). -/
def execLcResponse (body : List (BitVec 8)) (storeBad : Bool) (meets : List LcReq) (s : State) : Host.Outcome State Fault Refusal :=
  .next (settled (jtagResponse body storeBad meets s))

/-- DTMCS. JTAG DTMCS (R513). -/
def execDtmcs (s : State) : Host.Outcome State Fault Refusal :=
  .next (dtmcs s)

/-- DMI. JTAG DMI (R513). -/
def execDmi (op : Fin 4) (addr : Fin 128) (value : Word) (env : DmiEnv) (s : State) : Host.Outcome State Fault Refusal :=
  .next (settled (dmi op.val addr.val value env s))

/-- BYPASS. JTAG BYPASS (R515). -/
def execBypass (s : State) : Host.Outcome State Fault Refusal :=
  .next ((jtagSelect 0x3F s).1)

/-- TRST_N. TRST_N falls (R514). -/
def execTrstN (s : State) : Host.Outcome State Fault Refusal :=
  .next (settled (trst s))

/-- CHALLENGE_EXPIRY. The challenge of 300 s ago expires (R511). -/
def execChallengeExpiry (s : State) : Host.Outcome State Fault Refusal :=
  .next (challengeExpire s)

/-- GRANT_EXPIRY. A debug grant reaches its end (R514). -/
def execGrantExpiry (s : State) : Host.Outcome State Fault Refusal :=
  .next (settled (grantExpire s))

end Sys2Proof.Machine
end

