-- ==== Sys2Proof/Machine/CmdMemory.lean ====
section
/-!
DEFINITION. The memories: the meaning of each command (R249 to R263).
-/

namespace Sys2Proof.Machine

/-- SRAM_ACCESS. An access of shared SRAM, with those of the same cycle (R250 to R253). -/
def execSramAccess (init : Initiator) (rw : Rw) (addr bytes : Nat) (value : BitVec 128) (also : List MemReq) (ecc : Ecc) (s : State) : Host.Outcome State Fault Refusal :=
  .next (if inSram addr then memAccess ⟨init, rw, addr, bytes, value⟩ also ecc s else s)

/-- DRAM_ACCESS. An access of DRAM, with those of the same cycle (R254 to R256). -/
def execDramAccess (init : Initiator) (rw : Rw) (addr bytes : Nat) (value : BitVec 128) (also : List MemReq) (ecc : Ecc) (s : State) : Host.Outcome State Fault Refusal :=
  .next (if inDram addr then memAccess ⟨init, rw, addr, bytes, value⟩ also ecc s else s)

/-- ZERO_FILL_SEGMENT. The next 64 KiB segment of DRAM is zero-filled (R257). -/
def execZeroFillSegment (s : State) : Host.Outcome State Fault Refusal :=
  .next (fillSegment s)

/-- DRAM_REFRESH. A refresh of DRAM rows: it keeps what memory holds, and the spec gives it no other effect than the time it takes (R258). -/
def execDramRefresh (s : State) : Host.Outcome State Fault Refusal :=
  .next s

/-- DRAM_POWER_DOWN. DRAM power-down after 1 µs without requests (R258). -/
def execDramPowerDown (s : State) : Host.Outcome State Fault Refusal :=
  .next (dramDown s)

/-- PATROL_SCRUB. The patrol scrub reads the next DRAM word (R259). -/
def execPatrolScrub (ecc : Ecc) (s : State) : Host.Outcome State Fault Refusal :=
  .next (scrubStep ecc s)

/-- ERROR_HOUR_ROLLOVER. A whole hour of TIM_NOW ends (R261, R542, R543). -/
def execErrorHourRollover (s : State) : Host.Outcome State Fault Refusal :=
  .next (hourRoll (memHour s))

end Sys2Proof.Machine
end

