-- ==== Sys2Proof/Machine/CmdMode.lean ====
section
/-!
DEFINITION. Modes: the meaning of each command (R452 to R466).
-/

namespace Sys2Proof.Machine

/-- MODE_REQ_DOZE. AON_MODE_REQ, DOZE (R453). -/
def execModeReqDoze (a : Acc) (s : State) : Host.Outcome State Fault Refusal :=
  .next (regCmd a 0x2040 6 s)

/-- MODE_REQ_NAP. AON_MODE_REQ, NAP (R453). -/
def execModeReqNap (a : Acc) (s : State) : Host.Outcome State Fault Refusal :=
  .next (regCmd a 0x2040 7 s)

/-- MODE_REQ_HIBERNATE. AON_MODE_REQ, HIBERNATE (R453). -/
def execModeReqHibernate (a : Acc) (s : State) : Host.Outcome State Fault Refusal :=
  .next (regCmd a 0x2040 8 s)

/-- MODE_REQ_SAFE. AON_MODE_REQ, SAFE (R453). -/
def execModeReqSafe (a : Acc) (s : State) : Host.Outcome State Fault Refusal :=
  .next (regCmd a 0x2040 10 s)

/-- MODE_REQ_RUN. AON_MODE_REQ, RUN (R453). -/
def execModeReqRun (a : Acc) (s : State) : Host.Outcome State Fault Refusal :=
  .next (regCmd a 0x2040 4 s)

/-- DOZE_ENTRY. DOZE entry, every core halted (R455). -/
def execDozeEntry (s : State) : Host.Outcome State Fault Refusal :=
  .next (settled (dozeEntry s))

/-- DOZE_WAKE. DOZE ends (R455). -/
def execDozeWake (s : State) : Host.Outcome State Fault Refusal :=
  .next (settled (dozeWake s))

/-- NAP_ENTRY. NAP entry (R456). -/
def execNapEntry (s : State) : Host.Outcome State Fault Refusal :=
  let t := napEntry s
  .next (settled (if t.mode = .nap ∧ s.mode ≠ .nap then napLevels t else t))

/-- NAP_WAKE. NAP ends (R456): the host requests held meanwhile are performed (R382). -/
def execNapWake (s : State) : Host.Outcome State Fault Refusal :=
  .next (settled (heldGo (napWake s)))

/-- HIBERNATE_ENTRY. HIBERNATE entry (R460): it begins, and then, its writes done, ends. -/
def execHibernateEntry (s : State) : Host.Outcome State Fault Refusal :=
  .next (settled (hibernateEntry s))

/-- HIBERNATE_WAKE. The wake from HIBERNATE (R461). -/
def execHibernateWake (e : StartEnv) (s : State) : Host.Outcome State Fault Refusal :=
  .next (settled (hibernateWake e s))

/-- HIBERNATE_WAKE_RETRY. A wake rail is not good within 1.5 ms (R462). -/
def execHibernateWakeRetry (rail : Fin 3) (s : State) : Host.Outcome State Fault Refusal :=
  .next (settled (wakeRetry rail s))

/-- WAKE_EVENT. An event of a wake source (R458). -/
def execWakeEvent (code : Fin 16) (idx : Nat) (s : State) : Host.Outcome State Fault Refusal :=
  .next (wakeEvent code.val idx s)

/-- TIMED_WAKE. Selvage reaches the edge before a timed target less the lead time (R457). -/
def execTimedWake (s : State) : Host.Outcome State Fault Refusal :=
  .next (settled (timedWake s))

/-- WAKE_AT_REACHED. AON_WAKE_AT is reached (R466). -/
def execWakeAtReached (s : State) : Host.Outcome State Fault Refusal :=
  .next (wakeAtReached s)

end Sys2Proof.Machine
end

