-- ==== Sys2Proof/Machine/CmdOverlock.lean ====
section
/-!
DEFINITION. Overlock: the meaning of each command (R145 to R165).
-/

namespace Sys2Proof.Machine

/-- SWEEP_START. A sweep engine starts a new sweep (R147). -/
def execSweepStart (bolt : Fin 8) (s : State) : Host.Outcome State Fault Refusal :=
  .next (sweepStart bolt.val s)

/-- SWEEP_FRAME_CHECK. A sweep engine checks its next frame (R148 to R152), with the engines that do so in the same cycle (R154). -/
def execSweepFrameCheck (bolt : Fin 8) (upsets : List (Fin 4096)) (meets : SweepMeets) (also : List SweepRead) (s : State) :
    Host.Outcome State Fault Refusal :=
  .next (settled (sweepFrames (⟨bolt, upsets, meets⟩ :: also) s))

/-- REGION_RESET_RELEASE. A region reset by a class action is released (R151). -/
def execRegionResetRelease (region : Fin 128) (s : State) : Host.Outcome State Fault Refusal :=
  .next (settled (resetRelease region.val s))

/-- SWEEP_OVERRUN. A sweep exceeds 20 ms (R164). -/
def execSweepOverrun (bolt : Fin 8) (s : State) : Host.Outcome State Fault Refusal :=
  .next (sweepOverrun bolt.val s)

/-- REFRESH_PASS_START. The plane refresher starts a pass, by its schedule (R156). -/
def execRefreshPassStart (hot : Bool) (s : State) : Host.Outcome State Fault Refusal :=
  .next (refreshStart hot s)

/-- REFRESH_FRAME_CHECK. The refresher checks one frame (R157, R158): whether its margin read differs, its wrong bits, and the spare slots that fail where it is rewritten. -/
def execRefreshFrameCheck (differs : Bool) (errors : Nat) (slots : SlotFails) (s : State) : Host.Outcome State Fault Refusal :=
  .next (settled (refreshFrame differs errors slots.verify slots.erase s))

/-- OVERLOCK_VOTE_ERROR. A disagreement among Overlock's triplicated state (R161). -/
def execOverlockVoteError (majority : Bool) (s : State) : Host.Outcome State Fault Refusal :=
  .next (settled (voteError majority s))

/-- OVL_INJECT. OVL_INJECT with GO (R165). -/
def execOvlInject (a : Acc) (far : BitVec 16) (word : BitVec 7) (cell : BitVec 5) (s : State) : Host.Outcome State Fault Refusal :=
  .next (regCmd a 0xA0A0 (w32 (0x10000000 + cell.toNat * 2 ^ 23 + word.toNat * 2 ^ 16 + far.toNat)) s)

end Sys2Proof.Machine
end

