-- ==== Sys2Proof/Machine/CmdPattern.lean ====
section
/-!
DEFINITION. Pattern loading: the meaning of each command (R109 to R142).
-/

namespace Sys2Proof.Machine

/-- PLANE_WRITE. PAT_CMD, WRITE (R119, R120). -/
def execPlaneWrite (a : Acc) (target : Fin 4) (s : State) : Host.Outcome State Fault Refusal :=
  .next (regCmd a 0x8040 (w32 (16 * target.val + 1)) s)

/-- PLANE_WRITE_DONE. The read-back of a written plane completes; whether a cell fails it (R120). -/
def execPlaneWriteDone (cellFails : Bool) (s : State) : Host.Outcome State Fault Refusal :=
  .next (settled (writeDone cellFails s))

/-- PAT_ABORT. PAT_CMD, ABORT (R121). -/
def execPatAbort (a : Acc) (s : State) : Host.Outcome State Fault Refusal :=
  .next (regCmd a 0x8040 2 s)

/-- PLANE_ERASE. PAT_CMD, ERASE (R121). -/
def execPlaneErase (a : Acc) (target : Fin 4) (s : State) : Host.Outcome State Fault Refusal :=
  .next (regCmd a 0x8040 (w32 (16 * target.val + 6)) s)

/-- SWAP. PAT_CMD, SWAP (R122 to R126). -/
def execSwap (a : Acc) (target : Fin 4) (trial : Bool) (s : State) : Host.Outcome State Fault Refusal :=
  .next (regCmd a 0x8040 (w32 (64 * b2n trial + 16 * target.val + 3)) s)

/-- SWAP_AT. PAT_CMD, SWAP_AT (R125). -/
def execSwapAt (a : Acc) (target : Fin 4) (trial : Bool) (s : State) : Host.Outcome State Fault Refusal :=
  .next (regCmd a 0x8040 (w32 (64 * b2n trial + 16 * target.val + 4)) s)

/-- SWAP_AT_START. The first tick at or after the time of a pending SWAP_AT (R125, R126). -/
def execSwapAtStart (s : State) : Host.Outcome State Fault Refusal :=
  .next (settled (swapAtDue s))

/-- CONFIRM. PAT_CMD, CONFIRM (R134). -/
def execConfirm (a : Acc) (s : State) : Host.Outcome State Fault Refusal :=
  .next (regCmd a 0x8040 5 s)

/-- BASTE. BAS_CMD, BASTE (R136). -/
def execBaste (a : Acc) (s : State) : Host.Outcome State Fault Refusal :=
  .next (regCmd a 0x9040 1 s)

/-- BAS_ABORT. BAS_CMD, ABORT (R138). -/
def execBasAbort (a : Acc) (s : State) : Host.Outcome State Fault Refusal :=
  .next (regCmd a 0x9040 2 s)

/-- RESTORE. BAS_CMD, RESTORE (R139). -/
def execRestore (a : Acc) (s : State) : Host.Outcome State Fault Refusal :=
  .next (regCmd a 0x9040 3 s)

end Sys2Proof.Machine
end

