-- ==== Sys2Proof/Machine/CmdPin.lean ====
section
/-!
DEFINITION. Pins and banks: the meaning of each command (R320 to R340).
-/

namespace Sys2Proof.Machine

/-- PIN_MUX_WRITE. A write of PIN_MUXn (R333). -/
def execPinMuxWrite (a : Acc) (pin : Fin 480) (value : Word) (s : State) : Host.Outcome State Fault Refusal :=
  .next (regCmd a (0x30100 + pin.val / 40 * 0x1000 + pin.val % 40 * 4) value s)

/-- PIN_OUT_SET. A write of PIN_OUT_SET, pins 0 to 31 or 32 to 39 of a bank (R326). -/
def execPinOutSet (a : Acc) (bank : Fin 12) (high : Bool) (mask : Word) (s : State) : Host.Outcome State Fault Refusal :=
  .next (regCmd a (0x30050 + bank.val * 0x1000 + 4 * b2n high) mask s)

/-- PIN_OUT_CLR. A write of PIN_OUT_CLR (R326). -/
def execPinOutClr (a : Acc) (bank : Fin 12) (high : Bool) (mask : Word) (s : State) : Host.Outcome State Fault Refusal :=
  .next (regCmd a (0x30058 + bank.val * 0x1000 + 4 * b2n high) mask s)

/-- PIN_INPUT_CHANGE. The board drives a pin to a level, or floats it, for a number of pad-clock edges (R327, R328, R332). -/
def execPinInputChange (pin : Fin 480) (board : Option Bool) (edges : Nat) (s : State) : Host.Outcome State Fault Refusal :=
  .next (pinChange pin.val board edges s)

/-- PIN_MISMATCH. The levels a driven pin reads at 3 consecutive pad-clock edges (R331). -/
def execPinMismatch (pin : Fin 480) (x y z : Bool) (s : State) : Host.Outcome State Fault Refusal :=
  .next (mismatch pin.val x y z s)

/-- BANK_RAIL_FAULT. A bank rail leaves regulation or exceeds its limit (R339). -/
def execBankRailFault (bank : Fin 12) (s : State) : Host.Outcome State Fault Refusal :=
  .next (railFault bank.val s)

/-- RAIL_RETRY. PIN_RAIL.RETRY of a bank (R339). -/
def execRailRetry (a : Acc) (bank : Fin 12) (s : State) : Host.Outcome State Fault Refusal :=
  .next (regCmd a (0x30088 + bank.val * 0x1000) 1 s)

end Sys2Proof.Machine
end

