-- ==== Sys2Proof/Machine/CmdPleat.lean ====
section
/-!
DEFINITION. Pleats and time-triggered edges: the meaning of each command (R341 to R355).
-/

namespace Sys2Proof.Machine

/-- START. PLT_GCMD, START (R347). -/
def execStart (a : Acc) (group : Fin 8) (s : State) : Host.Outcome State Fault Refusal :=
  .next (regCmd a (0x3C118 + group.val * 0x40) 1 s)

/-- START_AT. PLT_GCMD, START_AT (R347). -/
def execStartAt (a : Acc) (group : Fin 8) (s : State) : Host.Outcome State Fault Refusal :=
  .next (regCmd a (0x3C118 + group.val * 0x40) 2 s)

/-- STOP. PLT_GCMD, STOP (R347). -/
def execStop (a : Acc) (group : Fin 8) (s : State) : Host.Outcome State Fault Refusal :=
  .next (regCmd a (0x3C118 + group.val * 0x40) 3 s)

/-- HALT. PLT_GCMD, HALT (R347). -/
def execHalt (a : Acc) (group : Fin 8) (s : State) : Host.Outcome State Fault Refusal :=
  .next (regCmd a (0x3C118 + group.val * 0x40) 4 s)

/-- PLEAT_START_TIME. A pending group reaches T0 (R347). -/
def execPleatStartTime (group : Fin 8) (s : State) : Host.Outcome State Fault Refusal :=
  .next (groupBegins group.val s)

/-- PLEAT_SLOT_BOUNDARY. A slot boundary of a group (R344). -/
def execPleatSlotBoundary (group : Fin 8) (s : State) : Host.Outcome State Fault Refusal :=
  .next (slotBoundary group.val s)

/-- PLEAT_SAMPLE. The sample point of a group's slot (R346). -/
def execPleatSample (group : Fin 8) (s : State) : Host.Outcome State Fault Refusal :=
  .next (groupSample group.val s)

/-- PLEAT_FRAME_END. A frame of a group ends (R346, R349). -/
def execPleatFrameEnd (group : Fin 8) (s : State) : Host.Outcome State Fault Refusal :=
  .next (frameEnd group.val s)

/-- PLT_TTE_ARM. A write of PLT_TTE_ARM (R352). -/
def execPltTteArm (a : Acc) (mask : BitVec 16) (s : State) : Host.Outcome State Fault Refusal :=
  .next (regCmd a 0x3C040 (w32 mask.toNat) s)

/-- PLT_TTE_CANCEL. A write of PLT_TTE_CANCEL (R352). -/
def execPltTteCancel (a : Acc) (mask : BitVec 16) (s : State) : Host.Outcome State Fault Refusal :=
  .next (regCmd a 0x3C044 (w32 mask.toNat) s)

/-- TTE_FIRE. An armed channel reaches its time (R352). -/
def execTteFire (channel : Fin 16) (s : State) : Host.Outcome State Fault Refusal :=
  .next (tteFire channel.val s)

end Sys2Proof.Machine
end

