-- ==== Sys2Proof/Machine/CmdPower.lean ====
section
/-!
DEFINITION. Power: the meaning of each command (R428 to R451).
-/

namespace Sys2Proof.Machine

/-- POWER_ON_START. VIN is valid, or a reset ends: the start sequence (R115, R432). -/
def execPowerOnStart (e : StartEnv) (s : State) : Host.Outcome State Fault Refusal :=
  .next (settled (powerOnStart e s))

/-- RAIL_START_FAIL. A rail is not good within 1.5 ms of its start (R433). -/
def execRailStartFail (rail : Fin 6) (s : State) : Host.Outcome State Fault Refusal :=
  .next (settled (railStartFail rail s))

/-- RESET_N. RESET_N is recognised low, or has risen (R583). -/
def execResetN (low : Bool) (s : State) : Host.Outcome State Fault Refusal :=
  .next (settled (resetN low s))

/-- BROWN_OUT. VIN stays below 16.0 V for 10 µs (R436, R437). -/
def execBrownOut (s : State) : Host.Outcome State Fault Refusal :=
  .next (settled (brownOut s))

/-- HIBERNATE_BROWN_OUT. In HIBERNATE VHOLD falls to 20 V (R439). -/
def execHibernateBrownOut (s : State) : Host.Outcome State Fault Refusal :=
  .next (settled (hibernateBrownOut s))

/-- OVERVOLT. VIN stays above 82 V for 10 µs (R428). -/
def execOvervolt (s : State) : Host.Outcome State Fault Refusal :=
  .next (overvolt s)

/-- ILIMIT. The input current limit acts for 10 ms (R429). -/
def execIlimit (s : State) : Host.Outcome State Fault Refusal :=
  .next (settled (ilimit s))

/-- RAIL_OUT_OF_WINDOW. A rail leaves its window for 10 µs (R434). -/
def execRailOutOfWindow (rail : Fin 6) (s : State) : Host.Outcome State Fault Refusal :=
  .next (settled (railOut rail s))

/-- VHOLD_OK. VHOLD reaches 52 V, or falls below 48 V (R430). -/
def execVholdOk (ok : Bool) (s : State) : Host.Outcome State Fault Refusal :=
  .next (vholdOk ok s)

/-- VHOLD_ABSENT. VHOLD reaches 52 V within 1 ms, or (late) not within 2 s (R430). -/
def execVholdAbsent (late : Bool) (s : State) : Host.Outcome State Fault Refusal :=
  .next (vholdAbsent late s)

/-- PHASE_ADD. VDD_CORE current, in 10 mA, rises past a boundary (R435). -/
def execPhaseAdd (current : Nat) (s : State) : Host.Outcome State Fault Refusal :=
  .next (phaseAdd current s)

/-- PHASE_SHED. VDD_CORE current, in 10 mA, has stayed 2 A below a boundary (R435). -/
def execPhaseShed (current : Nat) (s : State) : Host.Outcome State Fault Refusal :=
  .next (phaseShed current s)

/-- POWER_MONITOR_SAMPLE. The 10 µs sample (R444): VIN and VHOLD in 10 mV, the input current in mA, the VDD_CORE current in 10 mA, whether
the current limit acts. -/
def execPowerMonitorSample (vin vhold iin core : Nat) (limiting : Bool) (s : State) : Host.Outcome State Fault Refusal :=
  .next (powerSample vin vhold iin core limiting s)

/-- OVER_BUDGET. The input power average has stayed above LIMIT for 10 ms (R445). -/
def execOverBudget (s : State) : Host.Outcome State Fault Refusal :=
  .next (overBudget s)

/-- AON_BROWN_OUT. The always-on load has exceeded its limit in low-power mode (R441). -/
def execAonBrownOut (s : State) : Host.Outcome State Fault Refusal :=
  .next (settled (aonBrownOut s))

/-- SELVAGE_POWER_LOSS. The higher of VIN and VHOLD falls below 12 V (R430). -/
def execSelvagePowerLoss (s : State) : Host.Outcome State Fault Refusal :=
  .next (settled (selvageLoss s))

end Sys2Proof.Machine
end

