-- ==== Sys2Proof/Machine/CmdQueue.lean ====
section
/-!
DEFINITION. The queues: the meaning of each command (R295 to R319).
-/

namespace Sys2Proof.Machine

/-- QUE_PUSH. A beat to QUE_PUSH (R301, R302, R306). -/
def execQuePush (init : Initiator) (queue : Fin 64) (value : DWord) (meets : BeatEnv) (s : State) : Host.Outcome State Fault Refusal :=
  .next (queCmdAt init queue 0 .write value meets s)

/-- QUE_POP. A beat from QUE_POP (R303, R307). -/
def execQuePop (init : Initiator) (queue : Fin 64) (meets : BeatEnv) (s : State) : Host.Outcome State Fault Refusal :=
  .next (queCmdAt init queue 256 .read 0 meets s)

/-- QUE_PEEK. A beat from QUE_PEEK (R303). -/
def execQuePeek (init : Initiator) (queue : Fin 64) (meets : BeatEnv) (s : State) : Host.Outcome State Fault Refusal :=
  .next (queCmdAt init queue 480 .read 0 meets s)

/-- MARK. The port command MARK (R312). -/
def execMark (init : Initiator) (queue : Fin 64) (meets : BeatEnv) (s : State) : Host.Outcome State Fault Refusal :=
  .next (queCmdAt init queue 482 .write 1 meets s)

/-- REWIND. The port command REWIND (R312). -/
def execRewind (init : Initiator) (queue : Fin 64) (meets : BeatEnv) (s : State) : Host.Outcome State Fault Refusal :=
  .next (queCmdAt init queue 482 .write 2 meets s)

/-- CLEAR_MARK. The port command CLEAR_MARK (R312). -/
def execClearMark (init : Initiator) (queue : Fin 64) (meets : BeatEnv) (s : State) : Host.Outcome State Fault Refusal :=
  .next (queCmdAt init queue 482 .write 3 meets s)

/-- FLUSH. The port command FLUSH (R309). -/
def execFlush (init : Initiator) (queue : Fin 64) (meets : BeatEnv) (s : State) : Host.Outcome State Fault Refusal :=
  .next (queCmdAt init queue 482 .write 4 meets s)

/-- FLUSH_FORCE. The port command FLUSH_FORCE (R310). -/
def execFlushForce (init : Initiator) (queue : Fin 64) (meets : BeatEnv) (s : State) : Host.Outcome State Fault Refusal :=
  .next (queCmdAt init queue 482 .write 5 meets s)

/-- FLUSH_POINT. A pending FLUSH reaches its packet boundary (R309). -/
def execFlushPoint (queue : Fin 64) (s : State) : Host.Outcome State Fault Refusal :=
  .next (if queClocked s then flushPoint queue.val s else s)

/-- QUEUE_HANDSHAKE_DONE. A pointer handshake completes (R311, R312). -/
def execQueueHandshakeDone (queue : Fin 64) (s : State) : Host.Outcome State Fault Refusal :=
  .next (if queClocked s then shakeDone queue.val s else s)

/-- QUEUE_RESET. QUE_CMD, RESET (R318). -/
def execQueueReset (a : Acc) (queue : Fin 64) (s : State) : Host.Outcome State Fault Refusal :=
  .next (regCmd a (Reg.QUE_CMD queue.val) 1 s)

/-- QUE_CFG_WRITE. A write of QUE_CFG (R295, R318). -/
def execQueCfgWrite (a : Acc) (queue : Fin 64) (value : Word) (s : State) : Host.Outcome State Fault Refusal :=
  .next (regCmd a (Reg.QUE_CFG queue.val) value s)

/-- QUEUE_THRESHOLD. The consumer's count follows the write pointer, all but the last words, and may rise to QUE_THRESH (R300, R308). -/
def execQueueThreshold (queue : Fin 64) (lag : Nat) (s : State) : Host.Outcome State Fault Refusal :=
  .next (if queClocked s then seeWrites queue.val lag s else s)

/-- FORCED_RESET. The copies of a pointer disagree (R313). -/
def execForcedReset (queue : Fin 64) (isRead : Bool) (s : State) : Host.Outcome State Fault Refusal :=
  .next (if queClocked s && !joined s queue.val then forcedReset queue.val isRead s else s)

end Sys2Proof.Machine
end

