-- ==== Sys2Proof/Machine/CmdSeam.lean ====
section
/-!
DEFINITION. Register pages and the Seam commands: the meaning of each command (R9 to R40).
-/

namespace Sys2Proof.Machine

/-- REGISTER_WRITE. A store of `bytes` bytes to a register page (R7, R9, R18, R26). -/
def execRegisterWrite (a : Acc) (addr bytes : Nat) (value : DWord) (s : State) : Host.Outcome State Fault Refusal :=
  .next (regStore a addr bytes value s)

/-- STAGING_WRITE. A write of a staged register at a distance from 0x6000_0000 (R28, R29); the command names staged registers only. -/
def execStagingWrite (a : Acc) (off : Nat) (value : Word) (s : State) : Host.Outcome State Fault Refusal :=
  .next (if isStaged off then regCmd a off value s else s)

/-- COMMIT_NOW. SEAM_COMMIT, OP 0b01 (R31). -/
def execCommitNow (a : Acc) (s : State) : Host.Outcome State Fault Refusal :=
  .next (regCmd a 0x40 1 s)

/-- COMMIT_AT. SEAM_COMMIT, OP 0b10 (R32). -/
def execCommitAt (a : Acc) (s : State) : Host.Outcome State Fault Refusal :=
  .next (regCmd a 0x40 2 s)

/-- DISCARD. SEAM_COMMIT, OP 0b11 (R32). -/
def execDiscard (a : Acc) (s : State) : Host.Outcome State Fault Refusal :=
  .next (regCmd a 0x40 3 s)

/-- SEAL_POINT. The seal point of a panel's scheduled commit (R32). -/
def execSealPoint (panel : Fin 8) (s : State) : Host.Outcome State Fault Refusal :=
  .next (sealPoint panel.val s)

/-- APPLY_TICK. The apply tick of the commits that are due (R30, R33, R359). -/
def execApplyTick (s : State) : Host.Outcome State Fault Refusal :=
  .next (settled (applyTick s))

/-- TAKE_NOW. SEAM_SNAP, OP 0b01 (R36). -/
def execTakeNow (a : Acc) (s : State) : Host.Outcome State Fault Refusal :=
  .next (regCmd a 0x70 1 s)

/-- TAKE_AT. SEAM_SNAP, OP 0b10 (R36). -/
def execTakeAt (a : Acc) (s : State) : Host.Outcome State Fault Refusal :=
  .next (regCmd a 0x70 2 s)

/-- RELEASE. SEAM_SNAP, OP 0b11 (R36). -/
def execRelease (a : Acc) (s : State) : Host.Outcome State Fault Refusal :=
  .next (regCmd a 0x70 3 s)

/-- SNAPSHOT_CAPTURE. The tick of the snapshots that are due (R36). -/
def execSnapshotCapture (s : State) : Host.Outcome State Fault Refusal :=
  .next (snapTick s)

/-- SOFT_RESET. CTRL of a page with SOFT_RESET, beside a value of ENABLE (R22). -/
def execSoftReset (a : Acc) (page : Fin 256) (enable : Bool) (s : State) : Host.Outcome State Fault Refusal :=
  .next (regCmd a (page.val * 0x1000 + 0xC) (ctrlWord enable true) s)

/-- CTRL_ENABLE_WRITE. CTRL.ENABLE of a page (R22). -/
def execCtrlEnableWrite (a : Acc) (page : Fin 256) (enable : Bool) (s : State) : Host.Outcome State Fault Refusal :=
  .next (regCmd a (page.val * 0x1000 + 0xC) (ctrlWord enable false) s)

/-- IRQ_SET. IRQ_SET of a page (R22). -/
def execIrqSet (a : Acc) (page : Fin 256) (value : Word) (s : State) : Host.Outcome State Fault Refusal :=
  .next (regCmd a (page.val * 0x1000 + 0x1C) value s)

/-- PAGE_LOCK. LOCK.LOCKED of a page (R24). -/
def execPageLock (a : Acc) (page : Fin 256) (s : State) : Host.Outcome State Fault Refusal :=
  .next (regCmd a (page.val * 0x1000 + 0x24) 1 s)

end Sys2Proof.Machine
end

