-- ==== Sys2Proof/Machine/CmdSession.lean ====
section
/-!
DEFINITION. Identity and sessions: the meaning of each command (R467 to R495).
-/

namespace Sys2Proof.Machine

/-- PROG_SIGN. THM_CMD, PROG_SIGN (R471). -/
def execProgSign (a : Acc) (slot : Fin 16) (s : State) : Host.Outcome State Fault Refusal :=
  .next (regCmd a 0x48060 (w32 (1 + 256 * slot.val)) s)

/-- REVOKE_SIGN. THM_CMD, REVOKE_SIGN (R471). -/
def execRevokeSign (a : Acc) (slot : Fin 16) (s : State) : Host.Outcome State Fault Refusal :=
  .next (regCmd a 0x48060 (w32 (2 + 256 * slot.val)) s)

/-- PROG_DKEY. THM_CMD, PROG_DKEY (R471). -/
def execProgDkey (a : Acc) (slot : Fin 16) (s : State) : Host.Outcome State Fault Refusal :=
  .next (regCmd a 0x48060 (w32 (3 + 256 * slot.val)) s)

/-- REVOKE_DKEY. THM_CMD, REVOKE_DKEY (R471). -/
def execRevokeDkey (a : Acc) (slot : Fin 16) (s : State) : Host.Outcome State Fault Refusal :=
  .next (regCmd a 0x48060 (w32 (4 + 256 * slot.val)) s)

/-- ATTEST. THM_CMD, ATTEST (R471). -/
def execAttest (a : Acc) (s : State) : Host.Outcome State Fault Refusal :=
  .next (regCmd a 0x48060 5 s)

/-- ENROL_WRITE. SES_ENROL_CMD, WRITE (R479). -/
def execEnrolWrite (a : Acc) (entry : Fin 1024) (s : State) : Host.Outcome State Fault Refusal :=
  .next (regCmd a 0x41044 (w32 (1 * 2 ^ 28 + entry.val)) s)

/-- ENROL_ENABLE. SES_ENROL_CMD, ENABLE (R479). -/
def execEnrolEnable (a : Acc) (entry : Fin 1024) (s : State) : Host.Outcome State Fault Refusal :=
  .next (regCmd a 0x41044 (w32 (2 * 2 ^ 28 + entry.val)) s)

/-- ENROL_DISABLE. SES_ENROL_CMD, DISABLE (R480). -/
def execEnrolDisable (a : Acc) (entry : Fin 1024) (s : State) : Host.Outcome State Fault Refusal :=
  .next (regCmd a 0x41044 (w32 (3 * 2 ^ 28 + entry.val)) s)

/-- ENROL_ERASE. SES_ENROL_CMD, ERASE (R480). -/
def execEnrolErase (a : Acc) (entry : Fin 1024) (s : State) : Host.Outcome State Fault Refusal :=
  .next (regCmd a 0x41044 (w32 (4 * 2 ^ 28 + entry.val)) s)

/-- ENROL_READ. SES_ENROL_CMD, READ (R479). -/
def execEnrolRead (a : Acc) (entry : Fin 1024) (s : State) : Host.Outcome State Fault Refusal :=
  .next (regCmd a 0x41044 (w32 (5 * 2 ^ 28 + entry.val)) s)

/-- HELLO. The session engine takes a HELLO frame from a port (R484): 0 to 3 PCIe, 4 and 5 quad-SPI, 8 to 23 partner. -/
def execHello (port : Fin 24) (contested : Bool) (s : State) : Host.Outcome State Fault Refusal :=
  .next (hello port.val contested s)

/-- FINISH. The session engine takes a FINISH frame (R484). -/
def execFinish (port : Fin 24) (contested : Bool) (s : State) : Host.Outcome State Fault Refusal :=
  .next (finish port.val contested s)

/-- ALERT. The session engine takes an ALERT frame (R490). -/
def execAlert (port : Fin 24) (s : State) : Host.Outcome State Fault Refusal :=
  .next (alertFrame port.val s)

/-- DATA_FRAME. The session engine takes a DATA frame and executes its request (R487, R489). -/
def execDataFrame (port : Fin 24) (env : HostEnv) (storeBad : Bool) (s : State) : Host.Outcome State Fault Refusal :=
  .next (settled (dataFrame port.val env storeBad s))

/-- HANDSHAKE_TIMEOUT. FINISH has not arrived within HS_TMO (R484). -/
def execHandshakeTimeout (slot : Fin 1024) (s : State) : Host.Outcome State Fault Refusal :=
  .next (hsTimeout slot.val s)

/-- SESSION_IDLE. No frame accepted for IDLE_S seconds (R490). -/
def execSessionIdle (slot : Fin 1024) (s : State) : Host.Outcome State Fault Refusal :=
  .next (sesIdle slot.val s)

/-- SES_TX_CMD. A write of SES_TX_CMD (R488). -/
def execSesTxCmd (a : Acc) (slot : Fin 1024) (len : BitVec 12) (s : State) : Host.Outcome State Fault Refusal :=
  .next (regCmd a 0x41070 (w32 (len.toNat * 2 ^ 16 + slot.val)) s)

/-- SES_RX_FREE. A write of SES_RX_FREE (R487). -/
def execSesRxFree (a : Acc) (slot : Fin 1024) (cell : Bool) (s : State) : Host.Outcome State Fault Refusal :=
  .next (regCmd a 0x41060 (w32 (b2n cell * 2 ^ 16 + slot.val)) s)

/-- SES_CLOSE. A write of SES_CLOSE (R490). -/
def execSesClose (a : Acc) (slot : Fin 1024) (s : State) : Host.Outcome State Fault Refusal :=
  .next (regCmd a 0x41078 (w32 slot.val) s)

end Sys2Proof.Machine
end

