-- ==== Sys2Proof/Machine/CmdTime.lean ====
section
/-!
DEFINITION. Time base and watchdogs: the meaning of each command (R408 to R427).
-/

namespace Sys2Proof.Machine

/-- TIM_NOW_READ. A read of the low or the high word of TIM_NOW (R410). -/
def execTimNowRead (init : Initiator) (high : Bool) (s : State) : Host.Outcome State Fault Refusal :=
  .next (regFetch init (0x5040 + 4 * b2n high) s)

/-- STEER_END. The steering difference reaches 0 (R412). -/
def execSteerEnd (s : State) : Host.Outcome State Fault Refusal :=
  .next (steerEnd s)

/-- COMPARE_WRITE. A write of the high word of TIM_CMPk (R417). -/
def execCompareWrite (a : Acc) (channel : Fin 64) (value : Word) (s : State) : Host.Outcome State Fault Refusal :=
  .next (regCmd a (0x5104 + channel.val * 0x10) value s)

/-- COMPARE_MATCH. A compare channel matches (R416). -/
def execCompareMatch (channel : Fin 64) (s : State) : Host.Outcome State Fault Refusal :=
  .next (cmpMatch channel.val s)

/-- WDG_CORE_KICK. A store of a core to WDG_CORE_KICK (R419). -/
def execWdgCoreKick (core : Fin 16) (value : Word) (others : List BusWrite) (env : RegEnv) (s : State) : Host.Outcome State Fault Refusal :=
  .next (regCmd ⟨.core core, others, env⟩ 0x6040 value s)

/-- WDG_PANEL_KICK. A write of WDG_PANEL_KICK (R419). -/
def execWdgPanelKick (a : Acc) (value : Word) (s : State) : Host.Outcome State Fault Refusal :=
  .next (regCmd a 0x6064 value s)

/-- WDG_SYS_KICK. A write of WDG_SYS_KICK (R420). -/
def execWdgSysKick (a : Acc) (value : Word) (s : State) : Host.Outcome State Fault Refusal :=
  .next (regCmd a 0x6048 value s)

/-- WDG_SYS_ENABLE. WDG_SYS_CFG with EN (R420). -/
def execWdgSysEnable (a : Acc) (window : BitVec 3) (timeout : BitVec 9) (s : State) : Host.Outcome State Fault Refusal :=
  .next (regCmd a 0x6044 (w32 (2 ^ 31 + window.toNat * 2 ^ 28 + timeout.toNat)) s)

/-- WDG_WARN. A watchdog has 1/8 of its timeout left (R419): 0 to 15 the cores', 16 to 23 the panels', 24 the system's. -/
def execWdgWarn (watchdog : Fin 25) (s : State) : Host.Outcome State Fault Refusal :=
  .next (wdgWarn watchdog.val s)

/-- CORE_WDG_EXPIRY. A core watchdog expires (R419), with the watchdogs that expire in the same cycle (R422). -/
def execCoreWdgExpiry (core : Fin 16) (others : List (Fin 25)) (s : State) : Host.Outcome State Fault Refusal :=
  .next (settled (wdgExpire (core.val :: others.map (·.val)) s))

/-- PANEL_WDG_EXPIRY. A panel watchdog expires (R419). -/
def execPanelWdgExpiry (panel : Fin 8) (others : List (Fin 25)) (s : State) : Host.Outcome State Fault Refusal :=
  .next (settled (wdgExpire ((16 + panel.val) :: others.map (·.val)) s))

/-- SYS_WDG_EXPIRY. The system watchdog expires (R419). -/
def execSysWdgExpiry (others : List (Fin 25)) (s : State) : Host.Outcome State Fault Refusal :=
  .next (settled (wdgExpire (24 :: others.map (·.val)) s))

/-- MODULE_RESET. A watchdog's module reset passes through HOLD (R421). -/
def execModuleReset (s : State) : Host.Outcome State Fault Refusal :=
  .next (settled (moduleReset s))

/-- TICK. An edge of the time-base clock (R409), and one of the pad clock (R332); the loaded design's logic runs on within it. -/
def execTick (s : State) : Host.Outcome State Fault Refusal :=
  .next (settled (padClockEdge s.now (replayAbandoned (hstScan (fabricRun (tick s))))))

/-- ALWAYS_ON_TICK. An edge of XO32 or RC32 (R414). -/
def execAlwaysOnTick (s : State) : Host.Outcome State Fault Refusal :=
  .next (aonTick s)

end Sys2Proof.Machine
end

