-- ==== Sys2Proof/Machine/Dispatch.lean ====
section
/-!
DEFINITION. The dispatch: one arm for each command, which calls its meaning.
-/

namespace Sys2Proof.Machine

/-- The effect of a command on everything but the queue of waiting commands. -/
def exec (i : Instr) (s : State) : Host.Outcome State Fault Refusal :=
  match i with
  | .registerWrite a addr bytes value => Sys2Proof.Machine.execRegisterWrite a addr bytes value s
  | .stagingWrite a off value => Sys2Proof.Machine.execStagingWrite a off value s
  | .commitNow a => Sys2Proof.Machine.execCommitNow a s
  | .commitAt a => Sys2Proof.Machine.execCommitAt a s
  | .discard a => Sys2Proof.Machine.execDiscard a s
  | .sealPoint panel => Sys2Proof.Machine.execSealPoint panel s
  | .applyTick => Sys2Proof.Machine.execApplyTick s
  | .takeNow a => Sys2Proof.Machine.execTakeNow a s
  | .takeAt a => Sys2Proof.Machine.execTakeAt a s
  | .release a => Sys2Proof.Machine.execRelease a s
  | .snapshotCapture => Sys2Proof.Machine.execSnapshotCapture s
  | .softReset a page enable => Sys2Proof.Machine.execSoftReset a page enable s
  | .ctrlEnableWrite a page enable => Sys2Proof.Machine.execCtrlEnableWrite a page enable s
  | .irqSet a page value => Sys2Proof.Machine.execIrqSet a page value s
  | .pageLock a page => Sys2Proof.Machine.execPageLock a page s
  | .bramGuardedRead block word dataFlips checkFlips => Sys2Proof.Machine.execBramGuardedRead block word dataFlips checkFlips s
  | .bramRepair block word => Sys2Proof.Machine.execBramRepair block word s
  | .dllStep dll later => Sys2Proof.Machine.execDllStep dll later s
  | .dllStepDone dll => Sys2Proof.Machine.execDllStepDone dll s
  | .dllAligned dll => Sys2Proof.Machine.execDllAligned dll s
  | .dllUnlock dll => Sys2Proof.Machine.execDllUnlock dll s
  | .globalBufferEnable buffer on => Sys2Proof.Machine.execGlobalBufferEnable buffer on s
  | .globalBufferSelect buffer sel => Sys2Proof.Machine.execGlobalBufferSelect buffer sel s
  | .needleEdge line => Sys2Proof.Machine.execNeedleEdge line s
  | .paramCapture region => Sys2Proof.Machine.execParamCapture region s
  | .rd q => Sys2Proof.Machine.execRd q s
  | .wrP q => Sys2Proof.Machine.execWrP q s
  | .wrNp q => Sys2Proof.Machine.execWrNp q s
  | .amoSwap q wide => Sys2Proof.Machine.execAmoSwap q wide s
  | .amoAdd q wide => Sys2Proof.Machine.execAmoAdd q wide s
  | .amoCas q wide => Sys2Proof.Machine.execAmoCas q wide s
  | .targetPortAccess x => Sys2Proof.Machine.execTargetPortAccess x s
  | .targetPortResponse port core code value => Sys2Proof.Machine.execTargetPortResponse port core code value s
  | .targetPortTimeout port => Sys2Proof.Machine.execTargetPortTimeout port s
  | .partnerFrameRx port bytes cut => Sys2Proof.Machine.execPartnerFrameRx port bytes cut s
  | .partnerFrameTx port => Sys2Proof.Machine.execPartnerFrameTx port s
  | .linkUpChange port up => Sys2Proof.Machine.execLinkUpChange port up s
  | .boltOff a bolts => Sys2Proof.Machine.execBoltOff a bolts s
  | .planeWrite a target => Sys2Proof.Machine.execPlaneWrite a target s
  | .planeWriteDone cellFails => Sys2Proof.Machine.execPlaneWriteDone cellFails s
  | .patAbort a => Sys2Proof.Machine.execPatAbort a s
  | .planeErase a target => Sys2Proof.Machine.execPlaneErase a target s
  | .swap a target trial => Sys2Proof.Machine.execSwap a target trial s
  | .swapAt a target trial => Sys2Proof.Machine.execSwapAt a target trial s
  | .swapAtStart => Sys2Proof.Machine.execSwapAtStart s
  | .confirm a => Sys2Proof.Machine.execConfirm a s
  | .baste a => Sys2Proof.Machine.execBaste a s
  | .basAbort a => Sys2Proof.Machine.execBasAbort a s
  | .restore a => Sys2Proof.Machine.execRestore a s
  | .sweepStart bolt => Sys2Proof.Machine.execSweepStart bolt s
  | .sweepFrameCheck bolt upsets meets also => Sys2Proof.Machine.execSweepFrameCheck bolt upsets meets also s
  | .regionResetRelease region => Sys2Proof.Machine.execRegionResetRelease region s
  | .sweepOverrun bolt => Sys2Proof.Machine.execSweepOverrun bolt s
  | .refreshPassStart hot => Sys2Proof.Machine.execRefreshPassStart hot s
  | .refreshFrameCheck differs errors slots => Sys2Proof.Machine.execRefreshFrameCheck differs errors slots s
  | .overlockVoteError majority => Sys2Proof.Machine.execOverlockVoteError majority s
  | .ovlInject a far word cell => Sys2Proof.Machine.execOvlInject a far word cell s
  | .instructionExecute core env => Sys2Proof.Machine.execInstructionExecute core env s
  | .instructionFetch core env => Sys2Proof.Machine.execInstructionFetch core env s
  | .loadStore x => Sys2Proof.Machine.execLoadStore x s
  | .atomicAccess core kind double rd rs1 rs2 env => Sys2Proof.Machine.execAtomicAccess core kind double rd rs1 rs2 env s
  | .writeBufferDrain core => Sys2Proof.Machine.execWriteBufferDrain core s
  | .fence core pred succ env => Sys2Proof.Machine.execFence core pred succ env s
  | .fenceI core env => Sys2Proof.Machine.execFenceI core env s
  | .wfi core env => Sys2Proof.Machine.execWfi core env s
  | .csrAccess core kind imm rd src num env => Sys2Proof.Machine.execCsrAccess core kind imm rd src num env s
  | .interruptTaken core => Sys2Proof.Machine.execInterruptTaken core s
  | .mtimecmpMatch core => Sys2Proof.Machine.execMtimecmpMatch core s
  | .coreStart a core => Sys2Proof.Machine.execCoreStart a core s
  | .icacheInvalidate a core => Sys2Proof.Machine.execIcacheInvalidate a core s
  | .clusterOff a cluster => Sys2Proof.Machine.execClusterOff a cluster s
  | .dbReady core arg short env => Sys2Proof.Machine.execDbReady core arg short env s
  | .dbYield core arg short env => Sys2Proof.Machine.execDbYield core arg short env s
  | .waitEventReady core arg short env => Sys2Proof.Machine.execWaitEventReady core arg short env s
  | .waitEventFlagsAny core arg short env => Sys2Proof.Machine.execWaitEventFlagsAny core arg short env s
  | .waitEventFlagsAll core arg short env => Sys2Proof.Machine.execWaitEventFlagsAll core arg short env s
  | .waitEventSem core arg short env => Sys2Proof.Machine.execWaitEventSem core arg short env s
  | .waitTimeout core arg short env => Sys2Proof.Machine.execWaitTimeout core arg short env s
  | .semPost core arg short env => Sys2Proof.Machine.execSemPost core arg short env s
  | .flagsSet core arg short env => Sys2Proof.Machine.execFlagsSet core arg short env s
  | .flagsClear core arg short env => Sys2Proof.Machine.execFlagsClear core arg short env s
  | .dbSuspend core arg short env => Sys2Proof.Machine.execDbSuspend core arg short env s
  | .dbCancel core arg short env => Sys2Proof.Machine.execDbCancel core arg short env s
  | .dispatch core ecc => Sys2Proof.Machine.execDispatch core ecc s
  | .dispatchPointSwitch core ecc => Sys2Proof.Machine.execDispatchPointSwitch core ecc s
  | .quantumExpiry core => Sys2Proof.Machine.execQuantumExpiry core s
  | .timeoutExpiry thread others => Sys2Proof.Machine.execTimeoutExpiry thread others s
  | .init a thread => Sys2Proof.Machine.execInit a thread s
  | .free a thread => Sys2Proof.Machine.execFree a thread s
  | .read a thread => Sys2Proof.Machine.execRead a thread s
  | .setPrio a thread => Sys2Proof.Machine.execSetPrio a thread s
  | .setAffinity a thread => Sys2Proof.Machine.execSetAffinity a thread s
  | .setPin a thread => Sys2Proof.Machine.execSetPin a thread s
  | .threadCmdDone => Sys2Proof.Machine.execThreadCmdDone s
  | .bobMakeReady a thread resume => Sys2Proof.Machine.execBobMakeReady a thread resume s
  | .bobCancel a thread => Sys2Proof.Machine.execBobCancel a thread s
  | .objRead a group id => Sys2Proof.Machine.execObjRead a group id s
  | .objWrite a group id => Sys2Proof.Machine.execObjWrite a group id s
  | .eventIntake others => Sys2Proof.Machine.execEventIntake others s
  | .bobBind a high => Sys2Proof.Machine.execBobBind a high s
  | .spill => Sys2Proof.Machine.execSpill s
  | .refill => Sys2Proof.Machine.execRefill s
  | .spoolSearch core => Sys2Proof.Machine.execSpoolSearch core s
  | .overflowRecovery others => Sys2Proof.Machine.execOverflowRecovery others s
  | .spoolEccRebuild block => Sys2Proof.Machine.execSpoolEccRebuild block s
  | .sramAccess init rw addr bytes value also ecc => Sys2Proof.Machine.execSramAccess init rw addr bytes value also ecc s
  | .dramAccess init rw addr bytes value also ecc => Sys2Proof.Machine.execDramAccess init rw addr bytes value also ecc s
  | .zeroFillSegment => Sys2Proof.Machine.execZeroFillSegment s
  | .dramRefresh => Sys2Proof.Machine.execDramRefresh s
  | .dramPowerDown => Sys2Proof.Machine.execDramPowerDown s
  | .patrolScrub ecc => Sys2Proof.Machine.execPatrolScrub ecc s
  | .errorHourRollover => Sys2Proof.Machine.execErrorHourRollover s
  | .dqHeadWrite a value => Sys2Proof.Machine.execDqHeadWrite a value s
  | .dqFetch ecc => Sys2Proof.Machine.execDqFetch ecc s
  | .dqRun a => Sys2Proof.Machine.execDqRun a s
  | .dqStop a => Sys2Proof.Machine.execDqStop a s
  | .program bank env => Sys2Proof.Machine.execProgram bank env s
  | .erase bank env => Sys2Proof.Machine.execErase bank env s
  | .blankCheck bank env => Sys2Proof.Machine.execBlankCheck bank env s
  | .verify bank env => Sys2Proof.Machine.execVerify bank env s
  | .markBad bank env => Sys2Proof.Machine.execMarkBad bank env s
  | .optErase env => Sys2Proof.Machine.execOptErase env s
  | .optProgram env => Sys2Proof.Machine.execOptProgram env s
  | .slotBegin env => Sys2Proof.Machine.execSlotBegin env s
  | .slotCommit env => Sys2Proof.Machine.execSlotCommit env s
  | .flashFenceDesc env => Sys2Proof.Machine.execFlashFenceDesc env s
  | .flashOpComplete bank good statusOk => Sys2Proof.Machine.execFlashOpComplete bank good statusOk s
  | .flashSuspend a banks => Sys2Proof.Machine.execFlashSuspend a banks s
  | .flashResume a banks => Sys2Proof.Machine.execFlashResume a banks s
  | .flashRead init addr bytes ecc => Sys2Proof.Machine.execFlashRead init addr bytes ecc s
  | .flashRefreshPass hot => Sys2Proof.Machine.execFlashRefreshPass hot s
  | .refreshHoldExpiry => Sys2Proof.Machine.execRefreshHoldExpiry s
  | .quePush init queue value meets => Sys2Proof.Machine.execQuePush init queue value meets s
  | .quePop init queue meets => Sys2Proof.Machine.execQuePop init queue meets s
  | .quePeek init queue meets => Sys2Proof.Machine.execQuePeek init queue meets s
  | .mark init queue meets => Sys2Proof.Machine.execMark init queue meets s
  | .rewind init queue meets => Sys2Proof.Machine.execRewind init queue meets s
  | .clearMark init queue meets => Sys2Proof.Machine.execClearMark init queue meets s
  | .flush init queue meets => Sys2Proof.Machine.execFlush init queue meets s
  | .flushForce init queue meets => Sys2Proof.Machine.execFlushForce init queue meets s
  | .flushPoint queue => Sys2Proof.Machine.execFlushPoint queue s
  | .queueHandshakeDone queue => Sys2Proof.Machine.execQueueHandshakeDone queue s
  | .queueReset a queue => Sys2Proof.Machine.execQueueReset a queue s
  | .queCfgWrite a queue value => Sys2Proof.Machine.execQueCfgWrite a queue value s
  | .queueThreshold queue lag => Sys2Proof.Machine.execQueueThreshold queue lag s
  | .forcedReset queue isRead => Sys2Proof.Machine.execForcedReset queue isRead s
  | .pinMuxWrite a pin value => Sys2Proof.Machine.execPinMuxWrite a pin value s
  | .pinOutSet a bank high mask => Sys2Proof.Machine.execPinOutSet a bank high mask s
  | .pinOutClr a bank high mask => Sys2Proof.Machine.execPinOutClr a bank high mask s
  | .pinInputChange pin board edges => Sys2Proof.Machine.execPinInputChange pin board edges s
  | .pinMismatch pin x y z => Sys2Proof.Machine.execPinMismatch pin x y z s
  | .bankRailFault bank => Sys2Proof.Machine.execBankRailFault bank s
  | .railRetry a bank => Sys2Proof.Machine.execRailRetry a bank s
  | .start a group => Sys2Proof.Machine.execStart a group s
  | .startAt a group => Sys2Proof.Machine.execStartAt a group s
  | .stop a group => Sys2Proof.Machine.execStop a group s
  | .halt a group => Sys2Proof.Machine.execHalt a group s
  | .pleatStartTime group => Sys2Proof.Machine.execPleatStartTime group s
  | .pleatSlotBoundary group => Sys2Proof.Machine.execPleatSlotBoundary group s
  | .pleatSample group => Sys2Proof.Machine.execPleatSample group s
  | .pleatFrameEnd group => Sys2Proof.Machine.execPleatFrameEnd group s
  | .pltTteArm a mask => Sys2Proof.Machine.execPltTteArm a mask s
  | .pltTteCancel a mask => Sys2Proof.Machine.execPltTteCancel a mask s
  | .tteFire channel => Sys2Proof.Machine.execTteFire channel s
  | .pnlReset a panels => Sys2Proof.Machine.execPnlReset a panels s
  | .pnlHold a => Sys2Proof.Machine.execPnlHold a s
  | .bar0Access q => Sys2Proof.Machine.execBar0Access q s
  | .bar4Access q => Sys2Proof.Machine.execBar4Access q s
  | .pcieConfigAccess fn dw rw value => Sys2Proof.Machine.execPcieConfigAccess fn dw rw value s
  | .mbxInLen fn bytes len => Sys2Proof.Machine.execMbxInLen fn bytes len s
  | .mbxOutDone fn value => Sys2Proof.Machine.execMbxOutDone fn value s
  | .flr fn => Sys2Proof.Machine.execFlr fn s
  | .perst hot low => Sys2Proof.Machine.execPerst hot low s
  | .linkDown => Sys2Proof.Machine.execLinkDown s
  | .linkUp speed width => Sys2Proof.Machine.execLinkUp speed width s
  | .qspiRdReg q => Sys2Proof.Machine.execQspiRdReg q s
  | .qspiWrReg q => Sys2Proof.Machine.execQspiWrReg q s
  | .qPush q => Sys2Proof.Machine.execQPush q s
  | .qPop q => Sys2Proof.Machine.execQPop q s
  | .qCmd q => Sys2Proof.Machine.execQCmd q s
  | .sSend q => Sys2Proof.Machine.execSSend q s
  | .sRecv q => Sys2Proof.Machine.execSRecv q s
  | .portStatus q => Sys2Proof.Machine.execPortStatus q s
  | .wrMem q => Sys2Proof.Machine.execWrMem q s
  | .rdMem q => Sys2Proof.Machine.execRdMem q s
  | .qspiAbort port => Sys2Proof.Machine.execQspiAbort port s
  | .relock a pll => Sys2Proof.Machine.execRelock a pll s
  | .hop a pll entry => Sys2Proof.Machine.execHop a pll entry s
  | .store a pll entry => Sys2Proof.Machine.execStore a pll entry s
  | .clear a pll entry => Sys2Proof.Machine.execClear a pll entry s
  | .clkUpdate a plls => Sys2Proof.Machine.execClkUpdate a plls s
  | .updateDone pll => Sys2Proof.Machine.execUpdateDone pll s
  | .pllLock pll => Sys2Proof.Machine.execPllLock pll s
  | .lockLost pll badLand => Sys2Proof.Machine.execLockLost pll badLand s
  | .refLost ref slips => Sys2Proof.Machine.execRefLost ref slips s
  | .refRestored ref badLands => Sys2Proof.Machine.execRefRestored ref badLands s
  | .lockTimeout pll => Sys2Proof.Machine.execLockTimeout pll s
  | .xoReady badLands => Sys2Proof.Machine.execXoReady badLands s
  | .rcFallback badLands => Sys2Proof.Machine.execRcFallback badLands s
  | .xo32Fail => Sys2Proof.Machine.execXo32Fail s
  | .timNowRead init high => Sys2Proof.Machine.execTimNowRead init high s
  | .steerEnd => Sys2Proof.Machine.execSteerEnd s
  | .compareWrite a channel value => Sys2Proof.Machine.execCompareWrite a channel value s
  | .compareMatch channel => Sys2Proof.Machine.execCompareMatch channel s
  | .wdgCoreKick core value others env => Sys2Proof.Machine.execWdgCoreKick core value others env s
  | .wdgPanelKick a value => Sys2Proof.Machine.execWdgPanelKick a value s
  | .wdgSysKick a value => Sys2Proof.Machine.execWdgSysKick a value s
  | .wdgSysEnable a window timeout => Sys2Proof.Machine.execWdgSysEnable a window timeout s
  | .wdgWarn watchdog => Sys2Proof.Machine.execWdgWarn watchdog s
  | .coreWdgExpiry core others => Sys2Proof.Machine.execCoreWdgExpiry core others s
  | .panelWdgExpiry panel others => Sys2Proof.Machine.execPanelWdgExpiry panel others s
  | .sysWdgExpiry others => Sys2Proof.Machine.execSysWdgExpiry others s
  | .moduleReset => Sys2Proof.Machine.execModuleReset s
  | .powerOnStart e => Sys2Proof.Machine.execPowerOnStart e s
  | .railStartFail rail => Sys2Proof.Machine.execRailStartFail rail s
  | .resetN low => Sys2Proof.Machine.execResetN low s
  | .brownOut => Sys2Proof.Machine.execBrownOut s
  | .hibernateBrownOut => Sys2Proof.Machine.execHibernateBrownOut s
  | .overvolt => Sys2Proof.Machine.execOvervolt s
  | .ilimit => Sys2Proof.Machine.execIlimit s
  | .railOutOfWindow rail => Sys2Proof.Machine.execRailOutOfWindow rail s
  | .vholdOk ok => Sys2Proof.Machine.execVholdOk ok s
  | .vholdAbsent late => Sys2Proof.Machine.execVholdAbsent late s
  | .phaseAdd current => Sys2Proof.Machine.execPhaseAdd current s
  | .phaseShed current => Sys2Proof.Machine.execPhaseShed current s
  | .powerMonitorSample vin vhold iin core limiting => Sys2Proof.Machine.execPowerMonitorSample vin vhold iin core limiting s
  | .overBudget => Sys2Proof.Machine.execOverBudget s
  | .aonBrownOut => Sys2Proof.Machine.execAonBrownOut s
  | .modeReqDoze a => Sys2Proof.Machine.execModeReqDoze a s
  | .modeReqNap a => Sys2Proof.Machine.execModeReqNap a s
  | .modeReqHibernate a => Sys2Proof.Machine.execModeReqHibernate a s
  | .modeReqSafe a => Sys2Proof.Machine.execModeReqSafe a s
  | .modeReqRun a => Sys2Proof.Machine.execModeReqRun a s
  | .dozeEntry => Sys2Proof.Machine.execDozeEntry s
  | .dozeWake => Sys2Proof.Machine.execDozeWake s
  | .napEntry => Sys2Proof.Machine.execNapEntry s
  | .napWake => Sys2Proof.Machine.execNapWake s
  | .hibernateEntry => Sys2Proof.Machine.execHibernateEntry s
  | .hibernateWake e => Sys2Proof.Machine.execHibernateWake e s
  | .hibernateWakeRetry rail => Sys2Proof.Machine.execHibernateWakeRetry rail s
  | .wakeEvent code idx => Sys2Proof.Machine.execWakeEvent code idx s
  | .timedWake => Sys2Proof.Machine.execTimedWake s
  | .wakeAtReached => Sys2Proof.Machine.execWakeAtReached s
  | .progSign a slot => Sys2Proof.Machine.execProgSign a slot s
  | .revokeSign a slot => Sys2Proof.Machine.execRevokeSign a slot s
  | .progDkey a slot => Sys2Proof.Machine.execProgDkey a slot s
  | .revokeDkey a slot => Sys2Proof.Machine.execRevokeDkey a slot s
  | .attest a => Sys2Proof.Machine.execAttest a s
  | .enrolWrite a entry => Sys2Proof.Machine.execEnrolWrite a entry s
  | .enrolEnable a entry => Sys2Proof.Machine.execEnrolEnable a entry s
  | .enrolDisable a entry => Sys2Proof.Machine.execEnrolDisable a entry s
  | .enrolErase a entry => Sys2Proof.Machine.execEnrolErase a entry s
  | .enrolRead a entry => Sys2Proof.Machine.execEnrolRead a entry s
  | .hello port contested => Sys2Proof.Machine.execHello port contested s
  | .finish port contested => Sys2Proof.Machine.execFinish port contested s
  | .alert port => Sys2Proof.Machine.execAlert port s
  | .dataFrame port env storeBad => Sys2Proof.Machine.execDataFrame port env storeBad s
  | .handshakeTimeout slot => Sys2Proof.Machine.execHandshakeTimeout slot s
  | .sessionIdle slot => Sys2Proof.Machine.execSessionIdle slot s
  | .sesTxCmd a slot len => Sys2Proof.Machine.execSesTxCmd a slot len s
  | .sesRxFree a slot cell => Sys2Proof.Machine.execSesRxFree a slot cell s
  | .sesClose a slot => Sys2Proof.Machine.execSesClose a slot s
  | .transition a target => Sys2Proof.Machine.execTransition a target s
  | .progToken a token => Sys2Proof.Machine.execProgToken a token s
  | .serviceOpen a => Sys2Proof.Machine.execServiceOpen a s
  | .serviceEnd a => Sys2Proof.Machine.execServiceEnd a s
  | .idcode => Sys2Proof.Machine.execIdcode s
  | .samplePreload bits => Sys2Proof.Machine.execSamplePreload bits s
  | .extest bits => Sys2Proof.Machine.execExtest bits s
  | .clamp => Sys2Proof.Machine.execClamp s
  | .highz => Sys2Proof.Machine.execHighz s
  | .lcStatus => Sys2Proof.Machine.execLcStatus s
  | .lcTransition target token env => Sys2Proof.Machine.execLcTransition target token env s
  | .lcChallenge panel scope minutes keyId meets => Sys2Proof.Machine.execLcChallenge panel scope minutes keyId meets s
  | .lcResponse body storeBad meets => Sys2Proof.Machine.execLcResponse body storeBad meets s
  | .dtmcs => Sys2Proof.Machine.execDtmcs s
  | .dmi op addr value env => Sys2Proof.Machine.execDmi op addr value env s
  | .bypass => Sys2Proof.Machine.execBypass s
  | .trstN => Sys2Proof.Machine.execTrstN s
  | .challengeExpiry => Sys2Proof.Machine.execChallengeExpiry s
  | .grantExpiry => Sys2Proof.Machine.execGrantExpiry s
  | .sliceStart => Sys2Proof.Machine.execSliceStart s
  | .sliceDone cls unit cycles signature differs ue => Sys2Proof.Machine.execSliceDone cls unit cycles signature differs ue s
  | .roundStart => Sys2Proof.Machine.execRoundStart s
  | .windowOpen => Sys2Proof.Machine.execWindowOpen s
  | .windowClose => Sys2Proof.Machine.execWindowClose s
  | .runOne a cls unit slice => Sys2Proof.Machine.execRunOne a cls unit slice s
  | .runUnit a cls unit => Sys2Proof.Machine.execRunUnit a cls unit s
  | .abortAll a => Sys2Proof.Machine.execAbortAll a s
  | .tempSample readings vdd => Sys2Proof.Machine.execTempSample readings vdd s
  | .localSupplyFault domain mv => Sys2Proof.Machine.execLocalSupplyFault domain mv s
  | .faultLog => Sys2Proof.Machine.execFaultLog s
  | .fltAck a => Sys2Proof.Machine.execFltAck a s
  | .tick => Sys2Proof.Machine.execTick s
  | .alwaysOnTick => Sys2Proof.Machine.execAlwaysOnTick s
  | .selvagePowerLoss => Sys2Proof.Machine.execSelvagePowerLoss s
  | .msixTableWrite fn dw value => Sys2Proof.Machine.execMsixTableWrite fn dw value s
  | .flashRefreshSector differs ecc => Sys2Proof.Machine.execFlashRefreshSector differs ecc s
  | .aerError fn uncorrectable cause => Sys2Proof.Machine.execAerError fn uncorrectable cause s

end Sys2Proof.Machine
end

