-- ==== Sys2Proof/Safety.lean ====
section
/-!
DEFINITION. The terms the statements use: the canonical form of memory, a register write that stands alone in its cycle and that
nothing bars, and what such a write leaves when it is done; the commands that store no byte of memory.
-/

namespace Sys2Proof.Machine

/-- Memory is in its canonical form: addresses strictly rising, no listed byte equal to what an unlisted address reads as. -/
def State.memOk (s : State) : Bool := Memory.wf s.mem

/-- LOCK freezes the register at distance `off` from 0x6000_0000 (R24). -/
def lockBars (s : State) (off : Nat) : Bool :=
  isLocked s (off / 0x1000) && (match pageOf (off / 0x1000) with | some k => freezes k (off % 0x1000) | none => true)

/-- An initiator whose access of `n` bytes at an address goes on at once: a core has nothing posted that a write of it would have to wait for
(R173), and PMP lets it through (R169). -/
def wayFree (i : Initiator) (kind a n : Nat) (s : State) : Bool :=
  !pmpBars s i kind a n && (match i with | .core c => (coreOf s c.val).wbuf.isEmpty | _ => true)

/-- A register write that nothing bars: its initiator runs, is served (R379), goes on at once and reaches the register pages (R17), no other
initiator that runs writes in its cycle (R27), its panel owns the page or the register is its own (R26), and the page's LOCK does not freeze
it (R24). -/
def regFree (a : Acc) (off : Nat) (s : State) : Bool :=
  sends s a.init && !hostBarred s a.init && (busRivals a s).isEmpty && reachesPages a.init && ownerLets a.init off s && !lockBars s off
    && wayFree a.init 2 (0x60000000 + off) 4 s

/-- What a completed register write leaves, from the state `u` that the register's own behaviour left: the host's interrupt lines follow
(R369, R370), the command's immediate consequences settle, and the response is OKAY. -/
def regDone (u : State) : State := settled ((hstScan u).answer .okay)

/-- The panel a command acts for (R356). -/
abbrev accPanel (a : Acc) (s : State) : Nat := panelFor s a.init

/-- What an operation of Bobbin that is alone in its cycle leaves, from the state `u` that the operation left: chosen threads are settled
(R200), and Fitting's slices give way to what is ready (R524). -/
def bobDone (u : State) : State := fitReady (settle u)

/-- A doorbell store that nothing bars: the core runs, its store goes on at once, Bobbin is open (R245), and no other operation meets it in its
cycle (R228). -/
def doorFree (core : Fin 16) (off : Nat) (env : CoreEnv) (s : State) : Bool :=
  coreActive s core.val && wayFree (.core core) 2 (0x60100000 + core.val * 0x1000 + off) 8 s && !bobClosed s && env.reg.bob.isEmpty

/-- The core as the doorbell operation finds it: the store is counted as retired; a completing operation moves the pc past it. -/
def doorStart (core : Fin 16) (short : Bool) (s : State) : State :=
  let k := coreOf s core.val
  setCore core.val { k with ctx := { k.ctx with pc := k.ctx.pc + BitVec.ofNat 64 (instrLen short) - 4 }, minstret := k.minstret + 1 } s

/-- What a doorbell store leaves, from the state `u` that its operation left. -/
def doorDone (core : Fin 16) (u : State) : State := settled (stepDone core.val (bobDone u))

/-- The index of an initiator among the requesters of a queue (R297). -/
def queRequester (i : Initiator) : Nat := ((queClass i).map (·.2)).getD 0

/-- A PCIe function that is served: the link is up, the ports work, the function is not in D3hot, R363 does not turn it away. -/
def fnFree (f : Fin 4) (s : State) : Bool := s.hst.linkUp && hostsWork s && !inD3 s f.val && !hostBarred s (.pcie f)

/-- An initiator whose beats reach the queues: it runs, is served and is not turned away (R17, R363, R379). -/
def queReaches (i : Initiator) (s : State) : Bool := sends s i && !hostBarred s i && servedAt s i (.queue 0 0) true true

/-- A beat at a queue's port that nothing bars and no other meets: its initiator reaches the queues and its access (`kind` 1 a read, 2 a write, at
word `slot` of the port) goes on at once; its panel owns the queue's page and its class is one of the queue's sides (R298); the queue is its own
and enabled (R295, R298). -/
def beatFree (i : Initiator) (q kind slot : Nat) (b : BeatEnv) (s : State) : Bool :=
  queReaches i s && wayFree i kind (0x70000000 + 0x1000 * q + 8 * slot) 8 s && queLets s q (panelFor s i) i && queOn s q && b.rivals.isEmpty

/-- The side of a queue on which an initiator that it lets through acts: 0 the consumer's, 1 the producer's (R304). -/
def queSide (i : Initiator) (q : Nat) (s : State) : Nat := if isCons s q i then 0 else 1

/-- A stream's own port command before has ended (R311). -/
def queWaited (i : Initiator) (q : Nat) (s : State) : State :=
  match i with
  | .qspi _ => ownShake q (queSide i q s) (queRequester i) s
  | _ => s

/-- What a port command of a requester finds: Fitting has left the queue (R524), its own command before has ended, and its side sees the other's words
but the last. -/
def queSeen (i : Initiator) (q : Nat) (b : BeatEnv) (s : State) : State :=
  if queSide i q s = 0 then seeWrites q b.lag (queWaited i q (fitQueue q s)) else seeReads q b.lag (queWaited i q (fitQueue q s))

/-- A quad-SPI request that is executed (R374 to R376): the port takes requests, RCRC is right, and no kept response has its TAG and RCRC. -/
def qspiFresh (opc : Nat) (q : QspiReq) (s : State) : Bool :=
  qspiOn s q.port.val && q.unknown.isNone && q.crc == reqCrc opc q.tag.toNat q.body
    && !((portOf s q.port.val).kept.any fun k => k.tag == q.tag.toNat && k.crc == q.crc)

/-- The state in which a quad-SPI request is executed: its response is kept from the start of its execution (R376). -/
def qspiStart (q : QspiReq) (s : State) : State :=
  setPort q.port.val { portOf s q.port.val with kept := some ⟨q.tag.toNat, q.crc, 0, []⟩ } s

/-- What an executed quad-SPI request leaves, from the state `u` that it left: its response is kept and answered (R374, R376). -/
def qspiDone (q : QspiReq) (status : Nat) (body : List Byte) (u : State) : State :=
  respond q.tag.toNat status body (if (portOf u q.port.val).kept.isSome then
    setPort q.port.val { portOf u q.port.val with kept := some ⟨q.tag.toNat, q.crc, status, body⟩ } u
   else u)

/-- The commands that store no byte of memory in any state: they change registers, buffers and modes only. -/
def storesNothing : Instr → Bool
  | .sealPoint .. | .snapshotCapture .. | .bramGuardedRead .. | .bramRepair .. | .dllStep .. | .dllStepDone .. | .dllAligned ..
  | .dllUnlock .. | .globalBufferEnable .. | .globalBufferSelect .. | .needleEdge .. | .paramCapture .. | .targetPortResponse ..
  | .targetPortTimeout .. | .partnerFrameRx .. | .partnerFrameTx .. | .linkUpChange .. | .sweepStart .. | .sweepOverrun ..
  | .refreshPassStart .. | .interruptTaken .. | .mtimecmpMatch .. | .dispatch .. | .quantumExpiry .. | .threadCmdDone .. | .spill ..
  | .refill .. | .spoolSearch .. | .spoolEccRebuild .. | .zeroFillSegment .. | .dramRefresh .. | .dramPowerDown .. | .patrolScrub ..
  | .errorHourRollover .. | .flashRead .. | .flashRefreshPass .. | .refreshHoldExpiry .. | .flushPoint .. | .queueHandshakeDone ..
  | .queueThreshold .. | .forcedReset .. | .pinInputChange .. | .pinMismatch .. | .bankRailFault .. | .pleatStartTime ..
  | .pleatSlotBoundary .. | .pleatSample .. | .pleatFrameEnd .. | .tteFire .. | .perst .. | .linkDown .. | .linkUp .. | .qCmd ..
  | .sRecv .. | .portStatus .. | .qspiAbort .. | .updateDone .. | .lockLost .. | .refLost .. | .refRestored .. | .lockTimeout ..
  | .xoReady .. | .rcFallback .. | .xo32Fail .. | .timNowRead .. | .steerEnd .. | .compareMatch .. | .wdgWarn .. | .overvolt ..
  | .vholdOk .. | .vholdAbsent .. | .phaseAdd .. | .phaseShed .. | .powerMonitorSample .. | .overBudget .. | .wakeEvent ..
  | .wakeAtReached .. | .idcode .. | .samplePreload .. | .extest .. | .clamp .. | .highz .. | .lcStatus .. | .dtmcs ..
  | .bypass .. | .challengeExpiry .. | .sliceStart .. | .roundStart .. | .windowOpen .. | .windowClose .. | .alwaysOnTick ..
  | .flashRefreshSector .. | .aerError .. => true
  | .registerWrite .. | .stagingWrite .. | .commitNow .. | .commitAt .. | .discard .. | .applyTick .. | .takeNow .. | .takeAt ..
  | .release .. | .softReset .. | .ctrlEnableWrite .. | .irqSet .. | .pageLock .. | .rd .. | .wrP .. | .wrNp .. | .amoSwap ..
  | .amoAdd .. | .amoCas .. | .targetPortAccess .. | .boltOff .. | .planeWrite .. | .planeWriteDone .. | .patAbort .. | .planeErase ..
  | .swap .. | .swapAt .. | .swapAtStart .. | .confirm .. | .baste .. | .basAbort .. | .restore .. | .sweepFrameCheck ..
  | .regionResetRelease .. | .refreshFrameCheck .. | .overlockVoteError .. | .ovlInject .. | .instructionExecute ..
  | .instructionFetch .. | .loadStore .. | .atomicAccess .. | .writeBufferDrain .. | .fence .. | .fenceI .. | .wfi .. | .csrAccess ..
  | .coreStart .. | .icacheInvalidate .. | .clusterOff .. | .dbReady .. | .dbYield .. | .waitEventReady .. | .waitEventFlagsAny ..
  | .waitEventFlagsAll .. | .waitEventSem .. | .waitTimeout .. | .semPost .. | .flagsSet .. | .flagsClear .. | .dbSuspend ..
  | .dbCancel .. | .dispatchPointSwitch .. | .timeoutExpiry .. | .init .. | .free .. | .read .. | .setPrio .. | .setAffinity ..
  | .setPin .. | .bobMakeReady .. | .bobCancel .. | .objRead .. | .objWrite .. | .eventIntake .. | .bobBind .. | .overflowRecovery ..
  | .sramAccess .. | .dramAccess .. | .dqHeadWrite .. | .dqFetch .. | .dqRun .. | .dqStop .. | .program .. | .erase .. | .blankCheck ..
  | .verify .. | .markBad .. | .optErase .. | .optProgram .. | .slotBegin .. | .slotCommit .. | .flashFenceDesc .. | .flashOpComplete ..
  | .flashSuspend .. | .flashResume .. | .quePush .. | .quePop .. | .quePeek .. | .mark .. | .rewind .. | .clearMark .. | .flush ..
  | .flushForce .. | .queueReset .. | .queCfgWrite .. | .pinMuxWrite .. | .pinOutSet .. | .pinOutClr .. | .railRetry .. | .start ..
  | .startAt .. | .stop .. | .halt .. | .pltTteArm .. | .pltTteCancel .. | .pnlReset .. | .pnlHold .. | .bar0Access .. | .bar4Access ..
  | .pcieConfigAccess .. | .mbxInLen .. | .mbxOutDone .. | .flr .. | .qspiRdReg .. | .qspiWrReg .. | .qPush .. | .qPop .. | .sSend ..
  | .wrMem .. | .rdMem .. | .relock .. | .hop .. | .store .. | .clear .. | .clkUpdate .. | .pllLock .. | .compareWrite ..
  | .wdgCoreKick .. | .wdgPanelKick .. | .wdgSysKick .. | .wdgSysEnable .. | .coreWdgExpiry .. | .panelWdgExpiry .. | .sysWdgExpiry ..
  | .moduleReset .. | .powerOnStart .. | .railStartFail .. | .resetN .. | .brownOut .. | .hibernateBrownOut .. | .ilimit ..
  | .railOutOfWindow .. | .aonBrownOut .. | .modeReqDoze .. | .modeReqNap .. | .modeReqHibernate .. | .modeReqSafe .. | .modeReqRun ..
  | .dozeEntry .. | .dozeWake .. | .napEntry .. | .napWake .. | .hibernateEntry .. | .hibernateWake .. | .hibernateWakeRetry ..
  | .timedWake .. | .progSign .. | .revokeSign .. | .progDkey .. | .revokeDkey .. | .attest .. | .enrolWrite .. | .enrolEnable ..
  | .enrolDisable .. | .enrolErase .. | .enrolRead .. | .hello .. | .finish .. | .alert .. | .dataFrame .. | .handshakeTimeout .. | .sessionIdle ..
  | .sesTxCmd .. | .sesRxFree .. | .sesClose .. | .transition .. | .progToken .. | .serviceOpen .. | .serviceEnd .. | .lcTransition ..
  | .lcChallenge .. | .lcResponse .. | .dmi .. | .trstN .. | .grantExpiry .. | .sliceDone .. | .runOne .. | .runUnit .. | .abortAll ..
  | .tempSample .. | .localSupplyFault .. | .faultLog .. | .fltAck .. | .tick .. | .selvagePowerLoss .. | .msixTableWrite .. => false

end Sys2Proof.Machine
end

