-- ==== Sys2Proof/Certificates/Slice0/Obligations.lean ====
section
/-!
DEFINITION. The statements for the provers. A clause whose command writes a register reads: where nothing bars the write (`regFree`), the
command's next state is `regDone u`, u being the state with the register's own effect.
-/

open Sys2Proof Sys2Proof.Machine

/-- The block takes its commands first in, first out: a step is the meaning of the command at the front of the queue, on the state with the
rest of the queue; with no command waiting the module idles. (The idle step is the model's choice, log entry 1.) -/
def Obligations.StepRunsTheFrontCommand : Prop :=
  ∀ (s : State),
    (∀ c rest, s.pending = c :: rest → step s = exec c { s with pending := rest })
    ∧ (s.pending = [] → step s = .next s)

/-- R4, R22, R25, R28: what reset leaves: HOLD, no command waiting, nothing staged, no interrupt source latched or enabled, no page locked;
every page whose registers are staged belongs to panel 0, and the SEAM page to none. (HOLD as the first mode is log entry 18's reading.) -/
def Obligations.ResetState : Prop :=
  State.reset.mode = .hold ∧ State.reset.pending = [] ∧ State.reset.shadow = [] ∧ State.reset.lcs.grant = none
    ∧ (∀ (page : Fin 256) k, pageOf page.val = some k →
      State.reset.rg (irqRaw page.val) = 0 ∧ State.reset.rg (irqEn page.val) = 0 ∧ isLocked State.reset page.val = false
      ∧ ownerOf State.reset page.val = if k = .seam then none else some 0)

/-- The memory of the reset state is in its canonical form: it lists no byte. -/
def Obligations.ResetMemoryCanonical : Prop :=
  State.reset.memOk = true ∧ State.reset.mem = []

/-- Every step keeps memory in its one canonical form, in every state: addresses strictly rising, no listed byte equal to what an unlisted
address reads as. -/
def Obligations.StepKeepsMemoryCanonical : Prop :=
  ∀ (s t : State), s.memOk = true → step s = .next t → t.memOk = true

/-- The frame of memory: a command that stores nothing leaves every byte as it reads before, whatever its operands and whatever the state. -/
def Obligations.CommandsThatStoreNothing : Prop :=
  ∀ (c : Instr) (s t : State), storesNothing c = true → exec c s = .next t → ∀ a, readByte t a = readByte s a

/-- R23: on the pages that it names, CTRL reads 1 in ENABLE and 0 in SOFT_RESET, and a write of either has no effect. -/
def Obligations.FixedControlRegisters : Prop :=
  ∀ (page : Fin 256) (k : Page) (s : State), pageOf page.val = some k →
    k ∈ [Page.seam, .pnl, .aon, .pwr, .clk, .tim, .thm, .lcs, .flt] →
    (∀ (a : Acc) enable, regFree a (page.val * 0x1000 + 0xC) s = true →
      exec (.ctrlEnableWrite a page enable) s = .next (regDone s) ∧ exec (.softReset a page enable) s = .next (regDone s))
    ∧ (∀ i, heldWord s (panelFor s i) (page.val * 0x1000 + 0xC) = none → regRead i (page.val * 0x1000 + 0xC) s = (s, .okay, 1))

/-- R24: while LOCK.LOCKED is 1 a write to a frozen field answers ACCESS and changes nothing, IRQ_RAW and IRQ_EN take their writes, and
LOCKED is set by the initiators that may write the page, and by no other. -/
def Obligations.LockFreezesThePage : Prop :=
  ∀ (a : Acc) (page : Fin 256) (k : Page) (s : State) (free : Nat → Prop), pageOf page.val = some k → sends s a.init = true →
    hostBarred s a.init = false → busRivals a s = [] → reachesPages a.init = true →
    (∀ off, free off ↔ wayFree a.init 2 (0x60000000 + off) 4 s = true) →
    (∀ off value, off / 0x1000 = page.val → off % 4 = 0 → free off → isLocked s page.val = true → freezes k (off % 0x1000) = true →
      exec (.registerWrite a (0x60000000 + off) 4 value) s
        = .next (settled (writeSeen a.init (0x60000000 + off) (s.answer .access))))
    ∧ (∀ value, ownerLets a.init (page.val * 0x1000 + 0x10) s = true →
      (free (page.val * 0x1000 + 0x10) → exec (.registerWrite a (0x60000000 + (page.val * 0x1000 + 0x10)) 4 value) s
        = .next (regDone (s.wrg (keyFor (accPanel a s) (irqRaw page.val)) (s.rg (keyFor (accPanel a s) (irqRaw page.val)) &&& ~~~(w32 value.toNat)))))
      ∧ (free (page.val * 0x1000 + 0x14) → exec (.registerWrite a (0x60000000 + (page.val * 0x1000 + 0x14)) 4 value) s
        = .next (regDone (s.wrg (keyFor (accPanel a s) (irqEn page.val)) (w32 value.toNat)))))
    ∧ (free (page.val * 0x1000 + 0x24) →
      (ownerLets a.init (page.val * 0x1000 + 0x24) s = true →
        exec (.pageLock a page) s = .next (regDone (s.wb (page.val * 0x1000 + 0x24) 0 true)))
      ∧ (ownerLets a.init (page.val * 0x1000 + 0x24) s = false →
        exec (.pageLock a page) s
          = .next (settled (writeSeen a.init (0x60000000 + (page.val * 0x1000 + 0x24)) (s.answer .access)))))

/-- R26: any panel reads any assigned page; a write by a panel that does not own the page answers ACCESS and changes nothing; the owner of a
page and, of an unassigned page, any panel may write. (The registers that R384, R419 and R426 give every panel, and internal initiators,
are apart.) -/
def Obligations.OwnershipOfPages : Prop :=
  ∀ (off : Nat) (k : Page) (s : State), pageOf (off / 0x1000) = some k →
    (∀ i, (regRead i off s).2.1 = .okay)
    ∧ (∀ (a : Acc) value q, sends s a.init = true → hostBarred s a.init = false → busRivals a s = [] → reachesPages a.init = true →
      wayFree a.init 2 (0x60000000 + off) 4 s = true → off % 4 = 0 → ownerExempt a.init = false → selfRegister off = false → ownerOf s (off / 0x1000) = some q → q ≠ accPanel a s →
      exec (.registerWrite a (0x60000000 + off) 4 value) s
        = .next (settled (writeSeen a.init (0x60000000 + off) (s.answer .access))))
    ∧ (∀ (a : Acc), sends s a.init = true → hostBarred s a.init = false → busRivals a s = [] → reachesPages a.init = true →
      wayFree a.init 2 (0x60000000 + off) 4 s = true → a.init ≠ .debugUnit → isLocked s (off / 0x1000) = false →
      (ownerOf s (off / 0x1000) = none ∨ ownerOf s (off / 0x1000) = some (accPanel a s)) → regFree a off s = true)

/-- R33: a commit from a panel with nothing staged changes nothing but what it reports, and reports EMPTY. -/
def Obligations.EmptyCommit : Prop :=
  ∀ (a : Acc) (s : State), regFree a 0x40 s = true → stagedBy s (accPanel a s) = [] → (seamOf s (accPanel a s)).commit = none →
    exec (.commitNow a) s = .next (regDone (seamCode (accPanel a s) 3 s))
    ∧ exec (.commitAt a) s = .next (regDone (seamCode (accPanel a s) 3 s))

/-- R30, R34: at the apply tick a panel's staged parameter words and pleat tables all take their staged values, and COMMIT_GEN of each page
that changes takes the generation. -/
def Obligations.StagedValuesApplyTogether : Prop :=
  ∀ (s : State) (p gen : Nat), ((stagedBy s p).map (·.1)).Nodup → gen < 2 ^ 32 →
    ∀ off v, (off, v) ∈ stagedBy s p → ((0xB100 ≤ off ∧ off < 0xB200) ∨ (0x3C800 ≤ off ∧ off < 0x3D000)) → off % 4 = 0 →
      (applyPanel gen s p).rg off = v ∧ (applyPanel gen s p).rg (off / 0x1000 * 0x1000 + 0x20) = w32 gen

/-- R197: what a ready does to its thread, and its result: a dormant thread becomes READY, or RUNNING where a free core takes it (R200);
PEND at one that is ready or runs, the end of a wait for it, and nothing at one that is unused, suspended (without RESUME) or cancelled;
with the ready lists full the thread waits with reason OVERFLOW and the result is REFUSED_FULL. -/
def Obligations.ReadyActsOnItsThread : Prop :=
  ∀ (t origin : Nat) (resume : Bool) (s : State) x u code, x = threadOf s t → u = (deliver t resume origin s).1 →
    code = (deliver t resume origin s).2.1 →
    (x.st = .unused → code = 0x0C ∧ u.bob.threads = s.bob.threads)
    ∧ (x.st = .dormant → (code = 0 ∧ ((threadOf u t).st = .ready ∨ (threadOf u t).st = .running)) ∨ (code = 0x0F ∧ (threadOf u t).st = .waiting ∧ (threadOf u t).reason = 5))
    ∧ (x.st = .ready ∨ x.st = .running → code = 4 ∧ threadOf u t = { x with pend := true })
    ∧ (x.st = .waiting → x.reason = 1 ∨ x.reason = 4 →
      (code = 0 ∧ ((threadOf u t).st = .ready ∨ (threadOf u t).st = .running)) ∨ (code = 0x0F ∧ (threadOf u t).st = .waiting ∧ (threadOf u t).reason = 5))
    ∧ (x.st = .waiting → x.reason = 2 ∨ x.reason = 3 → code = 4 ∧ threadOf u t = { x with pend := true })
    ∧ (x.st = .waiting → x.reason = 5 → code = 4 ∧ u.bob.threads = s.bob.threads)
    ∧ (x.st = .suspended → resume = false → code = 5 ∧ u.bob.threads = s.bob.threads)
    ∧ (x.st = .cancelled → code = 5 ∧ u.bob.threads = s.bob.threads)

/-- R376: a quad-SPI request whose TAG and RCRC both equal the kept ones is not executed again, whatever it asks: the kept response is sent
and REPEATED counts it. -/
def Obligations.RepeatedRequestsNotExecuted : Prop :=
  ∀ (q : QspiReq) (s : State) (k : Kept) (opc : Nat) (c : Instr), qspiOn s q.port.val = true → (portOf s q.port.val).kept = some k →
    k.tag = q.tag.toNat → k.crc = q.crc → q.crc = reqCrc (opcodeOf opc q) q.tag.toNat q.body →
    (opc, c) ∈ [(1, Instr.qspiRdReg q), (2, .qspiWrReg q), (3, .qPush q), (4, .qPop q), (5, .qCmd q), (6, .sSend q), (7, .sRecv q),
      (8, .portStatus q), (9, .wrMem q), (10, .rdMem q)] →
    ∃ r, r = respond q.tag.toNat k.status k.body (s.incSat (Reg.HST_QSPI_ERR q.port.val) 8 8)
      ∧ exec c s = .next (if opc ∈ [2, 3, 6] then settled r else r)

/-- R503: a token that does not match refuses the transition with TOKEN, raises fault 0x4902 and locks out; STATUS.LOCKED_OUT shows it;
every later transition, by LCS_CMD or by JTAG, is refused with LOCKED_OUT; a pass through HOLD ends it. Each transition is judged in its
turn among the requests of its cycle. -/
def Obligations.TokenMismatchLocksOut : Prop :=
  ∀ (s : State),
    (∀ (target : Nat) token steps bad,
      (lcRefusal s target token = some 4 →
        lcTransition target token steps bad s = (raise 0x4902 { s with lcs := { s.lcs with lockedOut := true } }, 4))
      ∧ (s.lcs.lockedOut = true → (s.mode = .run ∨ s.mode = .service) → lcTransition target token steps bad s = (s, 5)))
    ∧ (∀ (a : Acc) (target : BitVec 5) (r : State → State × Nat), regFree a 0x49060 s = true →
      (∀ t, r t = lcTransition target.toNat (tokenBytes (grantExpire t)) a.env.steps a.env.otpMask (grantExpire t)) →
      exec (.transition a target) s = .next (regDone (lcTurn 0 a.env.meets (fun t => (lcDone (r t).2 (r t).1, ())) s).1))
    ∧ (∀ (target : BitVec 8) token (env : RegEnv) (r : State × Nat), s.mode ≠ .off → s.mode ≠ .hibernate → env.meets = [] →
      jtagOpen (grantExpire s) 0x11 = true →
      r = lcTransition target.toNat token env.steps env.otpMask { grantExpire s with lcs := { (grantExpire s).lcs with tap := 0x11 } } →
      exec (.lcTransition target token env) s = .next (settled (r.1.answer .okay [] r.2)))
    ∧ (s.lcs.lockedOut = true → (lcsStatus s).testBit 29 = true)
    ∧ (s.mode ≠ .off → s.pwr.resetN = false →
      ∃ u, exec (.resetN true) s = .next (settled u) ∧ u.lcs.lockedOut = false)

/-- R31, R32, R36, R30, R32, R36: The requests of SEAM_COMMIT and SEAM_SNAP complete. COMMIT_NOW waits for the tick 40 ns later, COMMIT_AT
and TAKE_AT for SEAM_AT where it lies at least 40 ns ahead; DISCARD cancels a commit before its seal point; RELEASE ends the hold. The
seal point, the apply tick and the snapshot tick. A scheduled commit is sealed; a due commit of one panel is applied under the next
generation; a snapshot that is due keeps its words, as the commits due at its tick leave them. -/
def Obligations.SeamRequestsAndTicksComplete : Prop :=
  (∀ (a : Acc) (s : State),
       (regFree a 0x40 s = true → (seamOf s (accPanel a s)).commit = none → stagedBy s (accPanel a s) ≠ [] →
         commitOverfull [accPanel a s] s = false →
         exec (.commitNow a) s = .next (regDone (setSeam (accPanel a s)
           { seamOf s (accPanel a s) with
             commit := some { isAt := false, target := s.now + 40, isSealed := true, late := false, deferred := false } }
           (seamCode (accPanel a s) 0 s))))
       ∧ (regFree a 0x40 s = true → (seamOf s (accPanel a s)).commit = none → stagedBy s (accPanel a s) ≠ [] →
         commitOverfull [accPanel a s] s = false → s.now + 40 ≤ s.rg64 (sb (accPanel a s) Reg.SEAM_AT) →
         exec (.commitAt a) s = .next (regDone (setSeam (accPanel a s)
           { seamOf s (accPanel a s) with
             commit := some { isAt := true, target := s.rg64 (sb (accPanel a s) Reg.SEAM_AT), isSealed := false, late := false, deferred := false } }
           (seamCode (accPanel a s) 0 s))))
       ∧ (∀ c, regFree a 0x40 s = true → (seamOf s (accPanel a s)).commit = some c → c.isSealed = false → s.now + 40 < s.tickAt c.target →
         exec (.discard a) s = .next (regDone (seamCode (accPanel a s) 5 (dropStaged (accPanel a s)
           (setSeam (accPanel a s) { seamOf s (accPanel a s) with commit := none } (s.wf (sb (accPanel a s) Reg.SEAM_STAGE) 17 1 0))))))
       ∧ (regFree a 0x70 s = true → (seamOf s (accPanel a s)).snapReq = none → (snapSelected s (accPanel a s)).length ≤ 512 →
         exec (.takeNow a) s = .next (regDone (setSeam (accPanel a s)
           { seamOf s (accPanel a s) with snapReq := some { target := s.now + 40, words := snapSelected s (accPanel a s) }, held := none }
           (snapCode (accPanel a s) 2 (s.wf (sb (accPanel a s) Reg.SEAM_SNAP_STATUS) 0 10 0)))))
       ∧ (regFree a 0x70 s = true → (seamOf s (accPanel a s)).snapReq = none → (snapSelected s (accPanel a s)).length ≤ 512 →
         s.now + 40 ≤ s.rg64 (sb (accPanel a s) Reg.SEAM_AT) →
         exec (.takeAt a) s = .next (regDone (setSeam (accPanel a s)
           { seamOf s (accPanel a s) with snapReq := some { target := s.rg64 (sb (accPanel a s) Reg.SEAM_AT), words := snapSelected s (accPanel a s) }, held := none }
           (snapCode (accPanel a s) 2 (s.wf (sb (accPanel a s) Reg.SEAM_SNAP_STATUS) 0 10 0)))))
       ∧ (regFree a 0x70 s = true →
         exec (.release a) s = .next (regDone (setSeam (accPanel a s) { seamOf s (accPanel a s) with snapReq := none, held := none }
           ((snapCode (accPanel a s) 0 s).wf (sb (accPanel a s) Reg.SEAM_SNAP_STATUS) 0 10 0)))))
    ∧ (∀ (s : State),
       (∀ (panel : Fin 8) c, (seamOf s panel.val).commit = some c → c.isAt = true → s.tickAt c.target ≤ s.now + 40 →
         exec (.sealPoint panel) s = .next (setSeam panel.val { seamOf s panel.val with commit := some { c with isSealed := true } } s))
       ∧ (∀ p gen, opMode s ≠ .swap → s.pwr.entry ≠ some 8 → allPanels.filter (commitDue s) = [p] → commitOverfull [p] s = false →
         gen = ((s.incWrap Reg.SEAM_GEN 0 32).rg Reg.SEAM_GEN).toNat →
         exec .applyTick s = .next (settled
           ((applyOwners gen (stagedBy s p) (dropStaged p (applyPanel gen (s.incWrap Reg.SEAM_GEN 0 32) p))).wf Reg.SEAM_ARB 8 8 (2 ^ p))))
       ∧ (∀ (p : Fin 8) r u l x, (∀ q, q < 8 → q ≠ p.val → (seamOf s q).snapReq = none) → (seamOf s p.val).snapReq = some r →
         r.target ≤ s.now → u = applyTick s → l = captureWords r.words u p.val →
         x = ((snapCode p.val 1 u).wf (sb p.val Reg.SEAM_SNAP_STATUS) 0 10 l.length).wrg64 (sb p.val Reg.SEAM_SNAP_TIME) u.now →
         exec .snapshotCapture s = .next (irqSeam p.val 2 (setSeam p.val { seamOf u p.val with snapReq := none, held := some l } x))))

/-- R22, R24, R9, R18, R28, R29: The header commands complete. SOFT_RESET resets its page, after the ENABLE written beside it; IRQ_SET sets
bits of IRQ_RAW; LOCK.LOCKED is set. A 32-bit store to a register with no behaviour of its own takes the RW bits, clears the W1C bits
and sets the W1S bits that it names; a store to a staged register is staged for the panel; an address with no page answers DECODE,
another size or alignment ACCESS. -/
def Obligations.PageHeadersAndRegistersComplete : Prop :=
  (∀ (a : Acc) (s : State) (page : Fin 256) (k : Page), pageOf page.val = some k →
       (∀ enable, k.ctrlFixed = false → regFree a (page.val * 0x1000 + 0xC) s = true →
         exec (.softReset a page enable) s = .next (regDone (softReset k page.val (enableWrite k page.val enable s))))
       ∧ (k.ctrlFixed = false → k.enableFixed = false → k ≠ .bob → regFree a (page.val * 0x1000 + 0xC) s = true →
         exec (.ctrlEnableWrite a page true) s = .next (regDone (s.wb (page.val * 0x1000 + 0xC) 0 true)))
       ∧ (k.ctrlFixed = false → k.enableFixed = false → regFree a (page.val * 0x1000 + 0xC) s = true →
         exec (.ctrlEnableWrite a page false) s = .next (regDone (disable k page.val (s.wb (page.val * 0x1000 + 0xC) 0 false))))
       ∧ (∀ value, regFree a (page.val * 0x1000 + 0x1C) s = true →
         exec (.irqSet a page value) s = .next (regDone (s.wrg (keyFor (accPanel a s) (irqRaw page.val))
           (s.rg (keyFor (accPanel a s) (irqRaw page.val)) ||| value))))
       ∧ (regFree a (page.val * 0x1000 + 0x24) s = true →
         exec (.pageLock a page) s = .next (regDone (s.wb (page.val * 0x1000 + 0x24) 0 true))))
    ∧ (∀ (a : Acc) (s : State) (off : Nat) (k : Page) (r : RegRow), off % 4 = 0 → pageOf (off / 0x1000) = some k → 0x40 ≤ off % 0x1000 →
       rowAt k (off % 0x1000) = some r → regFree a off s = true →
       (∀ (value : BitVec 64), off < 0x100000 → r.rws = 0 →
         blockWrite a.init k (off / 0x1000) (accPanel a s) (off % 0x1000) (w32 value.toNat) a.env s = none →
         exec (.registerWrite a (0x60000000 + off) 4 value) s
           = .next (regDone (plainWrite r (keyFor (accPanel a s) off) (w32 value.toNat) s)))
       ∧ (∀ (value : Word), r.rws ≠ 0 → (seamOf s (accPanel a s)).commit = none → ¬ (0x1080 ≤ off ∧ off < 0x10A0) →
         ¬ (0x30000 ≤ off ∧ off < 0x3C000) →
         blockWrite a.init k (off / 0x1000) (accPanel a s) (off % 0x1000) value a.env s = none →
         exec (.stagingWrite a off value) s
           = .next (regDone (setShadow off (some (accPanel a s, value &&& w32 r.rws)) s))))

/-- R53, R64, R404, R63, R66, R68, R75, R76, R83, R44, R53, R56, R80: Guarded BRAM and the DLLs complete. A word of a guarded block with no
wrong bit is delivered with code 0, with one it is delivered corrected with code 1, with two it is delivered as it stands with code 2; a
write-back makes its check bits right; a STEP pulse moves the phase by one of 256 and waits for STEP_DONE; alignment and its loss. Clock
buffers, Needle lines, parameter words, bolts and target ports complete. A buffer's output is its selected clock while it is enabled; a
Needle edge of a region that is not isolated is its event; a capture presents the 64 parameter words; an answer, or the time limit, ends
the access that waits at a target port. The cells of the loaded design take what its logic does to them. In an isolated region nothing
acts; a flip-flop whose slice is enabled takes what the WHOLE function of its LUT shows; a guarded BRAM word written through port 0 is
stored with right check bits and ends a repair that waited for it; a DSP block that adds its product adds it to ACC. -/
def Obligations.FabricBramAndLinesComplete : Prop :=
  (∀ (s : State),
       (∀ (block : Fin 3072) (word : Fin 512) (dataFlips : BitVec 64) (checkFlips : BitVec 8) err content, isolated s (block.val / 24) = false →
         (bramCfgOf s block.val).mode = .guarded → err = errOf s (block.val * 512 + word.val) ^^^ (checkFlips ++ dataFlips) →
         content = (rowOf s (block.val * 512 + word.val)).truncate 64 →
         ∃ t, exec (.bramGuardedRead block word dataFlips checkFlips) s = .next t
           ∧ (popc 72 err.toNat = 0 → t.ans = { t.ans with rsp := .okay, data := [content], code := 0 })
           ∧ (popc 72 err.toNat = 1 → t.ans = { t.ans with rsp := .okay, data := [content], code := 1 })
           ∧ (popc 72 err.toNat = 2 → t.ans = { t.ans with rsp := .okay, data := [content ^^^ err.truncate 64], code := 2 }))
       ∧ (∀ (block : Fin 3072) (word : Fin 512), isolated s (block.val / 24) = false →
         s.fab.repair.contains (block.val * 512 + word.val) = true →
         exec (.bramRepair block word) s = .next (setErr (block.val * 512 + word.val) 0 { s with fab := { s.fab with
           repair := s.fab.repair.filter (· != block.val * 512 + word.val) } }))
       ∧ (∀ (d : Fin 16) later, dllRuns s d.val = true → (dllOf s d.val).step = none →
         exec (.dllStep d later) s = .next ((setDll d.val { dllOf s d.val with step := some later } s).wf (Reg.CLK_DLL_PHASE d.val) 0 8
           (s.rf (Reg.CLK_DLL_PHASE d.val) 0 8 + (if later then 1 else 255))))
       ∧ (∀ (d : Fin 16), exec (.dllStepDone d) s = .next (setDll d.val { dllOf s d.val with step := none } s))
       ∧ (∀ (d : Fin 16), dllRuns s d.val = true → (dllOf s d.val).aligned = false →
         exec (.dllAligned d) s = .next ((setDll d.val { dllOf s d.val with aligned := true } s).wf (Reg.CLK_DLL_PHASE d.val) 0 8 0))
       ∧ (∀ (d : Fin 16), (dllOf s d.val).aligned = true →
         exec (.dllUnlock d) s = .next (irq CLK_PAGE 7 (setDll d.val { dllOf s d.val with aligned := false, step := none } s))))
    ∧ (∀ (s : State),
       (∀ (n : Fin 64) on, exec (.globalBufferEnable n on) s = .next { s with fab := { s.fab with
         gbufs := sset (fun _ => GBuf.reset) s.fab.gbufs n.val
           { en := on, sel := (sget (fun _ => GBuf.reset) s.fab.gbufs n.val).sel
             out := if on then some (sget (fun _ => GBuf.reset) s.fab.gbufs n.val).sel else none } } })
       ∧ (∀ (n : Fin 64) sel, exec (.globalBufferSelect n sel) s = .next { s with fab := { s.fab with
         gbufs := sset (fun _ => GBuf.reset) s.fab.gbufs n.val
           { en := (sget (fun _ => GBuf.reset) s.fab.gbufs n.val).en, sel := sel
             out := if (sget (fun _ => GBuf.reset) s.fab.gbufs n.val).en then some sel else none } } })
       ∧ (∀ (n : Fin 4096), isolated s (n.val / 32) = false → isEnabled s FAB_PAGE = true → exec (.needleEdge n) s = .next (event n.val s))
       ∧ (∀ (r : Fin 128), s.fab.paramPend.getLsbD r.val = true → isolated s r.val = false → isEnabled s FAB_PAGE = true →
         ∃ t, exec (.paramCapture r) s = .next t ∧ t.fab.paramPend.getLsbD r.val = false
           ∧ (Config.captureBound (markFrames s.fab.latch r.val) = true → ∀ n < 64,
             sget (fun _ => 0) t.fab.params (64 * r.val + n) = s.rg (Reg.FAB_PARAM n)))
       ∧ (∀ (a : Acc) (bolts : BitVec 8), regFree a 0xB060 s = true →
         exec (.boltOff a bolts) s = .next (regDone ((bitsOf 8 bolts.toNat).foldl (fun s b => if s.rb Reg.FAB_BOLT_OFF b then s else boltOff b s) s)))
       ∧ (∀ (port : Fin 8) (core : Fin 16) (code : Fin 6) (value : BitVec 64) q,
         s.fab.tports.find? (fun q => q.port == port.val && q.core == core.val) = some q → s.now ≤ q.start + tportLimit s →
         exec (.targetPortResponse port core code value) s = .next (tportAnswer q (rspOf code.val) value s))
       ∧ (∀ (port : Fin 8) q, s.fab.tports.find? (fun q => q.port == port.val && decide (q.start + tportLimit s ≤ s.now)) = some q →
         exec (.targetPortTimeout port) s = .next (tportAnswer q .timeout 0 (raise 0x0B02 s))))
    ∧ (∀ (s : State),
       (∀ (e : FabricEvent) r, e.region = some r → isolated s r = true → fabricEvent s e = s)
       ∧ (∀ (n : Fin 98304) (x : LutIn) c, isolated s (n.val / 768) = false → c = lutCfgOf s (8 * n.val) → c.kind = .logic → c.split = false →
         c.faDirect = false → ffOf (fabricEvent s (.slice n true false [x])) (16 * n.val) = c.table.getLsbD x.i.toNat)
       ∧ (∀ (block : Fin 3072) (c : BramCycle) t row, isolated s (block.val / 24) = false → (bramCfgOf s block.val).mode = .guarded →
         c.isWrite = true → c.depth = 0 → c.flip1 = false → c.flip2 = false → t = fabricEvent s (.bram block (some c) none) →
         row = block.val * 512 + c.addr % 512 →
         rowOf t row = (c.data.truncate 64).setWidth 72 ∧ errOf t row = 0 ∧ t.fab.repair.contains row = false)
       ∧ (∀ (n : Fin 2048) x w y z c, isolated s (n.val / 16) = false → c = dspCfgOf s n.val → c.lanes = .one → c.op = .accPlusP → c.pre = .pass →
         c.useIx = false → c.useIy = false → c.usePre = false → c.useMul = false →
         (dspOf (fabricEvent s (.dsp n x w y z)) n.val).acc = (dspOf s n.val).acc + dspProduct c x y))

/-- R71, R72, R74: requests of an initiator port to shared SRAM complete: a read answers the bytes of the aligned 16, a write stores the
bytes of a full beat and changes no other byte, an atomic command answers the old value and stores its result. -/
def Obligations.WindowMemoryRequestsComplete : Prop :=
  ∀ (q : WinReq) (s : State), sends s (.win q.port) = true → q.unknown = none → q.rivals = [] → q.meets = [] → s.ram.bad = [] → inSram (winBase q) = true →
    (∀ data, q.beats = [⟨0xFFFF, data⟩] →
      ∃ t, exec (.rd q) s = .next t ∧ t.ans = { t.ans with rsp := .okay, data := [w64 (readLe s (winBase q) 8), w64 (readLe s (winBase q + 8) 8)], code := 0 }
        ∧ ∀ x, readByte t x = readByte s x)
    ∧ (∀ data, q.beats = [⟨0xFFFF, data⟩] →
      ∃ t, exec (.wrP q) s = .next t ∧ t.ans.rsp = .okay
        ∧ (∀ k < 16, readByte t (winBase q + k) = BitVec.ofNat 8 (nfld data.toNat (8 * k) 8))
        ∧ ∀ x, (x < winBase q ∨ winBase q + 16 ≤ x) → readByte t x = readByte s x)
    ∧ (∀ data, q.beats = [⟨0xFFFF, data⟩] →
      ∃ t, exec (.wrNp q) s = .next t ∧ t.ans.rsp = .okay
        ∧ (∀ k < 16, readByte t (winBase q + k) = BitVec.ofNat 8 (nfld data.toNat (8 * k) 8))
        ∧ ∀ x, (x < winBase q ∨ winBase q + 16 ≤ x) → readByte t x = readByte s x)
    ∧ (∀ data en, q.beats = [⟨en, data⟩] →
      ∃ t, exec (.amoSwap q true) s = .next t ∧ t.ans = { t.ans with rsp := .okay, data := [w64 (readLe s (q.addr.toNat / 8 * 8) 8)], code := 0 }
        ∧ readLe t (q.addr.toNat / 8 * 8) 8 = nfld data.toNat 0 64)
    ∧ (∀ data en, q.beats = [⟨en, data⟩] →
      ∃ t, exec (.amoAdd q false) s = .next t ∧ t.ans = { t.ans with rsp := .okay, data := [w64 (readLe s (q.addr.toNat / 4 * 4) 4)], code := 0 }
        ∧ readLe t (q.addr.toNat / 4 * 4) 4 = (readLe s (q.addr.toNat / 4 * 4) 4 + nfld data.toNat 0 32) % 2 ^ 32)
    ∧ (∀ data en, q.beats = [⟨en, data⟩] →
      ∃ t, exec (.amoCas q true) s = .next t ∧ t.ans = { t.ans with rsp := .okay, data := [w64 (readLe s (q.addr.toNat / 8 * 8) 8)], code := 0 }
        ∧ readLe t (q.addr.toNat / 8 * 8) 8
          = if readLe s (q.addr.toNat / 8 * 8) 8 = nfld data.toNat 0 64 then nfld data.toNat 64 64 else readLe s (q.addr.toNat / 8 * 8) 8)

/-- R78, R79: the partner ports complete: a frame of 16 to 4096 bytes waits for the session engine, the oldest frame for the fabric leaves
with its bytes in the answer, and LINK_UP follows the fabric. -/
def Obligations.PartnerPortsComplete : Prop :=
  ∀ (s : State) (p : Fin 16),
    (∀ bytes, isEnabled s FAB_PAGE = true → ppUp s p.val = true → 16 ≤ bytes.length → ppWaiting s p.val + bytes.length ≤ 4096 →
      exec (.partnerFrameRx p bytes false) s = .next (postFrame (8 + p.val) bytes s))
    ∧ (∀ f, isEnabled s FAB_PAGE = true → ppUp s p.val = true → s.fab.ppTx.find? (·.1 == p.val) = some f →
      exec (.partnerFrameTx p) s
        = .next ((ppMove { s with fab := { s.fab with ppTx := s.fab.ppTx.erase f } }).answer .okay (f.2.map (·.setWidth 64))))
    ∧ (∀ up, isEnabled s FAB_PAGE = true → isolated s (ppRegion p.val) = false → s.fab.linkUp.getLsbD p.val ≠ up →
      exec (.linkUpChange p up) s = .next (irq FAB_PAGE 4 { s with fab := { s.fab with linkUp := s.fab.linkUp ^^^ BitVec.twoPow 16 p.val } }))

/-- R89, R90, R119 to R122, R134, R141: the plane commands complete. A WRITE that nothing refuses reads its header: one that passes R89
begins the header stage, another is reported and changes nothing else; an ABORT leaves no write and no pending swap; an ERASE leaves the
target erased with one more cycle, or reports a cell that fails; CONFIRM ends a trial. -/
def Obligations.PlaneCommandsComplete : Prop :=
  ∀ (a : Acc) (s : State), regFree a 0x8040 s = true → isEnabled s PAT_PAGE = true →
    (∀ (target : Fin 4) p r h, targetOf target.val = some p → writeRefusal (accPanel a s) p s = none →
      r = imageRead (s.rg64 Reg.PAT_SRC_ADDR) 512 ((patErr 0 0 s).wrg Reg.PAT_PROGRESS 0) → h = BitVec.ofNat 4096 (leNat r.2) →
      (hdrJudge h (some p) r.1 = none → exec (.planeWrite a target) s = .next (regDone { r.1 with pat := { r.1.pat with
        opState := 1
        writing := some ⟨p, 1, r.1.now + 3000000, s.rg64 Reg.PAT_SRC_ADDR, (s.rg Reg.PAT_SRC_LEN).toNat, h, 0⟩ } }))
      ∧ (∀ e, hdrJudge h (some p) r.1 = some e → exec (.planeWrite a target) s = .next (regDone (writeReport e.2 e.1 r.1))))
    ∧ (∃ u, exec (.patAbort a) s = .next (regDone u) ∧ u.pat.writing = none ∧ u.pat.pending = none)
    ∧ (∀ (target : Fin 4) p, targetOf target.val = some p → writeMode (accPanel a s) s = true → imageBusy s = false →
      targetRefusal p s = none →
      ∃ u, exec (.planeErase a target) s = .next (regDone u)
        ∧ u.pat.opState = (if a.env.cellFails then 8 else 7)
        ∧ planeOf u p = { PlaneRec.reset with
            cycles := satInc (planeOf s p).cycles 16, st := if a.env.cellFails then .invalid else .empty })
    ∧ (s.pat.trial = true → s.pat.store = none → imageBusy s = false →
      exec (.confirm a) s = .next (regDone (irq PAT_PAGE 0 { patErr 0 0 s with pat := { s.pat with
        trial := false, opState := 7
        selectedB := match s.pat.loaded with | some .a => false | some .b => true | _ => s.pat.selectedB } })))

/-- R120, R124 to R126: the read-back and the swaps complete. A written plane that reads back is VALID; a swap that nothing refuses begins
its outage at once, a scheduled one at the first tick at or after T: the mode is SWAP. -/
def Obligations.SwapsComplete : Prop :=
  ∀ (s : State),
    (∀ w, s.pat.writing = some w → w.step = 4 → planeReads (planeOf s w.plane) = true →
      ∃ u, exec (.planeWriteDone false) s = .next (settled u) ∧ (planeOf u w.plane).st = .valid ∧ u.pat.writing = none ∧ u.pat.opState = 7)
    ∧ (∀ (a : Acc) (target : Fin 4) trial p, regFree a 0x8040 s = true → isEnabled s PAT_PAGE = true → targetOf target.val = some p →
      swapRefusal (some p) trial s = none →
      exec (.swap a target trial) s
        = .next (regDone (startOutage ⟨p, trial, (patErr 0 0 s).rg64 Reg.PAT_SWAP_AT, s.mode, 0, (patErr 0 0 s).rg64 Reg.PAT_SWAP_AT⟩
            (patErr 0 0 s))))
    ∧ (∀ (a : Acc) (target : Fin 4) trial p, regFree a 0x8040 s = true → isEnabled s PAT_PAGE = true → targetOf target.val = some p →
      swapRefusal (some p) trial s = none → (patErr 0 0 s).now < (patErr 0 0 s).rg64 Reg.PAT_SWAP_AT →
      exec (.swapAt a target trial) s = .next (regDone { patErr 0 0 s with pat := { s.pat with
        pending := some ⟨p, trial, (patErr 0 0 s).rg64 Reg.PAT_SWAP_AT, s.mode, 0, (patErr 0 0 s).rg64 Reg.PAT_SWAP_AT⟩
        opState := 5 } }))
    ∧ (∀ w, s.pat.pending = some w → w.time ≤ s.now → inRun s = true →
      exec .swapAtStart s = .next (settled (startOutage w s)) ∧ (startOutage w s).mode = .swap)

/-- R135, R136, R138, R139: the basting commands complete. A BASTE that nothing refuses reads its header: one that passes R89 begins the
header stage, another is reported; ABORT before isolation cancels it; RESTORE copies the ACTIVE plane into the held and basted regions
and waits for their check. -/
def Obligations.BastingComplete : Prop :=
  ∀ (a : Acc) (s : State), regFree a 0x9040 s = true →
    (∀ r h, isEnabled s BAS_PAGE = true → inRun s = true → imageBusy s = false → s.rg64 Reg.BAS_SRC_ADDR % 4 = 0 →
      inUserMem (s.rg64 Reg.BAS_SRC_ADDR) (s.rg Reg.BAS_SRC_LEN).toNat = true → 528 ≤ (s.rg Reg.BAS_SRC_LEN).toNat →
      r = imageRead (s.rg64 Reg.BAS_SRC_ADDR) 512 s → h = BitVec.ofNat 4096 (leNat r.2) → (∀ b, b < 8 → r.1.rb Reg.FAB_BOLT_OFF b = false) →
      (hdrJudge h none r.1 = none → ∃ u, exec (.baste a) s = .next (regDone u) ∧ u.pat.basState = 1
        ∧ u.pat.baste = some ⟨1, ((basErr 0 0 r.1).wrg Reg.BAS_PROGRESS 0).now + 3000000, hdrMask h, s.rg64 Reg.BAS_SRC_ADDR,
            (s.rg Reg.BAS_SRC_LEN).toNat, h, 0⟩)
      ∧ (hdrJudge h none r.1 ≠ none → ∃ u, exec (.baste a) s = .next (regDone u) ∧ u.pat.basState = 8 ∧ u.pat.baste = r.1.pat.baste))
    ∧ (∀ b, s.pat.baste = some b → b.step < 3 →
      exec (.basAbort a) s = .next (regDone (irq BAS_PAGE 1 (basErr 0 0x25 { s with pat := { s.pat with baste := none, basState := 8 } }))))
    ∧ (∀ p, isEnabled s BAS_PAGE = true → inRun s = true → imageBusy s = false → s.pat.loaded = some p → isActive s p = true →
      ∃ u, exec (.restore a) s = .next (regDone u) ∧ u.pat.basState = 9
        ∧ u.pat.restore = some (s.fab.held ||| bastedMask s, (holdRegions (s.fab.held ||| bastedMask s) (basErr 0 0 s)).now + 2200000))

/-- R147, R148, R151, R164, R156 to R158, R161, R165: The sweep engines complete. A sweep starts at frame 0 of its bolt's first region, no
sooner than 20 ms after the last; a frame that agrees with its reference moves it on; a region reset ends; a sweep past 20 ms is
reported once. The plane refresher, the vote and the injection complete. A pass starts over the first plane that is due; a frame with
nothing wrong moves it on; a majority vote is counted; an injection flips one configuration bit of the fabric. -/
def Obligations.OverlockComplete : Prop :=
  (∀ (s : State),
       (∀ (b : Fin 8), sweepRuns s = true → (sweepOf s b.val).on = false →
         ((sweepOf s b.val).start = 0 ∨ (sweepOf s b.val).start + 20000000 ≤ s.now) →
         exec (.sweepStart b) s = .next (setSweep b.val { sweepOf s b.val with on := true, region := 0, frame := 0, start := s.now, late := false } s))
       ∧ (∀ (b : Fin 8) stuck, sweepRuns s = true → (sweepOf s b.val).on = true → isolated s (16 * b.val + (sweepOf s b.val).region) = false →
         sget (fun _ => false) s.ovl.bad (512 * (16 * b.val + (sweepOf s b.val).region) + (sweepOf s b.val).frame) = false →
         frameDiff s (512 * (16 * b.val + (sweepOf s b.val).region) + (sweepOf s b.val).frame) = 0 → (sweepOf s b.val).frame + 1 < 480 →
         ∃ u, exec (.sweepFrameCheck b [] { ecc := .none, stuck := stuck, cut := none } []) s = .next (settled u)
           ∧ (sweepOf u b.val).frame = (sweepOf s b.val).frame + 1 ∧ u.regs = s.regs ∧ u.mem = s.mem)
       ∧ (∀ (r : Fin 128) t, s.fab.resetRel.find? (·.1 == r.val) = some (r.val, t) → t ≤ s.now →
         exec (.regionResetRelease r) s = .next (settled (releaseRegions (1#128 <<< r.val)
           { s with fab := { s.fab with resetRel := s.fab.resetRel.filter (·.1 != r.val) } })))
       ∧ (∀ (b : Fin 8), (sweepOf s b.val).on = true → (sweepOf s b.val).late = false → (sweepOf s b.val).start + 20000000 < s.now →
         exec (.sweepOverrun b) s = .next (irq OVL_PAGE 7 (raise 0x0A09 (setSweep b.val { sweepOf s b.val with late := true } s)))))
    ∧ (∀ (s : State),
       (∀ hot p v, v = noteHot hot s → v.ovl.rfPlane = none →
         [Plane.a, Plane.b, Plane.hem].find? (fun p => refreshOn v p && passDue v p) = some p →
         exec (.refreshPassStart hot) s = .next { v with ovl := { v.ovl with rfPlane := some p, rfFrame := 0, rfCount := 0 } })
       ∧ (∀ p, s.ovl.rfPlane = some p → refreshOn s p = true → (planeOf s p).st = .valid → s.ovl.rfFrame + 1 < 61440 →
         exec (.refreshFrameCheck false 0 { verify := 0, erase := false }) s = .next (settled { s with ovl := { s.ovl with rfFrame := s.ovl.rfFrame + 1 } }))
       ∧ (s.mode = .run → exec (.overlockVoteError true) s
           = .next (settled (raise 0x0A04 (irq OVL_PAGE 3 (s.incSat Reg.OVL_SELF_ERR 0 16)))))
       ∧ (∀ (a : Acc) (far : BitVec 16) (word : BitVec 7) (cell : BitVec 5) g, regFree a 0xA0A0 s = true → s.mode = .service →
         grantNow s = some g → g.full = true → far.toNat % 512 < 480 →
         exec (.ovlInject a far word cell) s = .next (regDone (setLatchFrame far.toNat
           (sget (fun _ => 0) s.fab.latch far.toNat ^^^ (1#4096 <<< (32 * word.toNat + cell.toNat))) s))))

/-- R167 to R169, R172, R174, R176, R182: a core that runs fetches the instruction at its pc and executes it; a fetch alone answers its
bits. A load, a store, an atomic, a fence, WFI and a CSR instruction, in every form, take effect on a core that runs. -/
def Obligations.InstructionsComplete : Prop :=
  ∀ (core : Fin 16) (env : CoreEnv) (s : State), coreActive s core.val = true →
    (∀ bits len, (fetch core.val env s).2 = some (bits, len) →
      (trigHit s core.val 2 (coreOf s core.val).ctx.pc = none →
        exec (.instructionExecute core env) s = .next (settled (stepDone core.val
          (instrRun core.val (if len = 2 then decode16 bits else decode32 bits) len bits env (fetch core.val env s).1))))
      ∧ exec (.instructionFetch core env) s = .next (stepDone core.val ((fetch core.val env s).1.answer .okay [w64 bits])))
    ∧ (∀ x : LoadStore, x.core = core → x.env = env → exec (.loadStore x) s
      = .next (settled (stepDone core.val (instrRun core.val (loadStoreInstr x) (instrLen x.short) 0 env s))))
    ∧ (∀ kind double rd rs1 rs2, exec (.atomicAccess core kind double rd rs1 rs2 env) s = .next (settled (stepDone core.val
      (instrRun core.val (atomicInstr kind (if double then 8 else 4) rd.val rs1.val rs2.val) 4 0 env s))))
    ∧ (∀ kind imm rd src num, exec (.csrAccess core kind imm rd src num env) s = .next (settled (stepDone core.val
      (instrRun core.val (.csr (csrOpOf kind) imm rd.val src.val num.val) 4 0 env s))))

/-- R168, R173, R173, R174: A load of shared SRAM with nothing buffered gives its register the bytes of memory, sign- or zero-extended, and
leaves memory as it is; a store goes to the end of the write buffer; an access of the fabric window is given to its target port. The
atomics at shared SRAM and the write buffer complete, for a word and a double word. LR reserves the 64-byte line, SC with the
reservation stores and answers 0, every AMO stores its result and answers the old value, sign-extended; x0 stays 0; the oldest posted
store is performed. -/
def Obligations.LoadsStoresAndAtomicsComplete : Prop :=
  (∀ (x : LoadStore) (s : State), coreActive s x.core.val = true → x.fp = false → loadStoreAddr x s % 2 ^ x.size.val = 0 →
       trigHit s x.core.val (b2n x.isStore) (BitVec.ofNat 64 (loadStoreAddr x s)) = none →
       pmpOk s x.core.val (dataPrv s x.core.val) (loadStoreAddr x s) (2 ^ x.size.val) (b2n x.isStore) = true →
       (coreOf s x.core.val).wbuf = [] →
       (x.isStore = false → inSram (loadStoreAddr x s) = true → s.ram.bad = [] → x.env.dataEcc = .none →
         ∃ u, exec (.loadStore x) s = .next (settled (stepDone x.core.val u))
           ∧ rx u x.core.val x.reg.val = (if x.reg.val = 0 then 0 else if x.signed
               then sext (8 * 2 ^ x.size.val) (readLe s (loadStoreAddr x s) (2 ^ x.size.val))
               else w64 (readLe s (loadStoreAddr x s) (2 ^ x.size.val)))
           ∧ (coreOf u x.core.val).ctx.pc = (coreOf s x.core.val).ctx.pc + BitVec.ofNat 64 (instrLen x.short) ∧ u.mem = s.mem)
       ∧ (x.isStore = true → inSram (loadStoreAddr x s) = true →
         ∃ u, exec (.loadStore x) s = .next (settled (stepDone x.core.val u))
           ∧ (coreOf u x.core.val).wbuf = [(loadStoreAddr x s, 2 ^ x.size.val, rx s x.core.val x.reg.val)]
           ∧ (coreOf u x.core.val).ctx.pc = (coreOf s x.core.val).ctx.pc + BitVec.ofNat 64 (instrLen x.short) ∧ u.mem = s.mem)
       ∧ (∀ t, zoneOf (loadStoreAddr x s) = .window t →
         exec (.targetPortAccess x) s = .next (settled (stepDone x.core.val
           (tportAccess x.core.val t (loadStoreAddr x s) ⟨x.isStore, 2 ^ x.size.val, x.signed, false⟩ (if x.isStore then 0 else x.reg.val)
             (instrLen x.short) (if x.isStore then rx s x.core.val x.reg.val else 0) (!x.env.rivals.isEmpty) s)))))
    ∧ (∀ (core : Fin 16) (rd rs1 rs2 : Fin 32) (double : Bool) (env : CoreEnv) (s : State) (n a : Nat), n = (if double then 8 else 4) →
       a = (rx s core.val rs1.val).toNat →
       (coreActive s core.val = true → (coreOf s core.val).wbuf = [] → s.ram.bad = [] → env.dataEcc = .none →
         inSram a = true → a % n = 0 →
         pmpOk s core.val (dataPrv s core.val) a n 0 = true → pmpOk s core.val (dataPrv s core.val) a n 1 = true →
         (∃ u, exec (.atomicAccess core .lr double rd rs1 rs2 env) s = .next (settled (stepDone core.val u))
           ∧ rx u core.val rd.val = (if rd.val = 0 then 0 else sext (8 * n) (readLe s a n)) ∧ (coreOf u core.val).resv = some (a / 64))
         ∧ ((coreOf s core.val).resv = some (a / 64) →
           ∃ u, exec (.atomicAccess core .sc double rd rs1 rs2 env) s = .next (settled (stepDone core.val u))
             ∧ rx u core.val rd.val = 0 ∧ (coreOf u core.val).resv = none
             ∧ readLe u a n = (rx s core.val rs2.val).toNat % 2 ^ (8 * n))
         ∧ (∀ kind op, atomicInstr kind n rd.val rs1.val rs2.val = .amo op n rd.val rs1.val rs2.val →
           ∃ u, exec (.atomicAccess core kind double rd rs1 rs2 env) s = .next (settled (stepDone core.val u))
             ∧ rx u core.val rd.val = (if rd.val = 0 then 0 else sext (8 * n) (readLe s a n))
             ∧ readLe u a n = (amoRun op n (sext (8 * n) (readLe s a n)) (sext (8 * n) (rx s core.val rs2.val).toNat)).toNat % 2 ^ (8 * n)))
       ∧ (∀ a n v l, (coreOf s core.val).wbuf = (a, n, v) :: l →
         exec (.writeBufferDrain core) s
           = .next (putBy (some core.val) a (natLe v.toNat n) (setCore core.val { coreOf s core.val with wbuf := l } s))))

/-- R167, R172, R173, R177, R182, R172, R185, R186: Fences, WFI, CSR instructions and interrupts complete. The commands of a core's page
complete. A start puts a held core of a cluster that is on at CORE_BOOT_PC, in M-mode; the instruction cache is emptied; a cluster is
turned off for good. -/
def Obligations.CoreControlAndPageComplete : Prop :=
  (∀ (core : Fin 16) (s : State),
       (∀ pred succ env, coreActive s core.val = true →
         exec (.fence core pred succ env) s = .next (settled (stepDone core.val
           (passInstr core.val 4 (if pred.toNat.testBit 0 || pred.toNat.testBit 2 then drainAll core.val s else s)))))
       ∧ (∀ env, coreActive s core.val = true →
         exec (.fenceI core env) s = .next (settled (stepDone core.val
           (passInstr core.val 4 (icacheClear core.val (drainAll core.val s))))))
       ∧ (∀ env, coreActive s core.val = true → mipOf s core.val &&& (coreOf s core.val).ctx.mie.toNat = 0 →
         ∃ u, exec (.wfi core env) s = .next (settled (stepDone core.val u)) ∧ (coreOf u core.val).halted = true
           ∧ (coreOf u core.val).ctx.pc = (coreOf s core.val).ctx.pc + 4)
       ∧ (∀ (rd src : Fin 32) env, coreActive s core.val = true → prvOf s core.val = 3 →
         ∃ u, exec (.csrAccess core .write false rd src 0x340 env) s = .next (settled (stepDone core.val u))
           ∧ rx u core.val rd.val = (if rd.val = 0 then 0 else (coreOf s core.val).ctx.mscratch) ∧ (coreOf u core.val).ctx.mscratch = rx s core.val src.val)
       ∧ (∀ n, coreRuns s core.val = true → s.lcs.halted.contains core.val = false → inStore s core.val = false →
         (coreOf s core.val).chosen = none → (coreOf s core.val).waiting = false → irqTaken s core.val = some n →
         ∃ u, exec (.interruptTaken core) s = .next u
           ∧ (coreOf u core.val).ctx.mepc = (coreOf s core.val).ctx.pc ∧ (coreOf u core.val).ctx.mcause = w64 (2 ^ 63 + n)
           ∧ (coreOf u core.val).ctx.prv = 3 ∧ (coreOf u core.val).ctx.mpp = (coreOf s core.val).ctx.prv
           ∧ (coreOf u core.val).ctx.mstMie = false ∧ (coreOf u core.val).ctx.mstMpie = (coreOf s core.val).ctx.mstMie)
       ∧ (s.rg64 (Reg.CORE_MTIMECMP core.val) ≤ s.now → (mipOf s core.val).testBit 7 = true
         ∧ ((coreOf s core.val).halted = true → mipOf s core.val &&& (coreOf s core.val).ctx.mie.toNat ≠ 0 →
           exec (.mtimecmpMatch core) s = .next (setCore core.val { coreOf s core.val with halted := false } s))
         ∧ ((coreOf s core.val).halted = false → exec (.mtimecmpMatch core) s = .next s)))
    ∧ (∀ (a : Acc) (s : State),
       (∀ (core : Fin 16), regFree a (0x10040 + core.val * 0x1000) s = true → clusterOff s (core.val / 4) = false →
         (coreOf (fitCore core.val s) core.val).started = false →
         ∃ u, exec (.coreStart a core) s = .next (regDone u) ∧ (coreOf u core.val).started = true ∧ (coreOf u core.val).ctx.prv = 3
           ∧ (coreOf u core.val).ctx.pc = w64 ((fitCore core.val s).rg64 (Reg.CORE_BOOT_PC core.val) % 2 ^ 40))
       ∧ (∀ (core : Fin 16), regFree a (0x10094 + core.val * 0x1000) s = true →
         exec (.icacheInvalidate a core) s = .next (regDone (icacheClear core.val s)) ∧ (coreOf (icacheClear core.val s) core.val).icache = [])
       ∧ (∀ (k : Fin 4), regFree a (0x100A0 + k.val * 0x4000) s = true → clusterOff s k.val = false →
         exec (.clusterOff a k) s = .next (regDone (clusterLost k.val
           (raise ((0x10 + 4 * k.val) * 0x100 + 3) (s.wb (Reg.CORE_CLUSTER_OFF (4 * k.val)) 0 true))))))

/-- R206, R208, R209, R211, R213: READY, YIELD, WAIT_TIMEOUT, SUSPEND and CANCEL at a core's doorbell complete, with the result of the
operation on the thread the argument names. -/
def Obligations.ThreadDoorbellsComplete : Prop :=
  ∀ (core : Fin 16) (arg : BitVec 64) (short : Bool) (env : CoreEnv) (s : State),
    (doorFree core 0x00 env s = true → nfld arg.toNat 18 45 = 0 →
      exec (.dbReady core arg short env) s = .next (doorDone core
        (complete core.val (deliver (nfld arg.toNat 0 18) (arg.toNat.testBit 63) 0 (doorStart core short s)).2.1
          (some (deliver (nfld arg.toNat 0 18) (arg.toNat.testBit 63) 0 (doorStart core short s)).2.2) 0
          (deliver (nfld arg.toNat 0 18) (arg.toNat.testBit 63) 0 (doorStart core short s)).1)))
    ∧ (doorFree core 0x08 env s = true → (coreOf s core.val).thread = none →
      ∃ u, exec (.dbYield core 0 short env) s = .next (doorDone core u)
        ∧ (coreOf u core.val).joined = true ∧ (coreOf u core.val).waiting = true)
    ∧ (∀ t, doorFree core 0x18 env s = true → (coreOf s core.val).thread = some t → arg.toNat ≠ 0 → arg.toNat < 2 ^ 32 →
      exec (.waitTimeout core arg short env) s = .next (doorDone core (startWait core.val 4 arg.toNat arg (doorStart core short s))))
    ∧ (doorFree core 0x28 env s = true → nfld arg.toNat 18 45 = 0 → arg.toNat.testBit 63 = false → (coreOf s core.val).thread ≠ some (nfld arg.toNat 0 18) →
      exec (.dbSuspend core arg short env) s = .next (doorDone core
        (complete core.val (suspend (nfld arg.toNat 0 18) (doorStart core short s)).2
          (some (threadOf (doorStart core short s) (nfld arg.toNat 0 18)).st.code) 0
          (suspend (nfld arg.toNat 0 18) (doorStart core short s)).1)))
    ∧ (doorFree core 0x30 env s = true → nfld arg.toNat 18 45 = 0 → arg.toNat.testBit 63 = false →
      (coreOf s core.val).thread ≠ some (nfld arg.toNat 0 18) →
      exec (.dbCancel core arg short env) s = .next (doorDone core
        (complete core.val (cancel (nfld arg.toNat 0 18) (doorStart core short s)).2
          (some (threadOf (doorStart core short s) (nfld arg.toNat 0 18)).st.code) 0
          (cancel (nfld arg.toNat 0 18) (doorStart core short s)).1)))

/-- R210, R212, R214, R216: the waits and signals at a core's doorbell complete. A wait for a pending ready, for flags that match or for a
semaphore that is free is satisfied at once, otherwise the thread waits; a post and a change of flags act on their object. -/
def Obligations.WaitsAndSignalsComplete : Prop :=
  ∀ (core : Fin 16) (arg : BitVec 62) (short : Bool) (env : CoreEnv) (s : State) (t : Nat), (coreOf s core.val).thread = some t →
    (doorFree core 0x10 env s = true → nfld arg.toNat 0 32 = 0 → arg.toNat.testBit 60 = false → (threadOf (doorStart core short s) t).pend = true →
      exec (.waitEventReady core arg short env) s = .next (doorDone core (complete core.val 0x02
        (some (threadOf (doorStart core short s) t).st.code) 0
        (setThread t { threadOf (doorStart core short s) t with pend := false } (doorStart core short s)))))
    ∧ (doorFree core 0x10 env s = true → nfld arg.toNat 0 32 = 0 → arg.toNat.testBit 60 = false → (threadOf (doorStart core short s) t).pend = false →
      exec (.waitEventReady core arg short env) s
        = .next (doorDone core (startWait core.val 1 (nfld arg.toNat 32 16) (kindArg 0 arg) (doorStart core short s))))
    ∧ (doorFree core 0x10 env s = true → nfld arg.toNat 0 32 ≠ 0 → arg.toNat.testBit 60 = false →
      exec (.waitEventFlagsAny core arg short env) s = .next (doorDone core
        (flagsWait core.val (nfld arg.toNat 48 12) (nfld arg.toNat 32 16) (kindArg 1 arg) (doorStart core short s))))
    ∧ (doorFree core 0x10 env s = true → nfld arg.toNat 0 32 ≠ 0 → arg.toNat.testBit 60 = false →
      exec (.waitEventFlagsAll core arg short env) s = .next (doorDone core
        (flagsWait core.val (nfld arg.toNat 48 12) (nfld arg.toNat 32 16) (kindArg 2 arg) (doorStart core short s))))
    ∧ (doorFree core 0x10 env s = true → nfld arg.toNat 0 32 = 0 → arg.toNat.testBit 60 = false →
      exec (.waitEventSem core arg short env) s = .next (doorDone core
        (semTake core.val (nfld arg.toNat 48 12) (nfld arg.toNat 32 16) (kindArg 3 arg) (doorStart core short s))))
    ∧ (doorFree core 0x20 env s = true → nfld arg.toNat 0 48 = 0 → nfld arg.toNat 60 2 = 0 →
      exec (.semPost core arg short env) s = .next (doorDone core
        (complete core.val (semPost (nfld arg.toNat 48 12) (some t) (doorStart core short s)).2 none 0
          (semPost (nfld arg.toNat 48 12) (some t) (doorStart core short s)).1)))
    ∧ (doorFree core 0x20 env s = true → nfld arg.toNat 32 16 = 0 → nfld arg.toNat 60 2 = 0 →
      exec (.flagsSet core arg short env) s = .next (doorDone core (complete core.val 0x00 none 0
        (flagsChange (nfld arg.toNat 48 12) (w32 (nfld arg.toNat 0 32)) 0 (doorStart core short s))))
      ∧ exec (.flagsClear core arg short env) s = .next (doorDone core (complete core.val 0x00 none 0
        (flagsChange (nfld arg.toNat 48 12) 0 (w32 (nfld arg.toNat 0 32)) (doorStart core short s)))))

/-- R192, R193, R204, R221: the thread commands complete: while no command runs and Bobbin works and is open, the command acts on its thread
with BOB_TARG as argument, and its result waits to be published with the thread's state before it. -/
def Obligations.ThreadCommandsComplete : Prop :=
  ∀ (a : Acc) (thread : BitVec 18) (s : State), regFree a 0x20044 s = true → bobRuns s = true → bobClosed s = false →
    bobBusy s = false → a.env.bob = [] →
    (∃ u, exec (.init a thread) s = .next (regDone (bobDone u))
      ∧ u = { (initThread thread.toNat (s.rg64 Reg.BOB_TARG) a.env.ecc s).1 with
        bob := { (initThread thread.toNat (s.rg64 Reg.BOB_TARG) a.env.ecc s).1.bob with
          cmd := some ((initThread thread.toNat (s.rg64 Reg.BOB_TARG) a.env.ecc s).2, (threadOf s thread.toNat).st.code) } })
    ∧ (∃ u, exec (.free a thread) s = .next (regDone (bobDone u))
      ∧ u = { (freeThread thread.toNat s).1 with
        bob := { (freeThread thread.toNat s).1.bob with cmd := some ((freeThread thread.toNat s).2, (threadOf s thread.toNat).st.code) } })
    ∧ (∃ u, exec (.read a thread) s = .next (regDone (bobDone u))
      ∧ u = { (readThread thread.toNat (s.rg64 Reg.BOB_TARG) s).1 with
        bob := { (readThread thread.toNat (s.rg64 Reg.BOB_TARG) s).1.bob with
          cmd := some ((readThread thread.toNat (s.rg64 Reg.BOB_TARG) s).2, (threadOf s thread.toNat).st.code) } })
    ∧ (s.rg64 Reg.BOB_TARG < 256 → (threadOf s thread.toNat).st ≠ .unused →
      ∃ u, exec (.setPrio a thread) s = .next (regDone (bobDone u)) ∧ u.bob.cmd = some (0, (threadOf s thread.toNat).st.code)
        ∧ u.mem = s.mem)
    ∧ (s.rg64 Reg.BOB_TARG ≠ 0 → s.rg64 Reg.BOB_TARG < 65536 → (threadOf s thread.toNat).st ≠ .unused →
      (∀ c < 16, (coreOf s c).chosen ≠ some thread.toNat) →
      ∃ u, exec (.setAffinity a thread) s = .next (regDone (bobDone u)) ∧ u.bob.cmd = some (0, (threadOf s thread.toNat).st.code)
        ∧ (threadOf u thread.toNat).aff = s.rg64 Reg.BOB_TARG)
    ∧ (s.rg64 Reg.BOB_TARG = 0 → (threadOf s thread.toNat).st ≠ .unused →
      ∃ u, exec (.setPin a thread) s = .next (regDone (bobDone u)) ∧ u.bob.cmd = some (0, (threadOf s thread.toNat).st.code)
        ∧ (threadOf u thread.toNat).pinned = false)

/-- R197, R213, R221, R247, R200 to R202, R218, R224, R240: The other commands of Bobbin's register page complete. A command's result is
published with CMD_DONE; a ready and a cancel report in BOB_OP_RESULT; an object is read or written; a binding is stored. Dispatch, the
quantum, timeouts, the event intake and overflow recovery complete. -/
def Obligations.BobbinPageAndDispatchComplete : Prop :=
  (∀ (a : Acc) (s : State),
       (∀ code prior, s.bob.cmd = some (code, prior) →
         exec .threadCmdDone s = .next (irq BOB_PAGE 0
           { ((s.wf Reg.BOB_TRES 0 8 code).wf Reg.BOB_TRES 16 4 prior) with bob := { s.bob with cmd := none } }))
       ∧ (∀ (thread : BitVec 18) resume, regFree a 0x20060 s = true → bobRuns s = true → bobClosed s = false → a.env.bob = [] →
         exec (.bobMakeReady a thread resume) s = .next (regDone (bobDone
           (opResult thread.toNat 1 (deliver thread.toNat resume 0 s).2.2 (deliver thread.toNat resume 0 s).2.1 (deliver thread.toNat resume 0 s).1))))
       ∧ (∀ (thread : BitVec 18), regFree a 0x20064 s = true → bobRuns s = true → bobClosed s = false → a.env.bob = [] →
         exec (.bobCancel a thread) s = .next (regDone (bobDone
           (opResult thread.toNat 2 (threadOf s thread.toNat).st.code (cancel thread.toNat s).2 (cancel thread.toNat s).1))))
       ∧ (∀ (id : BitVec 12), regFree a 0x200A0 s = true → bobRuns s = true → bobClosed s = false → bobBusy s = false → a.env.bob = [] →
         ∃ u, exec (.objRead a false id) s = .next (regDone (bobDone u))
           ∧ u = { s.wrg64 Reg.BOB_OBJ_DATA (semData (semOf s id.toNat)) with bob := { s.bob with cmd := some (0, 0) } })
       ∧ (∀ (id : BitVec 12), regFree a 0x200A0 s = true → bobRuns s = true → bobClosed s = false → bobBusy s = false → a.env.bob = [] →
         (semOf s id.toNat).queue = [] → (semOf s id.toNat).owner = none → ((s.rg64 Reg.BOB_OBJ_DATA).testBit 16 = true → nfld (s.rg64 Reg.BOB_OBJ_DATA) 0 16 ≤ 1) →
         ∃ u, exec (.objWrite a false id) s = .next (regDone (bobDone u)) ∧ u.bob.cmd = some (0, 0)
           ∧ (semOf u id.toNat).count = nfld (s.rg64 Reg.BOB_OBJ_DATA) 0 16
           ∧ (semOf u id.toNat).mutex = (s.rg64 Reg.BOB_OBJ_DATA).testBit 16)
       ∧ (∀ high f, regFree a 0x200CC s = true → bobClosed s = false → a.env.bob = [] → f = fitReady s →
         sourceAssigned (f.rf Reg.BOB_BIND_SEL 0 13) = true → bindOk (high.toNat * 2 ^ 32 + f.bob.bindLow.toNat) = true →
         exec (.bobBind a high) s = .next (regDone { f with bob := { f.bob with
           bindings := sset (fun _ => 0) f.bob.bindings (f.rf Reg.BOB_BIND_SEL 0 13) (w64 (high.toNat * 2 ^ 32 + f.bob.bindLow.toNat))
           bindFor := none } })))
    ∧ (∀ (s : State),
       (∀ (core : Fin 16) t, (coreOf (settle s) core.val).chosen = some t → (threadOf (settle s) t).damaged = false →
         ∃ u, exec (.dispatch core .none) s = .next u ∧ (coreOf u core.val).thread = some t ∧ (coreOf u core.val).chosen = none
           ∧ (threadOf u t).onCore = true ∧ (threadOf u t).lastCore = core.val)
       ∧ (∀ (core : Fin 16) ecc t, (coreOf s core.val).thread = some t → atDispatchPoint s core.val = true → (threadOf s t).st ≠ .running →
         exec (.dispatchPointSwitch core ecc) s = .next (restoreThread core.val ecc (settle (leaveCore core.val s))))
       ∧ (∀ (core : Fin 16) t, (coreOf s core.val).thread = some t → s.rf Reg.BOB_CFG 16 16 ≠ 0 → s.rf Reg.BOB_CFG 8 8 ≤ (threadOf s t).eff →
         (threadOf s t).lastDispatch + s.rf Reg.BOB_CFG 16 16 * 1000 ≤ s.now →
         exec (.quantumExpiry core) s = .next (setCore core.val { coreOf s core.val with quantum := true } s))
       ∧ (∀ (thread : BitVec 18) slot d, bobRuns s = true → (threadOf s thread.toNat).timer = some (slot, d) →
         (threadOf s thread.toNat).st = .waiting → d ≤ s.now →
         exec (.timeoutExpiry thread []) s = .next (bobDone (wake thread.toNat (resWord 0x03 (some 3)
           (if (threadOf s thread.toNat).reason = 2 then (grpOf s (waitObj (threadOf s thread.toNat))).val.toNat else 0) s) 0 s)))
       ∧ (∀ n, bobRuns s = true → bobClosed s = false → s.bob.latches = [n] →
         ∃ u, exec (.eventIntake []) s = .next (bobDone u)
           ∧ u = eventAct (bindingOf s n) { s with bob := { s.bob with latches := [] } })
       ∧ (∀ t l, bobRuns s = true → bobClosed s = false → overflowed s = t :: l → (overflowed s).filter (s.bob.lastRec < ·) = [] →
         64 ≤ freeBlocks s →
         exec (.overflowRecovery []) s = .next (bobDone
           (prefetch t (noteCleared (threadOf s t) (becomeReady t 3 { s with bob := { s.bob with lastRec := t } }).1)))))

/-- R234, R235, R241: spill, refill, the search of the Spool and the rebuilding of a level complete. -/
def Obligations.SpoolComplete : Prop :=
  ∀ (s : State),
    (bobRuns s = true → s.bob.flushing = false → spillMark s ≤ onChip s → exec .spill s = .next (settle (makeRoom s)))
    ∧ (∀ b l, bobRuns s = true → s.bob.flushing = false → s.bob.blocks = b :: l → onChip s ≤ refillMark s → rebuilding s b.level = false →
      s.ram.bad = [] →
      ∃ u, exec .refill s = .next (settle u) ∧ u.rf Reg.SPL_REFILLS 0 32 = satInc (s.rf Reg.SPL_REFILLS 0 32) 32
        ∧ u.bob = { s.bob with
            blocks := l, full := s.bob.full && !(b.num < 32000), missed := []
            chip := (b.entries.filter (current s)).foldl (fun m e => insEntry e m) s.bob.chip })
    ∧ (∀ (core : Fin 16) e, coreFree s core.val = true → dispatchOn s = true → s.bob.blocks.isEmpty = false →
      s.bob.missed.contains core.val = false → s.bob.rebuild = [] → s.ram.bad = [] →
      (∀ x ∈ readyOrder s, x.held = none → (threadOf s x.thread).aff.testBit core.val = false) →
      ((s.bob.blocks.flatMap (·.entries)).take (searchLen s)).find? (fun e => current s e && (threadOf s e.thread).aff.testBit core.val) = some e →
      ∃ u, exec (.spoolSearch core) s = .next (settle (choose core.val e.thread u)) ∧ u.bob = s.bob ∧ u.mem = s.mem)
    ∧ (∀ (block : Fin 32768) b, s.bob.blocks.find? (fun b => b.num == block.val) = some b →
      ∃ u, exec (.spoolEccRebuild block) s = .next u ∧ u.mem = s.mem
        ∧ u.rg Reg.SPL_ERR = w32 (2 ^ 31 + b.level * 2 ^ 16 + block.val))

/-- R250 to R261: the commands of the memories complete. A write that nothing bars stores its bytes and changes no other, a read answers the
bytes of memory; the zero-fill takes its next segment; a refresh keeps what memory holds; DRAM powers down after 1 µs without requests;
the patrol scrub moves to its next word. -/
def Obligations.MemoryCommandsComplete : Prop :=
  ∀ (s : State),
    (∀ (init : Initiator) (addr n : Nat) (value : BitVec 128) ecc, inSram addr = true → memLive s ⟨init, .write, addr, n, value⟩ = true →
      wayFree init 2 addr n s = true →
      ∃ t, exec (.sramAccess init .write addr n value [] ecc) s = .next t ∧ t.ans.rsp = .okay
        ∧ readLe t addr n = value.toNat % 2 ^ (8 * n) ∧ ∀ x, (x < addr ∨ addr + n ≤ x) → readByte t x = readByte s x)
    ∧ (∀ (init : Initiator) (addr n : Nat) (value : BitVec 128), inSram addr = true → memLive s ⟨init, .read, addr, n, value⟩ = true →
      wayFree init 1 addr n s = true → s.ram.bad = [] →
      ∃ t, exec (.sramAccess init .read addr n value [] .none) s = .next t ∧ t.mem = s.mem
        ∧ t.ans = { s.ans with rsp := .okay, data := [w64 (readLe s addr n), w64 (readLe s addr n / 2 ^ 64)], code := 0 })
    ∧ (∀ (init : Initiator) (addr n : Nat) (value : BitVec 128) ecc, zoneOf addr = .dram → memLive s ⟨init, .write, addr, n, value⟩ = true →
      wayFree init 2 addr n s = true →
      ∃ t, exec (.dramAccess init .write addr n value [] ecc) s = .next t ∧ t.ans.rsp = .okay
        ∧ readLe t addr n = value.toNat % 2 ^ (8 * n) ∧ ∀ x, (x < addr ∨ addr + n ≤ x) → readByte t x = readByte s x)
    ∧ (∀ (init : Initiator) (addr n : Nat) (value : BitVec 128) ecc, zoneOf addr = .store → memLive s ⟨init, .write, addr, n, value⟩ = true →
      wayFree init 2 addr n s = true →
      ∃ t, exec (.dramAccess init .write addr n value [] ecc) s = .next t ∧ t.ans.rsp = .okay ∧ t.mem = s.mem)
    ∧ (s.ram.fillOn = true → s.ram.fillNext + 1 < 8192 → s.ram.selfRefresh = false →
      exec .zeroFillSegment s = .next { s with ram := { s.ram with fillNext := s.ram.fillNext + 1, lastReq := some s.now } })
    ∧ exec .dramRefresh s = .next s
    ∧ ([Mode.run, .doze, .safe].contains s.mode = true → s.ram.lastReq.getD 0 + 1000 ≤ s.now → exec .dramPowerDown s = .next { s with ram := { s.ram with down := true } })
    ∧ ([Mode.run, .service, .swap, .hemLoad, .doze, .safe].contains s.mode = true → s.rb Reg.MEM_CFG 0 = true → s.ram.selfRefresh = false → s.ram.bad = [] →
      s.ram.scrubWord + 1 < 0x4000000 → (s.ram.scrubWord ≠ 0 ∨ s.ram.scrubOn = true ∨ s.ram.scrubAge = none ∨ ∃ a, s.ram.scrubAge = some a ∧ scrubPeriod s ≤ a) →
      ∃ t, exec (.patrolScrub .none) s = .next t ∧ t.ram.scrubWord = s.ram.scrubWord + 1 ∧ t.ram.scrubOn = true ∧ t.mem = s.mem)
    ∧ (s.ram.hour < s.now / 3600000000000 → s.flt.hour ≠ hourOf s.now →
      exec .errorHourRollover s = .next { s with
        ram := { s.ram with hour := s.now / 3600000000000, hourCe := 0, hourRaised := false }
        flt := { s.flt with hour := hourOf s.now, ruleCnt := [], boltCnt := [], cluCnt := [] } })

/-- R266, R271, R274, R276, R277, R288, R290: The flash queue, suspends and reads complete. A fetch takes the descriptor at TAIL; RUN and
STOP set and clear the queue's RUN; a read of an idle location answers its bytes. The flash refresher completes: a pass that is due
starts at unit 0, a unit with nothing to correct moves it on, one to correct is copied into a free spare, a finished copy is switched
to, and a hold ends 24 hours after it was set. -/
def Obligations.FlashQueueAndRefreshComplete : Prop :=
  (∀ (a : Acc) (s : State),
       (∀ value, regFree a 0x24054 s = true →
         ∃ u, exec (.dqHeadWrite a value) s = .next (regDone u) ∧ u.rf Reg.FLS_DQ_HEAD 0 12 = fld value 0 12 ∧ u.mem = s.mem)
       ∧ (∀ tail addr, tail = s.rf Reg.FLS_DQ_TAIL 0 12 % 2 ^ ringLog s → addr = s.rg64 Reg.FLS_DQ_BASE + 32 * tail →
         s.rb Reg.FLS_DQ_CTRL 31 = true → s.rf Reg.FLS_DQ_HEAD 0 12 % 2 ^ ringLog s ≠ tail → 
         (∀ d, s.fls.descs.head? = some d → (tail + 2 ^ ringLog s - d.idx) % 2 ^ ringLog s ≤ 16) → s.fls.paused = none →
         s.fls.stopReset = false → [Mode.safe, .nap, .hibernate].contains s.mode = false → inUserMem (s.rg64 Reg.FLS_DQ_BASE) (32 * 2 ^ ringLog s) = true → s.ram.bad = [] →
         1 ≤ readLe s addr 1 → readLe s addr 1 ≤ 10 →
         ∃ u, exec (.dqFetch .none) s = .next u
           ∧ u.fls.descs = s.fls.descs ++ [⟨tail, addr, readLe s addr 1, readLe s (addr + 1) 1, readLe s (addr + 2) 2, readLe s (addr + 4) 4,
               readLe s (addr + 8) 8, false⟩]
           ∧ u.rf Reg.FLS_DQ_TAIL 0 12 = (tail + 1) % 2 ^ ringLog s ∧ u.mem = s.mem)
       ∧ (regFree a 0x2405C s = true → exec (.dqRun a) s = .next (regDone (s.wb Reg.FLS_DQ_CTRL 31 true)))
       ∧ (regFree a 0x2405C s = true → exec (.dqStop a) s = .next (regDone (s.wb Reg.FLS_DQ_CTRL 31 false)))
       ∧ (∀ (banks : BitVec 8), regFree a 0x24064 s = true →
         exec (.flashSuspend a banks) s = .next (regDone ((bitsOf 8 banks.toNat).foldl (fun s b => suspendReq b s) s)))
       ∧ (∀ (banks : BitVec 8), regFree a 0x24064 s = true →
         exec (.flashResume a banks) s = .next (regDone ((bitsOf 8 banks.toNat).foldl (fun s b => resumeBank b s) s)))
       ∧ (∀ (init : Initiator) (addr n : Nat), sends s init = true → addr < 0x04000000 → servedAt s init .flash false true = true →
         wayFree init 1 addr n s = true → flashBusy s addr = false → s.ram.bad = [] →
         exec (.flashRead init addr n .none) s
           = .next (((flashLines addr n (fitFlash (bankAt addr) s)).getD (fitFlash (bankAt addr) s)).answer .okay [w64 (readLe s addr n)])))
    ∧ (∀ (s : State),
       (∀ hot, s.fls.rfLast = none → [Mode.run, .service, .doze, .safe].contains s.mode = true → s.fls.rfOn = false →
         exec (.flashRefreshPass hot) s = .next { noteHot hot s with fls := { s.fls with rfOn := true, rfUnit := 0, rfCount := 0, rfLast := some s.ovl.activeNs } })
       ∧ (s.fls.rfOn = true → opMode s = .run → s.fls.paused = none → s.fls.rfUnit < 1024 → (fbank s (s.fls.rfUnit / 128)).st = 0 →
         s.rb Reg.FLS_REFRESH_HOLD (s.fls.rfUnit / 128) = false →
         (s.fls.rfCopy = none → s.ram.bad = [] → s.fls.weak.contains s.fls.rfUnit = false →
           exec (.flashRefreshSector false .none) s = .next { s.bump with fls := { s.fls with rfUnit := s.fls.rfUnit + 1 } })
         ∧ (∀ p, s.fls.rfCopy = none → s.ram.bad = [] → pickSpare s.bump (s.fls.rfUnit / 128) = some p →
           exec (.flashRefreshSector true .none) s = .next { s.bump with fls := { s.fls with rfCopy := some (s.fls.rfUnit, p) } }.bump)
         ∧ (∀ v p, s.fls.rfCopy = some (v, p) → exec (.flashRefreshSector false .none) s = .next (refreshSwitch v p s)))
       ∧ ((∀ b < 8, s.rb Reg.FLS_REFRESH_HOLD b = true → s.now < sget (fun _ => 0) s.fls.holdAt b + 86400000000000) →
         exec .refreshHoldExpiry s = .next s)
       ∧ (∀ b < 8, s.rb Reg.FLS_REFRESH_HOLD b = true → sget (fun _ => 0) s.fls.holdAt b + 86400000000000 ≤ s.now →
         ∃ u, exec .refreshHoldExpiry s = .next u ∧ u.rb Reg.FLS_REFRESH_HOLD b = false))

/-- R267, R273, R275, R279, R278, R273, R283, R287: The descriptors of a bank complete. In an idle bank, once Fitting has left it (R524), a
PROGRAM and an ERASE that nothing refuses start their operation; checks that find nothing end with DONE; MARK_BAD retires its sector; a
verified page goes into memory. In a cycle in which the queue has no PROGRAM, ERASE or MARK_BAD for a bank, the starts of the other
requesters that have work there are ordered among themselves, and recorded where they are two or more. The descriptors of the option
area and the journal complete. -/
def Obligations.FlashDescriptorsComplete : Prop :=
  (∀ (s f : State) (bank : Fin 8) (env : FlashEnv) (d : Desc), f = fitFlash bank.val s → env.rivals = [] → descFieldsOk d = true →
       d.addr < 0x4000000 →
       (∀ b data, startable s 1 bank.val = some d → (fbank s bank.val).st = 0 → pagesOk d 256 0x10000 = true →
         (protectedIn f d.addr 1).isSome = false → s.fls.unusable.contains (sectorAt d.addr) = false → bufRead f d env = (b, some data) →
         notErased b d.addr data = none →
         exec (.program bank env) s = .next (dropCopy (sectorAt d.addr) 1 (flashInv d.addr (256 * d.count)
           (setFbank bank.val { fbank s bank.val with st := 3, op := some ⟨some d, 1, d.addr, d.count, 0, 0, data⟩ } (markStarted d b)))))
       ∧ (startable s 2 bank.val = some d → (fbank s bank.val).st = 0 → 1 ≤ d.count → d.addr % 0x10000 = 0 →
         sectorAt d.addr % 128 + d.count ≤ 128 → protectedIn f d.addr d.count = none →
         (List.range d.count).find? (fun i => s.fls.unusable.contains (sectorAt d.addr + i)) = none →
         exec (.erase bank env) s = .next (dropCopy (sectorAt d.addr) d.count (flashInv d.addr (0x10000 * d.count)
           (jOpen 1 (sectorAt d.addr) (setFbank bank.val
             { fbank s bank.val with st := 1, op := some ⟨some d, 2, d.addr, d.count, 0, 0, []⟩, auto := false } (markStarted d f))))))
       ∧ (startable s 3 bank.val = some d → (fbank s bank.val).st = 0 → pagesOk d 256 0x10000 = true → f.ram.bad = [] → env.eccAt = none →
         notBlank f d.addr d.count = none →
         exec (.blankCheck bank env) s = .next (descDone d 0x01 0 env.statusOk f))
       ∧ (∀ b data, startable s 4 bank.val = some d → (fbank s bank.val).st = 0 → pagesOk d 256 0x10000 = true →
         env.eccAt = none → bufRead f d env = (b, some data) → b.ram.bad = [] →
         (List.range d.count).find? (fun i => readBytes b (d.addr + 256 * i) 256 != (data.drop (256 * i)).take 256) = none →
         exec (.verify bank env) s = .next (descDone d 0x01 0 env.statusOk b))
       ∧ (startable s 5 bank.val = some d → (fbank s bank.val).st = 0 → d.count = 1 → (protectedIn f d.addr 1).isSome = false →
         exec (.markBad bank env) s = .next (descDone d 0x01 0 env.statusOk (retire (sectorAt d.addr) f)))
       ∧ (∀ o, s.fls.paused = none → (fbank s bank.val).st = 3 → (fbank s bank.val).op = some o → o.pos + 1 < o.count →
         exec (.flashOpComplete ⟨bank.val, by omega⟩ true env.statusOk) s
           = .next (bootGoes (setFbank bank.val { fbank s bank.val with op := some { o with pos := o.pos + 1 } }
               (programWords (o.addr + 256 * o.pos) ((o.data.drop (256 * o.pos)).take 256) s)))))
    ∧ (∀ (s : State) (bank : Fin 8) (env : FlashEnv) (reqs : List Nat), reqs = startRivals s bank.val env.rivals →
       (startable s 1 bank.val = none → exec (.program bank env) s = .next (grantStart bank.val reqs s).1)
       ∧ (startable s 2 bank.val = none → exec (.erase bank env) s = .next (grantStart bank.val reqs s).1)
       ∧ (startable s 5 bank.val = none → exec (.markBad bank env) s = .next (grantStart bank.val reqs s).1)
       ∧ (reqs.length < 2 → (grantStart bank.val reqs s).1 = s)
       ∧ (2 ≤ reqs.length → (grantStart bank.val reqs s).1.fls.base = (s.fls.base + 1) % 4))
    ∧ (∀ (s : State) (env : FlashEnv) (d : Desc), descFieldsOk d = true →
       (startable s 6 8 = some d → s.fls.opt = none → d.count = 1 → d.addr < 0x2000 → optAllowed s = true → optCurrent s d.addr = false →
         ∃ u, u = dropCopy (1024 + d.addr / 0x1000) 1 (markStarted d s) ∧ exec (.optErase env) s
           = .next { u with fls := { u.fls with opt := some ⟨some d, 6, 0x1000 * (d.addr / 0x1000), 1, 0, 0, []⟩ } })
       ∧ (∀ b data, startable s 7 8 = some d → s.fls.opt = none → pagesOk d 16 0x1000 = true → d.addr < 0x2000 → optAllowed s = true →
         optCurrent s d.addr = false → bufRead s d env = (b, some data) → notErased b (0x04000000 + d.addr) data = none →
         ∃ u, u = dropCopy (1024 + d.addr / 0x1000) 1 (markStarted d b) ∧ exec (.optProgram env) s
           = .next { u with fls := { u.fls with opt := some ⟨some d, 7, d.addr, d.count, 0, 0, data⟩ } })
       ∧ (startable s 8 8 = some d → s.fls.opt = none → d.count = 0 → d.addr ≤ 1 → d.addr ≠ bootSlot s →
         exec (.slotBegin env) s = .next (descDone d 0x01 0 env.statusOk (jOpen 2 d.addr s)))
       ∧ (startable s 9 8 = some d → s.fls.opt = none → d.count = 0 → d.addr ≤ 1 → slotState s d.addr = 1 →
         exec (.slotCommit env) s = .next (descDone d 0x01 0 env.statusOk (jClose 2 d.addr s)))
       ∧ (startable s 10 8 = some d → d.count = 0 → d.addr = 0 → exec (.flashFenceDesc env) s = .next (descDone d 0x01 0 env.statusOk s)))

/-- R301 to R303, R306, R307, R304, R309 to R312: Beats at a queue's data port complete. A word that the packet rules admit goes behind the
last one; a pop of a queue in arrival order answers the oldest word and frees its place, a peek leaves it; an empty queue answers 0. The
port commands complete at a queue that has none in progress. MARK and REWIND of a consumer start their handshakes, CLEAR_MARK clears the
mark; FLUSH and FLUSH_FORCE, of either side, are requested, and the consumer's count is 0 from then on. In a synchronous queue the
handshake ends with the command. -/
def Obligations.QueuePortsComplete : Prop :=
  (∀ (init : Initiator) (queue : Fin 64) (beat : BeatEnv) (s : State), beat.ecc = .none →
       (∀ value v x t, beatFree init queue.val 2 0 beat s = true → isProd s queue.val init = true →
         v = seeReads queue.val beat.lag (queWaited init queue.val (fitQueue queue.val s)) → x = queOf v queue.val →
         1 ≤ tagOf value → tagOf value ≤ 4 → nfld value.toNat 48 4 = 0 → packetOk x (queRequester init) (tagOf value) = true →
         queFull v queue.val = false → queResetting v queue.val = false → t = (pushWord queue.val (queRequester init) value v).1 →
         exec (.quePush init queue value beat) s = .next (t.answer .okay) ∧ t.mem = s.mem
         ∧ (queOf t queue.val).wptr = (x.wptr + 1) % (2 * depth v queue.val)
         ∧ sget (fun _ => 0) (queOf t queue.val).ram (x.wptr % depth v queue.val) = value
         ∧ (x.flush = none → (queOf t queue.val).rptr = x.rptr))
       ∧ (∀ v x, beatFree init queue.val 1 256 beat s = true → isCons s queue.val init = true →
         v = consReady queue.val (seeWrites queue.val beat.lag (queWaited init queue.val (fitQueue queue.val s))) →
         x = queOf v queue.val → x.errWord = none →
         (queEmpty v queue.val = true → exec (.quePop init queue beat) s = .next (v.answer .okay [0]))
         ∧ (x.flush = none → sorted v queue.val = false → x.bad = [] → queEmpty v queue.val = false →
           ∃ t, exec (.quePop init queue beat) s = .next (t.answer .okay [sget (fun _ => 0) x.ram (x.rptr % depth v queue.val)])
             ∧ (queOf t queue.val).rptr = (x.rptr + 1) % (2 * depth v queue.val) ∧ (queOf t queue.val).wptr = x.wptr ∧ t.mem = s.mem))
       ∧ (∀ v x, beatFree init queue.val 1 480 beat s = true → isCons s queue.val init = true →
         v = consReady queue.val (seeWrites queue.val beat.lag (queWaited init queue.val s)) → x = queOf v queue.val → x.errWord = none →
         (queEmpty v queue.val = true → exec (.quePeek init queue beat) s = .next (v.answer .okay [0]))
         ∧ (x.flush = none → sorted v queue.val = false → x.bad = [] → queEmpty v queue.val = false →
           exec (.quePeek init queue beat) s = .next (v.answer .okay [sget (fun _ => 0) x.ram (x.rptr % depth v queue.val)]))))
    ∧ (∀ (init : Initiator) (queue : Fin 64) (beat : BeatEnv) (s v : State) (x : Que), beatFree init queue.val 2 482 beat s = true →
       v = queSeen init queue.val beat s → x = queOf v queue.val → x.shake = none → x.flush = none →
       (isCons s queue.val init = true →
         (sorted v queue.val = false → exec (.mark init queue beat) s = .next ((shakeNow queue.val (setQue queue.val
           { x with shake := some ⟨.mark, 0, some (queRequester init), x.rptr, v.now⟩ } v)).answer .okay))
         ∧ (∀ t, sorted v queue.val = false → x.mark.isSome = true ∨ x.markLost = true →
           t = setQue queue.val { x with shake := some ⟨.rewind, 0, some (queRequester init), x.rptr, v.now⟩ } v →
           exec (.rewind init queue beat) s
             = .next ((shakeNow queue.val (if noCrossing v queue.val 0 then arrive queue.val t else t)).answer .okay))
         ∧ exec (.clearMark init queue beat) s = .next ((setQue queue.val { x with mark := none, markLost := false, resC := 1 } v).answer .okay))
       ∧ (∀ t force, t = startFlush queue.val (queSide init queue.val s) (some (queRequester init)) force v →
         (force = false → exec (.flush init queue beat) s = .next (t.answer .okay))
         ∧ (force = true → exec (.flushForce init queue beat) s = .next (t.answer .okay))
         ∧ (x.wSeen < 2 * depth v queue.val → consCount t queue.val = 0) ∧ (oneClock v queue.val = false → (queOf t queue.val).flush.isSome = true)))

/-- R295, R309, R311 to R313, R318: the other commands of the queues complete: a flush point, the end of a handshake, RESET, a configuration
that the rules allow, a view of the write pointer below the threshold and one that reaches it, and a reset by force. -/
def Obligations.QueueControlComplete : Prop :=
  ∀ (queue : Fin 64) (s : State) (x : Que), x = queOf s queue.val →
    (∀ r, queClocked s = true → x.flush = some r → (r.reached = true ∨ maySee s queue.val (pside s queue.val) r.t0 = true) →
      (r.force = true ∨ x.owner = none) → x.shake = none →
      ∃ u, exec (.flushPoint queue) s = .next u ∧ queOf u queue.val =
        { x with flush := some { r with reached := true }, owner := none,
                 shake := some ⟨(if r.force then .force else .flush), r.side, r.who, x.wptr, s.now⟩ })
    ∧ (∀ w p t, queClocked s = true → x.shake = some ⟨.mark, 0, w, p, t⟩ →
      exec (.queueHandshakeDone queue) s = .next (setQue queue.val { x with shake := none, mark := some p, markLost := false, resC := 1 } s))
    ∧ (∀ w p t, queClocked s = true → x.shake = some ⟨.rewound, 0, w, p, t⟩ →
      exec (.queueHandshakeDone queue) s = .next (threshCheck queue.val (setQue queue.val
        { x with shake := none, rptr := p, rSeen := p, rTimes := [], taken := none, resC := 1 } s)))
    ∧ (∀ w p t seen, queClocked s = true → x.shake = some ⟨.flush, 0, w, p, t⟩ →
      seen = (if between (depth s queue.val) x.wptr p < between (depth s queue.val) x.wptr x.wSeen then p else x.wSeen) →
      exec (.queueHandshakeDone queue) s = .next (threshCheck queue.val (setQue queue.val
        { x with shake := none, rptr := p, rSeen := p, wSeen := seen, flush := none, mark := none, markLost := false, taken := none, resC := 1,
                 wTimes := x.wTimes.drop (x.wTimes.length - between (depth s queue.val) x.wptr seen), rTimes := [] } s)))
    ∧ (∀ a, regFree a (Reg.QUE_CMD queue.val) s = true → joined s queue.val = false →
      exec (.queueReset a queue) s = .next (regDone (queClear queue.val (fitQueue queue.val s))))
    ∧ (∀ a value, regFree a (Reg.QUE_CFG queue.val) s = true → joined s queue.val = false → (queCfgWrite queue.val value s).2 = true →
      ∃ u, exec (.queCfgWrite a queue value) s = .next (regDone u)
        ∧ u.rg (Reg.QUE_CFG queue.val) = w32 (value.toNat &&& (if queue.val % 2 = 0 then 0xF8F00000 else 0xB8F00000)))
    ∧ (∀ lag n v, queClocked s = true → n = seenOf s queue.val (cside s queue.val) x.wTimes lag →
      v = setQue queue.val { x with wSeen := (x.wSeen + n) % (2 * depth s queue.val), wTimes := x.wTimes.drop n } s →
      (s.rf (Reg.QUE_THRESH queue.val) 0 15 = 0 → exec (.queueThreshold queue lag) s = .next v)
      ∧ (x.armed = true → 0 < s.rf (Reg.QUE_THRESH queue.val) 0 15 → s.rf (Reg.QUE_THRESH queue.val) 0 15 ≤ consCount v queue.val →
        exec (.queueThreshold queue lag) s = .next (event (0x1000 + queue.val) (irq (quePage queue.val) (queue.val % 16)
          (setQue queue.val { queOf v queue.val with armed := false } v)))))
    ∧ (∀ isRead, queClocked s = true → joined s queue.val = false →
      ∃ u n, exec (.forcedReset queue isRead) s = .next u ∧ n = satInc (s.rf (Reg.QUE_RESETS queue.val) 0 16) 16
        ∧ queOf u queue.val =
          { Que.reset with resP := x.resP, resC := x.resC, shake := some ⟨.reset, 2, none, 0, s.now⟩,
                           errWord := some (w64 (0xE * 2 ^ 60 + b2n isRead * 2 ^ 16 + n)) })

/-- R323, R326 to R328, R331 to R333, R339: the commands of pins and banks complete. An allowed function is switched in; SET and CLR are
taken for the next pad-clock edge; a level held too short only drives the land, one that the detector accepts latches and is the pin's
event; a mismatch and a rail fault are recorded, and RETRY has the rail come good again after a time that is free (log 107). -/
def Obligations.PinCommandsComplete : Prop :=
  ∀ (s : State),
    (∀ a (pin : Fin 480) value, regFree a (0x30100 + pin.val / 40 * 0x1000 + pin.val % 40 * 4) s = true →
      muxAllowed s pin.val (fld value 0 3) (fld value 4 3) true = true →
      exec (.pinMuxWrite a pin value) s = .next (regDone (switchPin pin.val (fld value 0 3) (fld value 4 3) false false s)))
    ∧ (∀ a (bank : Fin 12) high mask, regFree a (0x30050 + bank.val * 0x1000 + 4 * b2n high) s = true →
      exec (.pinOutSet a bank high mask) s = .next (regDone (setBank bank.val
        { bankOf s bank.val with toSet := (bankOf s bank.val).toSet ||| halfBits high mask } s)))
    ∧ (∀ a (bank : Fin 12) high mask, regFree a (0x30058 + bank.val * 0x1000 + 4 * b2n high) s = true →
      exec (.pinOutClr a bank high mask) s = .next (regDone (setBank bank.val
        { bankOf s bank.val with toClr := (bankOf s bank.val).toClr ||| halfBits high mask } s)))
    ∧ (∀ (pin : Fin 480) board edges, wakeMode s ≠ 7 → wakeMode s ≠ 8 → (pinOf s pin.val).run + edges < s.rf (cfgReg pin.val) 16 4 + 1 →
      ∃ u, exec (.pinInputChange pin board edges) s = .next u ∧ (pinOf u pin.val).board = board
        ∧ (pinOf u pin.val).accepted = (pinOf s pin.val).accepted ∧ (latchSets (s.rf (cfgReg pin.val) 20 3) (pinOf s pin.val).accepted
          (pinOf s pin.val).accepted = false → u.regs = s.regs))
    ∧ (∀ (pin : Fin 480) board edges t, wakeMode s ≠ 7 → wakeMode s ≠ 8 →
      t = setPin pin.val { pinOf s pin.val with board := board, keep := padLevel s pin.val } s →
      pinIrqMode s = true → bankLive s (pin.val / 40) = true → masked s pin.val = false → padLevel t pin.val ≠ (pinOf s pin.val).accepted →
      s.rf (cfgReg pin.val) 16 4 + 1 ≤ (pinOf s pin.val).run + edges → 1 ≤ edges → isEnabled s (PIN_PAGE (pin.val / 40)) = true →
      latchSets (s.rf (cfgReg pin.val) 20 3) (pinOf s pin.val).accepted (padLevel t pin.val) = true → pinLatch s pin.val = false →
      (bankOf s (pin.val / 40)).clrNow.testBit (pin.val % 40) = false →
      ∃ w, exec (.pinInputChange pin board edges) s = .next (event (pinSource pin.val) (setLatch pin.val w).1)
        ∧ (pinOf w pin.val).board = board ∧ (pinOf w pin.val).accepted = padLevel t pin.val ∧ w.regs = s.regs)
    ∧ (∀ (pin : Fin 480) x t, t = s.now / 10 * 10 → 40 ≤ t → (pinOf s pin.val).drv.oe = true → x ≠ (pinOf s pin.val).drv.level →
      (pinOf s pin.val).drvAt + 40 < t → (∀ k < 3, maskedAt s (t - 10 * k) pin.val = false) → isEnabled s (PIN_PAGE (pin.val / 40)) = true →
      padSampling s = true →
      ∃ u, exec (.pinMismatch pin x x x) s = .next (irq (PIN_PAGE (pin.val / 40)) 1 u)
        ∧ u.regs = (s.wrg64 (Reg.PIN_MISMATCH (pin.val / 40)) (nset (s.rg64 (Reg.PIN_MISMATCH (pin.val / 40))) (pin.val % 40))).regs)
    ∧ (∀ bank : Fin 12, bankPowered s bank.val = true →
      exec (.bankRailFault bank) s = .next (irq (PIN_PAGE bank.val) 2
        (raise ((0x30 + bank.val) * 256 + 2) (setBank bank.val { bankOf s bank.val with shut := true } s))))
    ∧ (∀ a (bank : Fin 12), regFree a (0x30088 + bank.val * 0x1000) s = true →
      ((bankOf s bank.val).shut = true → exec (.railRetry a bank) s
        = .next (regDone (setBank bank.val { bankOf s bank.val with again := some (s.now + s.freeBelow 1500000) } s).bump))
      ∧ ((bankOf s bank.val).shut = false → exec (.railRetry a bank) s = .next (regDone s)))

/-- R347, R352: The commands of a pleat group complete while the page is enabled. START and START_AT set T0 and wait for it; STOP lets the
frame in progress end, and HALT stops a running or pending group at once, as STOP does one that waits for T0. The commands of the
time-triggered edges complete. Channels whose pins are TTE pins arm together; a cancelled channel no longer fires; a channel whose time
has come drives its pin and disarms. -/
def Obligations.PleatGroupsAndEdgesComplete : Prop :=
  (∀ (a : Acc) (group : Fin 8) (s : State), regFree a (0x3C118 + group.val * 0x40) s = true → isEnabled s PLT_PAGE = true →
       (groupBusy s group.val = false → sampleOk s group.val = true →
         exec (.start a group) s = .next (regDone (setGroup group.val { groupOf s group.val with
           waiting := true, t0 := s.now + 1000, frame := 0, slot := 0, stopping := false
           left := s.rf (Reg.PLT_GCFG group.val) 0 16, raw := [], hist := [], napHalt := false } s)))
       ∧ (groupBusy s group.val = false → sampleOk s group.val = true →
         exec (.startAt a group) s = .next (regDone (setGroup group.val { groupOf s group.val with
           waiting := true
           t0 := if s.rg64 (Reg.PLT_GSTART group.val) < s.now + 1000 then s.now + 1000 else s.rg64 (Reg.PLT_GSTART group.val)
           late := decide (s.rg64 (Reg.PLT_GSTART group.val) < s.now + 1000), frame := 0, slot := 0, stopping := false
           left := s.rf (Reg.PLT_GCFG group.val) 0 16, raw := [], hist := [], napHalt := false } s)))
       ∧ ((groupOf s group.val).running = true →
         exec (.stop a group) s = .next (regDone (setGroup group.val { groupOf s group.val with stopping := true } s)))
       ∧ ((groupOf s group.val).running = false → (groupOf s group.val).waiting = true →
         exec (.stop a group) s = .next (regDone (groupDone group.val s)))
       ∧ (groupBusy s group.val = true → exec (.halt a group) s = .next (regDone (groupDone group.val s))))
    ∧ (∀ (a : Acc) (s : State),
       (∀ mask : BitVec 16, regFree a 0x3C040 s = true → isEnabled s PLT_PAGE = true → (∀ k < 16, mask.getLsbD k = true → pinFunc s (s.rf (Reg.PLT_TTE_CTL k) 0 9) = 4) →
         ∃ u, exec (.pltTteArm a mask) s = .next (regDone u) ∧ ∀ k < 16, mask.getLsbD k = true → u.rb Reg.PLT_TTE_ARM k = true)
       ∧ (∀ mask : BitVec 16, regFree a 0x3C044 s = true →
         ∃ u, exec (.pltTteCancel a mask) s = .next (regDone u) ∧ ∀ k < 16, mask.getLsbD k = true → u.rb Reg.PLT_TTE_ARM k = false)
       ∧ (∀ (channel : Fin 16) t n, sget (fun _ => (0, false)) s.plt.fireAt channel.val = (t, false) →
         n = s.rf (Reg.PLT_TTE_CTL channel.val) 0 9 → (pinOf s n).tteLast = none → s.rb Reg.PLT_TTE_ARM channel.val = true → t ≤ s.now →
         pleatRuns s = true → tteFirst channel.val s = true →
         exec (.tteFire channel) s = .next (irq PLT_PAGE 16 ((tteCancel channel.val (setPin n { pinOf s n with
           tte := tteDrive (s.rf (Reg.PLT_TTE_CTL channel.val) 16 2), tteLast := some (t, channel.val) } s)).wf Reg.PLT_TTE_FIRED channel.val 1 1))))

/-- R344, R346 to R349: what a group does at its times completes: T0 begins the first frame, a slot boundary begins the next slot, the
sample point records the pads of the members that sample, and the end of a frame begins the next one. -/
def Obligations.PleatTimesComplete : Prop :=
  ∀ (group : Fin 8) (s : State) (x : Group), x = groupOf s group.val → pleatRuns s = true →
    (x.waiting = true → x.t0 ≤ s.now →
      exec (.pleatStartTime group) s = .next (frameBegins group.val x.t0 (setGroup group.val
        { x with waiting := false, running := true, frame := 0, slot := 0, raw := [], napHalt := false, sampled := false } s)))
    ∧ (x.running = true → x.slot + 1 < slotsOf s group.val → frameStart s group.val + (x.slot + 1) * periodOf s group.val ≤ s.now →
      ∃ u, exec (.pleatSlotBoundary group) s = .next u ∧ (groupOf u group.val).slot = x.slot + 1 ∧ (groupOf u group.val).sampled = false
        ∧ (groupOf u group.val).running = true)
    ∧ (x.running = true → x.sampled = false → frameStart s group.val + x.slot * periodOf s group.val + sampleOf s group.val ≤ s.now →
      ∃ u, exec (.pleatSample group) s = .next u ∧ ∀ n ∈ groupMembers s group.val,
        nfld (sget (fun _ => 0) s.plt.tables n).toNat (2 * x.slot) 2 = 3 → padLevel s n = true →
        Nat.testBit (sget (fun _ => 0) (groupOf u group.val).raw n) x.slot = true)
    ∧ (x.running = true → x.slot + 1 = slotsOf s group.val → x.stopping = false → x.left ≠ 1 →
      frameStart s group.val + slotsOf s group.val * periodOf s group.val ≤ s.now →
      ∃ u, exec (.pleatFrameEnd group) s = .next u ∧ (groupOf u group.val).running = true ∧ (groupOf u group.val).slot = 0
        ∧ (groupOf u group.val).frame = x.frame + 1 ∧ (groupOf u group.val).raw = [])

/-- R360, R362, R372, R382, R386: PNL_RESET resets the panels that it names, where its panel may reset each of them; PNL_HOLD holds the
panel's resources. The events of the PCIe link complete. -/
def Obligations.PanelsAndLinkEventsComplete : Prop :=
  (∀ (a : Acc) (s : State),
       (∀ panels : BitVec 8, regFree a 0x1044 s = true →
         (∀ p < 8, panels.getLsbD p = true → p = accPanel a s ∨ (accPanel a s = 0 ∧ holds s p = false)) →
         exec (.pnlReset a panels) s = .next (regDone ((bitsOf 8 (w32 panels.toNat).toNat).foldl (fun s p => panelReset p s) s)))
       ∧ (regFree a 0x1040 s = true → ∃ u, exec (.pnlHold a) s = .next (regDone u) ∧ holds u (accPanel a s) = true))
    ∧ (∀ (s : State),
       (∀ fn : Fin 4, s.hst.linkUp = true → hostsWork s = true → exec (.flr fn) s = .next ((irq HST_PAGE 3 (fnReset fn.val s)).answer .okay))
       ∧ exec (.perst false false) s = .next { s with clk := { s.clk with perst := true } }
       ∧ (∃ u, exec (.perst true false) s = .next u ∧ u.hst.linkUp = false ∧ u.hst.held = [])
       ∧ (s.hst.linkUp = true → s.clk.perst = false →
         exec .linkDown s = .next ((irq HST_PAGE 0 { s with hst := { s.hst with
           held := [], linkUp := false, speed := 0, width := 0 } }).incSat Reg.HST_PCIE_CNT 16 16))
       ∧ (∀ (speed : BitVec 4) (width : BitVec 6), s.hst.linkUp = false → hostsWork s = true →
         [1, 2, 3].contains speed.toNat = true → [1, 2, 4].contains width.toNat = true →
         exec (.linkUp speed width) s
           = .next (irq HST_PAGE 0 { s with hst := { s.hst with linkUp := true, speed := speed.toNat, width := width.toNat } }))
       ∧ (∀ (fn : Fin 4) (cause : Fin 32), s.hst.linkUp = true → (cfgWord s fn.val 66).toNat.testBit cause.val = false →
         exec (.aerError fn true cause) s
           = .next (raise 0x4002 (irq HST_PAGE 1 ((aerStatus fn.val 65 cause.val s).incSat Reg.HST_PCIE_AER 16 16))))
       ∧ (∀ (fn : Fin 4) (cause : Fin 32), s.hst.linkUp = true → (cfgWord s fn.val 69).toNat.testBit cause.val = false →
         exec (.aerError fn false cause) s = .next (irq HST_PAGE 2 ((aerStatus fn.val 68 cause.val s).incSat Reg.HST_PCIE_AER 0 16))))

/-- R364 to R368: PCIe requests of a function that is served complete. A BAR0 read answers its register, a BAR0 write writes it; a BAR4
write stores the bytes it enables and no other, a BAR4 read answers memory; a beat of BAR2 acts on its queue; a configuration read
answers its DW, a write changes the bits that exist. -/
def Obligations.PcieRequestsComplete : Prop :=
  ∀ (fn : Fin 4) (s : State), fnFree fn s = true →
    (∀ q w r, q.fn = fn → q.bar = .bar0 → q.rw = .read → q.poisoned = false → q.dws = [(15, w)] → q.off % 4 = 0 → q.off < 0x100000 →
      r = pageGet (.pcie fn) q.off 4 s → r.2.1 = .okay →
      exec (.bar0Access q) s = .next (settled (r.1.answer .okay [w64 r.2.2])))
    ∧ (∀ q w r, q.fn = fn → q.bar = .bar0 → q.rw = .write → q.poisoned = false → q.dws = [(15, w)] → q.off % 4 = 0 → q.off < 0x100000 →
      r = pagePut ⟨.pcie fn, q.others, q.reg.getD 0 .calm⟩ q.off 4 w.toNat s → r.2 = .okay →
      exec (.bar0Access q) s = .next (settled (r.1.answer .okay)))
    ∧ (∀ q be w, q.fn = fn → q.bar = .bar4 → q.rw = .write → q.poisoned = false → q.dws = [(be, w)] → q.also = [] →
      (dramWindow s (panelFor s (.pcie fn))).1 ≤ q.off → q.off + 4 ≤ (dramWindow s (panelFor s (.pcie fn))).2 → q.off + 4 ≤ 0x17000000 →
      ∃ u, exec (.bar4Access q) s = .next (settled u) ∧ u.ans.rsp = .okay
        ∧ (∀ k < 4, be.getLsbD k = true → readByte u (0x89000000 + q.off + k) = BitVec.ofNat 8 (nfld w.toNat (8 * k) 8))
        ∧ (∀ x, (∀ k < 4, be.getLsbD k = true → x ≠ 0x89000000 + q.off + k) → readByte u x = readByte s x))
    ∧ (∀ q, q.fn = fn → q.bar = .bar4 → q.rw = .read → q.dws ≠ [] → q.ecc = .none → s.ram.bad = [] → q.also = [] →
      (dramWindow s (panelFor s (.pcie fn))).1 ≤ q.off → q.off + 4 * q.dws.length ≤ (dramWindow s (panelFor s (.pcie fn))).2 →
      q.off + 4 * q.dws.length ≤ 0x17000000 →
      ∃ u, exec (.bar4Access q) s = .next (settled u) ∧ u.mem = s.mem ∧ u.ans = { s.ans with rsp := .okay, code := 0, data :=
        (chunks 4 q.dws.length (natLe (readLe s (0x89000000 + q.off) (4 * q.dws.length)) (4 * q.dws.length))).map w64 })
    ∧ (∀ q, q.fn = fn → q.bar = .bar2 → exec (.bar0Access q) s = .next (settled (bar2 q s)))
    ∧ (∀ (queue : Fin 64) value beat,
      exec (.quePush (.pcie fn) queue value beat) s = .next (bar2Queue fn queue 0 .write value beat s)
      ∧ exec (.quePop (.pcie fn) queue beat) s = .next (bar2Queue fn queue 256 .read 0 beat s)
      ∧ exec (.quePeek (.pcie fn) queue beat) s = .next (bar2Queue fn queue 480 .read 0 beat s))
    ∧ (∀ (dw : Fin 1024) value,
      exec (.pcieConfigAccess fn dw .read value) s = .next (s.answer .okay [(cfgWord s fn.val dw.val).setWidth 64]))
    ∧ (∀ (dw : Fin 1024) value t, dw.val ≠ 30 →
      t = setFn fn.val { fnOf s fn.val with cfg := sset (cfgReset fn.val s.thm.uid.toNat) (fnOf s fn.val).cfg dw.val (cfgPut s fn.val dw.val value) } s →
      exec (.pcieConfigAccess fn dw .write value) s = .next ((if dw.val = 44 then unmaskScan fn.val t else t).answer .okay)
      ∧ (dw.val ≠ 65 → dw.val ≠ 68 → dw.val ≠ 17 →
        cfgWord t fn.val dw.val = (cfgWord s fn.val dw.val &&& ~~~(cfgMask dw.val)) ||| (value &&& cfgMask dw.val)))

/-- R370, R371: the mailbox and the MSI-X table of a function that is served complete. A frame of 16 to 4096 bytes goes to the session
engine; MBX_OUT_DONE releases the waiting frame; a write of the table takes the bits that exist. -/
def Obligations.MailboxesComplete : Prop :=
  ∀ (fn : Fin 4) (s : State), fnFree fn s = true →
    (∀ bytes len buf, inBusy s fn.val = false → 16 ≤ len → len ≤ 4096 →
      buf = bytes.foldl (fun m (b : Nat × Byte) => if b.1 < 4096 then sset (fun _ => (0 : Byte)) m b.1 b.2 else m) (fnOf s fn.val).mbxIn →
      exec (.mbxInLen fn bytes len) s = .next (hstScan (postFrame fn.val ((List.range len).map (sget (fun _ => 0) buf))
        (setFn fn.val { fnOf s fn.val with mbxIn := buf } s))))
    ∧ (∀ value frame rest, (fnOf s fn.val).out = frame :: rest → bit value 0 = true →
      exec (.mbxOutDone fn value) s = .next ((hstScan (setFn fn.val
        { fnOf (hstScan (setFn fn.val { fnOf s fn.val with out := [] } s)) fn.val with out := rest }
        (hstScan (setFn fn.val { fnOf s fn.val with out := [] } s)))).answer .okay (frame.map (·.setWidth 64))))
    ∧ (∀ (dw : Fin 256) value w, w = (if dw.val % 4 = 3 then value &&& 1 else if dw.val % 4 = 0 then value &&& 0xFFFFFFFC else value) →
      exec (.msixTableWrite fn dw value) s = .next ((unmaskScan fn.val
        (setFn fn.val { fnOf s fn.val with msix := sset msixReset (fnOf s fn.val).msix dw.val w } s)).answer .okay))

/-- R374, R376 to R379, R377 to R379: Quad-SPI requests that are executed complete, each with its response: one register read or written,
one word pushed or popped, a port command, PORT_STATUS, an abort. The frames and the memory requests of a quad-SPI port complete. S_SEND
passes a frame of 16 to 4096 bytes, S_RECV answers the frame that waits; the recovery port writes and reads user memory, and a write
changes no other byte. -/
def Obligations.QuadSpiComplete : Prop :=
  (∀ (q : QspiReq) (s v : State), v = qspiStart q s → hostBarred v (.qspi q.port) = false →
       (∀ addr r, qspiFresh 1 q s = true → q.body = natLe addr 4 ++ [1] → addr % 4 = 0 → addr < 0x100000 →
         r = pageGet (.qspi q.port) addr 4 v → r.2.1 = .okay →
         exec (.qspiRdReg q) s = .next (qspiDone q 0 (natLe 1 1 ++ natLe r.2.2 4) r.1))
       ∧ (∀ addr value r, qspiFresh 2 q s = true → q.body = natLe addr 4 ++ [1] ++ natLe value 4 → value < 2 ^ 32 → addr % 4 = 0 →
         addr < 0x100000 → r = pagePut ⟨.qspi q.port, q.env.others, q.env.reg.getD 0 .calm⟩ addr 4 value v → r.2 = .okay →
         exec (.qspiWrReg q) s = .next (settled (qspiDone q 0 (natLe 1 1) r.1)))
       ∧ (∀ (queue : Fin 64) value r, qspiFresh 3 q s = true → q.body = natLe queue.val 1 ++ natLe 1 2 ++ natLe value 8 → value < 2 ^ 64 →
         r = quePut (.qspi q.port) (panelFor v (.qspi q.port)) queue.val 0 8 value (q.env.beats.getD 0 .calm) v → r.2 = .okay →
         exec (.qPush q) s = .next (settled (qspiDone q 0 (natLe 1 2) r.1)))
       ∧ (∀ (queue : Fin 64) r, qspiFresh 4 q s = true → q.body = natLe queue.val 1 ++ natLe 1 2 →
         popTakes (.qspi q.port) queue.val (q.env.beats.getD 0 .calm).lag v = true →
         r = queGet (.qspi q.port) (panelFor v (.qspi q.port)) queue.val 0x800 8 (q.env.beats.getD 0 .calm) v → r.2.1 = .okay →
         exec (.qPop q) s = .next (qspiDone q 0 (natLe 1 2 ++ natLe r.2.2 8) r.1))
       ∧ (∀ (queue : Fin 64) op r t, qspiFresh 5 q s = true → q.body = natLe queue.val 1 ++ natLe op 1 → 1 ≤ op → op ≤ 5 →
         r = quePut (.qspi q.port) (panelFor v (.qspi q.port)) queue.val 0xF10 8 op (q.env.beats.getD 0 .calm) v → r.2 = .okay →
         t = queGet (.qspi q.port) (panelFor v (.qspi q.port)) queue.val 0xF18 8 (q.env.beats.getD 0 .calm) r.1 →
         exec (.qCmd q) s = .next (qspiDone q 0 (natLe t.2.2 8) t.1))
       ∧ (qspiFresh 8 q s = true → q.body = [] →
         exec (.portStatus q) s = .next (qspiDone q 0 (natLe (portStatusWord v q.port.val) 4) v))
       ∧ (∀ port : Fin 2, qspiOn s port.val = true → exec (.qspiAbort port) s = .next (s.incSat (Reg.HST_QSPI_ERR port.val) 16 8)))
    ∧ (∀ (q : QspiReq) (s v : State), v = qspiStart q s →
       (∀ frame, qspiFresh 6 q s = true → hostBarred v (.qspi q.port) = false → q.body = natLe frame.length 2 ++ frame → 16 ≤ frame.length →
         frame.length ≤ 4096 → inBusy v (q.port.val + 4) = false →
         exec (.sSend q) s = .next (settled (qspiDone q 0 [] (postFrame (q.port.val + 4) frame v))))
       ∧ (∀ frame rest, qspiFresh 7 q s = true → hostBarred v (.qspi q.port) = false → q.body = [] →
         (portOf v q.port.val).out = frame :: rest →
         exec (.sRecv q) s = .next (qspiDone q 0 (natLe frame.length 2 ++ frame) (setPort q.port.val { portOf v q.port.val with out := rest } v)))
       ∧ (∀ addr n l, qspiFresh 9 q s = true → memServed v (.qspi q.port) = true → q.body = natLe addr 4 ++ natLe n 2 ++ l → l.length = 8 * n →
         1 ≤ n → n ≤ 512 → addr % 8 = 0 → inUserMem addr (8 * n) = true →
         ∃ u, exec (.wrMem q) s = .next (qspiDone q 0 (natLe n 2) u) ∧ readBytes u addr (8 * n) = l
           ∧ ∀ x, (x < addr ∨ addr + 8 * n ≤ x) → readByte u x = readByte s x)
       ∧ (∀ addr n, qspiFresh 10 q s = true → memServed v (.qspi q.port) = true → q.body = natLe addr 4 ++ natLe n 2 → 1 ≤ n → n ≤ 512 →
         addr % 8 = 0 → inUserMem addr (8 * n) = true → s.ram.bad = [] → q.env.beats = [] →
         ∃ u, exec (.rdMem q) s = .next (qspiDone q 0 (natLe n 2 ++ readBytes s addr (8 * n)) u) ∧ u.mem = s.mem))

/-- R390, R392, R393, R397, R399, R393, R395, R398, R401: The commands of the PLLs complete. A RELOCK that no rule refuses starts a full
relock with the shadow settings; HOP loads an entry and locks from it; STORE keeps the active settings, CLEAR drops an entry; CLK_UPDATE
holds the shadows for the common restart, the fixed outputs of PLL0 to PLL2 as they run. What happens to a PLL completes: an update is
applied, lock is declared, lock is lost, lock does not come in 2 ms. -/
def Obligations.PllsComplete : Prop :=
  (∀ (a : Acc) (pll : Fin 8) (s : State),
       (regFree a (0x4108 + pll.val * 0x40) s = true → a.env.badLands.getLsbD pll.val = false →
         relockRefusal s pll.val (shadowSet s pll.val) = none →
         ∃ u, exec (.relock a pll) s = .next (regDone u) ∧ (pllOf u pll.val).st = 1 ∧ (pllOf u pll.val).act = shadowSet s pll.val)
       ∧ (∀ (entry : Fin 16) e, regFree a (0x4108 + pll.val * 0x40) s = true → a.env.badLands.getLsbD pll.val = false →
         sget (fun _ => none) ((pllOf s pll.val).entries.map fun x => (x.1, some x.2)) entry.val = some e → ceilsOk s pll.val e.set = true →
         refHere s e.set.ref = true →
         ∃ u, exec (.hop a pll entry) s = .next (regDone u) ∧ (pllOf u pll.val).st = 2 ∧ (pllOf u pll.val).act = e.set
           ∧ (pllOf u pll.val).band = e.band ∧ (pllOf u pll.val).ctrl = (if (pllOf s pll.val).st = 1 ∨ (pllOf s pll.val).st = 2 then (pllOf s pll.val).ctrl else e.ctrl) ∧ (pllOf u pll.val).last = entry.val)
       ∧ (∀ entry : Fin 16, regFree a (0x4108 + pll.val * 0x40) s = true → (pllOf s pll.val).st = 3 →
         exec (.store a pll entry) s = .next (regDone (setPll pll.val { pllOf s pll.val with
           entries := sins entry.val ⟨(pllOf s pll.val).act, (pllOf s pll.val).band, (pllOf s pll.val).ctrl⟩
             (sdel entry.val (pllOf s pll.val).entries) } s)))
       ∧ (∀ entry : Fin 16, regFree a (0x4108 + pll.val * 0x40) s = true →
         exec (.clear a pll entry) s
           = .next (regDone (setPll pll.val { pllOf s pll.val with entries := sdel entry.val (pllOf s pll.val).entries } s)))
       ∧ (∀ plls : BitVec 8, regFree a 0x4040 s = true →
         (∀ n < 8, ∀ y, plls.getLsbD n = true → y = { (pllOf s n).act with ss := (shadowSet s n).ss, outs := updateOuts s n } →
           ((pllOf s n).st = 0 ∨ (rangeOk y = true ∧ ceilsOk s n y = true)) ∧ (n = 1 ∨ n = 2 → nfld (shadowSet s n).ss 13 2 = 0)) →
         ∃ u, exec (.clkUpdate a plls) s = .next (regDone u) ∧ ∀ n < 8, plls.getLsbD n = true → (pllOf u n).upd = some { shadowSet s n with outs := updateOuts s n }))
    ∧ (∀ (pll : Fin 8) (s : State) (p : Pll), p = pllOf s pll.val →
       (∀ x, p.upd = some x → p.st ≠ 1 → p.st ≠ 2 →
         exec (.updateDone pll) s
           = .next (irq CLK_PAGE 3 (setPll pll.val { p with act := { p.act with ss := x.ss, outs := x.outs }, upd := none } s)))
       ∧ ((p.st = 1 ∨ p.st = 2) → refHere s p.act.ref = true → s.mode = .run →
         ∃ u, exec (.pllLock pll) s = .next (settled u) ∧ (pllOf u pll.val).st = 3 ∧ (pllOf u pll.val).slow = 1)
       ∧ (∀ bad t, p.st = 3 → t = irq CLK_PAGE 1 (raise 0x0401 (setPll pll.val { p with st := 4 } s)) → autoRelock t pll.val = false →
         exec (.lockLost pll bad) s = .next t)
       ∧ (∀ t, p.st = 3 → t = irq CLK_PAGE 1 (raise 0x0401 (setPll pll.val { p with st := 4 } s)) → autoRelock t pll.val = true →
         refHere t p.act.ref = true →
         ∃ u, exec (.lockLost pll false) s = .next u ∧ (pllOf u pll.val).st = 2 ∧ (pllOf u pll.val).act = p.act)
       ∧ ((p.st = 1 ∨ p.st = 2) → p.late = false → p.start + 2000000 ≤ s.now →
         exec (.lockTimeout pll) s = .next (raise 0x0406 (setPll pll.val { p with late := true } s))))

/-- R387 to R389, R391, R401: what happens to a reference completes. The PLLs on a lost reference coast; a reference that is back is no
longer lost; XO25 starts the PLLs that are off; without it PLL0 to PLL2 go to RC100; XO32's failure puts Selvage on RC32. -/
def Obligations.ReferencesComplete : Prop :=
  ∀ (s : State),
    (∀ (ref : Fin 3) slips, ∃ u, exec (.refLost ref slips) s = .next u ∧ u.clk.lost = s.clk.lost ||| (1#3 <<< ref.val)
      ∧ ∀ n < 8, (pllOf s n).act.ref = ref.val → 1 ≤ (pllOf s n).st → (pllOf s n).st ≤ 3 → (pllOf u n).st = 4)
    ∧ (∀ (ref : Fin 3) bad, s.clk.lost.getLsbD ref.val = true →
      ∃ u, exec (.refRestored ref bad) s = .next u ∧ u.clk.lost.getLsbD ref.val = false)
    ∧ (s.clk.xoReady = false → clocksOn s = true →
      ∃ u, exec (.xoReady 0) s = .next u ∧ u.clk.xoReady = true ∧ ∀ n < 8, (pllOf s n).st = 0 → (pllOf u n).st = 1)
    ∧ (s.clk.xoReady = false → s.clk.fallback = false → clocksOn s = true →
      ∃ u, exec (.rcFallback 0) s = .next u ∧ u.clk.fallback = true ∧ ∀ n < 3, (pllOf u n).act.ref = 1 ∧ (pllOf u n).st = 1)
    ∧ (s.mode ≠ .off → s.mode ≠ .hold → s.mode ≠ .hibernate → s.clk.rc32 = false →
      exec .xo32Fail s = .next (irq CLK_PAGE 6 (raise 0x0404 { s with clk := { s.clk with rc32 := true } })))

/-- R409, R410, R412, R414, R416, R417: the time base completes. A tick adds the increment to TIM_NOW, an always-on tick adds 1 to TIM_AON;
a read of the low word captures the value for its initiator, a read of the high word answers the capture; a compare value waits for the
next tick. -/
def Obligations.TimeBaseComplete : Prop :=
  ∀ (s : State),
    (∀ n, timeRuns s = true → n = ((s.now * 2 ^ 32 + s.tim.frac : Int) + increment s).toNat →
      ∃ u, exec .tick s = .next (settled (padClockEdge s.now (replayAbandoned (hstScan (fabricRun
          (quesDue (rebuildDue (suspendsDue (restoreDue (basDue (patDue u)))))))))))
        ∧ u.now = n / 2 ^ 32 % 2 ^ 64 ∧ u.tim.frac = n % 2 ^ 32)
    ∧ (s.mode ≠ .off → ∃ u, exec .alwaysOnTick s = .next u ∧ u.rg64 Reg.TIM_AON = (s.rg64 Reg.TIM_AON + 1) % 2 ^ 48)
    ∧ (∀ init : Initiator, sends s init = true → hostBarred s init = false → wayFree init 1 0x60005040 4 s = true →
      heldWord s (panelFor s init) Reg.TIM_NOW = none →
      ∃ u, exec (.timNowRead init false) s = .next u ∧ u = (readNowLow init s).1.answer .okay [w64 (w32 s.now).toNat]
        ∧ readNowHigh init u = w32 (s.now / 2 ^ 32))
    ∧ (∀ init : Initiator, sends s init = true → hostBarred s init = false → wayFree init 1 0x60005044 4 s = true →
      heldWord s (panelFor s init) (Reg.TIM_NOW + 4) = none →
      exec (.timNowRead init true) s = .next (s.answer .okay [w64 (readNowHigh init s).toNat]))
    ∧ (s.tim.steering = true → s.timSource ≠ 2 → s.tim.diff = 0 →
      exec .steerEnd s = .next (irq TIM_PAGE 3 { s with tim := { s.tim with steering := false, adj := 0 } }))
    ∧ (∀ a (channel : Fin 64) value lo, regFree a (0x5104 + channel.val * 0x10) s = true →
      lo = sget (fun _ => s.rg (Reg.TIM_CMP channel.val)) s.tim.cmpLow channel.val →
      exec (.compareWrite a channel value) s = .next (regDone { s with tim := { s.tim with
        cmpLow := sdel channel.val s.tim.cmpLow
        cmpNext := sins channel.val (w64 (lo.toNat + value.toNat * 2 ^ 32)) (sdel channel.val s.tim.cmpNext) } }))
    ∧ (∀ (channel : Fin 64) t, s.tim.cmpWas = [] → s.rb (Reg.TIM_CMP_CTL channel.val) 31 = true → timeRuns s = true →
      s.rg64 (Reg.TIM_CMP channel.val) ≤ s.now → s.rb (Reg.TIM_CMP_CTL channel.val) 29 = false → s.rg (Reg.TIM_CMP_PER channel.val) = 0 →
      t = (event (0x1040 + channel.val) s).wb (Reg.TIM_CMP_HIT (channel.val / 32)) (channel.val % 32) true → t.tim.cmpWas = [] →
      exec (.compareMatch channel) s
        = .next ({ t with tim := { t.tim with cmpWas := [] } }.wb (Reg.TIM_CMP_CTL channel.val) 31 false))

/-- R419, R420, R419, R421, R422: Kicks and warnings complete. A kick restarts an enabled watchdog from its full timeout; the system
watchdog's kick needs its value and its window, any other kick is an expiry; a warning is given once. Expiries complete. A core
watchdog's expiry reports, cancels the thread on its core with ACTION 1; a panel watchdog's resets its panel with ACTION 1; the system
watchdog's asks for a module reset whatever expires with it; the module reset passes through HOLD. -/
def Obligations.WatchdogsComplete : Prop :=
  (∀ (s : State),
       (∀ (core : Fin 16) value env, regFree ⟨.core core, [], env⟩ 0x6040 s = true → wdgEn s core.val = true → wdgDue s core.val = false →
         exec (.wdgCoreKick core value [] env) s = .next (regDone (wdgRestart core.val s)))
       ∧ (∀ a value, regFree a 0x6064 s = true → wdgEn s (16 + accPanel a s) = true → wdgDue s (16 + accPanel a s) = false →
         exec (.wdgPanelKick a value) s = .next (regDone (wdgRestart (16 + accPanel a s) s)))
       ∧ (∀ a, regFree a 0x6048 s = true → wdgCounts s 24 = true → (wdgOf s 24).used < (wdgOf s 24).timeout →
         s.rf Reg.WDG_SYS_CFG 28 3 * (wdgOf s 24).timeout ≤ (wdgOf s 24).used * 8 →
         exec (.wdgSysKick a 0xA55A) s = .next (regDone (wdgRestart 24 s)))
       ∧ (∀ a value, regFree a 0x6048 s = true → wdgCounts s 24 = true → (wdgOf s 24).used < (wdgOf s 24).timeout → value ≠ 0xA55A →
         exec (.wdgSysKick a value) s
           = .next (regDone (askReset 4 0 (raise 0x0604 (setWdg 24 { wdgOf s 24 with stopped := true } s)))))
       ∧ (∀ a (window : BitVec 3) (timeout : BitVec 9), regFree a 0x6044 s = true → wdgEn s 24 = false → 1 ≤ timeout.toNat →
         timeout.toNat ≤ 256 →
         exec (.wdgSysEnable a window timeout) s = .next (regDone (wdgRestart 24
           (s.wrg Reg.WDG_SYS_CFG (w32 (2 ^ 31 + window.toNat * 2 ^ 28 + timeout.toNat))))))
       ∧ (∀ (watchdog : Fin 25), wdgCounts s watchdog.val = true → (wdgOf s watchdog.val).warned = false →
         7 * (wdgOf s watchdog.val).timeout ≤ 8 * (wdgOf s watchdog.val).used →
         exec (.wdgWarn watchdog) s = .next (irq WDG_PAGE (if watchdog.val < 16 then 0 else if watchdog.val < 24 then 2 else 4)
           (setWdg watchdog.val { wdgOf s watchdog.val with warned := true } s))))
    ∧ (∀ (s : State),
       (∀ (core : Fin 16) t, wdgDue s core.val = true → t = wdgReport s core.val → wdgAction t core.val = 0 →
         exec (.coreWdgExpiry core []) s = .next (settled t))
       ∧ (∀ (core : Fin 16) t n, wdgDue s core.val = true → t = wdgReport s core.val → wdgAction t core.val = 1 →
         (coreOf s core.val).thread = some n → exec (.coreWdgExpiry core []) s = .next (settled (settle (cancel n t).1)))
       ∧ (∀ (panel : Fin 8) t, wdgDue s (16 + panel.val) = true → t = wdgReport s (16 + panel.val) → wdgAction t (16 + panel.val) = 0 →
         exec (.panelWdgExpiry panel []) s = .next (settled t))
       ∧ (∀ (panel : Fin 8) t, wdgDue s (16 + panel.val) = true → t = wdgReport s (16 + panel.val) → wdgAction t (16 + panel.val) = 1 →
         exec (.panelWdgExpiry panel []) s = .next (settled (panelReset panel.val t)))
       ∧ (∀ others : List (Fin 25), wdgDue s 24 = true →
         exec (.sysWdgExpiry others) s
           = .next (settled (askReset 2 0 (((24 :: others.map (·.val)).filter (wdgDue s)).foldl wdgReport s))))
       ∧ (∀ cause panel, s.pwr.modReset = some (cause, panel) → exec .moduleReset s = .next (settled (resetPass cause panel s))))

/-- R114, R115, R432, R433, R437, R451, R583, R429, R434, R436, R437, R439, R441, R449: Starts and passes through HOLD complete. VIN brings
a module that is off to HOLD and starts it; a start whose rails fail is repeated three times; RESET_N low passes through HOLD and holds
the module there. Shutdowns complete: the module is in HOLD, with the cause in PWR_LAST_OFF; what Selvage loses leaves it off or at its
reset. -/
def Obligations.StartsAndShutdownsComplete : Prop :=
  (∀ (s : State),
       (∀ env v, s.mode = .off → s.pwr.resetN = false → v = setMode .hold s →
         exec (.powerOnStart env) s
           = .next (settled (startHold env { v with pwr := { v.pwr with vin := true, locked := false, tries := 0 } })))
       ∧ (∀ env, s.mode = .hold → s.pwr.resetN = false → s.pwr.locked = false →
         exec (.powerOnStart env) s = .next (settled (startHold env { s with pwr := { s.pwr with vin := true } })))
       ∧ (∀ rail : Fin 6, s.mode = .hold → s.pwr.locked = false → s.pwr.resetN = false → s.pwr.vin = true → s.pwr.tries < 3 →
         exec (.railStartFail rail) s = .next (settled { s with pwr := { s.pwr with tries := s.pwr.tries + 1 } }))
       ∧ (∀ rail : Fin 6, s.mode = .hold → s.pwr.locked = false → s.pwr.resetN = false → s.pwr.vin = true → 3 ≤ s.pwr.tries →
         exec (.railStartFail rail) s = .next (settled { s.wrg Reg.PWR_LAST_OFF (w32 (rail.val * 256 + 4)) with
           pwr := { s.pwr with locked := true, offDue := true } }))
       ∧ (∀ u, s.mode ≠ .off → s.pwr.resetN = false → u = resetPass 1 0 s → u.mode = .hold ∧
         exec (.resetN true) s = .next (settled { u with pwr := { u.pwr with resetN := true, locked := false, tries := 0 } }))
       ∧ (s.mode = .off → exec (.resetN false) s = .next (settled { s with pwr := { s.pwr with resetN := false } })))
    ∧ (∀ (s : State),
       (s.mode ≠ .off → s.mode ≠ .hibernate → s.pwr.vin = true → s.pwr.locked = false →
         ∃ u, exec .brownOut s = .next (settled u) ∧ u.mode = .hold ∧ u.rf Reg.PWR_LAST_OFF 0 8 = 1 ∧ u.pwr.vin = false)
       ∧ (s.mode = .hibernate → s.pwr.vin = false →
         ∃ u, exec .hibernateBrownOut s = .next (settled u) ∧ u.mode = .hold ∧ u.rf Reg.PWR_LAST_OFF 0 8 = 1)
       ∧ (s.mode ≠ .off → s.mode ≠ .hibernate → s.pwr.locked = false →
         ∃ u, exec .ilimit s = .next (settled u) ∧ u.mode = .hold ∧ u.rf Reg.PWR_LAST_OFF 0 8 = 3)
       ∧ (∀ rail : Fin 6, s.mode ≠ .off → s.mode ≠ .hold → s.mode ≠ .hibernate → s.pwr.railOffs = [] →
         ∃ u, exec (.railOutOfWindow rail) s = .next (settled u) ∧ u.mode = .hold ∧ u.rf Reg.PWR_LAST_OFF 0 8 = 2
           ∧ u.rf Reg.PWR_LAST_OFF 8 8 = rail.val ∧ u.pwr.railOffs = [s.rg64 Reg.TIM_AON])
       ∧ (s.mode = .hibernate →
         ∃ u, exec .aonBrownOut s = .next (settled u) ∧ u.mode = .hold ∧ u.rb Reg.AON_SUPPLY 31 = true ∧ u.pwr.borDue = true)
       ∧ (∃ u, exec .selvagePowerLoss s = .next (settled u) ∧ u.mode = .off ∧ u.regs = [] ∧ u.pwr.vin = false))

/-- R428, R430, R435, R444, R445: the power monitors complete: overvoltage, the hold-up capacitor, the phases of VDD_CORE, the samples, the
budget. -/
def Obligations.PowerMonitorsComplete : Prop :=
  ∀ (s : State),
    (s.mode ≠ .off → s.mode ≠ .hibernate → s.rb pwrStat 28 = false →
      exec .overvolt s = .next (irq PWR_PAGE 2 (s.wb pwrStat 28 true)))
    ∧ (s.mode ≠ .off → s.mode ≠ .hibernate → s.rb pwrStat 29 = false →
      exec (.vholdOk true) s = .next (irq PWR_PAGE 0 (s.wb pwrStat 29 true)))
    ∧ (s.mode ≠ .off → s.mode ≠ .hibernate → exec (.vholdOk false) s = .next (s.wb pwrStat 29 false))
    ∧ (∀ t, s.pwr.charge = some t → (s.rb pwrStat 29 = false → exec (.vholdAbsent true) s = .next (raise 0x0305 s))
      ∧ exec (.vholdAbsent false) s = .next (raise 0x0305 { s with pwr := { s.pwr with charge := none } }))
    ∧ (∀ current, s.mode = .run → s.rb Reg.PWR_CFG 8 = true → phases s < phasesFor current →
      exec (.phaseAdd current) s = .next (setPhases (phasesFor current) s))
    ∧ (∀ current, s.mode = .run → s.rb Reg.PWR_CFG 8 = true → phasesMin s < phases s → phasesFor (current + 200) < phases s →
      exec (.phaseShed current) s = .next (setPhases (phases s - 1) s))
    ∧ (∀ vin vhold iin core limiting, s.mode = .run →
      ∃ u, exec (.powerMonitorSample vin vhold iin core limiting) s = .next u
        ∧ u.rf Reg.PWR_VIN 0 16 = vin % 65536 ∧ u.rf Reg.PWR_VIN 16 16 = vhold % 65536
        ∧ u.rf Reg.PWR_IIN 0 16 = iin % 65536 ∧ u.rf Reg.PWR_CORE 0 13 = core % 8192
        ∧ u.pwr.powers = (vin * iin / 100 :: s.pwr.powers).take 100)
    ∧ (∀ t, s.pwr.overAt = some t → s.rb pwrStat 26 = false → t + 10000000 ≤ s.now →
      exec .overBudget s
        = .next (raise 0x0303 (irq PWR_PAGE 1 ({ s with pwr := { s.pwr with overAt := none } }.wb pwrStat 26 true))))

/-- R453: the requests of AON_MODE_REQ complete. DOZE, NAP and HIBERNATE that no check refuses wait and answer ACCEPTED; RUN cancels a
request that waits; SAFE is entered at once, with fault 0x0203. -/
def Obligations.ModeRequestsComplete : Prop :=
  ∀ (a : Acc) (s : State), regFree a 0x2040 s = true →
    (s.pwr.req = none → s.pwr.entry = none → (s.mode = .run ∨ s.mode = .swap) →
      exec (.modeReqDoze a) s = .next (regDone (modeAnswer 6 1 { s with pwr := { s.pwr with req := some 6 } }))
      ∧ exec (.modeReqNap a) s = .next (regDone (modeAnswer 7 1 { s with pwr := { s.pwr with req := some 7 } })))
    ∧ (s.pwr.req = none → s.pwr.entry = none → (s.mode = .run ∨ s.mode = .swap) → saveValid s = true → hibArmed s = true →
      exec (.modeReqHibernate a) s = .next (regDone (modeAnswer 8 1 { s with pwr := { s.pwr with req := some 8 } })))
    ∧ ((s.mode = .run ∨ s.mode = .service ∨ s.mode = .swap) →
      exec (.modeReqSafe a) s = .next (regDone (modeAnswer 0xA 2 (raiseSafe 0x0203 s))))
    ∧ (∀ target, s.pwr.req = some target →
      exec (.modeReqRun a) s = .next (regDone (modeAnswer 4 3 { s with pwr := { s.pwr with req := none } })))

/-- R454 to R456, R460: the entries complete: in RUN with their request, the cores halted and nothing to wait for, the module is in DOZE,
NAP or HIBERNATE by their steps in order, and the entry is over; DOZE and HIBERNATE leave the wake latch open, NAP and HIBERNATE the
DRAM in self-refresh. -/
def Obligations.SleepEntriesComplete : Prop :=
  ∀ (s u : State), s.mode = .run →
    (s.pwr.req = some 6 → s.pat.outage = none → coresHalted s = true → u = entered .doze (armLatch 6 s) →
      exec .dozeEntry s = .next (settled { u with pwr := { u.pwr with alarms := [(1, 0, u.bob.seq)] } })
      ∧ u.mode = .doze ∧ u.pwr.req = none ∧ u.pwr.latching = true ∧ u.mem = s.mem)
    ∧ (∀ v, s.pwr.req = some 7 → coresHalted s = true → napWaits s = false →
      v = drainCores (cutOperations (flashNap (pleatNap (armLatch 7 s)))) →
      u = entered .nap (setPhases 1 (dllsStop (fun _ => true) (captureNap (timeCapture { v with
        ram := { v.ram with selfRefresh := true }
        pwr := { v.pwr with alarms := cmpAlarms s ++ deadlineAlarms s ++ commitAlarms s ++ tteAlarms s ++ wakeAtAlarms s } })))) →
      exec .napEntry s = .next (settled u) ∧ u.mode = .nap ∧ u.pwr.entry = none ∧ u.ram.selfRefresh = true)
    ∧ (∀ t, s.pwr.req = some 8 → s.pat.outage = none → basteHolds s = false → saveValid s = true → t = hibBegin s → t.mode = .run →
      t.pwr.entry = some 8 → flushReady t = true → u = hibEnd t →
      exec .hibernateEntry s = .next (settled u) ∧ u.mode = .hibernate ∧ u.pwr.entry = none ∧ u.pwr.latching = true
      ∧ u.ram.selfRefresh = true)

/-- R455, R456, R461, R462, R457, R458, R462, R466: The wakes complete, step by step in their order. A latched event, and in DOZE a core's
event that nothing has latched yet, ends DOZE and NAP in RUN; a wake from HIBERNATE loads the plane (without one it fails, as a start
does) and goes on at once where PLL0 to PLL2 are locked, else once they are; a rail that fails is retried, and the fourth failure holds
the module. The wake sources complete: an event of an armed source is latched while the latch is open, any other is ignored; timed
targets are latched when the next always-on edge would be too late, in DOZE 2 µs before AON_WAKE_AT; AON_WAKE_AT reached clears its EN,
with TIMER in RUN. -/
def Obligations.WakesAndSourcesComplete : Prop :=
  (∀ (s : State),
       (s.mode = .doze → s.pwr.latch ≠ [] → exec .dozeWake s = .next (settled (settle (replay (irq AON_PAGE 0 (wakeTo s))))))
       ∧ (∀ core, s.mode = .doze → s.pwr.latch = [] → coreEvent s = some core →
         exec .dozeWake s = .next (settled (settle (replay (irq AON_PAGE 0 (wakeTo (latchWake (1, core) s)))))))
       ∧ (∀ v w, s.mode = .nap → s.pwr.latch ≠ [] → v = setPhases (phasesNow s) s →
         w = queWake (dropNap (wdgWake (flashNapWake (pleatWake (timeRebuild (ovlWake { v with ram := { v.ram with selfRefresh := false } })))))) →
         exec .napWake s = .next (settled (heldGo (settle (replay (irq AON_PAGE 0 ((wakeTo w).incSat Reg.AON_WAKE_CNT 0 16))))))
         ∧ w.ram.selfRefresh = false)
       ∧ (∀ (env : StartEnv) v r w x y, s.mode = .hibernate → s.pwr.latch ≠ [] → s.pwr.wakeHeld = false → s.pwr.vin = true →
         v = lcRead (replayScan (steerBegin (timeRebuild (takeSamples env.readings env.vdd (fltRestart (banksUp env.banks
           (railsGood { s with pwr := { s.pwr with wakeTries := 0 } }))))))) →
         r = (if isRaw v.lcs.st || isLockedTest v.lcs.st then (setMode .load v, true) else loadDecision env.candFails env.hemFails v) →
         w = wdgWake (memWake v.pwr.retained (clocksUp env r.1)) → x = { w with fit := { w.fit with began := w.now } } →
         y = bobRestore env.saveOk (regionsIn x) →
         (r.2 = false → exec (.hibernateWake env) s = .next (settled (replay (bobRestore env.saveOk (startFails x)))))
         ∧ (r.2 = true → coreClocks y = true → exec (.hibernateWake env) s = .next (settled (hibArrive y)))
         ∧ (r.2 = true → coreClocks y = false →
           exec (.hibernateWake env) s = .next (settled { y with pwr := { y.pwr with runDue := some true } })))
       ∧ (∀ rail : Fin 3, s.mode = .hibernate → s.pwr.latch ≠ [] → s.pwr.wakeHeld = false →
         (s.pwr.wakeTries < 3 →
           exec (.hibernateWakeRetry rail) s = .next (settled { s with pwr := { s.pwr with wakeTries := s.pwr.wakeTries + 1 } }))
         ∧ (3 ≤ s.pwr.wakeTries →
           exec (.hibernateWakeRetry rail) s = .next (settled { s.wrg Reg.AON_WAKE_FAIL (w32 (2 ^ 31 + 4 * 2 ^ 8 + rail.val)) with
             pwr := { s.pwr with wakeTries := s.pwr.wakeTries + 1, wakeHeld := true, failDue := true } }))))
    ∧ (∀ (s : State),
       (∀ (code : Fin 16) idx, s.pwr.latching = true → s.pwr.wakeHeld = false → canWake s code.val idx = true →
         exec (.wakeEvent code idx) s = .next (latchWake (code.val, idx) s))
       ∧ (∀ (code : Fin 16) idx, (s.pwr.latching = false ∨ s.pwr.wakeHeld = true ∨ canWake s code.val idx = false) →
         exec (.wakeEvent code idx) s = .next s)
       ∧ (s.mode = .doze → wakeAtOn s = true → s.rg64 Reg.AON_WAKE_AT ≤ s.now + 2000 →
         exec .timedWake s = .next (settled (latchWake (8, 0) s)))
       ∧ ((s.mode = .nap ∨ s.mode = .hibernate) → s.pwr.wakeHeld = false →
         exec .timedWake s = .next (settled ((s.pwr.alarms.filter fun a => decide (a.2.2 < leadOf s.mode.code + sleepNow s)).foldl
           (fun s a => latchWake (a.1, a.2.1) s) s)))
       ∧ (∀ t, wakeAtOn s = true → s.rg64 Reg.AON_WAKE_AT ≤ edgeNow s → t = s.wb Reg.AON_WAKE_AT_CTL 0 false →
         (s.mode = .run → exec .wakeAtReached s = .next (irq AON_PAGE 5 t))
         ∧ (s.mode ≠ .run → exec .wakeAtReached s = .next t) ∧ t.rb Reg.AON_WAKE_AT_CTL 0 = false))

/-- R471: the commands of Thimble complete, each with its result in THM_RESULT: a key slot is programmed from its block or revoked, a device
key is programmed where its block opens, ATTEST writes its signature behind the block. -/
def Obligations.ThimbleCommandsComplete : Prop :=
  ∀ (a : Acc) (s c : State), regFree a 0x48060 s = true → lcOwner s = true → a.env.otpBad = false → c = asymContest a.env.contested s →
    (∀ (slot : Fin 16) m, slot.val ≠ 0 → blockIn (thmArg s) 48 = true → (signOf s slot.val).programmed = false →
      m = unitRead (thmArg s) 48 s → exec (.progSign a slot) s = .next (regDone (irq THM_PAGE 0
        ((setSign slot.val ⟨true, false, BitVec.ofNat 384 (leNat m.2)⟩ m.1).wrg Reg.THM_RESULT 1))))
    ∧ (∀ slot : Fin 16, ((List.range 16).any fun k => k != slot.val && (signOf s k).programmed && !(signOf s k).revoked) = true →
      exec (.revokeSign a slot) s = .next (regDone (irq THM_PAGE 0
        ((setSign slot.val { signOf s slot.val with revoked := true } s).wrg Reg.THM_RESULT 1))))
    ∧ (∀ (slot : Fin 16) m, slot.val < 8 → blockIn (thmArg s) 156 = true → (dkeyOf s slot.val).programmed = false →
      m = unitRead (thmArg s) 156 c → exec (.progDkey a slot) s = .next (regDone (irq THM_PAGE 0 (match unwrapKey m.1 slot.val m.2 with
        | some k => (setDkey slot.val ⟨true, false, k⟩ m.1).wrg Reg.THM_RESULT 1
        | none => m.1.wrg Reg.THM_RESULT 6))))
    ∧ (∀ slot : Fin 16, slot.val < 8 →
      exec (.revokeDkey a slot) s = .next (regDone (irq THM_PAGE 0
        ((setDkey slot.val { dkeyOf s slot.val with revoked := true } s).wrg Reg.THM_RESULT 1))))
    ∧ (∀ m, blockIn (thmArg s) 144 = true → m = unitRead (thmArg s) 48 c →
      exec (.attest a) s = .next (regDone (irq THM_PAGE 0 ((putBytes (thmArg s + 48)
        ((Config.deviceSign (Config.sha384 (ascii "ATTEST" ++ m.2))).take 96) m.1).wrg Reg.THM_RESULT 1))))

/-- R478 to R480: the enrolment commands complete, each with its result in SES_RESULT. WRITE takes a block that its checks admit, and closes
the sessions of a partner whose key changes; DISABLE and ERASE close those of the partner; READ writes the entry to memory. -/
def Obligations.EnrolmentsComplete : Prop :=
  ∀ (a : Acc) (s : State) (entry : Fin 1024) (x : Enrol) (addr : Nat), regFree a 0x41044 s = true → a.env.storeBad = false →
    x = enrolOf s entry.val → addr = s.rg64 Reg.SES_ENROL_ADDR % 2 ^ 40 →
    (∀ m, blockIn addr 128 = true → m = unitRead addr 128 s →
      exec (.enrolWrite a entry) s = .next (regDone (irq SES_PAGE 3 (match enrolParse m.2 with
        | some y => (if x.valid ∧ y.key ≠ x.key then closePartner entry.val (setEnrol entry.val y m.1)
          else setEnrol entry.val y m.1).wrg Reg.SES_RESULT 1
        | none => m.1.wrg Reg.SES_RESULT 2))))
    ∧ (x.valid = true →
      exec (.enrolEnable a entry) s
        = .next (regDone (irq SES_PAGE 3 ((setEnrol entry.val { x with enabled := true } s).wrg Reg.SES_RESULT 1)))
      ∧ exec (.enrolDisable a entry) s = .next (regDone (irq SES_PAGE 3
        ((closePartner entry.val (setEnrol entry.val { x with enabled := false } s)).wrg Reg.SES_RESULT 1)))
      ∧ exec (.enrolErase a entry) s = .next (regDone (irq SES_PAGE 3
        ((closePartner entry.val (setEnrol entry.val { x with valid := false } s)).wrg Reg.SES_RESULT 1))))
    ∧ (x.valid = true → blockIn addr 128 = true →
      exec (.enrolRead a entry) s = .next (regDone (irq SES_PAGE 3 ((putBytes addr (enrolBytes x) s).wrg Reg.SES_RESULT 1))))

/-- R481, R484, R485, R490: the frames of a handshake and its timeouts complete. A HELLO that passes its checks takes the lowest free slot
and is answered; a FINISH opens the session where its signature verifies, and fails the handshake where it does not; an ALERT frees its
slot. -/
def Obligations.HandshakesComplete : Prop :=
  ∀ (s : State),
    (∀ (port : Fin 24) contested l t, takeFrame port.val s = some (l, t) → sesRuns s = true → ftype l = 1 → l.length = 148 →
      blockNum l 2 2 = 148 → blockNum l 4 12 = 0 → blockNum l 18 2 = 0 → helloCheck t l = none →
      exec (.hello port contested) s = .next (helloPasses port.val l (asymContest contested t)))
    ∧ (∀ (port : Fin 24) contested l t c x e y, takeFrame port.val s = some (l, t) → sesRuns s = true → frameOk l = true → ftype l = 3 →
      frameSlotOk t port.val l = true → x = slotOf t (fslot l) → x.st = 1 → l.length = 112 → fseq l = 0 → c = asymContest contested t →
      e = enrolOf c x.partner → y = { x with st := 2, last := c.now } →
      exec (.finish port contested) s = .next
        (if Config.ecdsaVerify e.key (Config.sha384 (digestBytes x.th ++ l.take 16)) ((l.drop 16).take 48) ((l.drop 64).take 48) then
          irq SES_PAGE 0 (sendFrame port.val (sealFrame y (fslot l) 4 0 (natLe e.panel 1 ++ natLe e.rights 2 ++ natLe 4096 2
            ++ natLe (c.rf Reg.SES_CFG 0 16) 2 ++ natLe 0 1)) (setSlot (fslot l) y c))
        else freeSlot (fslot l) (hsFails port.val (fslot l) x.gen 6 (raise 0x4101 c))))
    ∧ (∀ (port : Fin 24) l t, takeFrame port.val s = some (l, t) → sesRuns s = true → frameOk l = true → ftype l = 5 →
      frameSlotOk t port.val l = true → exec (.alert port) s = .next (if (slotOf t (fslot l)).st = 1 then irq SES_PAGE 1 (freeSlot (fslot l) t)
        else match acceptFrame l t with
          | (none, u) => u
          | (some _, u) => irq SES_PAGE 1 (freeSlot (fslot l) u)))
    ∧ (∀ (slot : Fin 1024) x, x = slotOf s slot.val → x.st = 1 → x.last + max 1 (s.rf Reg.SES_CFG 16 8) * 10000000 ≤ s.now →
      exec (.handshakeTimeout slot) s = .next (freeSlot slot.val (hsFails x.port slot.val x.gen 7 s)))
    ∧ (∀ (slot : Fin 1024) x, x = slotOf s slot.val → x.st = 2 → s.rf Reg.SES_CFG 0 16 ≠ 0 →
      x.last + s.rf Reg.SES_CFG 0 16 * 1000000000 ≤ s.now →
      exec (.sessionIdle slot) s = .next (irq SES_PAGE 1 (freeSlot slot.val
        (sendFrame x.port (sealFrame x slot.val 5 (x.seqOut + 1) (natLe 0xA 1)) s))))

/-- R487 to R490: the traffic of an open session completes. A DATA frame is judged and its request executed; SES_TX_CMD sends the buffer's
bytes; SES_RX_FREE frees a receive cell, whose STATE becomes 0; SES_CLOSE closes the session with an ALERT. -/
def Obligations.SessionTrafficComplete : Prop :=
  ∀ (s : State),
    (∀ (port : Fin 24) env storeBad l t, takeFrame port.val s = some (l, t) → sesRuns s = true → frameOk l = true → ftype l = 0x10 →
      frameSlotOk t port.val l = true → (slotOf t (fslot l)).st = 2 →
      exec (.dataFrame port env storeBad) s = .next (settled (match acceptFrame l t with
        | (none, u) => u
        | (some p, u) => sesPlain (fslot l) p env storeBad u)))
    ∧ (∀ a (slot : Fin 1024) (len : BitVec 12) t addr m, regFree a 0x41070 s = true → t = sesDue s → (slotOf t slot.val).st = 2 → 1 ≤ len.toNat →
      len.toNat ≤ 4062 → addr = t.rg64 Reg.SES_TX_ADDR % 2 ^ 40 → inUserMem addr len.toNat = true →
      outBusy t (slotOf t slot.val).port = false → m = unitRead addr len.toNat t →
      exec (.sesTxCmd a slot len) s = .next (regDone (irq SES_PAGE 4
        ((sendData slot.val (natLe 0x20 1 ++ natLe (m.1.freeBelow 256) 1 ++ m.2) m.1.bump).wrg Reg.SES_TX_STATUS 1))))
    ∧ (∀ a (slot : Fin 1024), regFree a 0x41060 s = true → rxValid s = true →
      exec (.sesRxFree a slot false) s = .next (regDone (memStore (cellAddr s slot.val false) 4 0
        (setSlot slot.val { slotOf s slot.val with full0 := false } s)))
      ∧ exec (.sesRxFree a slot true) s = .next (regDone (memStore (cellAddr s slot.val true) 4 0
        (setSlot slot.val { slotOf s slot.val with full1 := false } s))))
    ∧ (∀ a (slot : Fin 1024) x, regFree a 0x41078 s = true → x = slotOf s slot.val → x.st = 2 →
      exec (.sesClose a slot) s = .next (regDone (irq SES_PAGE 1 (freeSlot slot.val
        (sendFrame x.port (sealFrame x slot.val 5 (x.seqOut + 1) (natLe 0xB 1)) s)))))

/-- R501, R505, R510, R514, R516: the commands of LCS_CMD complete, each in its turn among the requests it meets at the life-cycle engine.
Alone, a transition that no check refuses is accepted and runs the steps it is given; PROG_TOKEN stores the token's digest; SERVICE_OPEN
enters SERVICE under a grant, SERVICE_END ends both. -/
def Obligations.LifeCycleCommandsComplete : Prop :=
  ∀ (a : Acc) (s c : State) (turn : Nat → State), regFree a 0x49060 s = true → c = grantExpire s →
    (∀ v, turn v = (lcTurn 0 a.env.meets (fun t => (lcsRun (w32 v) a.env.steps a.env.otpMask a.env.otpBad t, ())) s).1) →
    (∀ target : BitVec 5, exec (.transition a target) s = .next (regDone (turn (1 + 256 * target.toNat))))
    ∧ (∀ token : BitVec 5, exec (.progToken a token) s = .next (regDone (turn (2 + 256 * token.toNat))))
    ∧ exec (.serviceOpen a) s = .next (regDone (turn 3))
    ∧ exec (.serviceEnd a) s = .next (regDone (turn 4))
    ∧ (a.env.meets = [] →
      (∀ target : BitVec 5, lcRefusal c target.toNat (tokenBytes c) = none →
        turn (1 + 256 * target.toNat) = lcDone 1 (lcAccepted target.toNat a.env.steps a.env.otpMask c))
      ∧ (∀ token : BitVec 5, a.env.otpBad = false → (tokenOf c token.toNat).programmed = false →
        ((token.toNat < 8 ∧ c.lcs.st = 0) ∨ (token.toNat = 8 ∧ (c.lcs.st = 0x0F ∨ c.lcs.st = 0x10))) →
        turn (2 + 256 * token.toNat)
          = lcDone 1 (setToken token.toNat ⟨true, (tokenOf c token.toNat).consumed, tokenDigest c (tokenBytes c)⟩ c))
      ∧ (c.lcs.grant = none → isOpenState c.lcs.st = true → c.mode = .run →
        turn 3 = lcDone 1 (startGrant ⟨false, 0, 0x1F, 0, 0, 2 ^ 64 - 1, true⟩ c) ∧ (turn 3).mode = .service
        ∧ (turn 3).lcs.grant.isSome = true)
      ∧ turn 4 = lcDone 1 (closeGrant 2 c)
      ∧ (c.lcs.grant.isSome = true → c.mode = .service → (turn 4).mode = .run ∧ (turn 4).lcs.grant = none))

/-- R513, R515: the JTAG instructions complete, a grant past its end time being over first. One that the life cycle lets answer is selected
and shows its word; SAMPLE/PRELOAD and EXTEST capture the pads and take the bits shifted in; a DMI scan reads or writes a register of
the debug module; a gated one acts as BYPASS and is counted; TRST_N ends a JTAG grant. -/
def Obligations.JtagInstructionsComplete : Prop :=
  ∀ (s g : State) (sel : Nat → State), g = grantExpire s → g.mode ≠ .off → g.mode ≠ .hibernate →
    (∀ code, sel code = { g with lcs := { g.lcs with tap := code } }) →
    exec .idcode s = .next ((sel 0x01).answer .okay [w64 idcode])
    ∧ exec .lcStatus s = .next ((sel 0x10).answer .okay [w64 (lcsStateWord s)])
    ∧ exec .bypass s = .next (sel 0x3F)
    ∧ (∀ bits, jtagOpen g 2 = true →
      exec (.samplePreload bits) s = .next ({ sel 2 with lcs := { (sel 2).lcs with bsr := bits } }.answer .okay
        ((List.range 15).map fun i => w64 (nfld (bscanSample (sel 2)).toNat (64 * i) 64)))
      ∧ exec (.extest bits) s = .next ({ sel 3 with lcs := { (sel 3).lcs with bsr := bits } }.answer .okay
        ((List.range 15).map fun i => w64 (nfld (bscanSample (sel 3)).toNat (64 * i) 64)))
      ∧ exec .clamp s = .next (sel 4) ∧ exec .highz s = .next (sel 5))
    ∧ (jtagOpen g 0x18 = true → exec .dtmcs s = .next ((sel 0x18).answer .okay [0x71]))
    ∧ (∀ (addr : Fin 128) value env, jtagOpen g 0x19 = true →
      exec (.dmi 1 addr value env) s = .next (settled ((sel 0x19).answer .okay [(dmiRead (sel 0x19) addr.val).setWidth 64]))
      ∧ exec (.dmi 2 addr value env) s = .next (settled ((dmiWrite addr.val value env (sel 0x19)).answer .okay [value.setWidth 64])))
    ∧ (jtagOpen g 0x18 = false → exec .dtmcs s = .next ((sel 0x3F).incSat Reg.LCS_JTAG 0 16))
    ∧ (s.lcs.grant = none → exec .trstN s = .next (settled (sel 0x01)))
    ∧ (∀ x, s.lcs.grant = some x → x.jtag = true →
      exec .trstN s = .next (settled (closeGrant 4 { s with lcs := { s.lcs with tap := 0x01 } }))
      ∧ (closeGrant 4 { s with lcs := { s.lcs with tap := 0x01 } }).lcs.grant = none)

/-- R503, R505, R511, R512, R514, R516: life cycle and debug authorisation over JTAG complete, each in its turn among the requests it meets.
Alone, a transition that no check refuses is accepted, a challenge is issued, and a response whose key and signature verify opens the
grant, any other, and one outside RUN or without a challenge, is denied; a challenge ends after 300 s, a grant at its end time. -/
def Obligations.AuthorisationsComplete : Prop :=
  ∀ (s g : State) (sel : Nat → State), g = grantExpire s → (∀ code, sel code = { g with lcs := { g.lcs with tap := code } }) →
    (∀ (target : BitVec 8) token (env : RegEnv), env.meets = [] → g.mode ≠ .off → g.mode ≠ .hibernate → jtagOpen g 0x11 = true →
      lcRefusal (sel 0x11) target.toNat token = none →
      exec (.lcTransition target token env) s
        = .next (settled ((lcAccepted target.toNat env.steps env.otpMask (sel 0x11)).answer .okay [] 1)))
    ∧ (∀ (panel : BitVec 8) (scope minutes : BitVec 16) (keyId : BitVec 8) (c : Challenge) x, g.mode = .run → (g.lcs.st = 0x10 ∨ g.lcs.st = 0x11) →
      g.lcs.challenge = none → g.lcs.grant = none → panel.toNat < 8 → scope.toNat < 32 → 1 ≤ minutes.toNat →
      minutes.toNat ≤ 1440 → 1 ≤ keyId.toNat → keyId.toNat < 16 →
      c = ⟨true, panel.toNat, scope.toNat, minutes.toNat, keyId.toNat, 0, (Config.nonce g.fresh).toNat, g.now⟩ →
      x = { sel 0x12 with lcs := { (sel 0x12).lcs with challenge := some c } } →
      exec (.lcChallenge panel scope minutes keyId []) s
        = .next (settled (x.bump.answer .okay
          ((challengeBytes (sel 0x12) c).map (·.setWidth 64)))))
    ∧ (∀ body storeBad (c : Challenge) y k key t, g.mode = .run → (g.lcs.st = 0x10 ∨ g.lcs.st = 0x11) → g.lcs.challenge = some c → c.jtag = true →
      g.now < c.issued + 300000000000 → body.length = 192 → k = signOf g c.keyId → k.programmed = true → k.revoked = false →
      key = body.take 96 → y = { sel 0x13 with lcs := { (sel 0x13).lcs with challenge := none } } →
      t = g.now + c.minutes * 60000000000 →
      exec (.lcResponse body storeBad []) s = .next (settled
        (if k.digest = Config.sha384 key
            ∧ Config.ecdsaVerify key (Config.sha384 (challengeBytes g c)) ((body.drop 96).take 48) ((body.drop 144).take 48) = true then
          (if storeBad = true then y.answer .okay [] 4
           else (startGrant ⟨true, c.panel, c.scope, c.keyId, 0, t, false⟩ y).answer .okay ((natLe t 8).map (·.setWidth 64)))
        else (irq LCS_PAGE 3 (raise 0x4903 y)).answer .okay [] 0x22)))
    ∧ (∀ body storeBad, g.mode ≠ .off → g.mode ≠ .hibernate → (g.lcs.st = 0x10 ∨ g.lcs.st = 0x11) →
      (g.lcs.challenge = none ∨ g.mode ≠ .run) →
      exec (.lcResponse body storeBad []) s = .next (settled
        ((irq LCS_PAGE 3 (raise 0x4903 { sel 0x13 with lcs := { (sel 0x13).lcs with challenge := none } })).answer .okay [] 0x22)))
    ∧ (∀ (target : BitVec 8) token env (panel : BitVec 8) (scope minutes : BitVec 16) (keyId : BitVec 8) body storeBad meets,
      exec (.lcTransition target token env) s
        = .next (settled (jtagServed 0x11 env.meets (jtagMove target.toNat token env.steps env.otpMask) s))
      ∧ exec (.lcChallenge panel scope minutes keyId meets) s
        = .next (settled (jtagServed 0x12 meets (challengeReq true 0 panel.toNat scope.toNat minutes.toNat keyId.toNat) s))
      ∧ exec (.lcResponse body storeBad meets) s = .next (settled (jtagServed 0x13 meets (challengeResp true 0 body storeBad) s)))
    ∧ (∀ c, s.lcs.challenge = some c → c.issued + 300000000000 ≤ s.now →
      exec .challengeExpiry s = .next { s with lcs := { s.lcs with challenge := none } })
    ∧ (∀ x, s.lcs.grant = some x → x.full = false → x.endTime ≤ s.now →
      exec .grantExpiry s = .next (settled (closeGrant 1 s)) ∧ (closeGrant 1 s).lcs.grant = none)

/-- R522, R527, R529 to R532: Fitting completes. The first slice of the order that the conditions let starts; a slice that passes counts for
its unit, one that fails is repeated at once; a round starts its units afresh; windows open and close; demands join the queue; ABORT_ALL
leaves nothing. -/
def Obligations.FittingComplete : Prop :=
  ∀ (s : State),
    (∀ r, fitOn s = true → (fitOrder s).find? (fun r => fitPower s r.cls && fitSpace s r.cls r.unit) = some r →
      exec .sliceStart s = .next { s with fit := { s.fit with
        running := s.fit.running ++ [r]
        demand := if r.demanded then s.fit.demand.erase (r.cls, r.unit, r.slice) else s.fit.demand
        lastStart := some s.now } })
    ∧ (∀ (cls : Fin 8) (unit : Fin 256) cycles sig differs r t,
      s.fit.running.find? (fun r => r.cls == cls.val && r.unit == unit.val) = some r → r.retry = false → marchMeets r none s = none →
      t = s.wrg64 Reg.FIT_SIG (if (fitClass cls.val).misr then sig.toNat else 0) →
      exec (.sliceDone cls unit cycles sig differs none) s = .next (settled
        (if fitCode cls.val unit.val r.slice cycles sig differs = 1 then
          fitPassed r (fitResult cycles cls.val unit.val r.slice 1 { t with fit := { t.fit with running := t.fit.running.erase r } })
        else
          let v := fitResult cycles cls.val unit.val r.slice (fitCode cls.val unit.val r.slice cycles sig differs) t
          { v with fit := { v.fit with
            running := v.fit.running.map fun x => if x = r then { r with retry := true, start := v.now } else x } })))
    ∧ (fitOn s = true → s.mode ≠ .safe → s.fit.began + max 1 (s.rf Reg.FIT_CFG 0 16) * 60000000000 ≤ s.now →
      ∃ u, exec .roundStart s = .next u ∧ u.fit.began = s.now ∧ u.fit.isDone = false
        ∧ ∀ c n, 1 ≤ c → c ≤ 7 → n < (fitClass c).units → (fitUnit u c n).passed = 0)
    ∧ (s.rb Reg.FIT_WINDOW_LEN 31 = true → s.fit.window = none → s.rg64 Reg.FIT_WINDOW_AT ≤ s.now →
      exec .windowOpen s
        = .next { s with fit := { s.fit with window := some (s.now + s.rf Reg.FIT_WINDOW_LEN 0 24 * 1000) } })
    ∧ (∀ e, s.fit.window = some e → e ≤ s.now →
      exec .windowClose s = .next { s.wb Reg.FIT_WINDOW_LEN 31 false with fit := { s.fit with window := none } })
    ∧ (∀ a (cls : BitVec 4) (unit slice : BitVec 8), regFree a 0x50060 s = true → fitEnabled s cls.toNat = true →
      unit.toNat < (fitClass cls.toNat).units →
      (slice.toNat < (fitClass cls.toNat).slices → exec (.runOne a cls unit slice) s = .next (regDone { s with fit := { s.fit with
        demand := s.fit.demand ++ [(cls.toNat, unit.toNat, slice.toNat)] } }))
      ∧ exec (.runUnit a cls unit) s = .next (regDone { s with fit := { s.fit with
        demand := s.fit.demand ++ (List.range (fitClass cls.toNat).slices).map fun k => (cls.toNat, unit.toNat, k) } }))
    ∧ (∀ a, regFree a 0x50060 s = true →
      ∃ u, exec (.abortAll a) s = .next (regDone u) ∧ u.fit.demand = [] ∧ u.fit.running = [])

/-- R537, R539 to R541, R543, R545: monitors and the fault collector complete. A sample gives each sensor that works its reading before the
rules act on it; a local supply fault isolates its bolt or cluster where the collector may, and enters SAFE where it may not; the
collector logs what waits; FLT_ACK clears ALERT. -/
def Obligations.MonitorsAndFaultsComplete : Prop :=
  ∀ (s : State),
    (∀ readings vdd, monitorsOn s = true →
      ∃ u, exec (.tempSample readings vdd) s = .next (settled ((List.range 16).foldl tempRules u))
        ∧ ∀ n v, n < 16 → readings[n]? = some (v, false) → (sensorOf s n).failed = false → -440 ≤ v.toInt → v.toInt ≤ 1200 →
          u.rf (Reg.MON_TEMP n) 0 16 = v.toNat ∧ (sensorOf u n).sampled = true)
    ∧ (∀ (domain : Fin 12) mv en w, monitorsOn s = true → en = (if domain.val < 8 then boltEn s else clusterEn s) →
      w = (noteVdd domain.val mv s).wb Reg.MON_LOCAL domain.val true →
      exec (.localSupplyFault domain mv) s = .next (settled (if en then
          collect domain.val (irq MON_PAGE 2 (raiseIsolating 0x5103 (isolates w domain.val) w))
        else raiseSafe 0x5203 (irq MON_PAGE 2 (raiseIsolating 0x5103 (isolates w domain.val) w)))))
    ∧ (∀ x t, s.flt.intake = [x] → t = logOne { s with flt := { s.flt with intake := [] } } x → t.flt.lossDue = false →
      exec .faultLog s = .next (settled t))
    ∧ (∀ a, regFree a 0x52044 s = true →
      exec (.fltAck a) s = .next (regDone { s with flt := { s.flt with alert := false } }))
end

