-- ==== Sys2Proof/Laws/Registers.lean ====
section
/-!
SUPPORT. Register writes: a write that is alone in its cycle and that nothing bars comes down to the register's own behaviour.
-/

namespace Sys2Proof.Machine

theorem busOne_own (a : Acc) (off : Nat) (v : Word) (x : State × Rsp) (w : BusWrite) (h : w.init = a.init) :
    busOne a off v x w = regWrite a.init off v a.env x.1 := by
  unfold busOne
  rw [if_pos h]

theorem busMeet_self (s : State) (w : BusWrite) : busMeet s w w = false := by simp [busMeet]

theorem busWinner_one (s : State) (w : BusWrite) : busWinner s [w] = none := by
  simp [busWinner, busMeet_self]

/-- A cycle with one write: that write, and its answer. -/
theorem busCycle_alone (a : Acc) (off : Nat) (v : Word) (s : State) (h : busRivals a s = []) :
    busCycle a off v s = (regWrite a.init off v a.env s).1.answer (regWrite a.init off v a.env s).2 := by
  have hw : ∀ f : BusWrite → Bool, ∀ w, busWinner s ([w].filter f) = none := by
    intro f w
    cases hf : f w <;> simp [hf, busWinner_one]
    rfl
  unfold busCycle
  simp only [h, List.foldl_cons, List.foldl_nil, insBus, hw, List.length_singleton, Nat.le_refl, if_true]
  rw [busOne_own a off v (s, .okay) _ rfl]

/-- An access that goes on at once. -/
theorem onWay_free {i : Initiator} {kind a n : Nat} {s : State} (f : State → State) (h : wayFree i kind a n s = true) :
    onWay i kind a n f s = f s := by
  simp only [wayFree, Bool.and_eq_true, Bool.not_eq_true'] at h
  unfold onWay
  rw [h.1]
  simp only [Bool.false_eq_true, if_false]
  split
  · unfold drainFor
    split
    · have := h.2
      dsimp only at this
      unfold drainAll
      rw [List.isEmpty_iff.mp this]
      rfl
    · rfl
  · rfl

theorem regFree_sends {a : Acc} {off : Nat} {s : State} (h : regFree a off s = true) : sends s a.init = true := by
  simp [regFree] at h; exact h.1.1.1.1.1.1

theorem regFree_way {a : Acc} {off : Nat} {s : State} (h : regFree a off s = true) : wayFree a.init 2 (0x60000000 + off) 4 s = true := by
  simp [regFree] at h; exact h.2

theorem regFree_served {a : Acc} {off : Nat} {s : State} (h : regFree a off s = true) : hostBarred s a.init = false := by
  simp [regFree] at h; exact h.1.1.1.1.1.2

theorem regFree_alone {a : Acc} {off : Nat} {s : State} (h : regFree a off s = true) : busRivals a s = [] := by
  simp [regFree] at h; exact h.1.1.1.1.2

theorem regFree_reaches {a : Acc} {off : Nat} {s : State} (h : regFree a off s = true) : reachesPages a.init = true := by
  simp [regFree] at h; exact h.1.1.1.2

theorem regFree_owner {a : Acc} {off : Nat} {s : State} (h : regFree a off s = true) : ownerLets a.init off s = true := by
  simp [regFree] at h; exact h.1.1.2

theorem regFree_lock {a : Acc} {off : Nat} {s : State} (h : regFree a off s = true) : lockBars s off = false := by
  simp [regFree] at h; exact h.1.2

/-- OKAY is seen by no initiator as an error. -/
theorem writeSeen_okay (i : Initiator) (addr : Nat) (s : State) (h : s.ans.rsp = .okay) : writeSeen i addr s = s := by
  simp [writeSeen, failSeen, h]

/-- A write that nothing bars, of a block register. -/
theorem regWrite_block {a : Acc} {off : Nat} {s : State} (v : Word) (k : Page) (h : regFree a off s = true)
    (hk : pageOf (off / 0x1000) = some k) (ho : ¬ off % 0x1000 < 0x40) :
    regWrite a.init off v a.env s
      = (hstScan (blockReg a.init k off v a.env s).1, (blockReg a.init k off v a.env s).2) := by
  have hl := regFree_lock h
  have hw := regFree_owner h
  simp only [lockBars, hk] at hl
  unfold regWrite
  simp only [hk, hw, regFree_reaches h, if_neg ho]
  simp only [Bool.not_true, Bool.false_eq_true, false_or, if_false]
  split
  · rename_i hc; simp [hc.1, hc.2] at hl
  · rfl

/-- A write that nothing bars, of a header register. -/
theorem regWrite_header {a : Acc} {off : Nat} {s : State} (v : Word) (k : Page) (h : regFree a off s = true)
    (hk : pageOf (off / 0x1000) = some k) (ho : off % 0x1000 < 0x40) :
    regWrite a.init off v a.env s
      = (hstScan (headerWrite k (off / 0x1000) (accPanel a s) (off % 0x1000) v s), .okay) := by
  have hl := regFree_lock h
  have hw := regFree_owner h
  simp only [lockBars, hk] at hl
  unfold regWrite
  simp only [hk, hw, regFree_reaches h, if_pos ho]
  simp only [Bool.not_true, Bool.false_eq_true, false_or, if_false]
  split
  · rename_i hc; simp [hc.1, hc.2] at hl
  · rfl

theorem regCmd_free {a : Acc} {off : Nat} {s : State} (v : Word) (h : regFree a off s = true) (u : State)
    (hu : regWrite a.init off v a.env s = (hstScan u, .okay)) : regCmd a off v s = regDone u := by
  unfold regCmd
  rw [regFree_sends h, regFree_served h]
  simp only [Bool.not_true, Bool.false_eq_true, if_false]
  rw [onWay_free _ (regFree_way h), busCycle_alone a off v s (regFree_alone h), hu]
  rw [writeSeen_okay _ _ _ rfl]
  rfl

/-- A block register whose write acts: the command leaves what its own behaviour left. -/
theorem regCmd_acts {a : Acc} {off : Nat} {s : State} {v : Word} (k : Page) (u : State) (h : regFree a off s = true)
    (hk : pageOf (off / 0x1000) = some k) (ho : ¬ off % 0x1000 < 0x40)
    (hu : blockWrite a.init k (off / 0x1000) (accPanel a s) (off % 0x1000) v a.env s = some (u, .okay)) :
    regCmd a off v s = regDone u := by
  refine regCmd_free v h u ?_
  rw [regWrite_block v k h hk ho]
  unfold blockReg
  simp only [hu]

/-- A header register: the command leaves what the header's behaviour left. -/
theorem regCmd_header {a : Acc} {off : Nat} {s : State} {v : Word} (k : Page) (h : regFree a off s = true)
    (hk : pageOf (off / 0x1000) = some k) (ho : off % 0x1000 < 0x40) :
    regCmd a off v s = regDone (headerWrite k (off / 0x1000) (accPanel a s) (off % 0x1000) v s) :=
  regCmd_free v h _ (regWrite_header v k h hk ho)

end Sys2Proof.Machine
end

