-- ==== Sys2Proof/Laws/Sparse.lean ====
section
/-!
SUPPORT. Sparse maps: what a read answers after a write, and that writing and dropping keys keep the canonical form.
-/

namespace Sys2Proof.Machine

variable {α : Type}

@[simp] theorem sget_nil (d : Nat → α) (k : Nat) : sget d [] k = d k := rfl

theorem sget_sdel_self (d : Nat → α) (m : List (Nat × α)) (k : Nat) : sget d (sdel k m) k = d k := by
  induction m with
  | nil => rfl
  | cons x m ih =>
    obtain ⟨j, v⟩ := x
    by_cases h : j = k <;> simp [sdel, h, ih, sget]

theorem sget_sdel_ne (d : Nat → α) (m : List (Nat × α)) {k l : Nat} (h : l ≠ k) : sget d (sdel k m) l = sget d m l := by
  induction m with
  | nil => rfl
  | cons x m ih =>
    obtain ⟨j, v⟩ := x
    by_cases hj : j = k
    · subst hj; simp [sdel, sget, ih, Ne.symm h]
    · simp [sdel, hj, sget, ih]

theorem sget_sins_self (d : Nat → α) (m : List (Nat × α)) (k : Nat) (v : α) (h : ∀ x ∈ m, x.1 ≠ k) :
    sget d (sins k v m) k = v := by
  induction m with
  | nil => simp [sins, sget]
  | cons x m ih =>
    obtain ⟨j, u⟩ := x
    have hj : j ≠ k := h _ (List.mem_cons_self)
    by_cases hk : k < j
    · simp [sins, hk, sget]
    · simp [sins, hk, sget, hj, ih fun y hy => h y (List.mem_cons_of_mem _ hy)]

theorem sget_sins_ne (d : Nat → α) (m : List (Nat × α)) {k l : Nat} (v : α) (h : l ≠ k) : sget d (sins k v m) l = sget d m l := by
  induction m with
  | nil => simp [sins, sget, Ne.symm h]
  | cons x m ih =>
    obtain ⟨j, u⟩ := x
    by_cases hk : k < j
    · simp [sins, hk, sget, Ne.symm h]
    · simp [sins, hk, sget, ih]

theorem sdel_mem {m : List (Nat × α)} {k : Nat} {x : Nat × α} (h : x ∈ sdel k m) : x.1 ≠ k ∧ x ∈ m := by
  induction m with
  | nil => cases h
  | cons y m ih =>
    obtain ⟨j, v⟩ := y
    by_cases hj : j = k
    · simp [sdel, hj] at h
      exact ⟨(ih h).1, List.mem_cons_of_mem _ (ih h).2⟩
    · simp [sdel, hj] at h
      rcases h with rfl | h
      · exact ⟨hj, List.mem_cons_self⟩
      · exact ⟨(ih h).1, List.mem_cons_of_mem _ (ih h).2⟩

/-- Reading the key that was written. -/
@[simp] theorem sget_sset_self [DecidableEq α] (d : Nat → α) (m : List (Nat × α)) (k : Nat) (v : α) : sget d (sset d m k v) k = v := by
  unfold sset
  split
  · rename_i h; rw [sget_sdel_self, h]
  · exact sget_sins_self d _ k v fun x hx => (sdel_mem hx).1

/-- Reading another key. -/
theorem sget_sset_ne [DecidableEq α] (d : Nat → α) (m : List (Nat × α)) {k l : Nat} (v : α) (h : l ≠ k) :
    sget d (sset d m k v) l = sget d m l := by
  unfold sset
  split
  · exact sget_sdel_ne d m h
  · rw [sget_sins_ne d _ v h, sget_sdel_ne d m h]

/-! ### The canonical form -/

theorem swfFrom_cons [DecidableEq α] (d : Nat → α) (lo : Option Nat) (k : Nat) (v : α) (m : List (Nat × α)) :
    swfFrom d lo ((k, v) :: m) = true ↔ (∀ b, lo = some b → b < k) ∧ v ≠ d k ∧ swfFrom d (some k) m = true := by
  cases lo <;> simp [swfFrom, and_assoc]

theorem swfFrom_weaken [DecidableEq α] (d : Nat → α) {lo lo' : Option Nat} {m : List (Nat × α)}
    (h : swfFrom d lo m = true) (hl : ∀ b', lo' = some b' → ∃ b, lo = some b ∧ b' ≤ b) : swfFrom d lo' m = true := by
  cases m with
  | nil => rfl
  | cons x m =>
    obtain ⟨k, v⟩ := x
    rw [swfFrom_cons] at h ⊢
    refine ⟨fun b' hb' => ?_, h.2⟩
    obtain ⟨b, hb, hle⟩ := hl b' hb'
    exact Nat.lt_of_le_of_lt hle (h.1 b hb)

theorem swfFrom_drop_key [DecidableEq α] (d : Nat → α) {lo : Option Nat} {k : Nat} {m : List (Nat × α)}
    (h : swfFrom d (some k) m = true) (hl : ∀ b, lo = some b → b < k) : swfFrom d lo m = true :=
  swfFrom_weaken d h fun b hb => ⟨k, rfl, Nat.le_of_lt (hl b hb)⟩

theorem swfFrom_filter [DecidableEq α] (d : Nat → α) (p : Nat × α → Bool) (m : List (Nat × α)) :
    ∀ lo, swfFrom d lo m = true → swfFrom d lo (m.filter p) = true := by
  induction m with
  | nil => intro lo _; rfl
  | cons x m ih =>
    obtain ⟨k, v⟩ := x
    intro lo h
    rw [swfFrom_cons] at h
    by_cases hp : p (k, v) = true
    · rw [List.filter_cons_of_pos hp, swfFrom_cons]
      exact ⟨h.1, h.2.1, ih _ h.2.2⟩
    · rw [List.filter_cons_of_neg hp]
      exact ih _ (swfFrom_drop_key d h.2.2 h.1)

theorem swfFrom_sdel [DecidableEq α] (d : Nat → α) (k : Nat) (m : List (Nat × α)) :
    ∀ lo, swfFrom d lo m = true → swfFrom d lo (sdel k m) = true := by
  induction m with
  | nil => intro lo _; rfl
  | cons x m ih =>
    obtain ⟨j, v⟩ := x
    intro lo h
    rw [swfFrom_cons] at h
    by_cases hj : j = k
    · simp only [sdel, hj, if_true]
      exact ih _ (swfFrom_drop_key d h.2.2 h.1)
    · simp only [sdel, hj, if_false]
      rw [swfFrom_cons]
      exact ⟨h.1, h.2.1, ih _ h.2.2⟩

theorem swfFrom_sins [DecidableEq α] (d : Nat → α) (k : Nat) (v : α) (hv : v ≠ d k) (m : List (Nat × α)) :
    ∀ lo, swfFrom d lo m = true → (∀ b, lo = some b → b < k) → (∀ x ∈ m, x.1 ≠ k) → swfFrom d lo (sins k v m) = true := by
  induction m with
  | nil =>
    intro lo _ hl _
    simp only [sins]
    rw [swfFrom_cons]
    exact ⟨hl, hv, rfl⟩
  | cons x m ih =>
    obtain ⟨j, u⟩ := x
    intro lo h hl hk
    by_cases hj : k < j
    · simp only [sins, hj, if_true]
      rw [swfFrom_cons]
      rw [swfFrom_cons] at h ⊢
      exact ⟨hl, hv, fun b hb => by cases hb; exact hj, h.2⟩
    · have hne : j ≠ k := hk _ List.mem_cons_self
      simp only [sins, hj, if_false]
      rw [swfFrom_cons] at h ⊢
      refine ⟨h.1, h.2.1, ih _ h.2.2 ?_ fun x hx => hk x (List.mem_cons_of_mem _ hx)⟩
      intro b hb
      cases hb
      omega

/-- Writing a key keeps the canonical form. -/
theorem swf_sset [DecidableEq α] (d : Nat → α) (m : List (Nat × α)) (k : Nat) (v : α) (h : swf d m = true) : swf d (sset d m k v) = true := by
  unfold swf sset at *
  split
  · exact swfFrom_sdel d k m _ h
  · rename_i hv
    exact swfFrom_sins d k v hv _ _ (swfFrom_sdel d k m _ h) (fun b hb => by cases hb) fun x hx => (sdel_mem hx).1

/-- Dropping keys keeps the canonical form. -/
theorem swf_sdrop [DecidableEq α] (d : Nat → α) (p : Nat → Bool) (m : List (Nat × α)) (h : swf d m = true) : swf d (sdrop p m) = true :=
  swfFrom_filter d _ m _ h

end Sys2Proof.Machine
end

