-- ==== Sys2Proof/Laws/State.lean ====
section
/-!
SUPPORT. The updates of the state: each leaves every other field as it is, and the one it writes reads back. A frame is one conjunction,
which simp takes as one rewriting rule for each field, so that no proof unfolds a record update.
-/

namespace Sys2Proof.Machine

/-! ### What an update leaves as it is -/

/-- A register written: the fields that stay. -/
@[simp] theorem State.wrg_frame (s : State) (k : Nat) (v : Word) :
    (s.wrg k v).mode = s.mode ∧ (s.wrg k v).prevMode = s.prevMode ∧ (s.wrg k v).shadow = s.shadow ∧ (s.wrg k v).mem = s.mem
    ∧ (s.wrg k v).ans = s.ans ∧ (s.wrg k v).fresh = s.fresh ∧ (s.wrg k v).seam = s.seam ∧ (s.wrg k v).fab = s.fab
    ∧ (s.wrg k v).pat = s.pat ∧ (s.wrg k v).flt = s.flt ∧ (s.wrg k v).sensors = s.sensors ∧ (s.wrg k v).thm = s.thm
    ∧ (s.wrg k v).ovl = s.ovl ∧ (s.wrg k v).pins = s.pins ∧ (s.wrg k v).banks = s.banks ∧ (s.wrg k v).plt = s.plt
    ∧ (s.wrg k v).optRec = s.optRec ∧ (s.wrg k v).lcs = s.lcs ∧ (s.wrg k v).cores = s.cores ∧ (s.wrg k v).bob = s.bob
    ∧ (s.wrg k v).ram = s.ram ∧ (s.wrg k v).fls = s.fls ∧ (s.wrg k v).ques = s.ques ∧ (s.wrg k v).clk = s.clk ∧ (s.wrg k v).tim = s.tim
    ∧ (s.wrg k v).pwr = s.pwr ∧ (s.wrg k v).hst = s.hst ∧ (s.wrg k v).ses = s.ses ∧ (s.wrg k v).dm = s.dm ∧ (s.wrg k v).fit = s.fit
    ∧ (s.wrg k v).strapPort = s.strapPort ∧ (s.wrg k v).pending = s.pending := by
  and_intros <;> rfl

/-- A field written: the fields that stay. -/
@[simp] theorem State.wf_frame (s : State) (k lo len n : Nat) :
    (s.wf k lo len n).mode = s.mode ∧ (s.wf k lo len n).prevMode = s.prevMode ∧ (s.wf k lo len n).shadow = s.shadow
    ∧ (s.wf k lo len n).mem = s.mem ∧ (s.wf k lo len n).ans = s.ans ∧ (s.wf k lo len n).fresh = s.fresh ∧ (s.wf k lo len n).seam = s.seam
    ∧ (s.wf k lo len n).fab = s.fab ∧ (s.wf k lo len n).pat = s.pat ∧ (s.wf k lo len n).flt = s.flt
    ∧ (s.wf k lo len n).sensors = s.sensors ∧ (s.wf k lo len n).thm = s.thm ∧ (s.wf k lo len n).ovl = s.ovl
    ∧ (s.wf k lo len n).pins = s.pins ∧ (s.wf k lo len n).banks = s.banks ∧ (s.wf k lo len n).plt = s.plt
    ∧ (s.wf k lo len n).optRec = s.optRec ∧ (s.wf k lo len n).lcs = s.lcs ∧ (s.wf k lo len n).cores = s.cores
    ∧ (s.wf k lo len n).bob = s.bob ∧ (s.wf k lo len n).ram = s.ram ∧ (s.wf k lo len n).fls = s.fls ∧ (s.wf k lo len n).ques = s.ques
    ∧ (s.wf k lo len n).clk = s.clk ∧ (s.wf k lo len n).tim = s.tim ∧ (s.wf k lo len n).pwr = s.pwr ∧ (s.wf k lo len n).hst = s.hst
    ∧ (s.wf k lo len n).ses = s.ses ∧ (s.wf k lo len n).dm = s.dm ∧ (s.wf k lo len n).fit = s.fit
    ∧ (s.wf k lo len n).strapPort = s.strapPort ∧ (s.wf k lo len n).pending = s.pending := by
  and_intros <;> rfl

/-- A bit written: the fields that stay. -/
@[simp] theorem State.wb_frame (s : State) (k i : Nat) (b : Bool) :
    (s.wb k i b).mode = s.mode ∧ (s.wb k i b).prevMode = s.prevMode ∧ (s.wb k i b).shadow = s.shadow ∧ (s.wb k i b).mem = s.mem
    ∧ (s.wb k i b).ans = s.ans ∧ (s.wb k i b).fresh = s.fresh ∧ (s.wb k i b).seam = s.seam ∧ (s.wb k i b).fab = s.fab
    ∧ (s.wb k i b).pat = s.pat ∧ (s.wb k i b).flt = s.flt ∧ (s.wb k i b).sensors = s.sensors ∧ (s.wb k i b).thm = s.thm
    ∧ (s.wb k i b).ovl = s.ovl ∧ (s.wb k i b).pins = s.pins ∧ (s.wb k i b).banks = s.banks ∧ (s.wb k i b).plt = s.plt
    ∧ (s.wb k i b).optRec = s.optRec ∧ (s.wb k i b).lcs = s.lcs ∧ (s.wb k i b).cores = s.cores ∧ (s.wb k i b).bob = s.bob
    ∧ (s.wb k i b).ram = s.ram ∧ (s.wb k i b).fls = s.fls ∧ (s.wb k i b).ques = s.ques ∧ (s.wb k i b).clk = s.clk
    ∧ (s.wb k i b).tim = s.tim ∧ (s.wb k i b).pwr = s.pwr ∧ (s.wb k i b).hst = s.hst ∧ (s.wb k i b).ses = s.ses ∧ (s.wb k i b).dm = s.dm
    ∧ (s.wb k i b).fit = s.fit ∧ (s.wb k i b).strapPort = s.strapPort ∧ (s.wb k i b).pending = s.pending := by
  and_intros <;> rfl

/-- A 64-bit quantity written: the fields that stay. -/
@[simp] theorem State.wrg64_frame (s : State) (k n : Nat) :
    (s.wrg64 k n).mode = s.mode ∧ (s.wrg64 k n).prevMode = s.prevMode ∧ (s.wrg64 k n).shadow = s.shadow ∧ (s.wrg64 k n).mem = s.mem
    ∧ (s.wrg64 k n).ans = s.ans ∧ (s.wrg64 k n).fresh = s.fresh ∧ (s.wrg64 k n).seam = s.seam ∧ (s.wrg64 k n).fab = s.fab
    ∧ (s.wrg64 k n).pat = s.pat ∧ (s.wrg64 k n).flt = s.flt ∧ (s.wrg64 k n).sensors = s.sensors ∧ (s.wrg64 k n).thm = s.thm
    ∧ (s.wrg64 k n).ovl = s.ovl ∧ (s.wrg64 k n).pins = s.pins ∧ (s.wrg64 k n).banks = s.banks ∧ (s.wrg64 k n).plt = s.plt
    ∧ (s.wrg64 k n).optRec = s.optRec ∧ (s.wrg64 k n).lcs = s.lcs ∧ (s.wrg64 k n).cores = s.cores ∧ (s.wrg64 k n).bob = s.bob
    ∧ (s.wrg64 k n).ram = s.ram ∧ (s.wrg64 k n).fls = s.fls ∧ (s.wrg64 k n).ques = s.ques ∧ (s.wrg64 k n).clk = s.clk
    ∧ (s.wrg64 k n).tim = s.tim ∧ (s.wrg64 k n).pwr = s.pwr ∧ (s.wrg64 k n).hst = s.hst ∧ (s.wrg64 k n).ses = s.ses
    ∧ (s.wrg64 k n).dm = s.dm ∧ (s.wrg64 k n).fit = s.fit ∧ (s.wrg64 k n).strapPort = s.strapPort ∧ (s.wrg64 k n).pending = s.pending := by
  and_intros <;> rfl

/-- A counter that saturates: the fields that stay. -/
@[simp] theorem State.incSat_frame (s : State) (k lo len : Nat) :
    (s.incSat k lo len).mode = s.mode ∧ (s.incSat k lo len).prevMode = s.prevMode ∧ (s.incSat k lo len).shadow = s.shadow
    ∧ (s.incSat k lo len).mem = s.mem ∧ (s.incSat k lo len).ans = s.ans ∧ (s.incSat k lo len).fresh = s.fresh
    ∧ (s.incSat k lo len).seam = s.seam ∧ (s.incSat k lo len).fab = s.fab ∧ (s.incSat k lo len).pat = s.pat
    ∧ (s.incSat k lo len).flt = s.flt ∧ (s.incSat k lo len).sensors = s.sensors ∧ (s.incSat k lo len).thm = s.thm
    ∧ (s.incSat k lo len).ovl = s.ovl ∧ (s.incSat k lo len).pins = s.pins ∧ (s.incSat k lo len).banks = s.banks
    ∧ (s.incSat k lo len).plt = s.plt ∧ (s.incSat k lo len).optRec = s.optRec ∧ (s.incSat k lo len).lcs = s.lcs
    ∧ (s.incSat k lo len).cores = s.cores ∧ (s.incSat k lo len).bob = s.bob ∧ (s.incSat k lo len).ram = s.ram
    ∧ (s.incSat k lo len).fls = s.fls ∧ (s.incSat k lo len).ques = s.ques ∧ (s.incSat k lo len).clk = s.clk
    ∧ (s.incSat k lo len).tim = s.tim ∧ (s.incSat k lo len).pwr = s.pwr ∧ (s.incSat k lo len).hst = s.hst
    ∧ (s.incSat k lo len).ses = s.ses ∧ (s.incSat k lo len).dm = s.dm ∧ (s.incSat k lo len).fit = s.fit
    ∧ (s.incSat k lo len).strapPort = s.strapPort ∧ (s.incSat k lo len).pending = s.pending := by
  and_intros <;> rfl

/-- A counter that saturates, by n: the fields that stay. -/
@[simp] theorem State.addSat_frame (s : State) (k lo len n : Nat) :
    (s.addSat k lo len n).mode = s.mode ∧ (s.addSat k lo len n).prevMode = s.prevMode ∧ (s.addSat k lo len n).shadow = s.shadow
    ∧ (s.addSat k lo len n).mem = s.mem ∧ (s.addSat k lo len n).ans = s.ans ∧ (s.addSat k lo len n).fresh = s.fresh
    ∧ (s.addSat k lo len n).seam = s.seam ∧ (s.addSat k lo len n).fab = s.fab ∧ (s.addSat k lo len n).pat = s.pat
    ∧ (s.addSat k lo len n).flt = s.flt ∧ (s.addSat k lo len n).sensors = s.sensors ∧ (s.addSat k lo len n).thm = s.thm
    ∧ (s.addSat k lo len n).ovl = s.ovl ∧ (s.addSat k lo len n).pins = s.pins ∧ (s.addSat k lo len n).banks = s.banks
    ∧ (s.addSat k lo len n).plt = s.plt ∧ (s.addSat k lo len n).optRec = s.optRec ∧ (s.addSat k lo len n).lcs = s.lcs
    ∧ (s.addSat k lo len n).cores = s.cores ∧ (s.addSat k lo len n).bob = s.bob ∧ (s.addSat k lo len n).ram = s.ram
    ∧ (s.addSat k lo len n).fls = s.fls ∧ (s.addSat k lo len n).ques = s.ques ∧ (s.addSat k lo len n).clk = s.clk
    ∧ (s.addSat k lo len n).tim = s.tim ∧ (s.addSat k lo len n).pwr = s.pwr ∧ (s.addSat k lo len n).hst = s.hst
    ∧ (s.addSat k lo len n).ses = s.ses ∧ (s.addSat k lo len n).dm = s.dm ∧ (s.addSat k lo len n).fit = s.fit
    ∧ (s.addSat k lo len n).strapPort = s.strapPort ∧ (s.addSat k lo len n).pending = s.pending := by
  and_intros <;> rfl

/-- A counter that wraps: the fields that stay. -/
@[simp] theorem State.incWrap_frame (s : State) (k lo len : Nat) :
    (s.incWrap k lo len).mode = s.mode ∧ (s.incWrap k lo len).prevMode = s.prevMode ∧ (s.incWrap k lo len).shadow = s.shadow
    ∧ (s.incWrap k lo len).mem = s.mem ∧ (s.incWrap k lo len).ans = s.ans ∧ (s.incWrap k lo len).fresh = s.fresh
    ∧ (s.incWrap k lo len).seam = s.seam ∧ (s.incWrap k lo len).fab = s.fab ∧ (s.incWrap k lo len).pat = s.pat
    ∧ (s.incWrap k lo len).flt = s.flt ∧ (s.incWrap k lo len).sensors = s.sensors ∧ (s.incWrap k lo len).thm = s.thm
    ∧ (s.incWrap k lo len).ovl = s.ovl ∧ (s.incWrap k lo len).pins = s.pins ∧ (s.incWrap k lo len).banks = s.banks
    ∧ (s.incWrap k lo len).plt = s.plt ∧ (s.incWrap k lo len).optRec = s.optRec ∧ (s.incWrap k lo len).lcs = s.lcs
    ∧ (s.incWrap k lo len).cores = s.cores ∧ (s.incWrap k lo len).bob = s.bob ∧ (s.incWrap k lo len).ram = s.ram
    ∧ (s.incWrap k lo len).fls = s.fls ∧ (s.incWrap k lo len).ques = s.ques ∧ (s.incWrap k lo len).clk = s.clk
    ∧ (s.incWrap k lo len).tim = s.tim ∧ (s.incWrap k lo len).pwr = s.pwr ∧ (s.incWrap k lo len).hst = s.hst
    ∧ (s.incWrap k lo len).ses = s.ses ∧ (s.incWrap k lo len).dm = s.dm ∧ (s.incWrap k lo len).fit = s.fit
    ∧ (s.incWrap k lo len).strapPort = s.strapPort ∧ (s.incWrap k lo len).pending = s.pending := by
  and_intros <;> rfl

/-- Registers at their reset values: the fields that stay. -/
@[simp] theorem State.resetRegs_frame (s : State) (f : Nat → Bool) :
    (s.resetRegs f).mode = s.mode ∧ (s.resetRegs f).prevMode = s.prevMode ∧ (s.resetRegs f).shadow = s.shadow
    ∧ (s.resetRegs f).mem = s.mem ∧ (s.resetRegs f).ans = s.ans ∧ (s.resetRegs f).fresh = s.fresh ∧ (s.resetRegs f).seam = s.seam
    ∧ (s.resetRegs f).fab = s.fab ∧ (s.resetRegs f).pat = s.pat ∧ (s.resetRegs f).flt = s.flt ∧ (s.resetRegs f).sensors = s.sensors
    ∧ (s.resetRegs f).thm = s.thm ∧ (s.resetRegs f).ovl = s.ovl ∧ (s.resetRegs f).pins = s.pins ∧ (s.resetRegs f).banks = s.banks
    ∧ (s.resetRegs f).plt = s.plt ∧ (s.resetRegs f).optRec = s.optRec ∧ (s.resetRegs f).lcs = s.lcs ∧ (s.resetRegs f).cores = s.cores
    ∧ (s.resetRegs f).bob = s.bob ∧ (s.resetRegs f).ram = s.ram ∧ (s.resetRegs f).fls = s.fls ∧ (s.resetRegs f).ques = s.ques
    ∧ (s.resetRegs f).clk = s.clk ∧ (s.resetRegs f).tim = s.tim ∧ (s.resetRegs f).pwr = s.pwr ∧ (s.resetRegs f).hst = s.hst
    ∧ (s.resetRegs f).ses = s.ses ∧ (s.resetRegs f).dm = s.dm ∧ (s.resetRegs f).fit = s.fit ∧ (s.resetRegs f).strapPort = s.strapPort
    ∧ (s.resetRegs f).pending = s.pending := by
  and_intros <;> rfl

/-- The answer: the fields that stay. -/
@[simp] theorem State.answer_frame (s : State) (r : Rsp) (d : List DWord) (code : Nat) :
    (s.answer r d code).mode = s.mode ∧ (s.answer r d code).prevMode = s.prevMode ∧ (s.answer r d code).regs = s.regs
    ∧ (s.answer r d code).shadow = s.shadow ∧ (s.answer r d code).mem = s.mem ∧ (s.answer r d code).fresh = s.fresh
    ∧ (s.answer r d code).seam = s.seam ∧ (s.answer r d code).fab = s.fab ∧ (s.answer r d code).pat = s.pat
    ∧ (s.answer r d code).flt = s.flt ∧ (s.answer r d code).sensors = s.sensors ∧ (s.answer r d code).thm = s.thm
    ∧ (s.answer r d code).ovl = s.ovl ∧ (s.answer r d code).pins = s.pins ∧ (s.answer r d code).banks = s.banks
    ∧ (s.answer r d code).plt = s.plt ∧ (s.answer r d code).optRec = s.optRec ∧ (s.answer r d code).lcs = s.lcs
    ∧ (s.answer r d code).cores = s.cores ∧ (s.answer r d code).bob = s.bob ∧ (s.answer r d code).ram = s.ram
    ∧ (s.answer r d code).fls = s.fls ∧ (s.answer r d code).ques = s.ques ∧ (s.answer r d code).clk = s.clk
    ∧ (s.answer r d code).tim = s.tim ∧ (s.answer r d code).pwr = s.pwr ∧ (s.answer r d code).hst = s.hst
    ∧ (s.answer r d code).ses = s.ses ∧ (s.answer r d code).dm = s.dm ∧ (s.answer r d code).fit = s.fit
    ∧ (s.answer r d code).strapPort = s.strapPort ∧ (s.answer r d code).pending = s.pending := by
  and_intros <;> rfl

/-- A fresh free value: the fields that stay. -/
@[simp] theorem State.bump_frame (s : State) :
    (s.bump).mode = s.mode ∧ (s.bump).prevMode = s.prevMode ∧ (s.bump).regs = s.regs ∧ (s.bump).shadow = s.shadow ∧ (s.bump).mem = s.mem
    ∧ (s.bump).ans = s.ans ∧ (s.bump).seam = s.seam ∧ (s.bump).fab = s.fab ∧ (s.bump).pat = s.pat ∧ (s.bump).flt = s.flt
    ∧ (s.bump).sensors = s.sensors ∧ (s.bump).thm = s.thm ∧ (s.bump).ovl = s.ovl ∧ (s.bump).pins = s.pins ∧ (s.bump).banks = s.banks
    ∧ (s.bump).plt = s.plt ∧ (s.bump).optRec = s.optRec ∧ (s.bump).lcs = s.lcs ∧ (s.bump).cores = s.cores ∧ (s.bump).bob = s.bob
    ∧ (s.bump).ram = s.ram ∧ (s.bump).fls = s.fls ∧ (s.bump).ques = s.ques ∧ (s.bump).clk = s.clk ∧ (s.bump).tim = s.tim
    ∧ (s.bump).pwr = s.pwr ∧ (s.bump).hst = s.hst ∧ (s.bump).ses = s.ses ∧ (s.bump).dm = s.dm ∧ (s.bump).fit = s.fit
    ∧ (s.bump).strapPort = s.strapPort ∧ (s.bump).pending = s.pending := by
  and_intros <;> rfl

/-- The mode; the Fitting slices it does not allow end: the fields that stay. -/
@[simp] theorem setMode_frame (m : Mode) (s : State) :
    (setMode m s).regs = s.regs ∧ (setMode m s).shadow = s.shadow ∧ (setMode m s).mem = s.mem ∧ (setMode m s).ans = s.ans
    ∧ (setMode m s).fresh = s.fresh ∧ (setMode m s).seam = s.seam ∧ (setMode m s).fab = s.fab ∧ (setMode m s).pat = s.pat
    ∧ (setMode m s).flt = s.flt ∧ (setMode m s).sensors = s.sensors ∧ (setMode m s).thm = s.thm ∧ (setMode m s).ovl = s.ovl
    ∧ (setMode m s).pins = s.pins ∧ (setMode m s).banks = s.banks ∧ (setMode m s).plt = s.plt ∧ (setMode m s).optRec = s.optRec
    ∧ (setMode m s).lcs = s.lcs ∧ (setMode m s).cores = s.cores ∧ (setMode m s).bob = s.bob ∧ (setMode m s).ram = s.ram
    ∧ (setMode m s).fls = s.fls ∧ (setMode m s).ques = s.ques ∧ (setMode m s).clk = s.clk ∧ (setMode m s).tim = s.tim
    ∧ (setMode m s).pwr = s.pwr ∧ (setMode m s).hst = s.hst ∧ (setMode m s).ses = s.ses ∧ (setMode m s).dm = s.dm
    ∧ (setMode m s).strapPort = s.strapPort ∧ (setMode m s).pending = s.pending := by
  and_intros <;> rfl

/-- A staged value: the fields that stay. -/
@[simp] theorem setShadow_frame (k : Nat) (v : Option (Nat × Word)) (s : State) :
    (setShadow k v s).mode = s.mode ∧ (setShadow k v s).prevMode = s.prevMode ∧ (setShadow k v s).regs = s.regs
    ∧ (setShadow k v s).mem = s.mem ∧ (setShadow k v s).ans = s.ans ∧ (setShadow k v s).fresh = s.fresh ∧ (setShadow k v s).seam = s.seam
    ∧ (setShadow k v s).fab = s.fab ∧ (setShadow k v s).pat = s.pat ∧ (setShadow k v s).flt = s.flt
    ∧ (setShadow k v s).sensors = s.sensors ∧ (setShadow k v s).thm = s.thm ∧ (setShadow k v s).ovl = s.ovl
    ∧ (setShadow k v s).pins = s.pins ∧ (setShadow k v s).banks = s.banks ∧ (setShadow k v s).plt = s.plt
    ∧ (setShadow k v s).optRec = s.optRec ∧ (setShadow k v s).lcs = s.lcs ∧ (setShadow k v s).cores = s.cores
    ∧ (setShadow k v s).bob = s.bob ∧ (setShadow k v s).ram = s.ram ∧ (setShadow k v s).fls = s.fls ∧ (setShadow k v s).ques = s.ques
    ∧ (setShadow k v s).clk = s.clk ∧ (setShadow k v s).tim = s.tim ∧ (setShadow k v s).pwr = s.pwr ∧ (setShadow k v s).hst = s.hst
    ∧ (setShadow k v s).ses = s.ses ∧ (setShadow k v s).dm = s.dm ∧ (setShadow k v s).fit = s.fit
    ∧ (setShadow k v s).strapPort = s.strapPort ∧ (setShadow k v s).pending = s.pending := by
  and_intros <;> rfl

/-- A panel's Seam state: the fields that stay. -/
@[simp] theorem setSeam_frame (p : Nat) (x : SeamPanel) (s : State) :
    (setSeam p x s).mode = s.mode ∧ (setSeam p x s).prevMode = s.prevMode ∧ (setSeam p x s).regs = s.regs
    ∧ (setSeam p x s).shadow = s.shadow ∧ (setSeam p x s).mem = s.mem ∧ (setSeam p x s).ans = s.ans ∧ (setSeam p x s).fresh = s.fresh
    ∧ (setSeam p x s).fab = s.fab ∧ (setSeam p x s).pat = s.pat ∧ (setSeam p x s).flt = s.flt ∧ (setSeam p x s).sensors = s.sensors
    ∧ (setSeam p x s).thm = s.thm ∧ (setSeam p x s).ovl = s.ovl ∧ (setSeam p x s).pins = s.pins ∧ (setSeam p x s).banks = s.banks
    ∧ (setSeam p x s).plt = s.plt ∧ (setSeam p x s).optRec = s.optRec ∧ (setSeam p x s).lcs = s.lcs ∧ (setSeam p x s).cores = s.cores
    ∧ (setSeam p x s).bob = s.bob ∧ (setSeam p x s).ram = s.ram ∧ (setSeam p x s).fls = s.fls ∧ (setSeam p x s).ques = s.ques
    ∧ (setSeam p x s).clk = s.clk ∧ (setSeam p x s).tim = s.tim ∧ (setSeam p x s).pwr = s.pwr ∧ (setSeam p x s).hst = s.hst
    ∧ (setSeam p x s).ses = s.ses ∧ (setSeam p x s).dm = s.dm ∧ (setSeam p x s).fit = s.fit ∧ (setSeam p x s).strapPort = s.strapPort
    ∧ (setSeam p x s).pending = s.pending := by
  and_intros <;> rfl

/-- A pin: the fields that stay. -/
@[simp] theorem setPin_frame (n : Nat) (x : Pin) (s : State) :
    (setPin n x s).mode = s.mode ∧ (setPin n x s).prevMode = s.prevMode ∧ (setPin n x s).regs = s.regs ∧ (setPin n x s).shadow = s.shadow
    ∧ (setPin n x s).mem = s.mem ∧ (setPin n x s).ans = s.ans ∧ (setPin n x s).fresh = s.fresh ∧ (setPin n x s).seam = s.seam
    ∧ (setPin n x s).fab = s.fab ∧ (setPin n x s).pat = s.pat ∧ (setPin n x s).flt = s.flt ∧ (setPin n x s).sensors = s.sensors
    ∧ (setPin n x s).thm = s.thm ∧ (setPin n x s).ovl = s.ovl ∧ (setPin n x s).banks = s.banks ∧ (setPin n x s).plt = s.plt
    ∧ (setPin n x s).optRec = s.optRec ∧ (setPin n x s).lcs = s.lcs ∧ (setPin n x s).cores = s.cores ∧ (setPin n x s).bob = s.bob
    ∧ (setPin n x s).ram = s.ram ∧ (setPin n x s).fls = s.fls ∧ (setPin n x s).ques = s.ques ∧ (setPin n x s).clk = s.clk
    ∧ (setPin n x s).tim = s.tim ∧ (setPin n x s).pwr = s.pwr ∧ (setPin n x s).hst = s.hst ∧ (setPin n x s).ses = s.ses
    ∧ (setPin n x s).dm = s.dm ∧ (setPin n x s).fit = s.fit ∧ (setPin n x s).strapPort = s.strapPort ∧ (setPin n x s).pending = s.pending := by
  and_intros <;> rfl

/-- A pin bank: the fields that stay. -/
@[simp] theorem setBank_frame (n : Nat) (x : Bank) (s : State) :
    (setBank n x s).mode = s.mode ∧ (setBank n x s).prevMode = s.prevMode ∧ (setBank n x s).regs = s.regs
    ∧ (setBank n x s).shadow = s.shadow ∧ (setBank n x s).mem = s.mem ∧ (setBank n x s).ans = s.ans ∧ (setBank n x s).fresh = s.fresh
    ∧ (setBank n x s).seam = s.seam ∧ (setBank n x s).fab = s.fab ∧ (setBank n x s).pat = s.pat ∧ (setBank n x s).flt = s.flt
    ∧ (setBank n x s).sensors = s.sensors ∧ (setBank n x s).thm = s.thm ∧ (setBank n x s).ovl = s.ovl ∧ (setBank n x s).pins = s.pins
    ∧ (setBank n x s).plt = s.plt ∧ (setBank n x s).optRec = s.optRec ∧ (setBank n x s).lcs = s.lcs ∧ (setBank n x s).cores = s.cores
    ∧ (setBank n x s).bob = s.bob ∧ (setBank n x s).ram = s.ram ∧ (setBank n x s).fls = s.fls ∧ (setBank n x s).ques = s.ques
    ∧ (setBank n x s).clk = s.clk ∧ (setBank n x s).tim = s.tim ∧ (setBank n x s).pwr = s.pwr ∧ (setBank n x s).hst = s.hst
    ∧ (setBank n x s).ses = s.ses ∧ (setBank n x s).dm = s.dm ∧ (setBank n x s).fit = s.fit ∧ (setBank n x s).strapPort = s.strapPort
    ∧ (setBank n x s).pending = s.pending := by
  and_intros <;> rfl

/-- A pleat group: the fields that stay. -/
@[simp] theorem setGroup_frame (g : Nat) (x : Group) (s : State) :
    (setGroup g x s).mode = s.mode ∧ (setGroup g x s).prevMode = s.prevMode ∧ (setGroup g x s).regs = s.regs
    ∧ (setGroup g x s).shadow = s.shadow ∧ (setGroup g x s).mem = s.mem ∧ (setGroup g x s).ans = s.ans ∧ (setGroup g x s).fresh = s.fresh
    ∧ (setGroup g x s).seam = s.seam ∧ (setGroup g x s).fab = s.fab ∧ (setGroup g x s).pat = s.pat ∧ (setGroup g x s).flt = s.flt
    ∧ (setGroup g x s).sensors = s.sensors ∧ (setGroup g x s).thm = s.thm ∧ (setGroup g x s).ovl = s.ovl ∧ (setGroup g x s).pins = s.pins
    ∧ (setGroup g x s).banks = s.banks ∧ (setGroup g x s).optRec = s.optRec ∧ (setGroup g x s).lcs = s.lcs
    ∧ (setGroup g x s).cores = s.cores ∧ (setGroup g x s).bob = s.bob ∧ (setGroup g x s).ram = s.ram ∧ (setGroup g x s).fls = s.fls
    ∧ (setGroup g x s).ques = s.ques ∧ (setGroup g x s).clk = s.clk ∧ (setGroup g x s).tim = s.tim ∧ (setGroup g x s).pwr = s.pwr
    ∧ (setGroup g x s).hst = s.hst ∧ (setGroup g x s).ses = s.ses ∧ (setGroup g x s).dm = s.dm ∧ (setGroup g x s).fit = s.fit
    ∧ (setGroup g x s).strapPort = s.strapPort ∧ (setGroup g x s).pending = s.pending := by
  and_intros <;> rfl

/-- A core: the fields that stay. -/
@[simp] theorem setCore_frame (c : Nat) (x : Core) (s : State) :
    (setCore c x s).mode = s.mode ∧ (setCore c x s).prevMode = s.prevMode ∧ (setCore c x s).regs = s.regs
    ∧ (setCore c x s).shadow = s.shadow ∧ (setCore c x s).mem = s.mem ∧ (setCore c x s).ans = s.ans ∧ (setCore c x s).fresh = s.fresh
    ∧ (setCore c x s).seam = s.seam ∧ (setCore c x s).fab = s.fab ∧ (setCore c x s).pat = s.pat ∧ (setCore c x s).flt = s.flt
    ∧ (setCore c x s).sensors = s.sensors ∧ (setCore c x s).thm = s.thm ∧ (setCore c x s).ovl = s.ovl ∧ (setCore c x s).pins = s.pins
    ∧ (setCore c x s).banks = s.banks ∧ (setCore c x s).plt = s.plt ∧ (setCore c x s).optRec = s.optRec ∧ (setCore c x s).lcs = s.lcs
    ∧ (setCore c x s).bob = s.bob ∧ (setCore c x s).ram = s.ram ∧ (setCore c x s).fls = s.fls ∧ (setCore c x s).ques = s.ques
    ∧ (setCore c x s).clk = s.clk ∧ (setCore c x s).tim = s.tim ∧ (setCore c x s).pwr = s.pwr ∧ (setCore c x s).hst = s.hst
    ∧ (setCore c x s).ses = s.ses ∧ (setCore c x s).dm = s.dm ∧ (setCore c x s).fit = s.fit ∧ (setCore c x s).strapPort = s.strapPort
    ∧ (setCore c x s).pending = s.pending := by
  and_intros <;> rfl

/-- A thread: the fields that stay. -/
@[simp] theorem setThread_frame (t : Nat) (x : Thread) (s : State) :
    (setThread t x s).mode = s.mode ∧ (setThread t x s).prevMode = s.prevMode ∧ (setThread t x s).regs = s.regs
    ∧ (setThread t x s).shadow = s.shadow ∧ (setThread t x s).mem = s.mem ∧ (setThread t x s).ans = s.ans
    ∧ (setThread t x s).fresh = s.fresh ∧ (setThread t x s).seam = s.seam ∧ (setThread t x s).fab = s.fab ∧ (setThread t x s).pat = s.pat
    ∧ (setThread t x s).flt = s.flt ∧ (setThread t x s).sensors = s.sensors ∧ (setThread t x s).thm = s.thm
    ∧ (setThread t x s).ovl = s.ovl ∧ (setThread t x s).pins = s.pins ∧ (setThread t x s).banks = s.banks ∧ (setThread t x s).plt = s.plt
    ∧ (setThread t x s).optRec = s.optRec ∧ (setThread t x s).lcs = s.lcs ∧ (setThread t x s).cores = s.cores
    ∧ (setThread t x s).ram = s.ram ∧ (setThread t x s).fls = s.fls ∧ (setThread t x s).ques = s.ques ∧ (setThread t x s).clk = s.clk
    ∧ (setThread t x s).tim = s.tim ∧ (setThread t x s).pwr = s.pwr ∧ (setThread t x s).hst = s.hst ∧ (setThread t x s).ses = s.ses
    ∧ (setThread t x s).dm = s.dm ∧ (setThread t x s).fit = s.fit ∧ (setThread t x s).strapPort = s.strapPort
    ∧ (setThread t x s).pending = s.pending := by
  and_intros <;> rfl

/-- A semaphore: the fields that stay. -/
@[simp] theorem setSem_frame (n : Nat) (x : Sem) (s : State) :
    (setSem n x s).mode = s.mode ∧ (setSem n x s).prevMode = s.prevMode ∧ (setSem n x s).regs = s.regs ∧ (setSem n x s).shadow = s.shadow
    ∧ (setSem n x s).mem = s.mem ∧ (setSem n x s).ans = s.ans ∧ (setSem n x s).fresh = s.fresh ∧ (setSem n x s).seam = s.seam
    ∧ (setSem n x s).fab = s.fab ∧ (setSem n x s).pat = s.pat ∧ (setSem n x s).flt = s.flt ∧ (setSem n x s).sensors = s.sensors
    ∧ (setSem n x s).thm = s.thm ∧ (setSem n x s).ovl = s.ovl ∧ (setSem n x s).pins = s.pins ∧ (setSem n x s).banks = s.banks
    ∧ (setSem n x s).plt = s.plt ∧ (setSem n x s).optRec = s.optRec ∧ (setSem n x s).lcs = s.lcs ∧ (setSem n x s).cores = s.cores
    ∧ (setSem n x s).ram = s.ram ∧ (setSem n x s).fls = s.fls ∧ (setSem n x s).ques = s.ques ∧ (setSem n x s).clk = s.clk
    ∧ (setSem n x s).tim = s.tim ∧ (setSem n x s).pwr = s.pwr ∧ (setSem n x s).hst = s.hst ∧ (setSem n x s).ses = s.ses
    ∧ (setSem n x s).dm = s.dm ∧ (setSem n x s).fit = s.fit ∧ (setSem n x s).strapPort = s.strapPort ∧ (setSem n x s).pending = s.pending := by
  and_intros <;> rfl

/-- An event group: the fields that stay. -/
@[simp] theorem setGrp_frame (n : Nat) (x : Grp) (s : State) :
    (setGrp n x s).mode = s.mode ∧ (setGrp n x s).prevMode = s.prevMode ∧ (setGrp n x s).regs = s.regs ∧ (setGrp n x s).shadow = s.shadow
    ∧ (setGrp n x s).mem = s.mem ∧ (setGrp n x s).ans = s.ans ∧ (setGrp n x s).fresh = s.fresh ∧ (setGrp n x s).seam = s.seam
    ∧ (setGrp n x s).fab = s.fab ∧ (setGrp n x s).pat = s.pat ∧ (setGrp n x s).flt = s.flt ∧ (setGrp n x s).sensors = s.sensors
    ∧ (setGrp n x s).thm = s.thm ∧ (setGrp n x s).ovl = s.ovl ∧ (setGrp n x s).pins = s.pins ∧ (setGrp n x s).banks = s.banks
    ∧ (setGrp n x s).plt = s.plt ∧ (setGrp n x s).optRec = s.optRec ∧ (setGrp n x s).lcs = s.lcs ∧ (setGrp n x s).cores = s.cores
    ∧ (setGrp n x s).ram = s.ram ∧ (setGrp n x s).fls = s.fls ∧ (setGrp n x s).ques = s.ques ∧ (setGrp n x s).clk = s.clk
    ∧ (setGrp n x s).tim = s.tim ∧ (setGrp n x s).pwr = s.pwr ∧ (setGrp n x s).hst = s.hst ∧ (setGrp n x s).ses = s.ses
    ∧ (setGrp n x s).dm = s.dm ∧ (setGrp n x s).fit = s.fit ∧ (setGrp n x s).strapPort = s.strapPort ∧ (setGrp n x s).pending = s.pending := by
  and_intros <;> rfl

/-- A flash bank: the fields that stay. -/
@[simp] theorem setFbank_frame (b : Nat) (x : FlsBank) (s : State) :
    (setFbank b x s).mode = s.mode ∧ (setFbank b x s).prevMode = s.prevMode ∧ (setFbank b x s).regs = s.regs
    ∧ (setFbank b x s).shadow = s.shadow ∧ (setFbank b x s).mem = s.mem ∧ (setFbank b x s).ans = s.ans ∧ (setFbank b x s).fresh = s.fresh
    ∧ (setFbank b x s).seam = s.seam ∧ (setFbank b x s).fab = s.fab ∧ (setFbank b x s).pat = s.pat ∧ (setFbank b x s).flt = s.flt
    ∧ (setFbank b x s).sensors = s.sensors ∧ (setFbank b x s).thm = s.thm ∧ (setFbank b x s).ovl = s.ovl ∧ (setFbank b x s).pins = s.pins
    ∧ (setFbank b x s).banks = s.banks ∧ (setFbank b x s).plt = s.plt ∧ (setFbank b x s).optRec = s.optRec ∧ (setFbank b x s).lcs = s.lcs
    ∧ (setFbank b x s).cores = s.cores ∧ (setFbank b x s).bob = s.bob ∧ (setFbank b x s).ram = s.ram ∧ (setFbank b x s).ques = s.ques
    ∧ (setFbank b x s).clk = s.clk ∧ (setFbank b x s).tim = s.tim ∧ (setFbank b x s).pwr = s.pwr ∧ (setFbank b x s).hst = s.hst
    ∧ (setFbank b x s).ses = s.ses ∧ (setFbank b x s).dm = s.dm ∧ (setFbank b x s).fit = s.fit ∧ (setFbank b x s).strapPort = s.strapPort
    ∧ (setFbank b x s).pending = s.pending := by
  and_intros <;> rfl

/-- A queue: the fields that stay. -/
@[simp] theorem setQue_frame (q : Nat) (x : Que) (s : State) :
    (setQue q x s).mode = s.mode ∧ (setQue q x s).prevMode = s.prevMode ∧ (setQue q x s).regs = s.regs ∧ (setQue q x s).shadow = s.shadow
    ∧ (setQue q x s).mem = s.mem ∧ (setQue q x s).ans = s.ans ∧ (setQue q x s).fresh = s.fresh ∧ (setQue q x s).seam = s.seam
    ∧ (setQue q x s).fab = s.fab ∧ (setQue q x s).pat = s.pat ∧ (setQue q x s).flt = s.flt ∧ (setQue q x s).sensors = s.sensors
    ∧ (setQue q x s).thm = s.thm ∧ (setQue q x s).ovl = s.ovl ∧ (setQue q x s).pins = s.pins ∧ (setQue q x s).banks = s.banks
    ∧ (setQue q x s).plt = s.plt ∧ (setQue q x s).optRec = s.optRec ∧ (setQue q x s).lcs = s.lcs ∧ (setQue q x s).cores = s.cores
    ∧ (setQue q x s).bob = s.bob ∧ (setQue q x s).ram = s.ram ∧ (setQue q x s).fls = s.fls ∧ (setQue q x s).clk = s.clk
    ∧ (setQue q x s).tim = s.tim ∧ (setQue q x s).pwr = s.pwr ∧ (setQue q x s).hst = s.hst ∧ (setQue q x s).ses = s.ses
    ∧ (setQue q x s).dm = s.dm ∧ (setQue q x s).fit = s.fit ∧ (setQue q x s).strapPort = s.strapPort ∧ (setQue q x s).pending = s.pending := by
  and_intros <;> rfl

/-- A PLL; the time base follows PLL1: the fields that stay. -/
@[simp] theorem setPll_frame (n : Nat) (x : Pll) (s : State) :
    (setPll n x s).mode = s.mode ∧ (setPll n x s).prevMode = s.prevMode ∧ (setPll n x s).regs = s.regs ∧ (setPll n x s).shadow = s.shadow
    ∧ (setPll n x s).mem = s.mem ∧ (setPll n x s).ans = s.ans ∧ (setPll n x s).fresh = s.fresh ∧ (setPll n x s).seam = s.seam
    ∧ (setPll n x s).fab = s.fab ∧ (setPll n x s).pat = s.pat ∧ (setPll n x s).flt = s.flt ∧ (setPll n x s).sensors = s.sensors
    ∧ (setPll n x s).thm = s.thm ∧ (setPll n x s).ovl = s.ovl ∧ (setPll n x s).pins = s.pins ∧ (setPll n x s).banks = s.banks
    ∧ (setPll n x s).plt = s.plt ∧ (setPll n x s).optRec = s.optRec ∧ (setPll n x s).lcs = s.lcs ∧ (setPll n x s).cores = s.cores
    ∧ (setPll n x s).bob = s.bob ∧ (setPll n x s).ram = s.ram ∧ (setPll n x s).fls = s.fls ∧ (setPll n x s).ques = s.ques
    ∧ (setPll n x s).pwr = s.pwr ∧ (setPll n x s).hst = s.hst ∧ (setPll n x s).ses = s.ses ∧ (setPll n x s).dm = s.dm
    ∧ (setPll n x s).fit = s.fit ∧ (setPll n x s).strapPort = s.strapPort ∧ (setPll n x s).pending = s.pending := by
  unfold setPll
  and_intros <;> (dsimp only; split <;> rfl)

/-- A DLL: the fields that stay. -/
@[simp] theorem setDll_frame (d : Nat) (x : Dll) (s : State) :
    (setDll d x s).mode = s.mode ∧ (setDll d x s).prevMode = s.prevMode ∧ (setDll d x s).regs = s.regs ∧ (setDll d x s).shadow = s.shadow
    ∧ (setDll d x s).mem = s.mem ∧ (setDll d x s).ans = s.ans ∧ (setDll d x s).fresh = s.fresh ∧ (setDll d x s).seam = s.seam
    ∧ (setDll d x s).pat = s.pat ∧ (setDll d x s).flt = s.flt ∧ (setDll d x s).sensors = s.sensors ∧ (setDll d x s).thm = s.thm
    ∧ (setDll d x s).ovl = s.ovl ∧ (setDll d x s).pins = s.pins ∧ (setDll d x s).banks = s.banks ∧ (setDll d x s).plt = s.plt
    ∧ (setDll d x s).optRec = s.optRec ∧ (setDll d x s).lcs = s.lcs ∧ (setDll d x s).cores = s.cores ∧ (setDll d x s).bob = s.bob
    ∧ (setDll d x s).ram = s.ram ∧ (setDll d x s).fls = s.fls ∧ (setDll d x s).ques = s.ques ∧ (setDll d x s).clk = s.clk
    ∧ (setDll d x s).tim = s.tim ∧ (setDll d x s).pwr = s.pwr ∧ (setDll d x s).hst = s.hst ∧ (setDll d x s).ses = s.ses
    ∧ (setDll d x s).dm = s.dm ∧ (setDll d x s).fit = s.fit ∧ (setDll d x s).strapPort = s.strapPort ∧ (setDll d x s).pending = s.pending := by
  and_intros <;> rfl

/-- A watchdog: the fields that stay. -/
@[simp] theorem setWdg_frame (k : Nat) (x : Wdg) (s : State) :
    (setWdg k x s).mode = s.mode ∧ (setWdg k x s).prevMode = s.prevMode ∧ (setWdg k x s).regs = s.regs ∧ (setWdg k x s).shadow = s.shadow
    ∧ (setWdg k x s).mem = s.mem ∧ (setWdg k x s).ans = s.ans ∧ (setWdg k x s).fresh = s.fresh ∧ (setWdg k x s).seam = s.seam
    ∧ (setWdg k x s).fab = s.fab ∧ (setWdg k x s).pat = s.pat ∧ (setWdg k x s).flt = s.flt ∧ (setWdg k x s).sensors = s.sensors
    ∧ (setWdg k x s).thm = s.thm ∧ (setWdg k x s).ovl = s.ovl ∧ (setWdg k x s).pins = s.pins ∧ (setWdg k x s).banks = s.banks
    ∧ (setWdg k x s).plt = s.plt ∧ (setWdg k x s).optRec = s.optRec ∧ (setWdg k x s).lcs = s.lcs ∧ (setWdg k x s).cores = s.cores
    ∧ (setWdg k x s).bob = s.bob ∧ (setWdg k x s).ram = s.ram ∧ (setWdg k x s).fls = s.fls ∧ (setWdg k x s).ques = s.ques
    ∧ (setWdg k x s).clk = s.clk ∧ (setWdg k x s).pwr = s.pwr ∧ (setWdg k x s).hst = s.hst ∧ (setWdg k x s).ses = s.ses
    ∧ (setWdg k x s).dm = s.dm ∧ (setWdg k x s).fit = s.fit ∧ (setWdg k x s).strapPort = s.strapPort ∧ (setWdg k x s).pending = s.pending := by
  and_intros <;> rfl

/-- A PCIe function: the fields that stay. -/
@[simp] theorem setFn_frame (f : Nat) (x : PcieFn) (s : State) :
    (setFn f x s).mode = s.mode ∧ (setFn f x s).prevMode = s.prevMode ∧ (setFn f x s).regs = s.regs ∧ (setFn f x s).shadow = s.shadow
    ∧ (setFn f x s).mem = s.mem ∧ (setFn f x s).ans = s.ans ∧ (setFn f x s).fresh = s.fresh ∧ (setFn f x s).seam = s.seam
    ∧ (setFn f x s).fab = s.fab ∧ (setFn f x s).pat = s.pat ∧ (setFn f x s).flt = s.flt ∧ (setFn f x s).sensors = s.sensors
    ∧ (setFn f x s).thm = s.thm ∧ (setFn f x s).ovl = s.ovl ∧ (setFn f x s).pins = s.pins ∧ (setFn f x s).banks = s.banks
    ∧ (setFn f x s).plt = s.plt ∧ (setFn f x s).optRec = s.optRec ∧ (setFn f x s).lcs = s.lcs ∧ (setFn f x s).cores = s.cores
    ∧ (setFn f x s).bob = s.bob ∧ (setFn f x s).ram = s.ram ∧ (setFn f x s).fls = s.fls ∧ (setFn f x s).ques = s.ques
    ∧ (setFn f x s).clk = s.clk ∧ (setFn f x s).tim = s.tim ∧ (setFn f x s).pwr = s.pwr ∧ (setFn f x s).ses = s.ses
    ∧ (setFn f x s).dm = s.dm ∧ (setFn f x s).fit = s.fit ∧ (setFn f x s).strapPort = s.strapPort ∧ (setFn f x s).pending = s.pending := by
  and_intros <;> rfl

/-- A quad-SPI port: the fields that stay. -/
@[simp] theorem setPort_frame (q : Nat) (x : QspiPort) (s : State) :
    (setPort q x s).mode = s.mode ∧ (setPort q x s).prevMode = s.prevMode ∧ (setPort q x s).regs = s.regs
    ∧ (setPort q x s).shadow = s.shadow ∧ (setPort q x s).mem = s.mem ∧ (setPort q x s).ans = s.ans ∧ (setPort q x s).fresh = s.fresh
    ∧ (setPort q x s).seam = s.seam ∧ (setPort q x s).fab = s.fab ∧ (setPort q x s).pat = s.pat ∧ (setPort q x s).flt = s.flt
    ∧ (setPort q x s).sensors = s.sensors ∧ (setPort q x s).thm = s.thm ∧ (setPort q x s).ovl = s.ovl ∧ (setPort q x s).pins = s.pins
    ∧ (setPort q x s).banks = s.banks ∧ (setPort q x s).plt = s.plt ∧ (setPort q x s).optRec = s.optRec ∧ (setPort q x s).lcs = s.lcs
    ∧ (setPort q x s).cores = s.cores ∧ (setPort q x s).bob = s.bob ∧ (setPort q x s).ram = s.ram ∧ (setPort q x s).fls = s.fls
    ∧ (setPort q x s).ques = s.ques ∧ (setPort q x s).clk = s.clk ∧ (setPort q x s).tim = s.tim ∧ (setPort q x s).pwr = s.pwr
    ∧ (setPort q x s).ses = s.ses ∧ (setPort q x s).dm = s.dm ∧ (setPort q x s).fit = s.fit ∧ (setPort q x s).strapPort = s.strapPort
    ∧ (setPort q x s).pending = s.pending := by
  and_intros <;> rfl

/-- A session slot: the fields that stay. -/
@[simp] theorem setSlot_frame (n : Nat) (x : Slot) (s : State) :
    (setSlot n x s).mode = s.mode ∧ (setSlot n x s).prevMode = s.prevMode ∧ (setSlot n x s).regs = s.regs
    ∧ (setSlot n x s).shadow = s.shadow ∧ (setSlot n x s).mem = s.mem ∧ (setSlot n x s).ans = s.ans ∧ (setSlot n x s).fresh = s.fresh
    ∧ (setSlot n x s).seam = s.seam ∧ (setSlot n x s).fab = s.fab ∧ (setSlot n x s).pat = s.pat ∧ (setSlot n x s).flt = s.flt
    ∧ (setSlot n x s).sensors = s.sensors ∧ (setSlot n x s).thm = s.thm ∧ (setSlot n x s).ovl = s.ovl ∧ (setSlot n x s).pins = s.pins
    ∧ (setSlot n x s).banks = s.banks ∧ (setSlot n x s).plt = s.plt ∧ (setSlot n x s).optRec = s.optRec ∧ (setSlot n x s).lcs = s.lcs
    ∧ (setSlot n x s).cores = s.cores ∧ (setSlot n x s).bob = s.bob ∧ (setSlot n x s).ram = s.ram ∧ (setSlot n x s).fls = s.fls
    ∧ (setSlot n x s).ques = s.ques ∧ (setSlot n x s).clk = s.clk ∧ (setSlot n x s).tim = s.tim ∧ (setSlot n x s).pwr = s.pwr
    ∧ (setSlot n x s).hst = s.hst ∧ (setSlot n x s).dm = s.dm ∧ (setSlot n x s).fit = s.fit ∧ (setSlot n x s).strapPort = s.strapPort
    ∧ (setSlot n x s).pending = s.pending := by
  and_intros <;> rfl

/-- A sensor: the fields that stay. -/
@[simp] theorem setSensor_frame (n : Nat) (x : Sensor) (s : State) :
    (setSensor n x s).mode = s.mode ∧ (setSensor n x s).prevMode = s.prevMode ∧ (setSensor n x s).regs = s.regs
    ∧ (setSensor n x s).shadow = s.shadow ∧ (setSensor n x s).mem = s.mem ∧ (setSensor n x s).ans = s.ans
    ∧ (setSensor n x s).fresh = s.fresh ∧ (setSensor n x s).seam = s.seam ∧ (setSensor n x s).fab = s.fab ∧ (setSensor n x s).pat = s.pat
    ∧ (setSensor n x s).flt = s.flt ∧ (setSensor n x s).thm = s.thm ∧ (setSensor n x s).ovl = s.ovl ∧ (setSensor n x s).pins = s.pins
    ∧ (setSensor n x s).banks = s.banks ∧ (setSensor n x s).plt = s.plt ∧ (setSensor n x s).optRec = s.optRec
    ∧ (setSensor n x s).lcs = s.lcs ∧ (setSensor n x s).cores = s.cores ∧ (setSensor n x s).bob = s.bob ∧ (setSensor n x s).ram = s.ram
    ∧ (setSensor n x s).fls = s.fls ∧ (setSensor n x s).ques = s.ques ∧ (setSensor n x s).clk = s.clk ∧ (setSensor n x s).tim = s.tim
    ∧ (setSensor n x s).pwr = s.pwr ∧ (setSensor n x s).hst = s.hst ∧ (setSensor n x s).ses = s.ses ∧ (setSensor n x s).dm = s.dm
    ∧ (setSensor n x s).fit = s.fit ∧ (setSensor n x s).strapPort = s.strapPort ∧ (setSensor n x s).pending = s.pending := by
  and_intros <;> rfl

/-- A sweep engine: the fields that stay. -/
@[simp] theorem setSweep_frame (b : Nat) (x : Sweep) (s : State) :
    (setSweep b x s).mode = s.mode ∧ (setSweep b x s).prevMode = s.prevMode ∧ (setSweep b x s).regs = s.regs
    ∧ (setSweep b x s).shadow = s.shadow ∧ (setSweep b x s).mem = s.mem ∧ (setSweep b x s).ans = s.ans ∧ (setSweep b x s).fresh = s.fresh
    ∧ (setSweep b x s).seam = s.seam ∧ (setSweep b x s).fab = s.fab ∧ (setSweep b x s).pat = s.pat ∧ (setSweep b x s).flt = s.flt
    ∧ (setSweep b x s).sensors = s.sensors ∧ (setSweep b x s).thm = s.thm ∧ (setSweep b x s).pins = s.pins
    ∧ (setSweep b x s).banks = s.banks ∧ (setSweep b x s).plt = s.plt ∧ (setSweep b x s).optRec = s.optRec ∧ (setSweep b x s).lcs = s.lcs
    ∧ (setSweep b x s).cores = s.cores ∧ (setSweep b x s).bob = s.bob ∧ (setSweep b x s).ram = s.ram ∧ (setSweep b x s).fls = s.fls
    ∧ (setSweep b x s).ques = s.ques ∧ (setSweep b x s).clk = s.clk ∧ (setSweep b x s).tim = s.tim ∧ (setSweep b x s).pwr = s.pwr
    ∧ (setSweep b x s).hst = s.hst ∧ (setSweep b x s).ses = s.ses ∧ (setSweep b x s).dm = s.dm ∧ (setSweep b x s).fit = s.fit
    ∧ (setSweep b x s).strapPort = s.strapPort ∧ (setSweep b x s).pending = s.pending := by
  and_intros <;> rfl

/-- A unit of Fitting: the fields that stay. -/
@[simp] theorem setFitUnit_frame (c u : Nat) (x : FitUnit) (s : State) :
    (setFitUnit c u x s).mode = s.mode ∧ (setFitUnit c u x s).prevMode = s.prevMode ∧ (setFitUnit c u x s).regs = s.regs
    ∧ (setFitUnit c u x s).shadow = s.shadow ∧ (setFitUnit c u x s).mem = s.mem ∧ (setFitUnit c u x s).ans = s.ans
    ∧ (setFitUnit c u x s).fresh = s.fresh ∧ (setFitUnit c u x s).seam = s.seam ∧ (setFitUnit c u x s).fab = s.fab
    ∧ (setFitUnit c u x s).pat = s.pat ∧ (setFitUnit c u x s).flt = s.flt ∧ (setFitUnit c u x s).sensors = s.sensors
    ∧ (setFitUnit c u x s).thm = s.thm ∧ (setFitUnit c u x s).ovl = s.ovl ∧ (setFitUnit c u x s).pins = s.pins
    ∧ (setFitUnit c u x s).banks = s.banks ∧ (setFitUnit c u x s).plt = s.plt ∧ (setFitUnit c u x s).optRec = s.optRec
    ∧ (setFitUnit c u x s).lcs = s.lcs ∧ (setFitUnit c u x s).cores = s.cores ∧ (setFitUnit c u x s).bob = s.bob
    ∧ (setFitUnit c u x s).ram = s.ram ∧ (setFitUnit c u x s).fls = s.fls ∧ (setFitUnit c u x s).ques = s.ques
    ∧ (setFitUnit c u x s).clk = s.clk ∧ (setFitUnit c u x s).tim = s.tim ∧ (setFitUnit c u x s).pwr = s.pwr
    ∧ (setFitUnit c u x s).hst = s.hst ∧ (setFitUnit c u x s).ses = s.ses ∧ (setFitUnit c u x s).dm = s.dm
    ∧ (setFitUnit c u x s).strapPort = s.strapPort ∧ (setFitUnit c u x s).pending = s.pending := by
  and_intros <;> rfl

/-- A flip-flop of the fabric: the fields that stay. -/
@[simp] theorem setFf_frame (n : Nat) (v : Bool) (s : State) :
    (setFf n v s).mode = s.mode ∧ (setFf n v s).prevMode = s.prevMode ∧ (setFf n v s).regs = s.regs ∧ (setFf n v s).shadow = s.shadow
    ∧ (setFf n v s).mem = s.mem ∧ (setFf n v s).ans = s.ans ∧ (setFf n v s).fresh = s.fresh ∧ (setFf n v s).seam = s.seam
    ∧ (setFf n v s).pat = s.pat ∧ (setFf n v s).flt = s.flt ∧ (setFf n v s).sensors = s.sensors ∧ (setFf n v s).thm = s.thm
    ∧ (setFf n v s).ovl = s.ovl ∧ (setFf n v s).pins = s.pins ∧ (setFf n v s).banks = s.banks ∧ (setFf n v s).plt = s.plt
    ∧ (setFf n v s).optRec = s.optRec ∧ (setFf n v s).lcs = s.lcs ∧ (setFf n v s).cores = s.cores ∧ (setFf n v s).bob = s.bob
    ∧ (setFf n v s).ram = s.ram ∧ (setFf n v s).fls = s.fls ∧ (setFf n v s).ques = s.ques ∧ (setFf n v s).clk = s.clk
    ∧ (setFf n v s).tim = s.tim ∧ (setFf n v s).pwr = s.pwr ∧ (setFf n v s).hst = s.hst ∧ (setFf n v s).ses = s.ses
    ∧ (setFf n v s).dm = s.dm ∧ (setFf n v s).fit = s.fit ∧ (setFf n v s).strapPort = s.strapPort ∧ (setFf n v s).pending = s.pending := by
  and_intros <;> rfl

/-- A row of a block RAM: the fields that stay. -/
@[simp] theorem setRow_frame (k : Nat) (v : BitVec 72) (s : State) :
    (setRow k v s).mode = s.mode ∧ (setRow k v s).prevMode = s.prevMode ∧ (setRow k v s).regs = s.regs ∧ (setRow k v s).shadow = s.shadow
    ∧ (setRow k v s).mem = s.mem ∧ (setRow k v s).ans = s.ans ∧ (setRow k v s).fresh = s.fresh ∧ (setRow k v s).seam = s.seam
    ∧ (setRow k v s).pat = s.pat ∧ (setRow k v s).flt = s.flt ∧ (setRow k v s).sensors = s.sensors ∧ (setRow k v s).thm = s.thm
    ∧ (setRow k v s).ovl = s.ovl ∧ (setRow k v s).pins = s.pins ∧ (setRow k v s).banks = s.banks ∧ (setRow k v s).plt = s.plt
    ∧ (setRow k v s).optRec = s.optRec ∧ (setRow k v s).lcs = s.lcs ∧ (setRow k v s).cores = s.cores ∧ (setRow k v s).bob = s.bob
    ∧ (setRow k v s).ram = s.ram ∧ (setRow k v s).fls = s.fls ∧ (setRow k v s).ques = s.ques ∧ (setRow k v s).clk = s.clk
    ∧ (setRow k v s).tim = s.tim ∧ (setRow k v s).pwr = s.pwr ∧ (setRow k v s).hst = s.hst ∧ (setRow k v s).ses = s.ses
    ∧ (setRow k v s).dm = s.dm ∧ (setRow k v s).fit = s.fit ∧ (setRow k v s).strapPort = s.strapPort ∧ (setRow k v s).pending = s.pending := by
  and_intros <;> rfl

/-- The wrong bits of a block RAM word: the fields that stay. -/
@[simp] theorem setErr_frame (k : Nat) (e : BitVec 72) (s : State) :
    (setErr k e s).mode = s.mode ∧ (setErr k e s).prevMode = s.prevMode ∧ (setErr k e s).regs = s.regs ∧ (setErr k e s).shadow = s.shadow
    ∧ (setErr k e s).mem = s.mem ∧ (setErr k e s).ans = s.ans ∧ (setErr k e s).fresh = s.fresh ∧ (setErr k e s).seam = s.seam
    ∧ (setErr k e s).pat = s.pat ∧ (setErr k e s).flt = s.flt ∧ (setErr k e s).sensors = s.sensors ∧ (setErr k e s).thm = s.thm
    ∧ (setErr k e s).ovl = s.ovl ∧ (setErr k e s).pins = s.pins ∧ (setErr k e s).banks = s.banks ∧ (setErr k e s).plt = s.plt
    ∧ (setErr k e s).optRec = s.optRec ∧ (setErr k e s).lcs = s.lcs ∧ (setErr k e s).cores = s.cores ∧ (setErr k e s).bob = s.bob
    ∧ (setErr k e s).ram = s.ram ∧ (setErr k e s).fls = s.fls ∧ (setErr k e s).ques = s.ques ∧ (setErr k e s).clk = s.clk
    ∧ (setErr k e s).tim = s.tim ∧ (setErr k e s).pwr = s.pwr ∧ (setErr k e s).hst = s.hst ∧ (setErr k e s).ses = s.ses
    ∧ (setErr k e s).dm = s.dm ∧ (setErr k e s).fit = s.fit ∧ (setErr k e s).strapPort = s.strapPort ∧ (setErr k e s).pending = s.pending := by
  and_intros <;> rfl

/-- A port of a block RAM: the fields that stay. -/
@[simp] theorem setBport_frame (n : Nat) (x : BramPort) (s : State) :
    (setBport n x s).mode = s.mode ∧ (setBport n x s).prevMode = s.prevMode ∧ (setBport n x s).regs = s.regs
    ∧ (setBport n x s).shadow = s.shadow ∧ (setBport n x s).mem = s.mem ∧ (setBport n x s).ans = s.ans ∧ (setBport n x s).fresh = s.fresh
    ∧ (setBport n x s).seam = s.seam ∧ (setBport n x s).pat = s.pat ∧ (setBport n x s).flt = s.flt ∧ (setBport n x s).sensors = s.sensors
    ∧ (setBport n x s).thm = s.thm ∧ (setBport n x s).ovl = s.ovl ∧ (setBport n x s).pins = s.pins ∧ (setBport n x s).banks = s.banks
    ∧ (setBport n x s).plt = s.plt ∧ (setBport n x s).optRec = s.optRec ∧ (setBport n x s).lcs = s.lcs ∧ (setBport n x s).cores = s.cores
    ∧ (setBport n x s).bob = s.bob ∧ (setBport n x s).ram = s.ram ∧ (setBport n x s).fls = s.fls ∧ (setBport n x s).ques = s.ques
    ∧ (setBport n x s).clk = s.clk ∧ (setBport n x s).tim = s.tim ∧ (setBport n x s).pwr = s.pwr ∧ (setBport n x s).hst = s.hst
    ∧ (setBport n x s).ses = s.ses ∧ (setBport n x s).dm = s.dm ∧ (setBport n x s).fit = s.fit ∧ (setBport n x s).strapPort = s.strapPort
    ∧ (setBport n x s).pending = s.pending := by
  and_intros <;> rfl

/-- The CLASH output of a block RAM: the fields that stay. -/
@[simp] theorem setClash_frame (b : Nat) (on : Bool) (s : State) :
    (setClash b on s).mode = s.mode ∧ (setClash b on s).prevMode = s.prevMode ∧ (setClash b on s).regs = s.regs
    ∧ (setClash b on s).shadow = s.shadow ∧ (setClash b on s).mem = s.mem ∧ (setClash b on s).ans = s.ans
    ∧ (setClash b on s).fresh = s.fresh ∧ (setClash b on s).seam = s.seam ∧ (setClash b on s).pat = s.pat ∧ (setClash b on s).flt = s.flt
    ∧ (setClash b on s).sensors = s.sensors ∧ (setClash b on s).thm = s.thm ∧ (setClash b on s).ovl = s.ovl
    ∧ (setClash b on s).pins = s.pins ∧ (setClash b on s).banks = s.banks ∧ (setClash b on s).plt = s.plt
    ∧ (setClash b on s).optRec = s.optRec ∧ (setClash b on s).lcs = s.lcs ∧ (setClash b on s).cores = s.cores
    ∧ (setClash b on s).bob = s.bob ∧ (setClash b on s).ram = s.ram ∧ (setClash b on s).fls = s.fls ∧ (setClash b on s).ques = s.ques
    ∧ (setClash b on s).clk = s.clk ∧ (setClash b on s).tim = s.tim ∧ (setClash b on s).pwr = s.pwr ∧ (setClash b on s).hst = s.hst
    ∧ (setClash b on s).ses = s.ses ∧ (setClash b on s).dm = s.dm ∧ (setClash b on s).fit = s.fit
    ∧ (setClash b on s).strapPort = s.strapPort ∧ (setClash b on s).pending = s.pending := by
  and_intros <;> rfl

/-- A frame in the latches: the fields that stay. -/
@[simp] theorem setLatchFrame_frame (a : Nat) (f : BitVec 4096) (s : State) :
    (setLatchFrame a f s).mode = s.mode ∧ (setLatchFrame a f s).prevMode = s.prevMode ∧ (setLatchFrame a f s).regs = s.regs
    ∧ (setLatchFrame a f s).shadow = s.shadow ∧ (setLatchFrame a f s).mem = s.mem ∧ (setLatchFrame a f s).ans = s.ans
    ∧ (setLatchFrame a f s).fresh = s.fresh ∧ (setLatchFrame a f s).seam = s.seam ∧ (setLatchFrame a f s).pat = s.pat
    ∧ (setLatchFrame a f s).flt = s.flt ∧ (setLatchFrame a f s).sensors = s.sensors ∧ (setLatchFrame a f s).thm = s.thm
    ∧ (setLatchFrame a f s).ovl = s.ovl ∧ (setLatchFrame a f s).pins = s.pins ∧ (setLatchFrame a f s).banks = s.banks
    ∧ (setLatchFrame a f s).plt = s.plt ∧ (setLatchFrame a f s).optRec = s.optRec ∧ (setLatchFrame a f s).lcs = s.lcs
    ∧ (setLatchFrame a f s).cores = s.cores ∧ (setLatchFrame a f s).bob = s.bob ∧ (setLatchFrame a f s).ram = s.ram
    ∧ (setLatchFrame a f s).fls = s.fls ∧ (setLatchFrame a f s).ques = s.ques ∧ (setLatchFrame a f s).clk = s.clk
    ∧ (setLatchFrame a f s).tim = s.tim ∧ (setLatchFrame a f s).pwr = s.pwr ∧ (setLatchFrame a f s).hst = s.hst
    ∧ (setLatchFrame a f s).ses = s.ses ∧ (setLatchFrame a f s).dm = s.dm ∧ (setLatchFrame a f s).fit = s.fit
    ∧ (setLatchFrame a f s).strapPort = s.strapPort ∧ (setLatchFrame a f s).pending = s.pending := by
  and_intros <;> rfl

/-- A plane: the fields that stay. -/
@[simp] theorem setPlane_frame (p : Plane) (r : PlaneRec) (s : State) :
    (setPlane p r s).mode = s.mode ∧ (setPlane p r s).prevMode = s.prevMode ∧ (setPlane p r s).regs = s.regs
    ∧ (setPlane p r s).shadow = s.shadow ∧ (setPlane p r s).mem = s.mem ∧ (setPlane p r s).ans = s.ans ∧ (setPlane p r s).fresh = s.fresh
    ∧ (setPlane p r s).seam = s.seam ∧ (setPlane p r s).fab = s.fab ∧ (setPlane p r s).flt = s.flt ∧ (setPlane p r s).sensors = s.sensors
    ∧ (setPlane p r s).thm = s.thm ∧ (setPlane p r s).ovl = s.ovl ∧ (setPlane p r s).pins = s.pins ∧ (setPlane p r s).banks = s.banks
    ∧ (setPlane p r s).plt = s.plt ∧ (setPlane p r s).optRec = s.optRec ∧ (setPlane p r s).lcs = s.lcs ∧ (setPlane p r s).cores = s.cores
    ∧ (setPlane p r s).bob = s.bob ∧ (setPlane p r s).ram = s.ram ∧ (setPlane p r s).fls = s.fls ∧ (setPlane p r s).ques = s.ques
    ∧ (setPlane p r s).clk = s.clk ∧ (setPlane p r s).tim = s.tim ∧ (setPlane p r s).pwr = s.pwr ∧ (setPlane p r s).hst = s.hst
    ∧ (setPlane p r s).ses = s.ses ∧ (setPlane p r s).dm = s.dm ∧ (setPlane p r s).fit = s.fit ∧ (setPlane p r s).strapPort = s.strapPort
    ∧ (setPlane p r s).pending = s.pending := by
  cases p <;> and_intros <;> rfl

/-- The refresh record of a plane: the fields that stay. -/
@[simp] theorem setCare_frame (p : Plane) (x : PlaneCare) (s : State) :
    (setCare p x s).mode = s.mode ∧ (setCare p x s).prevMode = s.prevMode ∧ (setCare p x s).regs = s.regs
    ∧ (setCare p x s).shadow = s.shadow ∧ (setCare p x s).mem = s.mem ∧ (setCare p x s).ans = s.ans ∧ (setCare p x s).fresh = s.fresh
    ∧ (setCare p x s).seam = s.seam ∧ (setCare p x s).fab = s.fab ∧ (setCare p x s).pat = s.pat ∧ (setCare p x s).flt = s.flt
    ∧ (setCare p x s).sensors = s.sensors ∧ (setCare p x s).thm = s.thm ∧ (setCare p x s).pins = s.pins ∧ (setCare p x s).banks = s.banks
    ∧ (setCare p x s).plt = s.plt ∧ (setCare p x s).optRec = s.optRec ∧ (setCare p x s).lcs = s.lcs ∧ (setCare p x s).cores = s.cores
    ∧ (setCare p x s).bob = s.bob ∧ (setCare p x s).ram = s.ram ∧ (setCare p x s).fls = s.fls ∧ (setCare p x s).ques = s.ques
    ∧ (setCare p x s).clk = s.clk ∧ (setCare p x s).tim = s.tim ∧ (setCare p x s).pwr = s.pwr ∧ (setCare p x s).hst = s.hst
    ∧ (setCare p x s).ses = s.ses ∧ (setCare p x s).dm = s.dm ∧ (setCare p x s).fit = s.fit ∧ (setCare p x s).strapPort = s.strapPort
    ∧ (setCare p x s).pending = s.pending := by
  and_intros <;> rfl

/-- A signing key slot: the fields that stay. -/
@[simp] theorem setSign_frame (k : Nat) (x : SignSlot) (s : State) :
    (setSign k x s).mode = s.mode ∧ (setSign k x s).prevMode = s.prevMode ∧ (setSign k x s).regs = s.regs
    ∧ (setSign k x s).shadow = s.shadow ∧ (setSign k x s).mem = s.mem ∧ (setSign k x s).ans = s.ans ∧ (setSign k x s).fresh = s.fresh
    ∧ (setSign k x s).seam = s.seam ∧ (setSign k x s).fab = s.fab ∧ (setSign k x s).pat = s.pat ∧ (setSign k x s).flt = s.flt
    ∧ (setSign k x s).sensors = s.sensors ∧ (setSign k x s).ovl = s.ovl ∧ (setSign k x s).pins = s.pins ∧ (setSign k x s).banks = s.banks
    ∧ (setSign k x s).plt = s.plt ∧ (setSign k x s).optRec = s.optRec ∧ (setSign k x s).lcs = s.lcs ∧ (setSign k x s).cores = s.cores
    ∧ (setSign k x s).bob = s.bob ∧ (setSign k x s).ram = s.ram ∧ (setSign k x s).fls = s.fls ∧ (setSign k x s).ques = s.ques
    ∧ (setSign k x s).clk = s.clk ∧ (setSign k x s).tim = s.tim ∧ (setSign k x s).pwr = s.pwr ∧ (setSign k x s).hst = s.hst
    ∧ (setSign k x s).ses = s.ses ∧ (setSign k x s).dm = s.dm ∧ (setSign k x s).fit = s.fit ∧ (setSign k x s).strapPort = s.strapPort
    ∧ (setSign k x s).pending = s.pending := by
  and_intros <;> rfl

/-- A decryption key slot: the fields that stay. -/
@[simp] theorem setDkey_frame (k : Nat) (x : DkeySlot) (s : State) :
    (setDkey k x s).mode = s.mode ∧ (setDkey k x s).prevMode = s.prevMode ∧ (setDkey k x s).regs = s.regs
    ∧ (setDkey k x s).shadow = s.shadow ∧ (setDkey k x s).mem = s.mem ∧ (setDkey k x s).ans = s.ans ∧ (setDkey k x s).fresh = s.fresh
    ∧ (setDkey k x s).seam = s.seam ∧ (setDkey k x s).fab = s.fab ∧ (setDkey k x s).pat = s.pat ∧ (setDkey k x s).flt = s.flt
    ∧ (setDkey k x s).sensors = s.sensors ∧ (setDkey k x s).ovl = s.ovl ∧ (setDkey k x s).pins = s.pins ∧ (setDkey k x s).banks = s.banks
    ∧ (setDkey k x s).plt = s.plt ∧ (setDkey k x s).optRec = s.optRec ∧ (setDkey k x s).lcs = s.lcs ∧ (setDkey k x s).cores = s.cores
    ∧ (setDkey k x s).bob = s.bob ∧ (setDkey k x s).ram = s.ram ∧ (setDkey k x s).fls = s.fls ∧ (setDkey k x s).ques = s.ques
    ∧ (setDkey k x s).clk = s.clk ∧ (setDkey k x s).tim = s.tim ∧ (setDkey k x s).pwr = s.pwr ∧ (setDkey k x s).hst = s.hst
    ∧ (setDkey k x s).ses = s.ses ∧ (setDkey k x s).dm = s.dm ∧ (setDkey k x s).fit = s.fit ∧ (setDkey k x s).strapPort = s.strapPort
    ∧ (setDkey k x s).pending = s.pending := by
  and_intros <;> rfl

/-- An enrolment: the fields that stay. -/
@[simp] theorem setEnrol_frame (n : Nat) (x : Enrol) (s : State) :
    (setEnrol n x s).mode = s.mode ∧ (setEnrol n x s).prevMode = s.prevMode ∧ (setEnrol n x s).regs = s.regs
    ∧ (setEnrol n x s).shadow = s.shadow ∧ (setEnrol n x s).mem = s.mem ∧ (setEnrol n x s).ans = s.ans ∧ (setEnrol n x s).fresh = s.fresh
    ∧ (setEnrol n x s).seam = s.seam ∧ (setEnrol n x s).fab = s.fab ∧ (setEnrol n x s).pat = s.pat ∧ (setEnrol n x s).flt = s.flt
    ∧ (setEnrol n x s).sensors = s.sensors ∧ (setEnrol n x s).thm = s.thm ∧ (setEnrol n x s).ovl = s.ovl ∧ (setEnrol n x s).pins = s.pins
    ∧ (setEnrol n x s).banks = s.banks ∧ (setEnrol n x s).plt = s.plt ∧ (setEnrol n x s).optRec = s.optRec ∧ (setEnrol n x s).lcs = s.lcs
    ∧ (setEnrol n x s).cores = s.cores ∧ (setEnrol n x s).bob = s.bob ∧ (setEnrol n x s).ram = s.ram ∧ (setEnrol n x s).fls = s.fls
    ∧ (setEnrol n x s).ques = s.ques ∧ (setEnrol n x s).clk = s.clk ∧ (setEnrol n x s).tim = s.tim ∧ (setEnrol n x s).pwr = s.pwr
    ∧ (setEnrol n x s).hst = s.hst ∧ (setEnrol n x s).dm = s.dm ∧ (setEnrol n x s).fit = s.fit ∧ (setEnrol n x s).strapPort = s.strapPort
    ∧ (setEnrol n x s).pending = s.pending := by
  and_intros <;> rfl

/-- A life-cycle token slot: the fields that stay. -/
@[simp] theorem setToken_frame (n : Nat) (x : TokenSlot) (s : State) :
    (setToken n x s).mode = s.mode ∧ (setToken n x s).prevMode = s.prevMode ∧ (setToken n x s).regs = s.regs
    ∧ (setToken n x s).shadow = s.shadow ∧ (setToken n x s).mem = s.mem ∧ (setToken n x s).ans = s.ans ∧ (setToken n x s).fresh = s.fresh
    ∧ (setToken n x s).seam = s.seam ∧ (setToken n x s).fab = s.fab ∧ (setToken n x s).pat = s.pat ∧ (setToken n x s).flt = s.flt
    ∧ (setToken n x s).sensors = s.sensors ∧ (setToken n x s).thm = s.thm ∧ (setToken n x s).ovl = s.ovl ∧ (setToken n x s).pins = s.pins
    ∧ (setToken n x s).banks = s.banks ∧ (setToken n x s).plt = s.plt ∧ (setToken n x s).optRec = s.optRec
    ∧ (setToken n x s).cores = s.cores ∧ (setToken n x s).bob = s.bob ∧ (setToken n x s).ram = s.ram ∧ (setToken n x s).fls = s.fls
    ∧ (setToken n x s).ques = s.ques ∧ (setToken n x s).clk = s.clk ∧ (setToken n x s).tim = s.tim ∧ (setToken n x s).pwr = s.pwr
    ∧ (setToken n x s).hst = s.hst ∧ (setToken n x s).ses = s.ses ∧ (setToken n x s).dm = s.dm ∧ (setToken n x s).fit = s.fit
    ∧ (setToken n x s).strapPort = s.strapPort ∧ (setToken n x s).pending = s.pending := by
  and_intros <;> rfl

/-! ### What an update writes reads back -/

@[simp] theorem coreOf_setCore (c : Nat) (x : Core) (s : State) : coreOf (setCore c x s) c = x :=
  sget_sset_self _ _ _ _

@[simp] theorem queOf_setQue (q : Nat) (x : Que) (s : State) : queOf (setQue q x s) q = x :=
  sget_sset_self _ _ _ _

@[simp] theorem pinOf_setPin (n : Nat) (x : Pin) (s : State) : pinOf (setPin n x s) n = x :=
  sget_sset_self _ _ _ _

@[simp] theorem bankOf_setBank (n : Nat) (x : Bank) (s : State) : bankOf (setBank n x s) n = x :=
  sget_sset_self _ _ _ _

@[simp] theorem groupOf_setGroup (g : Nat) (x : Group) (s : State) : groupOf (setGroup g x s) g = x :=
  sget_sset_self _ _ _ _

@[simp] theorem seamOf_setSeam (p : Nat) (x : SeamPanel) (s : State) : seamOf (setSeam p x s) p = x :=
  sget_sset_self _ _ _ _

@[simp] theorem threadOf_setThread (t : Nat) (x : Thread) (s : State) : threadOf (setThread t x s) t = x :=
  sget_sset_self _ _ _ _

@[simp] theorem semOf_setSem (n : Nat) (x : Sem) (s : State) : semOf (setSem n x s) n = x :=
  sget_sset_self _ _ _ _

@[simp] theorem grpOf_setGrp (n : Nat) (x : Grp) (s : State) : grpOf (setGrp n x s) n = x :=
  sget_sset_self _ _ _ _

@[simp] theorem fbank_setFbank (b : Nat) (x : FlsBank) (s : State) : fbank (setFbank b x s) b = x :=
  sget_sset_self _ _ _ _

@[simp] theorem pllOf_setPll (n : Nat) (x : Pll) (s : State) : pllOf (setPll n x s) n = x := by
  unfold setPll
  dsimp only
  split <;> exact sget_sset_self _ _ _ _

@[simp] theorem dllOf_setDll (d : Nat) (x : Dll) (s : State) : dllOf (setDll d x s) d = x :=
  sget_sset_self _ _ _ _

@[simp] theorem wdgOf_setWdg (k : Nat) (x : Wdg) (s : State) : wdgOf (setWdg k x s) k = x :=
  sget_sset_self _ _ _ _

@[simp] theorem fnOf_setFn (f : Nat) (x : PcieFn) (s : State) : fnOf (setFn f x s) f = x :=
  sget_sset_self _ _ _ _

@[simp] theorem portOf_setPort (q : Nat) (x : QspiPort) (s : State) : portOf (setPort q x s) q = x :=
  sget_sset_self _ _ _ _

@[simp] theorem slotOf_setSlot (n : Nat) (x : Slot) (s : State) : slotOf (setSlot n x s) n = x :=
  sget_sset_self _ _ _ _

@[simp] theorem sensorOf_setSensor (n : Nat) (x : Sensor) (s : State) : sensorOf (setSensor n x s) n = x :=
  sget_sset_self _ _ _ _

@[simp] theorem sweepOf_setSweep (b : Nat) (x : Sweep) (s : State) : sweepOf (setSweep b x s) b = x :=
  sget_sset_self _ _ _ _

@[simp] theorem ffOf_setFf (n : Nat) (v : Bool) (s : State) : ffOf (setFf n v s) n = v :=
  sget_sset_self _ _ _ _

@[simp] theorem rowOf_setRow (k : Nat) (v : BitVec 72) (s : State) : rowOf (setRow k v s) k = v :=
  sget_sset_self _ _ _ _

@[simp] theorem errOf_setErr (k : Nat) (e : BitVec 72) (s : State) : errOf (setErr k e s) k = e :=
  sget_sset_self _ _ _ _

@[simp] theorem bportOf_setBport (n : Nat) (x : BramPort) (s : State) : bportOf (setBport n x s) n = x :=
  sget_sset_self _ _ _ _

@[simp] theorem careOf_setCare (p : Plane) (x : PlaneCare) (s : State) : careOf (setCare p x s) p = x :=
  sget_sset_self _ _ _ _

@[simp] theorem signOf_setSign (k : Nat) (x : SignSlot) (s : State) : signOf (setSign k x s) k = x :=
  sget_sset_self _ _ _ _

@[simp] theorem dkeyOf_setDkey (k : Nat) (x : DkeySlot) (s : State) : dkeyOf (setDkey k x s) k = x :=
  sget_sset_self _ _ _ _

@[simp] theorem enrolOf_setEnrol (n : Nat) (x : Enrol) (s : State) : enrolOf (setEnrol n x s) n = x :=
  sget_sset_self _ _ _ _

@[simp] theorem tokenOf_setToken (n : Nat) (x : TokenSlot) (s : State) : tokenOf (setToken n x s) n = x :=
  sget_sset_self _ _ _ _

@[simp] theorem shadowOf_setShadow (k : Nat) (v : Option (Nat × Word)) (s : State) : shadowOf (setShadow k v s) k = v :=
  sget_sset_self _ _ _ _

@[simp] theorem State.rg_wrg_self (s : State) (k : Nat) (v : Word) : (s.wrg k v).rg k = v :=
  sget_sset_self _ _ _ _

theorem State.rg_wrg_ne (s : State) {k l : Nat} (v : Word) (h : l ≠ k) : (s.wrg k v).rg l = s.rg l :=
  sget_sset_ne _ _ _ h

end Sys2Proof.Machine
end

