-- ==== Sys2Proof/Laws/Doorbell.lean ====
section
/-!
SUPPORT. Operations of Bobbin that are alone in their cycle: a cycle with one operation is that operation, and a doorbell store that nothing
bars comes down to its operation.
-/

namespace Sys2Proof.Machine

/-- A list of one requester's marks names one requester. -/
theorem reqsOn_same (n : Nat) (m : Reached) (x : Nat × Nat) (h : ∀ a ∈ m, a.1 = n) : (reqsOn m x).length ≤ 1 := by
  have : ∀ l : List Nat, (∀ a ∈ l, a = n) → l.eraseDups.length ≤ 1 := by
    intro l hl
    cases l with
    | nil => simp
    | cons a l =>
      rw [List.eraseDups_cons]
      have : l.filter (fun b => !b == a) = [] := by
        rw [List.filter_eq_nil_iff]
        intro b hb
        have h1 := hl a (by simp)
        have h2 := hl b (by simp [hb])
        simp [h1, h2]
      simp [this]
  refine this _ fun a ha => ?_
  simp only [List.mem_map, List.mem_filter] at ha
  obtain ⟨y, hy, rfl⟩ := ha
  exact h y hy.1

/-- What one requester reached contests nothing. -/
theorem noteContest_same (n : Nat) (m : Reached) (s : State) (h : ∀ a ∈ m, a.1 = n) : noteContest m s = s := by
  unfold noteContest
  have : ((m.map (·.2)).eraseDups).filter (fun x => decide (2 ≤ (reqsOn m x).length)) = [] := by
    rw [List.filter_eq_nil_iff]
    intro x _
    have := reqsOn_same n m x h
    simp; omega
  simp only [this]

/-- One operation is the next. -/
theorem nextOp_one (b : Nat) (s : State) (o : BobOp) : nextOp b s [o] = some o := by
  simp [nextOp]

theorem behind_self (s : State) (o : BobOp) : ∀ x ∈ behind s o o, x ∈ (o.objs s).map (·.obj) := by
  intro x hx
  simp only [behind, List.mem_map, List.mem_filter] at hx ⊢
  obtain ⟨a, ha, rfl⟩ := hx
  exact ⟨a, ha.1, rfl⟩

/-- A cycle of one operation applies it. -/
theorem applyOps_one (b : Nat) (o : BobOp) (s : State) :
    ∃ m : Reached, applyOps b 1 [o] [] [] s = (settle (o.run s), m) ∧ ∀ a ∈ m, a.1 = o.req := by
  refine ⟨_, by simp only [applyOps, nextOp_one]; rfl, ?_⟩
  intro a ha
  have := (List.mem_eraseDups).1 ha
  simp only [List.mem_append, List.mem_map, List.mem_filter] at this
  rcases this with ⟨x, _, rfl⟩ | ⟨_, h⟩
  · rfl
  · simpa using h

/-- A cycle with one request that is one operation. -/
theorem bobCycle_one (r : BobReq) (s : State) (o : BobOp) (hr : r ≠ .intake) (h : opsOf s r = [o]) :
    bobCycle [r] s = settle (o.run s) := by
  obtain ⟨m, hm, ho⟩ := applyOps_one s.bob.abase o s
  have hi : ([r].any fun r => r == .intake) = false := by simp [hr]
  have h1 : oneEach [r] = [r] := rfl
  unfold bobCycle
  simp only [h1, List.flatMap_cons, List.flatMap_nil, List.append_nil, h, List.foldl_cons, List.foldl_nil, insOp, hi, List.length_cons,
    List.length_nil, Nat.zero_add, Bool.false_eq_true, if_false, hm]
  exact noteContest_same _ _ _ ho

theorem doorFree_active {core : Fin 16} {off : Nat} {env : CoreEnv} {s : State} (h : doorFree core off env s = true) :
    coreActive s core.val = true := by
  simp [doorFree] at h; exact h.1.1.1

theorem doorFree_way {core : Fin 16} {off : Nat} {env : CoreEnv} {s : State} (h : doorFree core off env s = true) :
    wayFree (.core core) 2 (0x60100000 + core.val * 0x1000 + off) 8 s = true := by
  simp [doorFree] at h; exact h.1.1.2

theorem wayFree_passes {i : Initiator} {kind a n : Nat} {s : State} (h : wayFree i kind a n s = true) : pmpBars s i kind a n = false := by
  simp [wayFree] at h; exact h.1

theorem wayFree_empty {c : Fin 16} {kind a n : Nat} {s : State} (h : wayFree (.core c) kind a n s = true) :
    (coreOf s c.val).wbuf = [] := by
  simp [wayFree] at h; exact h.2

theorem doorFree_open {core : Fin 16} {off : Nat} {env : CoreEnv} {s : State} (h : doorFree core off env s = true) :
    bobClosed s = false := by
  simp [doorFree] at h; exact h.1.2

theorem doorFree_alone {core : Fin 16} {off : Nat} {env : CoreEnv} {s : State} (h : doorFree core off env s = true) :
    env.reg.bob = [] := by
  simp [doorFree] at h; exact h.2

/-- A core that runs is not in WFI: nothing ends before its instruction. -/
theorem wfiEnds_active {c : Nat} {s : State} (h : coreActive s c = true) : wfiEnds c s = s := by
  unfold wfiEnds
  have : (coreOf s c).halted = false := by
    simp [coreActive] at h; exact h.1.1.1.1.2
  simp [this]

/-- An instruction of a core that runs. -/
theorem onCore_active {c : Nat} {s : State} (f : State → State) (h : coreActive s c = true) : onCore c f s = stepDone c (f s) := by
  unfold onCore
  rw [wfiEnds_active h]
  simp [h]

/-- A change of a core's pc and counters leaves the core running. -/
theorem coreActive_pc (c : Nat) (s : State) (x n : DWord) :
    coreActive (setCore c { coreOf s c with ctx := { (coreOf s c).ctx with pc := x }, minstret := n } s) c = coreActive s c := by
  unfold coreActive removed runsOn switchPoint irqTaken irqDue mipOf coreRuns
  simp only [coreOf_setCore]
  rfl

theorem doorStart_active {core : Fin 16} {short : Bool} {s : State} (h : coreActive s core.val = true) :
    coreActive (doorStart core short s) core.val = true :=
  (coreActive_pc core.val s _ _).trans h

/-- A change of a core's pc and counters changes nothing of what PMP lets through. -/
theorem doorStart_pmp (core : Fin 16) (short : Bool) (kind a n : Nat) (s : State) :
    pmpBars (doorStart core short s) (.core core) kind a n = pmpBars s (.core core) kind a n := by
  unfold pmpBars doorStart
  simp only [dataPrv, pmpOk, pmpRange, pmpCfg, pmpAddr, coreOf_setCore]

theorem opsOf_door {core : Fin 16} {off : Nat} {arg : DWord} {s : State} (h : coreActive s core.val = true)
    (hp : pmpBars s (.core core) 2 (0x60100000 + core.val * 0x1000 + off) 8 = false) :
    ∃ n, opsOf s (.door core off arg) = [⟨core.val, n, fun s => doorbell core.val off arg (drainAll core.val s)⟩] := by
  refine ⟨doorObjs core.val off arg.toNat, ?_⟩
  unfold opsOf
  simp only [h, hp, Bool.not_true, Bool.false_eq_true, if_false]

/-- A doorbell store that nothing bars comes down to its operation. -/
theorem doorCmd_free {core : Fin 16} {off : Nat} {arg : DWord} {short : Bool} {env : CoreEnv} {s : State}
    (h : doorFree core off env s = true) (ho : off < 0x38) :
    doorCmd core off arg short env s = doorDone core (doorbell core.val off arg (doorStart core short s)) := by
  have hp := wayFree_passes (doorFree_way h)
  have he := wayFree_empty (doorFree_way h)
  obtain ⟨n, hop⟩ := opsOf_door (off := off) (arg := arg) (doorStart_active (short := short) (doorFree_active h))
    ((doorStart_pmp core short 2 _ 8 s).trans hp)
  have hc : Fin.ofNat 16 core.val = core := by simp
  have hd : drainAll core.val s = s := by unfold drainAll; rw [he]; rfl
  have hs : drainAll core.val (doorStart core short s) = doorStart core short s := by
    have : (coreOf (doorStart core short s) core.val).wbuf = [] := by
      unfold doorStart
      simp only [coreOf_setCore]
      exact he
    unfold drainAll; rw [this]; rfl
  have hb := bobCycle_one _ (doorStart core short s) _ (by simp) hop
  simp only [hs] at hb
  unfold doorCmd
  dsimp only
  rw [onCore_active _ (doorFree_active h), onWay_free _ (doorFree_way h)]
  unfold doorStore doorDone bobDone
  simp only [if_pos ho, ne_eq, not_true_eq_false, if_false, hd, doorFree_open h, doorFree_alone h, Bool.false_eq_true, hc]
  rw [← hb]
  rfl

end Sys2Proof.Machine
end

