-- ==== Sys2Proof/Laws/MemBase.lean ====
section
/-!
SUPPORT. Memory through the model, in the normal form `memOf s`. A lemma `f_mem` says that `f` leaves memory as it is; a lemma `f_wf`,
that `f` keeps its canonical form. This file: folds, conditionals and record updates.
-/

namespace Sys2Proof.Machine

/-- Memory, as the laws name it. -/
def memOf (s : State) : List Host.Cell := s.mem

@[simp] theorem ite_mem (c : Prop) [Decidable c] (a b : State) : memOf (if c then a else b) = if c then memOf a else memOf b := by
  split <;> rfl

@[simp] theorem ite_fst {α β : Type} (c : Prop) [Decidable c] (a b : α × β) : (if c then a else b).1 = if c then a.1 else b.1 := by
  split <;> rfl

@[simp] theorem ite_snd {α β : Type} (c : Prop) [Decidable c] (a b : α × β) : (if c then a else b).2 = if c then a.2 else b.2 := by
  split <;> rfl

@[simp] theorem ite_wf (c : Prop) [Decidable c] (a b : List Host.Cell) :
    Memory.wf (if c then a else b) = if c then Memory.wf a else Memory.wf b := by
  split <;> rfl

@[simp] theorem foldl_mem {α : Type} (f : State → α → State) (l : List α) (s : State) (h : ∀ s x, memOf (f s x) = memOf s) :
    memOf (l.foldl f s) = memOf s := by
  induction l generalizing s with
  | nil => rfl
  | cons a l ih => simp [ih, h]

@[simp] theorem foldl_fst_mem {α β : Type} (f : State × β → α → State × β) (l : List α) (s : State × β)
    (h : ∀ s x, memOf (f s x).1 = memOf s.1) :
    memOf (l.foldl f s).1 = memOf s.1 := by
  induction l generalizing s with
  | nil => rfl
  | cons a l ih => simp [ih, h]

@[simp] theorem foldl_wf {α : Type} (f : State → α → State) (l : List α) (s : State) (hs :
    Memory.wf (memOf s) = true) (h : ∀ s x, Memory.wf (memOf s) = true → Memory.wf (memOf (f s x)) = true) : Memory.wf (memOf (l.foldl f s)) = true := by
  induction l generalizing s with
  | nil => exact hs
  | cons a l ih => exact ih _ (h _ _ hs)

@[simp] theorem foldl_fst_wf {α β : Type} (f : State × β → α → State × β) (l : List α) (s : State × β) (hs :
    Memory.wf (memOf s.1) = true) (h : ∀ s x, Memory.wf (memOf s.1) = true → Memory.wf (memOf (f s x).1) = true) : Memory.wf (memOf (l.foldl f s).1) = true := by
  induction l generalizing s with
  | nil => exact hs
  | cons a l ih => exact ih _ (h _ _ hs)
/-- The proof is a function, so that simp rewrites with the equation and leaves no unfolding to the kernel. -/
@[simp] theorem mem_mk : ∀ mode prevMode regs shadow mem ans fresh seam fab pat flt sensors thm ovl pins banks plt optRec lcs cores bob ram fls
    ques clk tim pwr hst ses dm fit strapPort pending,
    memOf (State.mk mode prevMode regs shadow mem ans fresh seam fab pat flt sensors thm ovl pins banks plt optRec lcs cores bob ram fls ques
      clk tim pwr hst ses dm fit strapPort pending) = mem :=
  fun _ _ _ _ _ _ _ _ _ _ _ _ _ _ _ _ _ _ _ _ _ _ _ _ _ _ _ _ _ _ _ _ _ => rfl

@[simp] theorem mem_memOf (s : State) : s.mem = memOf s := rfl

end Sys2Proof.Machine
end

