-- ==== Sys2Proof/Laws/MemOps.lean ====
section
/-!
SUPPORT. Memory through the shared operations, the planes, pins, pleats and Seam: what leaves it as it is (`_mem`) and what keeps its canonical form (`_wf`).
-/

namespace Sys2Proof.Machine

/-! ### Machine/Ops.lean -/

@[simp] theorem State.wrg_mem (a0 : State) (a1 : Nat) (a2 : Word) : memOf (State.wrg a0 a1 a2) = memOf a0 := by
  unfold State.wrg
  simp [*]

@[simp] theorem State.wf_mem (a0 : State) (a1 : Nat) (a2 : Nat) (a3 : Nat) (a4 : Nat) : memOf (State.wf a0 a1 a2 a3 a4) = memOf a0 := by
  unfold State.wf
  simp [*]

@[simp] theorem State.wb_mem (a0 : State) (a1 : Nat) (a2 : Nat) (a3 : Bool) : memOf (State.wb a0 a1 a2 a3) = memOf a0 := by
  unfold State.wb
  simp [*]

@[simp] theorem State.wrg64_mem (a0 : State) (a1 : Nat) (a2 : Nat) : memOf (State.wrg64 a0 a1 a2) = memOf a0 := by
  unfold State.wrg64
  simp [*]

@[simp] theorem State.incSat_mem (a0 : State) (a1 : Nat) (a2 : Nat) (a3 : Nat) : memOf (State.incSat a0 a1 a2 a3) = memOf a0 := by
  unfold State.incSat
  simp [*]

@[simp] theorem State.addSat_mem (a0 : State) (a1 : Nat) (a2 : Nat) (a3 : Nat) (a4 : Nat) :
    memOf (State.addSat a0 a1 a2 a3 a4) = memOf a0 := by
  unfold State.addSat
  simp [*]

@[simp] theorem State.incWrap_mem (a0 : State) (a1 : Nat) (a2 : Nat) (a3 : Nat) : memOf (State.incWrap a0 a1 a2 a3) = memOf a0 := by
  unfold State.incWrap
  simp [*]

@[simp] theorem State.resetRegs_mem (a0 : State) (a1 : Nat → Bool) : memOf (State.resetRegs a0 a1) = memOf a0 := by
  unfold State.resetRegs
  simp [*]

@[simp] theorem State.bump_mem (a0 : State) : memOf (State.bump a0) = memOf a0 := by
  unfold State.bump
  simp [*]

@[simp] theorem State.answer_mem (a0 : State) (a1 : Rsp) (a2 : optParam (List DWord) []) (a3 : optParam Nat 0) :
    memOf (State.answer a0 a1 a2 a3) = memOf a0 := by
  unfold State.answer
  simp [*]

@[simp] theorem State.meeting_mem (a0 : State) : memOf (State.meeting a0) = memOf a0 := by
  unfold State.meeting
  simp [*]

@[simp] theorem State.heard_mem (a0 : State) (a1 : Initiator) (a2 : Rsp) (a3 : List DWord) :
    memOf (State.heard a0 a1 a2 a3) = memOf a0 := by
  unfold State.heard
  simp [*]

@[simp] theorem intakePush_mem (a0 : Intake) (a1 : State) : memOf (intakePush a0 a1) = memOf a1 := by
  unfold intakePush
  simp [*]

@[simp] theorem faultNote_mem (a0 : Nat) (a1 : State) : memOf (faultNote a0 a1) = memOf a1 := by
  unfold faultNote
  simp [*]

@[simp] theorem raise_mem (a0 : Nat) (a1 : State) : memOf (raise a0 a1) = memOf a1 := by
  unfold raise
  simp [*]

@[simp] theorem raiseBolt_mem (a0 : Nat) (a1 : Nat) (a2 : State) : memOf (raiseBolt a0 a1 a2) = memOf a2 := by
  unfold raiseBolt
  simp [*]

@[simp] theorem writeByte_wf (a0 : Nat) (a1 : Byte) (a2 : State) (hw :
    Memory.wf (memOf a2) = true) : Memory.wf (memOf (writeByte a0 a1 a2)) = true := by
  exact swf_sset _ _ _ _ hw

@[simp] theorem writeBytes_wf (a0 : Nat) (a1 : List Byte) (a2 : State) (hw :
    Memory.wf (memOf a2) = true) : Memory.wf (memOf (writeBytes a0 a1 a2)) = true := by
  induction a1 generalizing a0 a2 with
  | nil => exact hw
  | cons b l ih => exact ih _ _ (writeByte_wf _ _ _ hw)

@[simp] theorem writeLe_wf (a0 : Nat) (a1 : Nat) (a2 : Nat) (a3 : State) (hw :
    Memory.wf (memOf a3) = true) : Memory.wf (memOf (writeLe a0 a1 a2 a3)) = true := by
  exact writeBytes_wf _ _ _ hw

@[simp] theorem clearMem_wf (a0 : Nat → Bool) (a1 : State) (hw :
    Memory.wf (memOf a1) = true) : Memory.wf (memOf (clearMem a0 a1)) = true := by
  exact swf_sdrop _ _ _ hw

/-! ### Machine/Pads.lean -/

@[simp] theorem setPin_mem (a0 : Nat) (a1 : Pin) (a2 : State) : memOf (setPin a0 a1 a2) = memOf a2 := by
  unfold setPin
  simp [*]

@[simp] theorem setBank_mem (a0 : Nat) (a1 : Bank) (a2 : State) : memOf (setBank a0 a1 a2) = memOf a2 := by
  unfold setBank
  simp [*]

@[simp] theorem setGroup_mem (a0 : Nat) (a1 : Group) (a2 : State) : memOf (setGroup a0 a1 a2) = memOf a2 := by
  unfold setGroup
  simp [*]

@[simp] theorem updPins_mem (a0 : Nat → Bool) (a1 : Nat → Pin → Pin) (a2 : State) : memOf (updPins a0 a1 a2) = memOf a2 := by
  unfold updPins
  simp [*]

/-! ### Machine/Cells.lean -/

@[simp] theorem setFf_mem (a0 : Nat) (a1 : Bool) (a2 : State) : memOf (setFf a0 a1 a2) = memOf a2 := by
  unfold setFf
  simp [*]

@[simp] theorem ffEdge_mem (a0 : Nat) (a1 : Bool) (a2 : Bool) (a3 : State) (a4 : LutIn × Nat) :
    memOf (ffEdge a0 a1 a2 a3 a4) = memOf a3 := by
  unfold ffEdge
  simp [*]

@[simp] theorem lutEdge_mem (a0 : Nat) (a1 : State) (a2 : LutIn × Nat) : memOf (lutEdge a0 a1 a2) = memOf a1 := by
  unfold lutEdge
  (try dsimp only); (repeat' split) <;> simp [*]

@[simp] theorem sliceEdge_mem (a0 : Nat) (a1 : Bool) (a2 : Bool) (a3 : List LutIn) (a4 : State) :
    memOf (sliceEdge a0 a1 a2 a3 a4) = memOf a4 := by
  unfold sliceEdge
  simp [*]

@[simp] theorem asyncReset_mem (a0 : Nat) (a1 : State) : memOf (asyncReset a0 a1) = memOf a1 := by
  unfold asyncReset
  simp [*]

@[simp] theorem carrySlice_mem (x : State × Bool) (y : (BitVec 8 × BitVec 8) × Nat) : memOf (carrySlice x y).1 = memOf x.1 := by
  unfold carrySlice
  simp

@[simp] theorem carryChain_mem (a0 : Nat) (a1 : Bool) (a2 : List (BitVec 8 × BitVec 8)) (a3 : State) :
    memOf (carryChain a0 a1 a2 a3) = memOf a3 := by
  unfold carryChain
  rw [foldl_fst_mem]
  intro s x
  simp

@[simp] theorem setRow_mem (a0 : Nat) (a1 : BitVec 72) (a2 : State) : memOf (setRow a0 a1 a2) = memOf a2 := by
  unfold setRow
  simp [*]

@[simp] theorem setErr_mem (a0 : Nat) (a1 : BitVec 72) (a2 : State) : memOf (setErr a0 a1 a2) = memOf a2 := by
  unfold setErr
  simp [*]

@[simp] theorem bramWrite_mem (a0 : Nat) (a1 : Nat) (a2 : BramCycle) (a3 : BramAt) (a4 : State) :
    memOf (bramWrite a0 a1 a2 a3 a4) = memOf a4 := by
  unfold bramWrite
  (try dsimp only); (repeat' split) <;> simp [*]

@[simp] theorem setBport_mem (a0 : Nat) (a1 : BramPort) (a2 : State) : memOf (setBport a0 a1 a2) = memOf a2 := by
  unfold setBport
  simp [*]

@[simp] theorem bramPush_mem (a0 : Nat) (a1 : Nat) (a2 : Bool) (a3 : BitVec 72) (a4 : BitVec 72) (a5 : State) :
    memOf (bramPush a0 a1 a2 a3 a4 a5) = memOf a5 := by
  unfold bramPush
  simp [*]

@[simp] theorem bramNote_mem (a0 : Nat) (a1 : Nat) (a2 : Bool) (a3 : State) : memOf (bramNote a0 a1 a2 a3) = memOf a3 := by
  unfold bramNote
  simp [*]

@[simp] theorem guardedRead_mem (a0 : Nat) (a1 : State) : memOf (guardedRead a0 a1).1 = memOf a1 := by
  unfold guardedRead
  (try dsimp only); (repeat' split) <;> simp [*]

@[simp] theorem bramRead_mem (a0 : Nat) (a1 : Nat) (a2 : BramAt) (a3 : State) : memOf (bramRead a0 a1 a2 a3).1 = memOf a3 := by
  unfold bramRead
  (try dsimp only); (repeat' split) <;> simp [*]

@[simp] theorem bramOne_mem (a0 : Nat) (a1 : Nat) (a2 : BramCycle) (a3 : BramAt) (a4 : State) :
    memOf (bramOne a0 a1 a2 a3 a4) = memOf a4 := by
  unfold bramOne
  simp [*]

@[simp] theorem setClash_mem (a0 : Nat) (a1 : Bool) (a2 : State) : memOf (setClash a0 a1 a2) = memOf a2 := by
  unfold setClash
  simp [*]

@[simp] theorem bramBoth_mem (a0 : Nat) (a1 : BramCycle) (a2 : BramCycle) (a3 : BramAt) (a4 : BramAt) (a5 : State) :
    memOf (bramBoth a0 a1 a2 a3 a4 a5) = memOf a5 := by
  unfold bramBoth
  simp [*]

@[simp] theorem bramCycle_mem (a0 : Nat) (a1 : Option BramCycle) (a2 : Option BramCycle) (a3 : State) :
    memOf (bramCycle a0 a1 a2 a3) = memOf a3 := by
  unfold bramCycle
  (try dsimp only); (repeat' split) <;> simp [*]

@[simp] theorem bramRepair_mem (a0 : Nat) (a1 : State) : memOf (bramRepair a0 a1) = memOf a1 := by
  unfold bramRepair
  simp [*]

@[simp] theorem dspEdge_mem (a0 : Nat) (a1 : BitVec 27) (a2 : BitVec 27) (a3 : BitVec 24) (a4 : BitVec 48) (a5 : State) :
    memOf (dspEdge a0 a1 a2 a3 a4 a5) = memOf a5 := by
  unfold dspEdge
  simp [*]

@[simp] theorem lineUp_mem (a0 : State) (a1 : Nat) : memOf (lineUp a0 a1) = memOf a0 := by
  unfold lineUp
  simp [*]

@[simp] theorem lineDivided_mem (a0 : Nat) (a1 : State) : memOf (lineDivided a0 a1) = memOf a1 := by
  unfold lineDivided
  (try dsimp only); rw [foldl_mem] <;> first | (intro s x; (try dsimp only); (repeat' split) <;> simp [*]) | (simp [*])

@[simp] theorem lineEdge_mem (a0 : State) (a1 : Nat) : memOf (lineEdge a0 a1) = memOf a0 := by
  unfold lineEdge
  simp [*]

@[simp] theorem clockEdge_mem (a0 : LineSource) (a1 : State) : memOf (clockEdge a0 a1) = memOf a1 := by
  unfold clockEdge
  simp [*]

@[simp] theorem netEdge_mem (a0 : Nat) (a1 : State) : memOf (netEdge a0 a1) = memOf a1 := by
  unfold netEdge
  simp [*]

@[simp] theorem keepIso_mem (a0 : Nat → Bool) (a1 : State) : memOf (keepIso a0 a1) = memOf a1 := by
  unfold keepIso
  simp [*]

@[simp] theorem initRegion_mem (a0 : State) (a1 : Nat) : memOf (initRegion a0 a1) = memOf a0 := by
  unfold initRegion
  simp [*]

@[simp] theorem carryPut_mem (a0 : Nat) (a1 : Nat) (a2 : BitVec 72) (a3 : State) : memOf (carryPut a0 a1 a2 a3) = memOf a3 := by
  unfold carryPut
  simp [*]

@[simp] theorem FabricEvent_act_mem (a0 : FabricEvent) (a1 : State) : memOf (FabricEvent.act a0 a1) = memOf a1 := by
  unfold FabricEvent.act
  (try dsimp only); (repeat' split) <;> simp [*]

@[simp] theorem fabricEvent_mem (a0 : State) (a1 : FabricEvent) : memOf (fabricEvent a0 a1) = memOf a0 := by
  unfold fabricEvent
  (try dsimp only); (repeat' split) <;> simp [*]

@[simp] theorem fabricRun_mem (a0 : State) : memOf (fabricRun a0) = memOf a0 := by
  unfold fabricRun
  simp [*]

/-! ### Machine/Slices.lean -/

@[simp] theorem setFitUnit_mem (a0 : Nat) (a1 : Nat) (a2 : FitUnit) (a3 : State) : memOf (setFitUnit a0 a1 a2 a3) = memOf a3 := by
  unfold setFitUnit
  simp [*]

@[simp] theorem fitResult_mem (a0 : Nat) (a1 : Nat) (a2 : Nat) (a3 : Nat) (a4 : Nat) (a5 : State) :
    memOf (fitResult a0 a1 a2 a3 a4 a5) = memOf a5 := by
  unfold fitResult
  simp [*]

@[simp] theorem abortOne_mem (a0 : FitRun) (a1 : State) : memOf (abortOne a0 a1) = memOf a1 := by
  unfold abortOne
  simp [*]

@[simp] theorem abortSlices_mem (a0 : FitRun → Bool) (a1 : State) : memOf (abortSlices a0 a1) = memOf a1 := by
  unfold abortSlices
  simp [*]

@[simp] theorem abortAll_mem (a0 : State) : memOf (abortAll a0) = memOf a0 := by
  unfold abortAll
  simp [*]

@[simp] theorem fitSram_mem (a0 : Nat) (a1 : Nat) (a2 : State) : memOf (fitSram a0 a1 a2) = memOf a2 := by
  unfold fitSram
  simp [*]

@[simp] theorem fitQueue_mem (a0 : Nat) (a1 : State) : memOf (fitQueue a0 a1) = memOf a1 := by
  unfold fitQueue
  simp [*]

@[simp] theorem fitFlash_mem (a0 : Nat) (a1 : State) : memOf (fitFlash a0 a1) = memOf a1 := by
  unfold fitFlash
  simp [*]

@[simp] theorem fitCrypto_mem (a0 : State) : memOf (fitCrypto a0) = memOf a0 := by
  unfold fitCrypto
  simp [*]

@[simp] theorem fitCore_mem (a0 : Nat) (a1 : State) : memOf (fitCore a0 a1) = memOf a1 := by
  unfold fitCore
  simp [*]

@[simp] theorem fitTcm_mem (a0 : Nat) (a1 : State) : memOf (fitTcm a0 a1) = memOf a1 := by
  unfold fitTcm
  simp [*]

/-! ### Machine/System.lean -/

@[simp] theorem setFn_mem (a0 : Nat) (a1 : PcieFn) (a2 : State) : memOf (setFn a0 a1 a2) = memOf a2 := by
  unfold setFn
  simp [*]

@[simp] theorem sendMsg_mem (a0 : Nat) (a1 : Nat) (a2 : State) : memOf (sendMsg a0 a1 a2) = memOf a2 := by
  unfold sendMsg
  simp [*]

@[simp] theorem vectorScan_mem (a0 : Nat) (a1 : State) (a2 : Nat) : memOf (vectorScan a0 a1 a2) = memOf a1 := by
  unfold vectorScan
  simp [*]

@[simp] theorem hstScan_mem (a0 : State) : memOf (hstScan a0) = memOf a0 := by
  unfold hstScan
  simp [*]

@[simp] theorem vecWrite_mem (a0 : Nat) (a1 : Nat) (a2 : Word) (a3 : State) : memOf (vecWrite a0 a1 a2 a3) = memOf a3 := by
  unfold vecWrite
  simp [*]

@[simp] theorem hstNotify_mem (a0 : Nat) (a1 : State) : memOf (hstNotify a0 a1) = memOf a1 := by
  unfold hstNotify
  simp [*]

@[simp] theorem irq_mem (a0 : Nat) (a1 : Nat) (a2 : State) : memOf (irq a0 a1 a2) = memOf a2 := by
  unfold irq
  simp [*]

@[simp] theorem irqSeam_mem (a0 : Nat) (a1 : Nat) (a2 : State) : memOf (irqSeam a0 a1 a2) = memOf a2 := by
  unfold irqSeam
  simp [*]

@[simp] theorem setPlane_mem (a0 : Plane) (a1 : PlaneRec) (a2 : State) : memOf (setPlane a0 a1 a2) = memOf a2 := by
  unfold setPlane
  (try dsimp only); (repeat' split) <;> simp [*]

@[simp] theorem patErr_mem (a0 : Nat) (a1 : Nat) (a2 : State) : memOf (patErr a0 a1 a2) = memOf a2 := by
  unfold patErr
  simp [*]

@[simp] theorem basErr_mem (a0 : Nat) (a1 : Nat) (a2 : State) : memOf (basErr a0 a1 a2) = memOf a2 := by
  unfold basErr
  simp [*]

@[simp] theorem writeReport_mem (a0 : Nat) (a1 : Nat) (a2 : State) : memOf (writeReport a0 a1 a2) = memOf a2 := by
  unfold writeReport
  simp [*]

@[simp] theorem writeFails_mem (a0 : Plane) (a1 : Nat) (a2 : Nat) (a3 : State) : memOf (writeFails a0 a1 a2 a3) = memOf a3 := by
  unfold writeFails
  simp [*]

@[simp] theorem abortWrite_mem (a0 : State) : memOf (abortWrite a0) = memOf a0 := by
  unfold abortWrite
  (try dsimp only); (repeat' split) <;> simp [*]

@[simp] theorem cancelSwapAt_mem (a0 : State) : memOf (cancelSwapAt a0) = memOf a0 := by
  unfold cancelSwapAt
  (try dsimp only); (repeat' split) <;> simp [*]

@[simp] theorem abortBasteEarly_mem (a0 : State) : memOf (abortBasteEarly a0) = memOf a0 := by
  unfold abortBasteEarly
  (try dsimp only); (repeat' split) <;> simp [*]

@[simp] theorem holdRegions_mem (a0 : BitVec 128) (a1 : State) : memOf (holdRegions a0 a1) = memOf a1 := by
  unfold holdRegions
  simp [*]

@[simp] theorem releaseRegions_mem (a0 : BitVec 128) (a1 : State) : memOf (releaseRegions a0 a1) = memOf a1 := by
  unfold releaseRegions
  simp [*]

@[simp] theorem dllsStop_mem (a0 : Nat → Bool) (a1 : State) : memOf (dllsStop a0 a1) = memOf a1 := by
  unfold dllsStop
  simp [*]

@[simp] theorem boltOff_mem (a0 : Nat) (a1 : State) : memOf (boltOff a0 a1) = memOf a1 := by
  unfold boltOff
  (try dsimp only); (repeat' split) <;> simp [*]

@[simp] theorem setMode_mem (a0 : Mode) (a1 : State) : memOf (setMode a0 a1) = memOf a1 := by
  unfold setMode
  simp [*]

@[simp] theorem endGrant_mem (a0 : Nat) (a1 : State) : memOf (endGrant a0 a1) = memOf a1 := by
  unfold endGrant
  (try dsimp only); (repeat' split) <;> simp [*]

@[simp] theorem closeGrant_mem (a0 : Nat) (a1 : State) : memOf (closeGrant a0 a1) = memOf a1 := by
  unfold closeGrant
  simp [*]

@[simp] theorem grantExpire_mem (a0 : State) : memOf (grantExpire a0) = memOf a0 := by
  unfold grantExpire
  simp [*]

@[simp] theorem wipeSessions_mem (a0 : State) : memOf (wipeSessions a0) = memOf a0 := by
  unfold wipeSessions
  simp [*]

@[simp] theorem doorAgain_mem (a0 : State) : memOf (doorAgain a0) = memOf a0 := by
  unfold doorAgain
  simp [*]

@[simp] theorem abandonEntry_mem (a0 : State) : memOf (abandonEntry a0) = memOf a0 := by
  unfold abandonEntry
  simp [*]

@[simp] theorem abortRestore_mem (a0 : State) : memOf (abortRestore a0) = memOf a0 := by
  unfold abortRestore
  (try dsimp only); (repeat' split) <;> simp [*]

@[simp] theorem enterSafe_mem (a0 : State) : memOf (enterSafe a0) = memOf a0 := by
  unfold enterSafe
  (try dsimp only); (repeat' split) <;> simp [*]

@[simp] theorem latchWake_mem (a0 : Wake) (a1 : State) : memOf (latchWake a0 a1) = memOf a1 := by
  unfold latchWake
  simp [*]

@[simp] theorem noteSafeCause_mem (a0 : Nat) (a1 : State) : memOf (noteSafeCause a0 a1) = memOf a1 := by
  unfold noteSafeCause
  simp [*]

@[simp] theorem raiseSafe_mem (a0 : Nat) (a1 : State) : memOf (raiseSafe a0 a1) = memOf a1 := by
  unfold raiseSafe
  extract_lets e t u f v
  have ht : memOf t = memOf a1 := by simp [t]
  have hu : memOf u = memOf a1 := by simp [u, ht]
  clear_value e t u
  split
  · have hv : memOf v = memOf a1 := by simp [v, hu]
    split <;> (try split) <;> simp [hu, hv]
  · exact ht

@[simp] theorem setWdg_mem (a0 : Nat) (a1 : Wdg) (a2 : State) : memOf (setWdg a0 a1 a2) = memOf a2 := by
  unfold setWdg
  simp [*]

@[simp] theorem wdgRestart_mem (a0 : Nat) (a1 : State) : memOf (wdgRestart a0 a1) = memOf a1 := by
  unfold wdgRestart
  simp [*]

/-! ### Machine/Words.lean -/

@[simp] theorem mendBad_mem (a0 : Nat) (a1 : Nat) (a2 : State) : memOf (mendBad a0 a1 a2) = memOf a2 := by
  unfold mendBad
  simp [*]

@[simp] theorem dramTouch_mem (a0 : Nat) (a1 : Nat) (a2 : State) : memOf (dramTouch a0 a1 a2) = memOf a2 := by
  unfold dramTouch
  simp [*]

@[simp] theorem memTouch_mem (a0 : Nat) (a1 : Nat) (a2 : State) : memOf (memTouch a0 a1 a2) = memOf a2 := by
  unfold memTouch
  simp [*]

@[simp] theorem noteMemErr_mem (a0 : Nat) (a1 : Nat) (a2 : Nat) (a3 : Bool) (a4 : State) :
    memOf (noteMemErr a0 a1 a2 a3 a4) = memOf a4 := by
  unfold noteMemErr
  simp [*]

@[simp] theorem memCe_mem (a0 : Nat) (a1 : Nat) (a2 : Nat) (a3 : State) : memOf (memCe a0 a1 a2 a3) = memOf a3 := by
  unfold memCe
  simp [*]

@[simp] theorem memUe_mem (a0 : Nat) (a1 : Nat) (a2 : State) : memOf (memUe a0 a1 a2) = memOf a2 := by
  unfold memUe
  simp [*]

@[simp] theorem markBad_mem (a0 : Nat) (a1 : State) : memOf (markBad a0 a1) = memOf a1 := by
  unfold markBad
  simp [*]

@[simp] theorem memCheck_mem (a0 : Nat) (a1 : Nat) (a2 : Nat) (a3 : Ecc) (a4 : State) : memOf (memCheck a0 a1 a2 a3 a4).1 = memOf a4 := by
  unfold memCheck
  (try dsimp only); (repeat' split) <;> simp [*]

@[simp] theorem badRead_mem (a0 : Nat → State → State) (a1 : Nat) (a2 : Nat) (a3 : State) (h0 : ∀ x0 x1, (memOf (a0 x0 x1)) = memOf x1) :
    memOf (badRead a0 a1 a2 a3).1 = memOf a3 := by
  unfold badRead
  (try dsimp only); (repeat' split) <;> simp [*]

@[simp] theorem unitRead_mem (a0 : Nat) (a1 : Nat) (a2 : State) : memOf (unitRead a0 a1 a2).1 = memOf a2 := by
  unfold unitRead
  simp [*]

/-! ### Machine/Pattern.lean -/

@[simp] theorem raiseSvn_mem (a0 : Nat) (a1 : State) : memOf (raiseSvn a0 a1) = memOf a1 := by
  unfold raiseSvn
  simp [*]

@[simp] theorem useHeader_mem (a0 : BitVec 4096) (a1 : State) : memOf (useHeader a0 a1) = memOf a1 := by
  unfold useHeader
  simp [*]

@[simp] theorem countErase_mem (a0 : Plane) (a1 : State) : memOf (countErase a0 a1) = memOf a1 := by
  unfold countErase
  simp [*]

@[simp] theorem imageRead_mem (a0 : Nat) (a1 : Nat) (a2 : State) : memOf (imageRead a0 a1 a2).1 = memOf a2 := by
  unfold imageRead
  simp [*]

@[simp] theorem writeJudged_mem (a0 : Plane) (a1 : Nat) (a2 : Nat) (a3 : BitVec 4096) (a4 : Option (Nat × Nat)) (a5 : State) :
    memOf (writeJudged a0 a1 a2 a3 a4 a5) = memOf a5 := by
  unfold writeJudged
  (try dsimp only); (repeat' split) <;> simp [*]

@[simp] theorem writePlane_mem (a0 : Plane) (a1 : State) : memOf (writePlane a0 a1) = memOf a1 := by
  unfold writePlane
  simp [*]

@[simp] theorem writeErase_mem (a0 : PlaneWrite) (a1 : State) : memOf (writeErase a0 a1) = memOf a1 := by
  unfold writeErase
  simp [*]

@[simp] theorem writePass1_mem (a0 : PlaneWrite) (a1 : State) : memOf (writePass1 a0 a1) = memOf a1 := by
  unfold writePass1
  (try dsimp only); (repeat' split) <;> simp [*]

@[simp] theorem writePass2_mem (a0 : PlaneWrite) (a1 : State) : memOf (writePass2 a0 a1) = memOf a1 := by
  unfold writePass2
  (try dsimp only); (repeat' split) <;> simp [*]

@[simp] theorem writeDue_mem (a0 : State) : memOf (writeDue a0) = memOf a0 := by
  unfold writeDue
  (try dsimp only); (repeat' split) <;> simp [*]

@[simp] theorem writeDone_mem (a0 : Bool) (a1 : State) : memOf (writeDone a0 a1) = memOf a1 := by
  unfold writeDone
  (try dsimp only); (repeat' split) <;> simp [*]

@[simp] theorem erasePlane_mem (a0 : Nat) (a1 : Plane) (a2 : Bool) (a3 : State) : memOf (erasePlane a0 a1 a2 a3) = memOf a3 := by
  unfold erasePlane
  (try dsimp only); (repeat' split) <;> simp [*]

@[simp] theorem abortPat_mem (a0 : State) : memOf (abortPat a0) = memOf a0 := by
  unfold abortPat
  simp [*]

@[simp] theorem loadPlane_mem (a0 : Plane) (a1 : State) : memOf (loadPlane a0 a1) = memOf a1 := by
  unfold loadPlane
  simp [*]

@[simp] theorem setRegions_mem (a0 : BitVec 4096) (a1 : State) : memOf (setRegions a0 a1) = memOf a1 := by
  unfold setRegions
  simp [*]

@[simp] theorem initAll_mem (a0 : State) : memOf (initAll a0) = memOf a0 := by
  unfold initAll
  simp [*]

@[simp] theorem swapRefused_mem (a0 : Option Plane) (a1 : Nat) (a2 : State) : memOf (swapRefused a0 a1 a2) = memOf a2 := by
  unfold swapRefused
  (try dsimp only); (repeat' split) <;> simp [*]

@[simp] theorem readCarry_mem (a0 : State) : memOf (readCarry a0) = memOf a0 := by
  unfold readCarry
  simp [*]

@[simp] theorem startOutage_mem (a0 : Swap) (a1 : State) : memOf (startOutage a0 a1) = memOf a1 := by
  unfold startOutage
  simp [*]

@[simp] theorem swapCmd_mem (a0 : Bool) (a1 : Option Plane) (a2 : Bool) (a3 : State) : memOf (swapCmd a0 a1 a2 a3) = memOf a3 := by
  unfold swapCmd
  (try dsimp only); (repeat' split) <;> simp [*]

@[simp] theorem swapAtDue_mem (a0 : State) : memOf (swapAtDue a0) = memOf a0 := by
  unfold swapAtDue
  (try dsimp only); (repeat' split) <;> simp [*]

@[simp] theorem writeCarry_mem (a0 : List Nat) (a1 : State) : memOf (writeCarry a0 a1) = memOf a1 := by
  unfold writeCarry
  simp [*]

@[simp] theorem countUnmatched_mem (a0 : List Nat) (a1 : State) : memOf (countUnmatched a0 a1) = memOf a1 := by
  unfold countUnmatched
  simp [*]

@[simp] theorem endOutage_mem (a0 : Swap) (a1 : State) : memOf (endOutage a0 a1) = memOf a1 := by
  unfold endOutage
  simp [*]

@[simp] theorem storeSelection_mem (a0 : State) : memOf (storeSelection a0) = memOf a0 := by
  unfold storeSelection
  (try dsimp only); (repeat' split) <;> simp [*]

@[simp] theorem swapSucceeds_mem (a0 : Swap) (a1 : State) : memOf (swapSucceeds a0 a1) = memOf a1 := by
  unfold swapSucceeds
  simp [*]

@[simp] theorem hemFails_mem (a0 : State) : memOf (hemFails a0) = memOf a0 := by
  unfold hemFails
  simp [*]

@[simp] theorem swapReport_mem (a0 : State) : memOf (swapReport a0) = memOf a0 := by
  unfold swapReport
  simp [*]

@[simp] theorem swapReturns_mem (a0 : Swap) (a1 : Plane) (a2 : State) : memOf (swapReturns a0 a1 a2) = memOf a2 := by
  unfold swapReturns
  simp [*]

@[simp] theorem swapToHem_mem (a0 : Swap) (a1 : State) : memOf (swapToHem a0 a1) = memOf a1 := by
  unfold swapToHem
  simp [*]

@[simp] theorem wdgRestartAll_mem (a0 : State) : memOf (wdgRestartAll a0) = memOf a0 := by
  unfold wdgRestartAll
  simp [*]

@[simp] theorem swapOnHem_mem (a0 : Swap) (a1 : State) : memOf (swapOnHem a0 a1) = memOf a1 := by
  unfold swapOnHem
  simp [*]

@[simp] theorem swapFails_mem (a0 : Swap) (a1 : State) : memOf (swapFails a0 a1) = memOf a1 := by
  unfold swapFails
  (try dsimp only); (repeat' split) <;> simp [*]

@[simp] theorem outageCheck_mem (a0 : Swap) (a1 : State) : memOf (outageCheck a0 a1) = memOf a1 := by
  unfold outageCheck
  (try dsimp only); (repeat' split) <;> simp [*]

@[simp] theorem patDue_mem (a0 : State) : memOf (patDue a0) = memOf a0 := by
  unfold patDue
  (try dsimp only); (repeat' split) <;> simp [*]

@[simp] theorem confirm_mem (a0 : State) : memOf (confirm a0) = memOf a0 := by
  unfold confirm
  simp [*]

@[simp] theorem patCmd_mem (a0 : Nat) (a1 : Word) (a2 : Bool) (a3 : State) : memOf (patCmd a0 a1 a2 a3) = memOf a3 := by
  unfold patCmd
  (try dsimp only); (repeat' split) <;> simp [*]

@[simp] theorem basteJudged_mem (a0 : Nat) (a1 : Nat) (a2 : BitVec 4096) (a3 : Option (Nat × Nat)) (a4 : State) :
    memOf (basteJudged a0 a1 a2 a3 a4) = memOf a4 := by
  unfold basteJudged
  (try dsimp only); (repeat' split) <;> simp [*]

@[simp] theorem startBaste_mem (a0 : State) : memOf (startBaste a0) = memOf a0 := by
  unfold startBaste
  simp [*]

@[simp] theorem basteFails_mem (a0 : Nat) (a1 : Nat) (a2 : State) : memOf (basteFails a0 a1 a2) = memOf a2 := by
  unfold basteFails
  simp [*]

@[simp] theorem abortBaste_mem (a0 : State) : memOf (abortBaste a0) = memOf a0 := by
  unfold abortBaste
  (try dsimp only); (repeat' split) <;> simp [*]

@[simp] theorem setBasted_mem (a0 : BitVec 128) (a1 : Bool) (a2 : State) : memOf (setBasted a0 a1 a2) = memOf a2 := by
  unfold setBasted
  simp [*]

@[simp] theorem basteReleases_mem (a0 : Baste) (a1 : State) : memOf (basteReleases a0 a1) = memOf a1 := by
  unfold basteReleases
  simp [*]

@[simp] theorem bastePass2_mem (a0 : Baste) (a1 : State) : memOf (bastePass2 a0 a1) = memOf a1 := by
  unfold bastePass2
  (try dsimp only); (repeat' split) <;> simp [*]

@[simp] theorem basDue_mem (a0 : State) : memOf (basDue a0) = memOf a0 := by
  unfold basDue
  (try dsimp only); (repeat' split) <;> simp [*]

@[simp] theorem restoreFails_mem (a0 : Nat) (a1 : Nat) (a2 : State) : memOf (restoreFails a0 a1 a2) = memOf a2 := by
  unfold restoreFails
  simp [*]

@[simp] theorem restoreRegions_mem (a0 : State) : memOf (restoreRegions a0) = memOf a0 := by
  unfold restoreRegions
  (try dsimp only); (repeat' split) <;> simp [*]

@[simp] theorem restoreReleases_mem (a0 : BitVec 128) (a1 : State) : memOf (restoreReleases a0 a1) = memOf a1 := by
  unfold restoreReleases
  simp [*]

@[simp] theorem restoreDue_mem (a0 : State) : memOf (restoreDue a0) = memOf a0 := by
  unfold restoreDue
  (try dsimp only); (repeat' split) <;> simp [*]

@[simp] theorem basCmd_mem (a0 : Word) (a1 : State) : memOf (basCmd a0 a1) = memOf a1 := by
  unfold basCmd
  (try dsimp only); (repeat' split) <;> simp [*]

/-! ### Machine/Pins.lean -/

@[simp] theorem disarmPin_mem (a0 : Nat) (a1 : State) : memOf (disarmPin a0 a1) = memOf a1 := by
  unfold disarmPin
  simp [*]

@[simp] theorem switchOne_mem (a0 : Nat) (a1 : Nat) (a2 : Nat) (a3 : Bool) (a4 : State) : memOf (switchOne a0 a1 a2 a3 a4) = memOf a4 := by
  unfold switchOne
  (try dsimp only); (repeat' split) <;> simp [*]

@[simp] theorem switchPin_mem (a0 : Nat) (a1 : Nat) (a2 : Nat) (a3 : Bool) (a4 : Bool) (a5 : State) :
    memOf (switchPin a0 a1 a2 a3 a4 a5) = memOf a5 := by
  unfold switchPin
  simp [*]

@[simp] theorem writeMux_mem (a0 : Nat) (a1 : Word) (a2 : State) : memOf (writeMux a0 a1 a2).1 = memOf a2 := by
  unfold writeMux
  simp [*]

@[simp] theorem applyMuxNext_mem (a0 : List Nat) (a1 : State) : memOf (applyMuxNext a0 a1) = memOf a1 := by
  unfold applyMuxNext
  simp [*]

@[simp] theorem outSet_mem (a0 : Nat) (a1 : Bool) (a2 : Word) (a3 : State) : memOf (outSet a0 a1 a2 a3) = memOf a3 := by
  unfold outSet
  simp [*]

@[simp] theorem outClr_mem (a0 : Nat) (a1 : Bool) (a2 : Word) (a3 : State) : memOf (outClr a0 a1 a2 a3) = memOf a3 := by
  unfold outClr
  simp [*]

@[simp] theorem outApplied_mem (a0 : Nat) (a1 : State) : memOf (outApplied a0 a1) = memOf a1 := by
  unfold outApplied
  simp [*]

@[simp] theorem writeCfg_mem (a0 : Nat) (a1 : Word) (a2 : State) : memOf (writeCfg a0 a1 a2).1 = memOf a2 := by
  unfold writeCfg
  simp [*]

@[simp] theorem setLatch_mem (a0 : Nat) (a1 : State) : memOf (setLatch a0 a1).1 = memOf a1 := by
  unfold setLatch
  simp [*]

@[simp] theorem latchClear_mem (a0 : Nat) (a1 : Bool) (a2 : Word) (a3 : State) : memOf (latchClear a0 a1 a2 a3) = memOf a3 := by
  unfold latchClear
  simp [*]

@[simp] theorem pinDetect_mem (a0 : Nat) (a1 : Option Bool) (a2 : Nat) (a3 : State) : memOf (pinDetect a0 a1 a2 a3).1 = memOf a3 := by
  unfold pinDetect
  simp [*]

@[simp] theorem mismatchEdge_mem (a0 : Nat) (a1 : State) (a2 : Nat) : memOf (mismatchEdge a0 a1 a2) = memOf a1 := by
  unfold mismatchEdge
  simp [*]

@[simp] theorem mismatch_mem (a0 : Nat) (a1 : Bool) (a2 : Bool) (a3 : Bool) (a4 : State) : memOf (mismatch a0 a1 a2 a3 a4) = memOf a4 := by
  unfold mismatch
  simp [*]

@[simp] theorem railFault_mem (a0 : Nat) (a1 : State) : memOf (railFault a0 a1) = memOf a1 := by
  unfold railFault
  simp [*]

@[simp] theorem railRetry_mem (a0 : Nat) (a1 : State) : memOf (railRetry a0 a1) = memOf a1 := by
  unfold railRetry
  simp [*]

@[simp] theorem railRises_mem (a0 : State) (a1 : Nat) : memOf (railRises a0 a1) = memOf a0 := by
  unfold railRises
  (try dsimp only); (repeat' split) <;> simp [*]

@[simp] theorem pinsFromImage_mem (a0 : BitVec 4096) (a1 : State) : memOf (pinsFromImage a0 a1) = memOf a1 := by
  unfold pinsFromImage
  simp [*]

@[simp] theorem captureNap_mem (a0 : State) : memOf (captureNap a0) = memOf a0 := by
  unfold captureNap
  simp [*]

@[simp] theorem dropNap_mem (a0 : State) : memOf (dropNap a0) = memOf a0 := by
  unfold dropNap
  simp [*]

@[simp] theorem pinSoftReset_mem (a0 : Nat) (a1 : State) : memOf (pinSoftReset a0 a1) = memOf a1 := by
  unfold pinSoftReset
  simp [*]

@[simp] theorem latchBank_mem (a0 : State) (a1 : Nat) : memOf (latchBank a0 a1) = memOf a0 := by
  unfold latchBank
  simp [*]

@[simp] theorem tablesAt_mem (a0 : Nat → Bool) (a1 : Nat) (a2 : State) : memOf (tablesAt a0 a1 a2) = memOf a2 := by
  unfold tablesAt
  simp [*]

@[simp] theorem leavesGroup_mem (a0 : Nat) (a1 : Nat) (a2 : State) : memOf (leavesGroup a0 a1 a2) = memOf a2 := by
  unfold leavesGroup
  simp [*]

@[simp] theorem switchBegins_mem (a0 : Nat) (a1 : Nat) (a2 : PinSwitch) (a3 : State) : memOf (switchBegins a0 a1 a2 a3) = memOf a3 := by
  unfold switchBegins
  simp [*]

@[simp] theorem switchEdge_mem (a0 : Nat) (a1 : State) (a2 : Nat) : memOf (switchEdge a0 a1 a2) = memOf a1 := by
  unfold switchEdge
  (try dsimp only); (repeat' split) <;> simp [*]

@[simp] theorem padsEdge_mem (a0 : Nat) (a1 : State) : memOf (padsEdge a0 a1) = memOf a1 := by
  unfold padsEdge
  simp [*]

@[simp] theorem latchesPast_mem (a0 : State) : memOf (latchesPast a0) = memOf a0 := by
  unfold latchesPast
  simp [*]

/-! ### Machine/Pleats.lean -/

@[simp] theorem tableApplied_mem (a0 : Nat) (a1 : Word) (a2 : State) : memOf (tableApplied a0 a1 a2) = memOf a2 := by
  unfold tableApplied
  simp [*]

@[simp] theorem takeTables_mem (a0 : Nat) (a1 : Nat) (a2 : State) : memOf (takeTables a0 a1 a2) = memOf a2 := by
  unfold takeTables
  simp [*]

@[simp] theorem frameBegins_mem (a0 : Nat) (a1 : Nat) (a2 : State) : memOf (frameBegins a0 a1 a2) = memOf a2 := by
  unfold frameBegins
  simp [*]

@[simp] theorem groupStart_mem (a0 : Nat) (a1 : Bool) (a2 : State) : memOf (groupStart a0 a1 a2) = memOf a2 := by
  unfold groupStart
  simp [*]

@[simp] theorem groupDone_mem (a0 : Nat) (a1 : State) : memOf (groupDone a0 a1) = memOf a1 := by
  unfold groupDone
  simp [*]

@[simp] theorem groupStop_mem (a0 : Nat) (a1 : State) : memOf (groupStop a0 a1) = memOf a1 := by
  unfold groupStop
  simp [*]

@[simp] theorem groupHalt_mem (a0 : Nat) (a1 : State) : memOf (groupHalt a0 a1) = memOf a1 := by
  unfold groupHalt
  simp [*]

@[simp] theorem groupCmd_mem (a0 : Nat) (a1 : Word) (a2 : State) : memOf (groupCmd a0 a1 a2).1 = memOf a2 := by
  unfold groupCmd
  (try dsimp only); (repeat' split) <;> simp [*]

@[simp] theorem groupBegins_mem (a0 : Nat) (a1 : State) : memOf (groupBegins a0 a1) = memOf a1 := by
  unfold groupBegins
  simp [*]

@[simp] theorem sampleNow_mem (a0 : Nat) (a1 : State) : memOf (sampleNow a0 a1) = memOf a1 := by
  unfold sampleNow
  simp [*]

@[simp] theorem groupSample_mem (a0 : Nat) (a1 : State) : memOf (groupSample a0 a1) = memOf a1 := by
  unfold groupSample
  simp [*]

@[simp] theorem slotBoundary_mem (a0 : Nat) (a1 : State) : memOf (slotBoundary a0 a1) = memOf a1 := by
  unfold slotBoundary
  simp [*]

@[simp] theorem frameEndNow_mem (a0 : Nat) (a1 : State) : memOf (frameEndNow a0 a1) = memOf a1 := by
  unfold frameEndNow
  simp [*]

@[simp] theorem frameEnd_mem (a0 : Nat) (a1 : State) : memOf (frameEnd a0 a1) = memOf a1 := by
  unfold frameEnd
  simp [*]

@[simp] theorem tteArm_mem (a0 : Nat) (a1 : State) : memOf (tteArm a0 a1).1 = memOf a1 := by
  unfold tteArm
  simp [*]

@[simp] theorem tteCancel_mem (a0 : Nat) (a1 : State) : memOf (tteCancel a0 a1) = memOf a1 := by
  unfold tteCancel
  simp [*]

@[simp] theorem tteFire_mem (a0 : Nat) (a1 : State) : memOf (tteFire a0 a1) = memOf a1 := by
  unfold tteFire
  simp [*]

@[simp] theorem pleatStopAll_mem (a0 : State) : memOf (pleatStopAll a0) = memOf a0 := by
  unfold pleatStopAll
  simp [*]

@[simp] theorem pleatNapOne_mem (a0 : State) (a1 : Nat) : memOf (pleatNapOne a0 a1) = memOf a0 := by
  unfold pleatNapOne
  simp [*]

@[simp] theorem pleatNap_mem (a0 : State) : memOf (pleatNap a0) = memOf a0 := by
  unfold pleatNap
  simp [*]

@[simp] theorem pleatWake_mem (a0 : State) : memOf (pleatWake a0) = memOf a0 := by
  unfold pleatWake
  simp [*]

/-! ### Machine/Seam.lean -/

@[simp] theorem setSeam_mem (a0 : Nat) (a1 : SeamPanel) (a2 : State) : memOf (setSeam a0 a1 a2) = memOf a2 := by
  unfold setSeam
  simp [*]

@[simp] theorem setShadow_mem (a0 : Nat) (a1 : Option (Nat × Word)) (a2 : State) : memOf (setShadow a0 a1 a2) = memOf a2 := by
  unfold setShadow
  simp [*]

@[simp] theorem stage_mem (a0 : Nat) (a1 : Nat) (a2 : Word) (a3 : State) : memOf (stage a0 a1 a2 a3).1 = memOf a3 := by
  unfold stage
  simp [*]

@[simp] theorem dropStaged_mem (a0 : Nat) (a1 : State) : memOf (dropStaged a0 a1) = memOf a1 := by
  unfold dropStaged
  simp [*]

@[simp] theorem dropPageStaged_mem (a0 : Nat) (a1 : State) : memOf (dropPageStaged a0 a1) = memOf a1 := by
  unfold dropPageStaged
  simp [*]

@[simp] theorem seamCode_mem (a0 : Nat) (a1 : Nat) (a2 : State) : memOf (seamCode a0 a1 a2) = memOf a2 := by
  unfold seamCode
  simp [*]

@[simp] theorem commitReq_mem (a0 : Nat) (a1 : Bool) (a2 : State) : memOf (commitReq a0 a1 a2) = memOf a2 := by
  unfold commitReq
  simp [*]

@[simp] theorem discardReq_mem (a0 : Nat) (a1 : State) : memOf (discardReq a0 a1) = memOf a1 := by
  unfold discardReq
  (try dsimp only); (repeat' split) <;> simp [*]

@[simp] theorem sealPoint_mem (a0 : Nat) (a1 : State) : memOf (sealPoint a0 a1) = memOf a1 := by
  unfold sealPoint
  (try dsimp only); (repeat' split) <;> simp [*]

@[simp] theorem moveRefused_mem (a0 : Nat) (a1 : Nat) (a2 : State) : memOf (moveRefused a0 a1 a2) = memOf a2 := by
  unfold moveRefused
  simp [*]

@[simp] theorem dropKept_mem (a0 : Nat) (a1 : State) : memOf (dropKept a0 a1) = memOf a1 := by
  unfold dropKept
  simp [*]

@[simp] theorem applyInit_mem (a0 : Nat) (a1 : Word) (a2 : State) : memOf (applyInit a0 a1 a2) = memOf a2 := by
  unfold applyInit
  simp [*]

@[simp] theorem applyOwn_mem (a0 : Nat) (a1 : Nat) (a2 : Nat) (a3 : State) : memOf (applyOwn a0 a1 a2 a3) = memOf a3 := by
  unfold applyOwn
  (try dsimp only); (repeat' split) <;> simp [*]

@[simp] theorem applyReg_mem (a0 : Nat) (a1 : Word) (a2 : State) : memOf (applyReg a0 a1 a2) = memOf a2 := by
  unfold applyReg
  simp [*]

@[simp] theorem applyPanel_mem (a0 : Nat) (a1 : State) (a2 : Nat) : memOf (applyPanel a0 a1 a2) = memOf a1 := by
  unfold applyPanel
  simp [*]

@[simp] theorem applyOwners_mem (a0 : Nat) (a1 : List (Nat × Word)) (a2 : State) : memOf (applyOwners a0 a1 a2) = memOf a2 := by
  unfold applyOwners
  simp [*]

@[simp] theorem deferCommit_mem (a0 : State) (a1 : Nat) : memOf (deferCommit a0 a1) = memOf a0 := by
  unfold deferCommit
  (try dsimp only); (repeat' split) <;> simp [*]

@[simp] theorem commitRefused_mem (a0 : State) (a1 : Nat) : memOf (commitRefused a0 a1) = memOf a0 := by
  unfold commitRefused
  simp [*]

@[simp] theorem applyTick_mem (a0 : State) : memOf (applyTick a0) = memOf a0 := by
  unfold applyTick
  simp [*]

@[simp] theorem snapCode_mem (a0 : Nat) (a1 : Nat) (a2 : State) : memOf (snapCode a0 a1 a2) = memOf a2 := by
  unfold snapCode
  simp [*]

@[simp] theorem takeReq_mem (a0 : Nat) (a1 : Bool) (a2 : State) : memOf (takeReq a0 a1 a2) = memOf a2 := by
  unfold takeReq
  simp [*]

@[simp] theorem releaseReq_mem (a0 : Nat) (a1 : State) : memOf (releaseReq a0 a1) = memOf a1 := by
  unfold releaseReq
  simp [*]

@[simp] theorem contestSeam_mem (a0 : Nat) (a1 : State) : memOf (contestSeam a0 a1) = memOf a1 := by
  unfold contestSeam
  simp [*]

@[simp] theorem seamHibernate_mem (a0 : State) : memOf (seamHibernate a0) = memOf a0 := by
  unfold seamHibernate
  simp [*]

end Sys2Proof.Machine
end

