-- ==== Sys2Proof/Laws/MemBobbin.lean ====
section
/-!
SUPPORT. Memory through Bobbin and the Spool: what leaves it as it is (`_mem`) and what keeps its canonical form (`_wf`).
-/

namespace Sys2Proof.Machine

/-! ### Machine/Threads.lean -/

@[simp] theorem setCore_mem (a0 : Nat) (a1 : Core) (a2 : State) : memOf (setCore a0 a1 a2) = memOf a2 := by
  unfold setCore
  simp [*]

@[simp] theorem updCtx_mem (a0 : Nat) (a1 : Ctx → Ctx) (a2 : State) : memOf (updCtx a0 a1 a2) = memOf a2 := by
  unfold updCtx
  simp [*]

@[simp] theorem setThread_mem (a0 : Nat) (a1 : Thread) (a2 : State) : memOf (setThread a0 a1 a2) = memOf a2 := by
  unfold setThread
  simp [*]

@[simp] theorem updThread_mem (a0 : Nat) (a1 : Thread → Thread) (a2 : State) : memOf (updThread a0 a1 a2) = memOf a2 := by
  unfold updThread
  simp [*]

@[simp] theorem setTCtx_mem (a0 : Nat) (a1 : Ctx → Ctx) (a2 : State) : memOf (setTCtx a0 a1 a2) = memOf a2 := by
  unfold setTCtx
  simp [*]

@[simp] theorem setSem_mem (a0 : Nat) (a1 : Sem) (a2 : State) : memOf (setSem a0 a1 a2) = memOf a2 := by
  unfold setSem
  simp [*]

@[simp] theorem setGrp_mem (a0 : Nat) (a1 : Grp) (a2 : State) : memOf (setGrp a0 a1 a2) = memOf a2 := by
  unfold setGrp
  simp [*]

@[simp] theorem dropResv_mem (a0 : Option Nat) (a1 : Nat) (a2 : Nat) (a3 : State) : memOf (dropResv a0 a1 a2 a3) = memOf a3 := by
  unfold dropResv
  simp [*]

@[simp] theorem putBy_wf (a0 : Option Nat) (a1 : Nat) (a2 : List Byte) (a3 : State) (hw :
    Memory.wf (memOf a3) = true) : Memory.wf (memOf (putBy a0 a1 a2 a3)) = true := by
  unfold putBy
  simp (maxDischargeDepth := 30) +contextual [*]

@[simp] theorem putBytes_wf (a0 : Nat) (a1 : List Byte) (a2 : State) (hw :
    Memory.wf (memOf a2) = true) : Memory.wf (memOf (putBytes a0 a1 a2)) = true := by
  unfold putBytes
  simp (maxDischargeDepth := 30) +contextual [*]

@[simp] theorem memStore_wf (a0 : Nat) (a1 : Nat) (a2 : Nat) (a3 : State) (hw :
    Memory.wf (memOf a3) = true) : Memory.wf (memOf (memStore a0 a1 a2 a3)) = true := by
  unfold memStore
  simp (maxDischargeDepth := 30) +contextual [*]

@[simp] theorem drainOne_wf (a0 : Nat) (a1 : State) (hw : Memory.wf (memOf a1) = true) : Memory.wf (memOf (drainOne a0 a1)) = true := by
  unfold drainOne
  (try dsimp only); (repeat' split) <;> simp (maxDischargeDepth := 30) +contextual [*]

@[simp] theorem drainAll_wf (a0 : Nat) (a1 : State) (hw : Memory.wf (memOf a1) = true) : Memory.wf (memOf (drainAll a0 a1)) = true := by
  unfold drainAll
  simp (maxDischargeDepth := 30) +contextual [*]

@[simp] theorem notePeak_mem (a0 : State) : memOf (notePeak a0) = memOf a0 := by
  unfold notePeak
  simp [*]

@[simp] theorem spoolWrite_mem (a0 : Nat) (a1 : Nat) (a2 : List Entry) (a3 : State) : memOf (spoolWrite a0 a1 a2 a3) = memOf a3 := by
  unfold spoolWrite
  simp [*]

@[simp] theorem addBlock_mem (a0 : Bool) (a1 : SpBlock) (a2 : State) : memOf (addBlock a0 a1 a2) = memOf a2 := by
  unfold addBlock
  simp [*]

theorem spoolTail_mem (a0 : Entry) (a1 : State) : ∀ t, spoolTail a0 a1 = some t → memOf t = memOf a1 := by
  intro t h
  unfold spoolTail at h
  first
  | (cases h; simp +contextual [*]; done)
  | (dsimp only at h; (repeat' (split at h)) <;> first | (cases h; done) | (cases h; simp +contextual [*]; done) | (simp [acts, okIf] at h; subst h; simp +contextual [*]; done) | (simp_all; done))
  | (simp at h; simp_all; done)

theorem spoolPlace_mem (a0 : Entry) (a1 : State) : ∀ t, spoolPlace a0 a1 = some t → memOf t = memOf a1 := by
  intro t h
  unfold spoolPlace at h
  split at h
  · exact spoolTail_mem _ _ _ h
  · split at h
    · exact nomatch h
    · extract_lets l es at h
      rw [Option.some.injEq] at h
      rw [← h]
      simp

@[simp] theorem freeStale_mem (a0 : State) : memOf (freeStale a0) = memOf a0 := by
  unfold freeStale
  simp [*]

@[simp] theorem spillOne_mem (a0 : State) : memOf (spillOne a0) = memOf a0 := by
  unfold spillOne
  (try dsimp only); (repeat' split) <;> simp [*]

@[simp] theorem toPbuf_mem (a0 : Entry) (a1 : State) : memOf (toPbuf a0 a1) = memOf a1 := by
  unfold toPbuf
  simp [*]

theorem placeNow_mem (a0 : Entry) (a1 : State) : ∀ t, placeNow a0 a1 = some t → memOf t = memOf a1 := by
  intro t h
  unfold placeNow at h
  repeat' (split at h)
  all_goals first | exact spoolPlace_mem _ _ _ h | (cases h; done) | (cases h; simp)

@[simp] theorem drainPbuf_mem (a0 : State) : memOf (drainPbuf a0) = memOf a0 := by
  unfold drainPbuf
  refine (foldl_mem _ _ _ fun s e => ?_).trans (by simp)
  cases h : placeNow e s with
  | none => simp
  | some t => simp [placeNow_mem _ _ _ h]

@[simp] theorem makeRoom_mem (a0 : State) : memOf (makeRoom a0) = memOf a0 := by
  unfold makeRoom
  simp [*]

theorem placeEntry_mem (a0 : Entry) (a1 : State) : ∀ t, placeEntry a0 a1 = some t → memOf t = memOf a1 := by
  intro t h
  unfold placeEntry at h
  extract_lets s at h
  have hs : memOf s = memOf a1 := drainPbuf_mem _
  split at h
  · rw [placeNow_mem _ _ _ h, hs]
  · split at h
    · exact nomatch h
    · rw [placeNow_mem _ _ _ h]
      simp [hs]

@[simp] theorem refuse_mem (a0 : Nat) (a1 : State) : memOf (refuse a0 a1) = memOf a1 := by
  unfold refuse
  simp [*]

@[simp] theorem placeLeaving_mem (a0 : Entry) (a1 : State) : memOf (placeLeaving a0 a1) = memOf a1 := by
  unfold placeLeaving
  extract_lets onto r chip
  have ho : ∀ s, memOf (onto s) = memOf s := fun _ => rfl
  have hr : memOf r = memOf a1 := by simp [r]
  have hp : ∀ s u, memOf u = memOf s → memOf ((spoolPlace a0 s).getD u) = memOf s := by
    intro s u hu
    cases h : spoolPlace a0 s with
    | none => exact hu
    | some t => exact spoolPlace_mem _ _ _ h
  have hc : memOf chip = memOf a1 := by
    simp only [chip]
    split
    · rfl
    · split
      · simp
      · split
        · rw [hp _ _ (ho _), hr]
        · rw [ho, hr]
  split
  · exact hp _ _ hc
  · exact hc

@[simp] theorem dropEntry_mem (a0 : Nat) (a1 : State) : memOf (dropEntry a0 a1) = memOf a1 := by
  unfold dropEntry
  simp [*]

@[simp] theorem newEntry_mem (a0 : Nat) (a1 : Nat) (a2 : Bool) (a3 : State) : memOf (newEntry a0 a1 a2 a3).2 = memOf a3 := by
  unfold newEntry
  simp [*]

@[simp] theorem holdWith_mem (a0 : Entry) (a1 : Nat) (a2 : State) : memOf (holdWith a0 a1 a2) = memOf a2 := by
  unfold holdWith
  simp [*]

@[simp] theorem unhold_mem (a0 : State) (a1 : Entry) : memOf (unhold a0 a1) = memOf a0 := by
  unfold unhold
  dsimp only
  cases h : placeEntry { a1 with held := none } (dropEntry a1.thread a0) with
  | none => simp
  | some t => rw [Option.getD_some, placeEntry_mem _ _ _ h]; simp

@[simp] theorem withdraw_mem (a0 : State) : memOf (withdraw a0) = memOf a0 := by
  unfold withdraw
  simp [*]

@[simp] theorem bobFetch_mem (a0 : Nat) (a1 : Nat) (a2 : State) : memOf (bobFetch a0 a1 a2).1 = memOf a2 := by
  unfold bobFetch
  simp [*]

@[simp] theorem bobStore_mem (a0 : Nat) (a1 : Nat) (a2 : State) : memOf (bobStore a0 a1 a2) = memOf a2 := by
  unfold bobStore
  simp [*]

@[simp] theorem loadRecord_mem (a0 : Nat) (a1 : State) : memOf (loadRecord a0 a1) = memOf a1 := by
  unfold loadRecord
  (try dsimp only); (repeat' split) <;> simp [*]

@[simp] theorem storeRecord_mem (a0 : Nat) (a1 : State) : memOf (storeRecord a0 a1) = memOf a1 := by
  unfold storeRecord
  (try dsimp only); (repeat' split) <;> simp [*]

@[simp] theorem touch_mem (a0 : Nat) (a1 : State) : memOf (touch a0 a1) = memOf a1 := by
  unfold touch
  simp [*]

@[simp] theorem setCache_mem (a0 : List Nat) (a1 : State) : memOf (setCache a0 a1) = memOf a1 := by
  unfold setCache
  simp [*]

theorem cacheRoom_mem (a0 : Nat) (a1 : Bool) (a2 : State) : ∀ t, cacheRoom a0 a1 a2 = some t → memOf t = memOf a2 := by
  intro t h
  unfold cacheRoom at h
  dsimp only at h
  split at h
  · cases h; simp
  · rw [Option.map_eq_some_iff] at h
    obtain ⟨v, _, h⟩ := h
    rw [← h]
    simp

@[simp] theorem loadCache_mem (a0 : Nat) (a1 : Bool) (a2 : State) : memOf (loadCache a0 a1 a2) = memOf a2 := by
  unfold loadCache
  split
  · simp
  · cases h : cacheRoom a0 a1 a2 with
    | none => simp
    | some t => simp [cacheRoom_mem _ _ _ _ h]

@[simp] theorem newCache_mem (a0 : Nat) (a1 : State) : memOf (newCache a0 a1) = memOf a1 := by
  unfold newCache
  split
  · simp
  · cases h : cacheRoom a0 true a1 with
    | none => simp
    | some t => simp [cacheRoom_mem _ _ _ _ h]

@[simp] theorem prefetch_mem (a0 : Nat) (a1 : State) : memOf (prefetch a0 a1) = memOf a1 := by
  unfold prefetch
  simp [*]

@[simp] theorem choose_mem (a0 : Nat) (a1 : Nat) (a2 : State) : memOf (choose a0 a1 a2) = memOf a2 := by
  unfold choose
  simp [*]

@[simp] theorem settle_mem (a0 : State) : memOf (settle a0) = memOf a0 := by
  unfold settle
  extract_lets s1
  have h1 : memOf s1 = memOf a0 := drainPbuf_mem _
  split
  · rw [freeStale_mem, drainPbuf_mem]
    refine (foldl_mem _ _ _ fun s t => ?_).trans ?_
    · split
      · rfl
      · split <;> simp
    · rw [withdraw_mem]
      refine (foldl_mem _ _ _ fun s t => ?_).trans h1
      split <;> simp
  · simp [h1]

@[simp] theorem becomeReady_mem (a0 : Nat) (a1 : Nat) (a2 : State) : memOf (becomeReady a0 a1 a2).1 = memOf a2 := by
  have hn : memOf (newEntry a0 a1 false a2).2 = memOf a2 := by simp
  unfold becomeReady
  revert hn
  cases newEntry a0 a1 false a2 with
  | mk e t =>
  intro hn
  dsimp only at hn ⊢
  split
  · simp [hn]
  · split
    · simp [hn]
    · split
      · rename_i u h; exact (placeEntry_mem _ _ _ h).trans hn
      · simp

@[simp] theorem rejoin_mem (a0 : Nat) (a1 : Bool) (a2 : Nat) (a3 : State) : memOf (rejoin a0 a1 a2 a3) = memOf a3 := by
  unfold rejoin
  simp [*]

@[simp] theorem saveFp_mem (a0 : Nat) (a1 : List (Nat × DWord)) (a2 : State) : memOf (saveFp a0 a1 a2) = memOf a2 := by
  unfold saveFp
  simp [*]

@[simp] theorem leaveCore_wf (a0 : Nat) (a1 : State) (hw : Memory.wf (memOf a1) = true) : Memory.wf (memOf (leaveCore a0 a1)) = true := by
  unfold leaveCore
  (try dsimp only); (repeat' split) <;> simp (maxDischargeDepth := 30) +contextual [*]

@[simp] theorem noteLatency_mem (a0 : Nat) (a1 : State) : memOf (noteLatency a0 a1) = memOf a1 := by
  unfold noteLatency
  simp [*]

@[simp] theorem restoreThread_mem (a0 : Nat) (a1 : Ecc) (a2 : State) : memOf (restoreThread a0 a1 a2) = memOf a2 := by
  unfold restoreThread
  (try dsimp only); (repeat' split) <;> simp [*]

@[simp] theorem trapTo_mem (a0 : Nat) (a1 : Nat) (a2 : Bool) (a3 : DWord) (a4 : State) : memOf (trapTo a0 a1 a2 a3 a4) = memOf a4 := by
  unfold trapTo
  simp [*]

@[simp] theorem except_mem (a0 : Nat) (a1 : Nat) (a2 : DWord) (a3 : State) : memOf (except a0 a1 a2 a3) = memOf a3 := by
  unfold except
  simp [*]

@[simp] theorem illegal_mem (a0 : Nat) (a1 : Nat) (a2 : State) : memOf (illegal a0 a1 a2) = memOf a2 := by
  unfold illegal
  simp [*]

@[simp] theorem coreFault_mem (a0 : Nat) (a1 : Nat) (a2 : Nat) (a3 : Nat) (a4 : State) : memOf (coreFault a0 a1 a2 a3 a4) = memOf a4 := by
  unfold coreFault
  simp [*]

@[simp] theorem pmpFault_mem (a0 : Initiator) (a1 : Nat) (a2 : Nat) (a3 : State) : memOf (pmpFault a0 a1 a2 a3) = memOf a3 := by
  unfold pmpFault
  (try dsimp only); (repeat' split) <;> simp [*]

@[simp] theorem drainFor_wf (a0 : Initiator) (a1 : State) (hw :
    Memory.wf (memOf a1) = true) : Memory.wf (memOf (drainFor a0 a1)) = true := by
  unfold drainFor
  (try dsimp only); (repeat' split) <;> simp (maxDischargeDepth := 30) +contextual [*]

@[simp] theorem onWay_wf (a0 : Initiator) (a1 : Nat) (a2 : Nat) (a3 : Nat) (a4 : State → State) (a5 : State)
    (h4 : ∀ x0, Memory.wf (memOf x0) = true → Memory.wf (memOf (a4 x0)) = true) (hw :
    Memory.wf (memOf a5) = true) : Memory.wf (memOf (onWay a0 a1 a2 a3 a4 a5)) = true := by
  unfold onWay
  simp (maxDischargeDepth := 30) +contextual [*]

/-! ### Machine/Bobbin.lean -/

@[simp] theorem resBump_mem (a0 : Option Nat) (a1 : State) : memOf (resBump a0 a1) = memOf a1 := by
  unfold resBump
  simp [*]

@[simp] theorem complete_mem (a0 : Nat) (a1 : Nat) (a2 : Option Nat) (a3 : Nat) (a4 : State) :
    memOf (complete a0 a1 a2 a3 a4) = memOf a4 := by
  unfold complete
  simp [*]

@[simp] theorem passStore_mem (a0 : Nat) (a1 : State) : memOf (passStore a0 a1) = memOf a1 := by
  unfold passStore
  simp [*]

@[simp] theorem setRes_mem (a0 : Nat) (a1 : DWord) (a2 : State) : memOf (setRes a0 a1 a2) = memOf a2 := by
  unfold setRes
  simp [*]

@[simp] theorem placeEntry_getD_mem (e : Entry) (s t : State) (h : memOf t = memOf s) : memOf ((placeEntry e s).getD t) = memOf s := by
  cases hp : placeEntry e s with
  | none => exact h
  | some u => exact placeEntry_mem _ _ _ hp

@[simp] theorem setEff_mem (a0 : Nat) (a1 : Nat) (a2 : State) : memOf (setEff a0 a1 a2) = memOf a2 := by
  unfold setEff
  (try dsimp only); (repeat' split) <;> simp [*]

@[simp] theorem inherit'_mem (a0 : Nat) (a1 : Nat) (a2 : State) : memOf (inherit' a0 a1 a2) = memOf a2 := by
  induction a0 generalizing a1 a2 with
  | zero => rfl
  | succ n ih =>
    unfold inherit'
    dsimp only
    repeat' split
    all_goals simp [ih]

@[simp] theorem reinherit_mem (a0 : Nat) (a1 : State) : memOf (reinherit a0 a1) = memOf a1 := by
  unfold reinherit
  simp [*]

@[simp] theorem leaveWait_mem (a0 : Nat) (a1 : State) : memOf (leaveWait a0 a1) = memOf a1 := by
  unfold leaveWait
  (try dsimp only); (repeat' split) <;> simp [*]

@[simp] theorem wake_mem (a0 : Nat) (a1 : DWord) (a2 : Nat) (a3 : State) : memOf (wake a0 a1 a2 a3) = memOf a3 := by
  unfold wake
  simp [*]

@[simp] theorem timersOut_mem (a0 : State) : memOf (timersOut a0) = memOf a0 := by
  unfold timersOut
  simp [*]

@[simp] theorem startWait_wf (a0 : Nat) (a1 : Nat) (a2 : Nat) (a3 : DWord) (a4 : State) (hw :
    Memory.wf (memOf a4) = true) : Memory.wf (memOf (startWait a0 a1 a2 a3 a4)) = true := by
  unfold startWait
  (try dsimp only); (repeat' split) <;> simp (maxDischargeDepth := 30) +contextual [*]

@[simp] theorem noteDiscard_mem (a0 : State) : memOf (noteDiscard a0) = memOf a0 := by
  unfold noteDiscard
  simp [*]

@[simp] theorem deliver_mem (a0 : Nat) (a1 : Bool) (a2 : Nat) (a3 : State) : memOf (deliver a0 a1 a2 a3).1 = memOf a3 := by
  unfold deliver
  (try dsimp only); (repeat' split) <;> simp [*]

@[simp] theorem handOver_mem (a0 : Nat) (a1 : State) : memOf (handOver a0 a1) = memOf a1 := by
  unfold handOver
  (try dsimp only); (repeat' split) <;> simp [*]

@[simp] theorem semPost_mem (a0 : Nat) (a1 : Option Nat) (a2 : State) : memOf (semPost a0 a1 a2).1 = memOf a2 := by
  unfold semPost
  (try dsimp only); (repeat' split) <;> simp [*]

@[simp] theorem abandonAll_mem (a0 : Nat) (a1 : State) : memOf (abandonAll a0 a1) = memOf a1 := by
  unfold abandonAll
  simp [*]

@[simp] theorem semTake_wf (a0 : Nat) (a1 : Nat) (a2 : Nat) (a3 : DWord) (a4 : State) (hw :
    Memory.wf (memOf a4) = true) : Memory.wf (memOf (semTake a0 a1 a2 a3 a4)) = true := by
  unfold semTake
  (try dsimp only); (repeat' split) <;> simp (maxDischargeDepth := 30) +contextual [*]

@[simp] theorem examine_mem (a0 : Nat) (a1 : State) : memOf (examine a0 a1) = memOf a1 := by
  unfold examine
  simp [*]

@[simp] theorem flagsChange_mem (a0 : Nat) (a1 : Word) (a2 : Word) (a3 : State) : memOf (flagsChange a0 a1 a2 a3) = memOf a3 := by
  unfold flagsChange
  simp [*]

@[simp] theorem flagsWait_wf (a0 : Nat) (a1 : Nat) (a2 : Nat) (a3 : DWord) (a4 : State) (hw :
    Memory.wf (memOf a4) = true) : Memory.wf (memOf (flagsWait a0 a1 a2 a3 a4)) = true := by
  unfold flagsWait
  simp (maxDischargeDepth := 30) +contextual [*]

@[simp] theorem unchoose_mem (a0 : Nat) (a1 : State) : memOf (unchoose a0 a1) = memOf a1 := by
  unfold unchoose
  simp [*]

@[simp] theorem noteCleared_mem (a0 : Thread) (a1 : State) : memOf (noteCleared a0 a1) = memOf a1 := by
  unfold noteCleared
  simp [*]

@[simp] theorem suspend_mem (a0 : Nat) (a1 : State) : memOf (suspend a0 a1).1 = memOf a1 := by
  unfold suspend
  (try dsimp only); (repeat' split) <;> simp [*]

@[simp] theorem cancel_mem (a0 : Nat) (a1 : State) : memOf (cancel a0 a1).1 = memOf a1 := by
  unfold cancel
  (try dsimp only); (repeat' split) <;> simp [*]

@[simp] theorem stopDoor_wf (a0 : Nat) (a1 : Nat) (a2 : Bool) (a3 : State) (hw :
    Memory.wf (memOf a3) = true) : Memory.wf (memOf (stopDoor a0 a1 a2 a3)) = true := by
  unfold stopDoor
  (try dsimp only); (repeat' split) <;> simp (maxDischargeDepth := 30) +contextual [*]

@[simp] theorem yieldDoor_wf (a0 : Nat) (a1 : Nat) (a2 : State) (hw :
    Memory.wf (memOf a2) = true) : Memory.wf (memOf (yieldDoor a0 a1 a2)) = true := by
  unfold yieldDoor
  (try dsimp only); (repeat' split) <;> simp (maxDischargeDepth := 30) +contextual [*]

@[simp] theorem waitDoor_wf (a0 : Nat) (a1 : DWord) (a2 : State) (hw :
    Memory.wf (memOf a2) = true) : Memory.wf (memOf (waitDoor a0 a1 a2)) = true := by
  unfold waitDoor
  (try dsimp only); (repeat' split) <;> simp (maxDischargeDepth := 30) +contextual [*]

@[simp] theorem delayDoor_wf (a0 : Nat) (a1 : DWord) (a2 : State) (hw :
    Memory.wf (memOf a2) = true) : Memory.wf (memOf (delayDoor a0 a1 a2)) = true := by
  unfold delayDoor
  (try dsimp only); (repeat' split) <;> simp (maxDischargeDepth := 30) +contextual [*]

@[simp] theorem signalDoor_mem (a0 : Nat) (a1 : DWord) (a2 : State) : memOf (signalDoor a0 a1 a2) = memOf a2 := by
  unfold signalDoor
  simp [*]

@[simp] theorem readyDoor_mem (a0 : Nat) (a1 : DWord) (a2 : State) : memOf (readyDoor a0 a1 a2) = memOf a2 := by
  unfold readyDoor
  simp [*]

@[simp] theorem doorbell_wf (a0 : Nat) (a1 : Nat) (a2 : DWord) (a3 : State) (hw :
    Memory.wf (memOf a3) = true) : Memory.wf (memOf (doorbell a0 a1 a2 a3)) = true := by
  unfold doorbell
  (try dsimp only); (repeat' split) <;> simp (maxDischargeDepth := 30) +contextual [*]

@[simp] theorem initThread_mem (a0 : Nat) (a1 : Nat) (a2 : Ecc) (a3 : State) : memOf (initThread a0 a1 a2 a3).1 = memOf a3 := by
  unfold initThread
  simp [*]

@[simp] theorem freeThread_mem (a0 : Nat) (a1 : State) : memOf (freeThread a0 a1).1 = memOf a1 := by
  unfold freeThread
  simp [*]

@[simp] theorem readThread_wf (a0 : Nat) (a1 : Nat) (a2 : State) (hw :
    Memory.wf (memOf a2) = true) : Memory.wf (memOf (readThread a0 a1 a2).1) = true := by
  unfold readThread
  simp (maxDischargeDepth := 30) +contextual [*]

@[simp] theorem setPrio_mem (a0 : Nat) (a1 : Nat) (a2 : State) : memOf (setPrio a0 a1 a2).1 = memOf a2 := by
  unfold setPrio
  simp [*]

@[simp] theorem setAffinity_mem (a0 : Nat) (a1 : Nat) (a2 : State) : memOf (setAffinity a0 a1 a2).1 = memOf a2 := by
  unfold setAffinity
  simp [*]

@[simp] theorem setPin'_mem (a0 : Nat) (a1 : Nat) (a2 : State) : memOf (setPin' a0 a1 a2).1 = memOf a2 := by
  unfold setPin'
  simp [*]

@[simp] theorem threadCmd_wf (a0 : Word) (a1 : Ecc) (a2 : State) (hw :
    Memory.wf (memOf a2) = true) : Memory.wf (memOf (threadCmd a0 a1 a2)) = true := by
  unfold threadCmd
  simp (maxDischargeDepth := 30) +contextual [*]

@[simp] theorem objCmd_mem (a0 : Word) (a1 : State) : memOf (objCmd a0 a1) = memOf a1 := by
  unfold objCmd
  simp [*]

@[simp] theorem cmdDone_mem (a0 : State) : memOf (cmdDone a0) = memOf a0 := by
  unfold cmdDone
  (try dsimp only); (repeat' split) <;> simp [*]

@[simp] theorem event_mem (a0 : Nat) (a1 : State) : memOf (event a0 a1) = memOf a1 := by
  unfold event
  simp [*]

@[simp] theorem bindHold_mem (a0 : Word) (a1 : State) : memOf (bindHold a0 a1) = memOf a1 := by
  unfold bindHold
  simp [*]

@[simp] theorem bindWrite_mem (a0 : Word) (a1 : State) : memOf (bindWrite a0 a1).1 = memOf a1 := by
  unfold bindWrite
  simp [*]

@[simp] theorem eventAct_mem (a0 : Nat) (a1 : State) : memOf (eventAct a0 a1) = memOf a1 := by
  unfold eventAct
  simp [*]

@[simp] theorem recoverOne_mem (a0 : State) : memOf (recoverOne a0) = memOf a0 := by
  unfold recoverOne
  (try dsimp only); (repeat' split) <;> simp [*]

@[simp] theorem opResult_mem (a0 : Nat) (a1 : Nat) (a2 : Nat) (a3 : Nat) (a4 : State) : memOf (opResult a0 a1 a2 a3 a4) = memOf a4 := by
  unfold opResult
  simp [*]

@[simp] theorem timeoutEnds_mem (a0 : Nat) (a1 : State) : memOf (timeoutEnds a0 a1) = memOf a1 := by
  unfold timeoutEnds
  (try dsimp only); (repeat' split) <;> simp [*]

@[simp] theorem noteContest_mem (a0 : Reached) (a1 : State) : memOf (noteContest a0 a1) = memOf a1 := by
  unfold noteContest
  (try dsimp only); (repeat' split) <;> simp [*]

@[simp] theorem intakeTaken_mem (a0 : State) : memOf (intakeTaken a0) = memOf a0 := by
  unfold intakeTaken
  simp [*]

theorem opsOf_run_wf (a1 : State) (r : BobReq) (o : BobOp) (ho : o ∈ opsOf a1 r) (s : State) (hs : Memory.wf (memOf s) = true) :
    Memory.wf (memOf (o.run s)) = true := by
  cases r with
  | door c off arg =>
    simp only [opsOf] at ho
    split at ho
    · cases ho
    · split at ho
      · rw [List.mem_singleton] at ho
        subst ho
        simp [hs]
      · rw [List.mem_singleton] at ho
        subst ho
        exact doorbell_wf _ _ _ _ (drainAll_wf _ _ hs)
  | makeReady w =>
    simp only [opsOf] at ho
    split at ho
    · rw [List.mem_singleton] at ho
      subst ho
      simp [hs]
    · cases ho
  | cancel w =>
    simp only [opsOf] at ho
    split at ho
    · rw [List.mem_singleton] at ho
      subst ho
      simp [hs]
    · cases ho
  | tcmd w e =>
    simp only [opsOf] at ho
    split at ho
    · rw [List.mem_singleton] at ho
      subst ho
      exact threadCmd_wf _ _ _ hs
    · cases ho
  | objCmd w =>
    simp only [opsOf] at ho
    split at ho
    · rw [List.mem_singleton] at ho
      subst ho
      simp [hs]
    · cases ho
  | timeout t =>
    simp only [opsOf] at ho
    split at ho
    · rw [List.mem_singleton] at ho
      subst ho
      simp [hs]
    · cases ho
  | intake =>
    simp only [opsOf] at ho
    split at ho
    · rw [List.mem_map] at ho
      obtain ⟨x, _, rfl⟩ := ho
      simp [hs]
    · cases ho
  | recovery =>
    simp only [opsOf] at ho
    split at ho
    · rw [List.mem_singleton] at ho
      subst ho
      simp [hs]
    · cases ho

theorem mem_insOp (b : Nat) (o : BobOp) (l : List BobOp) : ∀ x ∈ insOp b o l, x = o ∨ x ∈ l := by
  induction l with
  | nil => intro x hx; simp [insOp] at hx; exact Or.inl hx
  | cons y l ih =>
    intro x hx
    simp only [insOp] at hx
    split at hx
    · simpa using hx
    · simp only [List.mem_cons] at hx ⊢
      rcases hx with rfl | hx
      · exact Or.inr (Or.inl rfl)
      · rcases ih x hx with h | h
        · exact Or.inl h
        · exact Or.inr (Or.inr h)

theorem mem_foldl_insOp (b : Nat) (l acc : List BobOp) : ∀ x ∈ l.foldl (fun l o => insOp b o l) acc, x ∈ l ∨ x ∈ acc := by
  induction l generalizing acc with
  | nil => intro x hx; exact Or.inr hx
  | cons y l ih =>
    intro x hx
    rcases ih _ x hx with h | h
    · exact Or.inl (List.mem_cons_of_mem _ h)
    · rcases mem_insOp _ _ _ x h with rfl | h
      · exact Or.inl List.mem_cons_self
      · exact Or.inr h

theorem nextOp_mem (b : Nat) (s : State) (l : List BobOp) (o : BobOp) (h : nextOp b s l = some o) : o ∈ l := by
  unfold nextOp at h
  cases hf : l.find? fun o => !l.any fun a => a.req != o.req && precedes b s a o with
  | none => rw [hf, Option.none_or] at h; exact List.mem_of_head? h
  | some x => rw [hf, Option.some_or] at h; cases h; exact List.mem_of_find?_eq_some hf

theorem applyOps_wf (b n : Nat) (l : List BobOp) (held met : Reached) (s : State)
    (hl : ∀ o ∈ l, ∀ s : State, Memory.wf (memOf s) = true → Memory.wf (memOf (o.run s)) = true) (hw : Memory.wf (memOf s) = true) :
    Memory.wf (memOf (applyOps b n l held met s).1) = true := by
  induction n generalizing l held met s with
  | zero => exact hw
  | succ n ih =>
    unfold applyOps
    split
    · exact hw
    · rename_i o ho
      refine ih _ _ _ _ (fun x hx => hl x (List.mem_filter.mp hx |>.1)) ?_
      rw [settle_mem]
      exact hl o (nextOp_mem _ _ _ _ ho) s hw

@[simp] theorem bobCycle_wf (a0 : List BobReq) (a1 : State) (hw :
    Memory.wf (memOf a1) = true) : Memory.wf (memOf (bobCycle a0 a1)) = true := by
  unfold bobCycle
  extract_lets rs ops t r
  have ht : Memory.wf (memOf t) = true := by
    simp only [t]
    split <;> simp [hw]
  rw [noteContest_mem]
  refine applyOps_wf _ _ _ _ _ _ (fun o ho => ?_) ht
  rcases mem_foldl_insOp _ _ _ o ho with h | h
  · rw [List.mem_flatMap] at h
    obtain ⟨q, _, hq⟩ := h
    exact opsOf_run_wf _ q o hq
  · cases h

/-! ### Machine/Spool.lean -/

@[simp] theorem dispatchPoint_wf (a0 : Nat) (a1 : Ecc) (a2 : State) (hw :
    Memory.wf (memOf a2) = true) : Memory.wf (memOf (dispatchPoint a0 a1 a2)) = true := by
  unfold dispatchPoint
  (try dsimp only); (repeat' split) <;> simp (maxDischargeDepth := 30) +contextual [*]

@[simp] theorem dispatchCore_mem (a0 : Nat) (a1 : Ecc) (a2 : State) : memOf (dispatchCore a0 a1 a2) = memOf a2 := by
  unfold dispatchCore
  simp [*]

@[simp] theorem quantumExpiry_mem (a0 : Nat) (a1 : State) : memOf (quantumExpiry a0 a1) = memOf a1 := by
  unfold quantumExpiry
  (try dsimp only); (repeat' split) <;> simp [*]

@[simp] theorem spill_mem (a0 : State) : memOf (spill a0) = memOf a0 := by
  unfold spill
  simp [*]

@[simp] theorem spoolEcc_mem (a0 : Nat) (a1 : State) : memOf (spoolEcc a0 a1) = memOf a1 := by
  unfold spoolEcc
  (try dsimp only); (repeat' split) <;> simp [*]

@[simp] theorem rebuildDue_mem (a0 : State) : memOf (rebuildDue a0) = memOf a0 := by
  unfold rebuildDue
  simp [*]

@[simp] theorem blockFetch_mem (a0 : SpBlock) (a1 : State) : memOf (blockFetch a0 a1).1 = memOf a1 := by
  unfold blockFetch
  simp [*]

@[simp] theorem refill_mem (a0 : State) : memOf (refill a0) = memOf a0 := by
  unfold refill
  (try dsimp only); (repeat' split) <;> simp [*]

@[simp] theorem spoolSearch_mem (a0 : Nat) (a1 : State) : memOf (spoolSearch a0 a1) = memOf a1 := by
  unfold spoolSearch
  (try dsimp only); (repeat' split) <;> simp [*]

@[simp] theorem coreLost_wf (a0 : Nat) (a1 : State) (hw : Memory.wf (memOf a1) = true) : Memory.wf (memOf (coreLost a0 a1).1) = true := by
  unfold coreLost
  (try dsimp only); (repeat' split) <;> simp (maxDischargeDepth := 30) +contextual [*]

@[simp] theorem clusterLost_wf (a0 : Nat) (a1 : State) (hw :
    Memory.wf (memOf a1) = true) : Memory.wf (memOf (clusterLost a0 a1)) = true := by
  unfold clusterLost
  simp (maxDischargeDepth := 30) +contextual [*]

@[simp] theorem clusterOffSet_wf (a0 : Nat) (a1 : State) (hw :
    Memory.wf (memOf a1) = true) : Memory.wf (memOf (clusterOffSet a0 a1)) = true := by
  unfold clusterOffSet
  simp (maxDischargeDepth := 30) +contextual [*]

@[simp] theorem flushStart_mem (a0 : State) : memOf (flushStart a0) = memOf a0 := by
  unfold flushStart
  simp [*]

@[simp] theorem flushChosen_wf (a0 : State) (hw : Memory.wf (memOf a0) = true) : Memory.wf (memOf (flushChosen a0)) = true := by
  unfold flushChosen
  refine foldl_wf _ _ _ hw fun s c hs => ?_
  split
  · simp [hs]
  · exact hs

@[simp] theorem flushFinish_wf (a0 : State) (hw : Memory.wf (memOf a0) = true) : Memory.wf (memOf (flushFinish a0)) = true := by
  unfold flushFinish
  simp (maxDischargeDepth := 30) +contextual [*]

@[simp] theorem spoolBad_mem (a0 : Nat) (a1 : State) : memOf (spoolBad a0 a1) = memOf a1 := by
  unfold spoolBad
  simp [*]

@[simp] theorem refillReserved_mem (a0 : State) : memOf (refillReserved a0) = memOf a0 := by
  unfold refillReserved
  simp [*]

@[simp] theorem loadPinned_mem (a0 : State) : memOf (loadPinned a0) = memOf a0 := by
  unfold loadPinned
  simp [*]

@[simp] theorem bobRestore_mem (a0 : Bool) (a1 : State) : memOf (bobRestore a0 a1) = memOf a1 := by
  unfold bobRestore
  simp [*]

end Sys2Proof.Machine
end

