-- ==== Sys2Proof/Laws/MemStores.lean ====
section
/-!
SUPPORT. Memory through the memories, the flash and the queues: what leaves it as it is (`_mem`) and what keeps its canonical form (`_wf`).
-/

namespace Sys2Proof.Machine

/-! ### Machine/Memory.lean -/

@[simp] theorem fillSegment_mem (a0 : State) : memOf (fillSegment a0) = memOf a0 := by
  unfold fillSegment
  simp [*]

@[simp] theorem dramDown_mem (a0 : State) : memOf (dramDown a0) = memOf a0 := by
  unfold dramDown
  simp [*]

@[simp] theorem scrubStep_mem (a0 : Ecc) (a1 : State) : memOf (scrubStep a0 a1) = memOf a1 := by
  unfold scrubStep
  simp [*]

@[simp] theorem turnBanks_mem (a0 : List MemReq) (a1 : State) : memOf (turnBanks a0 a1) = memOf a1 := by
  unfold turnBanks
  simp [*]

@[simp] theorem memHour_mem (a0 : State) : memOf (memHour a0) = memOf a0 := by
  unfold memHour
  simp [*]

@[simp] theorem memHold_wf (a0 : State) (hw : Memory.wf (memOf a0) = true) : Memory.wf (memOf (memHold a0)) = true := by
  unfold memHold
  simp (maxDischargeDepth := 30) +contextual [*]

@[simp] theorem memWake_wf (a0 : Nat) (a1 : State) (hw : Memory.wf (memOf a1) = true) : Memory.wf (memOf (memWake a0 a1)) = true := by
  unfold memWake
  simp (maxDischargeDepth := 30) +contextual [*]

/-! ### Machine/Flash.lean -/

@[simp] theorem setFbank_mem (a0 : Nat) (a1 : FlsBank) (a2 : State) : memOf (setFbank a0 a1 a2) = memOf a2 := by
  unfold setFbank
  simp [*]

@[simp] theorem setBlock_mem (a0 : Nat) (a1 : Nat) (a2 : State) : memOf (setBlock a0 a1 a2) = memOf a2 := by
  unfold setBlock
  simp [*]

@[simp] theorem wearBlock_mem (a0 : Nat) (a1 : State) : memOf (wearBlock a0 a1) = memOf a1 := by
  unfold wearBlock
  simp [*]

@[simp] theorem dropCopy_mem (a0 : Nat) (a1 : Nat) (a2 : State) : memOf (dropCopy a0 a1 a2) = memOf a2 := by
  unfold dropCopy
  (try dsimp only); (repeat' split) <;> simp [*]

@[simp] theorem flashUe_mem (a0 : Nat) (a1 : State) : memOf (flashUe a0 a1) = memOf a1 := by
  unfold flashUe
  simp [*]

@[simp] theorem noteWeak_mem (a0 : Nat) (a1 : State) : memOf (noteWeak a0 a1) = memOf a1 := by
  unfold noteWeak
  simp [*]

@[simp] theorem flashCheck_mem (a0 : Nat) (a1 : Nat) (a2 : Ecc) (a3 : State) : memOf (flashCheck a0 a1 a2 a3).1 = memOf a3 := by
  unfold flashCheck
  (try dsimp only); (repeat' split) <;> simp [*]

@[simp] theorem flashInv_mem (a0 : Nat) (a1 : Nat) (a2 : State) : memOf (flashInv a0 a1 a2) = memOf a2 := by
  unfold flashInv
  simp [*]

theorem flashHit_mem (a0 : Nat) (a1 : State) : ∀ t, flashHit a0 a1 = some t → memOf t = memOf a1 := by
  intro t h
  unfold flashHit at h
  first
  | (cases h; simp +contextual [*]; done)
  | (dsimp only at h; (repeat' (split at h)) <;> first | (cases h; done) | (cases h; simp +contextual [*]; done) | (simp [acts, okIf] at h; subst h; simp +contextual [*]; done) | (simp_all; done))
  | (simp at h; simp_all; done)

@[simp] theorem flashFetchLine_mem (a0 : Nat) (a1 : State) : memOf (flashFetchLine a0 a1) = memOf a1 := by
  unfold flashFetchLine
  extract_lets
  split
  · rename_i t h; exact (flashHit_mem _ _ _ h).trans rfl
  · rfl

@[simp] theorem jWrite_wf (a0 : Nat) (a1 : Nat) (a2 : Nat) (a3 : Nat) (a4 : Nat) (a5 : State) (hw :
    Memory.wf (memOf a5) = true) : Memory.wf (memOf (jWrite a0 a1 a2 a3 a4 a5)) = true := by
  unfold jWrite
  simp (maxDischargeDepth := 30) +contextual [*]

@[simp] theorem wipe_wf (a0 : Nat) (a1 : Nat) (a2 : State) (hw :
    Memory.wf (memOf a2) = true) : Memory.wf (memOf (wipe a0 a1 a2)) = true := by
  unfold wipe
  simp (maxDischargeDepth := 30) +contextual [*]

@[simp] theorem jErase_wf (a0 : Nat) (a1 : State) (hw : Memory.wf (memOf a1) = true) : Memory.wf (memOf (jErase a0 a1)) = true := by
  unfold jErase
  simp (maxDischargeDepth := 30) +contextual [*]

@[simp] theorem jMove_wf (a0 : Nat) (a1 : State) (hw : Memory.wf (memOf a1) = true) : Memory.wf (memOf (jMove a0 a1)) = true := by
  unfold jMove
  simp (maxDischargeDepth := 30) +contextual [*]

@[simp] theorem jTidy_wf (a0 : State) (hw : Memory.wf (memOf a0) = true) : Memory.wf (memOf (jTidy a0)) = true := by
  unfold jTidy
  simp (maxDischargeDepth := 30) +contextual [*]

@[simp] theorem jMerge_wf (a0 : State) (hw : Memory.wf (memOf a0) = true) : Memory.wf (memOf (jMerge a0)) = true := by
  unfold jMerge
  simp (maxDischargeDepth := 30) +contextual [*]

@[simp] theorem jOpen_wf (a0 : Nat) (a1 : Nat) (a2 : State) (hw :
    Memory.wf (memOf a2) = true) : Memory.wf (memOf (jOpen a0 a1 a2)) = true := by
  unfold jOpen
  (try dsimp only); (repeat' split) <;> simp (maxDischargeDepth := 30) +contextual [*]

@[simp] theorem jClose_wf (a0 : Nat) (a1 : Nat) (a2 : State) (hw :
    Memory.wf (memOf a2) = true) : Memory.wf (memOf (jClose a0 a1 a2)) = true := by
  unfold jClose
  (try dsimp only); (repeat' split) <;> simp (maxDischargeDepth := 30) +contextual [*]

@[simp] theorem dqError_mem (a0 : Nat) (a1 : Nat) (a2 : State) : memOf (dqError a0 a1 a2) = memOf a2 := by
  unfold dqError
  simp [*]

@[simp] theorem flsSettle_mem (a0 : State) : memOf (flsSettle a0) = memOf a0 := by
  unfold flsSettle
  simp [*]

@[simp] theorem descDone_wf (a0 : Desc) (a1 : Nat) (a2 : Nat) (a3 : Bool) (a4 : State) (hw :
    Memory.wf (memOf a4) = true) : Memory.wf (memOf (descDone a0 a1 a2 a3 a4)) = true := by
  unfold descDone
  simp (maxDischargeDepth := 30) +contextual [*]

@[simp] theorem opDone_wf (a0 : FlsOp) (a1 : Nat) (a2 : Nat) (a3 : Bool) (a4 : State) (hw :
    Memory.wf (memOf a4) = true) : Memory.wf (memOf (opDone a0 a1 a2 a3 a4)) = true := by
  unfold opDone
  (try dsimp only); (repeat' split) <;> simp (maxDischargeDepth := 30) +contextual [*]

@[simp] theorem dqTake_wf (a0 : Desc) (a1 : Nat) (a2 : State) (hw :
    Memory.wf (memOf a2) = true) : Memory.wf (memOf (dqTake a0 a1 a2)) = true := by
  unfold dqTake
  simp (maxDischargeDepth := 30) +contextual [*]

@[simp] theorem dqFetch_wf (a0 : Ecc) (a1 : State) (hw : Memory.wf (memOf a1) = true) : Memory.wf (memOf (dqFetch a0 a1)) = true := by
  unfold dqFetch
  simp (maxDischargeDepth := 30) +contextual [*]

@[simp] theorem replayKick_mem (a0 : State) : memOf (replayKick a0) = memOf a0 := by
  unfold replayKick
  (try dsimp only); rw [foldl_mem] <;> first | (intro s x; (try dsimp only); (repeat' split) <;> simp [*]) | (simp [*])

@[simp] theorem grantStart_mem (a0 : Nat) (a1 : List Nat) (a2 : State) : memOf (grantStart a0 a1 a2).1 = memOf a2 := by
  unfold grantStart
  simp [*]

@[simp] theorem markStarted_mem (a0 : Desc) (a1 : State) : memOf (markStarted a0 a1) = memOf a1 := by
  unfold markStarted
  simp [*]

@[simp] theorem programWords_wf (a0 : Nat) (a1 : List Byte) (a2 : State) (hw :
    Memory.wf (memOf a2) = true) : Memory.wf (memOf (programWords a0 a1 a2)) = true := by
  unfold programWords
  simp (maxDischargeDepth := 30) +contextual [*]

@[simp] theorem scramble_wf (a0 : Nat) (a1 : List Byte) (a2 : State) (hw :
    Memory.wf (memOf a2) = true) : Memory.wf (memOf (scramble a0 a1 a2)) = true := by
  unfold scramble
  simp (maxDischargeDepth := 30) +contextual [*]

@[simp] theorem sparesLow_mem (a0 : Nat) (a1 : State) : memOf (sparesLow a0 a1) = memOf a1 := by
  unfold sparesLow
  simp [*]

@[simp] theorem unusable_mem (a0 : Nat) (a1 : State) : memOf (unusable a0 a1) = memOf a1 := by
  unfold unusable
  simp [*]

@[simp] theorem retire_mem (a0 : Nat) (a1 : State) : memOf (retire a0 a1) = memOf a1 := by
  unfold retire
  simp [*]

@[simp] theorem takeSpare_mem (a0 : Nat) (a1 : State) : memOf (takeSpare a0 a1) = memOf a1 := by
  unfold takeSpare
  (try dsimp only); (repeat' split) <;> simp [*]

@[simp] theorem eraseSector_wf (a0 : Nat) (a1 : State) (hw :
    Memory.wf (memOf a1) = true) : Memory.wf (memOf (eraseSector a0 a1)) = true := by
  unfold eraseSector
  simp (maxDischargeDepth := 30) +contextual [*]

@[simp] theorem refuseDesc_wf (a0 : Desc) (a1 : Nat) (a2 : Nat) (a3 : FlashEnv) (a4 : State) (hw :
    Memory.wf (memOf a4) = true) : Memory.wf (memOf (refuseDesc a0 a1 a2 a3 a4)) = true := by
  unfold refuseDesc
  simp (maxDischargeDepth := 30) +contextual [*]

@[simp] theorem bufRead_mem (a0 : State) (a1 : Desc) (a2 : FlashEnv) : memOf (bufRead a0 a1 a2).1 = memOf a0 := by
  unfold bufRead
  simp [*]

@[simp] theorem startProgram_wf (a0 : Nat) (a1 : FlashEnv) (a2 : State) (hw :
    Memory.wf (memOf a2) = true) : Memory.wf (memOf (startProgram a0 a1 a2)) = true := by
  unfold startProgram
  (try dsimp only); (repeat' split) <;> simp (maxDischargeDepth := 30) +contextual [*]

@[simp] theorem startErase_wf (a0 : Nat) (a1 : FlashEnv) (a2 : State) (hw :
    Memory.wf (memOf a2) = true) : Memory.wf (memOf (startErase a0 a1 a2)) = true := by
  unfold startErase
  (try dsimp only); (repeat' split) <;> simp (maxDischargeDepth := 30) +contextual [*]

@[simp] theorem checkDone_wf (a0 : Nat) (a1 : Desc) (a2 : List Byte) (a3 : FlashEnv) (a4 : State) (hw :
    Memory.wf (memOf a4) = true) : Memory.wf (memOf (checkDone a0 a1 a2 a3 a4)) = true := by
  unfold checkDone
  (try dsimp only); (repeat' split) <;> simp (maxDischargeDepth := 30) +contextual [*]

@[simp] theorem startCheck_wf (a0 : Nat) (a1 : Nat) (a2 : FlashEnv) (a3 : State) (hw :
    Memory.wf (memOf a3) = true) : Memory.wf (memOf (startCheck a0 a1 a2 a3)) = true := by
  unfold startCheck
  (try dsimp only); (repeat' split) <;> simp (maxDischargeDepth := 30) +contextual [*]

@[simp] theorem startMarkBad_wf (a0 : Nat) (a1 : FlashEnv) (a2 : State) (hw :
    Memory.wf (memOf a2) = true) : Memory.wf (memOf (startMarkBad a0 a1 a2)) = true := by
  unfold startMarkBad
  (try dsimp only); (repeat' split) <;> simp (maxDischargeDepth := 30) +contextual [*]

@[simp] theorem startOptErase_wf (a0 : FlashEnv) (a1 : State) (hw :
    Memory.wf (memOf a1) = true) : Memory.wf (memOf (startOptErase a0 a1)) = true := by
  unfold startOptErase
  (try dsimp only); (repeat' split) <;> simp (maxDischargeDepth := 30) +contextual [*]

@[simp] theorem startOptProgram_wf (a0 : FlashEnv) (a1 : State) (hw :
    Memory.wf (memOf a1) = true) : Memory.wf (memOf (startOptProgram a0 a1)) = true := by
  unfold startOptProgram
  (try dsimp only); (repeat' split) <;> simp (maxDischargeDepth := 30) +contextual [*]

@[simp] theorem startSlot_wf (a0 : Nat) (a1 : FlashEnv) (a2 : State) (hw :
    Memory.wf (memOf a2) = true) : Memory.wf (memOf (startSlot a0 a1 a2)) = true := by
  unfold startSlot
  (try dsimp only); (repeat' split) <;> simp (maxDischargeDepth := 30) +contextual [*]

@[simp] theorem startFence_wf (a0 : FlashEnv) (a1 : State) (hw :
    Memory.wf (memOf a1) = true) : Memory.wf (memOf (startFence a0 a1)) = true := by
  unfold startFence
  (try dsimp only); (repeat' split) <;> simp (maxDischargeDepth := 30) +contextual [*]

@[simp] theorem replayDone_wf (a0 : Nat) (a1 : State) (hw : Memory.wf (memOf a1) = true) : Memory.wf (memOf (replayDone a0 a1)) = true := by
  unfold replayDone
  simp (maxDischargeDepth := 30) +contextual [*]

@[simp] theorem eraseStep_wf (a0 : Nat) (a1 : FlsOp) (a2 : Bool) (a3 : Bool) (a4 : State) (hw :
    Memory.wf (memOf a4) = true) : Memory.wf (memOf (eraseStep a0 a1 a2 a3 a4)) = true := by
  unfold eraseStep
  (try dsimp only); (repeat' split) <;> simp (maxDischargeDepth := 30) +contextual [*]

@[simp] theorem programStep_wf (a0 : Nat) (a1 : FlsOp) (a2 : Bool) (a3 : Bool) (a4 : State) (hw :
    Memory.wf (memOf a4) = true) : Memory.wf (memOf (programStep a0 a1 a2 a3 a4)) = true := by
  unfold programStep
  simp (maxDischargeDepth := 30) +contextual [*]

@[simp] theorem optStep_wf (a0 : FlsOp) (a1 : Bool) (a2 : Bool) (a3 : State) (hw :
    Memory.wf (memOf a3) = true) : Memory.wf (memOf (optStep a0 a1 a2 a3)) = true := by
  unfold optStep
  simp (maxDischargeDepth := 30) +contextual [*]

@[simp] theorem flashOpDone_wf (a0 : Nat) (a1 : Bool) (a2 : Bool) (a3 : State) (hw :
    Memory.wf (memOf a3) = true) : Memory.wf (memOf (flashOpDone a0 a1 a2 a3)) = true := by
  unfold flashOpDone
  (try dsimp only); (repeat' split) <;> simp (maxDischargeDepth := 30) +contextual [*]

@[simp] theorem suspendBank_mem (a0 : Nat) (a1 : State) : memOf (suspendBank a0 a1) = memOf a1 := by
  unfold suspendBank
  simp [*]

@[simp] theorem suspendReq_mem (a0 : Nat) (a1 : State) : memOf (suspendReq a0 a1) = memOf a1 := by
  unfold suspendReq
  (try dsimp only); (repeat' split) <;> simp [*]

@[simp] theorem suspendsDue_mem (a0 : State) : memOf (suspendsDue a0) = memOf a0 := by
  unfold suspendsDue
  (try dsimp only); rw [foldl_mem] <;> first | (intro s x; (try dsimp only); (repeat' split) <;> simp [*]) | (simp [*])

@[simp] theorem resumeBank_mem (a0 : Nat) (a1 : State) : memOf (resumeBank a0 a1) = memOf a1 := by
  unfold resumeBank
  simp [*]

@[simp] theorem flashSuspend_mem (a0 : Word) (a1 : State) : memOf (flashSuspend a0 a1) = memOf a1 := by
  unfold flashSuspend
  simp [*]

@[simp] theorem suspendAll_mem (a0 : State) : memOf (suspendAll a0) = memOf a0 := by
  unfold suspendAll
  simp [*]

@[simp] theorem noteHot_mem (a0 : Bool) (a1 : State) : memOf (noteHot a0 a1) = memOf a1 := by
  unfold noteHot
  simp [*]

@[simp] theorem flashPass_mem (a0 : Bool) (a1 : State) : memOf (flashPass a0 a1) = memOf a1 := by
  unfold flashPass
  simp [*]

@[simp] theorem flashPassEnd_mem (a0 : State) : memOf (flashPassEnd a0) = memOf a0 := by
  unfold flashPassEnd
  simp [*]

@[simp] theorem refreshReads_mem (a0 : Nat) (a1 : Nat) (a2 : Ecc) (a3 : State) : memOf (refreshReads a0 a1 a2 a3) = memOf a3 := by
  unfold refreshReads
  simp [*]

@[simp] theorem passNext_mem (a0 : State) : memOf (passNext a0) = memOf a0 := by
  unfold passNext
  simp [*]

@[simp] theorem refreshSwitch_mem (a0 : Nat) (a1 : Nat) (a2 : State) : memOf (refreshSwitch a0 a1 a2) = memOf a2 := by
  unfold refreshSwitch
  simp [*]

@[simp] theorem flashRefreshStep_mem (a0 : Bool) (a1 : Ecc) (a2 : State) : memOf (flashRefreshStep a0 a1 a2) = memOf a2 := by
  unfold flashRefreshStep
  (try dsimp only); (repeat' split) <;> simp [*]

@[simp] theorem holdExpiry_mem (a0 : State) : memOf (holdExpiry a0) = memOf a0 := by
  unfold holdExpiry
  simp [*]

@[simp] theorem holdWrite_mem (a0 : Word) (a1 : State) : memOf (holdWrite a0 a1) = memOf a1 := by
  unfold holdWrite
  simp [*]

@[simp] theorem replayScan_wf (a0 : State) (hw : Memory.wf (memOf a0) = true) : Memory.wf (memOf (replayScan a0)) = true := by
  unfold replayScan
  simp (maxDischargeDepth := 30) +contextual [*]

@[simp] theorem latchOptions_mem (a0 : State) : memOf (latchOptions a0) = memOf a0 := by
  unfold latchOptions
  (try dsimp only); (repeat' split) <;> simp [*]

@[simp] theorem scrambleAll_wf (a0 : Nat) (a1 : Nat) (a2 : State) (hw :
    Memory.wf (memOf a2) = true) : Memory.wf (memOf (scrambleAll a0 a1 a2)) = true := by
  unfold scrambleAll
  simp (maxDischargeDepth := 30) +contextual [*]

@[simp] theorem cutOp_wf (a0 : Nat) (a1 : FlsOp) (a2 : State) (hw :
    Memory.wf (memOf a2) = true) : Memory.wf (memOf (cutOp a0 a1 a2)) = true := by
  unfold cutOp
  simp (maxDischargeDepth := 30) +contextual [*]

@[simp] theorem cutBank_wf (a0 : State) (a1 : Nat) (hw : Memory.wf (memOf a0) = true) : Memory.wf (memOf (cutBank a0 a1)) = true := by
  unfold cutBank
  refine foldl_wf _ _ _ hw fun s o hs => ?_
  exact cutOp_wf _ _ _ hs

@[simp] theorem cutAll_wf (a0 : State) (hw : Memory.wf (memOf a0) = true) : Memory.wf (memOf (cutAll a0)) = true := by
  unfold cutAll
  (try dsimp only); (repeat' split) <;> simp (maxDischargeDepth := 30) +contextual [*]

@[simp] theorem flashHold_wf (a0 : State) (hw : Memory.wf (memOf a0) = true) : Memory.wf (memOf (flashHold a0)) = true := by
  unfold flashHold
  simp (maxDischargeDepth := 30) +contextual [*]

@[simp] theorem flashStart_wf (a0 : State) (hw : Memory.wf (memOf a0) = true) : Memory.wf (memOf (flashStart a0)) = true := by
  unfold flashStart
  simp (maxDischargeDepth := 30) +contextual [*]

@[simp] theorem flashNap_mem (a0 : State) : memOf (flashNap a0) = memOf a0 := by
  unfold flashNap
  simp [*]

@[simp] theorem flashNapWake_mem (a0 : State) : memOf (flashNapWake a0) = memOf a0 := by
  unfold flashNapWake
  simp [*]

@[simp] theorem flashHibernate_wf (a0 : State) (hw : Memory.wf (memOf a0) = true) : Memory.wf (memOf (flashHibernate a0)) = true := by
  unfold flashHibernate
  simp (maxDischargeDepth := 30) +contextual [*]

/-! ### Machine/Queues.lean -/

@[simp] theorem setQue_mem (a0 : Nat) (a1 : Que) (a2 : State) : memOf (setQue a0 a1 a2) = memOf a2 := by
  unfold setQue
  simp [*]

@[simp] theorem queErr_mem (a0 : Nat) (a1 : Nat) (a2 : State) : memOf (queErr a0 a1 a2) = memOf a2 := by
  unfold queErr
  simp [*]

@[simp] theorem threshCheck_mem (a0 : Nat) (a1 : State) : memOf (threshCheck a0 a1) = memOf a1 := by
  unfold threshCheck
  simp [*]

@[simp] theorem seeWrites_mem (a0 : Nat) (a1 : Nat) (a2 : State) : memOf (seeWrites a0 a1 a2) = memOf a2 := by
  unfold seeWrites
  simp [*]

@[simp] theorem fixFlush_mem (a0 : Nat) (a1 : State) : memOf (fixFlush a0 a1) = memOf a1 := by
  unfold fixFlush
  (try dsimp only); (repeat' split) <;> simp [*]

@[simp] theorem arrive_mem (a0 : Nat) (a1 : State) : memOf (arrive a0 a1) = memOf a1 := by
  unfold arrive
  simp [*]

@[simp] theorem seeReads_mem (a0 : Nat) (a1 : Nat) (a2 : State) : memOf (seeReads a0 a1 a2) = memOf a2 := by
  unfold seeReads
  simp [*]

@[simp] theorem shakeDone_mem (a0 : Nat) (a1 : State) : memOf (shakeDone a0 a1) = memOf a1 := by
  unfold shakeDone
  (try dsimp only); (repeat' split) <;> simp [*]

@[simp] theorem shakeNow_mem (a0 : Nat) (a1 : State) : memOf (shakeNow a0 a1) = memOf a1 := by
  unfold shakeNow
  simp [*]

@[simp] theorem flushPoint_mem (a0 : Nat) (a1 : State) : memOf (flushPoint a0 a1) = memOf a1 := by
  unfold flushPoint
  (try dsimp only); (repeat' split) <;> simp [*]

@[simp] theorem queClear_mem (a0 : Nat) (a1 : State) : memOf (queClear a0 a1) = memOf a1 := by
  unfold queClear
  simp [*]

@[simp] theorem startFlush_mem (a0 : Nat) (a1 : Nat) (a2 : Option Nat) (a3 : Bool) (a4 : State) :
    memOf (startFlush a0 a1 a2 a3 a4) = memOf a4 := by
  unfold startFlush
  simp [*]

@[simp] theorem portCmd_mem (a0 : Nat) (a1 : Nat) (a2 : Option Nat) (a3 : Nat) (a4 : State) :
    memOf (portCmd a0 a1 a2 a3 a4) = memOf a4 := by
  unfold portCmd
  simp [*]

@[simp] theorem ownShake_mem (a0 : Nat) (a1 : Nat) (a2 : Nat) (a3 : State) : memOf (ownShake a0 a1 a2 a3) = memOf a3 := by
  unfold ownShake
  (try dsimp only); (repeat' split) <;> simp [*]

@[simp] theorem queDue_mem (a0 : State) (a1 : Nat) : memOf (queDue a0 a1) = memOf a0 := by
  unfold queDue
  (try dsimp only); (repeat' split) <;> simp [*]

@[simp] theorem queWake_mem (a0 : State) : memOf (queWake a0) = memOf a0 := by
  unfold queWake
  simp [*]

@[simp] theorem quesDue_mem (a0 : State) : memOf (quesDue a0) = memOf a0 := by
  unfold quesDue
  simp [*]

@[simp] theorem refuseTag_mem (a0 : Nat) (a1 : State) : memOf (refuseTag a0 a1) = memOf a1 := by
  unfold refuseTag
  simp [*]

@[simp] theorem pushWord_mem (a0 : Nat) (a1 : Nat) (a2 : DWord) (a3 : State) : memOf (pushWord a0 a1 a2 a3).1 = memOf a3 := by
  unfold pushWord
  simp [*]

@[simp] theorem takeAt_mem (a0 : Nat) (a1 : Nat) (a2 : State) : memOf (takeAt a0 a1 a2) = memOf a2 := by
  unfold takeAt
  simp [*]

@[simp] theorem popUe_mem (a0 : Nat) (a1 : State) : memOf (popUe a0 a1) = memOf a1 := by
  unfold popUe
  simp [*]

@[simp] theorem spoilWord_mem (a0 : Nat) (a1 : Nat) (a2 : State) : memOf (spoilWord a0 a1 a2) = memOf a2 := by
  unfold spoilWord
  simp [*]

@[simp] theorem consReady_mem (a0 : Nat) (a1 : State) : memOf (consReady a0 a1) = memOf a1 := by
  unfold consReady
  simp [*]

@[simp] theorem popWord_mem (a0 : Nat) (a1 : Ecc) (a2 : State) : memOf (popWord a0 a1 a2).1 = memOf a2 := by
  unfold popWord
  (try dsimp only); (repeat' split) <;> simp [*]

@[simp] theorem peekWord_mem (a0 : Nat) (a1 : Ecc) (a2 : State) : memOf (peekWord a0 a1 a2).1 = memOf a2 := by
  unfold peekWord
  (try dsimp only); (repeat' split) <;> simp [*]

@[simp] theorem noteQueArb_mem (a0 : Nat) (a1 : Bool) (a2 : List Initiator) (a3 : State) : memOf (noteQueArb a0 a1 a2 a3) = memOf a3 := by
  unfold noteQueArb
  (try dsimp only); (repeat' split) <;> simp [*]

@[simp] theorem queBeat_mem (a0 : Initiator) (a1 : Nat) (a2 : Nat) (a3 : Nat) (a4 : Rw) (a5 : DWord) (a6 : Nat) (a7 : Ecc) (a8 : State) :
    memOf (queBeat a0 a1 a2 a3 a4 a5 a6 a7 a8).1 = memOf a8 := by
  unfold queBeat
  (try dsimp only); (repeat' split) <;> simp [*]

@[simp] theorem forcedReset_mem (a0 : Nat) (a1 : Bool) (a2 : State) : memOf (forcedReset a0 a1 a2) = memOf a2 := by
  unfold forcedReset
  simp [*]

@[simp] theorem queCmd_mem (a0 : Nat) (a1 : Word) (a2 : State) : memOf (queCmd a0 a1 a2) = memOf a2 := by
  unfold queCmd
  simp [*]

@[simp] theorem queCfgWrite_mem (a0 : Nat) (a1 : Word) (a2 : State) : memOf (queCfgWrite a0 a1 a2).1 = memOf a2 := by
  unfold queCfgWrite
  simp [*]

@[simp] theorem threshWrite_mem (a0 : Nat) (a1 : Word) (a2 : State) : memOf (threshWrite a0 a1 a2) = memOf a2 := by
  unfold threshWrite
  simp [*]

@[simp] theorem quePageReset_mem (a0 : Nat) (a1 : State) : memOf (quePageReset a0 a1) = memOf a1 := by
  unfold quePageReset
  simp [*]

end Sys2Proof.Machine
end

