-- ==== Sys2Proof/Laws/MemClocks.lean ====
section
/-!
SUPPORT. Memory through clocks, faults, host ports and the time base: what leaves it as it is (`_mem`) and what keeps its canonical form (`_wf`).
-/

namespace Sys2Proof.Machine

/-! ### Machine/Clocks.lean -/

@[simp] theorem steerBegin_mem (a0 : State) : memOf (steerBegin a0) = memOf a0 := by
  unfold steerBegin
  simp [*]

@[simp] theorem setPll_mem (a0 : Nat) (a1 : Pll) (a2 : State) : memOf (setPll a0 a1 a2) = memOf a2 := by
  unfold setPll
  simp [*]

@[simp] theorem clkRefuse_mem (a0 : Nat) (a1 : Nat) (a2 : State) : memOf (clkRefuse a0 a1 a2) = memOf a2 := by
  unfold clkRefuse
  simp [*]

@[simp] theorem dramForPll2_mem (a0 : Nat) (a1 : Bool) (a2 : State) : memOf (dramForPll2 a0 a1 a2) = memOf a2 := by
  unfold dramForPll2
  simp [*]

@[simp] theorem startRelock_mem (a0 : Nat) (a1 : PllSet) (a2 : Option (Nat × Nat)) (a3 : Bool) (a4 : Bool) (a5 : State) :
    memOf (startRelock a0 a1 a2 a3 a4 a5) = memOf a5 := by
  unfold startRelock
  (try dsimp only); (repeat' split) <;> simp [*]

@[simp] theorem relockCmd_mem (a0 : Nat) (a1 : Bool) (a2 : State) : memOf (relockCmd a0 a1 a2) = memOf a2 := by
  unfold relockCmd
  (try dsimp only); (repeat' split) <;> simp [*]

@[simp] theorem loadShadows_mem (a0 : Nat) (a1 : PllSet) (a2 : State) : memOf (loadShadows a0 a1 a2) = memOf a2 := by
  unfold loadShadows
  simp [*]

@[simp] theorem hopCmd_mem (a0 : Nat) (a1 : Nat) (a2 : Bool) (a3 : State) : memOf (hopCmd a0 a1 a2 a3) = memOf a3 := by
  unfold hopCmd
  (try dsimp only); (repeat' split) <;> simp [*]

@[simp] theorem storeCmd_mem (a0 : Nat) (a1 : Nat) (a2 : State) : memOf (storeCmd a0 a1 a2) = memOf a2 := by
  unfold storeCmd
  simp [*]

@[simp] theorem clearCmd_mem (a0 : Nat) (a1 : Nat) (a2 : State) : memOf (clearCmd a0 a1 a2) = memOf a2 := by
  unfold clearCmd
  simp [*]

@[simp] theorem pllCmd_mem (a0 : Nat) (a1 : Word) (a2 : Bool) (a3 : State) : memOf (pllCmd a0 a1 a2 a3) = memOf a3 := by
  unfold pllCmd
  (try dsimp only); (repeat' split) <;> simp [*]

@[simp] theorem updateOne_mem (a0 : State) (a1 : Nat) : memOf (updateOne a0 a1) = memOf a0 := by
  unfold updateOne
  simp [*]

@[simp] theorem clkUpdate_mem (a0 : Word) (a1 : State) : memOf (clkUpdate a0 a1) = memOf a1 := by
  unfold clkUpdate
  simp [*]

@[simp] theorem applyUpdate_mem (a0 : Nat) (a1 : State) : memOf (applyUpdate a0 a1) = memOf a1 := by
  unfold applyUpdate
  (try dsimp only); (repeat' split) <;> simp [*]

@[simp] theorem updateDone_mem (a0 : Nat) (a1 : State) : memOf (updateDone a0 a1) = memOf a1 := by
  unfold updateDone
  simp [*]

@[simp] theorem pllLock_mem (a0 : Nat) (a1 : State) : memOf (pllLock a0 a1) = memOf a1 := by
  unfold pllLock
  simp [*]

@[simp] theorem coast_mem (a0 : Nat) (a1 : State) : memOf (coast a0 a1) = memOf a1 := by
  unfold coast
  simp [*]

@[simp] theorem relockAfterLoss_mem (a0 : Nat) (a1 : Bool) (a2 : State) : memOf (relockAfterLoss a0 a1 a2) = memOf a2 := by
  unfold relockAfterLoss
  simp [*]

@[simp] theorem lockLost_mem (a0 : Nat) (a1 : Bool) (a2 : State) : memOf (lockLost a0 a1 a2) = memOf a2 := by
  unfold lockLost
  simp [*]

@[simp] theorem refLost_mem (a0 : Fin 3) (a1 : BitVec 8) (a2 : State) : memOf (refLost a0 a1 a2) = memOf a2 := by
  unfold refLost
  simp [*]

@[simp] theorem refRestored_mem (a0 : Fin 3) (a1 : BitVec 8) (a2 : State) : memOf (refRestored a0 a1 a2) = memOf a2 := by
  unfold refRestored
  simp [*]

@[simp] theorem lockTimeout_mem (a0 : Nat) (a1 : State) : memOf (lockTimeout a0 a1) = memOf a1 := by
  unfold lockTimeout
  simp [*]

@[simp] theorem startPlls_mem (a0 : BitVec 8) (a1 : State) : memOf (startPlls a0 a1) = memOf a1 := by
  unfold startPlls
  simp [*]

@[simp] theorem xoReady_mem (a0 : BitVec 8) (a1 : State) : memOf (xoReady a0 a1) = memOf a1 := by
  unfold xoReady
  (try dsimp only); (repeat' split) <;> simp [*]

@[simp] theorem rcFallback_mem (a0 : BitVec 8) (a1 : State) : memOf (rcFallback a0 a1) = memOf a1 := by
  unfold rcFallback
  simp [*]

@[simp] theorem xo32Report_mem (a0 : State) : memOf (xo32Report a0) = memOf a0 := by
  unfold xo32Report
  simp [*]

@[simp] theorem xo32Fail_mem (a0 : State) : memOf (xo32Fail a0) = memOf a0 := by
  unfold xo32Fail
  (try dsimp only); (repeat' split) <;> simp [*]

@[simp] theorem pllCfgWrite_mem (a0 : Nat) (a1 : Word) (a2 : Bool) (a3 : State) : memOf (pllCfgWrite a0 a1 a2 a3) = memOf a3 := by
  unfold pllCfgWrite
  (try dsimp only); (repeat' split) <;> simp [*]

@[simp] theorem pllFracWrite_mem (a0 : Nat) (a1 : Word) (a2 : State) : memOf (pllFracWrite a0 a1 a2) = memOf a2 := by
  unfold pllFracWrite
  simp [*]

@[simp] theorem pllOutWrite_mem (a0 : Nat) (a1 : Nat) (a2 : Word) (a3 : State) : memOf (pllOutWrite a0 a1 a2 a3) = memOf a3 := by
  unfold pllOutWrite
  simp [*]

@[simp] theorem pllCeilWrite_mem (a0 : Nat) (a1 : Nat) (a2 : Word) (a3 : State) : memOf (pllCeilWrite a0 a1 a2 a3) = memOf a3 := by
  unfold pllCeilWrite
  simp [*]

@[simp] theorem setDll_mem (a0 : Nat) (a1 : Dll) (a2 : State) : memOf (setDll a0 a1 a2) = memOf a2 := by
  unfold setDll
  simp [*]

@[simp] theorem dllUnlock_mem (a0 : Nat) (a1 : State) : memOf (dllUnlock a0 a1) = memOf a1 := by
  unfold dllUnlock
  simp [*]

@[simp] theorem dllEnable_mem (a0 : Word) (a1 : State) : memOf (dllEnable a0 a1) = memOf a1 := by
  unfold dllEnable
  simp [*]

/-! ### Machine/Faults.lean -/

@[simp] theorem setAlert_mem (a0 : State) : memOf (setAlert a0) = memOf a0 := by
  unfold setAlert
  simp [*]

@[simp] theorem raiseIsolating_mem (a0 : Nat) (a1 : Bool) (a2 : State) : memOf (raiseIsolating a0 a1 a2) = memOf a2 := by
  unfold raiseIsolating
  simp [*]

@[simp] theorem isolateBolt_mem (a0 : Nat) (a1 : State) : memOf (isolateBolt a0 a1) = memOf a1 := by
  unfold isolateBolt
  simp [*]

@[simp] theorem isolateCluster_wf (a0 : Nat) (a1 : State) (hw :
    Memory.wf (memOf a1) = true) : Memory.wf (memOf (isolateCluster a0 a1)) = true := by
  unfold isolateCluster
  simp (maxDischargeDepth := 30) +contextual [*]

@[simp] theorem collectCluster_wf (a0 : Nat) (a1 : State) (hw :
    Memory.wf (memOf a1) = true) : Memory.wf (memOf (collectCluster a0 a1)) = true := by
  unfold collectCluster
  simp (maxDischargeDepth := 30) +contextual [*]

@[simp] theorem noteVdd_mem (a0 : Nat) (a1 : Nat) (a2 : State) : memOf (noteVdd a0 a1 a2) = memOf a2 := by
  unfold noteVdd
  simp [*]

@[simp] theorem collect_wf (a0 : Nat) (a1 : State) (hw : Memory.wf (memOf a1) = true) : Memory.wf (memOf (collect a0 a1)) = true := by
  unfold collect
  simp (maxDischargeDepth := 30) +contextual [*]

@[simp] theorem localFault_wf (a0 : Nat) (a1 : Nat) (a2 : State) (hw :
    Memory.wf (memOf a2) = true) : Memory.wf (memOf (localFault a0 a1 a2)) = true := by
  unfold localFault
  simp (maxDischargeDepth := 30) +contextual [*]

@[simp] theorem setSensor_mem (a0 : Nat) (a1 : Sensor) (a2 : State) : memOf (setSensor a0 a1 a2) = memOf a2 := by
  unfold setSensor
  simp [*]

@[simp] theorem sensorFails_mem (a0 : Nat) (a1 : State) : memOf (sensorFails a0 a1) = memOf a1 := by
  unfold sensorFails
  simp [*]

@[simp] theorem sampleOne_mem (a0 : Nat) (a1 : BitVec 16) (a2 : Bool) (a3 : State) : memOf (sampleOne a0 a1 a2 a3) = memOf a3 := by
  unfold sampleOne
  simp [*]

@[simp] theorem critAct_wf (a0 : Nat) (a1 : State) (hw : Memory.wf (memOf a1) = true) : Memory.wf (memOf (critAct a0 a1)) = true := by
  unfold critAct
  simp (maxDischargeDepth := 30) +contextual [*]

@[simp] theorem tempRules_wf (a0 : State) (a1 : Nat) (hw : Memory.wf (memOf a0) = true) : Memory.wf (memOf (tempRules a0 a1)) = true := by
  unfold tempRules
  simp (maxDischargeDepth := 30) +contextual [*]

@[simp] theorem takeSamples_wf (a0 : List (BitVec 16 × Bool)) (a1 : List Nat) (a2 : State) (hw :
    Memory.wf (memOf a2) = true) : Memory.wf (memOf (takeSamples a0 a1 a2)) = true := by
  unfold takeSamples
  simp (maxDischargeDepth := 30) +contextual [*]

@[simp] theorem tempSample_wf (a0 : List (BitVec 16 × Bool)) (a1 : List Nat) (a2 : State) (hw :
    Memory.wf (memOf a2) = true) : Memory.wf (memOf (tempSample a0 a1 a2)) = true := by
  unfold tempSample
  simp (maxDischargeDepth := 30) +contextual [*]

@[simp] theorem hourRoll_mem (a0 : State) : memOf (hourRoll a0) = memOf a0 := by
  unfold hourRoll
  simp [*]

@[simp] theorem runRules_mem (a0 : Nat) (a1 : State) : memOf (runRules a0 a1).1 = memOf a1 := by
  unfold runRules
  simp [*]

@[simp] theorem runCounts_mem (a0 : Intake) (a1 : State) : memOf (runCounts a0 a1).1 = memOf a1 := by
  unfold runCounts
  simp [*]

@[simp] theorem addRecord_mem (a0 : Intake) (a1 : Bool) (a2 : Bool) (a3 : State) : memOf (addRecord a0 a1 a2 a3) = memOf a3 := by
  unfold addRecord
  simp [*]

@[simp] theorem logOne_wf (a0 : State) (a1 : Intake) (hw : Memory.wf (memOf a0) = true) : Memory.wf (memOf (logOne a0 a1)) = true := by
  unfold logOne
  (try dsimp only); (repeat' split) <;> simp (maxDischargeDepth := 30) +contextual [*]

@[simp] theorem faultLog_wf (a0 : State) (hw : Memory.wf (memOf a0) = true) : Memory.wf (memOf (faultLog a0)) = true := by
  unfold faultLog
  (try dsimp only); (repeat' split) <;> simp (maxDischargeDepth := 30) +contextual [*]

@[simp] theorem fltAck_mem (a0 : Word) (a1 : State) : memOf (fltAck a0 a1) = memOf a1 := by
  unfold fltAck
  simp [*]

@[simp] theorem fltRestart_mem (a0 : State) : memOf (fltRestart a0) = memOf a0 := by
  unfold fltRestart
  simp [*]

/-! ### Machine/Hosts.lean -/

@[simp] theorem setPort_mem (a0 : Nat) (a1 : QspiPort) (a2 : State) : memOf (setPort a0 a1 a2) = memOf a2 := by
  unfold setPort
  simp [*]

@[simp] theorem dropPort_mem (a0 : Nat) (a1 : State) : memOf (dropPort a0 a1) = memOf a1 := by
  unfold dropPort
  simp [*]

@[simp] theorem panelReset_mem (a0 : Nat) (a1 : State) : memOf (panelReset a0 a1) = memOf a1 := by
  unfold panelReset
  simp [*]

@[simp] theorem panelResets_mem (a0 : Nat) (a1 : Word) (a2 : State) : memOf (panelResets a0 a1 a2).1 = memOf a2 := by
  unfold panelResets
  simp [*]

@[simp] theorem noteHostErr_mem (a0 : Fin 4) (a1 : Nat) (a2 : Rsp) (a3 : State) : memOf (noteHostErr a0 a1 a2 a3) = memOf a3 := by
  unfold noteHostErr
  simp [*]

@[simp] theorem postFrame_mem (a0 : Nat) (a1 : List Byte) (a2 : State) : memOf (postFrame a0 a1 a2) = memOf a2 := by
  unfold postFrame
  simp [*]

@[simp] theorem sendFrame_mem (a0 : Nat) (a1 : List Byte) (a2 : State) : memOf (sendFrame a0 a1 a2) = memOf a2 := by
  unfold sendFrame
  simp [*]

@[simp] theorem mbxPut_mem (a0 : Fin 4) (a1 : List (Nat × Byte)) (a2 : State) : memOf (mbxPut a0 a1 a2).1 = memOf a2 := by
  unfold mbxPut
  simp [*]

@[simp] theorem mbxPost_mem (a0 : Fin 4) (a1 : Nat) (a2 : State) : memOf (mbxPost a0 a1 a2).1 = memOf a2 := by
  unfold mbxPost
  simp [*]

@[simp] theorem mbxIn_mem (a0 : Fin 4) (a1 : List (Nat × Byte)) (a2 : Nat) (a3 : State) : memOf (mbxIn a0 a1 a2 a3) = memOf a3 := by
  unfold mbxIn
  simp [*]

@[simp] theorem mbxDone_mem (a0 : Fin 4) (a1 : Word) (a2 : State) : memOf (mbxDone a0 a1 a2) = memOf a2 := by
  unfold mbxDone
  simp [*]

@[simp] theorem fnReset_mem (a0 : Nat) (a1 : State) : memOf (fnReset a0 a1) = memOf a1 := by
  unfold fnReset
  simp [*]

@[simp] theorem flr_mem (a0 : Nat) (a1 : State) : memOf (flr a0 a1) = memOf a1 := by
  unfold flr
  simp [*]

@[simp] theorem setLink_mem (a0 : Bool) (a1 : Nat) (a2 : Nat) (a3 : State) : memOf (setLink a0 a1 a2 a3) = memOf a3 := by
  unfold setLink
  simp [*]

@[simp] theorem perst_mem (a0 : Bool) (a1 : Bool) (a2 : State) : memOf (perst a0 a1 a2) = memOf a2 := by
  unfold perst
  simp [*]

@[simp] theorem linkDown_mem (a0 : State) : memOf (linkDown a0) = memOf a0 := by
  unfold linkDown
  (try dsimp only); (repeat' split) <;> simp [*]

@[simp] theorem linkTrained_mem (a0 : Nat) (a1 : Nat) (a2 : State) : memOf (linkTrained a0 a1 a2) = memOf a2 := by
  unfold linkTrained
  simp [*]

@[simp] theorem aerStatus_mem (a0 : Nat) (a1 : Nat) (a2 : Nat) (a3 : State) : memOf (aerStatus a0 a1 a2 a3) = memOf a3 := by
  unfold aerStatus
  simp [*]

@[simp] theorem aerError_mem (a0 : Nat) (a1 : Bool) (a2 : Nat) (a3 : State) : memOf (aerError a0 a1 a2 a3) = memOf a3 := by
  unfold aerError
  simp [*]

@[simp] theorem aerAbort_mem (a0 : Nat) (a1 : State) : memOf (aerAbort a0 a1) = memOf a1 := by
  unfold aerAbort
  simp [*]

@[simp] theorem unmaskScan_mem (a0 : Nat) (a1 : State) : memOf (unmaskScan a0 a1) = memOf a1 := by
  unfold unmaskScan
  simp [*]

@[simp] theorem cfgAccess_mem (a0 : Nat) (a1 : Nat) (a2 : Rw) (a3 : Word) (a4 : State) : memOf (cfgAccess a0 a1 a2 a3 a4) = memOf a4 := by
  unfold cfgAccess
  (try dsimp only); (repeat' split) <;> simp [*]

@[simp] theorem msixWrite_mem (a0 : Nat) (a1 : Nat) (a2 : Word) (a3 : State) : memOf (msixWrite a0 a1 a2 a3) = memOf a3 := by
  unfold msixWrite
  simp [*]

@[simp] theorem qspiCount_mem (a0 : Nat) (a1 : Nat) (a2 : State) : memOf (qspiCount a0 a1 a2) = memOf a2 := by
  unfold qspiCount
  simp [*]

@[simp] theorem respond_mem (a0 : Nat) (a1 : Nat) (a2 : List Byte) (a3 : State) : memOf (respond a0 a1 a2 a3) = memOf a3 := by
  unfold respond
  simp [*]

@[simp] theorem qspiRun_mem (a0 : Nat) (a1 : Nat) (a2 : Nat) (a3 : Word) (a4 : List Byte) (a5 : State → State × Nat × List Byte)
    (a6 : State) (h5 : ∀ x0, (memOf (a5 x0).1) = memOf x0) :
    memOf (qspiRun a0 a1 a2 a3 a4 a5 a6) = memOf a6 := by
  unfold qspiRun
  (try dsimp only); (repeat' split) <;> simp [*]

@[simp] theorem qspiAbort_mem (a0 : Nat) (a1 : State) : memOf (qspiAbort a0 a1) = memOf a1 := by
  unfold qspiAbort
  simp [*]

@[simp] theorem sSend_mem (a0 : Nat) (a1 : List Byte) (a2 : State) : memOf (sSend a0 a1 a2).1 = memOf a2 := by
  unfold sSend
  simp [*]

@[simp] theorem sRecv_mem (a0 : Nat) (a1 : State) : memOf (sRecv a0 a1).1 = memOf a1 := by
  unfold sRecv
  (try dsimp only); (repeat' split) <;> simp [*]

@[simp] theorem qspiCfgWrite_mem (a0 : Nat) (a1 : Word) (a2 : State) : memOf (qspiCfgWrite a0 a1 a2) = memOf a2 := by
  unfold qspiCfgWrite
  simp [*]

/-! ### Machine/Time.lean -/

@[simp] theorem wdgKick_mem (a0 : Nat) (a1 : State) : memOf (wdgKick a0 a1) = memOf a1 := by
  unfold wdgKick
  simp [*]

@[simp] theorem wdgAdvance_mem (a0 : Nat) (a1 : State) (a2 : Nat) : memOf (wdgAdvance a0 a1 a2) = memOf a1 := by
  unfold wdgAdvance
  simp [*]

@[simp] theorem wdgWarn_mem (a0 : Nat) (a1 : State) : memOf (wdgWarn a0 a1) = memOf a1 := by
  unfold wdgWarn
  simp [*]

@[simp] theorem askReset_mem (a0 : Nat) (a1 : Nat) (a2 : State) : memOf (askReset a0 a1 a2) = memOf a2 := by
  unfold askReset
  simp [*]

@[simp] theorem wdgReport_mem (a0 : State) (a1 : Nat) : memOf (wdgReport a0 a1) = memOf a0 := by
  unfold wdgReport
  simp [*]

@[simp] theorem wdgCancel_mem (a0 : List (Nat × Nat)) (a1 : State) (a2 : Nat) : memOf (wdgCancel a0 a1 a2) = memOf a1 := by
  unfold wdgCancel
  (try dsimp only); (repeat' split) <;> simp [*]

@[simp] theorem wdgExpire_wf (a0 : List Nat) (a1 : State) (hw :
    Memory.wf (memOf a1) = true) : Memory.wf (memOf (wdgExpire a0 a1)) = true := by
  unfold wdgExpire
  (try dsimp only); (repeat' split) <;> simp (maxDischargeDepth := 30) +contextual [*]

@[simp] theorem sysKick_mem (a0 : Word) (a1 : State) : memOf (sysKick a0 a1) = memOf a1 := by
  unfold sysKick
  simp [*]

@[simp] theorem sysCfgWrite_mem (a0 : Word) (a1 : State) : memOf (sysCfgWrite a0 a1).1 = memOf a1 := by
  unfold sysCfgWrite
  simp [*]

@[simp] theorem wdgCfgStore_mem (a0 : Nat) (a1 : Word) (a2 : State) : memOf (wdgCfgStore a0 a1 a2) = memOf a2 := by
  unfold wdgCfgStore
  simp [*]

@[simp] theorem panelCfgWrite_mem (a0 : Nat) (a1 : Word) (a2 : State) : memOf (panelCfgWrite a0 a1 a2).1 = memOf a2 := by
  unfold panelCfgWrite
  simp [*]

@[simp] theorem coreCfgWrite_mem (a0 : Nat) (a1 : Word) (a2 : State) : memOf (coreCfgWrite a0 a1 a2).1 = memOf a2 := by
  unfold coreCfgWrite
  simp [*]

@[simp] theorem wdgWake_mem (a0 : State) : memOf (wdgWake a0) = memOf a0 := by
  unfold wdgWake
  simp [*]

@[simp] theorem applyCompares_mem (a0 : State) : memOf (applyCompares a0) = memOf a0 := by
  unfold applyCompares
  simp [*]

@[simp] theorem advanceNow_mem (a0 : State) : memOf (advanceNow a0) = memOf a0 := by
  unfold advanceNow
  simp [*]

@[simp] theorem tick_mem (a0 : State) : memOf (tick a0) = memOf a0 := by
  unfold tick
  simp [*]

@[simp] theorem steer_mem (a0 : State) : memOf (steer a0) = memOf a0 := by
  unfold steer
  simp [*]

@[simp] theorem aonTick_mem (a0 : State) : memOf (aonTick a0) = memOf a0 := by
  unfold aonTick
  simp [*]

@[simp] theorem steerEnd_mem (a0 : State) : memOf (steerEnd a0) = memOf a0 := by
  unfold steerEnd
  simp [*]

@[simp] theorem timeCapture_mem (a0 : State) : memOf (timeCapture a0) = memOf a0 := by
  unfold timeCapture
  simp [*]

@[simp] theorem timeRebuild_mem (a0 : State) : memOf (timeRebuild a0) = memOf a0 := by
  unfold timeRebuild
  split
  · rfl
  · extract_lets a v s1 s2
    have h1 : memOf s1 = memOf a0 := by simp [s1]
    have h2 : memOf s2 = memOf s1 := by simp [s2]
    clear_value a s2
    simp [h1, h2]

@[simp] theorem readNowLow_mem (a0 : Initiator) (a1 : State) : memOf (readNowLow a0 a1).1 = memOf a1 := by
  unfold readNowLow
  simp [*]

@[simp] theorem cmpLowWrite_mem (a0 : Nat) (a1 : Word) (a2 : State) : memOf (cmpLowWrite a0 a1 a2) = memOf a2 := by
  unfold cmpLowWrite
  simp [*]

@[simp] theorem cmpHighWrite_mem (a0 : Nat) (a1 : Word) (a2 : State) : memOf (cmpHighWrite a0 a1 a2) = memOf a2 := by
  unfold cmpHighWrite
  simp [*]

@[simp] theorem cmpKeep_mem (a0 : Nat) (a1 : State) : memOf (cmpKeep a0 a1) = memOf a1 := by
  unfold cmpKeep
  simp [*]

@[simp] theorem cmpPerWrite_mem (a0 : Nat) (a1 : Word) (a2 : State) : memOf (cmpPerWrite a0 a1 a2) = memOf a2 := by
  unfold cmpPerWrite
  simp [*]

@[simp] theorem cmpCtlWrite_mem (a0 : Nat) (a1 : Word) (a2 : State) : memOf (cmpCtlWrite a0 a1 a2) = memOf a2 := by
  unfold cmpCtlWrite
  simp [*]

@[simp] theorem cmpMatch_mem (a0 : Nat) (a1 : State) : memOf (cmpMatch a0 a1) = memOf a1 := by
  unfold cmpMatch
  simp [*]

end Sys2Proof.Machine
end

