-- ==== Sys2Proof/Laws/MemIdentity.lean ====
section
/-!
SUPPORT. Memory through identity, sessions, life cycle and Fitting: what leaves it as it is (`_mem`) and what keeps its canonical form (`_wf`).
-/

namespace Sys2Proof.Machine

/-! ### Machine/Identity.lean -/

@[simp] theorem setSign_mem (a0 : Nat) (a1 : SignSlot) (a2 : State) : memOf (setSign a0 a1 a2) = memOf a2 := by
  unfold setSign
  simp [*]

@[simp] theorem setDkey_mem (a0 : Nat) (a1 : DkeySlot) (a2 : State) : memOf (setDkey a0 a1 a2) = memOf a2 := by
  unfold setDkey
  simp [*]

@[simp] theorem asymContest_mem (a0 : Bool) (a1 : State) : memOf (asymContest a0 a1) = memOf a1 := by
  unfold asymContest
  simp [*]

@[simp] theorem thmRun_wf (a0 : Nat) (a1 : Nat) (a2 : Bool) (a3 : Bool) (a4 : State) (hw :
    Memory.wf (memOf a4) = true) : Memory.wf (memOf (thmRun a0 a1 a2 a3 a4).1) = true := by
  unfold thmRun
  (try dsimp only); (repeat' split) <;> simp (maxDischargeDepth := 30) +contextual [*]

@[simp] theorem thmCmd_wf (a0 : Word) (a1 : Bool) (a2 : Bool) (a3 : State) (hw :
    Memory.wf (memOf a3) = true) : Memory.wf (memOf (thmCmd a0 a1 a2 a3)) = true := by
  unfold thmCmd
  simp (maxDischargeDepth := 30) +contextual [*]

@[simp] theorem fwRead_mem (a0 : Nat) (a1 : State) : memOf (fwRead a0 a1).1 = memOf a1 := by
  unfold fwRead
  simp [*]

@[simp] theorem fwTry_mem (a0 : Nat) (a1 : State) : memOf (fwTry a0 a1).1 = memOf a1 := by
  unfold fwTry
  simp [*]

@[simp] theorem fwEnter_mem (a0 : Nat) (a1 : State) : memOf (fwEnter a0 a1) = memOf a1 := by
  unfold fwEnter
  simp [*]

@[simp] theorem bootTry_mem (a0 : Nat) (a1 : State) : memOf (bootTry a0 a1).1 = memOf a1 := by
  unfold bootTry
  (try dsimp only); (repeat' split) <;> simp [*]

@[simp] theorem bootFails_mem (a0 : State) : memOf (bootFails a0) = memOf a0 := by
  unfold bootFails
  simp [*]

@[simp] theorem bootFrom_mem (a0 : Nat) (a1 : State) : memOf (bootFrom a0 a1) = memOf a1 := by
  unfold bootFrom
  simp [*]

@[simp] theorem bootCore_mem (a0 : State) : memOf (bootCore a0) = memOf a0 := by
  unfold bootCore
  simp [*]

@[simp] theorem bootGoes_mem (a0 : State) : memOf (bootGoes a0) = memOf a0 := by
  unfold bootGoes
  (try dsimp only); (repeat' split) <;> simp [*]

@[simp] theorem setEnrol_mem (a0 : Nat) (a1 : Enrol) (a2 : State) : memOf (setEnrol a0 a1 a2) = memOf a2 := by
  unfold setEnrol
  simp [*]

@[simp] theorem setSlot_mem (a0 : Nat) (a1 : Slot) (a2 : State) : memOf (setSlot a0 a1 a2) = memOf a2 := by
  unfold setSlot
  simp [*]

@[simp] theorem alertClear_mem (a0 : Nat) (a1 : Nat) (a2 : Nat) (a3 : Nat) (a4 : State) : memOf (alertClear a0 a1 a2 a3 a4) = memOf a4 := by
  unfold alertClear
  simp [*]

@[simp] theorem freeCell_wf (a0 : Nat) (a1 : Bool) (a2 : State) (hw :
    Memory.wf (memOf a2) = true) : Memory.wf (memOf (freeCell a0 a1 a2)) = true := by
  unfold freeCell
  simp (maxDischargeDepth := 30) +contextual [*]

@[simp] theorem freeSlot_wf (a0 : Nat) (a1 : State) (hw : Memory.wf (memOf a1) = true) : Memory.wf (memOf (freeSlot a0 a1)) = true := by
  unfold freeSlot
  extract_lets x s1 s2 z s3 y s4
  have h1 : Memory.wf (memOf s1) = true := by
    show Memory.wf (memOf (if _ then _ else _)) = true
    split
    · exact freeCell_wf _ _ _ hw
    · exact hw
  have h2 : Memory.wf (memOf s2) = true := by
    show Memory.wf (memOf (if _ then _ else _)) = true
    split
    · exact freeCell_wf _ _ _ h1
    · exact h1
  have h3 : Memory.wf (memOf s3) = true := by simp [s3, h2]
  have h4 : Memory.wf (memOf s4) = true := by
    show Memory.wf (memOf (match s3.lcs.challenge with | some c => _ | none => _)) = true
    split
    · split
      · exact h3
      · exact h3
    · exact h3
  split
  · split
    · simp [h4]
    · exact h4
  · exact h4

@[simp] theorem closeWith_wf (a0 : Nat) (a1 : Nat) (a2 : State) (hw :
    Memory.wf (memOf a2) = true) : Memory.wf (memOf (closeWith a0 a1 a2)) = true := by
  unfold closeWith
  simp (maxDischargeDepth := 30) +contextual [*]

@[simp] theorem closePartner_wf (a0 : Nat) (a1 : State) (hw :
    Memory.wf (memOf a1) = true) : Memory.wf (memOf (closePartner a0 a1)) = true := by
  unfold closePartner
  simp (maxDischargeDepth := 30) +contextual [*]

@[simp] theorem enrolRun_wf (a0 : Nat) (a1 : Nat) (a2 : Bool) (a3 : State) (hw :
    Memory.wf (memOf a3) = true) : Memory.wf (memOf (enrolRun a0 a1 a2 a3).1) = true := by
  unfold enrolRun
  (try dsimp only); (repeat' split) <;> simp (maxDischargeDepth := 30) +contextual [*]

@[simp] theorem enrolCmd_wf (a0 : Word) (a1 : Bool) (a2 : State) (hw :
    Memory.wf (memOf a2) = true) : Memory.wf (memOf (enrolCmd a0 a1 a2)) = true := by
  unfold enrolCmd
  simp (maxDischargeDepth := 30) +contextual [*]

@[simp] theorem hsFails_mem (a0 : Nat) (a1 : Nat) (a2 : Nat) (a3 : Nat) (a4 : State) : memOf (hsFails a0 a1 a2 a3 a4) = memOf a4 := by
  unfold hsFails
  simp [*]

@[simp] theorem hsTimeout_wf (a0 : Nat) (a1 : State) (hw : Memory.wf (memOf a1) = true) : Memory.wf (memOf (hsTimeout a0 a1)) = true := by
  unfold hsTimeout
  simp (maxDischargeDepth := 30) +contextual [*]

@[simp] theorem sesIdle_wf (a0 : Nat) (a1 : State) (hw : Memory.wf (memOf a1) = true) : Memory.wf (memOf (sesIdle a0 a1)) = true := by
  unfold sesIdle
  simp (maxDischargeDepth := 30) +contextual [*]

@[simp] theorem sesDue_wf (a0 : State) (hw : Memory.wf (memOf a0) = true) : Memory.wf (memOf (sesDue a0)) = true := by
  unfold sesDue
  simp (maxDischargeDepth := 30) +contextual [*]

theorem takeFrame_wf (a0 : Nat) (a1 : State) (hw :
    Memory.wf (memOf a1) = true) : ∀ t, takeFrame a0 a1 = some t → Memory.wf (memOf t.2) = true := by
  intro t h
  unfold takeFrame at h
  first
  | (cases h; simp +contextual [*]; done)
  | (dsimp only at h; (repeat' (split at h)) <;> first | (cases h; done) | (cases h; simp +contextual [*]; done) | (simp [acts, okIf] at h; subst h; simp +contextual [*]; done) | (simp_all; done))
  | (simp at h; simp_all; done)

@[simp] theorem dropFrame_mem (a0 : Nat) (a1 : State) : memOf (dropFrame a0 a1) = memOf a1 := by
  unfold dropFrame
  simp [*]

@[simp] theorem helloPasses_mem (a0 : Nat) (a1 : List Byte) (a2 : State) : memOf (helloPasses a0 a1 a2) = memOf a2 := by
  unfold helloPasses
  simp [*]

@[simp] theorem hello_wf (a0 : Nat) (a1 : Bool) (a2 : State) (hw :
    Memory.wf (memOf a2) = true) : Memory.wf (memOf (hello a0 a1 a2)) = true := by
  unfold hello
  split
  · exact hw
  · rename_i l t h
    have ht : Memory.wf (memOf t) = true := takeFrame_wf _ _ hw _ h
    repeat' split
    all_goals simp (maxDischargeDepth := 30) [ht, hw]

@[simp] theorem finish_wf (a0 : Nat) (a1 : Bool) (a2 : State) (hw :
    Memory.wf (memOf a2) = true) : Memory.wf (memOf (finish a0 a1 a2)) = true := by
  unfold finish
  split
  · exact hw
  · rename_i l t h
    have ht : Memory.wf (memOf t) = true := takeFrame_wf _ _ hw _ h
    dsimp only
    repeat' split
    all_goals simp (maxDischargeDepth := 30) [ht, hw]

@[simp] theorem authFails_wf (a0 : Nat) (a1 : State) (hw : Memory.wf (memOf a1) = true) : Memory.wf (memOf (authFails a0 a1)) = true := by
  unfold authFails
  simp (maxDischargeDepth := 30) +contextual [*]

@[simp] theorem acceptFrame_wf (a0 : List Byte) (a1 : State) (hw :
    Memory.wf (memOf a1) = true) : Memory.wf (memOf (acceptFrame a0 a1).2) = true := by
  unfold acceptFrame
  (try dsimp only); (repeat' split) <;> simp (maxDischargeDepth := 30) +contextual [*]

@[simp] theorem alertFrame_wf (a0 : Nat) (a1 : State) (hw : Memory.wf (memOf a1) = true) : Memory.wf (memOf (alertFrame a0 a1)) = true := by
  unfold alertFrame
  split
  · exact hw
  · rename_i l t h
    have ht : Memory.wf (memOf t) = true := takeFrame_wf _ _ hw _ h
    have ha := acceptFrame_wf l t ht
    repeat' split
    all_goals first | (simp (maxDischargeDepth := 30) [ht, hw]; done) | (rename_i he; rw [he] at ha; simp (maxDischargeDepth := 30) at ha; simp (maxDischargeDepth := 30) [ha]; done)

@[simp] theorem sendData_wf (a0 : Nat) (a1 : List Byte) (a2 : State) (hw :
    Memory.wf (memOf a2) = true) : Memory.wf (memOf (sendData a0 a1 a2)) = true := by
  unfold sendData
  simp (maxDischargeDepth := 30) +contextual [*]

@[simp] theorem dataJudged_wf (a0 : Nat) (a1 : State) (hw :
    Memory.wf (memOf a1) = true) : Memory.wf (memOf (dataJudged a0 a1).1) = true := by
  unfold dataJudged
  split
  · exact hw
  · rename_i l t h
    have ht : Memory.wf (memOf t) = true := takeFrame_wf _ _ hw _ h
    have ha := acceptFrame_wf l t ht
    repeat' split
    all_goals first | (simp (maxDischargeDepth := 30) [ht, hw]; done) | (rename_i he; rw [he] at ha; simp (maxDischargeDepth := 30) at ha; simp (maxDischargeDepth := 30) [ha]; done)

@[simp] theorem sesSeqEnd_wf (a0 : Nat) (a1 : Nat) (a2 : Nat) (a3 : State) (hw :
    Memory.wf (memOf a3) = true) : Memory.wf (memOf (sesSeqEnd a0 a1 a2 a3)) = true := by
  unfold sesSeqEnd
  simp (maxDischargeDepth := 30) +contextual [*]

@[simp] theorem txCmd_wf (a0 : Word) (a1 : State) (hw : Memory.wf (memOf a1) = true) : Memory.wf (memOf (txCmd a0 a1)) = true := by
  unfold txCmd
  simp (maxDischargeDepth := 30) +contextual [*]

@[simp] theorem sesOff_wf (a0 : State) (hw : Memory.wf (memOf a0) = true) : Memory.wf (memOf (sesOff a0)) = true := by
  unfold sesOff
  simp (maxDischargeDepth := 30) +contextual [*]

/-! ### Machine/Lifecycle.lean -/

@[simp] theorem lcRead_mem (a0 : State) : memOf (lcRead a0) = memOf a0 := by
  unfold lcRead
  simp [*]

@[simp] theorem setToken_mem (a0 : Nat) (a1 : TokenSlot) (a2 : State) : memOf (setToken a0 a1 a2) = memOf a2 := by
  unfold setToken
  simp [*]

@[simp] theorem progToken_mem (a0 : Nat) (a1 : Bool) (a2 : State) : memOf (progToken a0 a1 a2).1 = memOf a2 := by
  unfold progToken
  simp [*]

@[simp] theorem lcPrepare_mem (a0 : Nat) (a1 : State) : memOf (lcPrepare a0 a1) = memOf a1 := by
  unfold lcPrepare
  simp [*]

@[simp] theorem lcWrite_mem (a0 : Nat) (a1 : Nat) (a2 : Nat) (a3 : BitVec 128) (a4 : State) :
    memOf (lcWrite a0 a1 a2 a3 a4) = memOf a4 := by
  unfold lcWrite
  simp [*]

@[simp] theorem lastRecord_mem (a0 : Nat → Nat) (a1 : State) : memOf (lastRecord a0 a1) = memOf a1 := by
  unfold lastRecord
  (try dsimp only); (repeat' split) <;> simp [*]

@[simp] theorem lcMark_mem (a0 : Nat) (a1 : State) : memOf (lcMark a0 a1) = memOf a1 := by
  unfold lcMark
  simp [*]

@[simp] theorem lcStep_mem (a0 : Nat) (a1 : BitVec 128) (a2 : State) (a3 : Nat) : memOf (lcStep a0 a1 a2 a3) = memOf a2 := by
  unfold lcStep
  simp [*]

@[simp] theorem pinRegsReset_mem (a0 : State) : memOf (pinRegsReset a0) = memOf a0 := by
  unfold pinRegsReset
  simp [*]

@[simp] theorem enterTransit_mem (a0 : State) : memOf (enterTransit a0) = memOf a0 := by
  unfold enterTransit
  simp [*]

@[simp] theorem lcAccepted_mem (a0 : Nat) (a1 : Nat) (a2 : BitVec 128) (a3 : State) : memOf (lcAccepted a0 a1 a2 a3) = memOf a3 := by
  unfold lcAccepted
  simp [*]

@[simp] theorem lcLockout_mem (a0 : State) : memOf (lcLockout a0) = memOf a0 := by
  unfold lcLockout
  simp [*]

@[simp] theorem lcTransition_mem (a0 : Nat) (a1 : List Byte) (a2 : Nat) (a3 : BitVec 128) (a4 : State) :
    memOf (lcTransition a0 a1 a2 a3 a4).1 = memOf a4 := by
  unfold lcTransition
  (try dsimp only); (repeat' split) <;> simp [*]

@[simp] theorem lcResume_mem (a0 : State) : memOf (lcResume a0) = memOf a0 := by
  unfold lcResume
  (try dsimp only); (repeat' split) <;> simp [*]

@[simp] theorem lcDone_mem (a0 : Nat) (a1 : State) : memOf (lcDone a0 a1) = memOf a1 := by
  unfold lcDone
  simp [*]

@[simp] theorem logGrant_mem (a0 : Grant) (a1 : State) : memOf (logGrant a0 a1) = memOf a1 := by
  unfold logGrant
  simp [*]

@[simp] theorem startGrant_mem (a0 : Grant) (a1 : State) : memOf (startGrant a0 a1) = memOf a1 := by
  unfold startGrant
  simp [*]

@[simp] theorem serviceOpen_mem (a0 : State) : memOf (serviceOpen a0).1 = memOf a0 := by
  unfold serviceOpen
  simp [*]

@[simp] theorem serviceEnd_mem (a0 : State) : memOf (serviceEnd a0).1 = memOf a0 := by
  unfold serviceEnd
  simp [*]

@[simp] theorem lcsRun_mem (a0 : Word) (a1 : Nat) (a2 : BitVec 128) (a3 : Bool) (a4 : State) :
    memOf (lcsRun a0 a1 a2 a3 a4) = memOf a4 := by
  unfold lcsRun
  (try dsimp only); (repeat' split) <;> simp [*]

@[simp] theorem challengeExpire_mem (a0 : State) : memOf (challengeExpire a0) = memOf a0 := by
  unfold challengeExpire
  (try dsimp only); (repeat' split) <;> simp [*]

@[simp] theorem challengeReq_mem (a0 : Bool) (a1 : Nat) (a2 : Nat) (a3 : Nat) (a4 : Nat) (a5 : Nat) (a6 : State) :
    memOf (challengeReq a0 a1 a2 a3 a4 a5 a6).1 = memOf a6 := by
  unfold challengeReq
  simp [*]

@[simp] theorem challengeResp_mem (a0 : Bool) (a1 : Nat) (a2 : List Byte) (a3 : Bool) (a4 : State) :
    memOf (challengeResp a0 a1 a2 a3 a4).1 = memOf a4 := by
  unfold challengeResp
  (try dsimp only); (repeat' split) <;> simp [*]

@[simp] theorem sesDebug_mem (a0 : Nat) (a1 : Nat) (a2 : List Byte) (a3 : Bool) (a4 : State) :
    memOf (sesDebug a0 a1 a2 a3 a4).1 = memOf a4 := by
  unfold sesDebug
  simp [*]

@[simp] theorem jtagSelect_mem (a0 : Nat) (a1 : State) : memOf (jtagSelect a0 a1).1 = memOf a1 := by
  unfold jtagSelect
  simp [*]

@[simp] theorem jtagRun_mem (a0 : Nat) (a1 : State → State × Nat × List Byte) (a2 : State) (h1 : ∀ x0, (memOf (a1 x0).1) = memOf x0) :
    memOf (jtagRun a0 a1 a2).1 = memOf a2 := by
  unfold jtagRun
  simp [*]

@[simp] theorem jtagMove_mem (a0 : Nat) (a1 : List Byte) (a2 : Nat) (a3 : BitVec 128) (a4 : State) :
    memOf (jtagMove a0 a1 a2 a3 a4).1 = memOf a4 := by
  unfold jtagMove
  simp [*]

@[simp] theorem sesAnswer_wf (n op tag gen : Nat) (r : PortRes) (h : Memory.wf (memOf r.1) = true) :
    Memory.wf (memOf (sesAnswer n op tag gen r)) = true := by
  unfold sesAnswer
  try dsimp only
  split <;> simp (maxDischargeDepth := 30) [h]

@[simp] theorem jtagBeside_mem (r : State × Option (Nat × List Byte)) : memOf (jtagBeside r) = memOf r.1 := by
  unfold jtagBeside
  split <;> simp

theorem lcTaken_keeps (q : LcReq) (s : State) (hw : Memory.wf (memOf s) = true) :
    Memory.wf (memOf (lcTaken q s).1) = true ∧ ∀ u, Memory.wf (memOf u) = true → Memory.wf (memOf ((lcTaken q s).2 u)) = true := by
  cases q with
  | command => exact ⟨hw, fun u hu => by simpa [lcTaken] using hu⟩
  | transition => exact ⟨hw, fun u hu => by simpa [lcTaken] using hu⟩
  | challenge => exact ⟨hw, fun u hu => by simpa [lcTaken] using hu⟩
  | response => exact ⟨hw, fun u hu => by simpa [lcTaken] using hu⟩
  | frame port storeBad =>
    have hd := dataJudged_wf port.val s hw
    unfold lcTaken
    dsimp only
    cases hj : dataJudged port.val s with
    | mk t o =>
      rw [hj] at hd
      cases o with
      | none => exact ⟨hd, fun u hu => hu⟩
      | some p =>
        dsimp only
        split
        · exact ⟨hw, fun u hu => hu⟩
        · exact ⟨hd, fun u hu => sesSeqEnd_wf _ _ _ _ (sesAnswer_wf _ _ _ _ _ (by simpa using hu))⟩

@[simp] theorem lcTaken_wf (a0 : LcReq) (a1 : State) (hw : Memory.wf (memOf a1) = true) : Memory.wf (memOf (lcTaken a0 a1).1) = true := by
  exact (lcTaken_keeps _ _ hw).1

theorem runAll_wf (l : List (Nat × (State → State))) (s : State)
    (hl : ∀ x ∈ l, ∀ u, Memory.wf (memOf u) = true → Memory.wf (memOf (x.2 u)) = true) (hw : Memory.wf (memOf s) = true) :
    Memory.wf (memOf (l.foldl (fun t x => x.2 t) s)) = true := by
  induction l generalizing s with
  | nil => exact hw
  | cons x l ih => exact ih _ (fun y hy => hl y (List.mem_cons_of_mem _ hy)) (hl x List.mem_cons_self s hw)

theorem takeAll_wf (place : Nat → Nat) (l : List LcReq) (a : State × List (Nat × (State → State)))
    (ha : ∀ x ∈ a.2, ∀ u, Memory.wf (memOf u) = true → Memory.wf (memOf (x.2 u)) = true) (hw : Memory.wf (memOf a.1) = true) :
    Memory.wf (memOf (l.foldl (fun (a : State × List (Nat × (State → State))) q =>
      ((lcTaken q a.1).1, a.2 ++ [(place (lcRequester q), (lcTaken q a.1).2)])) a).1) = true ∧
    ∀ x ∈ (l.foldl (fun (a : State × List (Nat × (State → State))) q =>
      ((lcTaken q a.1).1, a.2 ++ [(place (lcRequester q), (lcTaken q a.1).2)])) a).2,
      ∀ u, Memory.wf (memOf u) = true → Memory.wf (memOf (x.2 u)) = true := by
  induction l generalizing a with
  | nil => exact ⟨hw, ha⟩
  | cons q l ih =>
    refine ih _ (fun x hx => ?_) (lcTaken_keeps q a.1 hw).1
    rcases List.mem_append.mp hx with hx | hx
    · exact ha x hx
    · rw [List.mem_singleton] at hx
      subst hx
      exact (lcTaken_keeps q a.1 hw).2

@[simp] theorem lcTurn_wf (a1 : Nat) (a2 : List LcReq) (a3 : State → State × α) (a4 : State)
    (h3 : ∀ x0, Memory.wf (memOf x0) = true → Memory.wf (memOf (a3 x0).1) = true) (hw :
    Memory.wf (memOf a4) = true) : Memory.wf (memOf (lcTurn a1 a2 a3 a4).1) = true := by
  unfold lcTurn
  split
  · exact h3 _ hw
  · extract_lets place l order r t
    have hl := takeAll_wf place a2 (a4, []) (by simp) hw
    have ho : ∀ x ∈ order, ∀ u, Memory.wf (memOf u) = true → Memory.wf (memOf (x.2 u)) = true := by
      intro x hx
      obtain ⟨_, _, hx⟩ := List.mem_flatMap.mp hx
      exact hl.2 x (List.mem_filter.mp hx).1
    have hr : Memory.wf (memOf r.1) = true :=
      h3 _ (runAll_wf _ _ (fun x hx => ho x (List.mem_filter.mp hx).1) hl.1)
    exact runAll_wf _ _ (fun x hx => ho x (List.mem_filter.mp hx).1) hr

@[simp] theorem lcsCmd_wf (a0 : Word) (a1 : Nat) (a2 : BitVec 128) (a3 : Bool) (a4 : List LcReq) (a5 : State) (hw :
    Memory.wf (memOf a5) = true) : Memory.wf (memOf (lcsCmd a0 a1 a2 a3 a4 a5)) = true := by
  unfold lcsCmd
  exact lcTurn_wf _ _ _ _ (fun x hx => by simpa using hx) hw

@[simp] theorem bscanShift_mem (a0 : Nat) (a1 : BitVec 960) (a2 : State) : memOf (bscanShift a0 a1 a2) = memOf a2 := by
  unfold bscanShift
  simp [*]

@[simp] theorem bscanHold_mem (a0 : Nat) (a1 : State) : memOf (bscanHold a0 a1) = memOf a1 := by
  unfold bscanHold
  simp [*]

@[simp] theorem trst_mem (a0 : State) : memOf (trst a0) = memOf a0 := by
  unfold trst
  (try dsimp only); (repeat' split) <;> simp [*]

/-! ### Machine/Fitting.lean -/

@[simp] theorem sliceStart_mem (a0 : State) : memOf (sliceStart a0) = memOf a0 := by
  unfold sliceStart
  (try dsimp only); (repeat' split) <;> simp [*]

@[simp] theorem fitReady_mem (a0 : State) : memOf (fitReady a0) = memOf a0 := by
  unfold fitReady
  simp [*]

@[simp] theorem fitRoundDone_mem (a0 : State) : memOf (fitRoundDone a0) = memOf a0 := by
  unfold fitRoundDone
  simp [*]

@[simp] theorem fitPassed_mem (a0 : FitRun) (a1 : State) : memOf (fitPassed a0 a1) = memOf a1 := by
  unfold fitPassed
  simp [*]

@[simp] theorem fitAct_wf (a0 : Nat) (a1 : Nat) (a2 : State) (hw :
    Memory.wf (memOf a2) = true) : Memory.wf (memOf (fitAct a0 a1 a2)) = true := by
  unfold fitAct
  (try dsimp only); (repeat' split) <;> simp (maxDischargeDepth := 30) +contextual [*]

@[simp] theorem sliceDone_wf (a0 : Nat) (a1 : Nat) (a2 : Nat) (a3 : DWord) (a4 : Bool) (a5 : Option Nat) (a6 : State) (hw :
    Memory.wf (memOf a6) = true) : Memory.wf (memOf (sliceDone a0 a1 a2 a3 a4 a5 a6)) = true := by
  unfold sliceDone
  (try dsimp only); (repeat' split) <;> simp (maxDischargeDepth := 30) +contextual [*]

@[simp] theorem roundStart_mem (a0 : State) : memOf (roundStart a0) = memOf a0 := by
  unfold roundStart
  simp [*]

@[simp] theorem windowOpen_mem (a0 : State) : memOf (windowOpen a0) = memOf a0 := by
  unfold windowOpen
  simp [*]

@[simp] theorem windowClose_mem (a0 : State) : memOf (windowClose a0) = memOf a0 := by
  unfold windowClose
  (try dsimp only); (repeat' split) <;> simp [*]

@[simp] theorem windowWrite_mem (a0 : Word) (a1 : State) : memOf (windowWrite a0 a1) = memOf a1 := by
  unfold windowWrite
  simp [*]

@[simp] theorem fitDemand_mem (a0 : Nat) (a1 : Nat) (a2 : List Nat) (a3 : State) : memOf (fitDemand a0 a1 a2 a3) = memOf a3 := by
  unfold fitDemand
  simp [*]

@[simp] theorem fitAbortAll_mem (a0 : State) : memOf (fitAbortAll a0) = memOf a0 := by
  unfold fitAbortAll
  simp [*]

@[simp] theorem fitCmd_mem (a0 : Word) (a1 : State) : memOf (fitCmd a0 a1) = memOf a1 := by
  unfold fitCmd
  (try dsimp only); (repeat' split) <;> simp [*]

@[simp] theorem fitSoftReset_mem (a0 : State) : memOf (fitSoftReset a0) = memOf a0 := by
  unfold fitSoftReset
  simp [*]

@[simp] theorem quickTest_wf (a0 : BitVec 4) (a1 : Bool) (a2 : BitVec 8) (a3 : State) (hw :
    Memory.wf (memOf a3) = true) : Memory.wf (memOf (quickTest a0 a1 a2 a3)) = true := by
  unfold quickTest
  extract_lets ok s1 s2
  have h1 : memOf s1 = memOf a3 := by simp [s1]
  have h2 : Memory.wf (memOf s2) = true := by
    refine foldl_wf _ _ _ (by rw [h1]; exact hw) fun s x hs => ?_
    exact isolateCluster_wf _ _ hs
  clear_value s2
  split
  · simp [h2]
  · exact h2

@[simp] theorem quickReport_mem (a0 : State) : memOf (quickReport a0) = memOf a0 := by
  unfold quickReport
  simp [*]

end Sys2Proof.Machine
end

