-- ==== Sys2Proof/Laws/MemModes.lean ====
section
/-!
SUPPORT. Memory through power, Overlock, starts and modes: what leaves it as it is (`_mem`) and what keeps its canonical form (`_wf`).
-/

namespace Sys2Proof.Machine

/-! ### Machine/Hold.lean -/

@[simp] theorem powerless_mem (a0 : Nat → Bool) (a1 : State) : memOf (powerless a0 a1) = memOf a1 := by
  unfold powerless
  simp [*]

@[simp] theorem grantLost_mem (a0 : State) : memOf (grantLost a0) = memOf a0 := by
  unfold grantLost
  (try dsimp only); (repeat' split) <;> simp [*]

@[simp] theorem passHold_wf (a0 : State) (hw : Memory.wf (memOf a0) = true) : Memory.wf (memOf (passHold a0)) = true := by
  unfold passHold
  simp (maxDischargeDepth := 30) +contextual [*]

@[simp] theorem noteReset_mem (a0 : Nat) (a1 : Nat) (a2 : State) : memOf (noteReset a0 a1 a2) = memOf a2 := by
  unfold noteReset
  simp [*]

@[simp] theorem resetPass_wf (a0 : Nat) (a1 : Nat) (a2 : State) (hw :
    Memory.wf (memOf a2) = true) : Memory.wf (memOf (resetPass a0 a1 a2)) = true := by
  unfold resetPass
  simp (maxDischargeDepth := 30) +contextual [*]

@[simp] theorem shutdown_wf (a0 : Nat) (a1 : Nat) (a2 : State) (hw :
    Memory.wf (memOf a2) = true) : Memory.wf (memOf (shutdown a0 a1 a2)) = true := by
  unfold shutdown
  simp (maxDischargeDepth := 30) +contextual [*]

@[simp] theorem vinGone_mem (a0 : State) : memOf (vinGone a0) = memOf a0 := by
  unfold vinGone
  simp [*]

@[simp] theorem brownOut_wf (a0 : State) (hw : Memory.wf (memOf a0) = true) : Memory.wf (memOf (brownOut a0)) = true := by
  unfold brownOut
  simp (maxDischargeDepth := 30) +contextual [*]

@[simp] theorem hibernateBrownOut_wf (a0 : State) (hw : Memory.wf (memOf a0) = true) : Memory.wf (memOf (hibernateBrownOut a0)) = true := by
  unfold hibernateBrownOut
  simp (maxDischargeDepth := 30) +contextual [*]

@[simp] theorem ilimit_wf (a0 : State) (hw : Memory.wf (memOf a0) = true) : Memory.wf (memOf (ilimit a0)) = true := by
  unfold ilimit
  (try dsimp only); (repeat' split) <;> simp (maxDischargeDepth := 30) +contextual [*]

@[simp] theorem railOut_wf (a0 : Fin 6) (a1 : State) (hw : Memory.wf (memOf a1) = true) : Memory.wf (memOf (railOut a0 a1)) = true := by
  unfold railOut
  simp (maxDischargeDepth := 30) +contextual [*]

@[simp] theorem railStartFail_mem (a0 : Fin 6) (a1 : State) : memOf (railStartFail a0 a1) = memOf a1 := by
  unfold railStartFail
  simp [*]

@[simp] theorem resetN_wf (a0 : Bool) (a1 : State) (hw : Memory.wf (memOf a1) = true) : Memory.wf (memOf (resetN a0 a1)) = true := by
  unfold resetN
  simp (maxDischargeDepth := 30) +contextual [*]

@[simp] theorem moduleReset_wf (a0 : State) (hw : Memory.wf (memOf a0) = true) : Memory.wf (memOf (moduleReset a0)) = true := by
  unfold moduleReset
  (try dsimp only); (repeat' split) <;> simp (maxDischargeDepth := 30) +contextual [*]

@[simp] theorem selvageLoss_wf (a0 : State) (hw : Memory.wf (memOf a0) = true) : Memory.wf (memOf (selvageLoss a0)) = true := by
  unfold selvageLoss
  simp (maxDischargeDepth := 30) +contextual [*]

@[simp] theorem aonBrownOut_wf (a0 : State) (hw : Memory.wf (memOf a0) = true) : Memory.wf (memOf (aonBrownOut a0)) = true := by
  unfold aonBrownOut
  simp (maxDischargeDepth := 30) +contextual [*]

/-! ### Machine/Power.lean -/

@[simp] theorem pwrFlag_mem (a0 : Nat) (a1 : Nat) (a2 : Bool) (a3 : State) : memOf (pwrFlag a0 a1 a2 a3) = memOf a3 := by
  unfold pwrFlag
  simp [*]

@[simp] theorem overvolt_mem (a0 : State) : memOf (overvolt a0) = memOf a0 := by
  unfold overvolt
  (try dsimp only); (repeat' split) <;> simp [*]

@[simp] theorem vholdOk_mem (a0 : Bool) (a1 : State) : memOf (vholdOk a0 a1) = memOf a1 := by
  unfold vholdOk
  (try dsimp only); (repeat' split) <;> simp [*]

@[simp] theorem vholdAbsent_mem (a0 : Bool) (a1 : State) : memOf (vholdAbsent a0 a1) = memOf a1 := by
  unfold vholdAbsent
  simp [*]

@[simp] theorem setPhases_mem (a0 : Nat) (a1 : State) : memOf (setPhases a0 a1) = memOf a1 := by
  unfold setPhases
  simp [*]

@[simp] theorem phaseAdd_mem (a0 : Nat) (a1 : State) : memOf (phaseAdd a0 a1) = memOf a1 := by
  unfold phaseAdd
  (try dsimp only); (repeat' split) <;> simp [*]

@[simp] theorem phaseShed_mem (a0 : Nat) (a1 : State) : memOf (phaseShed a0 a1) = memOf a1 := by
  unfold phaseShed
  (try dsimp only); (repeat' split) <;> simp [*]

@[simp] theorem pwrCfgWrite_mem (a0 : Word) (a1 : State) : memOf (pwrCfgWrite a0 a1) = memOf a1 := by
  unfold pwrCfgWrite
  simp [*]

@[simp] theorem budgetSide_mem (a0 : Nat) (a1 : State) : memOf (budgetSide a0 a1) = memOf a1 := by
  unfold budgetSide
  (try dsimp only); (repeat' split) <;> simp [*]

@[simp] theorem powerSample_mem (a0 : Nat) (a1 : Nat) (a2 : Nat) (a3 : Nat) (a4 : Bool) (a5 : State) :
    memOf (powerSample a0 a1 a2 a3 a4 a5) = memOf a5 := by
  unfold powerSample
  (try dsimp only); (repeat' split) <;> simp [*]

@[simp] theorem overBudget_mem (a0 : State) : memOf (overBudget a0) = memOf a0 := by
  unfold overBudget
  (try dsimp only); (repeat' split) <;> simp [*]

/-! ### Machine/Overlock.lean -/

@[simp] theorem setSweep_mem (a0 : Nat) (a1 : Sweep) (a2 : State) : memOf (setSweep a0 a1 a2) = memOf a2 := by
  unfold setSweep
  simp [*]

@[simp] theorem sweepStart_mem (a0 : Nat) (a1 : State) : memOf (sweepStart a0 a1) = memOf a1 := by
  unfold sweepStart
  simp [*]

@[simp] theorem sweepOverrun_mem (a0 : Nat) (a1 : State) : memOf (sweepOverrun a0 a1) = memOf a1 := by
  unfold sweepOverrun
  simp [*]

@[simp] theorem sweepNext_mem (a0 : Nat) (a1 : State) : memOf (sweepNext a0 a1) = memOf a1 := by
  unfold sweepNext
  simp [*]

@[simp] theorem setLatchFrame_mem (a0 : Nat) (a1 : BitVec 4096) (a2 : State) : memOf (setLatchFrame a0 a1 a2) = memOf a2 := by
  unfold setLatchFrame
  simp [*]

@[simp] theorem markKnownBad_mem (a0 : List Nat) (a1 : State) : memOf (markKnownBad a0 a1) = memOf a1 := by
  unfold markKnownBad
  simp [*]

@[simp] theorem holdForUpset_mem (a0 : Nat) (a1 : State) : memOf (holdForUpset a0 a1) = memOf a1 := by
  unfold holdForUpset
  simp [*]

@[simp] theorem resetRegion_mem (a0 : Nat) (a1 : State) : memOf (resetRegion a0 a1) = memOf a1 := by
  unfold resetRegion
  simp [*]

@[simp] theorem resetRelease_mem (a0 : Nat) (a1 : State) : memOf (resetRelease a0 a1) = memOf a1 := by
  unfold resetRelease
  (try dsimp only); (repeat' split) <;> simp [*]

@[simp] theorem classAction_mem (a0 : Nat) (a1 : Nat) (a2 : State) : memOf (classAction a0 a1 a2) = memOf a2 := by
  unfold classAction
  (try dsimp only); (repeat' split) <;> simp [*]

@[simp] theorem setLastBits_mem (a0 : Nat) (a1 : State) : memOf (setLastBits a0 a1) = memOf a1 := by
  unfold setLastBits
  simp [*]

@[simp] theorem noteUpset_mem (a0 : Nat) (a1 : BitVec 4096) (a2 : Nat) (a3 : Nat) (a4 : State) :
    memOf (noteUpset a0 a1 a2 a3 a4) = memOf a4 := by
  unfold noteUpset
  simp [*]

@[simp] theorem judgeUpset_mem (a0 : Nat) (a1 : BitVec 4096) (a2 : Nat) (a3 : Nat) (a4 : Bool) (a5 : State) :
    memOf (judgeUpset a0 a1 a2 a3 a4 a5) = memOf a5 := by
  unfold judgeUpset
  simp [*]

@[simp] theorem frameFound_mem (a0 : Bool) (a1 : Nat) (a2 : List (Fin 4096)) (a3 : Option Bool) (a4 : Option (Option Nat)) (a5 : State) :
    memOf (frameFound a0 a1 a2 a3 a4 a5) = memOf a5 := by
  unfold frameFound
  (try dsimp only); (repeat' split) <;> simp [*]

@[simp] theorem checkFrame_mem (a0 : Bool) (a1 : Nat) (a2 : List (Fin 4096)) (a3 : Option Bool) (a4 : State) :
    memOf (checkFrame a0 a1 a2 a3 a4) = memOf a4 := by
  unfold checkFrame
  simp [*]

@[simp] theorem refError_mem (a0 : Nat) (a1 : Ecc) (a2 : State) : memOf (refError a0 a1 a2) = memOf a2 := by
  unfold refError
  (try dsimp only); (repeat' split) <;> simp [*]

@[simp] theorem sweepFrame_mem (a0 : Bool) (a1 : SweepRead) (a2 : State) : memOf (sweepFrame a0 a1 a2) = memOf a2 := by
  unfold sweepFrame
  simp [*]

@[simp] theorem sweepFrames_mem (a0 : List SweepRead) (a1 : State) : memOf (sweepFrames a0 a1) = memOf a1 := by
  unfold sweepFrames
  simp [*]

@[simp] theorem setCare_mem (a0 : Plane) (a1 : PlaneCare) (a2 : State) : memOf (setCare a0 a1 a2) = memOf a2 := by
  unfold setCare
  simp [*]

@[simp] theorem refreshStart_mem (a0 : Bool) (a1 : State) : memOf (refreshStart a0 a1) = memOf a1 := by
  unfold refreshStart
  (try dsimp only); (repeat' split) <;> simp [*]

@[simp] theorem loseSpare_mem (a0 : Plane) (a1 : State) : memOf (loseSpare a0 a1) = memOf a1 := by
  unfold loseSpare
  simp [*]

@[simp] theorem rewriteFrame_mem (a0 : Plane) (a1 : Nat) (a2 : Bool) (a3 : State) : memOf (rewriteFrame a0 a1 a2 a3) = memOf a3 := by
  unfold rewriteFrame
  simp [*]

@[simp] theorem refreshNext_mem (a0 : Plane) (a1 : State) : memOf (refreshNext a0 a1) = memOf a1 := by
  unfold refreshNext
  simp [*]

@[simp] theorem refreshFrame_mem (a0 : Bool) (a1 : Nat) (a2 : Nat) (a3 : Bool) (a4 : State) :
    memOf (refreshFrame a0 a1 a2 a3 a4) = memOf a4 := by
  unfold refreshFrame
  (try dsimp only); (repeat' split) <;> simp [*]

@[simp] theorem voteError_mem (a0 : Bool) (a1 : State) : memOf (voteError a0 a1) = memOf a1 := by
  unfold voteError
  (try dsimp only); (repeat' split) <;> simp [*]

@[simp] theorem injectUpset_mem (a0 : Word) (a1 : State) : memOf (injectUpset a0 a1) = memOf a1 := by
  unfold injectUpset
  simp [*]

@[simp] theorem ovlSoftReset_mem (a0 : State) : memOf (ovlSoftReset a0) = memOf a0 := by
  unfold ovlSoftReset
  simp [*]

@[simp] theorem ovlWake_mem (a0 : State) : memOf (ovlWake a0) = memOf a0 := by
  unfold ovlWake
  simp [*]

/-! ### Machine/Start.lean -/

@[simp] theorem tryLoad_mem (a0 : Plane) (a1 : Bool) (a2 : State) : memOf (tryLoad a0 a1 a2).1 = memOf a2 := by
  unfold tryLoad
  simp [*]

@[simp] theorem loadHem_mem (a0 : Bool) (a1 : State) : memOf (loadHem a0 a1).1 = memOf a1 := by
  unfold loadHem
  simp [*]

@[simp] theorem fallBack_mem (a0 : Bool) (a1 : State) : memOf (fallBack a0 a1).1 = memOf a1 := by
  unfold fallBack
  simp [*]

@[simp] theorem loadDecision_mem (a0 : Bool) (a1 : Bool) (a2 : State) : memOf (loadDecision a0 a1 a2).1 = memOf a2 := by
  unfold loadDecision
  simp [*]

@[simp] theorem regionsIn_mem (a0 : State) : memOf (regionsIn a0) = memOf a0 := by
  unfold regionsIn
  (try dsimp only); (repeat' split) <;> simp [*]

@[simp] theorem startFails_mem (a0 : State) : memOf (startFails a0) = memOf a0 := by
  unfold startFails
  simp [*]

@[simp] theorem owedFaults_mem (a0 : State) : memOf (owedFaults a0) = memOf a0 := by
  unfold owedFaults
  simp [*]

@[simp] theorem runEntry_mem (a0 : State) : memOf (runEntry a0) = memOf a0 := by
  unfold runEntry
  (try dsimp only); (repeat' split) <;> simp [*]

@[simp] theorem runEntryQuick_mem (a0 : State) : memOf (runEntryQuick a0) = memOf a0 := by
  unfold runEntryQuick
  simp [*]

@[simp] theorem takeStraps_mem (a0 : BitVec 4) (a1 : State) : memOf (takeStraps a0 a1) = memOf a1 := by
  unfold takeStraps
  simp [*]

@[simp] theorem banksUp_mem (a0 : BitVec 12) (a1 : State) : memOf (banksUp a0 a1) = memOf a1 := by
  unfold banksUp
  simp [*]

@[simp] theorem startTime_mem (a0 : Nat) (a1 : State) : memOf (startTime a0 a1) = memOf a1 := by
  unfold startTime
  simp [*]

@[simp] theorem railsGood_mem (a0 : State) : memOf (railsGood a0) = memOf a0 := by
  unfold railsGood
  simp [*]

@[simp] theorem clocksUp_mem (a0 : StartEnv) (a1 : State) : memOf (clocksUp a0 a1) = memOf a1 := by
  unfold clocksUp
  simp [*]

@[simp] theorem calibrate_mem (a0 : Bool) (a1 : State) : memOf (calibrate a0 a1) = memOf a1 := by
  unfold calibrate
  simp [*]

@[simp] theorem startLoad_wf (a0 : StartEnv) (a1 : State) (hw :
    Memory.wf (memOf a1) = true) : Memory.wf (memOf (startLoad a0 a1)) = true := by
  unfold startLoad
  simp (maxDischargeDepth := 30) +contextual [*]

@[simp] theorem startBare_mem (a0 : StartEnv) (a1 : State) : memOf (startBare a0 a1) = memOf a1 := by
  unfold startBare
  simp [*]

@[simp] theorem startHold_wf (a0 : StartEnv) (a1 : State) (hw :
    Memory.wf (memOf a1) = true) : Memory.wf (memOf (startHold a0 a1)) = true := by
  unfold startHold
  simp (maxDischargeDepth := 30) +contextual [*]

@[simp] theorem powerOnStart_wf (a0 : StartEnv) (a1 : State) (hw :
    Memory.wf (memOf a1) = true) : Memory.wf (memOf (powerOnStart a0 a1)) = true := by
  unfold powerOnStart
  (try dsimp only); (repeat' split) <;> simp (maxDischargeDepth := 30) +contextual [*]

@[simp] theorem lockAndGo_mem (a0 : State → State) (a1 : Nat) (a2 : State) (h0 : ∀ x0, (memOf (a0 x0)) = memOf x0) :
    memOf (lockAndGo a0 a1 a2) = memOf a2 := by
  unfold lockAndGo
  (try dsimp only); (repeat' split) <;> simp [*]

/-! ### Machine/Modes.lean -/

@[simp] theorem modeAnswer_mem (a0 : Nat) (a1 : Nat) (a2 : State) : memOf (modeAnswer a0 a1 a2) = memOf a2 := by
  unfold modeAnswer
  simp [*]

@[simp] theorem modeRefused_mem (a0 : Nat) (a1 : Nat) (a2 : State) : memOf (modeRefused a0 a1 a2) = memOf a2 := by
  unfold modeRefused
  simp [*]

@[simp] theorem sleepReq_mem (a0 : Nat) (a1 : State) : memOf (sleepReq a0 a1) = memOf a1 := by
  unfold sleepReq
  simp [*]

@[simp] theorem safeReq_mem (a0 : State) : memOf (safeReq a0) = memOf a0 := by
  unfold safeReq
  (try dsimp only); (repeat' split) <;> simp [*]

@[simp] theorem cancelReq_mem (a0 : State) : memOf (cancelReq a0) = memOf a0 := by
  unfold cancelReq
  simp [*]

@[simp] theorem modeReq_mem (a0 : Nat) (a1 : State) : memOf (modeReq a0 a1) = memOf a1 := by
  unfold modeReq
  (try dsimp only); (repeat' split) <;> simp [*]

@[simp] theorem armLatch_mem (a0 : Nat) (a1 : State) : memOf (armLatch a0 a1) = memOf a1 := by
  unfold armLatch
  simp [*]

@[simp] theorem entered_mem (a0 : Mode) (a1 : State) : memOf (entered a0 a1) = memOf a1 := by
  unfold entered
  simp [*]

@[simp] theorem dozeEntry_mem (a0 : State) : memOf (dozeEntry a0) = memOf a0 := by
  unfold dozeEntry
  simp [*]

@[simp] theorem cutOperations_mem (a0 : State) : memOf (cutOperations a0) = memOf a0 := by
  unfold cutOperations
  simp [*]

@[simp] theorem drainCores_wf (a0 : State) (hw : Memory.wf (memOf a0) = true) : Memory.wf (memOf (drainCores a0)) = true := by
  unfold drainCores
  simp (maxDischargeDepth := 30) +contextual [*]

@[simp] theorem napEntry_wf (a0 : State) (hw : Memory.wf (memOf a0) = true) : Memory.wf (memOf (napEntry a0)) = true := by
  unfold napEntry
  simp (maxDischargeDepth := 30) +contextual [*]

@[simp] theorem hibBegin_wf (a0 : State) (hw : Memory.wf (memOf a0) = true) : Memory.wf (memOf (hibBegin a0)) = true := by
  unfold hibBegin
  simp (maxDischargeDepth := 30) +contextual [*]

@[simp] theorem hibKept_wf (a0 : State) (hw : Memory.wf (memOf a0) = true) : Memory.wf (memOf (hibKept a0)) = true := by
  unfold hibKept
  simp (maxDischargeDepth := 30) +contextual [*]

@[simp] theorem hibAlarms_mem (a0 : State) : memOf (hibAlarms a0) = memOf a0 := by
  unfold hibAlarms
  simp [*]

@[simp] theorem hibEnd_wf (a0 : State) (hw : Memory.wf (memOf a0) = true) : Memory.wf (memOf (hibEnd a0)) = true := by
  unfold hibEnd
  simp (maxDischargeDepth := 30) +contextual [*]

@[simp] theorem hibernateEntry_wf (a0 : State) (hw : Memory.wf (memOf a0) = true) : Memory.wf (memOf (hibernateEntry a0)) = true := by
  unfold hibernateEntry
  simp (maxDischargeDepth := 30) +contextual [*]

@[simp] theorem wakeEvent_mem (a0 : Nat) (a1 : Nat) (a2 : State) : memOf (wakeEvent a0 a1 a2) = memOf a2 := by
  unfold wakeEvent
  simp [*]

@[simp] theorem timedWake_mem (a0 : State) : memOf (timedWake a0) = memOf a0 := by
  unfold timedWake
  (try dsimp only); (repeat' split) <;> simp [*]

@[simp] theorem wakeAtReached_mem (a0 : State) : memOf (wakeAtReached a0) = memOf a0 := by
  unfold wakeAtReached
  simp [*]

@[simp] theorem pinWakes_mem (a0 : Nat) (a1 : Bool) (a2 : Bool) (a3 : Nat) (a4 : State) : memOf (pinWakes a0 a1 a2 a3 a4) = memOf a4 := by
  unfold pinWakes
  simp [*]

@[simp] theorem pinChange_mem (a0 : Nat) (a1 : Option Bool) (a2 : Nat) (a3 : State) : memOf (pinChange a0 a1 a2 a3) = memOf a3 := by
  unfold pinChange
  simp [*]

@[simp] theorem napLevels_mem (a0 : State) : memOf (napLevels a0) = memOf a0 := by
  unfold napLevels
  simp [*]

@[simp] theorem replayPin_mem (a0 : Nat) (a1 : State) : memOf (replayPin a0 a1) = memOf a1 := by
  unfold replayPin
  simp [*]

@[simp] theorem replayOne_mem (a0 : State) (a1 : Wake) : memOf (replayOne a0 a1) = memOf a0 := by
  unfold replayOne
  (try dsimp only); (repeat' split) <;> simp [*]

@[simp] theorem replay_mem (a0 : State) : memOf (replay a0) = memOf a0 := by
  unfold replay
  simp [*]

@[simp] theorem replayAbandoned_mem (a0 : State) : memOf (replayAbandoned a0) = memOf a0 := by
  unfold replayAbandoned
  simp [*]

@[simp] theorem padIrq_mem (a0 : State) (a1 : Nat) : memOf (padIrq a0 a1) = memOf a0 := by
  unfold padIrq
  simp [*]

@[simp] theorem padDetect_mem (a0 : State) (a1 : Nat) : memOf (padDetect a0 a1) = memOf a0 := by
  unfold padDetect
  simp [*]

@[simp] theorem padClockEdge_mem (a0 : Nat) (a1 : State) : memOf (padClockEdge a0 a1) = memOf a1 := by
  unfold padClockEdge
  simp [*]

@[simp] theorem wakeTo_mem (a0 : State) : memOf (wakeTo a0) = memOf a0 := by
  unfold wakeTo
  simp [*]

@[simp] theorem dozeWake_mem (a0 : State) : memOf (dozeWake a0) = memOf a0 := by
  unfold dozeWake
  (try dsimp only); (repeat' split) <;> simp [*]

@[simp] theorem napWake_mem (a0 : State) : memOf (napWake a0) = memOf a0 := by
  unfold napWake
  simp [*]

@[simp] theorem hibArrive_mem (a0 : State) : memOf (hibArrive a0) = memOf a0 := by
  unfold hibArrive
  simp [*]

@[simp] theorem hibernateWake_wf (a0 : StartEnv) (a1 : State) (hw :
    Memory.wf (memOf a1) = true) : Memory.wf (memOf (hibernateWake a0 a1)) = true := by
  unfold hibernateWake
  simp (maxDischargeDepth := 30) +contextual [*]

@[simp] theorem wakeRetry_mem (a0 : Fin 3) (a1 : State) : memOf (wakeRetry a0 a1) = memOf a1 := by
  unfold wakeRetry
  simp [*]

@[simp] theorem pllLocked_mem (a0 : Nat) (a1 : State) : memOf (pllLocked a0 a1) = memOf a1 := by
  unfold pllLocked
  simp [*]

end Sys2Proof.Machine
end

