-- ==== Sys2Proof/Laws/MemBus.lean ====
section
/-!
SUPPORT. Memory through register pages and the address space: what leaves it as it is (`_mem`) and what keeps its canonical form (`_wf`).
-/

namespace Sys2Proof.Machine

/-! ### Machine/Traps.lean -/

@[simp] theorem noteWinErr_mem (a0 : Bool) (a1 : Nat) (a2 : Nat) (a3 : Nat) (a4 : Nat) (a5 : Nat) (a6 : State) :
    memOf (noteWinErr a0 a1 a2 a3 a4 a5 a6) = memOf a6 := by
  unfold noteWinErr
  simp [*]

@[simp] theorem failSeen_mem (a0 : Initiator) (a1 : Nat) (a2 : Nat) (a3 : Rsp) (a4 : State) :
    memOf (failSeen a0 a1 a2 a3 a4) = memOf a4 := by
  unfold failSeen
  (try dsimp only); (repeat' split) <;> simp [*]

/-! ### Machine/RegRead.lean -/

@[simp] theorem regRead_mem (a0 : Initiator) (a1 : Nat) (a2 : State) : memOf (regRead a0 a1 a2).1 = memOf a2 := by
  unfold regRead
  (try dsimp only); (repeat' split) <;> simp [*]

@[simp] theorem snapDue_mem (a0 : State) (a1 : Nat) : memOf (snapDue a0 a1) = memOf a0 := by
  unfold snapDue
  (try dsimp only); (repeat' split) <;> simp [*]

@[simp] theorem snapTick_mem (a0 : State) : memOf (snapTick a0) = memOf a0 := by
  unfold snapTick
  simp [*]

/-! ### Machine/RegBus.lean -/

@[simp] theorem okIf_mem (r : State × Bool) : memOf (okIf r).1 = memOf r.1 := rfl
/-- An answer of a register's own behaviour leaves a canonical memory. -/
def wrWf (r : Option Wr) : Prop := ∀ t, r = some t → Memory.wf (memOf t.1) = true

theorem wrWf_none : wrWf none := fun _ h => nomatch h

theorem wrWf_some {r : Wr} (h : Memory.wf (memOf r.1) = true) : wrWf (some r) := fun _ e => by cases e; exact h

theorem wrWf_acts {s : State} (h : Memory.wf (memOf s) = true) : wrWf (acts s) := wrWf_some h

theorem wrWf_okIf {r : State × Bool} (h : Memory.wf (memOf r.1) = true) : wrWf (some (okIf r)) := wrWf_some h

theorem wrWf_unless {c : Bool} {s : State} {f : State → State} (h :
    Memory.wf (memOf s) = true) (hf : Memory.wf (memOf (f s)) = true) : wrWf (some (unless' c s f)) := by
  refine wrWf_some ?_
  unfold unless'
  split
  · exact h
  · exact hf

theorem wrWf_of_mem {r : Option Wr} {s : State} (h : ∀ t, r = some t → memOf t.1 = memOf s) (hw : Memory.wf (memOf s) = true) : wrWf r :=
  fun t ht => by rw [h t ht]; exact hw

@[simp] theorem unless'_mem (a0 : Bool) (a1 : State) (a2 : State → State) (h2 : ∀ x0, (memOf (a2 x0)) = memOf x0) :
    memOf (unless' a0 a1 a2).1 = memOf a1 := by
  unfold unless'
  simp [*]

@[simp] theorem resetPage_mem (a0 : Nat) (a1 : Nat → Bool) (a2 : State) : memOf (resetPage a0 a1 a2) = memOf a2 := by
  unfold resetPage
  simp [*]

@[simp] theorem resetOnly_mem (a0 : Nat) (a1 : List Nat) (a2 : State) : memOf (resetOnly a0 a1 a2) = memOf a2 := by
  unfold resetOnly
  simp [*]

@[simp] theorem softReset_mem (a0 : Page) (a1 : Nat) (a2 : State) : memOf (softReset a0 a1 a2) = memOf a2 := by
  unfold softReset
  (try dsimp only); (repeat' split) <;> simp [*]

@[simp] theorem padsKept_mem (a0 : Nat) (a1 : State) : memOf (padsKept a0 a1) = memOf a1 := by
  unfold padsKept
  simp [*]

@[simp] theorem disable_wf (a0 : Page) (a1 : Nat) (a2 : State) (hw :
    Memory.wf (memOf a2) = true) : Memory.wf (memOf (disable a0 a1 a2)) = true := by
  unfold disable
  (try dsimp only); (repeat' split) <;> simp (maxDischargeDepth := 30) +contextual [*]

@[simp] theorem enableWrite_wf (a0 : Page) (a1 : Nat) (a2 : Bool) (a3 : State) (hw :
    Memory.wf (memOf a3) = true) : Memory.wf (memOf (enableWrite a0 a1 a2 a3)) = true := by
  unfold enableWrite
  simp (maxDischargeDepth := 30) +contextual [*]

@[simp] theorem ctrlWrite_wf (a0 : Page) (a1 : Nat) (a2 : Word) (a3 : State) (hw :
    Memory.wf (memOf a3) = true) : Memory.wf (memOf (ctrlWrite a0 a1 a2 a3)) = true := by
  unfold ctrlWrite
  simp (maxDischargeDepth := 30) +contextual [*]

@[simp] theorem headerWrite_wf (a0 : Page) (a1 : Nat) (a2 : Nat) (a3 : Nat) (a4 : Word) (a5 : State) (hw :
    Memory.wf (memOf a5) = true) : Memory.wf (memOf (headerWrite a0 a1 a2 a3 a4 a5)) = true := by
  unfold headerWrite
  (try dsimp only); (repeat' split) <;> simp (maxDischargeDepth := 30) +contextual [*]

@[simp] theorem coreStart_mem (a0 : Nat) (a1 : State) : memOf (coreStart a0 a1) = memOf a1 := by
  unfold coreStart
  simp [*]

@[simp] theorem icacheClear_mem (a0 : Nat) (a1 : State) : memOf (icacheClear a0 a1) = memOf a1 := by
  unfold icacheClear
  simp [*]

@[simp] theorem plainWrite_mem (a0 : RegRow) (a1 : Nat) (a2 : Word) (a3 : State) : memOf (plainWrite a0 a1 a2 a3) = memOf a3 := by
  unfold plainWrite
  simp [*]

@[simp] theorem stageWrite_mem (a0 : RegRow) (a1 : Nat) (a2 : Nat) (a3 : Word) (a4 : State) :
    memOf (stageWrite a0 a1 a2 a3 a4).1 = memOf a4 := by
  unfold stageWrite
  simp [*]

theorem acts_mem (a0 : State) : ∀ t, acts a0 = some t → memOf t.1 = memOf a0 := by
  intro t h
  unfold acts at h
  cases h; simp +contextual [*]

theorem seamWrite_wf (a0 : Nat) (a1 : Nat) (a2 : Word) (a3 : State) (hw :
    Memory.wf (memOf a3) = true) : ∀ t, seamWrite a0 a1 a2 a3 = some t → Memory.wf (memOf t.1) = true := by
  change wrWf _
  unfold seamWrite
  split
  · extract_lets full
    clear_value full
    split
    · refine wrWf_unless hw ?_; simp (maxDischargeDepth := 30) [*]
    · refine wrWf_unless hw ?_; simp (maxDischargeDepth := 30) [*]
    · refine wrWf_acts ?_; simp (maxDischargeDepth := 30) [*]
    · exact wrWf_acts hw
  · split
    · split
      · refine wrWf_acts ?_; simp (maxDischargeDepth := 30) [*]
      · refine wrWf_acts ?_; simp (maxDischargeDepth := 30) [*]
      · refine wrWf_acts ?_; simp (maxDischargeDepth := 30) [*]
      · exact wrWf_acts hw
    · exact wrWf_none

theorem pnlWrite_wf (a0 : Nat) (a1 : Nat) (a2 : Word) (a3 : State) (hw :
    Memory.wf (memOf a3) = true) : ∀ t, pnlWrite a0 a1 a2 a3 = some t → Memory.wf (memOf t.1) = true := by
  change wrWf _
  unfold pnlWrite
  try dsimp only
  repeat' split
  all_goals first
  | exact wrWf_none
  | (refine wrWf_acts ?_; simp (maxDischargeDepth := 30) [*]; done)
  | (refine wrWf_okIf ?_; simp (maxDischargeDepth := 30) [*]; done)
  | (refine wrWf_unless ?_ ?_ <;> simp (maxDischargeDepth := 30) [*]; done)
  | (refine wrWf_some ?_; simp (maxDischargeDepth := 30) [*]; done)

theorem aonWrite_mem (a0 : Nat) (a1 : Word) (a2 : State) : ∀ t, aonWrite a0 a1 a2 = some t → memOf t.1 = memOf a2 := by
  intro t h
  unfold aonWrite at h
  first
  | (cases h; simp +contextual [*]; done)
  | (dsimp only at h; (repeat' (split at h)) <;> first | (cases h; done) | (cases h; simp +contextual [*]; done) | (simp [acts, okIf] at h; subst h; simp +contextual [*]; done) | (simp_all; done))
  | (simp at h; simp_all; done)

theorem pwrWrite_wf (a0 : Nat) (a1 : Word) (a2 : State) (hw :
    Memory.wf (memOf a2) = true) : ∀ t, pwrWrite a0 a1 a2 = some t → Memory.wf (memOf t.1) = true := by
  change wrWf _
  unfold pwrWrite
  try dsimp only
  repeat' split
  all_goals first
  | exact wrWf_none
  | (refine wrWf_acts ?_; simp (maxDischargeDepth := 30) [*]; done)
  | (refine wrWf_okIf ?_; simp (maxDischargeDepth := 30) [*]; done)
  | (refine wrWf_unless ?_ ?_ <;> simp (maxDischargeDepth := 30) [*]; done)
  | (refine wrWf_some ?_; simp (maxDischargeDepth := 30) [*]; done)

theorem clkWrite_mem (a0 : Nat) (a1 : Word) (a2 : RegEnv) (a3 : State) : ∀ t, clkWrite a0 a1 a2 a3 = some t → memOf t.1 = memOf a3 := by
  intro t h
  unfold clkWrite at h
  first
  | (cases h; simp +contextual [*]; done)
  | (dsimp only at h; (repeat' (split at h)) <;> first | (cases h; done) | (cases h; simp +contextual [*]; done) | (simp [acts, okIf] at h; subst h; simp +contextual [*]; done) | (simp_all; done))
  | (simp at h; simp_all; done)

theorem timWrite_mem (a0 : Nat) (a1 : Word) (a2 : State) : ∀ t, timWrite a0 a1 a2 = some t → memOf t.1 = memOf a2 := by
  intro t h
  unfold timWrite at h
  first
  | (cases h; simp +contextual [*]; done)
  | (dsimp only at h; (repeat' (split at h)) <;> first | (cases h; done) | (cases h; simp +contextual [*]; done) | (simp [acts, okIf] at h; subst h; simp +contextual [*]; done) | (simp_all; done))
  | (simp at h; simp_all; done)

theorem wdgWrite_wf (a0 : Initiator) (a1 : Nat) (a2 : Nat) (a3 : Word) (a4 : State) (hw :
    Memory.wf (memOf a4) = true) : ∀ t, wdgWrite a0 a1 a2 a3 a4 = some t → Memory.wf (memOf t.1) = true := by
  change wrWf _
  unfold wdgWrite
  try dsimp only
  repeat' split
  all_goals first
  | exact wrWf_none
  | (refine wrWf_acts ?_; simp (maxDischargeDepth := 30) [*]; done)
  | (refine wrWf_okIf ?_; simp (maxDischargeDepth := 30) [*]; done)
  | (refine wrWf_unless ?_ ?_ <;> simp (maxDischargeDepth := 30) [*]; done)
  | (refine wrWf_some ?_; simp (maxDischargeDepth := 30) [*]; done)

theorem fabWrite_wf (a0 : Nat) (a1 : Word) (a2 : State) (hw :
    Memory.wf (memOf a2) = true) : ∀ t, fabWrite a0 a1 a2 = some t → Memory.wf (memOf t.1) = true := by
  change wrWf _
  unfold fabWrite
  try dsimp only
  repeat' split
  all_goals first
  | exact wrWf_none
  | (refine wrWf_acts ?_; simp (maxDischargeDepth := 30) [*]; done)
  | (refine wrWf_okIf ?_; simp (maxDischargeDepth := 30) [*]; done)
  | (refine wrWf_unless ?_ ?_ <;> simp (maxDischargeDepth := 30) [*]; done)
  | (refine wrWf_some ?_; simp (maxDischargeDepth := 30) [*]; done)

theorem coreWrite_wf (a0 : Nat) (a1 : Nat) (a2 : Word) (a3 : State) (hw :
    Memory.wf (memOf a3) = true) : ∀ t, coreWrite a0 a1 a2 a3 = some t → Memory.wf (memOf t.1) = true := by
  change wrWf _
  unfold coreWrite
  try dsimp only
  repeat' split
  all_goals first
  | exact wrWf_none
  | (refine wrWf_acts ?_; simp (maxDischargeDepth := 30) [*]; done)
  | (refine wrWf_okIf ?_; simp (maxDischargeDepth := 30) [*]; done)
  | (refine wrWf_unless ?_ ?_ <;> simp (maxDischargeDepth := 30) [*]; done)
  | (refine wrWf_some ?_; simp (maxDischargeDepth := 30) [*]; done)

theorem bobWrite_wf (a0 : Nat) (a1 : Word) (a2 : RegEnv) (a3 : State) (hw :
    Memory.wf (memOf a3) = true) : ∀ t, bobWrite a0 a1 a2 a3 = some t → Memory.wf (memOf t.1) = true := by
  change wrWf _
  unfold bobWrite
  try dsimp only
  repeat' split
  all_goals first
  | exact wrWf_none
  | (refine wrWf_acts ?_; simp (maxDischargeDepth := 30) [*]; done)
  | (refine wrWf_okIf ?_; simp (maxDischargeDepth := 30) [*]; done)
  | (refine wrWf_unless ?_ ?_ <;> simp (maxDischargeDepth := 30) [*]; done)
  | (refine wrWf_some ?_; simp (maxDischargeDepth := 30) [*]; done)

theorem splWrite_wf (a0 : Nat) (a1 : State) (hw :
    Memory.wf (memOf a1) = true) : ∀ t, splWrite a0 a1 = some t → Memory.wf (memOf t.1) = true := by
  change wrWf _
  unfold splWrite
  try dsimp only
  repeat' split
  all_goals first
  | exact wrWf_none
  | (refine wrWf_acts ?_; simp (maxDischargeDepth := 30) [*]; done)
  | (refine wrWf_okIf ?_; simp (maxDischargeDepth := 30) [*]; done)
  | (refine wrWf_unless ?_ ?_ <;> simp (maxDischargeDepth := 30) [*]; done)
  | (refine wrWf_some ?_; simp (maxDischargeDepth := 30) [*]; done)

theorem flsWrite_wf (a0 : Nat) (a1 : Word) (a2 : State) (hw :
    Memory.wf (memOf a2) = true) : ∀ t, flsWrite a0 a1 a2 = some t → Memory.wf (memOf t.1) = true := by
  change wrWf _
  unfold flsWrite
  try dsimp only
  repeat' split
  all_goals first
  | exact wrWf_none
  | (refine wrWf_acts ?_; simp (maxDischargeDepth := 30) [*]; done)
  | (refine wrWf_okIf ?_; simp (maxDischargeDepth := 30) [*]; done)
  | (refine wrWf_unless ?_ ?_ <;> simp (maxDischargeDepth := 30) [*]; done)
  | (refine wrWf_some ?_; simp (maxDischargeDepth := 30) [*]; done)

theorem queWrite_mem (a0 : Nat) (a1 : Nat) (a2 : Word) (a3 : State) : ∀ t, queWrite a0 a1 a2 a3 = some t → memOf t.1 = memOf a3 := by
  intro t h
  unfold queWrite at h
  first
  | (cases h; simp +contextual [*]; done)
  | (dsimp only at h; (repeat' (split at h)) <;> first | (cases h; done) | (cases h; simp +contextual [*]; done) | (simp [acts, okIf] at h; subst h; simp +contextual [*]; done) | (simp_all; done))
  | (simp at h; simp_all; done)

theorem pinWrite_wf (a0 : Nat) (a1 : Nat) (a2 : Word) (a3 : State) (hw :
    Memory.wf (memOf a3) = true) : ∀ t, pinWrite a0 a1 a2 a3 = some t → Memory.wf (memOf t.1) = true := by
  change wrWf _
  unfold pinWrite
  try dsimp only
  repeat' split
  all_goals first
  | exact wrWf_none
  | (refine wrWf_acts ?_; simp (maxDischargeDepth := 30) [*]; done)
  | (refine wrWf_okIf ?_; simp (maxDischargeDepth := 30) [*]; done)
  | (refine wrWf_unless ?_ ?_ <;> simp (maxDischargeDepth := 30) [*]; done)
  | (refine wrWf_some ?_; simp (maxDischargeDepth := 30) [*]; done)

@[simp] theorem tteArmAll_mem (a0 : Word) (a1 : State) : memOf (tteArmAll a0 a1).1 = memOf a1 := by
  unfold tteArmAll
  simp [*]

theorem pltWrite_mem (a0 : Nat) (a1 : Word) (a2 : State) : ∀ t, pltWrite a0 a1 a2 = some t → memOf t.1 = memOf a2 := by
  intro t h
  unfold pltWrite at h
  first
  | (cases h; simp +contextual [*]; done)
  | (dsimp only at h; (repeat' (split at h)) <;> first | (cases h; done) | (cases h; simp +contextual [*]; done) | (simp [acts, okIf] at h; subst h; simp +contextual [*]; done) | (simp_all; done))
  | (simp at h; simp_all; done)

theorem hstWrite_wf (a0 : Nat) (a1 : Word) (a2 : State) (hw :
    Memory.wf (memOf a2) = true) : ∀ t, hstWrite a0 a1 a2 = some t → Memory.wf (memOf t.1) = true := by
  change wrWf _
  unfold hstWrite
  try dsimp only
  repeat' split
  all_goals first
  | exact wrWf_none
  | (refine wrWf_acts ?_; simp (maxDischargeDepth := 30) [*]; done)
  | (refine wrWf_okIf ?_; simp (maxDischargeDepth := 30) [*]; done)
  | (refine wrWf_unless ?_ ?_ <;> simp (maxDischargeDepth := 30) [*]; done)
  | (refine wrWf_some ?_; simp (maxDischargeDepth := 30) [*]; done)

theorem sesWrite_wf (a0 : Nat) (a1 : Word) (a2 : RegEnv) (a3 : State) (hw :
    Memory.wf (memOf a3) = true) : ∀ t, sesWrite a0 a1 a2 a3 = some t → Memory.wf (memOf t.1) = true := by
  change wrWf _
  unfold sesWrite
  try dsimp only
  repeat' split
  all_goals first
  | exact wrWf_none
  | (refine wrWf_acts ?_; simp (maxDischargeDepth := 30) [*]; done)
  | (refine wrWf_okIf ?_; simp (maxDischargeDepth := 30) [*]; done)
  | (refine wrWf_unless ?_ ?_ <;> simp (maxDischargeDepth := 30) [*]; done)
  | (refine wrWf_some ?_; simp (maxDischargeDepth := 30) [*]; done)

theorem lcsWrite_wf (a0 : Nat) (a1 : Word) (a2 : RegEnv) (a3 : State) (hw :
    Memory.wf (memOf a3) = true) : ∀ t, lcsWrite a0 a1 a2 a3 = some t → Memory.wf (memOf t.1) = true := by
  change wrWf _
  unfold lcsWrite
  try dsimp only
  repeat' split
  all_goals first
  | exact wrWf_none
  | (refine wrWf_acts ?_; simp (maxDischargeDepth := 30) [*]; done)
  | (refine wrWf_okIf ?_; simp (maxDischargeDepth := 30) [*]; done)
  | (refine wrWf_unless ?_ ?_ <;> simp (maxDischargeDepth := 30) [*]; done)
  | (refine wrWf_some ?_; simp (maxDischargeDepth := 30) [*]; done)

theorem fitWrite_wf (a0 : Nat) (a1 : Word) (a2 : State) (hw :
    Memory.wf (memOf a2) = true) : ∀ t, fitWrite a0 a1 a2 = some t → Memory.wf (memOf t.1) = true := by
  change wrWf _
  unfold fitWrite
  try dsimp only
  repeat' split
  all_goals first
  | exact wrWf_none
  | (refine wrWf_acts ?_; simp (maxDischargeDepth := 30) [*]; done)
  | (refine wrWf_okIf ?_; simp (maxDischargeDepth := 30) [*]; done)
  | (refine wrWf_unless ?_ ?_ <;> simp (maxDischargeDepth := 30) [*]; done)
  | (refine wrWf_some ?_; simp (maxDischargeDepth := 30) [*]; done)

theorem blockWrite_wf (a0 : Initiator) (a1 : Page) (a2 : Nat) (a3 : Nat) (a4 : Nat) (a5 : Word) (a6 : RegEnv) (a7 : State) (hw :
    Memory.wf (memOf a7) = true) : ∀ t, blockWrite a0 a1 a2 a3 a4 a5 a6 a7 = some t → Memory.wf (memOf t.1) = true := by
  change wrWf _
  unfold blockWrite
  cases a1 <;> dsimp only
  case seam => exact seamWrite_wf _ _ _ _ hw
  case pnl => exact pnlWrite_wf _ _ _ _ hw
  case aon => exact wrWf_of_mem (aonWrite_mem _ _ _) hw
  case pwr => exact pwrWrite_wf _ _ _ hw
  case clk => exact wrWf_of_mem (clkWrite_mem _ _ _ _) hw
  case tim => exact wrWf_of_mem (timWrite_mem _ _ _) hw
  case wdg => exact wdgWrite_wf _ _ _ _ _ hw
  case fab => exact fabWrite_wf _ _ _ hw
  case core => exact coreWrite_wf _ _ _ _ hw
  case bob => exact bobWrite_wf _ _ _ _ hw
  case spl => exact splWrite_wf _ _ hw
  case fls => exact flsWrite_wf _ _ _ hw
  case que => exact wrWf_of_mem (queWrite_mem _ _ _ _) hw
  case pin => exact pinWrite_wf _ _ _ _ hw
  case plt => exact wrWf_of_mem (pltWrite_mem _ _ _) hw
  case hst => exact hstWrite_wf _ _ _ hw
  case ses => exact sesWrite_wf _ _ _ _ hw
  case lcs => exact lcsWrite_wf _ _ _ _ hw
  case fit => exact fitWrite_wf _ _ _ hw
  case mem => exact wrWf_none
  all_goals
    split
    · first | (refine wrWf_acts ?_; simp (maxDischargeDepth := 30) [*]; done) | exact wrWf_some hw
    · exact wrWf_none

@[simp] theorem blockReg_wf (a0 : Initiator) (a1 : Page) (a2 : Nat) (a3 : Word) (a4 : RegEnv) (a5 : State) (hw :
    Memory.wf (memOf a5) = true) : Memory.wf (memOf (blockReg a0 a1 a2 a3 a4 a5).1) = true := by
  have hb := blockWrite_wf a0 a1 (a2 / 4096) (panelFor a5 a0) (a2 % 4096) a3 a4 a5 hw
  unfold blockReg
  extract_lets p o
  split
  · rename_i r h; exact hb _ h
  · split
    · exact hw
    · split
      · simp (maxDischargeDepth := 30) [*]
      · simp (maxDischargeDepth := 30) [*]

@[simp] theorem regWrite_wf (a0 : Initiator) (a1 : Nat) (a2 : Word) (a3 : RegEnv) (a4 : State) (hw :
    Memory.wf (memOf a4) = true) : Memory.wf (memOf (regWrite a0 a1 a2 a3 a4).1) = true := by
  unfold regWrite
  split
  · exact hw
  · split
    · exact hw
    · split
      · exact hw
      · extract_lets r
        have hr : Memory.wf (memOf r.1) = true := by
          simp only [r]
          split
          · simp (maxDischargeDepth := 30) [hw]
          · exact blockReg_wf _ _ _ _ _ _ hw
        clear_value r
        simp [hr]

@[simp] theorem busServe_wf (a0 : BusWrite) (a1 : RegEnv) (a2 : State) (hw :
    Memory.wf (memOf a2) = true) : Memory.wf (memOf (busServe a0 a1 a2).1) = true := by
  unfold busServe
  simp (maxDischargeDepth := 30) +contextual [*]

theorem busOne_wf (a : Acc) (off : Nat) (v : Word) (x : State × Rsp) (w : BusWrite) (hx : Memory.wf (memOf x.1) = true) :
    Memory.wf (memOf (busOne a off v x w).1) = true := by
  unfold busOne
  split
  · exact regWrite_wf _ _ _ _ _ hx
  · refine onWay_wf _ _ _ _ _ _ (fun s hs => ?_) hx
    extract_lets t
    have ht : Memory.wf (memOf t.1) = true := busServe_wf _ _ _ hs
    clear_value t
    simp [ht]

@[simp] theorem busCycle_wf (a0 : Acc) (a1 : Nat) (a2 : Word) (a3 : State) (hw :
    Memory.wf (memOf a3) = true) : Memory.wf (memOf (busCycle a0 a1 a2 a3)) = true := by
  unfold busCycle
  extract_lets own all key l t r
  have ht : Memory.wf (memOf t) = true := by
    simp only [t]
    split <;> simp [hw]
  have hr : Memory.wf (memOf r.1) = true := foldl_fst_wf _ _ _ (by dsimp only; split <;> simp [ht]) fun x w hx => busOne_wf a0 a1 a2 _ w hx
  clear_value r
  simp [hr]

/-! ### Machine/Access.lean -/

theorem bindHit_mem (l : List Nat) (f : Nat → State → Option State) (hf : ∀ k s t, f k s = some t → memOf t = memOf s) (o : Option State)
    (m : _) (ho : ∀ t, o = some t → memOf t = m) (t : State) (h : l.foldl (fun o k => o.bind (f k)) o = some t) : memOf t = m := by
  induction l generalizing o with
  | nil => exact ho t h
  | cons k l ih =>
    refine ih _ (fun u hu => ?_) h
    obtain ⟨v, hv, hu⟩ := Option.bind_eq_some_iff.mp hu
    exact (hf k v u hu).trans (ho v hv)

theorem flashLines_mem (a0 : Nat) (a1 : Nat) (a2 : State) : ∀ t, flashLines a0 a1 a2 = some t → memOf t = memOf a2 := by
  intro t h
  exact bindHit_mem _ (fun k => flashHit (a0 / 32 + k)) (fun _ _ _ h => flashHit_mem _ _ _ h) _ _ (fun u hu => by cases hu; rfl) t h

@[simp] theorem flashGet_mem (a0 : Nat) (a1 : Nat) (a2 : Ecc) (a3 : State) : memOf (flashGet a0 a1 a2 a3).1 = memOf a3 := by
  unfold flashGet
  extract_lets s h r
  have hs : memOf s = memOf a3 := by
    show memOf (if _ then _ else _) = _
    split <;> simp
  split
  · simpa using hs
  · have hh : memOf (h.getD s) = memOf s := by
      cases e : h with
      | none => rfl
      | some t =>
        simp only [h] at e
        split at e
        · exact flashLines_mem _ _ _ _ e
        · cases e
    have hr : memOf r.1 = memOf a3 := by simp only [r, flashCheck_mem, hh, hs]
    split <;> simp [hr]

@[simp] theorem tcmCheck_mem (a0 : Nat) (a1 : Nat) (a2 : Nat) (a3 : Ecc) (a4 : State) : memOf (tcmCheck a0 a1 a2 a3 a4).1 = memOf a4 := by
  unfold tcmCheck
  (try dsimp only); (repeat' split) <;> simp [*]

@[simp] theorem tcmReach_mem (a0 : Initiator) (a1 : Nat) (a2 : State) : memOf (tcmReach a0 a1 a2).1 = memOf a2 := by
  unfold tcmReach
  simp [*]

@[simp] theorem memGet_mem (a0 : Initiator) (a1 : Zone) (a2 : Nat) (a3 : Nat) (a4 : Ecc) (a5 : State) :
    memOf (memGet a0 a1 a2 a3 a4 a5).1 = memOf a5 := by
  unfold memGet
  (try dsimp only); (repeat' split) <;> simp [*]

@[simp] theorem memPut_wf (a0 : Initiator) (a1 : Zone) (a2 : Nat) (a3 : List Byte) (a4 : State) (hw :
    Memory.wf (memOf a4) = true) : Memory.wf (memOf (memPut a0 a1 a2 a3 a4).1) = true := by
  unfold memPut
  (try dsimp only); (repeat' split) <;> simp (maxDischargeDepth := 30) +contextual [*]

@[simp] theorem pageGet_mem (a0 : Initiator) (a1 : Nat) (a2 : Nat) (a3 : State) : memOf (pageGet a0 a1 a2 a3).1 = memOf a3 := by
  unfold pageGet
  (try dsimp only); (repeat' split) <;> simp [*]

@[simp] theorem pagePut_wf (a0 : Acc) (a1 : Nat) (a2 : Nat) (a3 : Nat) (a4 : State) (hw :
    Memory.wf (memOf a4) = true) : Memory.wf (memOf (pagePut a0 a1 a2 a3 a4).1) = true := by
  unfold pagePut
  (try dsimp only); (repeat' split) <;> simp (maxDischargeDepth := 30) +contextual [*]

@[simp] theorem queTurn_mem (own : Initiator) (panel q off : Nat) (rw : Rw) (b : BeatEnv) (x : State × Rsp × DWord) (w : Initiator × DWord) :
    memOf (queTurn own panel q off rw b x w).1 = memOf x.1 := by
  unfold queTurn
  split
  · simp
  · simp

@[simp] theorem queCycle_mem (a0 : Initiator) (a1 : Nat) (a2 : Nat) (a3 : Nat) (a4 : Rw) (a5 : DWord) (a6 : BeatEnv) (a7 : State) :
    memOf (queCycle a0 a1 a2 a3 a4 a5 a6 a7).1 = memOf a7 := by
  unfold queCycle
  dsimp only
  split
  · simp
  · rw [foldl_fst_mem _ _ _ (fun x w => queTurn_mem ..)]
    simp

@[simp] theorem queGet_mem (a0 : Initiator) (a1 : Nat) (a2 : Nat) (a3 : Nat) (a4 : Nat) (a5 : BeatEnv) (a6 : State) :
    memOf (queGet a0 a1 a2 a3 a4 a5 a6).1 = memOf a6 := by
  unfold queGet
  simp [*]

@[simp] theorem quePut_mem (a0 : Initiator) (a1 : Nat) (a2 : Nat) (a3 : Nat) (a4 : Nat) (a5 : Nat) (a6 : BeatEnv) (a7 : State) :
    memOf (quePut a0 a1 a2 a3 a4 a5 a6 a7).1 = memOf a7 := by
  unfold quePut
  simp [*]

@[simp] theorem busGet_mem (a0 : Initiator) (a1 : Bool) (a2 : Nat) (a3 : Nat) (a4 : BeatEnv) (a5 : State) :
    memOf (busGet a0 a1 a2 a3 a4 a5).1 = memOf a5 := by
  unfold busGet
  (try dsimp only); (repeat' split) <;> simp [*]

@[simp] theorem busPut_wf (a0 : Acc) (a1 : Bool) (a2 : Nat) (a3 : Nat) (a4 : Nat) (a5 : BeatEnv) (a6 : State) (hw :
    Memory.wf (memOf a6) = true) : Memory.wf (memOf (busPut a0 a1 a2 a3 a4 a5 a6).1) = true := by
  unfold busPut
  (try dsimp only); (repeat' split) <;> simp (maxDischargeDepth := 30) +contextual [*]

end Sys2Proof.Machine
end

