-- ==== Sys2Proof/Laws/MemCores.lean ====
section
/-!
SUPPORT. Memory through the cores and the fabric window: what leaves it as it is (`_mem`) and what keeps its canonical form (`_wf`).
-/

namespace Sys2Proof.Machine

/-! ### Machine/Cores.lean -/

@[simp] theorem wx_mem (a0 : Nat) (a1 : Nat) (a2 : DWord) (a3 : State) : memOf (wx a0 a1 a2 a3) = memOf a3 := by
  unfold wx
  simp [*]

@[simp] theorem wfp_mem (a0 : Nat) (a1 : Nat) (a2 : DWord) (a3 : State) : memOf (wfp a0 a1 a2 a3) = memOf a3 := by
  unfold wfp
  simp [*]

@[simp] theorem passInstr_mem (a0 : Nat) (a1 : Nat) (a2 : State) : memOf (passInstr a0 a1 a2) = memOf a2 := by
  unfold passInstr
  simp [*]

@[simp] theorem jumpTo_mem (a0 : Nat) (a1 : DWord) (a2 : State) : memOf (jumpTo a0 a1 a2) = memOf a2 := by
  unfold jumpTo
  simp [*]

@[simp] theorem takeIrq_mem (a0 : Nat) (a1 : State) : memOf (takeIrq a0 a1) = memOf a1 := by
  unfold takeIrq
  (try dsimp only); (repeat' split) <;> simp [*]

@[simp] theorem mretRun_mem (a0 : Nat) (a1 : State) : memOf (mretRun a0 a1) = memOf a1 := by
  unfold mretRun
  simp [*]

@[simp] theorem debugHalt_mem (a0 : Nat) (a1 : Nat) (a2 : State) : memOf (debugHalt a0 a1 a2) = memOf a2 := by
  unfold debugHalt
  simp [*]

@[simp] theorem trigAct_mem (a0 : Nat) (a1 : DWord) (a2 : Nat) (a3 : State) : memOf (trigAct a0 a1 a2 a3) = memOf a3 := by
  unfold trigAct
  simp [*]

@[simp] theorem ebreakRun_mem (a0 : Nat) (a1 : State) : memOf (ebreakRun a0 a1) = memOf a1 := by
  unfold ebreakRun
  simp [*]

@[simp] theorem pmpCfgPut_mem (a0 : Nat) (a1 : Nat) (a2 : Nat) (a3 : State) : memOf (pmpCfgPut a0 a1 a2 a3) = memOf a3 := by
  unfold pmpCfgPut
  simp [*]

@[simp] theorem pmpAddrPut_mem (a0 : Nat) (a1 : Nat) (a2 : DWord) (a3 : State) : memOf (pmpAddrPut a0 a1 a2 a3) = memOf a3 := by
  unfold pmpAddrPut
  simp [*]

@[simp] theorem mstatusPut_mem (a0 : Nat) (a1 : DWord) (a2 : State) : memOf (mstatusPut a0 a1 a2) = memOf a2 := by
  unfold mstatusPut
  simp [*]

@[simp] theorem trigPut_mem (a0 : Nat) (a1 : Nat) (a2 : DWord) (a3 : Bool) (a4 : State) : memOf (trigPut a0 a1 a2 a3 a4) = memOf a4 := by
  unfold trigPut
  simp [*]

@[simp] theorem csrPut_mem (a0 : Nat) (a1 : Nat) (a2 : DWord) (a3 : State) : memOf (csrPut a0 a1 a2 a3) = memOf a3 := by
  unfold csrPut
  simp [*]

@[simp] theorem csrRun_mem (a0 : Nat) (a1 : CsrOp) (a2 : Bool) (a3 : Nat) (a4 : Nat) (a5 : Nat) (a6 : Nat) (a7 : Nat) (a8 : State) :
    memOf (csrRun a0 a1 a2 a3 a4 a5 a6 a7 a8) = memOf a8 := by
  unfold csrRun
  (try dsimp only); (repeat' split) <;> simp [*]

@[simp] theorem icacheFill_mem (a0 : Nat) (a1 : Nat) (a2 : List Byte) (a3 : State) : memOf (icacheFill a0 a1 a2 a3) = memOf a3 := by
  unfold icacheFill
  simp [*]

@[simp] theorem lineGet_mem (a0 : Nat) (a1 : Zone) (a2 : Nat) (a3 : CoreEnv) (a4 : State) :
    memOf (lineGet a0 a1 a2 a3 a4).1 = memOf a4 := by
  unfold lineGet
  (try dsimp only); (repeat' split) <;> simp [*]

@[simp] theorem parityDrop_mem (a0 : Nat) (a1 : Nat) (a2 : State) : memOf (parityDrop a0 a1 a2) = memOf a2 := by
  unfold parityDrop
  simp [*]

@[simp] theorem fetchHalf_mem (a0 : Nat) (a1 : Nat) (a2 : CoreEnv) (a3 : State) : memOf (fetchHalf a0 a1 a2 a3).1 = memOf a3 := by
  unfold fetchHalf
  (try dsimp only); (repeat' split) <;> simp [*]

@[simp] theorem fetch_mem (a0 : Nat) (a1 : CoreEnv) (a2 : State) : memOf (fetch a0 a1 a2).1 = memOf a2 := by
  unfold fetch
  (try dsimp only); (repeat' split) <;> simp [*]

@[simp] theorem loadDone_mem (a0 : Nat) (a1 : MemOp) (a2 : Nat) (a3 : Nat) (a4 : Nat) (a5 : State) :
    memOf (loadDone a0 a1 a2 a3 a4 a5) = memOf a5 := by
  unfold loadDone
  simp [*]

@[simp] theorem tportSend_mem (a0 : TportReq) (a1 : Bool) (a2 : State) : memOf (tportSend a0 a1 a2) = memOf a2 := by
  unfold tportSend
  simp [*]

@[simp] theorem tportAccess_mem (a0 : Nat) (a1 : Nat) (a2 : Nat) (a3 : MemOp) (a4 : Nat) (a5 : Nat) (a6 : DWord) (a7 : Bool)
    (a8 : State) :
    memOf (tportAccess a0 a1 a2 a3 a4 a5 a6 a7 a8) = memOf a8 := by
  unfold tportAccess
  (try dsimp only); (repeat' split) <;> simp [*]

@[simp] theorem doorStore_wf (a0 : Nat) (a1 : Nat) (a2 : Nat) (a3 : Nat) (a4 : DWord) (a5 : CoreEnv) (a6 : Nat) (a7 : State) (hw :
    Memory.wf (memOf a7) = true) : Memory.wf (memOf (doorStore a0 a1 a2 a3 a4 a5 a6 a7)) = true := by
  unfold doorStore
  simp (maxDischargeDepth := 30) +contextual [*]

@[simp] theorem loadRun_mem (a0 : Nat) (a1 : MemOp) (a2 : Nat) (a3 : Nat) (a4 : Nat) (a5 : CoreEnv) (a6 : State) :
    memOf (loadRun a0 a1 a2 a3 a4 a5 a6) = memOf a6 := by
  unfold loadRun
  (try dsimp only); (repeat' split) <;> simp [*]

@[simp] theorem postStore_wf (a0 : Nat) (a1 : Nat) (a2 : Nat) (a3 : DWord) (a4 : State) (hw :
    Memory.wf (memOf a4) = true) : Memory.wf (memOf (postStore a0 a1 a2 a3 a4)) = true := by
  unfold postStore
  simp (maxDischargeDepth := 30) +contextual [*]

@[simp] theorem storeRun_wf (a0 : Nat) (a1 : MemOp) (a2 : Nat) (a3 : Nat) (a4 : DWord) (a5 : CoreEnv) (a6 : State) (hw :
    Memory.wf (memOf a6) = true) : Memory.wf (memOf (storeRun a0 a1 a2 a3 a4 a5 a6)) = true := by
  unfold storeRun
  (try dsimp only); (repeat' split) <;> simp (maxDischargeDepth := 30) +contextual [*]

@[simp] theorem memRun_wf (a0 : Nat) (a1 : MemOp) (a2 : Nat) (a3 : Nat) (a4 : DWord) (a5 : CoreEnv) (a6 : State) (hw :
    Memory.wf (memOf a6) = true) : Memory.wf (memOf (memRun a0 a1 a2 a3 a4 a5 a6)) = true := by
  unfold memRun
  (try dsimp only); (repeat' split) <;> simp (maxDischargeDepth := 30) +contextual [*]

@[simp] theorem atomicRun_wf (a0 : Nat) (a1 : Nat) (a2 : AmoOp) (a3 : Nat) (a4 : Nat) (a5 : Nat) (a6 : DWord) (a7 : DWord)
    (a8 : CoreEnv) (a9 : State) (hw :
    Memory.wf (memOf a9) = true) : Memory.wf (memOf (atomicRun a0 a1 a2 a3 a4 a5 a6 a7 a8 a9)) = true := by
  unfold atomicRun
  (try dsimp only); (repeat' split) <;> simp (maxDischargeDepth := 30) +contextual [*]

@[simp] theorem fpExec_mem (a0 : Nat) (a1 : FpOp) (a2 : Bool) (a3 : Nat) (a4 : Nat) (a5 : Nat) (a6 : Nat) (a7 : Nat) (a8 : Nat)
    (a9 : Nat) (a10 : State) :
    memOf (fpExec a0 a1 a2 a3 a4 a5 a6 a7 a8 a9 a10) = memOf a10 := by
  unfold fpExec
  simp [*]

@[simp] theorem fenceRun_wf (a0 : Nat) (a1 : Nat) (a2 : Nat) (a3 : State) (hw :
    Memory.wf (memOf a3) = true) : Memory.wf (memOf (fenceRun a0 a1 a2 a3)) = true := by
  unfold fenceRun
  simp (maxDischargeDepth := 30) +contextual [*]

@[simp] theorem wfiRun_mem (a0 : Nat) (a1 : Nat) (a2 : State) : memOf (wfiRun a0 a1 a2) = memOf a2 := by
  unfold wfiRun
  simp [*]

@[simp] theorem instrRun_wf (a0 : Nat) (a1 : RvInstr) (a2 : Nat) (a3 : Nat) (a4 : CoreEnv) (a5 : State) (hw :
    Memory.wf (memOf a5) = true) : Memory.wf (memOf (instrRun a0 a1 a2 a3 a4 a5)) = true := by
  unfold instrRun
  (try dsimp only); (repeat' split) <;> simp (maxDischargeDepth := 30) +contextual [*]

@[simp] theorem wfiEnds_mem (a0 : Nat) (a1 : State) : memOf (wfiEnds a0 a1) = memOf a1 := by
  unfold wfiEnds
  simp [*]

@[simp] theorem stepDone_mem (a0 : Nat) (a1 : State) : memOf (stepDone a0 a1) = memOf a1 := by
  unfold stepDone
  simp [*]

@[simp] theorem onCore_mem (a0 : Nat) (a1 : State → State) (a2 : State) (h1 : ∀ x0, (memOf (a1 x0)) = memOf x0) :
    memOf (onCore a0 a1 a2) = memOf a2 := by
  unfold onCore
  simp [*]

theorem onCore_wf (c : Nat) (f : State → State) (s : State) (hf : ∀ s, Memory.wf (memOf s) = true → Memory.wf (memOf (f s)) = true) (hw : Memory.wf (memOf s) = true) :
    Memory.wf (memOf (onCore c f s)) = true := by
  unfold onCore
  (try dsimp only)
  (repeat' split) <;> simp (maxDischargeDepth := 30) [*]

@[simp] theorem executeNext_wf (a0 : Nat) (a1 : CoreEnv) (a2 : State) (hw :
    Memory.wf (memOf a2) = true) : Memory.wf (memOf (executeNext a0 a1 a2)) = true := by
  unfold executeNext
  refine onCore_wf _ _ _ (fun s hs => ?_) hw
  split
  · simp (maxDischargeDepth := 30) [hs]
  · extract_lets r
    have hr : Memory.wf (memOf r.1) = true := by simp (maxDischargeDepth := 30) [r, hs]
    clear_value r
    split
    · exact hr
    · exact instrRun_wf _ _ _ _ _ _ hr

@[simp] theorem tportAnswer_mem (a0 : TportReq) (a1 : Rsp) (a2 : DWord) (a3 : State) : memOf (tportAnswer a0 a1 a2 a3) = memOf a3 := by
  unfold tportAnswer
  (try dsimp only); (repeat' split) <;> simp [*]

@[simp] theorem tportExpire_mem (a0 : Nat) (a1 : State) : memOf (tportExpire a0 a1) = memOf a1 := by
  unfold tportExpire
  (try dsimp only); (repeat' split) <;> simp [*]

@[simp] theorem tportRespond_mem (a0 : Nat) (a1 : Nat) (a2 : Rsp) (a3 : DWord) (a4 : State) :
    memOf (tportRespond a0 a1 a2 a3 a4) = memOf a4 := by
  unfold tportRespond
  (try dsimp only); (repeat' split) <;> simp [*]

@[simp] theorem tportIsolated_mem (a0 : State) : memOf (tportIsolated a0) = memOf a0 := by
  unfold tportIsolated
  simp [*]

/-! ### Machine/Rounds.lean -/

@[simp] theorem seenBy_fst (i : Initiator) (a n : Nat) (r : State × Rsp × Nat) : (seenBy i a n r).1 = r.1 := by
  unfold seenBy
  split <;> rfl

@[simp] theorem memServe_wf (a0 : MemReq) (a1 : Ecc) (a2 : State) (hw :
    Memory.wf (memOf a2) = true) : Memory.wf (memOf (memServe a0 a1 a2).1) = true := by
  unfold memServe
  split
  · extract_lets t r
    have ht : Memory.wf (memOf t) = true := drainFor_wf _ _ hw
    have hr : Memory.wf (memOf r.1) = true := by
      simp only [r]
      split
      · exact busPut_wf _ _ _ _ _ _ _ ht
      · exact busPut_wf _ _ _ _ _ _ _ ht
      · exact memPut_wf _ _ _ _ _ ht
    exact hr
  · split
    · rw [busGet_mem]; exact hw
    · rw [busGet_mem]; exact hw
    · rw [seenBy_fst, memGet_mem]; exact hw

@[simp] theorem memDenied_mem (a0 : MemReq) (a1 : State) : memOf (memDenied a0 a1) = memOf a1 := by
  unfold memDenied
  simp [*]

@[simp] theorem memOther_wf (a0 : MemReq) (a1 : State) (hw : Memory.wf (memOf a1) = true) : Memory.wf (memOf (memOther a0 a1)) = true := by
  unfold memOther
  simp (maxDischargeDepth := 30) +contextual [*]

@[simp] theorem memOthers_wf (a0 : List MemReq) (a1 : State) (hw :
    Memory.wf (memOf a1) = true) : Memory.wf (memOf (memOthers a0 a1)) = true := by
  unfold memOthers
  exact foldl_wf _ _ _ (by simp [hw]) fun s w hs => memOther_wf _ _ hs

theorem memTurn_wf (own : MemReq) (e : Ecc) (x : State × Rsp × Nat) (w : MemReq) (hx : Memory.wf (memOf x.1) = true) :
    Memory.wf (memOf (memTurn own e x w).1) = true := by
  unfold memTurn
  split
  · exact memServe_wf _ _ _ hx
  · exact memOther_wf _ _ hx

@[simp] theorem memRound_wf (a0 : MemReq) (a1 : List MemReq) (a2 : Ecc) (a3 : State) (hw :
    Memory.wf (memOf a3) = true) : Memory.wf (memOf (memRound a0 a1 a2 a3).1) = true := by
  unfold memRound
  extract_lets all order r
  have hr : Memory.wf (memOf r.1) = true :=
    foldl_fst_wf _ _ _ (by dsimp only; split <;> simp [hw]) fun x w hx => memTurn_wf _ _ _ _ hx
  clear_value r
  simp [hr]

@[simp] theorem memAccess_wf (a0 : MemReq) (a1 : List MemReq) (a2 : Ecc) (a3 : State) (hw :
    Memory.wf (memOf a3) = true) : Memory.wf (memOf (memAccess a0 a1 a2 a3)) = true := by
  unfold memAccess
  simp (maxDischargeDepth := 30) +contextual [*]

/-! ### Machine/Fabric.lean -/

@[simp] theorem guardedAccess_mem (a0 : Nat) (a1 : Nat) (a2 : BitVec 72) (a3 : State) : memOf (guardedAccess a0 a1 a2 a3) = memOf a3 := by
  unfold guardedAccess
  simp [*]

@[simp] theorem dllStep_mem (a0 : Nat) (a1 : Bool) (a2 : State) : memOf (dllStep a0 a1 a2) = memOf a2 := by
  unfold dllStep
  simp [*]

@[simp] theorem dllStepDone_mem (a0 : Nat) (a1 : State) : memOf (dllStepDone a0 a1) = memOf a1 := by
  unfold dllStepDone
  simp [*]

@[simp] theorem dllAligned_mem (a0 : Nat) (a1 : State) : memOf (dllAligned a0 a1) = memOf a1 := by
  unfold dllAligned
  simp [*]

@[simp] theorem bufSet_mem (a0 : Nat) (a1 : GBuf → GBuf) (a2 : State) : memOf (bufSet a0 a1 a2) = memOf a2 := by
  unfold bufSet
  simp [*]

@[simp] theorem needleEdge_mem (a0 : Nat) (a1 : State) : memOf (needleEdge a0 a1) = memOf a1 := by
  unfold needleEdge
  simp [*]

@[simp] theorem paramCapture_mem (a0 : Nat) (a1 : State) : memOf (paramCapture a0 a1) = memOf a1 := by
  unfold paramCapture
  simp [*]

@[simp] theorem inTurn_wf (a0 : WinReq) (a1 : State → State) (a2 : State)
    (h1 : ∀ x0, Memory.wf (memOf x0) = true → Memory.wf (memOf (a1 x0)) = true) (hw :
    Memory.wf (memOf a2) = true) : Memory.wf (memOf (inTurn a0 a1 a2)) = true := by
  unfold inTurn
  simp (maxDischargeDepth := 30) +contextual [*]

@[simp] theorem winEnd_mem (a0 : WinReq) (a1 : Rsp) (a2 : List DWord) (a3 : State) : memOf (winEnd a0 a1 a2 a3) = memOf a3 := by
  unfold winEnd
  simp [*]

@[simp] theorem winRead_wf (a0 : WinReq) (a1 : State) (hw : Memory.wf (memOf a1) = true) : Memory.wf (memOf (winRead a0 a1)) = true := by
  unfold winRead
  simp (maxDischargeDepth := 30) +contextual [*]

@[simp] theorem winBytes_wf (a0 : WinReq) (a1 : Zone) (a2 : Nat × Nat × Nat × BeatEnv) (a3 : State) (hw :
    Memory.wf (memOf a3) = true) : Memory.wf (memOf (winBytes a0 a1 a2 a3).1) = true := by
  unfold winBytes
  simp (maxDischargeDepth := 30) +contextual [*]

theorem winStore_wf (q : WinReq) (x : State × Rsp) (y : (Nat × Nat × Nat × BeatEnv) × Nat) (hx : Memory.wf (memOf x.1) = true) :
    Memory.wf (memOf (winStore q x y).1) = true := by
  unfold winStore
  extract_lets p u a z whole paged r
  clear_value paged z a whole u p
  split
  · exact hx
  · split
    · exact hx
    · have hr : Memory.wf (memOf r.1) = true := by
        simp only [r]
        split
        · exact busPut_wf _ _ _ _ _ _ _ hx
        · split
          · exact memPut_wf _ _ _ _ _ hx
          · exact winBytes_wf _ _ _ _ hx
      exact hr

@[simp] theorem winStores_wf (a0 : WinReq) (a1 : State) (hw :
    Memory.wf (memOf a1) = true) : Memory.wf (memOf (winStores a0 a1).1) = true := by
  unfold winStores
  exact foldl_fst_wf _ _ _ hw fun x p hx => winStore_wf _ _ _ hx

@[simp] theorem winWrite_wf (a0 : Bool) (a1 : WinReq) (a2 : State) (hw :
    Memory.wf (memOf a2) = true) : Memory.wf (memOf (winWrite a0 a1 a2)) = true := by
  unfold winWrite
  simp (maxDischargeDepth := 30) +contextual [*]

@[simp] theorem winAtomicAt_wf (a0 : WinAtomic) (a1 : Nat) (a2 : Nat) (a3 : WinReq) (a4 : State) (hw :
    Memory.wf (memOf a4) = true) : Memory.wf (memOf (winAtomicAt a0 a1 a2 a3 a4)) = true := by
  unfold winAtomicAt
  (try dsimp only); (repeat' split) <;> simp (maxDischargeDepth := 30) +contextual [*]

@[simp] theorem winAtomic_wf (a0 : WinAtomic) (a1 : Bool) (a2 : WinReq) (a3 : State) (hw :
    Memory.wf (memOf a3) = true) : Memory.wf (memOf (winAtomic a0 a1 a2 a3)) = true := by
  unfold winAtomic
  (try dsimp only); (repeat' split) <;> simp (maxDischargeDepth := 30) +contextual [*]

@[simp] theorem ppMove_mem (a0 : State) : memOf (ppMove a0) = memOf a0 := by
  unfold ppMove
  simp [*]

@[simp] theorem ppDiscard_mem (a0 : Nat) (a1 : Nat) (a2 : State) : memOf (ppDiscard a0 a1 a2) = memOf a2 := by
  unfold ppDiscard
  simp [*]

@[simp] theorem ppFrame_mem (a0 : Nat) (a1 : List Byte) (a2 : Bool) (a3 : State) : memOf (ppFrame a0 a1 a2 a3) = memOf a3 := by
  unfold ppFrame
  simp [*]

@[simp] theorem ppSend_mem (a0 : Nat) (a1 : State) : memOf (ppSend a0 a1) = memOf a1 := by
  unfold ppSend
  (try dsimp only); (repeat' split) <;> simp [*]

@[simp] theorem ppLink_mem (a0 : Nat) (a1 : Bool) (a2 : State) : memOf (ppLink a0 a1 a2) = memOf a2 := by
  unfold ppLink
  simp [*]

@[simp] theorem ppDrop_mem (a0 : Nat) (a1 : State) : memOf (ppDrop a0 a1) = memOf a1 := by
  unfold ppDrop
  simp [*]

@[simp] theorem isolationSettles_mem (a0 : State) : memOf (isolationSettles a0) = memOf a0 := by
  unfold isolationSettles
  simp [*]

end Sys2Proof.Machine
end

