-- ==== Sys2Proof/Laws/MemPorts.lean ====
section
/-!
SUPPORT. Memory through host ports, sessions, debug and the operand forms: what leaves it as it is (`_mem`) and what keeps its canonical form (`_wf`).
-/

namespace Sys2Proof.Machine

/-! ### Machine/HostPort.lean -/

theorem next_wf (f : State → State × Rsp × List Byte) (x : Loop) (hf : ∀ s, Memory.wf (memOf s) = true → Memory.wf (memOf (f s).1) = true)
    (hx : Memory.wf (memOf x.1) = true) : Memory.wf (memOf (Loop.next f x).1) = true := by
  unfold Loop.next
  split
  · exact hx
  · extract_lets r
    have hr : Memory.wf (memOf r.1) = true := hf _ hx
    clear_value r
    split <;> exact hr

theorem loop_wf (m : Nat) (l : List Nat) (f : Nat → State → State × Rsp × List Byte) (s : State) (hs : Memory.wf (memOf s) = true)
    (hf : ∀ k s, Memory.wf (memOf s) = true → Memory.wf (memOf (f k s).1) = true) :
    Memory.wf (memOf (Loop.done m (l.foldl (fun x k => Loop.next (f k) x) ((s, .okay, 0, []) : Loop))).1) = true :=
  foldl_fst_wf _ _ _ hs fun x k hx => next_wf (f k) x (hf k) hx

theorem bar0One_wf (q : PcieReq) (x : State × Rsp × Nat × List DWord) (d : (BitVec 4 × Word) × Nat) (hx : Memory.wf (memOf x.1) = true) :
    Memory.wf (memOf (bar0One q x d).1) = true := by
  unfold bar0One
  split
  · exact hx
  · extract_lets o a r1 r2
    have h1 : Memory.wf (memOf r1.1) = true := by simp (maxDischargeDepth := 30) [r1, hx]
    have h2 : Memory.wf (memOf r2.1) = true := by simp (maxDischargeDepth := 30) [r2, hx]
    clear_value r1 r2 o a
    split
    · exact hx
    · split
      · exact h1
      · exact h2

theorem qPopOne_wf (i : Initiator) (panel q : Nat) (env : HostEnv) (x : Loop × Bool) (k : Nat) (hx : Memory.wf (memOf x.1.1) = true) :
    Memory.wf (memOf (qPopOne i panel q env x k).1.1) = true := by
  unfold qPopOne
  extract_lets b
  clear_value b
  split
  · exact hx
  · split
    · exact hx
    · refine next_wf _ _ (fun s hs => ?_) hx
      simp (maxDischargeDepth := 30) [hs]

@[simp] theorem rdReg_wf (a0 : Initiator) (a1 : List Byte) (a2 : State) (hw :
    Memory.wf (memOf a2) = true) : Memory.wf (memOf (rdReg a0 a1 a2).1) = true := by
  unfold rdReg
  extract_lets a n
  repeat' split
  all_goals first
    | exact hw
    | exact loop_wf _ _ _ _ hw fun k s hs => by simp (maxDischargeDepth := 30) [hs]

@[simp] theorem wrReg_wf (a0 : Initiator) (a1 : List Byte) (a2 : HostEnv) (a3 : State) (hw :
    Memory.wf (memOf a3) = true) : Memory.wf (memOf (wrReg a0 a1 a2 a3).1) = true := by
  unfold wrReg
  extract_lets a n
  repeat' split
  all_goals first
    | exact hw
    | exact loop_wf _ _ _ _ hw fun k s hs => by simp (maxDischargeDepth := 30) [hs]

@[simp] theorem qPush_wf (a0 : Initiator) (a1 : Nat) (a2 : List Byte) (a3 : HostEnv) (a4 : State) (hw :
    Memory.wf (memOf a4) = true) : Memory.wf (memOf (qPush a0 a1 a2 a3 a4).1) = true := by
  unfold qPush
  extract_lets q n
  repeat' split
  all_goals first
    | exact hw
    | exact loop_wf _ _ _ _ hw fun k s hs => by simp (maxDischargeDepth := 30) [hs]

@[simp] theorem qPop_wf (a0 : Initiator) (a1 : Nat) (a2 : List Byte) (a3 : HostEnv) (a4 : State) (hw :
    Memory.wf (memOf a4) = true) : Memory.wf (memOf (qPop a0 a1 a2 a3 a4).1) = true := by
  unfold qPop
  extract_lets q n r
  have hr : Memory.wf (memOf r.1.1) = true := by
    simp only [r]
    generalize List.range n = l
    have h : ∀ (l : List Nat) (x : Loop × Bool), Memory.wf (memOf x.1.1) = true → Memory.wf (memOf (l.foldl (qPopOne a0 a1 q a3) x).1.1) = true := by
      intro l
      induction l with
      | nil => exact fun x hx => hx
      | cons k l ih => exact fun x hx => ih _ (qPopOne_wf _ _ _ _ _ _ hx)
    exact h l _ hw
  clear_value r
  split
  · exact hw
  · exact hr

@[simp] theorem qCmd_mem (a0 : Initiator) (a1 : Nat) (a2 : List Byte) (a3 : HostEnv) (a4 : State) :
    memOf (qCmd a0 a1 a2 a3 a4).1 = memOf a4 := by
  unfold qCmd
  simp [*]

@[simp] theorem wrMem_wf (a0 : Initiator) (a1 : List Byte) (a2 : State) (hw :
    Memory.wf (memOf a2) = true) : Memory.wf (memOf (wrMem a0 a1 a2).1) = true := by
  unfold wrMem
  extract_lets a n
  repeat' split
  all_goals first
    | exact hw
    | exact loop_wf _ _ _ _ hw fun k s hs => by simp (maxDischargeDepth := 30) [hs]

@[simp] theorem rdMem_wf (a0 : Initiator) (a1 : List Byte) (a2 : HostEnv) (a3 : State) (hw :
    Memory.wf (memOf a3) = true) : Memory.wf (memOf (rdMem a0 a1 a2 a3).1) = true := by
  unfold rdMem
  extract_lets a n
  repeat' split
  all_goals first
    | exact hw
    | exact loop_wf _ _ _ _ hw fun k s hs => by simp (maxDischargeDepth := 30) [hs]

@[simp] theorem qspiServe_mem (a0 : Nat) (a1 : QspiReq) (a2 : Initiator → State → PortRes) (a3 : State)
    (h2 : ∀ x0 x1, (memOf (a2 x0 x1).1) = memOf x1) :
    memOf (qspiServe a0 a1 a2 a3).1 = memOf a3 := by
  unfold qspiServe
  simp [*]

@[simp] theorem qspiReq_mem (a0 : Nat) (a1 : QspiReq) (a2 : Initiator → State → PortRes) (a3 : State)
    (h2 : ∀ x0 x1, (memOf (a2 x0 x1).1) = memOf x1) :
    memOf (qspiReq a0 a1 a2 a3) = memOf a3 := by
  unfold qspiReq
  simp [*]

@[simp] theorem bareReq_mem (a0 : List Byte) (a1 : State → PortRes) (a2 : State) (h1 : ∀ x0, (memOf (a1 x0).1) = memOf x0) :
    memOf (bareReq a0 a1 a2).1 = memOf a2 := by
  unfold bareReq
  simp [*]

theorem qspiRun_wf (port opc tag : Nat) (crc : Word) (body : List Byte) (run : State → PortRes) (s : State) (hr : ∀ s, Memory.wf (memOf s) = true → Memory.wf (memOf (run s).1) = true)
    (hw : Memory.wf (memOf s) = true) : Memory.wf (memOf (qspiRun port opc tag crc body run s)) = true := by
  unfold qspiRun
  (try dsimp only)
  (repeat' split) <;> simp (maxDischargeDepth := 30) [*]

theorem qspiReq_wf (opc : Nat) (r : QspiReq) (run : Initiator → State → PortRes) (s : State)
    (hr : ∀ i s, Memory.wf (memOf s) = true → Memory.wf (memOf (run i s).1) = true) (hw : Memory.wf (memOf s) = true) :
    Memory.wf (memOf (qspiReq opc r run s)) = true := by
  unfold qspiReq
  split
  · simp [hw]
  · refine qspiRun_wf _ _ _ _ _ _ _ (fun s hs => ?_) hw
    unfold qspiServe
    (repeat' split) <;> first | exact hs | exact hr _ _ hs

@[simp] theorem sSendReq_mem (a0 : Nat) (a1 : List Byte) (a2 : State) : memOf (sSendReq a0 a1 a2).1 = memOf a2 := by
  unfold sSendReq
  simp [*]

@[simp] theorem portStatusReq_mem (a0 : Nat) (a1 : State) : memOf (portStatusReq a0 a1).1 = memOf a1 := by
  unfold portStatusReq
  simp [*]

@[simp] theorem pcieFail_mem (a0 : Fin 4) (a1 : Rw) (a2 : Nat) (a3 : Rsp) (a4 : State) : memOf (pcieFail a0 a1 a2 a3 a4) = memOf a4 := by
  unfold pcieFail
  (try dsimp only); (repeat' split) <;> simp [*]

@[simp] theorem bar0Run_wf (a0 : PcieReq) (a1 : State) (hw : Memory.wf (memOf a1) = true) : Memory.wf (memOf (bar0Run a0 a1).1) = true := by
  unfold bar0Run
  exact foldl_fst_wf _ _ _ hw fun x d hx => bar0One_wf _ _ _ hx

@[simp] theorem bar0_wf (a0 : PcieReq) (a1 : State) (hw : Memory.wf (memOf a1) = true) : Memory.wf (memOf (bar0 a0 a1)) = true := by
  unfold bar0
  simp (maxDischargeDepth := 30) +contextual [*]

@[simp] theorem bar4_wf (a0 : PcieReq) (a1 : State) (hw : Memory.wf (memOf a1) = true) : Memory.wf (memOf (bar4 a0 a1)) = true := by
  unfold bar4
  (try dsimp only); (repeat' split) <;> simp (maxDischargeDepth := 30) +contextual [*]

@[simp] theorem bar2Queue_mem (a0 : Fin 4) (a1 : Fin 64) (a2 : Nat) (a3 : Rw) (a4 : DWord) (a5 : BeatEnv) (a6 : State) :
    memOf (bar2Queue a0 a1 a2 a3 a4 a5 a6) = memOf a6 := by
  unfold bar2Queue
  (try dsimp only); (repeat' split) <;> simp [*]

@[simp] theorem bar2Put_mem (a0 : Fin 4) (a1 : Nat) (a2 : BitVec 4) (a3 : Word) (a4 : State) :
    memOf (bar2Put a0 a1 a2 a3 a4).1 = memOf a4 := by
  unfold bar2Put
  simp [*]

theorem bar2One_mem (q : PcieReq) (x : State × Rsp × Nat × List DWord) (d : (Nat × List (BitVec 4 × Word)) × Nat) :
    memOf (bar2One q x d).1 = memOf x.1 := by
  unfold bar2One
  (try dsimp only)
  (repeat' split) <;> simp

@[simp] theorem bar2_mem (a0 : PcieReq) (a1 : State) : memOf (bar2 a0 a1) = memOf a1 := by
  unfold bar2
  split
  · simp
  · extract_lets r
    have hr : memOf r.1 = memOf a1 := foldl_fst_mem _ _ _ fun x d => bar2One_mem a0 (x.1, x.2) d
    split <;> simp [hr]

@[simp] theorem pcieDo_wf (a0 : PcieCmd) (a1 : State) (hw : Memory.wf (memOf a1) = true) : Memory.wf (memOf (pcieDo a0 a1)) = true := by
  unfold pcieDo
  (try dsimp only); (repeat' split) <;> simp (maxDischargeDepth := 30) +contextual [*]

@[simp] theorem pcieServe_wf (a0 : PcieCmd) (a1 : State) (hw :
    Memory.wf (memOf a1) = true) : Memory.wf (memOf (pcieServe a0 a1)) = true := by
  unfold pcieServe
  simp (maxDischargeDepth := 30) +contextual [*]

@[simp] theorem pcieRun_wf (a0 : PcieCmd) (a1 : State) (hw : Memory.wf (memOf a1) = true) : Memory.wf (memOf (pcieRun a0 a1)) = true := by
  unfold pcieRun
  simp (maxDischargeDepth := 30) +contextual [*]

@[simp] theorem heldGo_wf (a0 : State) (hw : Memory.wf (memOf a0) = true) : Memory.wf (memOf (heldGo a0)) = true := by
  unfold heldGo
  simp (maxDischargeDepth := 30) +contextual [*]

/-! ### Machine/SessionData.lean -/

@[simp] theorem sesQueue_wf (a0 : Nat) (a1 : Nat) (a2 : List Byte) (a3 : HostEnv) (a4 : State) (hw :
    Memory.wf (memOf a4) = true) : Memory.wf (memOf (sesQueue a0 a1 a2 a3 a4).1) = true := by
  unfold sesQueue
  (try dsimp only); (repeat' split) <;> simp (maxDischargeDepth := 30) +contextual [*]

@[simp] theorem sesApp_wf (a0 : Nat) (a1 : List Byte) (a2 : State) (hw :
    Memory.wf (memOf a2) = true) : Memory.wf (memOf (sesApp a0 a1 a2).1) = true := by
  unfold sesApp
  simp (maxDischargeDepth := 30) +contextual [*]

@[simp] theorem sesRequest_wf (a0 : Nat) (a1 : Nat) (a2 : List Byte) (a3 : HostEnv) (a4 : State) (hw :
    Memory.wf (memOf a4) = true) : Memory.wf (memOf (sesRequest a0 a1 a2 a3 a4).1) = true := by
  unfold sesRequest
  (try dsimp only); (repeat' split) <;> simp (maxDischargeDepth := 30) +contextual [*]

@[simp] theorem sesServed_wf (a0 : Nat) (a1 : Nat) (a2 : List Byte) (a3 : HostEnv) (a4 : Bool) (a5 : State) (hw :
    Memory.wf (memOf a5) = true) : Memory.wf (memOf (sesServed a0 a1 a2 a3 a4 a5).1) = true := by
  unfold sesServed
  simp (maxDischargeDepth := 30) +contextual [*]

@[simp] theorem sesPlain_wf (a0 : Nat) (a1 : List Byte) (a2 : HostEnv) (a3 : Bool) (a4 : State) (hw :
    Memory.wf (memOf a4) = true) : Memory.wf (memOf (sesPlain a0 a1 a2 a3 a4)) = true := by
  unfold sesPlain
  extract_lets op gen seq
  clear_value op gen seq
  split
  · simp (maxDischargeDepth := 30) [hw]
  · split <;> simp (maxDischargeDepth := 30) [hw]

@[simp] theorem dataFrame_wf (a0 : Nat) (a1 : HostEnv) (a2 : Bool) (a3 : State) (hw :
    Memory.wf (memOf a3) = true) : Memory.wf (memOf (dataFrame a0 a1 a2 a3)) = true := by
  have hd := dataJudged_wf a0 a3 hw
  unfold dataFrame
  split
  all_goals
    rename_i he
    rw [he] at hd
  · exact sesPlain_wf _ _ _ _ _ hd
  · exact hd

/-! ### Machine/Debug.lean -/

@[simp] theorem hartHalt_mem (a0 : Nat) (a1 : State) : memOf (hartHalt a0 a1) = memOf a1 := by
  unfold hartHalt
  simp [*]

@[simp] theorem hartResume_mem (a0 : Nat) (a1 : State) : memOf (hartResume a0 a1) = memOf a1 := by
  unfold hartResume
  (try dsimp only); (repeat' split) <;> simp [*]

@[simp] theorem dmControl_mem (a0 : Word) (a1 : State) : memOf (dmControl a0 a1) = memOf a1 := by
  unfold dmControl
  simp [*]

@[simp] theorem setDmWord_mem (a0 : Nat) (a1 : Word) (a2 : State) : memOf (setDmWord a0 a1 a2) = memOf a2 := by
  unfold setDmWord
  simp [*]

@[simp] theorem setDmArg_mem (a0 : Nat) (a1 : Nat) (a2 : Nat) (a3 : State) : memOf (setDmArg a0 a1 a2 a3) = memOf a3 := by
  unfold setDmArg
  simp [*]

@[simp] theorem cmdFails_mem (a0 : Nat) (a1 : State) : memOf (cmdFails a0 a1) = memOf a1 := by
  unfold cmdFails
  simp [*]

@[simp] theorem dcsrPut_mem (a0 : Nat) (a1 : DWord) (a2 : State) : memOf (dcsrPut a0 a1 a2) = memOf a2 := by
  unfold dcsrPut
  (try dsimp only); (repeat' split) <;> simp [*]

theorem absPut_mem (a0 : Nat) (a1 : Nat) (a2 : DWord) (a3 : State) : ∀ t, absPut a0 a1 a2 a3 = some t → memOf t = memOf a3 := by
  intro t h
  unfold absPut at h
  repeat' split at h
  all_goals first | (simp only [Option.some.injEq, reduceCtorEq] at h; done) | (simp only [Option.some.injEq] at h; rw [← h]; simp; done)

@[simp] theorem accessRegister_mem (a0 : Word) (a1 : State) : memOf (accessRegister a0 a1) = memOf a1 := by
  unfold accessRegister
  extract_lets c size n
  clear_value size n
  split
  · simp
  · split
    · simp
    · split
      · rfl
      · split
        · simp
        · split
          · split
            · rename_i t h; exact absPut_mem _ _ _ _ _ h
            · simp
          · split <;> simp

@[simp] theorem dbgWindow_mem (a0 : Nat) (a1 : Nat) (a2 : Nat) (a3 : DmiEnv) (a4 : State) :
    memOf (dbgWindow a0 a1 a2 a3 a4).1 = memOf a4 := by
  unfold dbgWindow
  (try dsimp only); (repeat' split) <;> simp [*]

@[simp] theorem dbgLoad_wf (a0 : Nat) (a1 : Nat) (a2 : Nat) (a3 : DmiEnv) (a4 : State) (hw :
    Memory.wf (memOf a4) = true) : Memory.wf (memOf (dbgLoad a0 a1 a2 a3 a4).1) = true := by
  unfold dbgLoad
  (try dsimp only); (repeat' split) <;> simp (maxDischargeDepth := 30) +contextual [*]

@[simp] theorem dbgStore_wf (a0 : Nat) (a1 : Nat) (a2 : Nat) (a3 : Nat) (a4 : DmiEnv) (a5 : State) (hw :
    Memory.wf (memOf a5) = true) : Memory.wf (memOf (dbgStore a0 a1 a2 a3 a4 a5).1) = true := by
  unfold dbgStore
  (try dsimp only); (repeat' split) <;> simp (maxDischargeDepth := 30) +contextual [*]

@[simp] theorem argMoves_mem (a0 : Word) (a1 : Nat) (a2 : State) : memOf (argMoves a0 a1 a2) = memOf a2 := by
  unfold argMoves
  simp [*]

@[simp] theorem memStoreCmd_wf (a0 : Word) (a1 : Nat) (a2 : DmiEnv) (a3 : State) (hw :
    Memory.wf (memOf a3) = true) : Memory.wf (memOf (memStoreCmd a0 a1 a2 a3)) = true := by
  unfold memStoreCmd
  generalize dmArg a3 0 % 2 ^ (8 * a1) = v
  have hd := dbgStore_wf a3.dm.hart (dmArg a3 1) a1 v a2 a3 hw
  revert hd
  generalize dbgStore a3.dm.hart (dmArg a3 1) a1 v a2 a3 = r
  intro hd
  dsimp only
  split
  · simp [hd]
  · simp [hd]

theorem memLoaded_wf (v : Word) (n : Nat) (r : State × Option Nat) (h :
    Memory.wf (memOf r.1) = true) : Memory.wf (memOf (memLoaded v n r)) = true := by
  unfold memLoaded
  split
  · simp [h]
  · simp [h]

@[simp] theorem memLoadCmd_wf (a0 : Word) (a1 : Nat) (a2 : DmiEnv) (a3 : State) (hw :
    Memory.wf (memOf a3) = true) : Memory.wf (memOf (memLoadCmd a0 a1 a2 a3)) = true := by
  exact memLoaded_wf _ _ _ (dbgLoad_wf _ _ _ _ _ hw)

@[simp] theorem accessMemory_wf (a0 : Word) (a1 : DmiEnv) (a2 : State) (hw :
    Memory.wf (memOf a2) = true) : Memory.wf (memOf (accessMemory a0 a1 a2)) = true := by
  unfold accessMemory
  simp (maxDischargeDepth := 30) +contextual [*]

@[simp] theorem dmCommand_wf (a0 : Word) (a1 : DmiEnv) (a2 : State) (hw :
    Memory.wf (memOf a2) = true) : Memory.wf (memOf (dmCommand a0 a1 a2)) = true := by
  unfold dmCommand
  (try dsimp only); (repeat' split) <;> simp (maxDischargeDepth := 30) +contextual [*]

@[simp] theorem dmiWrite_wf (a0 : Nat) (a1 : Word) (a2 : DmiEnv) (a3 : State) (hw :
    Memory.wf (memOf a3) = true) : Memory.wf (memOf (dmiWrite a0 a1 a2 a3)) = true := by
  unfold dmiWrite
  (try dsimp only); (repeat' split) <;> simp (maxDischargeDepth := 30) +contextual [*]

@[simp] theorem dmi_wf (a0 : Nat) (a1 : Nat) (a2 : Word) (a3 : DmiEnv) (a4 : State) (hw :
    Memory.wf (memOf a4) = true) : Memory.wf (memOf (dmi a0 a1 a2 a3 a4)) = true := by
  unfold dmi
  (try dsimp only); (repeat' split) <;> simp (maxDischargeDepth := 30) +contextual [*]

@[simp] theorem dtmcs_mem (a0 : State) : memOf (dtmcs a0) = memOf a0 := by
  unfold dtmcs
  simp [*]

@[simp] theorem jtagWord_mem (a0 : Nat) (a1 : Nat) (a2 : State) : memOf (jtagWord a0 a1 a2) = memOf a2 := by
  unfold jtagWord
  simp [*]

theorem jtagRun_wf' (code : Nat) (act : State → State × Nat × List Byte) (s : State)
    (h : ∀ x, Memory.wf (memOf x) = true → Memory.wf (memOf (act x).1) = true) (hw : Memory.wf (memOf s) = true) :
    Memory.wf (memOf (jtagRun code act s).1) = true := by
  unfold jtagRun
  extract_lets r
  have hr : Memory.wf (memOf r.1) = true := by simpa [r] using hw
  split
  · exact h _ hr
  · exact hr

@[simp] theorem jtagServed_wf (a0 : Nat) (a1 : List LcReq) (a2 : State → State × Nat × List Byte) (a3 : State)
    (h2 : ∀ x0, Memory.wf (memOf x0) = true → Memory.wf (memOf (a2 x0).1) = true) (hw :
    Memory.wf (memOf a3) = true) : Memory.wf (memOf (jtagServed a0 a1 a2 a3)) = true := by
  have hj : Memory.wf (memOf (lcTurn 1 a1 (jtagRun a0 a2) (if a1.isEmpty then a3 else a3.meeting)).1) = true :=
    lcTurn_wf _ _ _ _ (fun x hx => jtagRun_wf' _ _ _ h2 hx) (by split <;> simp [hw])
  unfold jtagServed
  split
  all_goals
    rename_i he
    rw [he] at hj
  · simpa using hj
  · exact hj

@[simp] theorem jtagTransition_wf (a0 : Nat) (a1 : List Byte) (a2 : RegEnv) (a3 : State) (hw :
    Memory.wf (memOf a3) = true) : Memory.wf (memOf (jtagTransition a0 a1 a2 a3)) = true := by
  unfold jtagTransition
  simp (maxDischargeDepth := 30) +contextual [*]

@[simp] theorem jtagChallenge_wf (a0 : Nat) (a1 : Nat) (a2 : Nat) (a3 : Nat) (a4 : List LcReq) (a5 : State) (hw :
    Memory.wf (memOf a5) = true) : Memory.wf (memOf (jtagChallenge a0 a1 a2 a3 a4 a5)) = true := by
  unfold jtagChallenge
  simp (maxDischargeDepth := 30) +contextual [*]

@[simp] theorem jtagResponse_wf (a0 : List Byte) (a1 : Bool) (a2 : List LcReq) (a3 : State) (hw :
    Memory.wf (memOf a3) = true) : Memory.wf (memOf (jtagResponse a0 a1 a2 a3)) = true := by
  unfold jtagResponse
  simp (maxDischargeDepth := 30) +contextual [*]

@[simp] theorem transitSettles_wf (a0 : State) (hw : Memory.wf (memOf a0) = true) : Memory.wf (memOf (transitSettles a0)) = true := by
  unfold transitSettles
  simp (maxDischargeDepth := 30) +contextual [*]

@[simp] theorem settled_wf (a0 : State) (hw : Memory.wf (memOf a0) = true) : Memory.wf (memOf (settled a0)) = true := by
  unfold settled
  simp (maxDischargeDepth := 30) +contextual [*]

/-! ### Machine/Operands.lean -/

@[simp] theorem onWay_read_mem (i : Initiator) (a n : Nat) (f : State → State) (s : State) (h : ∀ s, memOf (f s) = memOf s) :
    memOf (onWay i 1 a n f s) = memOf s := by
  unfold onWay
  split
  · simp
  · exact h _

@[simp] theorem writeSeen_mem (a0 : Initiator) (a1 : Nat) (a2 : State) : memOf (writeSeen a0 a1 a2) = memOf a2 := by
  unfold writeSeen
  simp [*]

@[simp] theorem regCmd_wf (a0 : Acc) (a1 : Nat) (a2 : Word) (a3 : State) (hw :
    Memory.wf (memOf a3) = true) : Memory.wf (memOf (regCmd a0 a1 a2 a3)) = true := by
  unfold regCmd
  simp (maxDischargeDepth := 30) +contextual [*]

@[simp] theorem regStore_wf (a0 : Acc) (a1 : Nat) (a2 : Nat) (a3 : DWord) (a4 : State) (hw :
    Memory.wf (memOf a4) = true) : Memory.wf (memOf (regStore a0 a1 a2 a3 a4)) = true := by
  unfold regStore
  simp (maxDischargeDepth := 30) +contextual [*]

@[simp] theorem regFetch_mem (a0 : Initiator) (a1 : Nat) (a2 : State) : memOf (regFetch a0 a1 a2) = memOf a2 := by
  unfold regFetch
  split
  · rfl
  · refine onWay_read_mem _ _ _ _ _ fun s => ?_
    dsimp only
    split <;> simp

@[simp] theorem flashRead_mem (a0 : Initiator) (a1 : Nat) (a2 : Nat) (a3 : Ecc) (a4 : State) :
    memOf (flashRead a0 a1 a2 a3 a4) = memOf a4 := by
  unfold flashRead
  repeat' split
  all_goals simp

@[simp] theorem fitDesc_mem (a0 : Desc) (a1 : State) : memOf (fitDesc a0 a1) = memOf a1 := by
  unfold fitDesc
  simp [*]

theorem flashStarts_wf (bank op : Nat) (rivals : List (Fin 4)) (f : State → State) (s : State) (hf : ∀ s, Memory.wf (memOf s) = true → Memory.wf (memOf (f s)) = true)
    (hw : Memory.wf (memOf s) = true) : Memory.wf (memOf (flashStarts bank op rivals f s)) = true := by
  unfold flashStarts
  split
  · exact hf _ (by rw [fitDesc_mem]; exact hw)
  · rw [grantStart_mem]; exact hw

@[simp] theorem flashStarts_mem (a0 : Nat) (a1 : Nat) (a2 : List (Fin 4)) (a3 : State → State) (a4 : State)
    (h3 : ∀ x0, (memOf (a3 x0)) = memOf x0) :
    memOf (flashStarts a0 a1 a2 a3 a4) = memOf a4 := by
  unfold flashStarts
  (try dsimp only); (repeat' split) <;> simp [*]

@[simp] theorem queCmdAt_wf (a0 : Initiator) (a1 : Fin 64) (a2 : Fin 512) (a3 : Rw) (a4 : DWord) (a5 : BeatEnv) (a6 : State) (hw :
    Memory.wf (memOf a6) = true) : Memory.wf (memOf (queCmdAt a0 a1 a2 a3 a4 a5 a6)) = true := by
  unfold queCmdAt
  (try dsimp only); (repeat' split) <;> simp (maxDischargeDepth := 30) +contextual [*]

@[simp] theorem coreInstr_wf (a0 : Fin 16) (a1 : RvInstr) (a2 : Bool) (a3 : CoreEnv) (a4 : State) (hw :
    Memory.wf (memOf a4) = true) : Memory.wf (memOf (coreInstr a0 a1 a2 a3 a4)) = true := by
  unfold coreInstr
  exact settled_wf _ (onCore_wf _ _ _ (fun s hs => instrRun_wf _ _ _ _ _ _ hs) hw)

@[simp] theorem portInstr_wf (a0 : LoadStore) (a1 : State) (hw :
    Memory.wf (memOf a1) = true) : Memory.wf (memOf (portInstr a0 a1)) = true := by
  unfold portInstr
  (try dsimp only); (repeat' split) <;> simp (maxDischargeDepth := 30) +contextual [*]

@[simp] theorem doorCmd_wf (a0 : Fin 16) (a1 : Nat) (a2 : DWord) (a3 : Bool) (a4 : CoreEnv) (a5 : State) (hw :
    Memory.wf (memOf a5) = true) : Memory.wf (memOf (doorCmd a0 a1 a2 a3 a4 a5)) = true := by
  unfold doorCmd
  extract_lets a
  refine settled_wf _ (onCore_wf _ _ _ (fun s hs => ?_) hw)
  exact onWay_wf _ _ _ _ _ _ (fun s hs => doorStore_wf _ _ _ _ _ _ _ _ hs) hs

@[simp] theorem fetchCmd_wf (a0 : Fin 16) (a1 : CoreEnv) (a2 : State) (hw :
    Memory.wf (memOf a2) = true) : Memory.wf (memOf (fetchCmd a0 a1 a2)) = true := by
  unfold fetchCmd
  refine onCore_wf _ _ _ (fun s hs => ?_) hw
  extract_lets r
  have hr : Memory.wf (memOf r.1) = true := by simp (maxDischargeDepth := 30) [r, hs]
  clear_value r
  split
  · simp [hr]
  · exact hr

@[simp] theorem mtimeMatch_mem (a0 : Nat) (a1 : State) : memOf (mtimeMatch a0 a1) = memOf a1 := by
  unfold mtimeMatch
  simp [*]

@[simp] theorem bobStep_wf (a0 : BobReq) (a1 : List BobReq) (a2 : State) (hw :
    Memory.wf (memOf a2) = true) : Memory.wf (memOf (bobStep a0 a1 a2)) = true := by
  unfold bobStep
  simp (maxDischargeDepth := 30) +contextual [*]

end Sys2Proof.Machine
end

