-- ==== Sys2Proof/Laws/MemExec.lean ====
section
/-!
SUPPORT. Memory through each command: what leaves it as it is (`_mem`) and what keeps its canonical form (`_wf`).
-/

namespace Sys2Proof.Machine

theorem execRegisterWrite_wf (a : Acc) (addr bytes : Nat) (value : DWord) (s : State) (hw :
    Memory.wf (memOf s) = true) : ∀ t, execRegisterWrite a addr bytes value s = .next t → Memory.wf (memOf t) = true := by
  intro t h
  unfold execRegisterWrite at h
  simp only [Host.Outcome.next.injEq] at h
  rw [← h]
  simp (maxDischargeDepth := 30) [hw]

theorem execStagingWrite_wf (a : Acc) (off : Nat) (value : Word) (s : State) (hw :
    Memory.wf (memOf s) = true) : ∀ t, execStagingWrite a off value s = .next t → Memory.wf (memOf t) = true := by
  intro t h
  unfold execStagingWrite at h
  simp only [Host.Outcome.next.injEq] at h
  rw [← h]
  simp (maxDischargeDepth := 30) [hw]

theorem execCommitNow_wf (a : Acc) (s : State) (hw :
    Memory.wf (memOf s) = true) : ∀ t, execCommitNow a s = .next t → Memory.wf (memOf t) = true := by
  intro t h
  unfold execCommitNow at h
  simp only [Host.Outcome.next.injEq] at h
  rw [← h]
  simp (maxDischargeDepth := 30) [hw]

theorem execCommitAt_wf (a : Acc) (s : State) (hw :
    Memory.wf (memOf s) = true) : ∀ t, execCommitAt a s = .next t → Memory.wf (memOf t) = true := by
  intro t h
  unfold execCommitAt at h
  simp only [Host.Outcome.next.injEq] at h
  rw [← h]
  simp (maxDischargeDepth := 30) [hw]

theorem execDiscard_wf (a : Acc) (s : State) (hw :
    Memory.wf (memOf s) = true) : ∀ t, execDiscard a s = .next t → Memory.wf (memOf t) = true := by
  intro t h
  unfold execDiscard at h
  simp only [Host.Outcome.next.injEq] at h
  rw [← h]
  simp (maxDischargeDepth := 30) [hw]

theorem execSealPoint_mem (panel : Fin 8) (s : State) : ∀ t, execSealPoint panel s = .next t → memOf t = memOf s := by
  intro t h
  unfold execSealPoint at h
  simp only [Host.Outcome.next.injEq] at h
  rw [← h]
  simp

theorem execApplyTick_wf (s : State) (hw : Memory.wf (memOf s) = true) : ∀ t, execApplyTick s = .next t → Memory.wf (memOf t) = true := by
  intro t h
  unfold execApplyTick at h
  simp only [Host.Outcome.next.injEq] at h
  rw [← h]
  simp (maxDischargeDepth := 30) [hw]

theorem execTakeNow_wf (a : Acc) (s : State) (hw :
    Memory.wf (memOf s) = true) : ∀ t, execTakeNow a s = .next t → Memory.wf (memOf t) = true := by
  intro t h
  unfold execTakeNow at h
  simp only [Host.Outcome.next.injEq] at h
  rw [← h]
  simp (maxDischargeDepth := 30) [hw]

theorem execTakeAt_wf (a : Acc) (s : State) (hw :
    Memory.wf (memOf s) = true) : ∀ t, execTakeAt a s = .next t → Memory.wf (memOf t) = true := by
  intro t h
  unfold execTakeAt at h
  simp only [Host.Outcome.next.injEq] at h
  rw [← h]
  simp (maxDischargeDepth := 30) [hw]

theorem execRelease_wf (a : Acc) (s : State) (hw :
    Memory.wf (memOf s) = true) : ∀ t, execRelease a s = .next t → Memory.wf (memOf t) = true := by
  intro t h
  unfold execRelease at h
  simp only [Host.Outcome.next.injEq] at h
  rw [← h]
  simp (maxDischargeDepth := 30) [hw]

theorem execSnapshotCapture_mem (s : State) : ∀ t, execSnapshotCapture s = .next t → memOf t = memOf s := by
  intro t h
  unfold execSnapshotCapture at h
  simp only [Host.Outcome.next.injEq] at h
  rw [← h]
  simp

theorem execSoftReset_wf (a : Acc) (page : Fin 256) (enable : Bool) (s : State) (hw :
    Memory.wf (memOf s) = true) : ∀ t, execSoftReset a page enable s = .next t → Memory.wf (memOf t) = true := by
  intro t h
  unfold execSoftReset at h
  simp only [Host.Outcome.next.injEq] at h
  rw [← h]
  simp (maxDischargeDepth := 30) [hw]

theorem execCtrlEnableWrite_wf (a : Acc) (page : Fin 256) (enable : Bool) (s : State) (hw :
    Memory.wf (memOf s) = true) : ∀ t, execCtrlEnableWrite a page enable s = .next t → Memory.wf (memOf t) = true := by
  intro t h
  unfold execCtrlEnableWrite at h
  simp only [Host.Outcome.next.injEq] at h
  rw [← h]
  simp (maxDischargeDepth := 30) [hw]

theorem execIrqSet_wf (a : Acc) (page : Fin 256) (value : Word) (s : State) (hw :
    Memory.wf (memOf s) = true) : ∀ t, execIrqSet a page value s = .next t → Memory.wf (memOf t) = true := by
  intro t h
  unfold execIrqSet at h
  simp only [Host.Outcome.next.injEq] at h
  rw [← h]
  simp (maxDischargeDepth := 30) [hw]

theorem execPageLock_wf (a : Acc) (page : Fin 256) (s : State) (hw :
    Memory.wf (memOf s) = true) : ∀ t, execPageLock a page s = .next t → Memory.wf (memOf t) = true := by
  intro t h
  unfold execPageLock at h
  simp only [Host.Outcome.next.injEq] at h
  rw [← h]
  simp (maxDischargeDepth := 30) [hw]

theorem execBramGuardedRead_mem (block : Fin 3072) (word : Fin 512) (dataFlips : BitVec 64) (checkFlips : BitVec 8) (s : State) :
    ∀ t, execBramGuardedRead block word dataFlips checkFlips s = .next t → memOf t = memOf s := by
  intro t h
  unfold execBramGuardedRead at h
  simp only [Host.Outcome.next.injEq] at h
  rw [← h]
  simp

theorem execBramRepair_mem (block : Fin 3072) (word : Fin 512) (s : State) :
    ∀ t, execBramRepair block word s = .next t → memOf t = memOf s := by
  intro t h
  unfold execBramRepair at h
  simp only [Host.Outcome.next.injEq] at h
  rw [← h]
  simp

theorem execDllStep_mem (dll : Fin 16) (later : Bool) (s : State) : ∀ t, execDllStep dll later s = .next t → memOf t = memOf s := by
  intro t h
  unfold execDllStep at h
  simp only [Host.Outcome.next.injEq] at h
  rw [← h]
  simp

theorem execDllStepDone_mem (dll : Fin 16) (s : State) : ∀ t, execDllStepDone dll s = .next t → memOf t = memOf s := by
  intro t h
  unfold execDllStepDone at h
  simp only [Host.Outcome.next.injEq] at h
  rw [← h]
  simp

theorem execDllAligned_mem (dll : Fin 16) (s : State) : ∀ t, execDllAligned dll s = .next t → memOf t = memOf s := by
  intro t h
  unfold execDllAligned at h
  simp only [Host.Outcome.next.injEq] at h
  rw [← h]
  simp

theorem execDllUnlock_mem (dll : Fin 16) (s : State) : ∀ t, execDllUnlock dll s = .next t → memOf t = memOf s := by
  intro t h
  unfold execDllUnlock at h
  simp only [Host.Outcome.next.injEq] at h
  rw [← h]
  simp

theorem execGlobalBufferEnable_mem (buffer : Fin 64) (on : Bool) (s : State) :
    ∀ t, execGlobalBufferEnable buffer on s = .next t → memOf t = memOf s := by
  intro t h
  unfold execGlobalBufferEnable at h
  simp only [Host.Outcome.next.injEq] at h
  rw [← h]
  simp

theorem execGlobalBufferSelect_mem (buffer : Fin 64) (sel : Bool) (s : State) :
    ∀ t, execGlobalBufferSelect buffer sel s = .next t → memOf t = memOf s := by
  intro t h
  unfold execGlobalBufferSelect at h
  simp only [Host.Outcome.next.injEq] at h
  rw [← h]
  simp

theorem execNeedleEdge_mem (line : Fin 4096) (s : State) : ∀ t, execNeedleEdge line s = .next t → memOf t = memOf s := by
  intro t h
  unfold execNeedleEdge at h
  simp only [Host.Outcome.next.injEq] at h
  rw [← h]
  simp

theorem execParamCapture_mem (region : Fin 128) (s : State) : ∀ t, execParamCapture region s = .next t → memOf t = memOf s := by
  intro t h
  unfold execParamCapture at h
  simp only [Host.Outcome.next.injEq] at h
  rw [← h]
  simp

theorem execRd_wf (q : WinReq) (s : State) (hw : Memory.wf (memOf s) = true) : ∀ t, execRd q s = .next t → Memory.wf (memOf t) = true := by
  intro t h
  unfold execRd at h
  simp only [Host.Outcome.next.injEq] at h
  rw [← h]
  simp (maxDischargeDepth := 30) [hw]

theorem execWrP_wf (q : WinReq) (s : State) (hw :
    Memory.wf (memOf s) = true) : ∀ t, execWrP q s = .next t → Memory.wf (memOf t) = true := by
  intro t h
  unfold execWrP at h
  simp only [Host.Outcome.next.injEq] at h
  rw [← h]
  simp (maxDischargeDepth := 30) [hw]

theorem execWrNp_wf (q : WinReq) (s : State) (hw :
    Memory.wf (memOf s) = true) : ∀ t, execWrNp q s = .next t → Memory.wf (memOf t) = true := by
  intro t h
  unfold execWrNp at h
  simp only [Host.Outcome.next.injEq] at h
  rw [← h]
  simp (maxDischargeDepth := 30) [hw]

theorem execAmoSwap_wf (q : WinReq) (wide : Bool) (s : State) (hw :
    Memory.wf (memOf s) = true) : ∀ t, execAmoSwap q wide s = .next t → Memory.wf (memOf t) = true := by
  intro t h
  unfold execAmoSwap at h
  simp only [Host.Outcome.next.injEq] at h
  rw [← h]
  simp (maxDischargeDepth := 30) [hw]

theorem execAmoAdd_wf (q : WinReq) (wide : Bool) (s : State) (hw :
    Memory.wf (memOf s) = true) : ∀ t, execAmoAdd q wide s = .next t → Memory.wf (memOf t) = true := by
  intro t h
  unfold execAmoAdd at h
  simp only [Host.Outcome.next.injEq] at h
  rw [← h]
  simp (maxDischargeDepth := 30) [hw]

theorem execAmoCas_wf (q : WinReq) (wide : Bool) (s : State) (hw :
    Memory.wf (memOf s) = true) : ∀ t, execAmoCas q wide s = .next t → Memory.wf (memOf t) = true := by
  intro t h
  unfold execAmoCas at h
  simp only [Host.Outcome.next.injEq] at h
  rw [← h]
  simp (maxDischargeDepth := 30) [hw]

theorem execTargetPortAccess_wf (x : LoadStore) (s : State) (hw :
    Memory.wf (memOf s) = true) : ∀ t, execTargetPortAccess x s = .next t → Memory.wf (memOf t) = true := by
  intro t h
  unfold execTargetPortAccess at h
  simp only [Host.Outcome.next.injEq] at h
  rw [← h]
  simp (maxDischargeDepth := 30) [hw]

theorem execTargetPortResponse_mem (port : Fin 8) (core : Fin 16) (code : Fin 6) (value : DWord) (s : State) :
    ∀ t, execTargetPortResponse port core code value s = .next t → memOf t = memOf s := by
  intro t h
  unfold execTargetPortResponse at h
  simp only [Host.Outcome.next.injEq] at h
  rw [← h]
  simp

theorem execTargetPortTimeout_mem (port : Fin 8) (s : State) : ∀ t, execTargetPortTimeout port s = .next t → memOf t = memOf s := by
  intro t h
  unfold execTargetPortTimeout at h
  simp only [Host.Outcome.next.injEq] at h
  rw [← h]
  simp

theorem execPartnerFrameRx_mem (port : Fin 16) (bytes : List (BitVec 8)) (cut : Bool) (s : State) :
    ∀ t, execPartnerFrameRx port bytes cut s = .next t → memOf t = memOf s := by
  intro t h
  unfold execPartnerFrameRx at h
  simp only [Host.Outcome.next.injEq] at h
  rw [← h]
  simp

theorem execPartnerFrameTx_mem (port : Fin 16) (s : State) : ∀ t, execPartnerFrameTx port s = .next t → memOf t = memOf s := by
  intro t h
  unfold execPartnerFrameTx at h
  simp only [Host.Outcome.next.injEq] at h
  rw [← h]
  simp

theorem execLinkUpChange_mem (port : Fin 16) (up : Bool) (s : State) : ∀ t, execLinkUpChange port up s = .next t → memOf t = memOf s := by
  intro t h
  unfold execLinkUpChange at h
  simp only [Host.Outcome.next.injEq] at h
  rw [← h]
  simp

theorem execBoltOff_wf (a : Acc) (bolts : BitVec 8) (s : State) (hw :
    Memory.wf (memOf s) = true) : ∀ t, execBoltOff a bolts s = .next t → Memory.wf (memOf t) = true := by
  intro t h
  unfold execBoltOff at h
  simp only [Host.Outcome.next.injEq] at h
  rw [← h]
  simp (maxDischargeDepth := 30) [hw]

theorem execPlaneWrite_wf (a : Acc) (target : Fin 4) (s : State) (hw :
    Memory.wf (memOf s) = true) : ∀ t, execPlaneWrite a target s = .next t → Memory.wf (memOf t) = true := by
  intro t h
  unfold execPlaneWrite at h
  simp only [Host.Outcome.next.injEq] at h
  rw [← h]
  simp (maxDischargeDepth := 30) [hw]

theorem execPlaneWriteDone_wf (cellFails : Bool) (s : State) (hw :
    Memory.wf (memOf s) = true) : ∀ t, execPlaneWriteDone cellFails s = .next t → Memory.wf (memOf t) = true := by
  intro t h
  unfold execPlaneWriteDone at h
  simp only [Host.Outcome.next.injEq] at h
  rw [← h]
  simp (maxDischargeDepth := 30) [hw]

theorem execPatAbort_wf (a : Acc) (s : State) (hw :
    Memory.wf (memOf s) = true) : ∀ t, execPatAbort a s = .next t → Memory.wf (memOf t) = true := by
  intro t h
  unfold execPatAbort at h
  simp only [Host.Outcome.next.injEq] at h
  rw [← h]
  simp (maxDischargeDepth := 30) [hw]

theorem execPlaneErase_wf (a : Acc) (target : Fin 4) (s : State) (hw :
    Memory.wf (memOf s) = true) : ∀ t, execPlaneErase a target s = .next t → Memory.wf (memOf t) = true := by
  intro t h
  unfold execPlaneErase at h
  simp only [Host.Outcome.next.injEq] at h
  rw [← h]
  simp (maxDischargeDepth := 30) [hw]

theorem execSwap_wf (a : Acc) (target : Fin 4) (trial : Bool) (s : State) (hw :
    Memory.wf (memOf s) = true) : ∀ t, execSwap a target trial s = .next t → Memory.wf (memOf t) = true := by
  intro t h
  unfold execSwap at h
  simp only [Host.Outcome.next.injEq] at h
  rw [← h]
  simp (maxDischargeDepth := 30) [hw]

theorem execSwapAt_wf (a : Acc) (target : Fin 4) (trial : Bool) (s : State) (hw :
    Memory.wf (memOf s) = true) : ∀ t, execSwapAt a target trial s = .next t → Memory.wf (memOf t) = true := by
  intro t h
  unfold execSwapAt at h
  simp only [Host.Outcome.next.injEq] at h
  rw [← h]
  simp (maxDischargeDepth := 30) [hw]

theorem execSwapAtStart_wf (s : State) (hw :
    Memory.wf (memOf s) = true) : ∀ t, execSwapAtStart s = .next t → Memory.wf (memOf t) = true := by
  intro t h
  unfold execSwapAtStart at h
  simp only [Host.Outcome.next.injEq] at h
  rw [← h]
  simp (maxDischargeDepth := 30) [hw]

theorem execConfirm_wf (a : Acc) (s : State) (hw :
    Memory.wf (memOf s) = true) : ∀ t, execConfirm a s = .next t → Memory.wf (memOf t) = true := by
  intro t h
  unfold execConfirm at h
  simp only [Host.Outcome.next.injEq] at h
  rw [← h]
  simp (maxDischargeDepth := 30) [hw]

theorem execBaste_wf (a : Acc) (s : State) (hw :
    Memory.wf (memOf s) = true) : ∀ t, execBaste a s = .next t → Memory.wf (memOf t) = true := by
  intro t h
  unfold execBaste at h
  simp only [Host.Outcome.next.injEq] at h
  rw [← h]
  simp (maxDischargeDepth := 30) [hw]

theorem execBasAbort_wf (a : Acc) (s : State) (hw :
    Memory.wf (memOf s) = true) : ∀ t, execBasAbort a s = .next t → Memory.wf (memOf t) = true := by
  intro t h
  unfold execBasAbort at h
  simp only [Host.Outcome.next.injEq] at h
  rw [← h]
  simp (maxDischargeDepth := 30) [hw]

theorem execRestore_wf (a : Acc) (s : State) (hw :
    Memory.wf (memOf s) = true) : ∀ t, execRestore a s = .next t → Memory.wf (memOf t) = true := by
  intro t h
  unfold execRestore at h
  simp only [Host.Outcome.next.injEq] at h
  rw [← h]
  simp (maxDischargeDepth := 30) [hw]

theorem execSweepStart_mem (bolt : Fin 8) (s : State) : ∀ t, execSweepStart bolt s = .next t → memOf t = memOf s := by
  intro t h
  unfold execSweepStart at h
  simp only [Host.Outcome.next.injEq] at h
  rw [← h]
  simp

theorem execSweepFrameCheck_wf (bolt : Fin 8) (upsets : List (Fin 4096)) (meets : SweepMeets) (also : List SweepRead) (s : State) (hw :
    Memory.wf (memOf s) = true) : ∀ t, execSweepFrameCheck bolt upsets meets also s = .next t → Memory.wf (memOf t) = true := by
  intro t h
  unfold execSweepFrameCheck at h
  simp only [Host.Outcome.next.injEq] at h
  rw [← h]
  simp (maxDischargeDepth := 30) [hw]

theorem execRegionResetRelease_wf (region : Fin 128) (s : State) (hw :
    Memory.wf (memOf s) = true) : ∀ t, execRegionResetRelease region s = .next t → Memory.wf (memOf t) = true := by
  intro t h
  unfold execRegionResetRelease at h
  simp only [Host.Outcome.next.injEq] at h
  rw [← h]
  simp (maxDischargeDepth := 30) [hw]

theorem execSweepOverrun_mem (bolt : Fin 8) (s : State) : ∀ t, execSweepOverrun bolt s = .next t → memOf t = memOf s := by
  intro t h
  unfold execSweepOverrun at h
  simp only [Host.Outcome.next.injEq] at h
  rw [← h]
  simp

theorem execRefreshPassStart_mem (hot : Bool) (s : State) : ∀ t, execRefreshPassStart hot s = .next t → memOf t = memOf s := by
  intro t h
  unfold execRefreshPassStart at h
  simp only [Host.Outcome.next.injEq] at h
  rw [← h]
  simp

theorem execRefreshFrameCheck_wf (differs : Bool) (errors : Nat) (slots : SlotFails) (s : State) (hw :
    Memory.wf (memOf s) = true) : ∀ t, execRefreshFrameCheck differs errors slots s = .next t → Memory.wf (memOf t) = true := by
  intro t h
  unfold execRefreshFrameCheck at h
  simp only [Host.Outcome.next.injEq] at h
  rw [← h]
  simp (maxDischargeDepth := 30) [hw]

theorem execOverlockVoteError_wf (majority : Bool) (s : State) (hw :
    Memory.wf (memOf s) = true) : ∀ t, execOverlockVoteError majority s = .next t → Memory.wf (memOf t) = true := by
  intro t h
  unfold execOverlockVoteError at h
  simp only [Host.Outcome.next.injEq] at h
  rw [← h]
  simp (maxDischargeDepth := 30) [hw]

theorem execOvlInject_wf (a : Acc) (far : BitVec 16) (word : BitVec 7) (cell : BitVec 5) (s : State) (hw :
    Memory.wf (memOf s) = true) : ∀ t, execOvlInject a far word cell s = .next t → Memory.wf (memOf t) = true := by
  intro t h
  unfold execOvlInject at h
  simp only [Host.Outcome.next.injEq] at h
  rw [← h]
  simp (maxDischargeDepth := 30) [hw]

theorem execInstructionExecute_wf (core : Fin 16) (env : CoreEnv) (s : State) (hw :
    Memory.wf (memOf s) = true) : ∀ t, execInstructionExecute core env s = .next t → Memory.wf (memOf t) = true := by
  intro t h
  unfold execInstructionExecute at h
  simp only [Host.Outcome.next.injEq] at h
  rw [← h]
  simp (maxDischargeDepth := 30) [hw]

theorem execInstructionFetch_wf (core : Fin 16) (env : CoreEnv) (s : State) (hw :
    Memory.wf (memOf s) = true) : ∀ t, execInstructionFetch core env s = .next t → Memory.wf (memOf t) = true := by
  intro t h
  unfold execInstructionFetch at h
  simp only [Host.Outcome.next.injEq] at h
  rw [← h]
  simp (maxDischargeDepth := 30) [hw]

theorem execLoadStore_wf (x : LoadStore) (s : State) (hw :
    Memory.wf (memOf s) = true) : ∀ t, execLoadStore x s = .next t → Memory.wf (memOf t) = true := by
  intro t h
  unfold execLoadStore at h
  simp only [Host.Outcome.next.injEq] at h
  rw [← h]
  simp (maxDischargeDepth := 30) [hw]

theorem execAtomicAccess_wf (core : Fin 16) (kind : AtomicKind) (double : Bool) (rd rs1 rs2 : Fin 32) (env : CoreEnv) (s : State) (hw :
    Memory.wf (memOf s) = true) : ∀ t, execAtomicAccess core kind double rd rs1 rs2 env s = .next t → Memory.wf (memOf t) = true := by
  intro t h
  unfold execAtomicAccess at h
  simp only [Host.Outcome.next.injEq] at h
  rw [← h]
  simp (maxDischargeDepth := 30) [hw]

theorem execWriteBufferDrain_wf (core : Fin 16) (s : State) (hw :
    Memory.wf (memOf s) = true) : ∀ t, execWriteBufferDrain core s = .next t → Memory.wf (memOf t) = true := by
  intro t h
  unfold execWriteBufferDrain at h
  simp only [Host.Outcome.next.injEq] at h
  rw [← h]
  simp (maxDischargeDepth := 30) [hw]

theorem execFence_wf (core : Fin 16) (pred succ : BitVec 4) (env : CoreEnv) (s : State) (hw :
    Memory.wf (memOf s) = true) : ∀ t, execFence core pred succ env s = .next t → Memory.wf (memOf t) = true := by
  intro t h
  unfold execFence at h
  simp only [Host.Outcome.next.injEq] at h
  rw [← h]
  simp (maxDischargeDepth := 30) [hw]

theorem execFenceI_wf (core : Fin 16) (env : CoreEnv) (s : State) (hw :
    Memory.wf (memOf s) = true) : ∀ t, execFenceI core env s = .next t → Memory.wf (memOf t) = true := by
  intro t h
  unfold execFenceI at h
  simp only [Host.Outcome.next.injEq] at h
  rw [← h]
  simp (maxDischargeDepth := 30) [hw]

theorem execWfi_wf (core : Fin 16) (env : CoreEnv) (s : State) (hw :
    Memory.wf (memOf s) = true) : ∀ t, execWfi core env s = .next t → Memory.wf (memOf t) = true := by
  intro t h
  unfold execWfi at h
  simp only [Host.Outcome.next.injEq] at h
  rw [← h]
  simp (maxDischargeDepth := 30) [hw]

theorem execCsrAccess_wf (core : Fin 16) (kind : CsrKind) (imm : Bool) (rd src : Fin 32) (num : Fin 4096) (env : CoreEnv) (s : State) (hw :
    Memory.wf (memOf s) = true) : ∀ t, execCsrAccess core kind imm rd src num env s = .next t → Memory.wf (memOf t) = true := by
  intro t h
  unfold execCsrAccess at h
  simp only [Host.Outcome.next.injEq] at h
  rw [← h]
  simp (maxDischargeDepth := 30) [hw]

theorem execInterruptTaken_mem (core : Fin 16) (s : State) : ∀ t, execInterruptTaken core s = .next t → memOf t = memOf s := by
  intro t h
  unfold execInterruptTaken at h
  simp only [Host.Outcome.next.injEq] at h
  rw [← h]
  simp

theorem execMtimecmpMatch_mem (core : Fin 16) (s : State) : ∀ t, execMtimecmpMatch core s = .next t → memOf t = memOf s := by
  intro t h
  unfold execMtimecmpMatch at h
  simp only [Host.Outcome.next.injEq] at h
  rw [← h]
  simp

theorem execCoreStart_wf (a : Acc) (core : Fin 16) (s : State) (hw :
    Memory.wf (memOf s) = true) : ∀ t, execCoreStart a core s = .next t → Memory.wf (memOf t) = true := by
  intro t h
  unfold execCoreStart at h
  simp only [Host.Outcome.next.injEq] at h
  rw [← h]
  simp (maxDischargeDepth := 30) [hw]

theorem execIcacheInvalidate_wf (a : Acc) (core : Fin 16) (s : State) (hw :
    Memory.wf (memOf s) = true) : ∀ t, execIcacheInvalidate a core s = .next t → Memory.wf (memOf t) = true := by
  intro t h
  unfold execIcacheInvalidate at h
  simp only [Host.Outcome.next.injEq] at h
  rw [← h]
  simp (maxDischargeDepth := 30) [hw]

theorem execClusterOff_wf (a : Acc) (cluster : Fin 4) (s : State) (hw :
    Memory.wf (memOf s) = true) : ∀ t, execClusterOff a cluster s = .next t → Memory.wf (memOf t) = true := by
  intro t h
  unfold execClusterOff at h
  simp only [Host.Outcome.next.injEq] at h
  rw [← h]
  simp (maxDischargeDepth := 30) [hw]

theorem execDbReady_wf (core : Fin 16) (arg : DWord) (short : Bool) (env : CoreEnv) (s : State) (hw :
    Memory.wf (memOf s) = true) : ∀ t, execDbReady core arg short env s = .next t → Memory.wf (memOf t) = true := by
  intro t h
  unfold execDbReady at h
  simp only [Host.Outcome.next.injEq] at h
  rw [← h]
  simp (maxDischargeDepth := 30) [hw]

theorem execDbYield_wf (core : Fin 16) (arg : DWord) (short : Bool) (env : CoreEnv) (s : State) (hw :
    Memory.wf (memOf s) = true) : ∀ t, execDbYield core arg short env s = .next t → Memory.wf (memOf t) = true := by
  intro t h
  unfold execDbYield at h
  simp only [Host.Outcome.next.injEq] at h
  rw [← h]
  simp (maxDischargeDepth := 30) [hw]

theorem execWaitEventReady_wf (core : Fin 16) (arg : BitVec 62) (short : Bool) (env : CoreEnv) (s : State) (hw :
    Memory.wf (memOf s) = true) : ∀ t, execWaitEventReady core arg short env s = .next t → Memory.wf (memOf t) = true := by
  intro t h
  unfold execWaitEventReady at h
  simp only [Host.Outcome.next.injEq] at h
  rw [← h]
  simp (maxDischargeDepth := 30) [hw]

theorem execWaitEventFlagsAny_wf (core : Fin 16) (arg : BitVec 62) (short : Bool) (env : CoreEnv) (s : State) (hw :
    Memory.wf (memOf s) = true) : ∀ t, execWaitEventFlagsAny core arg short env s = .next t → Memory.wf (memOf t) = true := by
  intro t h
  unfold execWaitEventFlagsAny at h
  simp only [Host.Outcome.next.injEq] at h
  rw [← h]
  simp (maxDischargeDepth := 30) [hw]

theorem execWaitEventFlagsAll_wf (core : Fin 16) (arg : BitVec 62) (short : Bool) (env : CoreEnv) (s : State) (hw :
    Memory.wf (memOf s) = true) : ∀ t, execWaitEventFlagsAll core arg short env s = .next t → Memory.wf (memOf t) = true := by
  intro t h
  unfold execWaitEventFlagsAll at h
  simp only [Host.Outcome.next.injEq] at h
  rw [← h]
  simp (maxDischargeDepth := 30) [hw]

theorem execWaitEventSem_wf (core : Fin 16) (arg : BitVec 62) (short : Bool) (env : CoreEnv) (s : State) (hw :
    Memory.wf (memOf s) = true) : ∀ t, execWaitEventSem core arg short env s = .next t → Memory.wf (memOf t) = true := by
  intro t h
  unfold execWaitEventSem at h
  simp only [Host.Outcome.next.injEq] at h
  rw [← h]
  simp (maxDischargeDepth := 30) [hw]

theorem execWaitTimeout_wf (core : Fin 16) (arg : DWord) (short : Bool) (env : CoreEnv) (s : State) (hw :
    Memory.wf (memOf s) = true) : ∀ t, execWaitTimeout core arg short env s = .next t → Memory.wf (memOf t) = true := by
  intro t h
  unfold execWaitTimeout at h
  simp only [Host.Outcome.next.injEq] at h
  rw [← h]
  simp (maxDischargeDepth := 30) [hw]

theorem execSemPost_wf (core : Fin 16) (arg : BitVec 62) (short : Bool) (env : CoreEnv) (s : State) (hw :
    Memory.wf (memOf s) = true) : ∀ t, execSemPost core arg short env s = .next t → Memory.wf (memOf t) = true := by
  intro t h
  unfold execSemPost at h
  simp only [Host.Outcome.next.injEq] at h
  rw [← h]
  simp (maxDischargeDepth := 30) [hw]

theorem execFlagsSet_wf (core : Fin 16) (arg : BitVec 62) (short : Bool) (env : CoreEnv) (s : State) (hw :
    Memory.wf (memOf s) = true) : ∀ t, execFlagsSet core arg short env s = .next t → Memory.wf (memOf t) = true := by
  intro t h
  unfold execFlagsSet at h
  simp only [Host.Outcome.next.injEq] at h
  rw [← h]
  simp (maxDischargeDepth := 30) [hw]

theorem execFlagsClear_wf (core : Fin 16) (arg : BitVec 62) (short : Bool) (env : CoreEnv) (s : State) (hw :
    Memory.wf (memOf s) = true) : ∀ t, execFlagsClear core arg short env s = .next t → Memory.wf (memOf t) = true := by
  intro t h
  unfold execFlagsClear at h
  simp only [Host.Outcome.next.injEq] at h
  rw [← h]
  simp (maxDischargeDepth := 30) [hw]

theorem execDbSuspend_wf (core : Fin 16) (arg : DWord) (short : Bool) (env : CoreEnv) (s : State) (hw :
    Memory.wf (memOf s) = true) : ∀ t, execDbSuspend core arg short env s = .next t → Memory.wf (memOf t) = true := by
  intro t h
  unfold execDbSuspend at h
  simp only [Host.Outcome.next.injEq] at h
  rw [← h]
  simp (maxDischargeDepth := 30) [hw]

theorem execDbCancel_wf (core : Fin 16) (arg : DWord) (short : Bool) (env : CoreEnv) (s : State) (hw :
    Memory.wf (memOf s) = true) : ∀ t, execDbCancel core arg short env s = .next t → Memory.wf (memOf t) = true := by
  intro t h
  unfold execDbCancel at h
  simp only [Host.Outcome.next.injEq] at h
  rw [← h]
  simp (maxDischargeDepth := 30) [hw]

theorem execDispatch_mem (core : Fin 16) (ecc : Ecc) (s : State) : ∀ t, execDispatch core ecc s = .next t → memOf t = memOf s := by
  intro t h
  unfold execDispatch at h
  simp only [Host.Outcome.next.injEq] at h
  rw [← h]
  simp

theorem execDispatchPointSwitch_wf (core : Fin 16) (ecc : Ecc) (s : State) (hw :
    Memory.wf (memOf s) = true) : ∀ t, execDispatchPointSwitch core ecc s = .next t → Memory.wf (memOf t) = true := by
  intro t h
  unfold execDispatchPointSwitch at h
  simp only [Host.Outcome.next.injEq] at h
  rw [← h]
  simp (maxDischargeDepth := 30) [hw]

theorem execQuantumExpiry_mem (core : Fin 16) (s : State) : ∀ t, execQuantumExpiry core s = .next t → memOf t = memOf s := by
  intro t h
  unfold execQuantumExpiry at h
  simp only [Host.Outcome.next.injEq] at h
  rw [← h]
  simp

theorem execTimeoutExpiry_wf (thread : BitVec 18) (others : List BobReq) (s : State) (hw :
    Memory.wf (memOf s) = true) : ∀ t, execTimeoutExpiry thread others s = .next t → Memory.wf (memOf t) = true := by
  intro t h
  unfold execTimeoutExpiry at h
  simp only [Host.Outcome.next.injEq] at h
  rw [← h]
  simp (maxDischargeDepth := 30) [hw]

theorem execInit_wf (a : Acc) (thread : BitVec 18) (s : State) (hw :
    Memory.wf (memOf s) = true) : ∀ t, execInit a thread s = .next t → Memory.wf (memOf t) = true := by
  intro t h
  unfold execInit at h
  simp only [Host.Outcome.next.injEq] at h
  rw [← h]
  simp (maxDischargeDepth := 30) [hw]

theorem execFree_wf (a : Acc) (thread : BitVec 18) (s : State) (hw :
    Memory.wf (memOf s) = true) : ∀ t, execFree a thread s = .next t → Memory.wf (memOf t) = true := by
  intro t h
  unfold execFree at h
  simp only [Host.Outcome.next.injEq] at h
  rw [← h]
  simp (maxDischargeDepth := 30) [hw]

theorem execRead_wf (a : Acc) (thread : BitVec 18) (s : State) (hw :
    Memory.wf (memOf s) = true) : ∀ t, execRead a thread s = .next t → Memory.wf (memOf t) = true := by
  intro t h
  unfold execRead at h
  simp only [Host.Outcome.next.injEq] at h
  rw [← h]
  simp (maxDischargeDepth := 30) [hw]

theorem execSetPrio_wf (a : Acc) (thread : BitVec 18) (s : State) (hw :
    Memory.wf (memOf s) = true) : ∀ t, execSetPrio a thread s = .next t → Memory.wf (memOf t) = true := by
  intro t h
  unfold execSetPrio at h
  simp only [Host.Outcome.next.injEq] at h
  rw [← h]
  simp (maxDischargeDepth := 30) [hw]

theorem execSetAffinity_wf (a : Acc) (thread : BitVec 18) (s : State) (hw :
    Memory.wf (memOf s) = true) : ∀ t, execSetAffinity a thread s = .next t → Memory.wf (memOf t) = true := by
  intro t h
  unfold execSetAffinity at h
  simp only [Host.Outcome.next.injEq] at h
  rw [← h]
  simp (maxDischargeDepth := 30) [hw]

theorem execSetPin_wf (a : Acc) (thread : BitVec 18) (s : State) (hw :
    Memory.wf (memOf s) = true) : ∀ t, execSetPin a thread s = .next t → Memory.wf (memOf t) = true := by
  intro t h
  unfold execSetPin at h
  simp only [Host.Outcome.next.injEq] at h
  rw [← h]
  simp (maxDischargeDepth := 30) [hw]

theorem execThreadCmdDone_mem (s : State) : ∀ t, execThreadCmdDone s = .next t → memOf t = memOf s := by
  intro t h
  unfold execThreadCmdDone at h
  simp only [Host.Outcome.next.injEq] at h
  rw [← h]
  simp

theorem execBobMakeReady_wf (a : Acc) (thread : BitVec 18) (resume : Bool) (s : State) (hw :
    Memory.wf (memOf s) = true) : ∀ t, execBobMakeReady a thread resume s = .next t → Memory.wf (memOf t) = true := by
  intro t h
  unfold execBobMakeReady at h
  simp only [Host.Outcome.next.injEq] at h
  rw [← h]
  simp (maxDischargeDepth := 30) [hw]

theorem execBobCancel_wf (a : Acc) (thread : BitVec 18) (s : State) (hw :
    Memory.wf (memOf s) = true) : ∀ t, execBobCancel a thread s = .next t → Memory.wf (memOf t) = true := by
  intro t h
  unfold execBobCancel at h
  simp only [Host.Outcome.next.injEq] at h
  rw [← h]
  simp (maxDischargeDepth := 30) [hw]

theorem execObjRead_wf (a : Acc) (group : Bool) (id : BitVec 12) (s : State) (hw :
    Memory.wf (memOf s) = true) : ∀ t, execObjRead a group id s = .next t → Memory.wf (memOf t) = true := by
  intro t h
  unfold execObjRead at h
  simp only [Host.Outcome.next.injEq] at h
  rw [← h]
  simp (maxDischargeDepth := 30) [hw]

theorem execObjWrite_wf (a : Acc) (group : Bool) (id : BitVec 12) (s : State) (hw :
    Memory.wf (memOf s) = true) : ∀ t, execObjWrite a group id s = .next t → Memory.wf (memOf t) = true := by
  intro t h
  unfold execObjWrite at h
  simp only [Host.Outcome.next.injEq] at h
  rw [← h]
  simp (maxDischargeDepth := 30) [hw]

theorem execEventIntake_wf (others : List BobReq) (s : State) (hw :
    Memory.wf (memOf s) = true) : ∀ t, execEventIntake others s = .next t → Memory.wf (memOf t) = true := by
  intro t h
  unfold execEventIntake at h
  simp only [Host.Outcome.next.injEq] at h
  rw [← h]
  simp (maxDischargeDepth := 30) [hw]

theorem execBobBind_wf (a : Acc) (high : Word) (s : State) (hw :
    Memory.wf (memOf s) = true) : ∀ t, execBobBind a high s = .next t → Memory.wf (memOf t) = true := by
  intro t h
  unfold execBobBind at h
  simp only [Host.Outcome.next.injEq] at h
  rw [← h]
  simp (maxDischargeDepth := 30) [hw]

theorem execSpill_mem (s : State) : ∀ t, execSpill s = .next t → memOf t = memOf s := by
  intro t h
  unfold execSpill at h
  simp only [Host.Outcome.next.injEq] at h
  rw [← h]
  simp

theorem execRefill_mem (s : State) : ∀ t, execRefill s = .next t → memOf t = memOf s := by
  intro t h
  unfold execRefill at h
  simp only [Host.Outcome.next.injEq] at h
  rw [← h]
  simp

theorem execSpoolSearch_mem (core : Fin 16) (s : State) : ∀ t, execSpoolSearch core s = .next t → memOf t = memOf s := by
  intro t h
  unfold execSpoolSearch at h
  simp only [Host.Outcome.next.injEq] at h
  rw [← h]
  simp

theorem execOverflowRecovery_wf (others : List BobReq) (s : State) (hw :
    Memory.wf (memOf s) = true) : ∀ t, execOverflowRecovery others s = .next t → Memory.wf (memOf t) = true := by
  intro t h
  unfold execOverflowRecovery at h
  simp only [Host.Outcome.next.injEq] at h
  rw [← h]
  simp (maxDischargeDepth := 30) [hw]

theorem execSpoolEccRebuild_mem (block : Fin 32768) (s : State) : ∀ t, execSpoolEccRebuild block s = .next t → memOf t = memOf s := by
  intro t h
  unfold execSpoolEccRebuild at h
  simp only [Host.Outcome.next.injEq] at h
  rw [← h]
  simp

theorem execSramAccess_wf (init : Initiator) (rw : Rw) (addr bytes : Nat) (value : BitVec 128) (also : List MemReq) (ecc : Ecc) (s : State) (hw :
    Memory.wf (memOf s) = true) : ∀ t, execSramAccess init rw addr bytes value also ecc s = .next t → Memory.wf (memOf t) = true := by
  intro t h
  unfold execSramAccess at h
  simp only [Host.Outcome.next.injEq] at h
  rw [← h]
  simp (maxDischargeDepth := 30) [hw]

theorem execDramAccess_wf (init : Initiator) (rw : Rw) (addr bytes : Nat) (value : BitVec 128) (also : List MemReq) (ecc : Ecc) (s : State) (hw :
    Memory.wf (memOf s) = true) : ∀ t, execDramAccess init rw addr bytes value also ecc s = .next t → Memory.wf (memOf t) = true := by
  intro t h
  unfold execDramAccess at h
  simp only [Host.Outcome.next.injEq] at h
  rw [← h]
  simp (maxDischargeDepth := 30) [hw]

theorem execZeroFillSegment_mem (s : State) : ∀ t, execZeroFillSegment s = .next t → memOf t = memOf s := by
  intro t h
  unfold execZeroFillSegment at h
  simp only [Host.Outcome.next.injEq] at h
  rw [← h]
  simp

theorem execDramRefresh_mem (s : State) : ∀ t, execDramRefresh s = .next t → memOf t = memOf s := by
  intro t h
  unfold execDramRefresh at h
  simp only [Host.Outcome.next.injEq] at h
  rw [← h]
  (try dsimp only); repeat' split <;> simp

theorem execDramPowerDown_mem (s : State) : ∀ t, execDramPowerDown s = .next t → memOf t = memOf s := by
  intro t h
  unfold execDramPowerDown at h
  simp only [Host.Outcome.next.injEq] at h
  rw [← h]
  simp

theorem execPatrolScrub_mem (ecc : Ecc) (s : State) : ∀ t, execPatrolScrub ecc s = .next t → memOf t = memOf s := by
  intro t h
  unfold execPatrolScrub at h
  simp only [Host.Outcome.next.injEq] at h
  rw [← h]
  simp

theorem execErrorHourRollover_mem (s : State) : ∀ t, execErrorHourRollover s = .next t → memOf t = memOf s := by
  intro t h
  unfold execErrorHourRollover at h
  simp only [Host.Outcome.next.injEq] at h
  rw [← h]
  simp

theorem execDqHeadWrite_wf (a : Acc) (value : Word) (s : State) (hw :
    Memory.wf (memOf s) = true) : ∀ t, execDqHeadWrite a value s = .next t → Memory.wf (memOf t) = true := by
  intro t h
  unfold execDqHeadWrite at h
  simp only [Host.Outcome.next.injEq] at h
  rw [← h]
  simp (maxDischargeDepth := 30) [hw]

theorem execDqFetch_wf (ecc : Ecc) (s : State) (hw :
    Memory.wf (memOf s) = true) : ∀ t, execDqFetch ecc s = .next t → Memory.wf (memOf t) = true := by
  intro t h
  unfold execDqFetch at h
  simp only [Host.Outcome.next.injEq] at h
  rw [← h]
  simp (maxDischargeDepth := 30) [hw]

theorem execDqRun_wf (a : Acc) (s : State) (hw :
    Memory.wf (memOf s) = true) : ∀ t, execDqRun a s = .next t → Memory.wf (memOf t) = true := by
  intro t h
  unfold execDqRun at h
  simp only [Host.Outcome.next.injEq] at h
  rw [← h]
  simp (maxDischargeDepth := 30) [hw]

theorem execDqStop_wf (a : Acc) (s : State) (hw :
    Memory.wf (memOf s) = true) : ∀ t, execDqStop a s = .next t → Memory.wf (memOf t) = true := by
  intro t h
  unfold execDqStop at h
  simp only [Host.Outcome.next.injEq] at h
  rw [← h]
  simp (maxDischargeDepth := 30) [hw]

theorem execProgram_wf (bank : Fin 8) (env : FlashEnv) (s : State) (hw :
    Memory.wf (memOf s) = true) : ∀ t, execProgram bank env s = .next t → Memory.wf (memOf t) = true := by
  intro t h
  unfold execProgram at h
  simp only [Host.Outcome.next.injEq] at h
  rw [← h]
  refine flashStarts_wf _ _ _ _ _ (fun s hs => ?_) hw
  simp (maxDischargeDepth := 30) [hs]

theorem execErase_wf (bank : Fin 8) (env : FlashEnv) (s : State) (hw :
    Memory.wf (memOf s) = true) : ∀ t, execErase bank env s = .next t → Memory.wf (memOf t) = true := by
  intro t h
  unfold execErase at h
  simp only [Host.Outcome.next.injEq] at h
  rw [← h]
  refine flashStarts_wf _ _ _ _ _ (fun s hs => ?_) hw
  simp (maxDischargeDepth := 30) [hs]

theorem execBlankCheck_wf (bank : Fin 8) (env : FlashEnv) (s : State) (hw :
    Memory.wf (memOf s) = true) : ∀ t, execBlankCheck bank env s = .next t → Memory.wf (memOf t) = true := by
  intro t h
  unfold execBlankCheck at h
  simp only [Host.Outcome.next.injEq] at h
  rw [← h]
  refine flashStarts_wf _ _ _ _ _ (fun s hs => ?_) hw
  simp (maxDischargeDepth := 30) [hs]

theorem execVerify_wf (bank : Fin 8) (env : FlashEnv) (s : State) (hw :
    Memory.wf (memOf s) = true) : ∀ t, execVerify bank env s = .next t → Memory.wf (memOf t) = true := by
  intro t h
  unfold execVerify at h
  simp only [Host.Outcome.next.injEq] at h
  rw [← h]
  refine flashStarts_wf _ _ _ _ _ (fun s hs => ?_) hw
  simp (maxDischargeDepth := 30) [hs]

theorem execMarkBad_wf (bank : Fin 8) (env : FlashEnv) (s : State) (hw :
    Memory.wf (memOf s) = true) : ∀ t, execMarkBad bank env s = .next t → Memory.wf (memOf t) = true := by
  intro t h
  unfold execMarkBad at h
  simp only [Host.Outcome.next.injEq] at h
  rw [← h]
  refine flashStarts_wf _ _ _ _ _ (fun s hs => ?_) hw
  simp (maxDischargeDepth := 30) [hs]

theorem execOptErase_wf (env : FlashEnv) (s : State) (hw :
    Memory.wf (memOf s) = true) : ∀ t, execOptErase env s = .next t → Memory.wf (memOf t) = true := by
  intro t h
  unfold execOptErase at h
  simp only [Host.Outcome.next.injEq] at h
  rw [← h]
  refine flashStarts_wf _ _ _ _ _ (fun s hs => ?_) hw
  simp (maxDischargeDepth := 30) [hs]

theorem execOptProgram_wf (env : FlashEnv) (s : State) (hw :
    Memory.wf (memOf s) = true) : ∀ t, execOptProgram env s = .next t → Memory.wf (memOf t) = true := by
  intro t h
  unfold execOptProgram at h
  simp only [Host.Outcome.next.injEq] at h
  rw [← h]
  refine flashStarts_wf _ _ _ _ _ (fun s hs => ?_) hw
  simp (maxDischargeDepth := 30) [hs]

theorem execSlotBegin_wf (env : FlashEnv) (s : State) (hw :
    Memory.wf (memOf s) = true) : ∀ t, execSlotBegin env s = .next t → Memory.wf (memOf t) = true := by
  intro t h
  unfold execSlotBegin at h
  simp only [Host.Outcome.next.injEq] at h
  rw [← h]
  refine flashStarts_wf _ _ _ _ _ (fun s hs => ?_) hw
  simp (maxDischargeDepth := 30) [hs]

theorem execSlotCommit_wf (env : FlashEnv) (s : State) (hw :
    Memory.wf (memOf s) = true) : ∀ t, execSlotCommit env s = .next t → Memory.wf (memOf t) = true := by
  intro t h
  unfold execSlotCommit at h
  simp only [Host.Outcome.next.injEq] at h
  rw [← h]
  refine flashStarts_wf _ _ _ _ _ (fun s hs => ?_) hw
  simp (maxDischargeDepth := 30) [hs]

theorem execFlashFenceDesc_wf (env : FlashEnv) (s : State) (hw :
    Memory.wf (memOf s) = true) : ∀ t, execFlashFenceDesc env s = .next t → Memory.wf (memOf t) = true := by
  intro t h
  unfold execFlashFenceDesc at h
  simp only [Host.Outcome.next.injEq] at h
  rw [← h]
  refine flashStarts_wf _ _ _ _ _ (fun s hs => ?_) hw
  simp (maxDischargeDepth := 30) [hs]

theorem execFlashOpComplete_wf (bank : Fin 9) (good statusOk : Bool) (s : State) (hw :
    Memory.wf (memOf s) = true) : ∀ t, execFlashOpComplete bank good statusOk s = .next t → Memory.wf (memOf t) = true := by
  intro t h
  unfold execFlashOpComplete at h
  simp only [Host.Outcome.next.injEq] at h
  rw [← h]
  simp (maxDischargeDepth := 30) [hw]

theorem execFlashSuspend_wf (a : Acc) (banks : BitVec 8) (s : State) (hw :
    Memory.wf (memOf s) = true) : ∀ t, execFlashSuspend a banks s = .next t → Memory.wf (memOf t) = true := by
  intro t h
  unfold execFlashSuspend at h
  simp only [Host.Outcome.next.injEq] at h
  rw [← h]
  simp (maxDischargeDepth := 30) [hw]

theorem execFlashResume_wf (a : Acc) (banks : BitVec 8) (s : State) (hw :
    Memory.wf (memOf s) = true) : ∀ t, execFlashResume a banks s = .next t → Memory.wf (memOf t) = true := by
  intro t h
  unfold execFlashResume at h
  simp only [Host.Outcome.next.injEq] at h
  rw [← h]
  simp (maxDischargeDepth := 30) [hw]

theorem execFlashRead_mem (init : Initiator) (addr bytes : Nat) (ecc : Ecc) (s : State) :
    ∀ t, execFlashRead init addr bytes ecc s = .next t → memOf t = memOf s := by
  intro t h
  unfold execFlashRead at h
  simp only [Host.Outcome.next.injEq] at h
  rw [← h]
  simp

theorem execFlashRefreshPass_mem (hot : Bool) (s : State) : ∀ t, execFlashRefreshPass hot s = .next t → memOf t = memOf s := by
  intro t h
  unfold execFlashRefreshPass at h
  simp only [Host.Outcome.next.injEq] at h
  rw [← h]
  simp

theorem execRefreshHoldExpiry_mem (s : State) : ∀ t, execRefreshHoldExpiry s = .next t → memOf t = memOf s := by
  intro t h
  unfold execRefreshHoldExpiry at h
  simp only [Host.Outcome.next.injEq] at h
  rw [← h]
  simp

theorem execFlashRefreshSector_mem (differs : Bool) (ecc : Ecc) (s : State) :
    ∀ t, execFlashRefreshSector differs ecc s = .next t → memOf t = memOf s := by
  intro t h
  unfold execFlashRefreshSector at h
  simp only [Host.Outcome.next.injEq] at h
  rw [← h]
  simp

theorem execQuePush_wf (init : Initiator) (queue : Fin 64) (value : DWord) (meets : BeatEnv) (s : State) (hw :
    Memory.wf (memOf s) = true) : ∀ t, execQuePush init queue value meets s = .next t → Memory.wf (memOf t) = true := by
  intro t h
  unfold execQuePush at h
  simp only [Host.Outcome.next.injEq] at h
  rw [← h]
  simp (maxDischargeDepth := 30) [hw]

theorem execQuePop_wf (init : Initiator) (queue : Fin 64) (meets : BeatEnv) (s : State) (hw :
    Memory.wf (memOf s) = true) : ∀ t, execQuePop init queue meets s = .next t → Memory.wf (memOf t) = true := by
  intro t h
  unfold execQuePop at h
  simp only [Host.Outcome.next.injEq] at h
  rw [← h]
  simp (maxDischargeDepth := 30) [hw]

theorem execQuePeek_wf (init : Initiator) (queue : Fin 64) (meets : BeatEnv) (s : State) (hw :
    Memory.wf (memOf s) = true) : ∀ t, execQuePeek init queue meets s = .next t → Memory.wf (memOf t) = true := by
  intro t h
  unfold execQuePeek at h
  simp only [Host.Outcome.next.injEq] at h
  rw [← h]
  simp (maxDischargeDepth := 30) [hw]

theorem execMark_wf (init : Initiator) (queue : Fin 64) (meets : BeatEnv) (s : State) (hw :
    Memory.wf (memOf s) = true) : ∀ t, execMark init queue meets s = .next t → Memory.wf (memOf t) = true := by
  intro t h
  unfold execMark at h
  simp only [Host.Outcome.next.injEq] at h
  rw [← h]
  simp (maxDischargeDepth := 30) [hw]

theorem execRewind_wf (init : Initiator) (queue : Fin 64) (meets : BeatEnv) (s : State) (hw :
    Memory.wf (memOf s) = true) : ∀ t, execRewind init queue meets s = .next t → Memory.wf (memOf t) = true := by
  intro t h
  unfold execRewind at h
  simp only [Host.Outcome.next.injEq] at h
  rw [← h]
  simp (maxDischargeDepth := 30) [hw]

theorem execClearMark_wf (init : Initiator) (queue : Fin 64) (meets : BeatEnv) (s : State) (hw :
    Memory.wf (memOf s) = true) : ∀ t, execClearMark init queue meets s = .next t → Memory.wf (memOf t) = true := by
  intro t h
  unfold execClearMark at h
  simp only [Host.Outcome.next.injEq] at h
  rw [← h]
  simp (maxDischargeDepth := 30) [hw]

theorem execFlush_wf (init : Initiator) (queue : Fin 64) (meets : BeatEnv) (s : State) (hw :
    Memory.wf (memOf s) = true) : ∀ t, execFlush init queue meets s = .next t → Memory.wf (memOf t) = true := by
  intro t h
  unfold execFlush at h
  simp only [Host.Outcome.next.injEq] at h
  rw [← h]
  simp (maxDischargeDepth := 30) [hw]

theorem execFlushForce_wf (init : Initiator) (queue : Fin 64) (meets : BeatEnv) (s : State) (hw :
    Memory.wf (memOf s) = true) : ∀ t, execFlushForce init queue meets s = .next t → Memory.wf (memOf t) = true := by
  intro t h
  unfold execFlushForce at h
  simp only [Host.Outcome.next.injEq] at h
  rw [← h]
  simp (maxDischargeDepth := 30) [hw]

theorem execFlushPoint_mem (queue : Fin 64) (s : State) : ∀ t, execFlushPoint queue s = .next t → memOf t = memOf s := by
  intro t h
  unfold execFlushPoint at h
  simp only [Host.Outcome.next.injEq] at h
  rw [← h]
  simp

theorem execQueueHandshakeDone_mem (queue : Fin 64) (s : State) : ∀ t, execQueueHandshakeDone queue s = .next t → memOf t = memOf s := by
  intro t h
  unfold execQueueHandshakeDone at h
  simp only [Host.Outcome.next.injEq] at h
  rw [← h]
  simp

theorem execQueueReset_wf (a : Acc) (queue : Fin 64) (s : State) (hw :
    Memory.wf (memOf s) = true) : ∀ t, execQueueReset a queue s = .next t → Memory.wf (memOf t) = true := by
  intro t h
  unfold execQueueReset at h
  simp only [Host.Outcome.next.injEq] at h
  rw [← h]
  simp (maxDischargeDepth := 30) [hw]

theorem execQueCfgWrite_wf (a : Acc) (queue : Fin 64) (value : Word) (s : State) (hw :
    Memory.wf (memOf s) = true) : ∀ t, execQueCfgWrite a queue value s = .next t → Memory.wf (memOf t) = true := by
  intro t h
  unfold execQueCfgWrite at h
  simp only [Host.Outcome.next.injEq] at h
  rw [← h]
  simp (maxDischargeDepth := 30) [hw]

theorem execQueueThreshold_mem (queue : Fin 64) (lag : Nat) (s : State) :
    ∀ t, execQueueThreshold queue lag s = .next t → memOf t = memOf s := by
  intro t h
  unfold execQueueThreshold at h
  simp only [Host.Outcome.next.injEq] at h
  rw [← h]
  simp

theorem execForcedReset_mem (queue : Fin 64) (isRead : Bool) (s : State) :
    ∀ t, execForcedReset queue isRead s = .next t → memOf t = memOf s := by
  intro t h
  unfold execForcedReset at h
  simp only [Host.Outcome.next.injEq] at h
  rw [← h]
  simp

theorem execPinMuxWrite_wf (a : Acc) (pin : Fin 480) (value : Word) (s : State) (hw :
    Memory.wf (memOf s) = true) : ∀ t, execPinMuxWrite a pin value s = .next t → Memory.wf (memOf t) = true := by
  intro t h
  unfold execPinMuxWrite at h
  simp only [Host.Outcome.next.injEq] at h
  rw [← h]
  simp (maxDischargeDepth := 30) [hw]

theorem execPinOutSet_wf (a : Acc) (bank : Fin 12) (high : Bool) (mask : Word) (s : State) (hw :
    Memory.wf (memOf s) = true) : ∀ t, execPinOutSet a bank high mask s = .next t → Memory.wf (memOf t) = true := by
  intro t h
  unfold execPinOutSet at h
  simp only [Host.Outcome.next.injEq] at h
  rw [← h]
  simp (maxDischargeDepth := 30) [hw]

theorem execPinOutClr_wf (a : Acc) (bank : Fin 12) (high : Bool) (mask : Word) (s : State) (hw :
    Memory.wf (memOf s) = true) : ∀ t, execPinOutClr a bank high mask s = .next t → Memory.wf (memOf t) = true := by
  intro t h
  unfold execPinOutClr at h
  simp only [Host.Outcome.next.injEq] at h
  rw [← h]
  simp (maxDischargeDepth := 30) [hw]

theorem execPinInputChange_mem (pin : Fin 480) (board : Option Bool) (edges : Nat) (s : State) :
    ∀ t, execPinInputChange pin board edges s = .next t → memOf t = memOf s := by
  intro t h
  unfold execPinInputChange at h
  simp only [Host.Outcome.next.injEq] at h
  rw [← h]
  simp

theorem execPinMismatch_mem (pin : Fin 480) (x y z : Bool) (s : State) :
    ∀ t, execPinMismatch pin x y z s = .next t → memOf t = memOf s := by
  intro t h
  unfold execPinMismatch at h
  simp only [Host.Outcome.next.injEq] at h
  rw [← h]
  simp

theorem execBankRailFault_mem (bank : Fin 12) (s : State) : ∀ t, execBankRailFault bank s = .next t → memOf t = memOf s := by
  intro t h
  unfold execBankRailFault at h
  simp only [Host.Outcome.next.injEq] at h
  rw [← h]
  simp

theorem execRailRetry_wf (a : Acc) (bank : Fin 12) (s : State) (hw :
    Memory.wf (memOf s) = true) : ∀ t, execRailRetry a bank s = .next t → Memory.wf (memOf t) = true := by
  intro t h
  unfold execRailRetry at h
  simp only [Host.Outcome.next.injEq] at h
  rw [← h]
  simp (maxDischargeDepth := 30) [hw]

theorem execStart_wf (a : Acc) (group : Fin 8) (s : State) (hw :
    Memory.wf (memOf s) = true) : ∀ t, execStart a group s = .next t → Memory.wf (memOf t) = true := by
  intro t h
  unfold execStart at h
  simp only [Host.Outcome.next.injEq] at h
  rw [← h]
  simp (maxDischargeDepth := 30) [hw]

theorem execStartAt_wf (a : Acc) (group : Fin 8) (s : State) (hw :
    Memory.wf (memOf s) = true) : ∀ t, execStartAt a group s = .next t → Memory.wf (memOf t) = true := by
  intro t h
  unfold execStartAt at h
  simp only [Host.Outcome.next.injEq] at h
  rw [← h]
  simp (maxDischargeDepth := 30) [hw]

theorem execStop_wf (a : Acc) (group : Fin 8) (s : State) (hw :
    Memory.wf (memOf s) = true) : ∀ t, execStop a group s = .next t → Memory.wf (memOf t) = true := by
  intro t h
  unfold execStop at h
  simp only [Host.Outcome.next.injEq] at h
  rw [← h]
  simp (maxDischargeDepth := 30) [hw]

theorem execHalt_wf (a : Acc) (group : Fin 8) (s : State) (hw :
    Memory.wf (memOf s) = true) : ∀ t, execHalt a group s = .next t → Memory.wf (memOf t) = true := by
  intro t h
  unfold execHalt at h
  simp only [Host.Outcome.next.injEq] at h
  rw [← h]
  simp (maxDischargeDepth := 30) [hw]

theorem execPleatStartTime_mem (group : Fin 8) (s : State) : ∀ t, execPleatStartTime group s = .next t → memOf t = memOf s := by
  intro t h
  unfold execPleatStartTime at h
  simp only [Host.Outcome.next.injEq] at h
  rw [← h]
  simp

theorem execPleatSlotBoundary_mem (group : Fin 8) (s : State) : ∀ t, execPleatSlotBoundary group s = .next t → memOf t = memOf s := by
  intro t h
  unfold execPleatSlotBoundary at h
  simp only [Host.Outcome.next.injEq] at h
  rw [← h]
  simp

theorem execPleatSample_mem (group : Fin 8) (s : State) : ∀ t, execPleatSample group s = .next t → memOf t = memOf s := by
  intro t h
  unfold execPleatSample at h
  simp only [Host.Outcome.next.injEq] at h
  rw [← h]
  simp

theorem execPleatFrameEnd_mem (group : Fin 8) (s : State) : ∀ t, execPleatFrameEnd group s = .next t → memOf t = memOf s := by
  intro t h
  unfold execPleatFrameEnd at h
  simp only [Host.Outcome.next.injEq] at h
  rw [← h]
  simp

theorem execPltTteArm_wf (a : Acc) (mask : BitVec 16) (s : State) (hw :
    Memory.wf (memOf s) = true) : ∀ t, execPltTteArm a mask s = .next t → Memory.wf (memOf t) = true := by
  intro t h
  unfold execPltTteArm at h
  simp only [Host.Outcome.next.injEq] at h
  rw [← h]
  simp (maxDischargeDepth := 30) [hw]

theorem execPltTteCancel_wf (a : Acc) (mask : BitVec 16) (s : State) (hw :
    Memory.wf (memOf s) = true) : ∀ t, execPltTteCancel a mask s = .next t → Memory.wf (memOf t) = true := by
  intro t h
  unfold execPltTteCancel at h
  simp only [Host.Outcome.next.injEq] at h
  rw [← h]
  simp (maxDischargeDepth := 30) [hw]

theorem execTteFire_mem (channel : Fin 16) (s : State) : ∀ t, execTteFire channel s = .next t → memOf t = memOf s := by
  intro t h
  unfold execTteFire at h
  simp only [Host.Outcome.next.injEq] at h
  rw [← h]
  simp

theorem execPnlReset_wf (a : Acc) (panels : BitVec 8) (s : State) (hw :
    Memory.wf (memOf s) = true) : ∀ t, execPnlReset a panels s = .next t → Memory.wf (memOf t) = true := by
  intro t h
  unfold execPnlReset at h
  simp only [Host.Outcome.next.injEq] at h
  rw [← h]
  simp (maxDischargeDepth := 30) [hw]

theorem execPnlHold_wf (a : Acc) (s : State) (hw :
    Memory.wf (memOf s) = true) : ∀ t, execPnlHold a s = .next t → Memory.wf (memOf t) = true := by
  intro t h
  unfold execPnlHold at h
  simp only [Host.Outcome.next.injEq] at h
  rw [← h]
  simp (maxDischargeDepth := 30) [hw]

theorem execBar0Access_wf (q : PcieReq) (s : State) (hw :
    Memory.wf (memOf s) = true) : ∀ t, execBar0Access q s = .next t → Memory.wf (memOf t) = true := by
  intro t h
  unfold execBar0Access at h
  simp only [Host.Outcome.next.injEq] at h
  rw [← h]
  simp (maxDischargeDepth := 30) [hw]

theorem execBar4Access_wf (q : PcieReq) (s : State) (hw :
    Memory.wf (memOf s) = true) : ∀ t, execBar4Access q s = .next t → Memory.wf (memOf t) = true := by
  intro t h
  unfold execBar4Access at h
  simp only [Host.Outcome.next.injEq] at h
  rw [← h]
  simp (maxDischargeDepth := 30) [hw]

theorem execPcieConfigAccess_wf (fn : Fin 4) (dw : Fin 1024) (rw : Rw) (value : Word) (s : State) (hw :
    Memory.wf (memOf s) = true) : ∀ t, execPcieConfigAccess fn dw rw value s = .next t → Memory.wf (memOf t) = true := by
  intro t h
  unfold execPcieConfigAccess at h
  simp only [Host.Outcome.next.injEq] at h
  rw [← h]
  simp (maxDischargeDepth := 30) [hw]

theorem execMbxInLen_wf (fn : Fin 4) (bytes : List (Nat × BitVec 8)) (len : Nat) (s : State) (hw :
    Memory.wf (memOf s) = true) : ∀ t, execMbxInLen fn bytes len s = .next t → Memory.wf (memOf t) = true := by
  intro t h
  unfold execMbxInLen at h
  simp only [Host.Outcome.next.injEq] at h
  rw [← h]
  simp (maxDischargeDepth := 30) [hw]

theorem execMbxOutDone_wf (fn : Fin 4) (value : Word) (s : State) (hw :
    Memory.wf (memOf s) = true) : ∀ t, execMbxOutDone fn value s = .next t → Memory.wf (memOf t) = true := by
  intro t h
  unfold execMbxOutDone at h
  simp only [Host.Outcome.next.injEq] at h
  rw [← h]
  simp (maxDischargeDepth := 30) [hw]

theorem execFlr_wf (fn : Fin 4) (s : State) (hw :
    Memory.wf (memOf s) = true) : ∀ t, execFlr fn s = .next t → Memory.wf (memOf t) = true := by
  intro t h
  unfold execFlr at h
  simp only [Host.Outcome.next.injEq] at h
  rw [← h]
  simp (maxDischargeDepth := 30) [hw]

theorem execPerst_mem (hot low : Bool) (s : State) : ∀ t, execPerst hot low s = .next t → memOf t = memOf s := by
  intro t h
  unfold execPerst at h
  simp only [Host.Outcome.next.injEq] at h
  rw [← h]
  simp

theorem execLinkDown_mem (s : State) : ∀ t, execLinkDown s = .next t → memOf t = memOf s := by
  intro t h
  unfold execLinkDown at h
  simp only [Host.Outcome.next.injEq] at h
  rw [← h]
  simp

theorem execLinkUp_mem (speed : BitVec 4) (width : BitVec 6) (s : State) : ∀ t, execLinkUp speed width s = .next t → memOf t = memOf s := by
  intro t h
  unfold execLinkUp at h
  simp only [Host.Outcome.next.injEq] at h
  rw [← h]
  simp

theorem execQspiRdReg_wf (q : QspiReq) (s : State) (hw :
    Memory.wf (memOf s) = true) : ∀ t, execQspiRdReg q s = .next t → Memory.wf (memOf t) = true := by
  intro t h
  unfold execQspiRdReg at h
  simp only [Host.Outcome.next.injEq] at h
  rw [← h]
  exact qspiReq_wf _ _ _ _ (fun i s hs => rdReg_wf (hw := hs) ..) hw

theorem execQspiWrReg_wf (q : QspiReq) (s : State) (hw :
    Memory.wf (memOf s) = true) : ∀ t, execQspiWrReg q s = .next t → Memory.wf (memOf t) = true := by
  intro t h
  unfold execQspiWrReg at h
  simp only [Host.Outcome.next.injEq] at h
  rw [← h]
  refine settled_wf _ ?_
  exact qspiReq_wf _ _ _ _ (fun i s hs => wrReg_wf (hw := hs) ..) hw

theorem execQPush_wf (q : QspiReq) (s : State) (hw :
    Memory.wf (memOf s) = true) : ∀ t, execQPush q s = .next t → Memory.wf (memOf t) = true := by
  intro t h
  unfold execQPush at h
  simp only [Host.Outcome.next.injEq] at h
  rw [← h]
  refine settled_wf _ ?_
  exact qspiReq_wf _ _ _ _ (fun i s hs => qPush_wf (hw := hs) ..) hw

theorem execQPop_wf (q : QspiReq) (s : State) (hw :
    Memory.wf (memOf s) = true) : ∀ t, execQPop q s = .next t → Memory.wf (memOf t) = true := by
  intro t h
  unfold execQPop at h
  simp only [Host.Outcome.next.injEq] at h
  rw [← h]
  exact qspiReq_wf _ _ _ _ (fun i s hs => qPop_wf (hw := hs) ..) hw

theorem execQCmd_mem (q : QspiReq) (s : State) : ∀ t, execQCmd q s = .next t → memOf t = memOf s := by
  intro t h
  unfold execQCmd at h
  simp only [Host.Outcome.next.injEq] at h
  rw [← h]
  simp

theorem execSSend_wf (q : QspiReq) (s : State) (hw :
    Memory.wf (memOf s) = true) : ∀ t, execSSend q s = .next t → Memory.wf (memOf t) = true := by
  intro t h
  unfold execSSend at h
  simp only [Host.Outcome.next.injEq] at h
  rw [← h]
  simp (maxDischargeDepth := 30) [hw]

theorem execSRecv_mem (q : QspiReq) (s : State) : ∀ t, execSRecv q s = .next t → memOf t = memOf s := by
  intro t h
  unfold execSRecv at h
  simp only [Host.Outcome.next.injEq] at h
  rw [← h]
  simp

theorem execPortStatus_mem (q : QspiReq) (s : State) : ∀ t, execPortStatus q s = .next t → memOf t = memOf s := by
  intro t h
  unfold execPortStatus at h
  simp only [Host.Outcome.next.injEq] at h
  rw [← h]
  simp

theorem execWrMem_wf (q : QspiReq) (s : State) (hw :
    Memory.wf (memOf s) = true) : ∀ t, execWrMem q s = .next t → Memory.wf (memOf t) = true := by
  intro t h
  unfold execWrMem at h
  simp only [Host.Outcome.next.injEq] at h
  rw [← h]
  exact qspiReq_wf _ _ _ _ (fun i s hs => wrMem_wf (hw := hs) ..) hw

theorem execRdMem_wf (q : QspiReq) (s : State) (hw :
    Memory.wf (memOf s) = true) : ∀ t, execRdMem q s = .next t → Memory.wf (memOf t) = true := by
  intro t h
  unfold execRdMem at h
  simp only [Host.Outcome.next.injEq] at h
  rw [← h]
  exact qspiReq_wf _ _ _ _ (fun i s hs => rdMem_wf (hw := hs) ..) hw

theorem execQspiAbort_mem (port : Fin 2) (s : State) : ∀ t, execQspiAbort port s = .next t → memOf t = memOf s := by
  intro t h
  unfold execQspiAbort at h
  simp only [Host.Outcome.next.injEq] at h
  rw [← h]
  simp

theorem execMsixTableWrite_wf (fn : Fin 4) (dw : Fin 256) (value : Word) (s : State) (hw :
    Memory.wf (memOf s) = true) : ∀ t, execMsixTableWrite fn dw value s = .next t → Memory.wf (memOf t) = true := by
  intro t h
  unfold execMsixTableWrite at h
  simp only [Host.Outcome.next.injEq] at h
  rw [← h]
  simp (maxDischargeDepth := 30) [hw]

theorem execAerError_mem (fn : Fin 4) (uncorrectable : Bool) (cause : Fin 32) (s : State) :
    ∀ t, execAerError fn uncorrectable cause s = .next t → memOf t = memOf s := by
  intro t h
  unfold execAerError at h
  simp only [Host.Outcome.next.injEq] at h
  rw [← h]
  simp

theorem execRelock_wf (a : Acc) (pll : Fin 8) (s : State) (hw :
    Memory.wf (memOf s) = true) : ∀ t, execRelock a pll s = .next t → Memory.wf (memOf t) = true := by
  intro t h
  unfold execRelock at h
  simp only [Host.Outcome.next.injEq] at h
  rw [← h]
  simp (maxDischargeDepth := 30) [hw]

theorem execHop_wf (a : Acc) (pll : Fin 8) (entry : Fin 16) (s : State) (hw :
    Memory.wf (memOf s) = true) : ∀ t, execHop a pll entry s = .next t → Memory.wf (memOf t) = true := by
  intro t h
  unfold execHop at h
  simp only [Host.Outcome.next.injEq] at h
  rw [← h]
  simp (maxDischargeDepth := 30) [hw]

theorem execStore_wf (a : Acc) (pll : Fin 8) (entry : Fin 16) (s : State) (hw :
    Memory.wf (memOf s) = true) : ∀ t, execStore a pll entry s = .next t → Memory.wf (memOf t) = true := by
  intro t h
  unfold execStore at h
  simp only [Host.Outcome.next.injEq] at h
  rw [← h]
  simp (maxDischargeDepth := 30) [hw]

theorem execClear_wf (a : Acc) (pll : Fin 8) (entry : Fin 16) (s : State) (hw :
    Memory.wf (memOf s) = true) : ∀ t, execClear a pll entry s = .next t → Memory.wf (memOf t) = true := by
  intro t h
  unfold execClear at h
  simp only [Host.Outcome.next.injEq] at h
  rw [← h]
  simp (maxDischargeDepth := 30) [hw]

theorem execClkUpdate_wf (a : Acc) (plls : BitVec 8) (s : State) (hw :
    Memory.wf (memOf s) = true) : ∀ t, execClkUpdate a plls s = .next t → Memory.wf (memOf t) = true := by
  intro t h
  unfold execClkUpdate at h
  simp only [Host.Outcome.next.injEq] at h
  rw [← h]
  simp (maxDischargeDepth := 30) [hw]

theorem execUpdateDone_mem (pll : Fin 8) (s : State) : ∀ t, execUpdateDone pll s = .next t → memOf t = memOf s := by
  intro t h
  unfold execUpdateDone at h
  simp only [Host.Outcome.next.injEq] at h
  rw [← h]
  simp

theorem execPllLock_wf (pll : Fin 8) (s : State) (hw :
    Memory.wf (memOf s) = true) : ∀ t, execPllLock pll s = .next t → Memory.wf (memOf t) = true := by
  intro t h
  unfold execPllLock at h
  simp only [Host.Outcome.next.injEq] at h
  rw [← h]
  simp (maxDischargeDepth := 30) [hw]

theorem execLockLost_mem (pll : Fin 8) (badLand : Bool) (s : State) : ∀ t, execLockLost pll badLand s = .next t → memOf t = memOf s := by
  intro t h
  unfold execLockLost at h
  simp only [Host.Outcome.next.injEq] at h
  rw [← h]
  simp

theorem execRefLost_mem (ref : Fin 3) (slips : BitVec 8) (s : State) : ∀ t, execRefLost ref slips s = .next t → memOf t = memOf s := by
  intro t h
  unfold execRefLost at h
  simp only [Host.Outcome.next.injEq] at h
  rw [← h]
  simp

theorem execRefRestored_mem (ref : Fin 3) (badLands : BitVec 8) (s : State) :
    ∀ t, execRefRestored ref badLands s = .next t → memOf t = memOf s := by
  intro t h
  unfold execRefRestored at h
  simp only [Host.Outcome.next.injEq] at h
  rw [← h]
  simp

theorem execLockTimeout_mem (pll : Fin 8) (s : State) : ∀ t, execLockTimeout pll s = .next t → memOf t = memOf s := by
  intro t h
  unfold execLockTimeout at h
  simp only [Host.Outcome.next.injEq] at h
  rw [← h]
  simp

theorem execXoReady_mem (badLands : BitVec 8) (s : State) : ∀ t, execXoReady badLands s = .next t → memOf t = memOf s := by
  intro t h
  unfold execXoReady at h
  simp only [Host.Outcome.next.injEq] at h
  rw [← h]
  simp

theorem execRcFallback_mem (badLands : BitVec 8) (s : State) : ∀ t, execRcFallback badLands s = .next t → memOf t = memOf s := by
  intro t h
  unfold execRcFallback at h
  simp only [Host.Outcome.next.injEq] at h
  rw [← h]
  simp

theorem execXo32Fail_mem (s : State) : ∀ t, execXo32Fail s = .next t → memOf t = memOf s := by
  intro t h
  unfold execXo32Fail at h
  simp only [Host.Outcome.next.injEq] at h
  rw [← h]
  simp

theorem execTimNowRead_mem (init : Initiator) (high : Bool) (s : State) :
    ∀ t, execTimNowRead init high s = .next t → memOf t = memOf s := by
  intro t h
  unfold execTimNowRead at h
  simp only [Host.Outcome.next.injEq] at h
  rw [← h]
  simp

theorem execSteerEnd_mem (s : State) : ∀ t, execSteerEnd s = .next t → memOf t = memOf s := by
  intro t h
  unfold execSteerEnd at h
  simp only [Host.Outcome.next.injEq] at h
  rw [← h]
  simp

theorem execCompareWrite_wf (a : Acc) (channel : Fin 64) (value : Word) (s : State) (hw :
    Memory.wf (memOf s) = true) : ∀ t, execCompareWrite a channel value s = .next t → Memory.wf (memOf t) = true := by
  intro t h
  unfold execCompareWrite at h
  simp only [Host.Outcome.next.injEq] at h
  rw [← h]
  simp (maxDischargeDepth := 30) [hw]

theorem execCompareMatch_mem (channel : Fin 64) (s : State) : ∀ t, execCompareMatch channel s = .next t → memOf t = memOf s := by
  intro t h
  unfold execCompareMatch at h
  simp only [Host.Outcome.next.injEq] at h
  rw [← h]
  simp

theorem execWdgCoreKick_wf (core : Fin 16) (value : Word) (others : List BusWrite) (env : RegEnv) (s : State) (hw :
    Memory.wf (memOf s) = true) : ∀ t, execWdgCoreKick core value others env s = .next t → Memory.wf (memOf t) = true := by
  intro t h
  unfold execWdgCoreKick at h
  simp only [Host.Outcome.next.injEq] at h
  rw [← h]
  simp (maxDischargeDepth := 30) [hw]

theorem execWdgPanelKick_wf (a : Acc) (value : Word) (s : State) (hw :
    Memory.wf (memOf s) = true) : ∀ t, execWdgPanelKick a value s = .next t → Memory.wf (memOf t) = true := by
  intro t h
  unfold execWdgPanelKick at h
  simp only [Host.Outcome.next.injEq] at h
  rw [← h]
  simp (maxDischargeDepth := 30) [hw]

theorem execWdgSysKick_wf (a : Acc) (value : Word) (s : State) (hw :
    Memory.wf (memOf s) = true) : ∀ t, execWdgSysKick a value s = .next t → Memory.wf (memOf t) = true := by
  intro t h
  unfold execWdgSysKick at h
  simp only [Host.Outcome.next.injEq] at h
  rw [← h]
  simp (maxDischargeDepth := 30) [hw]

theorem execWdgSysEnable_wf (a : Acc) (window : BitVec 3) (timeout : BitVec 9) (s : State) (hw :
    Memory.wf (memOf s) = true) : ∀ t, execWdgSysEnable a window timeout s = .next t → Memory.wf (memOf t) = true := by
  intro t h
  unfold execWdgSysEnable at h
  simp only [Host.Outcome.next.injEq] at h
  rw [← h]
  simp (maxDischargeDepth := 30) [hw]

theorem execWdgWarn_mem (watchdog : Fin 25) (s : State) : ∀ t, execWdgWarn watchdog s = .next t → memOf t = memOf s := by
  intro t h
  unfold execWdgWarn at h
  simp only [Host.Outcome.next.injEq] at h
  rw [← h]
  simp

theorem execCoreWdgExpiry_wf (core : Fin 16) (others : List (Fin 25)) (s : State) (hw :
    Memory.wf (memOf s) = true) : ∀ t, execCoreWdgExpiry core others s = .next t → Memory.wf (memOf t) = true := by
  intro t h
  unfold execCoreWdgExpiry at h
  simp only [Host.Outcome.next.injEq] at h
  rw [← h]
  simp (maxDischargeDepth := 30) [hw]

theorem execPanelWdgExpiry_wf (panel : Fin 8) (others : List (Fin 25)) (s : State) (hw :
    Memory.wf (memOf s) = true) : ∀ t, execPanelWdgExpiry panel others s = .next t → Memory.wf (memOf t) = true := by
  intro t h
  unfold execPanelWdgExpiry at h
  simp only [Host.Outcome.next.injEq] at h
  rw [← h]
  simp (maxDischargeDepth := 30) [hw]

theorem execSysWdgExpiry_wf (others : List (Fin 25)) (s : State) (hw :
    Memory.wf (memOf s) = true) : ∀ t, execSysWdgExpiry others s = .next t → Memory.wf (memOf t) = true := by
  intro t h
  unfold execSysWdgExpiry at h
  simp only [Host.Outcome.next.injEq] at h
  rw [← h]
  simp (maxDischargeDepth := 30) [hw]

theorem execModuleReset_wf (s : State) (hw :
    Memory.wf (memOf s) = true) : ∀ t, execModuleReset s = .next t → Memory.wf (memOf t) = true := by
  intro t h
  unfold execModuleReset at h
  simp only [Host.Outcome.next.injEq] at h
  rw [← h]
  simp (maxDischargeDepth := 30) [hw]

theorem execTick_wf (s : State) (hw : Memory.wf (memOf s) = true) : ∀ t, execTick s = .next t → Memory.wf (memOf t) = true := by
  intro t h
  unfold execTick at h
  simp only [Host.Outcome.next.injEq] at h
  rw [← h]
  simp (maxDischargeDepth := 30) [hw]

theorem execAlwaysOnTick_mem (s : State) : ∀ t, execAlwaysOnTick s = .next t → memOf t = memOf s := by
  intro t h
  unfold execAlwaysOnTick at h
  simp only [Host.Outcome.next.injEq] at h
  rw [← h]
  simp

theorem execPowerOnStart_wf (e : StartEnv) (s : State) (hw :
    Memory.wf (memOf s) = true) : ∀ t, execPowerOnStart e s = .next t → Memory.wf (memOf t) = true := by
  intro t h
  unfold execPowerOnStart at h
  simp only [Host.Outcome.next.injEq] at h
  rw [← h]
  simp (maxDischargeDepth := 30) [hw]

theorem execRailStartFail_wf (rail : Fin 6) (s : State) (hw :
    Memory.wf (memOf s) = true) : ∀ t, execRailStartFail rail s = .next t → Memory.wf (memOf t) = true := by
  intro t h
  unfold execRailStartFail at h
  simp only [Host.Outcome.next.injEq] at h
  rw [← h]
  simp (maxDischargeDepth := 30) [hw]

theorem execResetN_wf (low : Bool) (s : State) (hw :
    Memory.wf (memOf s) = true) : ∀ t, execResetN low s = .next t → Memory.wf (memOf t) = true := by
  intro t h
  unfold execResetN at h
  simp only [Host.Outcome.next.injEq] at h
  rw [← h]
  simp (maxDischargeDepth := 30) [hw]

theorem execBrownOut_wf (s : State) (hw : Memory.wf (memOf s) = true) : ∀ t, execBrownOut s = .next t → Memory.wf (memOf t) = true := by
  intro t h
  unfold execBrownOut at h
  simp only [Host.Outcome.next.injEq] at h
  rw [← h]
  simp (maxDischargeDepth := 30) [hw]

theorem execHibernateBrownOut_wf (s : State) (hw :
    Memory.wf (memOf s) = true) : ∀ t, execHibernateBrownOut s = .next t → Memory.wf (memOf t) = true := by
  intro t h
  unfold execHibernateBrownOut at h
  simp only [Host.Outcome.next.injEq] at h
  rw [← h]
  simp (maxDischargeDepth := 30) [hw]

theorem execOvervolt_mem (s : State) : ∀ t, execOvervolt s = .next t → memOf t = memOf s := by
  intro t h
  unfold execOvervolt at h
  simp only [Host.Outcome.next.injEq] at h
  rw [← h]
  simp

theorem execIlimit_wf (s : State) (hw : Memory.wf (memOf s) = true) : ∀ t, execIlimit s = .next t → Memory.wf (memOf t) = true := by
  intro t h
  unfold execIlimit at h
  simp only [Host.Outcome.next.injEq] at h
  rw [← h]
  simp (maxDischargeDepth := 30) [hw]

theorem execRailOutOfWindow_wf (rail : Fin 6) (s : State) (hw :
    Memory.wf (memOf s) = true) : ∀ t, execRailOutOfWindow rail s = .next t → Memory.wf (memOf t) = true := by
  intro t h
  unfold execRailOutOfWindow at h
  simp only [Host.Outcome.next.injEq] at h
  rw [← h]
  simp (maxDischargeDepth := 30) [hw]

theorem execVholdOk_mem (ok : Bool) (s : State) : ∀ t, execVholdOk ok s = .next t → memOf t = memOf s := by
  intro t h
  unfold execVholdOk at h
  simp only [Host.Outcome.next.injEq] at h
  rw [← h]
  simp

theorem execVholdAbsent_mem (late : Bool) (s : State) : ∀ t, execVholdAbsent late s = .next t → memOf t = memOf s := by
  intro t h
  unfold execVholdAbsent at h
  simp only [Host.Outcome.next.injEq] at h
  rw [← h]
  simp

theorem execPhaseAdd_mem (current : Nat) (s : State) : ∀ t, execPhaseAdd current s = .next t → memOf t = memOf s := by
  intro t h
  unfold execPhaseAdd at h
  simp only [Host.Outcome.next.injEq] at h
  rw [← h]
  simp

theorem execPhaseShed_mem (current : Nat) (s : State) : ∀ t, execPhaseShed current s = .next t → memOf t = memOf s := by
  intro t h
  unfold execPhaseShed at h
  simp only [Host.Outcome.next.injEq] at h
  rw [← h]
  simp

theorem execPowerMonitorSample_mem (vin vhold iin core : Nat) (limiting : Bool) (s : State) :
    ∀ t, execPowerMonitorSample vin vhold iin core limiting s = .next t → memOf t = memOf s := by
  intro t h
  unfold execPowerMonitorSample at h
  simp only [Host.Outcome.next.injEq] at h
  rw [← h]
  simp

theorem execOverBudget_mem (s : State) : ∀ t, execOverBudget s = .next t → memOf t = memOf s := by
  intro t h
  unfold execOverBudget at h
  simp only [Host.Outcome.next.injEq] at h
  rw [← h]
  simp

theorem execAonBrownOut_wf (s : State) (hw :
    Memory.wf (memOf s) = true) : ∀ t, execAonBrownOut s = .next t → Memory.wf (memOf t) = true := by
  intro t h
  unfold execAonBrownOut at h
  simp only [Host.Outcome.next.injEq] at h
  rw [← h]
  simp (maxDischargeDepth := 30) [hw]

theorem execSelvagePowerLoss_wf (s : State) (hw :
    Memory.wf (memOf s) = true) : ∀ t, execSelvagePowerLoss s = .next t → Memory.wf (memOf t) = true := by
  intro t h
  unfold execSelvagePowerLoss at h
  simp only [Host.Outcome.next.injEq] at h
  rw [← h]
  simp (maxDischargeDepth := 30) [hw]

theorem execModeReqDoze_wf (a : Acc) (s : State) (hw :
    Memory.wf (memOf s) = true) : ∀ t, execModeReqDoze a s = .next t → Memory.wf (memOf t) = true := by
  intro t h
  unfold execModeReqDoze at h
  simp only [Host.Outcome.next.injEq] at h
  rw [← h]
  simp (maxDischargeDepth := 30) [hw]

theorem execModeReqNap_wf (a : Acc) (s : State) (hw :
    Memory.wf (memOf s) = true) : ∀ t, execModeReqNap a s = .next t → Memory.wf (memOf t) = true := by
  intro t h
  unfold execModeReqNap at h
  simp only [Host.Outcome.next.injEq] at h
  rw [← h]
  simp (maxDischargeDepth := 30) [hw]

theorem execModeReqHibernate_wf (a : Acc) (s : State) (hw :
    Memory.wf (memOf s) = true) : ∀ t, execModeReqHibernate a s = .next t → Memory.wf (memOf t) = true := by
  intro t h
  unfold execModeReqHibernate at h
  simp only [Host.Outcome.next.injEq] at h
  rw [← h]
  simp (maxDischargeDepth := 30) [hw]

theorem execModeReqSafe_wf (a : Acc) (s : State) (hw :
    Memory.wf (memOf s) = true) : ∀ t, execModeReqSafe a s = .next t → Memory.wf (memOf t) = true := by
  intro t h
  unfold execModeReqSafe at h
  simp only [Host.Outcome.next.injEq] at h
  rw [← h]
  simp (maxDischargeDepth := 30) [hw]

theorem execModeReqRun_wf (a : Acc) (s : State) (hw :
    Memory.wf (memOf s) = true) : ∀ t, execModeReqRun a s = .next t → Memory.wf (memOf t) = true := by
  intro t h
  unfold execModeReqRun at h
  simp only [Host.Outcome.next.injEq] at h
  rw [← h]
  simp (maxDischargeDepth := 30) [hw]

theorem execDozeEntry_wf (s : State) (hw : Memory.wf (memOf s) = true) : ∀ t, execDozeEntry s = .next t → Memory.wf (memOf t) = true := by
  intro t h
  unfold execDozeEntry at h
  simp only [Host.Outcome.next.injEq] at h
  rw [← h]
  simp (maxDischargeDepth := 30) [hw]

theorem execDozeWake_wf (s : State) (hw : Memory.wf (memOf s) = true) : ∀ t, execDozeWake s = .next t → Memory.wf (memOf t) = true := by
  intro t h
  unfold execDozeWake at h
  simp only [Host.Outcome.next.injEq] at h
  rw [← h]
  simp (maxDischargeDepth := 30) [hw]

theorem execNapEntry_wf (s : State) (hw : Memory.wf (memOf s) = true) : ∀ t, execNapEntry s = .next t → Memory.wf (memOf t) = true := by
  intro t h
  unfold execNapEntry at h
  simp only [Host.Outcome.next.injEq] at h
  rw [← h]
  simp (maxDischargeDepth := 30) [hw]

theorem execNapWake_wf (s : State) (hw : Memory.wf (memOf s) = true) : ∀ t, execNapWake s = .next t → Memory.wf (memOf t) = true := by
  intro t h
  unfold execNapWake at h
  simp only [Host.Outcome.next.injEq] at h
  rw [← h]
  simp (maxDischargeDepth := 30) [hw]

theorem execHibernateEntry_wf (s : State) (hw :
    Memory.wf (memOf s) = true) : ∀ t, execHibernateEntry s = .next t → Memory.wf (memOf t) = true := by
  intro t h
  unfold execHibernateEntry at h
  simp only [Host.Outcome.next.injEq] at h
  rw [← h]
  simp (maxDischargeDepth := 30) [hw]

theorem execHibernateWake_wf (e : StartEnv) (s : State) (hw :
    Memory.wf (memOf s) = true) : ∀ t, execHibernateWake e s = .next t → Memory.wf (memOf t) = true := by
  intro t h
  unfold execHibernateWake at h
  simp only [Host.Outcome.next.injEq] at h
  rw [← h]
  simp (maxDischargeDepth := 30) [hw]

theorem execHibernateWakeRetry_wf (rail : Fin 3) (s : State) (hw :
    Memory.wf (memOf s) = true) : ∀ t, execHibernateWakeRetry rail s = .next t → Memory.wf (memOf t) = true := by
  intro t h
  unfold execHibernateWakeRetry at h
  simp only [Host.Outcome.next.injEq] at h
  rw [← h]
  simp (maxDischargeDepth := 30) [hw]

theorem execWakeEvent_mem (code : Fin 16) (idx : Nat) (s : State) : ∀ t, execWakeEvent code idx s = .next t → memOf t = memOf s := by
  intro t h
  unfold execWakeEvent at h
  simp only [Host.Outcome.next.injEq] at h
  rw [← h]
  simp

theorem execTimedWake_wf (s : State) (hw : Memory.wf (memOf s) = true) : ∀ t, execTimedWake s = .next t → Memory.wf (memOf t) = true := by
  intro t h
  unfold execTimedWake at h
  simp only [Host.Outcome.next.injEq] at h
  rw [← h]
  simp (maxDischargeDepth := 30) [hw]

theorem execWakeAtReached_mem (s : State) : ∀ t, execWakeAtReached s = .next t → memOf t = memOf s := by
  intro t h
  unfold execWakeAtReached at h
  simp only [Host.Outcome.next.injEq] at h
  rw [← h]
  simp

theorem execProgSign_wf (a : Acc) (slot : Fin 16) (s : State) (hw :
    Memory.wf (memOf s) = true) : ∀ t, execProgSign a slot s = .next t → Memory.wf (memOf t) = true := by
  intro t h
  unfold execProgSign at h
  simp only [Host.Outcome.next.injEq] at h
  rw [← h]
  simp (maxDischargeDepth := 30) [hw]

theorem execRevokeSign_wf (a : Acc) (slot : Fin 16) (s : State) (hw :
    Memory.wf (memOf s) = true) : ∀ t, execRevokeSign a slot s = .next t → Memory.wf (memOf t) = true := by
  intro t h
  unfold execRevokeSign at h
  simp only [Host.Outcome.next.injEq] at h
  rw [← h]
  simp (maxDischargeDepth := 30) [hw]

theorem execProgDkey_wf (a : Acc) (slot : Fin 16) (s : State) (hw :
    Memory.wf (memOf s) = true) : ∀ t, execProgDkey a slot s = .next t → Memory.wf (memOf t) = true := by
  intro t h
  unfold execProgDkey at h
  simp only [Host.Outcome.next.injEq] at h
  rw [← h]
  simp (maxDischargeDepth := 30) [hw]

theorem execRevokeDkey_wf (a : Acc) (slot : Fin 16) (s : State) (hw :
    Memory.wf (memOf s) = true) : ∀ t, execRevokeDkey a slot s = .next t → Memory.wf (memOf t) = true := by
  intro t h
  unfold execRevokeDkey at h
  simp only [Host.Outcome.next.injEq] at h
  rw [← h]
  simp (maxDischargeDepth := 30) [hw]

theorem execAttest_wf (a : Acc) (s : State) (hw :
    Memory.wf (memOf s) = true) : ∀ t, execAttest a s = .next t → Memory.wf (memOf t) = true := by
  intro t h
  unfold execAttest at h
  simp only [Host.Outcome.next.injEq] at h
  rw [← h]
  simp (maxDischargeDepth := 30) [hw]

theorem execEnrolWrite_wf (a : Acc) (entry : Fin 1024) (s : State) (hw :
    Memory.wf (memOf s) = true) : ∀ t, execEnrolWrite a entry s = .next t → Memory.wf (memOf t) = true := by
  intro t h
  unfold execEnrolWrite at h
  simp only [Host.Outcome.next.injEq] at h
  rw [← h]
  simp (maxDischargeDepth := 30) [hw]

theorem execEnrolEnable_wf (a : Acc) (entry : Fin 1024) (s : State) (hw :
    Memory.wf (memOf s) = true) : ∀ t, execEnrolEnable a entry s = .next t → Memory.wf (memOf t) = true := by
  intro t h
  unfold execEnrolEnable at h
  simp only [Host.Outcome.next.injEq] at h
  rw [← h]
  simp (maxDischargeDepth := 30) [hw]

theorem execEnrolDisable_wf (a : Acc) (entry : Fin 1024) (s : State) (hw :
    Memory.wf (memOf s) = true) : ∀ t, execEnrolDisable a entry s = .next t → Memory.wf (memOf t) = true := by
  intro t h
  unfold execEnrolDisable at h
  simp only [Host.Outcome.next.injEq] at h
  rw [← h]
  simp (maxDischargeDepth := 30) [hw]

theorem execEnrolErase_wf (a : Acc) (entry : Fin 1024) (s : State) (hw :
    Memory.wf (memOf s) = true) : ∀ t, execEnrolErase a entry s = .next t → Memory.wf (memOf t) = true := by
  intro t h
  unfold execEnrolErase at h
  simp only [Host.Outcome.next.injEq] at h
  rw [← h]
  simp (maxDischargeDepth := 30) [hw]

theorem execEnrolRead_wf (a : Acc) (entry : Fin 1024) (s : State) (hw :
    Memory.wf (memOf s) = true) : ∀ t, execEnrolRead a entry s = .next t → Memory.wf (memOf t) = true := by
  intro t h
  unfold execEnrolRead at h
  simp only [Host.Outcome.next.injEq] at h
  rw [← h]
  simp (maxDischargeDepth := 30) [hw]

theorem execHello_wf (port : Fin 24) (contested : Bool) (s : State) (hw :
    Memory.wf (memOf s) = true) : ∀ t, execHello port contested s = .next t → Memory.wf (memOf t) = true := by
  intro t h
  unfold execHello at h
  simp only [Host.Outcome.next.injEq] at h
  rw [← h]
  simp (maxDischargeDepth := 30) [hw]

theorem execFinish_wf (port : Fin 24) (contested : Bool) (s : State) (hw :
    Memory.wf (memOf s) = true) : ∀ t, execFinish port contested s = .next t → Memory.wf (memOf t) = true := by
  intro t h
  unfold execFinish at h
  simp only [Host.Outcome.next.injEq] at h
  rw [← h]
  simp (maxDischargeDepth := 30) [hw]

theorem execAlert_wf (port : Fin 24) (s : State) (hw :
    Memory.wf (memOf s) = true) : ∀ t, execAlert port s = .next t → Memory.wf (memOf t) = true := by
  intro t h
  unfold execAlert at h
  simp only [Host.Outcome.next.injEq] at h
  rw [← h]
  simp (maxDischargeDepth := 30) [hw]

theorem execDataFrame_wf (port : Fin 24) (env : HostEnv) (storeBad : Bool) (s : State) (hw :
    Memory.wf (memOf s) = true) : ∀ t, execDataFrame port env storeBad s = .next t → Memory.wf (memOf t) = true := by
  intro t h
  unfold execDataFrame at h
  simp only [Host.Outcome.next.injEq] at h
  rw [← h]
  simp (maxDischargeDepth := 30) [hw]

theorem execHandshakeTimeout_wf (slot : Fin 1024) (s : State) (hw :
    Memory.wf (memOf s) = true) : ∀ t, execHandshakeTimeout slot s = .next t → Memory.wf (memOf t) = true := by
  intro t h
  unfold execHandshakeTimeout at h
  simp only [Host.Outcome.next.injEq] at h
  rw [← h]
  simp (maxDischargeDepth := 30) [hw]

theorem execSessionIdle_wf (slot : Fin 1024) (s : State) (hw :
    Memory.wf (memOf s) = true) : ∀ t, execSessionIdle slot s = .next t → Memory.wf (memOf t) = true := by
  intro t h
  unfold execSessionIdle at h
  simp only [Host.Outcome.next.injEq] at h
  rw [← h]
  simp (maxDischargeDepth := 30) [hw]

theorem execSesTxCmd_wf (a : Acc) (slot : Fin 1024) (len : BitVec 12) (s : State) (hw :
    Memory.wf (memOf s) = true) : ∀ t, execSesTxCmd a slot len s = .next t → Memory.wf (memOf t) = true := by
  intro t h
  unfold execSesTxCmd at h
  simp only [Host.Outcome.next.injEq] at h
  rw [← h]
  simp (maxDischargeDepth := 30) [hw]

theorem execSesRxFree_wf (a : Acc) (slot : Fin 1024) (cell : Bool) (s : State) (hw :
    Memory.wf (memOf s) = true) : ∀ t, execSesRxFree a slot cell s = .next t → Memory.wf (memOf t) = true := by
  intro t h
  unfold execSesRxFree at h
  simp only [Host.Outcome.next.injEq] at h
  rw [← h]
  simp (maxDischargeDepth := 30) [hw]

theorem execSesClose_wf (a : Acc) (slot : Fin 1024) (s : State) (hw :
    Memory.wf (memOf s) = true) : ∀ t, execSesClose a slot s = .next t → Memory.wf (memOf t) = true := by
  intro t h
  unfold execSesClose at h
  simp only [Host.Outcome.next.injEq] at h
  rw [← h]
  simp (maxDischargeDepth := 30) [hw]

theorem execTransition_wf (a : Acc) (target : BitVec 5) (s : State) (hw :
    Memory.wf (memOf s) = true) : ∀ t, execTransition a target s = .next t → Memory.wf (memOf t) = true := by
  intro t h
  unfold execTransition at h
  simp only [Host.Outcome.next.injEq] at h
  rw [← h]
  simp (maxDischargeDepth := 30) [hw]

theorem execProgToken_wf (a : Acc) (token : BitVec 5) (s : State) (hw :
    Memory.wf (memOf s) = true) : ∀ t, execProgToken a token s = .next t → Memory.wf (memOf t) = true := by
  intro t h
  unfold execProgToken at h
  simp only [Host.Outcome.next.injEq] at h
  rw [← h]
  simp (maxDischargeDepth := 30) [hw]

theorem execServiceOpen_wf (a : Acc) (s : State) (hw :
    Memory.wf (memOf s) = true) : ∀ t, execServiceOpen a s = .next t → Memory.wf (memOf t) = true := by
  intro t h
  unfold execServiceOpen at h
  simp only [Host.Outcome.next.injEq] at h
  rw [← h]
  simp (maxDischargeDepth := 30) [hw]

theorem execServiceEnd_wf (a : Acc) (s : State) (hw :
    Memory.wf (memOf s) = true) : ∀ t, execServiceEnd a s = .next t → Memory.wf (memOf t) = true := by
  intro t h
  unfold execServiceEnd at h
  simp only [Host.Outcome.next.injEq] at h
  rw [← h]
  simp (maxDischargeDepth := 30) [hw]

theorem execIdcode_mem (s : State) : ∀ t, execIdcode s = .next t → memOf t = memOf s := by
  intro t h
  unfold execIdcode at h
  simp only [Host.Outcome.next.injEq] at h
  rw [← h]
  simp

theorem execSamplePreload_mem (bits : BitVec 960) (s : State) : ∀ t, execSamplePreload bits s = .next t → memOf t = memOf s := by
  intro t h
  unfold execSamplePreload at h
  simp only [Host.Outcome.next.injEq] at h
  rw [← h]
  simp

theorem execExtest_mem (bits : BitVec 960) (s : State) : ∀ t, execExtest bits s = .next t → memOf t = memOf s := by
  intro t h
  unfold execExtest at h
  simp only [Host.Outcome.next.injEq] at h
  rw [← h]
  simp

theorem execClamp_mem (s : State) : ∀ t, execClamp s = .next t → memOf t = memOf s := by
  intro t h
  unfold execClamp at h
  simp only [Host.Outcome.next.injEq] at h
  rw [← h]
  simp

theorem execHighz_mem (s : State) : ∀ t, execHighz s = .next t → memOf t = memOf s := by
  intro t h
  unfold execHighz at h
  simp only [Host.Outcome.next.injEq] at h
  rw [← h]
  simp

theorem execLcStatus_mem (s : State) : ∀ t, execLcStatus s = .next t → memOf t = memOf s := by
  intro t h
  unfold execLcStatus at h
  simp only [Host.Outcome.next.injEq] at h
  rw [← h]
  simp

theorem execLcTransition_wf (target : BitVec 8) (token : List (BitVec 8)) (env : RegEnv) (s : State) (hw :
    Memory.wf (memOf s) = true) : ∀ t, execLcTransition target token env s = .next t → Memory.wf (memOf t) = true := by
  intro t h
  unfold execLcTransition at h
  simp only [Host.Outcome.next.injEq] at h
  rw [← h]
  simp (maxDischargeDepth := 30) [hw]

theorem execLcChallenge_wf (panel : BitVec 8) (scope minutes : BitVec 16) (keyId : BitVec 8) (meets : List LcReq) (s : State) (hw :
    Memory.wf (memOf s) = true) : ∀ t, execLcChallenge panel scope minutes keyId meets s = .next t → Memory.wf (memOf t) = true := by
  intro t h
  unfold execLcChallenge at h
  simp only [Host.Outcome.next.injEq] at h
  rw [← h]
  simp (maxDischargeDepth := 30) [hw]

theorem execLcResponse_wf (body : List (BitVec 8)) (storeBad : Bool) (meets : List LcReq) (s : State) (hw :
    Memory.wf (memOf s) = true) : ∀ t, execLcResponse body storeBad meets s = .next t → Memory.wf (memOf t) = true := by
  intro t h
  unfold execLcResponse at h
  simp only [Host.Outcome.next.injEq] at h
  rw [← h]
  simp (maxDischargeDepth := 30) [hw]

theorem execDtmcs_mem (s : State) : ∀ t, execDtmcs s = .next t → memOf t = memOf s := by
  intro t h
  unfold execDtmcs at h
  simp only [Host.Outcome.next.injEq] at h
  rw [← h]
  simp

theorem execDmi_wf (op : Fin 4) (addr : Fin 128) (value : Word) (env : DmiEnv) (s : State) (hw :
    Memory.wf (memOf s) = true) : ∀ t, execDmi op addr value env s = .next t → Memory.wf (memOf t) = true := by
  intro t h
  unfold execDmi at h
  simp only [Host.Outcome.next.injEq] at h
  rw [← h]
  simp (maxDischargeDepth := 30) [hw]

theorem execBypass_mem (s : State) : ∀ t, execBypass s = .next t → memOf t = memOf s := by
  intro t h
  unfold execBypass at h
  simp only [Host.Outcome.next.injEq] at h
  rw [← h]
  simp

theorem execTrstN_wf (s : State) (hw : Memory.wf (memOf s) = true) : ∀ t, execTrstN s = .next t → Memory.wf (memOf t) = true := by
  intro t h
  unfold execTrstN at h
  simp only [Host.Outcome.next.injEq] at h
  rw [← h]
  simp (maxDischargeDepth := 30) [hw]

theorem execChallengeExpiry_mem (s : State) : ∀ t, execChallengeExpiry s = .next t → memOf t = memOf s := by
  intro t h
  unfold execChallengeExpiry at h
  simp only [Host.Outcome.next.injEq] at h
  rw [← h]
  simp

theorem execGrantExpiry_wf (s : State) (hw :
    Memory.wf (memOf s) = true) : ∀ t, execGrantExpiry s = .next t → Memory.wf (memOf t) = true := by
  intro t h
  unfold execGrantExpiry at h
  simp only [Host.Outcome.next.injEq] at h
  rw [← h]
  simp (maxDischargeDepth := 30) [hw]

theorem execSliceStart_mem (s : State) : ∀ t, execSliceStart s = .next t → memOf t = memOf s := by
  intro t h
  unfold execSliceStart at h
  simp only [Host.Outcome.next.injEq] at h
  rw [← h]
  simp

theorem execSliceDone_wf (cls : Fin 8) (unit : Fin 256) (cycles : Nat) (signature : DWord) (differs : Bool) (ue : Option Nat) (s : State) (hw :
    Memory.wf (memOf s) = true) : ∀ t, execSliceDone cls unit cycles signature differs ue s = .next t → Memory.wf (memOf t) = true := by
  intro t h
  unfold execSliceDone at h
  simp only [Host.Outcome.next.injEq] at h
  rw [← h]
  simp (maxDischargeDepth := 30) [hw]

theorem execRoundStart_mem (s : State) : ∀ t, execRoundStart s = .next t → memOf t = memOf s := by
  intro t h
  unfold execRoundStart at h
  simp only [Host.Outcome.next.injEq] at h
  rw [← h]
  simp

theorem execWindowOpen_mem (s : State) : ∀ t, execWindowOpen s = .next t → memOf t = memOf s := by
  intro t h
  unfold execWindowOpen at h
  simp only [Host.Outcome.next.injEq] at h
  rw [← h]
  simp

theorem execWindowClose_mem (s : State) : ∀ t, execWindowClose s = .next t → memOf t = memOf s := by
  intro t h
  unfold execWindowClose at h
  simp only [Host.Outcome.next.injEq] at h
  rw [← h]
  simp

theorem execRunOne_wf (a : Acc) (cls : BitVec 4) (unit slice : BitVec 8) (s : State) (hw :
    Memory.wf (memOf s) = true) : ∀ t, execRunOne a cls unit slice s = .next t → Memory.wf (memOf t) = true := by
  intro t h
  unfold execRunOne at h
  simp only [Host.Outcome.next.injEq] at h
  rw [← h]
  simp (maxDischargeDepth := 30) [hw]

theorem execRunUnit_wf (a : Acc) (cls : BitVec 4) (unit : BitVec 8) (s : State) (hw :
    Memory.wf (memOf s) = true) : ∀ t, execRunUnit a cls unit s = .next t → Memory.wf (memOf t) = true := by
  intro t h
  unfold execRunUnit at h
  simp only [Host.Outcome.next.injEq] at h
  rw [← h]
  simp (maxDischargeDepth := 30) [hw]

theorem execAbortAll_wf (a : Acc) (s : State) (hw :
    Memory.wf (memOf s) = true) : ∀ t, execAbortAll a s = .next t → Memory.wf (memOf t) = true := by
  intro t h
  unfold execAbortAll at h
  simp only [Host.Outcome.next.injEq] at h
  rw [← h]
  simp (maxDischargeDepth := 30) [hw]

theorem execTempSample_wf (readings : List (BitVec 16 × Bool)) (vdd : List Nat) (s : State) (hw :
    Memory.wf (memOf s) = true) : ∀ t, execTempSample readings vdd s = .next t → Memory.wf (memOf t) = true := by
  intro t h
  unfold execTempSample at h
  simp only [Host.Outcome.next.injEq] at h
  rw [← h]
  simp (maxDischargeDepth := 30) [hw]

theorem execLocalSupplyFault_wf (domain : Fin 12) (mv : Nat) (s : State) (hw :
    Memory.wf (memOf s) = true) : ∀ t, execLocalSupplyFault domain mv s = .next t → Memory.wf (memOf t) = true := by
  intro t h
  unfold execLocalSupplyFault at h
  simp only [Host.Outcome.next.injEq] at h
  rw [← h]
  simp (maxDischargeDepth := 30) [hw]

theorem execFaultLog_wf (s : State) (hw : Memory.wf (memOf s) = true) : ∀ t, execFaultLog s = .next t → Memory.wf (memOf t) = true := by
  intro t h
  unfold execFaultLog at h
  simp only [Host.Outcome.next.injEq] at h
  rw [← h]
  simp (maxDischargeDepth := 30) [hw]

theorem execFltAck_wf (a : Acc) (s : State) (hw :
    Memory.wf (memOf s) = true) : ∀ t, execFltAck a s = .next t → Memory.wf (memOf t) = true := by
  intro t h
  unfold execFltAck at h
  simp only [Host.Outcome.next.injEq] at h
  rw [← h]
  simp (maxDischargeDepth := 30) [hw]

end Sys2Proof.Machine
end

