-- ==== Sys2Proof/Laws/Records.lean ====
section
/-!
SUPPORT. For each record of the module that has a number: what is put under one number leaves the record of every other number as it is. What reads
back under the number itself stands in Laws/State.lean.
-/

namespace Sys2Proof.Machine

open Sys2Proof

theorem coreOf_setCore_ne {n m : Nat} (x : Core) (s : State) (h : m ≠ n) : coreOf (setCore n x s) m = coreOf s m := sget_sset_ne _ _ x h

theorem threadOf_setThread_ne {n m : Nat} (x : Thread) (s : State) (h : m ≠ n) : threadOf (setThread n x s) m = threadOf s m := sget_sset_ne _ _ x h

theorem semOf_setSem_ne {n m : Nat} (x : Sem) (s : State) (h : m ≠ n) : semOf (setSem n x s) m = semOf s m := sget_sset_ne _ _ x h

theorem grpOf_setGrp_ne {n m : Nat} (x : Grp) (s : State) (h : m ≠ n) : grpOf (setGrp n x s) m = grpOf s m := sget_sset_ne _ _ x h

theorem dllOf_setDll_ne {n m : Nat} (x : Dll) (s : State) (h : m ≠ n) : dllOf (setDll n x s) m = dllOf s m := sget_sset_ne _ _ x h

theorem pinOf_setPin_ne {n m : Nat} (x : Pin) (s : State) (h : m ≠ n) : pinOf (setPin n x s) m = pinOf s m := sget_sset_ne _ _ x h

theorem bankOf_setBank_ne {n m : Nat} (x : Bank) (s : State) (h : m ≠ n) : bankOf (setBank n x s) m = bankOf s m := sget_sset_ne _ _ x h

theorem groupOf_setGroup_ne {n m : Nat} (x : Group) (s : State) (h : m ≠ n) : groupOf (setGroup n x s) m = groupOf s m := sget_sset_ne _ _ x h

theorem queOf_setQue_ne {n m : Nat} (x : Que) (s : State) (h : m ≠ n) : queOf (setQue n x s) m = queOf s m := sget_sset_ne _ _ x h

theorem seamOf_setSeam_ne {n m : Nat} (x : SeamPanel) (s : State) (h : m ≠ n) : seamOf (setSeam n x s) m = seamOf s m := sget_sset_ne _ _ x h

theorem fbank_setFbank_ne {n m : Nat} (x : FlsBank) (s : State) (h : m ≠ n) : fbank (setFbank n x s) m = fbank s m := sget_sset_ne _ _ x h

theorem portOf_setPort_ne {n m : Nat} (x : QspiPort) (s : State) (h : m ≠ n) : portOf (setPort n x s) m = portOf s m := sget_sset_ne _ _ x h

theorem fnOf_setFn_ne {n m : Nat} (x : PcieFn) (s : State) (h : m ≠ n) : fnOf (setFn n x s) m = fnOf s m := sget_sset_ne _ _ x h

theorem signOf_setSign_ne {n m : Nat} (x : SignSlot) (s : State) (h : m ≠ n) : signOf (setSign n x s) m = signOf s m := sget_sset_ne _ _ x h

theorem dkeyOf_setDkey_ne {n m : Nat} (x : DkeySlot) (s : State) (h : m ≠ n) : dkeyOf (setDkey n x s) m = dkeyOf s m := sget_sset_ne _ _ x h

theorem enrolOf_setEnrol_ne {n m : Nat} (x : Enrol) (s : State) (h : m ≠ n) : enrolOf (setEnrol n x s) m = enrolOf s m := sget_sset_ne _ _ x h

theorem slotOf_setSlot_ne {n m : Nat} (x : Slot) (s : State) (h : m ≠ n) : slotOf (setSlot n x s) m = slotOf s m := sget_sset_ne _ _ x h

theorem tokenOf_setToken_ne {n m : Nat} (x : TokenSlot) (s : State) (h : m ≠ n) : tokenOf (setToken n x s) m = tokenOf s m := sget_sset_ne _ _ x h

theorem sweepOf_setSweep_ne {n m : Nat} (x : Sweep) (s : State) (h : m ≠ n) : sweepOf (setSweep n x s) m = sweepOf s m := sget_sset_ne _ _ x h

theorem wdgOf_setWdg_ne {n m : Nat} (x : Wdg) (s : State) (h : m ≠ n) : wdgOf (setWdg n x s) m = wdgOf s m := sget_sset_ne _ _ x h

@[simp] theorem planeOf_setPlane (p : Plane) (r : PlaneRec) (s : State) : planeOf (setPlane p r s) p = r := by cases p <;> rfl
theorem planeOf_setPlane_ne {p q : Plane} (r : PlaneRec) (s : State) (h : q ≠ p) : planeOf (setPlane p r s) q = planeOf s q := by
  cases p <;> cases q <;> first | rfl | exact absurd rfl h
@[simp] theorem setPlane_rg (k : Nat) (p : Plane) (r : PlaneRec) (s : State) : (setPlane p r s).rg k = s.rg k := by cases p <;> rfl

end Sys2Proof.Machine
end

