-- ==== Sys2Proof/WellFormed.lean ====
section
/-!
DEFINITION. The commands that can be: addresses within 40 bits, access sizes the buses have, the counts a sample or a token has. A command
that is not well-formed is one that nothing outside can send; its operands describe no event of the module.
-/

namespace Sys2Proof

/-- A physical address (R2, R17). -/
def addrOk (a : Nat) : Bool := decide (a < 2 ^ 40)

/-- The size of one access of a bus: 1, 2, 4 or 8 bytes. -/
def accessSize (n : Nat) : Bool := n == 1 || n == 2 || n == 4 || n == 8

/-- The distance of a register from 0x6000_0000 (R21). -/
def registerAt (off : Nat) : Bool := decide (off < 0x100000) && decide (off % 4 = 0)

/-- An access of memory: up to one line of 16 bytes. -/
def rangeOk (a n : Nat) : Bool := decide (1 ≤ n) && decide (n ≤ 16) && decide (a + n ≤ 2 ^ 40)

/-- The place of a wrong bit in the 72 bits of a word (R253, R260). -/
def eccOk : Ecc → Bool
  | .none => true
  | .single pos => decide (pos < 72)
  | .double => true

/-- A register write names an aligned word. -/
def busWriteOk (w : BusWrite) : Bool := addrOk w.addr && decide (w.addr % 4 = 0)

/-- A memory write of the same cycle. -/
def memReqOk (w : MemReq) : Bool := rangeOk w.addr w.bytes

/-- An operation of a Bobbin cycle: doorbell offsets are aligned and within the page, threads are numbered in 18 bits. -/
def bobReqOk : BobReq → Bool
  | .door _ off _ => decide (off < 4096) && decide (off % 8 = 0)
  | .makeReady _ => true
  | .cancel _ => true
  | .tcmd _ e => eccOk e
  | .objCmd _ => true
  | .timeout t => decide (t < 262144)
  | .intake => true
  | .recovery => true

/-- A request at the life-cycle engine: a transition has 11 steps (R507), a token 32 bytes (R501), a response 192 bytes (R512). -/
def lcReqOk : LcReq → Bool
  | .command _ steps _ _ => decide (steps ≤ 11)
  | .transition _ token steps _ => decide (token.length = 32) && decide (steps ≤ 11)
  | .challenge _ _ _ _ => true
  | .response body _ => decide (body.length = 192)
  | .frame _ _ => true

/-- The requests of one cycle beside that of requester `me`: each requester has one (R516). -/
def lcMeetsOk (me : Nat) (l : List LcReq) : Bool := l.all lcReqOk && decide ((me :: l.map lcRequester).Nodup)

/-- What a register write meets: a life-cycle transition has 11 steps (R507). -/
def regEnvOk (e : RegEnv) : Bool := eccOk e.ecc && decide (e.steps ≤ 11) && e.bob.all bobReqOk && e.meets.all lcReqOk

/-- The access of a register command. -/
def accOk (a : Acc) : Bool := a.others.all busWriteOk && regEnvOk a.env

/-- What an instruction meets. -/
def coreEnvOk (e : CoreEnv) : Bool := eccOk e.fetchEcc && eccOk e.nextEcc && eccOk e.dataEcc && e.others.all busWriteOk && regEnvOk e.reg

/-- What a beat meets. -/
def beatEnvOk (e : BeatEnv) : Bool := eccOk e.ecc

/-- What a host request meets. -/
def hostEnvOk (e : HostEnv) : Bool := e.reg.all regEnvOk && e.beats.all beatEnvOk && e.others.all busWriteOk

/-- What a flash descriptor meets. -/
def flashEnvOk (e : FlashEnv) : Bool := match e.eccAt with | some p => decide (p < 2 ^ 20) | none => true

/-- A request of the window bus: 1 to 16 beats (R71). -/
def winReqOk (q : WinReq) : Bool :=
  decide (1 ≤ q.beats.length) && decide (q.beats.length ≤ 16) && q.meets.all beatEnvOk && regEnvOk q.reg && q.others.all busWriteOk &&
    q.rivals.all memReqOk

/-- A load or store of 1 to 8 bytes; an F register takes 4 or 8. -/
def loadStoreOk (x : LoadStore) : Bool := decide (x.size.val ≤ 3) && (!x.fp || decide (2 ≤ x.size.val)) && coreEnvOk x.env

/-- A PCIe request: 1 to 128 DWs, aligned (R365). -/
def pcieReqOk (q : PcieReq) : Bool :=
  decide (1 ≤ q.dws.length) && decide (q.dws.length ≤ 128) && decide (q.off % 4 = 0) && addrOk q.off && q.reg.all regEnvOk &&
    q.others.all busWriteOk && q.beats.all beatEnvOk && eccOk q.ecc && q.also.all memReqOk

/-- A quad-SPI request: at most 512 words of 8 bytes and their head (R374, R377). -/
def qspiReqOk (q : QspiReq) : Bool := decide (q.body.length ≤ 4352) && hostEnvOk q.env

/-- What a debug module access meets. -/
def dmiEnvOk (e : DmiEnv) : Bool := beatEnvOk e.beat && regEnvOk e.reg && e.others.all busWriteOk

/-- What a start or a HIBERNATE wake meets: a reading of each of the 16 sensors and the supply of each of the 12 bolts and clusters (R540). -/
def startEnvOk (e : StartEnv) : Bool := decide (e.readings.length = 16) && decide (e.vdd.length = 12)

/-- A command that can be. -/
def Instr.wellFormed : Instr → Bool
  | .registerWrite a addr bytes _ => accOk a && addrOk addr && accessSize bytes
  | .stagingWrite a off _ => accOk a && registerAt off
  | .commitNow a => accOk a
  | .commitAt a => accOk a
  | .discard a => accOk a
  | .takeNow a => accOk a
  | .takeAt a => accOk a
  | .release a => accOk a
  | .softReset a _ _ => accOk a
  | .ctrlEnableWrite a _ _ => accOk a
  | .irqSet a _ _ => accOk a
  | .pageLock a _ => accOk a
  | .rd q => winReqOk q
  | .wrP q => winReqOk q
  | .wrNp q => winReqOk q
  | .amoSwap q _ => winReqOk q
  | .amoAdd q _ => winReqOk q
  | .amoCas q _ => winReqOk q
  | .targetPortAccess x => loadStoreOk x
  | .boltOff a _ => accOk a
  | .planeWrite a _ => accOk a
  | .patAbort a => accOk a
  | .planeErase a _ => accOk a
  | .swap a _ _ => accOk a
  | .swapAt a _ _ => accOk a
  | .confirm a => accOk a
  | .baste a => accOk a
  | .basAbort a => accOk a
  | .restore a => accOk a
  | .sweepFrameCheck b _ m also => eccOk m.ecc && also.all (fun r => eccOk r.meets.ecc && r.bolt != b)
      && decide ((also.map (·.bolt)).Nodup)
  | .refreshFrameCheck _ errors slots => decide (errors ≤ 4096) && decide (slots.verify ≤ 64)
  | .ovlInject a _ _ _ => accOk a
  | .instructionExecute _ env => coreEnvOk env
  | .instructionFetch _ env => coreEnvOk env
  | .loadStore x => loadStoreOk x
  | .atomicAccess _ _ _ _ _ _ env => coreEnvOk env
  | .fence _ _ _ env => coreEnvOk env
  | .fenceI _ env => coreEnvOk env
  | .wfi _ env => coreEnvOk env
  | .csrAccess _ _ _ _ _ _ env => coreEnvOk env
  | .coreStart a _ => accOk a
  | .icacheInvalidate a _ => accOk a
  | .clusterOff a _ => accOk a
  | .dbReady _ _ _ env => coreEnvOk env
  | .dbYield _ _ _ env => coreEnvOk env
  | .waitEventReady _ _ _ env => coreEnvOk env
  | .waitEventFlagsAny _ _ _ env => coreEnvOk env
  | .waitEventFlagsAll _ _ _ env => coreEnvOk env
  | .waitEventSem _ _ _ env => coreEnvOk env
  | .waitTimeout _ _ _ env => coreEnvOk env
  | .semPost _ _ _ env => coreEnvOk env
  | .flagsSet _ _ _ env => coreEnvOk env
  | .flagsClear _ _ _ env => coreEnvOk env
  | .dbSuspend _ _ _ env => coreEnvOk env
  | .dbCancel _ _ _ env => coreEnvOk env
  | .dispatch _ ecc => eccOk ecc
  | .dispatchPointSwitch _ ecc => eccOk ecc
  | .timeoutExpiry _ others => others.all bobReqOk
  | .init a _ => accOk a
  | .free a _ => accOk a
  | .read a _ => accOk a
  | .setPrio a _ => accOk a
  | .setAffinity a _ => accOk a
  | .setPin a _ => accOk a
  | .bobMakeReady a _ _ => accOk a
  | .bobCancel a _ => accOk a
  | .objRead a _ _ => accOk a
  | .objWrite a _ _ => accOk a
  | .eventIntake others => others.all bobReqOk
  | .bobBind a _ => accOk a
  | .overflowRecovery others => others.all bobReqOk
  | .sramAccess _ _ addr bytes _ also ecc => eccOk ecc && rangeOk addr bytes && also.all memReqOk
  | .dramAccess _ _ addr bytes _ also ecc => eccOk ecc && rangeOk addr bytes && also.all memReqOk
  | .patrolScrub ecc => eccOk ecc
  | .dqHeadWrite a _ => accOk a
  | .dqFetch ecc => eccOk ecc
  | .dqRun a => accOk a
  | .dqStop a => accOk a
  | .program _ env => flashEnvOk env
  | .erase _ env => flashEnvOk env
  | .blankCheck _ env => flashEnvOk env
  | .verify _ env => flashEnvOk env
  | .markBad _ env => flashEnvOk env
  | .optErase env => flashEnvOk env
  | .optProgram env => flashEnvOk env
  | .slotBegin env => flashEnvOk env
  | .slotCommit env => flashEnvOk env
  | .flashFenceDesc env => flashEnvOk env
  | .flashSuspend a _ => accOk a
  | .flashResume a _ => accOk a
  | .flashRead _ addr bytes ecc => eccOk ecc && addrOk addr && accessSize bytes
  | .quePush _ _ _ meets => beatEnvOk meets
  | .quePop _ _ meets => beatEnvOk meets
  | .quePeek _ _ meets => beatEnvOk meets
  | .mark _ _ meets => beatEnvOk meets
  | .rewind _ _ meets => beatEnvOk meets
  | .clearMark _ _ meets => beatEnvOk meets
  | .flush _ _ meets => beatEnvOk meets
  | .flushForce _ _ meets => beatEnvOk meets
  | .queueReset a _ => accOk a
  | .queCfgWrite a _ _ => accOk a
  | .queueThreshold _ lag => decide (lag ≤ 1024)
  | .pinMuxWrite a _ _ => accOk a
  | .pinOutSet a _ _ _ => accOk a
  | .pinOutClr a _ _ _ => accOk a
  | .railRetry a _ => accOk a
  | .start a _ => accOk a
  | .startAt a _ => accOk a
  | .stop a _ => accOk a
  | .halt a _ => accOk a
  | .pltTteArm a _ => accOk a
  | .pltTteCancel a _ => accOk a
  | .pnlReset a _ => accOk a
  | .pnlHold a => accOk a
  | .bar0Access q => pcieReqOk q && q.bar != .bar4
  | .bar4Access q => pcieReqOk q && q.bar == .bar4
  | .mbxInLen _ bytes len => (bytes.all fun x => decide (x.1 < 4096)) && decide (len < 4294967296)
  | .qspiRdReg q => qspiReqOk q
  | .qspiWrReg q => qspiReqOk q
  | .qPush q => qspiReqOk q
  | .qPop q => qspiReqOk q
  | .qCmd q => qspiReqOk q
  | .sSend q => qspiReqOk q
  | .sRecv q => qspiReqOk q
  | .portStatus q => qspiReqOk q
  | .wrMem q => qspiReqOk q
  | .rdMem q => qspiReqOk q
  | .relock a _ => accOk a
  | .hop a _ _ => accOk a
  | .store a _ _ => accOk a
  | .clear a _ _ => accOk a
  | .clkUpdate a _ => accOk a
  | .compareWrite a _ _ => accOk a
  | .wdgCoreKick _ _ others env => others.all busWriteOk && regEnvOk env
  | .wdgPanelKick a _ => accOk a
  | .wdgSysKick a _ => accOk a
  | .wdgSysEnable a _ _ => accOk a
  | .powerMonitorSample vin vhold _ _ _ => decide (vin ≤ 120000) && decide (vhold ≤ 120000)
  | .modeReqDoze a => accOk a
  | .modeReqNap a => accOk a
  | .modeReqHibernate a => accOk a
  | .modeReqSafe a => accOk a
  | .modeReqRun a => accOk a
  | .wakeEvent _ idx => decide (idx < 512)
  | .progSign a _ => accOk a
  | .revokeSign a _ => accOk a
  | .progDkey a _ => accOk a
  | .revokeDkey a _ => accOk a
  | .attest a => accOk a
  | .enrolWrite a _ => accOk a
  | .enrolEnable a _ => accOk a
  | .enrolDisable a _ => accOk a
  | .enrolErase a _ => accOk a
  | .enrolRead a _ => accOk a
  | .dataFrame _ env _ => hostEnvOk env
  | .sesTxCmd a _ _ => accOk a
  | .sesRxFree a _ _ => accOk a
  | .sesClose a _ => accOk a
  | .transition a _ => accOk a
  | .progToken a _ => accOk a
  | .serviceOpen a => accOk a
  | .serviceEnd a => accOk a
  | .lcTransition _ token env => regEnvOk env && decide (token.length = 32)
  | .lcResponse body _ meets => decide (body.length = 192) && lcMeetsOk 1 meets
  | .lcChallenge _ _ _ _ meets => lcMeetsOk 1 meets
  | .dmi _ _ _ env => dmiEnvOk env
  | .sliceDone _ _ cycles _ _ ue => decide (cycles < 4294967296) && (match ue with | some a => addrOk a | none => true)
  | .runOne a _ _ _ => accOk a
  | .runUnit a _ _ => accOk a
  | .abortAll a => accOk a
  | .powerOnStart e => startEnvOk e
  | .hibernateWake e => startEnvOk e
  | .tempSample readings vdd => decide (readings.length = 16) && decide (vdd.length = 12)
  | .fltAck a => accOk a
  | .flashRefreshSector _ ecc => eccOk ecc
  | .sealPoint _
  | .applyTick
  | .snapshotCapture
  | .bramGuardedRead _ _ _ _
  | .bramRepair _ _
  | .dllStep _ _
  | .dllStepDone _
  | .dllAligned _
  | .dllUnlock _
  | .globalBufferEnable _ _
  | .globalBufferSelect _ _
  | .needleEdge _
  | .paramCapture _
  | .targetPortResponse _ _ _ _
  | .targetPortTimeout _
  | .partnerFrameRx _ _ _
  | .partnerFrameTx _
  | .linkUpChange _ _
  | .planeWriteDone _
  | .swapAtStart
  | .sweepStart _
  | .regionResetRelease _
  | .sweepOverrun _
  | .refreshPassStart _
  | .overlockVoteError _
  | .writeBufferDrain _
  | .interruptTaken _
  | .mtimecmpMatch _
  | .quantumExpiry _
  | .threadCmdDone
  | .spill
  | .refill
  | .spoolSearch _
  | .spoolEccRebuild _
  | .zeroFillSegment
  | .dramRefresh
  | .dramPowerDown
  | .errorHourRollover
  | .flashOpComplete _ _ _
  | .flashRefreshPass _
  | .refreshHoldExpiry
  | .flushPoint _
  | .queueHandshakeDone _
  | .forcedReset _ _
  | .pinInputChange _ _ _
  | .pinMismatch _ _ _ _
  | .bankRailFault _
  | .pleatStartTime _
  | .pleatSlotBoundary _
  | .pleatSample _
  | .pleatFrameEnd _
  | .tteFire _
  | .pcieConfigAccess _ _ _ _
  | .mbxOutDone _ _
  | .flr _
  | .perst _ _
  | .linkDown
  | .linkUp _ _
  | .qspiAbort _
  | .updateDone _
  | .pllLock _
  | .lockLost _ _
  | .refLost _ _
  | .refRestored _ _
  | .lockTimeout _
  | .xoReady _
  | .rcFallback _
  | .xo32Fail
  | .timNowRead _ _
  | .steerEnd
  | .compareMatch _
  | .wdgWarn _
  | .coreWdgExpiry _ _
  | .panelWdgExpiry _ _
  | .sysWdgExpiry _
  | .moduleReset
  | .railStartFail _
  | .resetN _
  | .brownOut
  | .hibernateBrownOut
  | .overvolt
  | .ilimit
  | .railOutOfWindow _
  | .vholdOk _
  | .vholdAbsent _
  | .phaseAdd _
  | .phaseShed _
  | .overBudget
  | .aonBrownOut
  | .dozeEntry
  | .dozeWake
  | .napEntry
  | .napWake
  | .hibernateEntry
  | .hibernateWakeRetry _
  | .timedWake
  | .wakeAtReached
  | .hello _ _
  | .finish _ _
  | .alert _
  | .handshakeTimeout _
  | .sessionIdle _
  | .idcode
  | .samplePreload _
  | .extest _
  | .clamp
  | .highz
  | .lcStatus
  | .dtmcs
  | .bypass
  | .trstN
  | .challengeExpiry
  | .grantExpiry
  | .sliceStart
  | .roundStart
  | .windowOpen
  | .windowClose
  | .localSupplyFault _ _
  | .faultLog
  | .tick
  | .alwaysOnTick
  | .selvagePowerLoss
  | .msixTableWrite _ _ _
  | .aerError _ _ _ => true

end Sys2Proof
end

