-- ==== Sys2Proof/Tests/Slice0.lean ====
section
/-!
SUPPORT. The tests: an ill-formed command for each check of WellFormed, single steps whose results the spec gives (its worked examples and
rules), and for each statement with hypotheses a state and operands that meet them, clause by clause.
-/

set_option maxRecDepth 100000
set_option Elab.async false

namespace Sys2Proof.Machine

open Sys2Proof

/-- A register access that stands alone. -/
def acc (i : Initiator) : Acc := ⟨i, [], .calm⟩
/-- An access of the Thimble, which owner rules and grants do not bar. -/
def inner : Acc := acc .thimble
/-- A start at which every sensor reads 25 C and every monitor its nominal voltage. -/
def startEnv : StartEnv :=
  ⟨(0, 0, 0), 0, false, 0, 0, true, false, false, true, 0, false, 0, List.replicate 16 (2500, false), List.replicate 12 800⟩
/-- The state after reset, in RUN. -/
def runS : State := { State.reset with mode := .run }
/-- In RUN, with core 0 as given. -/
def withCore (k : Core) : State := { runS with cores := [(0, k)] }
def core0 : Core := { Core.reset with started := true }
def coreS : State := withCore core0
/-- A plane with nothing in it that is VALID and reads as it was written. -/
def wholePlane : PlaneRec := { PlaneRec.reset with st := .valid, frameCrc := frameCrc (BitVec.allOnes 128) [] }
theorem wholePlane_reads : planeReads wholePlane = true := by
  simp [planeReads, wholePlane, PlaneRec.reset]
/-- The bytes of a number at an address of SRAM, the zeros left out. -/
def cellsAt (a : Nat) (l : List Nat) : List Host.Cell :=
  (l.zipIdx.filter fun x => x.1 ≠ 0).map fun x => ⟨a + x.2, BitVec.ofNat 8 x.1⟩
/-- RUN, with a Zenwick header at 0x20000000 that only its keys and its signature could still refuse. -/
def imgS (kind mask frames : Nat) : State :=
  let hdr := (natLe 0x5A574B31 4 ++ natLe 0x0100 2 ++ natLe 0x0200 2 ++ natLe 0x6480 2 ++ [0, BitVec.ofNat 8 kind]
    ++ List.replicate 0x34 0 ++ natLe mask 16 ++ natLe frames 4 ++ natLe 8 4).map (fun x : Byte => x.toNat)
  { ((((runS.wrg Reg.PAT_SRC_LEN 0x1000).wrg64 Reg.PAT_SRC_ADDR 0x20000000).wrg Reg.BAS_SRC_LEN 0x1000).wrg64 Reg.BAS_SRC_ADDR 0x20000000) with
    mem := cellsAt 0x20000000 hdr, thm := { runS.thm with sign := [(0, { SignSlot.reset with programmed := true, digest := Config.sha384 (List.replicate 96 0) })] } }
/-- In a refresh pass at a weak sector of bank 0, which has one spare left. -/
def spareS : State := { runS with fls := { Fls.reset with rfOn := true, weak := [0], dead := (List.range 15).map (1024 + ·) } }
theorem pickSpare_last : pickSpare spareS.bump (spareS.fls.rfUnit / 128) = some 1039 := by
  have h : freeSpares spareS.bump (spareS.fls.rfUnit / 128) = 1 := by decide +kernel
  rw [pickSpare, h, show ∀ s : State, s.freeBelow 1 = 0 from fun s => by simp [State.freeBelow, Nat.mod_one]]
  decide +kernel

/-! ### Well-formed commands: one ill-formed term for each check -/

def env0 : RegEnv := .calm
def badEcc : RegEnv := { env0 with ecc := .single 72 }
def coreWith (e : RegEnv) : CoreEnv := { CoreEnv.calm with reg := e }
def load0 : LoadStore := ⟨0, false, 2, true, false, 5, 6, 0, false, .calm⟩
def pcie0 : PcieReq := ⟨0, .bar0, 0, .read, [(15, 0)], false, [], [], [], .none, []⟩
def win0 : WinReq := ⟨0, none, 0, 0x20000000, [⟨0xFF, 0⟩], [], .calm, [], []⟩
def spi0 : QspiReq := ⟨0, none, 0, 0, [], .calm⟩
def oddWrite : BusWrite := ⟨.fitting, 0x60000002, 0⟩
def farWrite : BusWrite := ⟨.fitting, 2 ^ 40, 0⟩
def flash0 : FlashEnv := ⟨none, false, true, []⟩
def dmi0 : DmiEnv := ⟨.calm, none, .calm, []⟩

theorem wf_accepts :
    [Instr.registerWrite inner 0x60000040 4 0, .rd win0, .loadStore load0, .bar0Access pcie0, .qspiRdReg spi0, .program 0 flash0,
      .dmi 1 0 0 dmi0, .tick].all Instr.wellFormed = true := by decide +kernel

theorem wf_register_write :
    (Instr.registerWrite inner (2 ^ 40) 4 0).wellFormed = false ∧ (Instr.registerWrite inner 0x60000040 3 0).wellFormed = false
      ∧ (Instr.stagingWrite inner 0x100000 0).wellFormed = false ∧ (Instr.stagingWrite inner 0x8046 0).wellFormed = false := by
  decide +kernel

theorem wf_access :
    (Instr.commitNow { inner with others := [oddWrite] }).wellFormed = false
      ∧ (Instr.commitNow { inner with others := [farWrite] }).wellFormed = false
      ∧ (Instr.commitNow { inner with env := badEcc }).wellFormed = false
      ∧ (Instr.commitNow { inner with env := { env0 with steps := 12 } }).wellFormed = false := by decide +kernel

theorem wf_bobbin_cycle :
    (Instr.eventIntake [.door 0 4096 0]).wellFormed = false ∧ (Instr.eventIntake [.door 0 4 0]).wellFormed = false
      ∧ (Instr.eventIntake [.tcmd 0 (.single 72)]).wellFormed = false ∧ (Instr.eventIntake [.timeout 262144]).wellFormed = false
      ∧ (Instr.commitNow { inner with env := { env0 with bob := [.timeout 262144] } }).wellFormed = false := by decide +kernel

theorem wf_core :
    (Instr.wfi 0 { CoreEnv.calm with fetchEcc := .single 72 }).wellFormed = false
      ∧ (Instr.wfi 0 { CoreEnv.calm with nextEcc := .single 72 }).wellFormed = false
      ∧ (Instr.wfi 0 { CoreEnv.calm with dataEcc := .single 72 }).wellFormed = false
      ∧ (Instr.wfi 0 { CoreEnv.calm with others := [oddWrite] }).wellFormed = false
      ∧ (Instr.wfi 0 (coreWith badEcc)).wellFormed = false
      ∧ (Instr.loadStore { load0 with fp := true, size := 1 }).wellFormed = false
      ∧ (Instr.loadStore { load0 with env := coreWith badEcc }).wellFormed = false := by decide +kernel

theorem wf_memory :
    (Instr.sramAccess .thimble .read 0x20000000 0 0 [] .none).wellFormed = false
      ∧ (Instr.sramAccess .thimble .read 0x20000000 17 0 [] .none).wellFormed = false
      ∧ (Instr.sramAccess .thimble .read (2 ^ 40) 8 0 [] .none).wellFormed = false
      ∧ (Instr.sramAccess .thimble .read 0x20000000 8 0 [] (.single 72)).wellFormed = false
      ∧ (Instr.sramAccess .thimble .read 0x20000000 8 0 [⟨.fitting, .write, 0, 0, 0⟩] .none).wellFormed = false
      ∧ (Instr.flashRead .thimble 0 3 .none).wellFormed = false
      ∧ (Instr.program 0 { flash0 with eccAt := some (2 ^ 20) }).wellFormed = false
      ∧ (Instr.refreshFrameCheck false 4097 ⟨0, false⟩).wellFormed = false ∧ (Instr.refreshFrameCheck false 0 ⟨65, false⟩).wellFormed = false
      ∧ (Instr.flashRefreshSector false (.single 72)).wellFormed = false ∧ (Instr.patrolScrub (.single 72)).wellFormed = false ∧ (Instr.queueThreshold 0 1025).wellFormed = false
      ∧ (Instr.quePop .thimble 0 ⟨0, [], .single 72⟩).wellFormed = false := by decide +kernel

theorem wf_window :
    (Instr.rd { win0 with beats := [] }).wellFormed = false
      ∧ (Instr.rd { win0 with beats := List.replicate 17 ⟨0, 0⟩ }).wellFormed = false
      ∧ (Instr.rd { win0 with meets := [⟨0, [], .single 72⟩] }).wellFormed = false
      ∧ (Instr.rd { win0 with reg := badEcc }).wellFormed = false ∧ (Instr.rd { win0 with others := [oddWrite] }).wellFormed = false
      ∧ (Instr.rd { win0 with rivals := [⟨.fitting, .read, 0, 17, 0⟩] }).wellFormed = false := by
  decide +kernel

theorem wf_pcie :
    (Instr.bar0Access { pcie0 with bar := .bar4 }).wellFormed = false ∧ (Instr.bar4Access pcie0).wellFormed = false
      ∧ (Instr.bar0Access { pcie0 with dws := [] }).wellFormed = false
      ∧ (Instr.bar0Access { pcie0 with dws := List.replicate 129 (15, 0) }).wellFormed = false
      ∧ (Instr.bar0Access { pcie0 with off := 2 }).wellFormed = false ∧ (Instr.bar0Access { pcie0 with off := 2 ^ 40 }).wellFormed = false
      ∧ (Instr.bar0Access { pcie0 with reg := [badEcc] }).wellFormed = false
      ∧ (Instr.bar0Access { pcie0 with others := [oddWrite] }).wellFormed = false
      ∧ (Instr.bar0Access { pcie0 with beats := [⟨0, [], .single 72⟩] }).wellFormed = false
      ∧ (Instr.bar0Access { pcie0 with ecc := .single 72 }).wellFormed = false
      ∧ (Instr.bar0Access { pcie0 with also := [⟨.fitting, .read, 0, 0, 0⟩] }).wellFormed = false
      ∧ (Instr.mbxInLen 0 [(4096, 0)] 16).wellFormed = false ∧ (Instr.mbxInLen 0 [] (2 ^ 32)).wellFormed = false := by decide +kernel

theorem wf_serial_and_debug :
    (Instr.qspiRdReg { spi0 with body := List.replicate 4353 0 }).wellFormed = false
      ∧ (Instr.qspiRdReg { spi0 with env := ⟨[badEcc], [], []⟩ }).wellFormed = false
      ∧ (Instr.qspiRdReg { spi0 with env := ⟨[], [⟨0, [], .single 72⟩], []⟩ }).wellFormed = false
      ∧ (Instr.dataFrame 0 ⟨[], [], [oddWrite]⟩ false).wellFormed = false
      ∧ (Instr.dmi 1 0 0 { dmi0 with beat := ⟨0, [], .single 72⟩ }).wellFormed = false
      ∧ (Instr.dmi 1 0 0 { dmi0 with reg := badEcc }).wellFormed = false
      ∧ (Instr.dmi 1 0 0 { dmi0 with others := [oddWrite] }).wellFormed = false
      ∧ (Instr.lcTransition 0 (List.replicate 31 0) .calm).wellFormed = false
      ∧ (Instr.lcTransition 0 (List.replicate 32 0) badEcc).wellFormed = false
      ∧ (Instr.lcResponse (List.replicate 191 0) false []).wellFormed = false := by decide +kernel

theorem wf_life_cycle :
    (Instr.lcChallenge 0 0 1 1 [.command 0 12 0 false]).wellFormed = false
      ∧ (Instr.lcChallenge 0 0 1 1 [.transition 0 [] 0 0]).wellFormed = false
      ∧ (Instr.lcChallenge 0 0 1 1 [.frame 0 false, .frame 1 false]).wellFormed = false
      ∧ (Instr.lcChallenge 0 0 1 1 [.challenge 0 0 1 1]).wellFormed = false
      ∧ (Instr.lcResponse (List.replicate 192 0) false [.response [] false]).wellFormed = false := by decide +kernel

theorem wf_overlock :
    (Instr.sweepFrameCheck 0 [] ⟨.single 72, [], none⟩ []).wellFormed = false
      ∧ (Instr.sweepFrameCheck 0 [] ⟨.none, [], none⟩ [⟨1, [], ⟨.single 72, [], none⟩⟩]).wellFormed = false
      ∧ (Instr.sweepFrameCheck 0 [] ⟨.none, [], none⟩ [⟨0, [], ⟨.none, [], none⟩⟩]).wellFormed = false
      ∧ (Instr.sweepFrameCheck 0 [] ⟨.none, [], none⟩ [⟨1, [], ⟨.none, [], none⟩⟩, ⟨1, [], ⟨.none, [], none⟩⟩]).wellFormed = false := by
  decide +kernel

theorem wf_starts :
    (Instr.powerOnStart { startEnv with readings := [] }).wellFormed = false ∧ (Instr.powerOnStart { startEnv with vdd := [] }).wellFormed = false
      ∧ (Instr.hibernateWake { startEnv with readings := [] }).wellFormed = false
      ∧ (Instr.hibernateWake { startEnv with vdd := [] }).wellFormed = false := by decide +kernel

theorem wf_sampled :
    (Instr.wdgCoreKick 0 0 [oddWrite] .calm).wellFormed = false ∧ (Instr.wdgCoreKick 0 0 [] badEcc).wellFormed = false
      ∧ (Instr.powerMonitorSample 120001 0 0 0 false).wellFormed = false
      ∧ (Instr.powerMonitorSample 0 120001 0 0 false).wellFormed = false ∧ (Instr.wakeEvent 0 512).wellFormed = false
      ∧ (Instr.tempSample [] (List.replicate 12 0)).wellFormed = false
      ∧ (Instr.tempSample (List.replicate 16 (0, true)) []).wellFormed = false
      ∧ (Instr.sliceDone 0 0 (2 ^ 32) 0 false none).wellFormed = false
      ∧ (Instr.sliceDone 0 0 0 0 false (some (2 ^ 40))).wellFormed = false := by decide +kernel

/-! ### Single steps -/

/-- The state a command leaves. -/
def nxt (c : Instr) (s : State) : State := match exec c s with | .next t => t | _ => State.reset

/-- An empty queue: the block idles (log entry 1). -/
theorem test_idle : step State.reset = .next State.reset := rfl

/-- R18, R21: page 0x07 is not assigned, so the write answers DECODE. -/
theorem test_unassigned_page : (nxt (.registerWrite inner 0x60007040 4 1) runS).ans.rsp = .decode := by decide +kernel

/-- R7: a register access that is not one aligned word answers ACCESS. -/
theorem test_halfword_write : (nxt (.registerWrite inner 0x60008048 2 1) runS).ans.rsp = .access := by decide +kernel

/-- The worked example of 01_address_map_and_seam.md: the apply tick of two staged output registers of panel 1, SEAM_GEN 0x417 before. -/
theorem test_apply_tick :
    let s := nxt .applyTick { (runS.wrg64 Reg.TIM_NOW 80000500000).wrg Reg.SEAM_GEN 0x417 with
      shadow := [(0x32040, some (1, 0xFFF)), (0x33040, some (1, 0xFFF))],
      seam := [(1, { SeamPanel.reset with commit := some ⟨true, 80000500000, true, false, false⟩ })] }
    s.rg Reg.SEAM_GEN = 0x418 ∧ s.rg (sb 1 Reg.SEAM_RESULT) = 0x04180001 ∧ s.rg64 (sb 1 Reg.SEAM_EPOCH_TIME) = 0x12A066C120 := by
  decide +kernel

/-- The worked example of 08_bobbin_events_and_spool.md: a READY of core 3 and a CANCEL of core 9 meet on thread 0x106, base 4. -/
theorem test_ready_meets_cancel :
    let run : Thread := { Thread.reset with st := .running }
    let s : State := { runS with
      cores := [(3, { core0 with thread := some 3 }), (9, { core0 with thread := some 9 })],
      bob := { Bob.reset with
        abase := 4
        threads := [(3, run), (9, run), (0x106, { Thread.reset with st := .waiting, reason := 1, timer := some (0, 500000) })] } }
    let t := nxt (.dbReady 3 0x106 false { CoreEnv.calm with reg := { RegEnv.calm with bob := [.door 9 0x30 0x106] } }) s
    (regRead .thimble Reg.BOB_ARB t).2.2 = 0x00106149 ∧ t.rg Reg.BOB_ARB_LOSERS = 8 ∧ (coreOf t 9).ctx.dbResult = 0x40000
      ∧ (coreOf t 3).ctx.dbResult = 0x60005 ∧ t.rg Reg.BOB_DISCARD_CNT = 1 := by decide +kernel

/-- The worked example of 16_time_base_and_watchdogs.md: 50,000 always-on ticks after t0 = 5,000,000,123. -/
theorem test_rebuilt_time : rebuiltAt (5000000123, 0, 0) 50000 = (6525879029, 0x40000000) := by decide +kernel

/-- The worked example of 15_clocks.md: a HOP of PLL4 from the 2,359.296 MHz plan with D = 8 active to 2,000 MHz with D = 8 starts
with S = 2. -/
theorem test_hop_slows :
    let t := nxt (.hop inner 4 1) { runS with
      clk := { Clk.reset with
        xoReady := true
        plls := [(4, { Pll.reset with
          st := 3
          act := ⟨0, 1, 94, 0x5F30E8, 0, [(true, 0, 12)]⟩
          entries := [(1, ⟨⟨0, 1, 80, 0, 0, [(true, 0, 8)]⟩, 0, 0⟩)] })] } }
    (pllOf t 4).slow = 2 ∧ (pllOf t 4).st = 2 := by decide +kernel

/-- The worked example of 12_pins.md: at the apply tick PIN_OUT, PIN_OE and PIN_MUX12 of bank 3 take their staged values. -/
theorem test_mux_takeover :
    let t := nxt .applyTick { runS with
      shadow := [(Reg.PIN_OUT 3, some (0, 0x1000)), (Reg.PIN_OE 3, some (0, 0x1000)), (Reg.PIN_MUX_NEXT 3 12, some (0, 0x80000001))],
      seam := [(0, { SeamPanel.reset with commit := some ⟨false, 0, true, false, false⟩ })] }
    t.rg (muxReg 132) = 1 ∧ t.rg (Reg.PIN_OUT 3) = 0x1000 ∧ t.rg (Reg.PIN_OE 3) = 0x1000 := by decide +kernel

/-- ADDI x1, x1, -1 (0xFFF0_8093) executed from SRAM: x1 wraps, the pc moves past the instruction (R168). -/
theorem test_addi_wraps :
    let s : State := { withCore { core0 with ctx := { Ctx.reset with pc := 0x20000000 } } with
      mem := [⟨0x20000000, 0x93⟩, ⟨0x20000001, 0x80⟩, ⟨0x20000002, 0xF0⟩, ⟨0x20000003, 0xFF⟩] }
    let t := nxt (.instructionExecute 0 .calm) s
    (coreOf t 0).ctx.x = [(1, 0xFFFFFFFFFFFFFFFF)] ∧ (coreOf t 0).ctx.pc = 0x20000004 := by decide +kernel

/-- R409, R411, with PLL1 at 3 GHz and D = 12: ticks fall every 4 ns. -/
theorem test_tick_4_ns :
    (nxt .tick { runS with clk := { Clk.reset with xoReady := true, plls := [(1, { Pll.reset with
      st := 3
      act := ⟨0, 1, 120, 0, 0, [(true, 0, 12)]⟩ })] } }).now = 4 := by decide +kernel

/-- R504, R507: MANUFACTURE to SCRAP needs no token; it takes one transition record and the module passes through HOLD (R506). -/
theorem test_scrap :
    let t := nxt (.transition inner 0x13) runS
    t.lcs.records.length = 1 ∧ t.mode = .hold := by decide +kernel

/-- R420: a kick of the system watchdog with a value other than 0xA55A raises fault 0x0604. -/
theorem test_bad_kick :
    (nxt (.wdgSysKick inner 0x1234) { runS.wrg (wdgCfg 24) 0x80000000 with
      tim := { Tim.reset with wdg := [(24, { Wdg.reset with timeout := 8 })] } }).flt.intake.map (·.code) = [0x0604] := by
  decide +kernel

/-- R301, R306: a FIRST word pushed into a queue is stored and opens a packet of the requester. -/
theorem test_push_first :
    let t := nxt (.quePush (.core 0) 0 0x2000000000000005 .calm) (coreS.wrg (Reg.QUE_CFG 0) 0x80000000)
    (queOf t 0).ram = [(0, 0x2000000000000005)] ∧ (queOf t 0).wptr = 1 ∧ (queOf t 0).owner = some 0 := by decide +kernel

/-- R17: a little-endian word stored in SRAM by Thimble. -/
theorem test_sram_bytes :
    (nxt (.sramAccess .thimble .write 0x20000000 2 0x1234 [] .none) runS).mem = [⟨0x20000000, 0x34⟩, ⟨0x20000001, 0x12⟩] := by
  decide +kernel

/-- R45: with propagate a xor b and generate a, a slice's chain adds: 0x5A + 0x33. -/
theorem test_carry_adds : (carryByte false (0x5A ^^^ 0x33) 0x5A).1 = 0x8D := by decide +kernel

/-- R59: two lanes of 24 bits: the carry of the lower lane shows as its carry-out and does not reach the upper. -/
theorem test_lanes : laneSum .two 0x000005FFFFFF 0x000001000001 false = (0x000006000000, 1) := by decide +kernel

/-! ### The hypotheses of the statements can be met -/

/-- The hypotheses of StepRunsTheFrontCommand are met, clause by clause. -/
theorem wit_StepRunsTheFrontCommand :
    (∃ (s : State) (c : Instr) (rest : List Instr),
      s.pending = c :: rest) ∧
    (∃ (s : State),
      s.pending = []) :=
  ⟨⟨{ State.reset with pending := [.tick] }, .tick, [],
    by decide +kernel⟩,
   ⟨State.reset,
    by decide +kernel⟩⟩

/-- The hypotheses of ResetState are met, clause by clause. -/
theorem wit_ResetState :
    (∃ (page : Fin 256) (k : Page),
      pageOf ↑page = some k) :=
  ⟨0, .seam,
    by decide +kernel⟩

/-- The hypotheses of StepKeepsMemoryCanonical are met, clause by clause. -/
theorem wit_StepKeepsMemoryCanonical :
    (∃ (s : State) (t : State),
      step s = Host.Outcome.next t ∧ s.memOk = true) :=
  ⟨State.reset, _,
    rfl, by decide +kernel⟩

/-- The hypotheses of CommandsThatStoreNothing are met, clause by clause. -/
theorem wit_CommandsThatStoreNothing :
    (∃ (c : Instr) (s : State) (t : State),
      exec c s = Host.Outcome.next t ∧ storesNothing c = true) :=
  ⟨.idcode, State.reset, _,
    rfl, by decide +kernel⟩

/-- The hypotheses of FixedControlRegisters are met, clause by clause. -/
theorem wit_FixedControlRegisters :
    (∃ (page : Fin 256) (k : Page) (s : State) (a : Acc),
      pageOf ↑page = some k ∧ k ∈ [Page.seam, Page.pnl, Page.aon, Page.pwr, Page.clk, Page.tim, Page.thm, Page.lcs, Page.flt] ∧ regFree a (↑page * 4096 + 12) s = true) ∧
    (∃ (page : Fin 256) (k : Page) (s : State) (i : Initiator),
      pageOf ↑page = some k ∧ k ∈ [Page.seam, Page.pnl, Page.aon, Page.pwr, Page.clk, Page.tim, Page.thm, Page.lcs, Page.flt] ∧ heldWord s (panelFor s i) (↑page * 4096 + 12) = none) :=
  ⟨⟨0, .seam, State.reset, inner,
    by decide +kernel⟩,
   ⟨0, .seam, State.reset, .thimble,
    by decide +kernel⟩⟩

/-- The hypotheses of LockFreezesThePage are met, clause by clause. -/
theorem wit_LockFreezesThePage :
    (∃ (a : Acc) (page : Fin 256) (k : Page) (s : State) (free : Nat → Prop) (off : Nat),
      (∀ (off : Nat), free off ↔ wayFree a.init 2 (1610612736 + off) 4 s = true) ∧ pageOf ↑page = some k ∧ sends s a.init = true ∧ hostBarred s a.init = false ∧ busRivals a s = [] ∧ reachesPages a.init = true ∧ off / 4096 = ↑page ∧ off % 4 = 0 ∧ free off ∧ isLocked s ↑page = true ∧ freezes k (off % 4096) = true) ∧
    (∃ (a : Acc) (page : Fin 256) (k : Page) (s : State) (free : Nat → Prop),
      (∀ (off : Nat), free off ↔ wayFree a.init 2 (1610612736 + off) 4 s = true) ∧ pageOf ↑page = some k ∧ sends s a.init = true ∧ hostBarred s a.init = false ∧ busRivals a s = [] ∧ reachesPages a.init = true ∧ ownerLets a.init (↑page * 4096 + 16) s = true ∧ free (↑page * 4096 + 16)) ∧
    (∃ (a : Acc) (page : Fin 256) (k : Page) (s : State) (free : Nat → Prop),
      (∀ (off : Nat), free off ↔ wayFree a.init 2 (1610612736 + off) 4 s = true) ∧ pageOf ↑page = some k ∧ sends s a.init = true ∧ hostBarred s a.init = false ∧ busRivals a s = [] ∧ reachesPages a.init = true ∧ ownerLets a.init (↑page * 4096 + 16) s = true ∧ free (↑page * 4096 + 20)) ∧
    (∃ (a : Acc) (page : Fin 256) (k : Page) (s : State) (free : Nat → Prop),
      (∀ (off : Nat), free off ↔ wayFree a.init 2 (1610612736 + off) 4 s = true) ∧ pageOf ↑page = some k ∧ sends s a.init = true ∧ hostBarred s a.init = false ∧ busRivals a s = [] ∧ reachesPages a.init = true ∧ free (↑page * 4096 + 36) ∧ ownerLets a.init (↑page * 4096 + 36) s = true) ∧
    (∃ (a : Acc) (page : Fin 256) (k : Page) (s : State) (free : Nat → Prop),
      (∀ (off : Nat), free off ↔ wayFree a.init 2 (1610612736 + off) 4 s = true) ∧ pageOf ↑page = some k ∧ sends s a.init = true ∧ hostBarred s a.init = false ∧ busRivals a s = [] ∧ reachesPages a.init = true ∧ free (↑page * 4096 + 36) ∧ ownerLets a.init (↑page * 4096 + 36) s = false) :=
  ⟨⟨inner, 8, .pat, runS.wrg 0x8024 1, _, 0x800C,
    fun _ => Iff.rfl, by decide +kernel⟩,
   ⟨inner, 0, .seam, State.reset, _,
    fun _ => Iff.rfl, by decide +kernel⟩,
   ⟨inner, 0, .seam, State.reset, _,
    fun _ => Iff.rfl, by decide +kernel⟩,
   ⟨inner, 0, .seam, State.reset, _,
    fun _ => Iff.rfl, by decide +kernel⟩,
   ⟨acc (.core 0), 8, .pat, coreS.wrg (Reg.PNL_OWN 2) 0x81, _,
    fun _ => Iff.rfl, by decide +kernel⟩⟩

/-- The hypotheses of OwnershipOfPages are met, clause by clause. -/
theorem wit_OwnershipOfPages :
    (∃ (off : Nat) (k : Page),
      pageOf (off / 4096) = some k) ∧
    (∃ (off : Nat) (k : Page) (s : State) (a : Acc) (q : Nat),
      pageOf (off / 4096) = some k ∧ sends s a.init = true ∧ hostBarred s a.init = false ∧ busRivals a s = [] ∧ reachesPages a.init = true ∧ wayFree a.init 2 (1610612736 + off) 4 s = true ∧ off % 4 = 0 ∧ ownerExempt a.init = false ∧ selfRegister off = false ∧ ownerOf s (off / 4096) = some q ∧ q ≠ accPanel a s) ∧
    (∃ (off : Nat) (k : Page) (s : State) (a : Acc),
      pageOf (off / 4096) = some k ∧ sends s a.init = true ∧ hostBarred s a.init = false ∧ busRivals a s = [] ∧ reachesPages a.init = true ∧ wayFree a.init 2 (1610612736 + off) 4 s = true ∧ a.init ≠ Initiator.debugUnit ∧ isLocked s (off / 4096) = false ∧ (ownerOf s (off / 4096) = none ∨ ownerOf s (off / 4096) = some (accPanel a s))) :=
  ⟨⟨0, .seam,
    by decide +kernel⟩,
   ⟨0x8044, .pat, coreS.wrg (Reg.PNL_OWN 2) 0x81, acc (.core 0), 1,
    by decide +kernel⟩,
   ⟨0, .seam, State.reset, inner,
    by decide +kernel⟩⟩

/-- The hypotheses of EmptyCommit are met, clause by clause. -/
theorem wit_EmptyCommit :
    (∃ (a : Acc) (s : State),
      regFree a 64 s = true ∧ stagedBy s (accPanel a s) = [] ∧ (seamOf s (accPanel a s)).commit = none) :=
  ⟨inner, State.reset,
    by decide +kernel⟩

/-- The hypotheses of StagedValuesApplyTogether are met, clause by clause. -/
theorem wit_StagedValuesApplyTogether :
    (∃ (s : State) (p : Nat) (gen : Nat) (off : Nat) (v : Word),
      (List.map (fun x => x.fst) (stagedBy s p)).Nodup ∧ gen < 2 ^ 32 ∧ (off, v) ∈ stagedBy s p ∧ (45312 ≤ off ∧ off < 45568 ∨ 247808 ≤ off ∧ off < 249856) ∧ off % 4 = 0) :=
  ⟨{ runS with shadow := [(0xB100, some (0, 5))] }, 0, 0, 0xB100, 5,
    by decide +kernel⟩

/-- The hypotheses of ReadyActsOnItsThread are met, clause by clause. -/
theorem wit_ReadyActsOnItsThread :
    (∃ (t : Nat) (origin : Nat) (resume : Bool) (s : State) (x : Thread) (u : State) (code : Nat),
      x = threadOf s t ∧ u = (deliver t resume origin s).fst ∧ code = (deliver t resume origin s).snd.fst ∧ x.st = TState.unused) ∧
    (∃ (t : Nat) (origin : Nat) (resume : Bool) (s : State) (x : Thread) (u : State) (code : Nat),
      x = threadOf s t ∧ u = (deliver t resume origin s).fst ∧ code = (deliver t resume origin s).snd.fst ∧ x.st = TState.dormant) ∧
    (∃ (t : Nat) (origin : Nat) (resume : Bool) (s : State) (x : Thread) (u : State) (code : Nat),
      x = threadOf s t ∧ u = (deliver t resume origin s).fst ∧ code = (deliver t resume origin s).snd.fst ∧ (x.st = TState.ready ∨ x.st = TState.running)) ∧
    (∃ (t : Nat) (origin : Nat) (resume : Bool) (s : State) (x : Thread) (u : State) (code : Nat),
      x = threadOf s t ∧ u = (deliver t resume origin s).fst ∧ code = (deliver t resume origin s).snd.fst ∧ x.st = TState.waiting ∧ (x.reason = 1 ∨ x.reason = 4)) ∧
    (∃ (t : Nat) (origin : Nat) (resume : Bool) (s : State) (x : Thread) (u : State) (code : Nat),
      x = threadOf s t ∧ u = (deliver t resume origin s).fst ∧ code = (deliver t resume origin s).snd.fst ∧ x.st = TState.waiting ∧ (x.reason = 2 ∨ x.reason = 3)) ∧
    (∃ (t : Nat) (origin : Nat) (resume : Bool) (s : State) (x : Thread) (u : State) (code : Nat),
      x = threadOf s t ∧ u = (deliver t resume origin s).fst ∧ code = (deliver t resume origin s).snd.fst ∧ x.st = TState.waiting ∧ x.reason = 5) ∧
    (∃ (t : Nat) (origin : Nat) (resume : Bool) (s : State) (x : Thread) (u : State) (code : Nat),
      x = threadOf s t ∧ u = (deliver t resume origin s).fst ∧ code = (deliver t resume origin s).snd.fst ∧ x.st = TState.suspended ∧ resume = false) ∧
    (∃ (t : Nat) (origin : Nat) (resume : Bool) (s : State) (x : Thread) (u : State) (code : Nat),
      x = threadOf s t ∧ u = (deliver t resume origin s).fst ∧ code = (deliver t resume origin s).snd.fst ∧ x.st = TState.cancelled) :=
  ⟨⟨0, 0, false, State.reset, _, _, _,
    rfl, rfl, rfl, by decide +kernel⟩,
   ⟨0, 0, false, { runS with bob := { runS.bob with threads := [(0, { Thread.reset with st := .dormant, reason := 0 })] } }, _, _, _,
    rfl, rfl, rfl, by decide +kernel⟩,
   ⟨0, 0, false, { runS with bob := { runS.bob with threads := [(0, { Thread.reset with st := .ready, reason := 0 })] } }, _, _, _,
    rfl, rfl, rfl, by decide +kernel⟩,
   ⟨0, 0, false, { runS with bob := { runS.bob with threads := [(0, { Thread.reset with st := .waiting, reason := 1 })] } }, _, _, _,
    rfl, rfl, rfl, by decide +kernel⟩,
   ⟨0, 0, false, { runS with bob := { runS.bob with threads := [(0, { Thread.reset with st := .waiting, reason := 2 })] } }, _, _, _,
    rfl, rfl, rfl, by decide +kernel⟩,
   ⟨0, 0, false, { runS with bob := { runS.bob with threads := [(0, { Thread.reset with st := .waiting, reason := 5 })] } }, _, _, _,
    rfl, rfl, rfl, by decide +kernel⟩,
   ⟨0, 0, false, { runS with bob := { runS.bob with threads := [(0, { Thread.reset with st := .suspended, reason := 0 })] } }, _, _, _,
    rfl, rfl, rfl, by decide +kernel⟩,
   ⟨0, 0, false, { runS with bob := { runS.bob with threads := [(0, { Thread.reset with st := .cancelled, reason := 0 })] } }, _, _, _,
    rfl, rfl, rfl, by decide +kernel⟩⟩

/-- The hypotheses of RepeatedRequestsNotExecuted are met, clause by clause. -/
theorem wit_RepeatedRequestsNotExecuted :
    (∃ (q : QspiReq) (s : State) (k : Kept) (opc : Nat) (c : Instr),
      qspiOn s ↑q.port = true ∧ (portOf s ↑q.port).kept = some k ∧ k.tag = q.tag.toNat ∧ k.crc = q.crc ∧ q.crc = reqCrc (opcodeOf opc q) q.tag.toNat q.body ∧ (opc, c) ∈ [(1, Instr.qspiRdReg q), (2, Instr.qspiWrReg q), (3, Instr.qPush q), (4, Instr.qPop q), (5, Instr.qCmd q), (6, Instr.sSend q), (7, Instr.sRecv q), (8, Instr.portStatus q), (9, Instr.wrMem q), (10, Instr.rdMem q)]) :=
  ⟨⟨0, none, 1, reqCrc 8 1 [], [], .calm⟩, { (runS.wrg (Reg.HST_QSPI_CFG 0) 1) with hst := { Hst.reset with ports := [(0, { QspiPort.reset with kept := some ⟨1, reqCrc 8 1 [], 0, []⟩ })] } }, ⟨1, reqCrc 8 1 [], 0, []⟩, 8, .portStatus (⟨0, none, 1, reqCrc 8 1 [], [], .calm⟩),
    by decide +kernel⟩

/-- The hypotheses of TokenMismatchLocksOut are met, clause by clause. -/
theorem wit_TokenMismatchLocksOut :
    (∃ (s : State) (target : Nat) (token : List Byte),
      lcRefusal s target token = some 4) ∧
    (∃ (s : State),
      s.lcs.lockedOut = true ∧ (s.mode = Mode.run ∨ s.mode = Mode.service)) ∧
    (∃ (s : State) (a : Acc) (target : BitVec 5) (r : State → State × Nat),
      (∀ (t : State), r t = lcTransition target.toNat (tokenBytes (grantExpire t)) a.env.steps a.env.otpMask (grantExpire t)) ∧ regFree a 299104 s = true) ∧
    (∃ (s : State) (target : BitVec 8) (token : List Byte) (env : RegEnv) (r : State × Nat),
      r = lcTransition target.toNat token env.steps env.otpMask ({ grantExpire s with lcs := { (grantExpire s).lcs with tap := 17 } }) ∧ s.mode ≠ Mode.off ∧ s.mode ≠ Mode.hibernate ∧ env.meets = [] ∧ jtagOpen (grantExpire s) 17 = true) ∧
    (∃ (s : State),
      s.lcs.lockedOut = true) ∧
    (∃ (s : State),
      s.mode ≠ Mode.off ∧ s.pwr.resetN = false) :=
  ⟨⟨runS, 0x12, [],
    by decide +kernel⟩,
   ⟨{ runS with lcs := { Lcs.reset with lockedOut := true } },
    by decide +kernel⟩,
   ⟨runS, inner, 0x12, _,
    fun _ => rfl, by decide +kernel⟩,
   ⟨{ runS with lcs := { Lcs.reset with lockedOut := true } }, 0, [], .calm, _,
    rfl, by decide +kernel⟩,
   ⟨{ runS with lcs := { Lcs.reset with lockedOut := true } },
    by decide +kernel⟩,
   ⟨State.reset,
    by decide +kernel⟩⟩

/-- The hypotheses of SeamRequestsAndTicksComplete are met, clause by clause. -/
theorem wit_SeamRequestsAndTicksComplete :
    (∃ (a : Acc) (s : State),
      regFree a 64 s = true ∧ (seamOf s (accPanel a s)).commit = none ∧ stagedBy s (accPanel a s) ≠ [] ∧ commitOverfull [accPanel a s] s = false) ∧
    (∃ (a : Acc) (s : State),
      regFree a 64 s = true ∧ (seamOf s (accPanel a s)).commit = none ∧ stagedBy s (accPanel a s) ≠ [] ∧ commitOverfull [accPanel a s] s = false ∧ s.now + 40 ≤ s.rg64 (sb (accPanel a s) Reg.SEAM_AT)) ∧
    (∃ (a : Acc) (s : State) (c : Commit),
      regFree a 64 s = true ∧ (seamOf s (accPanel a s)).commit = some c ∧ c.isSealed = false ∧ s.now + 40 < s.tickAt c.target) ∧
    (∃ (a : Acc) (s : State),
      regFree a 112 s = true ∧ (seamOf s (accPanel a s)).snapReq = none ∧ (snapSelected s (accPanel a s)).length ≤ 512) ∧
    (∃ (a : Acc) (s : State),
      regFree a 112 s = true ∧ (seamOf s (accPanel a s)).snapReq = none ∧ (snapSelected s (accPanel a s)).length ≤ 512 ∧ s.now + 40 ≤ s.rg64 (sb (accPanel a s) Reg.SEAM_AT)) ∧
    (∃ (a : Acc) (s : State),
      regFree a 112 s = true) ∧
    (∃ (s : State) (panel : Fin 8) (c : Commit),
      (seamOf s ↑panel).commit = some c ∧ c.isAt = true ∧ s.tickAt c.target ≤ s.now + 40) ∧
    (∃ (s : State) (p : Nat) (gen : Nat),
      gen = BitVec.toNat ((s.incWrap Reg.SEAM_GEN 0 32).rg Reg.SEAM_GEN) ∧ opMode s ≠ Mode.swap ∧ s.pwr.entry ≠ some 8 ∧ List.filter (commitDue s) allPanels = [p] ∧ commitOverfull [p] s = false) ∧
    (∃ (s : State) (p : Fin 8) (r : SnapReq) (u : State) (l : List (Nat × Word)) (x : State),
      u = applyTick s ∧ l = captureWords r.words u ↑p ∧ x = ((snapCode (↑p) 1 u).wf (sb (↑p) Reg.SEAM_SNAP_STATUS) 0 10 l.length).wrg64 (sb (↑p) Reg.SEAM_SNAP_TIME) u.now ∧ (∀ (q : Nat), q < 8 → q ≠ ↑p → (seamOf s q).snapReq = none) ∧ (seamOf s ↑p).snapReq = some r ∧ r.target ≤ s.now) :=
  ⟨⟨inner, { runS with shadow := [(0xB100, some (0, 5))] },
    by decide +kernel⟩,
   ⟨inner, ({ runS with shadow := [(0xB100, some (0, 5))] }).wrg64 (sb 0 Reg.SEAM_AT) 100,
    by decide +kernel⟩,
   ⟨inner, { runS with seam := [(0, { SeamPanel.reset with commit := some ⟨true, 100, false, false, false⟩, snapReq := none })] }, ⟨true, 100, false, false, false⟩,
    by decide +kernel⟩,
   ⟨inner, State.reset,
    by decide +kernel⟩,
   ⟨inner, runS.wrg64 (sb 0 Reg.SEAM_AT) 100,
    by decide +kernel⟩,
   ⟨inner, State.reset,
    by decide +kernel⟩,
   ⟨{ runS with seam := [(0, { SeamPanel.reset with commit := some ⟨true, 30, false, false, false⟩, snapReq := none })] }, 0, ⟨true, 30, false, false, false⟩,
    by decide +kernel⟩,
   ⟨{ runS with seam := [(2, { SeamPanel.reset with commit := some ⟨true, 0, true, false, false⟩, snapReq := none })] }, 2, _,
    rfl, by decide +kernel⟩,
   ⟨{ runS with seam := [(1, { SeamPanel.reset with commit := none, snapReq := some ⟨0, []⟩ })] }, 1, ⟨0, []⟩, _, _, _,
    rfl, rfl, rfl, by decide +kernel⟩⟩

/-- The hypotheses of PageHeadersAndRegistersComplete are met, clause by clause. -/
theorem wit_PageHeadersAndRegistersComplete :
    (∃ (a : Acc) (s : State) (page : Fin 256) (k : Page),
      pageOf ↑page = some k ∧ k.ctrlFixed = false ∧ regFree a (↑page * 4096 + 12) s = true) ∧
    (∃ (a : Acc) (s : State) (page : Fin 256) (k : Page),
      pageOf ↑page = some k ∧ k.ctrlFixed = false ∧ k.enableFixed = false ∧ k ≠ Page.bob ∧ regFree a (↑page * 4096 + 12) s = true) ∧
    (∃ (a : Acc) (s : State) (page : Fin 256) (k : Page),
      pageOf ↑page = some k ∧ k.ctrlFixed = false ∧ k.enableFixed = false ∧ regFree a (↑page * 4096 + 12) s = true) ∧
    (∃ (a : Acc) (s : State) (page : Fin 256) (k : Page),
      pageOf ↑page = some k ∧ regFree a (↑page * 4096 + 28) s = true) ∧
    (∃ (a : Acc) (s : State) (page : Fin 256) (k : Page),
      pageOf ↑page = some k ∧ regFree a (↑page * 4096 + 36) s = true) ∧
    (∃ (a : Acc) (s : State) (off : Nat) (k : Page) (r : RegRow) (value : BitVec 64),
      off % 4 = 0 ∧ pageOf (off / 4096) = some k ∧ 64 ≤ off % 4096 ∧ rowAt k (off % 4096) = some r ∧ regFree a off s = true ∧ off < 1048576 ∧ r.rws = 0 ∧ blockWrite a.init k (off / 4096) (accPanel a s) (off % 4096) (w32 value.toNat) a.env s = none) ∧
    (∃ (a : Acc) (s : State) (off : Nat) (k : Page) (r : RegRow) (value : Word),
      off % 4 = 0 ∧ pageOf (off / 4096) = some k ∧ 64 ≤ off % 4096 ∧ rowAt k (off % 4096) = some r ∧ regFree a off s = true ∧ r.rws ≠ 0 ∧ (seamOf s (accPanel a s)).commit = none ∧ (¬(4224 ≤ off ∧ off < 4256)) ∧ (¬(196608 ≤ off ∧ off < 245760)) ∧ blockWrite a.init k (off / 4096) (accPanel a s) (off % 4096) value a.env s = none) :=
  ⟨⟨inner, State.reset, 0x24, .fls,
    by decide +kernel⟩,
   ⟨inner, State.reset, 8, .pat,
    by decide +kernel⟩,
   ⟨inner, State.reset, 8, .pat,
    by decide +kernel⟩,
   ⟨inner, State.reset, 0, .seam,
    by decide +kernel⟩,
   ⟨inner, State.reset, 0, .seam,
    by decide +kernel⟩,
   ⟨inner, State.reset, 0x8048, .pat, (rowAt .pat 0x48).getD ⟨0, 0, 0, 0, 0, 0, 0, 0, 0, 0⟩, 0,
    by decide +kernel⟩,
   ⟨inner, State.reset, 0xB100, .fab, (rowAt .fab 0x100).getD ⟨0, 0, 0, 0, 0, 0, 0, 0, 0, 0⟩, 0,
    by decide +kernel⟩⟩

/-- The hypotheses of FabricBramAndLinesComplete are met where the free values that the premise names allow it. -/
theorem wit_FabricBramAndLinesComplete_1 (h0 : let s : State := { runS with fab := { Fab.reset with badCfg := 0 } }; let block : Fin 3072 := 0; (bramCfgOf s ↑block).mode = BramMode.guarded) :
    (∃ (s : State) (block : Fin 3072) (word : Fin 512) (dataFlips : BitVec 64) (checkFlips : BitVec 8) (err : BitVec 72) (content : BitVec 64),
      err = errOf s (↑block * 512 + ↑word) ^^^ checkFlips ++ dataFlips ∧ content = BitVec.truncate 64 (rowOf s (↑block * 512 + ↑word)) ∧ isolated s (↑block / 24) = false ∧ (bramCfgOf s ↑block).mode = BramMode.guarded) :=
  ⟨{ runS with fab := { Fab.reset with badCfg := 0 } }, 0, 0, 0, 0, _, _,
    rfl, rfl, by decide +kernel, h0⟩

/-- The hypotheses of FabricBramAndLinesComplete are met where the free values that the premise names allow it. -/
theorem wit_FabricBramAndLinesComplete_15 (h0 : let s : State := { runS with fab := { Fab.reset with badCfg := 0 } }; let n : Fin 98304 := 0; let c : LutCfg := lutCfgOf s (8 * ↑n); c.kind = LutUse.logic) (h1 : let s : State := { runS with fab := { Fab.reset with badCfg := 0 } }; let n : Fin 98304 := 0; let c : LutCfg := lutCfgOf s (8 * ↑n); c.split = false) (h2 : let s : State := { runS with fab := { Fab.reset with badCfg := 0 } }; let n : Fin 98304 := 0; let c : LutCfg := lutCfgOf s (8 * ↑n); c.faDirect = false) :
    (∃ (s : State) (n : Fin 98304) (c : LutCfg),
      c = lutCfgOf s (8 * ↑n) ∧ isolated s (↑n / 768) = false ∧ c.kind = LutUse.logic ∧ c.split = false ∧ c.faDirect = false) :=
  ⟨{ runS with fab := { Fab.reset with badCfg := 0 } }, 0, _,
    rfl, by decide +kernel, h0, h1, h2⟩

/-- The hypotheses of FabricBramAndLinesComplete are met where the free values that the premise names allow it. -/
theorem wit_FabricBramAndLinesComplete_16 (h0 : let s : State := { runS with fab := { Fab.reset with badCfg := 0 } }; let block : Fin 3072 := 0; (bramCfgOf s ↑block).mode = BramMode.guarded) :
    (∃ (s : State) (block : Fin 3072) (c : BramCycle) (t : State) (row : Nat),
      t = fabricEvent s (FabricEvent.bram block (some c) none) ∧ row = ↑block * 512 + c.addr % 512 ∧ isolated s (↑block / 24) = false ∧ c.isWrite = true ∧ c.depth = 0 ∧ c.flip1 = false ∧ c.flip2 = false ∧ (bramCfgOf s ↑block).mode = BramMode.guarded) :=
  ⟨{ runS with fab := { Fab.reset with badCfg := 0 } }, 0, ⟨0, 0, true, 0, 0, false, false⟩, _, _,
    rfl, rfl, by decide +kernel, by decide +kernel, by decide +kernel, by decide +kernel, by decide +kernel, h0⟩

/-- The hypotheses of FabricBramAndLinesComplete are met where the free values that the premise names allow it. -/
theorem wit_FabricBramAndLinesComplete_19 (h0 : let s : State := { runS with fab := { Fab.reset with badCfg := 0 } }; let n : Fin 2048 := 0; let c : DspCfg := dspCfgOf s ↑n; c.lanes = Lanes.one) (h1 : let s : State := { runS with fab := { Fab.reset with badCfg := 0 } }; let n : Fin 2048 := 0; let c : DspCfg := dspCfgOf s ↑n; c.op = AccOp.accPlusP) (h2 : let s : State := { runS with fab := { Fab.reset with badCfg := 0 } }; let n : Fin 2048 := 0; let c : DspCfg := dspCfgOf s ↑n; c.pre = PreOp.pass) (h3 : let s : State := { runS with fab := { Fab.reset with badCfg := 0 } }; let n : Fin 2048 := 0; let c : DspCfg := dspCfgOf s ↑n; c.useIx = false) (h4 : let s : State := { runS with fab := { Fab.reset with badCfg := 0 } }; let n : Fin 2048 := 0; let c : DspCfg := dspCfgOf s ↑n; c.useIy = false) (h5 : let s : State := { runS with fab := { Fab.reset with badCfg := 0 } }; let n : Fin 2048 := 0; let c : DspCfg := dspCfgOf s ↑n; c.usePre = false) (h6 : let s : State := { runS with fab := { Fab.reset with badCfg := 0 } }; let n : Fin 2048 := 0; let c : DspCfg := dspCfgOf s ↑n; c.useMul = false) :
    (∃ (s : State) (n : Fin 2048) (c : DspCfg),
      c = dspCfgOf s ↑n ∧ isolated s (↑n / 16) = false ∧ c.lanes = Lanes.one ∧ c.op = AccOp.accPlusP ∧ c.pre = PreOp.pass ∧ c.useIx = false ∧ c.useIy = false ∧ c.usePre = false ∧ c.useMul = false) :=
  ⟨{ runS with fab := { Fab.reset with badCfg := 0 } }, 0, _,
    rfl, by decide +kernel, h0, h1, h2, h3, h4, h5, h6⟩

/-- The hypotheses of FabricBramAndLinesComplete are met, clause by clause. -/
theorem wit_FabricBramAndLinesComplete :
    (∃ (s : State) (block : Fin 3072) (word : Fin 512),
      isolated s (↑block / 24) = false ∧ s.fab.repair.contains (↑block * 512 + ↑word) = true) ∧
    (∃ (s : State) (d : Fin 16),
      dllRuns s ↑d = true ∧ (dllOf s ↑d).step = none) ∧
    (∃ (s : State) (d : Fin 16),
      dllRuns s ↑d = true ∧ (dllOf s ↑d).aligned = false) ∧
    (∃ (s : State) (d : Fin 16),
      (dllOf s ↑d).aligned = true) ∧
    (∃ (s : State) (n : Fin 4096),
      isolated s (↑n / 32) = false ∧ isEnabled s FAB_PAGE = true) ∧
    (∃ (s : State) (r : Fin 128),
      s.fab.paramPend.getLsbD ↑r = true ∧ isolated s ↑r = false ∧ isEnabled s FAB_PAGE = true) ∧
    (∃ (s : State) (a : Acc),
      regFree a 45152 s = true) ∧
    (∃ (s : State) (port : Fin 8) (core : Fin 16) (q : TportReq),
      List.find? (fun q => q.port == ↑port && q.core == ↑core) s.fab.tports = some q ∧ s.now ≤ q.start + tportLimit s) ∧
    (∃ (s : State) (port : Fin 8) (q : TportReq),
      List.find? (fun q => q.port == ↑port && decide (q.start + tportLimit s ≤ s.now)) s.fab.tports = some q) ∧
    (∃ (s : State) (e : FabricEvent) (r : Nat),
      e.region = some r ∧ isolated s r = true) :=
  ⟨⟨{ runS with fab := { Fab.reset with badCfg := 0, repair := [0] } }, 0, 0,
    by decide +kernel⟩,
   ⟨runS.wrg Reg.CLK_DLL_EN 1, 0,
    by decide +kernel⟩,
   ⟨runS.wrg Reg.CLK_DLL_EN 1, 0,
    by decide +kernel⟩,
   ⟨{ runS with fab := { Fab.reset with badCfg := 0, dlls := [(0, ⟨true, none⟩)] } }, 0,
    by decide +kernel⟩,
   ⟨{ runS with fab := { Fab.reset with badCfg := 0 } }, 0,
    by decide +kernel⟩,
   ⟨{ runS with fab := { Fab.reset with badCfg := 0, paramPend := 1 } }, 0,
    by decide +kernel⟩,
   ⟨State.reset, inner,
    by decide +kernel⟩,
   ⟨{ runS with fab := { Fab.reset with badCfg := 0, tports := [⟨0, 0, 0x40000000, true, 0, 0, 4, false, false, 4, 0⟩] } }, 0, 0, ⟨0, 0, 0x40000000, true, 0, 0, 4, false, false, 4, 0⟩,
    by decide +kernel⟩,
   ⟨({ runS with fab := { Fab.reset with badCfg := 0, tports := [⟨0, 0, 0x40000000, true, 0, 0, 4, false, false, 4, 0⟩] } }).wrg64 Reg.TIM_NOW 1000000, 0, ⟨0, 0, 0x40000000, true, 0, 0, 4, false, false, 4, 0⟩,
    by decide +kernel⟩,
   ⟨runS, .setReset 0, 0,
    by decide +kernel⟩⟩

/-- The hypotheses of WindowMemoryRequestsComplete are met, clause by clause. -/
theorem wit_WindowMemoryRequestsComplete :
    (∃ (q : WinReq) (s : State) (data : BitVec 128),
      sends s (Initiator.win q.port) = true ∧ q.unknown = none ∧ q.rivals = [] ∧ q.meets = [] ∧ s.ram.bad = [] ∧ inSram (winBase q) = true ∧ q.beats = [{ enables := 65535, data := data }]) ∧
    (∃ (q : WinReq) (s : State) (data : BitVec 128) (en : BitVec 16),
      sends s (Initiator.win q.port) = true ∧ q.unknown = none ∧ q.rivals = [] ∧ q.meets = [] ∧ s.ram.bad = [] ∧ inSram (winBase q) = true ∧ q.beats = [{ enables := en, data := data }]) :=
  ⟨⟨⟨0, none, 0, 0x20000000, [⟨65535, 0xFF⟩], [], .calm, [], []⟩, { runS with fab := { Fab.reset with badCfg := 0 } }, 0xFF,
    by decide +kernel⟩,
   ⟨⟨0, none, 0, 0x20000000, [⟨7, 0xFF⟩], [], .calm, [], []⟩, { runS with fab := { Fab.reset with badCfg := 0 } }, 0xFF, 7,
    by decide +kernel⟩⟩

/-- The hypotheses of PartnerPortsComplete are met, clause by clause. -/
theorem wit_PartnerPortsComplete :
    (∃ (s : State) (p : Fin 16) (bytes : List (BitVec 8)),
      isEnabled s FAB_PAGE = true ∧ ppUp s ↑p = true ∧ 16 ≤ bytes.length ∧ ppWaiting s ↑p + bytes.length ≤ 4096) ∧
    (∃ (s : State) (p : Fin 16) (f : Nat × List Byte),
      isEnabled s FAB_PAGE = true ∧ ppUp s ↑p = true ∧ List.find? (fun x => x.fst == ↑p) s.fab.ppTx = some f) ∧
    (∃ (s : State) (p : Fin 16) (up : Bool),
      isEnabled s FAB_PAGE = true ∧ isolated s (ppRegion ↑p) = false ∧ s.fab.linkUp.getLsbD ↑p ≠ up) :=
  ⟨⟨{ runS with fab := { Fab.reset with badCfg := 0, linkUp := 1 } }, 0, List.replicate 16 0,
    by decide +kernel⟩,
   ⟨{ runS with fab := { Fab.reset with badCfg := 0, linkUp := 1, ppTx := [(0, List.replicate 16 0)] } }, 0, (0, List.replicate 16 0),
    by decide +kernel⟩,
   ⟨{ runS with fab := { Fab.reset with badCfg := 0 } }, 0, true,
    by decide +kernel⟩⟩

/-- The hypotheses of PlaneCommandsComplete are met where the free values that the premise names allow it. -/
theorem wit_PlaneCommandsComplete_1 (h0 : let s : State := (imgS 1 (2 ^ 128 - 1) 61440); let p : Plane := .a; let r : State × List Byte := imageRead (s.rg64 Reg.PAT_SRC_ADDR) 512 ((patErr 0 0 s).wrg Reg.PAT_PROGRESS 0); let h : BitVec 4096 := BitVec.ofNat 4096 (leNat r.snd); hdrJudge h (some p) r.fst = none) :
    (∃ (a : Acc) (s : State) (target : Fin 4) (p : Plane) (r : State × List Byte) (h : BitVec 4096),
      r = imageRead (s.rg64 Reg.PAT_SRC_ADDR) 512 ((patErr 0 0 s).wrg Reg.PAT_PROGRESS 0) ∧ h = BitVec.ofNat 4096 (leNat r.snd) ∧ regFree a 32832 s = true ∧ isEnabled s PAT_PAGE = true ∧ targetOf ↑target = some p ∧ writeRefusal (accPanel a s) p s = none ∧ hdrJudge h (some p) r.fst = none) :=
  ⟨inner, imgS 1 (2 ^ 128 - 1) 61440, 0, .a, _, _,
    rfl, rfl, by decide +kernel, by decide +kernel, by decide +kernel, by decide +kernel, h0⟩

/-- The hypotheses of PlaneCommandsComplete are met, clause by clause. -/
theorem wit_PlaneCommandsComplete :
    (∃ (a : Acc) (s : State) (target : Fin 4) (p : Plane) (r : State × List Byte) (h : BitVec 4096) (e : Nat × Nat),
      r = imageRead (s.rg64 Reg.PAT_SRC_ADDR) 512 ((patErr 0 0 s).wrg Reg.PAT_PROGRESS 0) ∧ h = BitVec.ofNat 4096 (leNat r.snd) ∧ regFree a 32832 s = true ∧ isEnabled s PAT_PAGE = true ∧ targetOf ↑target = some p ∧ writeRefusal (accPanel a s) p s = none ∧ hdrJudge h (some p) r.fst = some e) ∧
    (∃ (a : Acc) (s : State),
      regFree a 32832 s = true ∧ isEnabled s PAT_PAGE = true) ∧
    (∃ (a : Acc) (s : State) (target : Fin 4) (p : Plane),
      regFree a 32832 s = true ∧ isEnabled s PAT_PAGE = true ∧ targetOf ↑target = some p ∧ writeMode (accPanel a s) s = true ∧ imageBusy s = false ∧ targetRefusal p s = none) ∧
    (∃ (a : Acc) (s : State),
      regFree a 32832 s = true ∧ isEnabled s PAT_PAGE = true ∧ s.pat.trial = true ∧ s.pat.store = none ∧ imageBusy s = false) :=
  ⟨⟨inner, (runS.wrg Reg.PAT_SRC_LEN 528).wrg64 Reg.PAT_SRC_ADDR 0x20000000, 0, .a, _, _, (1, 1),
    rfl, rfl, by decide +kernel⟩,
   ⟨inner, runS,
    by decide +kernel⟩,
   ⟨inner, runS, 0, .a,
    by decide +kernel⟩,
   ⟨inner, { runS with pat := { Pat.reset with trial := true } },
    by decide +kernel⟩⟩

/-- The hypotheses of SwapsComplete are met, clause by clause. -/
theorem wit_SwapsComplete :
    (∃ (s : State) (w : PlaneWrite),
      s.pat.writing = some w ∧ w.step = 4 ∧ planeReads (planeOf s w.plane) = true) ∧
    (∃ (s : State) (a : Acc) (target : Fin 4) (trial : Bool) (p : Plane),
      regFree a 32832 s = true ∧ isEnabled s PAT_PAGE = true ∧ targetOf ↑target = some p ∧ swapRefusal (some p) trial s = none) ∧
    (∃ (s : State) (a : Acc) (target : Fin 4) (trial : Bool) (p : Plane),
      regFree a 32832 s = true ∧ isEnabled s PAT_PAGE = true ∧ targetOf ↑target = some p ∧ swapRefusal (some p) trial s = none ∧ (patErr 0 0 s).now < (patErr 0 0 s).rg64 Reg.PAT_SWAP_AT) ∧
    (∃ (s : State) (w : Swap),
      s.pat.pending = some w ∧ w.time ≤ s.now ∧ inRun s = true) :=
  ⟨⟨{ runS with pat := { Pat.reset with planeA := wholePlane, writing := some ⟨.a, 4, 0, 0, 528, 0, 0⟩ } }, ⟨.a, 4, 0, 0, 528, 0, 0⟩,
    ⟨by decide +kernel, rfl, wholePlane_reads⟩⟩,
   ⟨{ runS with pat := { Pat.reset with planeA := { PlaneRec.reset with st := .valid } } }, inner, 0, false, .a,
    by decide +kernel⟩,
   ⟨({ runS with pat := { Pat.reset with planeA := { PlaneRec.reset with st := .valid } } }).wrg64 Reg.PAT_SWAP_AT 1000, inner, 0, false, .a,
    by decide +kernel⟩,
   ⟨{ runS with pat := { Pat.reset with pending := some ⟨.a, false, 0, .run, 0, 0⟩ } }, ⟨.a, false, 0, .run, 0, 0⟩,
    by decide +kernel⟩⟩

/-- The hypotheses of BastingComplete are met where the free values that the premise names allow it. -/
theorem wit_BastingComplete_1 (h0 : let s : State := (imgS 2 1 480); let r : State × List Byte := imageRead (s.rg64 Reg.BAS_SRC_ADDR) 512 s; let h : BitVec 4096 := BitVec.ofNat 4096 (leNat r.snd); hdrJudge h none r.fst = none) :
    (∃ (a : Acc) (s : State) (r : State × List Byte) (h : BitVec 4096),
      r = imageRead (s.rg64 Reg.BAS_SRC_ADDR) 512 s ∧ h = BitVec.ofNat 4096 (leNat r.snd) ∧ regFree a 36928 s = true ∧ isEnabled s BAS_PAGE = true ∧ inRun s = true ∧ imageBusy s = false ∧ s.rg64 Reg.BAS_SRC_ADDR % 4 = 0 ∧ inUserMem (s.rg64 Reg.BAS_SRC_ADDR) (BitVec.toNat (s.rg Reg.BAS_SRC_LEN)) = true ∧ 528 ≤ BitVec.toNat (s.rg Reg.BAS_SRC_LEN) ∧ (∀ (b : Nat), b < 8 → r.fst.rb Reg.FAB_BOLT_OFF b = false) ∧ hdrJudge h none r.fst = none) :=
  ⟨inner, imgS 2 1 480, _, _,
    rfl, rfl, by decide +kernel, by decide +kernel, by decide +kernel, by decide +kernel, by decide +kernel, by decide +kernel, by decide +kernel, by decide +kernel, h0⟩

/-- The hypotheses of BastingComplete are met, clause by clause. -/
theorem wit_BastingComplete :
    (∃ (a : Acc) (s : State) (r : State × List Byte) (h : BitVec 4096),
      r = imageRead (s.rg64 Reg.BAS_SRC_ADDR) 512 s ∧ h = BitVec.ofNat 4096 (leNat r.snd) ∧ regFree a 36928 s = true ∧ isEnabled s BAS_PAGE = true ∧ inRun s = true ∧ imageBusy s = false ∧ s.rg64 Reg.BAS_SRC_ADDR % 4 = 0 ∧ inUserMem (s.rg64 Reg.BAS_SRC_ADDR) (BitVec.toNat (s.rg Reg.BAS_SRC_LEN)) = true ∧ 528 ≤ BitVec.toNat (s.rg Reg.BAS_SRC_LEN) ∧ (∀ (b : Nat), b < 8 → r.fst.rb Reg.FAB_BOLT_OFF b = false) ∧ hdrJudge h none r.fst ≠ none) ∧
    (∃ (a : Acc) (s : State) (b : Baste),
      regFree a 36928 s = true ∧ s.pat.baste = some b ∧ b.step < 3) ∧
    (∃ (a : Acc) (s : State) (p : Plane),
      regFree a 36928 s = true ∧ isEnabled s BAS_PAGE = true ∧ inRun s = true ∧ imageBusy s = false ∧ s.pat.loaded = some p ∧ isActive s p = true) :=
  ⟨⟨inner, (runS.wrg Reg.BAS_SRC_LEN 528).wrg64 Reg.BAS_SRC_ADDR 0x20000000, _, _,
    rfl, rfl, by decide +kernel⟩,
   ⟨inner, { runS with pat := { Pat.reset with baste := some ⟨1, 0, 1, 0x20000000, 528, 0, 0⟩ } }, ⟨1, 0, 1, 0x20000000, 528, 0, 0⟩,
    by decide +kernel⟩,
   ⟨inner, { runS with pat := { Pat.reset with loaded := some .a, planeA := { PlaneRec.reset with st := .valid } } }, .a,
    by decide +kernel⟩⟩

/-- The hypotheses of OverlockComplete are met, clause by clause. -/
theorem wit_OverlockComplete :
    (∃ (s : State) (b : Fin 8),
      sweepRuns s = true ∧ (sweepOf s ↑b).on = false ∧ ((sweepOf s ↑b).start = 0 ∨ (sweepOf s ↑b).start + 20000000 ≤ s.now)) ∧
    (∃ (s : State) (b : Fin 8),
      sweepRuns s = true ∧ (sweepOf s ↑b).on = true ∧ isolated s (16 * ↑b + (sweepOf s ↑b).region) = false ∧ sget (fun x => false) s.ovl.bad (512 * (16 * ↑b + (sweepOf s ↑b).region) + (sweepOf s ↑b).frame) = false ∧ frameDiff s (512 * (16 * ↑b + (sweepOf s ↑b).region) + (sweepOf s ↑b).frame) = 0 ∧ (sweepOf s ↑b).frame + 1 < 480) ∧
    (∃ (s : State) (r : Fin 128) (t : Nat),
      List.find? (fun x => x.fst == ↑r) s.fab.resetRel = some (↑r, t) ∧ t ≤ s.now) ∧
    (∃ (s : State) (b : Fin 8),
      (sweepOf s ↑b).on = true ∧ (sweepOf s ↑b).late = false ∧ (sweepOf s ↑b).start + 20000000 < s.now) ∧
    (∃ (s : State) (hot : Bool) (p : Plane) (v : State),
      v = noteHot hot s ∧ v.ovl.rfPlane = none ∧ List.find? (fun p => refreshOn v p && passDue v p) [Plane.a, Plane.b, Plane.hem] = some p) ∧
    (∃ (s : State) (p : Plane),
      s.ovl.rfPlane = some p ∧ refreshOn s p = true ∧ (planeOf s p).st = PlaneSt.valid ∧ s.ovl.rfFrame + 1 < 61440) ∧
    (∃ (s : State),
      s.mode = Mode.run) ∧
    (∃ (s : State) (a : Acc) (far : BitVec 16) (g : Grant),
      regFree a 41120 s = true ∧ s.mode = Mode.service ∧ grantNow s = some g ∧ g.full = true ∧ far.toNat % 512 < 480) :=
  ⟨⟨runS, 0,
    by decide +kernel⟩,
   ⟨{ runS with fab := { Fab.reset with badCfg := 0 }, ovl := { Ovl.reset with engines := [(0, ⟨true, 0, 0, 0, false, 0⟩)] } }, 0,
    by decide +kernel⟩,
   ⟨{ runS with fab := { Fab.reset with badCfg := 0, resetRel := [(0, 0)] } }, 0, 0,
    by decide +kernel⟩,
   ⟨({ runS with fab := { Fab.reset with badCfg := 0 }, ovl := { Ovl.reset with engines := [(0, ⟨true, 0, 0, 0, false, 0⟩)] } }).wrg64 Reg.TIM_NOW 20000001, 0,
    by decide +kernel⟩,
   ⟨{ runS with pat := { Pat.reset with planeA := { PlaneRec.reset with st := .valid } } }, false, .a, _,
    rfl, by decide +kernel⟩,
   ⟨{ { runS with pat := { Pat.reset with planeA := { PlaneRec.reset with st := .valid } } } with ovl := { Ovl.reset with rfPlane := some .a } }, .a,
    by decide +kernel⟩,
   ⟨runS,
    by decide +kernel⟩,
   ⟨{ runS with mode := .service, lcs := { Lcs.reset with grant := some ⟨true, 0, 0, 0xFF, 0xFFFF, 0, true⟩ } }, inner, 0, ⟨true, 0, 0, 0xFF, 0xFFFF, 0, true⟩,
    by decide +kernel⟩⟩

/-- The hypotheses of InstructionsComplete are met, clause by clause. -/
theorem wit_InstructionsComplete :
    (∃ (core : Fin 16) (env : CoreEnv) (s : State) (bits : Nat) (len : Nat),
      coreActive s ↑core = true ∧ (fetch (↑core) env s).snd = some (bits, len) ∧ trigHit s (↑core) 2 (coreOf s ↑core).ctx.pc = none) ∧
    (∃ (core : Fin 16) (env : CoreEnv) (s : State) (bits : Nat) (len : Nat),
      coreActive s ↑core = true ∧ (fetch (↑core) env s).snd = some (bits, len)) ∧
    (∃ (core : Fin 16) (env : CoreEnv) (s : State) (x : LoadStore),
      coreActive s ↑core = true ∧ x.core = core ∧ x.env = env) ∧
    (∃ (core : Fin 16) (s : State),
      coreActive s ↑core = true) :=
  ⟨⟨0, .calm, { withCore { core0 with ctx := { Ctx.reset with pc := 0x20000000 } } with mem := [⟨0x20000000, 0x13⟩] }, 0x13, 4,
    by decide +kernel⟩,
   ⟨0, .calm, { withCore { core0 with ctx := { Ctx.reset with pc := 0x20000000 } } with mem := [⟨0x20000000, 0x13⟩] }, 0x13, 4,
    by decide +kernel⟩,
   ⟨0, .calm, coreS, ⟨0, false, 2, true, false, 5, 6, 0, false, .calm⟩,
    by decide +kernel⟩,
   ⟨0, coreS,
    by decide +kernel⟩⟩

/-- The hypotheses of LoadsStoresAndAtomicsComplete are met, clause by clause. -/
theorem wit_LoadsStoresAndAtomicsComplete :
    (∃ (x : LoadStore) (s : State),
      coreActive s x.core.val = true ∧ x.fp = false ∧ loadStoreAddr x s % 2 ^ x.size.val = 0 ∧ trigHit s (x.core.val) (b2n x.isStore) (BitVec.ofNat 64 (loadStoreAddr x s)) = none ∧ pmpOk s (x.core.val) (dataPrv s x.core.val) (loadStoreAddr x s) (2 ^ x.size.val) (b2n x.isStore) = true ∧ (coreOf s x.core.val).wbuf = [] ∧ x.isStore = false ∧ inSram (loadStoreAddr x s) = true ∧ s.ram.bad = [] ∧ x.env.dataEcc = Ecc.none) ∧
    (∃ (x : LoadStore) (s : State),
      coreActive s x.core.val = true ∧ x.fp = false ∧ loadStoreAddr x s % 2 ^ x.size.val = 0 ∧ trigHit s (x.core.val) (b2n x.isStore) (BitVec.ofNat 64 (loadStoreAddr x s)) = none ∧ pmpOk s (x.core.val) (dataPrv s x.core.val) (loadStoreAddr x s) (2 ^ x.size.val) (b2n x.isStore) = true ∧ (coreOf s x.core.val).wbuf = [] ∧ x.isStore = true ∧ inSram (loadStoreAddr x s) = true) ∧
    (∃ (x : LoadStore) (s : State) (t : Nat),
      coreActive s x.core.val = true ∧ x.fp = false ∧ loadStoreAddr x s % 2 ^ x.size.val = 0 ∧ trigHit s (x.core.val) (b2n x.isStore) (BitVec.ofNat 64 (loadStoreAddr x s)) = none ∧ pmpOk s (x.core.val) (dataPrv s x.core.val) (loadStoreAddr x s) (2 ^ x.size.val) (b2n x.isStore) = true ∧ (coreOf s x.core.val).wbuf = [] ∧ zoneOf (loadStoreAddr x s) = Zone.window t) ∧
    (∃ (core : Fin 16) (rs1 : Fin 32) (double : Bool) (env : CoreEnv) (s : State) (n : Nat) (a : Nat),
      n = (if double = true then 8 else 4) ∧ a = BitVec.toNat (rx s ↑core ↑rs1) ∧ coreActive s ↑core = true ∧ (coreOf s ↑core).wbuf = [] ∧ s.ram.bad = [] ∧ env.dataEcc = Ecc.none ∧ inSram a = true ∧ a % n = 0 ∧ pmpOk s (↑core) (dataPrv s ↑core) a n 0 = true ∧ pmpOk s (↑core) (dataPrv s ↑core) a n 1 = true) ∧
    (∃ (core : Fin 16) (rs1 : Fin 32) (double : Bool) (env : CoreEnv) (s : State) (n : Nat) (a : Nat),
      n = (if double = true then 8 else 4) ∧ a = BitVec.toNat (rx s ↑core ↑rs1) ∧ coreActive s ↑core = true ∧ (coreOf s ↑core).wbuf = [] ∧ s.ram.bad = [] ∧ env.dataEcc = Ecc.none ∧ inSram a = true ∧ a % n = 0 ∧ pmpOk s (↑core) (dataPrv s ↑core) a n 0 = true ∧ pmpOk s (↑core) (dataPrv s ↑core) a n 1 = true ∧ (coreOf s ↑core).resv = some (a / 64)) ∧
    (∃ (core : Fin 16) (rd : Fin 32) (rs1 : Fin 32) (rs2 : Fin 32) (double : Bool) (env : CoreEnv) (s : State) (n : Nat) (a : Nat) (kind : AtomicKind) (op : AmoOp),
      n = (if double = true then 8 else 4) ∧ a = BitVec.toNat (rx s ↑core ↑rs1) ∧ coreActive s ↑core = true ∧ (coreOf s ↑core).wbuf = [] ∧ s.ram.bad = [] ∧ env.dataEcc = Ecc.none ∧ inSram a = true ∧ a % n = 0 ∧ pmpOk s (↑core) (dataPrv s ↑core) a n 0 = true ∧ pmpOk s (↑core) (dataPrv s ↑core) a n 1 = true ∧ atomicInstr kind n ↑rd ↑rs1 ↑rs2 = RvInstr.amo op n ↑rd ↑rs1 ↑rs2) ∧
    (∃ (core : Fin 16) (s : State) (a : Nat) (n : Nat) (v : BitVec 64) (l : List (Nat × Nat × BitVec 64)),
      (coreOf s ↑core).wbuf = (a, n, v) :: l) :=
  ⟨⟨⟨0, false, 2, true, false, 5, 6, 0, false, .calm⟩, withCore ({ core0 with ctx := { Ctx.reset with x := [(6, 0x20000000)] } }),
    by decide +kernel⟩,
   ⟨⟨0, true, 2, true, false, 5, 6, 0, false, .calm⟩, withCore ({ core0 with ctx := { Ctx.reset with x := [(6, 0x20000000)] } }),
    by decide +kernel⟩,
   ⟨⟨0, true, 2, true, false, 5, 6, 0, false, .calm⟩, withCore ({ core0 with ctx := { Ctx.reset with x := [(6, 0x40000000)] } }), 0,
    by decide +kernel⟩,
   ⟨0, 6, false, .calm, withCore ({ core0 with ctx := { Ctx.reset with x := [(6, 0x20000000)] } }), _, _,
    rfl, rfl, by decide +kernel⟩,
   ⟨0, 6, false, .calm, withCore ({ core0 with ctx := { Ctx.reset with x := [(6, 0x20000000)] }, resv := some (0x20000000 / 64) }), _, _,
    rfl, rfl, by decide +kernel⟩,
   ⟨0, 0, 6, 0, false, .calm, withCore ({ core0 with ctx := { Ctx.reset with x := [(6, 0x20000000)] } }), _, _, .swap, .swap,
    rfl, rfl, by decide +kernel⟩,
   ⟨0, withCore { core0 with wbuf := [(0x20000000, 4, 1)] }, 0x20000000, 4, 1, [],
    by decide +kernel⟩⟩

/-- The hypotheses of CoreControlAndPageComplete are met, clause by clause. -/
theorem wit_CoreControlAndPageComplete :
    (∃ (core : Fin 16) (s : State),
      coreActive s ↑core = true) ∧
    (∃ (core : Fin 16) (s : State),
      coreActive s ↑core = true ∧ mipOf s ↑core &&& (coreOf s ↑core).ctx.mie.toNat = 0) ∧
    (∃ (core : Fin 16) (s : State),
      coreActive s ↑core = true ∧ prvOf s ↑core = 3) ∧
    (∃ (core : Fin 16) (s : State) (n : Nat),
      coreRuns s ↑core = true ∧ s.lcs.halted.contains ↑core = false ∧ inStore s ↑core = false ∧ (coreOf s ↑core).chosen = none ∧ (coreOf s ↑core).waiting = false ∧ irqTaken s ↑core = some n) ∧
    (∃ (core : Fin 16) (s : State),
      s.rg64 (Reg.CORE_MTIMECMP ↑core) ≤ s.now) ∧
    (∃ (core : Fin 16) (s : State),
      s.rg64 (Reg.CORE_MTIMECMP ↑core) ≤ s.now ∧ (coreOf s ↑core).halted = true ∧ mipOf s ↑core &&& (coreOf s ↑core).ctx.mie.toNat ≠ 0) ∧
    (∃ (core : Fin 16) (s : State),
      s.rg64 (Reg.CORE_MTIMECMP ↑core) ≤ s.now ∧ (coreOf s ↑core).halted = false) ∧
    (∃ (a : Acc) (s : State) (core : Fin 16),
      regFree a (65600 + ↑core * 4096) s = true ∧ clusterOff s (↑core / 4) = false ∧ (coreOf (fitCore (↑core) s) ↑core).started = false) ∧
    (∃ (a : Acc) (s : State) (core : Fin 16),
      regFree a (65684 + ↑core * 4096) s = true) ∧
    (∃ (a : Acc) (s : State) (k : Fin 4),
      regFree a (65696 + ↑k * 16384) s = true ∧ clusterOff s ↑k = false) :=
  ⟨⟨0, coreS,
    by decide +kernel⟩,
   ⟨0, coreS,
    by decide +kernel⟩,
   ⟨0, coreS,
    by decide +kernel⟩,
   ⟨0, (withCore { core0 with ctx := { Ctx.reset with mie := 0x80, mstMie := true } }).wrg64 (Reg.CORE_MTIMECMP 0) 0, 7,
    by decide +kernel⟩,
   ⟨0, runS.wrg64 (Reg.CORE_MTIMECMP 0) 0,
    by decide +kernel⟩,
   ⟨0, (withCore { core0 with halted := true, ctx := { Ctx.reset with mie := 0x80 } }).wrg64 (Reg.CORE_MTIMECMP 0) 0,
    by decide +kernel⟩,
   ⟨0, coreS.wrg64 (Reg.CORE_MTIMECMP 0) 0,
    by decide +kernel⟩,
   ⟨inner, State.reset, 0,
    by decide +kernel⟩,
   ⟨inner, State.reset, 0,
    by decide +kernel⟩,
   ⟨inner, State.reset, 0,
    by decide +kernel⟩⟩

/-- The hypotheses of ThreadDoorbellsComplete are met, clause by clause. -/
theorem wit_ThreadDoorbellsComplete :
    (∃ (core : Fin 16) (arg : BitVec 64) (env : CoreEnv) (s : State),
      doorFree core 0 env s = true ∧ nfld arg.toNat 18 45 = 0) ∧
    (∃ (core : Fin 16) (env : CoreEnv) (s : State),
      doorFree core 8 env s = true ∧ (coreOf s ↑core).thread = none) ∧
    (∃ (core : Fin 16) (arg : BitVec 64) (env : CoreEnv) (s : State) (t : Nat),
      doorFree core 24 env s = true ∧ (coreOf s ↑core).thread = some t ∧ arg.toNat ≠ 0 ∧ arg.toNat < 2 ^ 32) ∧
    (∃ (core : Fin 16) (arg : BitVec 64) (env : CoreEnv) (s : State),
      doorFree core 40 env s = true ∧ nfld arg.toNat 18 45 = 0 ∧ arg.toNat.testBit 63 = false ∧ (coreOf s ↑core).thread ≠ some (nfld arg.toNat 0 18)) ∧
    (∃ (core : Fin 16) (arg : BitVec 64) (env : CoreEnv) (s : State),
      doorFree core 48 env s = true ∧ nfld arg.toNat 18 45 = 0 ∧ arg.toNat.testBit 63 = false ∧ (coreOf s ↑core).thread ≠ some (nfld arg.toNat 0 18)) :=
  ⟨⟨0, 0, .calm, coreS,
    by decide +kernel⟩,
   ⟨0, .calm, coreS,
    by decide +kernel⟩,
   ⟨0, 1000, .calm, { withCore { core0 with thread := some 0 } with bob := { Bob.reset with threads := [(0, { Thread.reset with st := .running, lastCore := 0 })] } }, 0,
    by decide +kernel⟩,
   ⟨0, 1, .calm, { withCore { core0 with thread := some 0 } with bob := { Bob.reset with threads := [(0, { Thread.reset with st := .running, lastCore := 0 })] } },
    by decide +kernel⟩,
   ⟨0, 1, .calm, coreS,
    by decide +kernel⟩⟩

/-- The hypotheses of WaitsAndSignalsComplete are met, clause by clause. -/
theorem wit_WaitsAndSignalsComplete :
    (∃ (core : Fin 16) (arg : BitVec 62) (short : Bool) (env : CoreEnv) (s : State) (t : Nat),
      (coreOf s ↑core).thread = some t ∧ doorFree core 16 env s = true ∧ nfld arg.toNat 0 32 = 0 ∧ arg.toNat.testBit 60 = false ∧ (threadOf (doorStart core short s) t).pend = true) ∧
    (∃ (core : Fin 16) (arg : BitVec 62) (short : Bool) (env : CoreEnv) (s : State) (t : Nat),
      (coreOf s ↑core).thread = some t ∧ doorFree core 16 env s = true ∧ nfld arg.toNat 0 32 = 0 ∧ arg.toNat.testBit 60 = false ∧ (threadOf (doorStart core short s) t).pend = false) ∧
    (∃ (core : Fin 16) (arg : BitVec 62) (env : CoreEnv) (s : State) (t : Nat),
      (coreOf s ↑core).thread = some t ∧ doorFree core 16 env s = true ∧ nfld arg.toNat 0 32 ≠ 0 ∧ arg.toNat.testBit 60 = false) ∧
    (∃ (core : Fin 16) (arg : BitVec 62) (env : CoreEnv) (s : State) (t : Nat),
      (coreOf s ↑core).thread = some t ∧ doorFree core 16 env s = true ∧ nfld arg.toNat 0 32 = 0 ∧ arg.toNat.testBit 60 = false) ∧
    (∃ (core : Fin 16) (arg : BitVec 62) (env : CoreEnv) (s : State) (t : Nat),
      (coreOf s ↑core).thread = some t ∧ doorFree core 32 env s = true ∧ nfld arg.toNat 0 48 = 0 ∧ nfld arg.toNat 60 2 = 0) ∧
    (∃ (core : Fin 16) (arg : BitVec 62) (env : CoreEnv) (s : State) (t : Nat),
      (coreOf s ↑core).thread = some t ∧ doorFree core 32 env s = true ∧ nfld arg.toNat 32 16 = 0 ∧ nfld arg.toNat 60 2 = 0) :=
  ⟨⟨0, 0, false, .calm, { withCore { core0 with thread := some 0 } with bob := { Bob.reset with threads := [(0, { Thread.reset with st := .running, lastCore := 0, pend := true })] } }, 0,
    by decide +kernel⟩,
   ⟨0, 0, false, .calm, { withCore { core0 with thread := some 0 } with bob := { Bob.reset with threads := [(0, { Thread.reset with st := .running, lastCore := 0 })] } }, 0,
    by decide +kernel⟩,
   ⟨0, 1, .calm, { withCore { core0 with thread := some 0 } with bob := { Bob.reset with threads := [(0, { Thread.reset with st := .running, lastCore := 0 })] } }, 0,
    by decide +kernel⟩,
   ⟨0, 0, .calm, { withCore { core0 with thread := some 0 } with bob := { Bob.reset with threads := [(0, { Thread.reset with st := .running, lastCore := 0 })] } }, 0,
    by decide +kernel⟩,
   ⟨0, 0, .calm, { withCore { core0 with thread := some 0 } with bob := { Bob.reset with threads := [(0, { Thread.reset with st := .running, lastCore := 0 })] } }, 0,
    by decide +kernel⟩,
   ⟨0, 0, .calm, { withCore { core0 with thread := some 0 } with bob := { Bob.reset with threads := [(0, { Thread.reset with st := .running, lastCore := 0 })] } }, 0,
    by decide +kernel⟩⟩

/-- The hypotheses of ThreadCommandsComplete are met, clause by clause. -/
theorem wit_ThreadCommandsComplete :
    (∃ (a : Acc) (s : State),
      regFree a 131140 s = true ∧ bobRuns s = true ∧ bobClosed s = false ∧ bobBusy s = false ∧ a.env.bob = []) ∧
    (∃ (a : Acc) (thread : BitVec 18) (s : State),
      regFree a 131140 s = true ∧ bobRuns s = true ∧ bobClosed s = false ∧ bobBusy s = false ∧ a.env.bob = [] ∧ s.rg64 Reg.BOB_TARG < 256 ∧ (threadOf s thread.toNat).st ≠ TState.unused) ∧
    (∃ (a : Acc) (thread : BitVec 18) (s : State),
      regFree a 131140 s = true ∧ bobRuns s = true ∧ bobClosed s = false ∧ bobBusy s = false ∧ a.env.bob = [] ∧ s.rg64 Reg.BOB_TARG ≠ 0 ∧ s.rg64 Reg.BOB_TARG < 65536 ∧ (threadOf s thread.toNat).st ≠ TState.unused ∧ (∀ (c : Nat), c < 16 → (coreOf s c).chosen ≠ some thread.toNat)) ∧
    (∃ (a : Acc) (thread : BitVec 18) (s : State),
      regFree a 131140 s = true ∧ bobRuns s = true ∧ bobClosed s = false ∧ bobBusy s = false ∧ a.env.bob = [] ∧ s.rg64 Reg.BOB_TARG = 0 ∧ (threadOf s thread.toNat).st ≠ TState.unused) :=
  ⟨⟨inner, runS,
    by decide +kernel⟩,
   ⟨inner, 0, { runS with bob := { runS.bob with threads := [(0, { Thread.reset with st := .dormant, reason := 0 })] } },
    by decide +kernel⟩,
   ⟨inner, 0, ({ runS with bob := { runS.bob with threads := [(0, { Thread.reset with st := .dormant, reason := 0 })] } }).wrg64 Reg.BOB_TARG 3,
    by decide +kernel⟩,
   ⟨inner, 0, { runS with bob := { runS.bob with threads := [(0, { Thread.reset with st := .dormant, reason := 0 })] } },
    by decide +kernel⟩⟩

/-- The hypotheses of BobbinPageAndDispatchComplete are met, clause by clause. -/
theorem wit_BobbinPageAndDispatchComplete :
    (∃ (s : State) (code : Nat) (prior : Nat),
      s.bob.cmd = some (code, prior)) ∧
    (∃ (a : Acc) (s : State),
      regFree a 131168 s = true ∧ bobRuns s = true ∧ bobClosed s = false ∧ a.env.bob = []) ∧
    (∃ (a : Acc) (s : State),
      regFree a 131172 s = true ∧ bobRuns s = true ∧ bobClosed s = false ∧ a.env.bob = []) ∧
    (∃ (a : Acc) (s : State),
      regFree a 131232 s = true ∧ bobRuns s = true ∧ bobClosed s = false ∧ bobBusy s = false ∧ a.env.bob = []) ∧
    (∃ (a : Acc) (s : State) (id : BitVec 12),
      regFree a 131232 s = true ∧ bobRuns s = true ∧ bobClosed s = false ∧ bobBusy s = false ∧ a.env.bob = [] ∧ (semOf s id.toNat).queue = [] ∧ (semOf s id.toNat).owner = none ∧ ((s.rg64 Reg.BOB_OBJ_DATA).testBit 16 = true → nfld (s.rg64 Reg.BOB_OBJ_DATA) 0 16 ≤ 1)) ∧
    (∃ (a : Acc) (s : State) (high : BitVec 32) (f : State),
      f = fitReady s ∧ regFree a 131276 s = true ∧ bobClosed s = false ∧ a.env.bob = [] ∧ sourceAssigned (f.rf Reg.BOB_BIND_SEL 0 13) = true ∧ bindOk (high.toNat * 2 ^ 32 + f.bob.bindLow.toNat) = true) ∧
    (∃ (s : State) (core : Fin 16) (t : Nat),
      (coreOf (settle s) ↑core).chosen = some t ∧ (threadOf (settle s) t).damaged = false) ∧
    (∃ (s : State) (core : Fin 16) (t : Nat),
      (coreOf s ↑core).thread = some t ∧ atDispatchPoint s ↑core = true ∧ (threadOf s t).st ≠ TState.running) ∧
    (∃ (s : State) (core : Fin 16) (t : Nat),
      (coreOf s ↑core).thread = some t ∧ s.rf Reg.BOB_CFG 16 16 ≠ 0 ∧ s.rf Reg.BOB_CFG 8 8 ≤ (threadOf s t).eff ∧ (threadOf s t).lastDispatch + s.rf Reg.BOB_CFG 16 16 * 1000 ≤ s.now) ∧
    (∃ (s : State) (thread : BitVec 18) (slot : Nat) (d : Nat),
      bobRuns s = true ∧ (threadOf s thread.toNat).timer = some (slot, d) ∧ (threadOf s thread.toNat).st = TState.waiting ∧ d ≤ s.now) ∧
    (∃ (s : State) (n : Nat),
      bobRuns s = true ∧ bobClosed s = false ∧ s.bob.latches = [n]) ∧
    (∃ (s : State) (t : Nat) (l : List Nat),
      bobRuns s = true ∧ bobClosed s = false ∧ overflowed s = t :: l ∧ List.filter (fun x => decide (s.bob.lastRec < x)) (overflowed s) = [] ∧ 64 ≤ freeBlocks s) :=
  ⟨⟨{ runS with bob := { Bob.reset with cmd := some (0, 1) } }, 0, 1,
    by decide +kernel⟩,
   ⟨inner, runS,
    by decide +kernel⟩,
   ⟨inner, runS,
    by decide +kernel⟩,
   ⟨inner, runS,
    by decide +kernel⟩,
   ⟨inner, runS, 0,
    by decide +kernel⟩,
   ⟨inner, State.reset, 0, _,
    rfl, by decide +kernel⟩,
   ⟨withCore { core0 with joined := true, waiting := true, chosen := some 0 }, 0, 0,
    by decide +kernel⟩,
   ⟨{ withCore { core0 with thread := some 0, ctx := { Ctx.reset with prv := 0 } } with bob := { Bob.reset with threads := [(0, { Thread.reset with st := .waiting })] } }, 0, 0,
    by decide +kernel⟩,
   ⟨(({ withCore { core0 with thread := some 0 } with bob := { Bob.reset with threads := [(0, { Thread.reset with st := .running, lastCore := 0 })] } }).wrg Reg.BOB_CFG 0x10000).wrg64 Reg.TIM_NOW 1000, 0, 0,
    by decide +kernel⟩,
   ⟨{ runS with bob := { Bob.reset with threads := [(0, { Thread.reset with st := .waiting, reason := 2, timer := some (3, 0) })] } }, 0, 3, 0,
    by decide +kernel⟩,
   ⟨{ runS with bob := { Bob.reset with latches := [5] } }, 5,
    by decide +kernel⟩,
   ⟨{ runS with bob := { runS.bob with threads := [(0, { Thread.reset with st := .waiting, reason := 5 })] } }, 0, [],
    by decide +kernel⟩⟩

/-- The hypotheses of SpoolComplete are met, clause by clause. -/
theorem wit_SpoolComplete :
    (∃ (s : State),
      bobRuns s = true ∧ s.bob.flushing = false ∧ spillMark s ≤ onChip s) ∧
    (∃ (s : State) (b : SpBlock) (l : List SpBlock),
      bobRuns s = true ∧ s.bob.flushing = false ∧ s.bob.blocks = b :: l ∧ onChip s ≤ refillMark s ∧ rebuilding s b.level = false ∧ s.ram.bad = []) ∧
    (∃ (s : State) (core : Fin 16) (e : Entry),
      coreFree s ↑core = true ∧ dispatchOn s = true ∧ s.bob.blocks.isEmpty = false ∧ s.bob.missed.contains ↑core = false ∧ s.bob.rebuild = [] ∧ s.ram.bad = [] ∧ (∀ (x : Entry), x ∈ readyOrder s → x.held = none → (threadOf s x.thread).aff.testBit ↑core = false) ∧ List.find? (fun e => current s e && (threadOf s e.thread).aff.testBit ↑core) (List.take (searchLen s) (List.flatMap (fun x => x.entries) s.bob.blocks)) = some e) ∧
    (∃ (s : State) (block : Fin 32768) (b : SpBlock),
      List.find? (fun b => b.num == ↑block) s.bob.blocks = some b) :=
  ⟨⟨runS.wrg Reg.SPL_CFG 0,
    by decide +kernel⟩,
   ⟨{ runS with bob := { Bob.reset with blocks := [⟨7, 0, false, [⟨0, 0, 0, 0, 1, 0, 0, none⟩]⟩] } }, ⟨7, 0, false, [⟨0, 0, 0, 0, 1, 0, 0, none⟩]⟩, [],
    by decide +kernel⟩,
   ⟨{ withCore { core0 with joined := true, waiting := true } with bob := { Bob.reset with blocks := [⟨7, 0, false, [⟨0, 0, 0, 0, 1, 0, 0, none⟩]⟩], threads := [(0, { Thread.reset with st := .ready, aff := 1 })] } }, 0, ⟨0, 0, 0, 0, 1, 0, 0, none⟩,
    by decide +kernel⟩,
   ⟨{ runS with bob := { Bob.reset with blocks := [⟨7, 0, false, [⟨0, 0, 0, 0, 1, 0, 0, none⟩]⟩] } }, 7, ⟨7, 0, false, [⟨0, 0, 0, 0, 1, 0, 0, none⟩]⟩,
    by decide +kernel⟩⟩

/-- The hypotheses of MemoryCommandsComplete are met, clause by clause. -/
theorem wit_MemoryCommandsComplete :
    (∃ (s : State) (init : Initiator) (addr : Nat) (n : Nat) (value : BitVec 128),
      inSram addr = true ∧ memLive s { init := init, rw := Rw.write, addr := addr, bytes := n, value := value } = true ∧ wayFree init 2 addr n s = true) ∧
    (∃ (s : State) (init : Initiator) (addr : Nat) (n : Nat) (value : BitVec 128),
      inSram addr = true ∧ memLive s { init := init, rw := Rw.read, addr := addr, bytes := n, value := value } = true ∧ wayFree init 1 addr n s = true ∧ s.ram.bad = []) ∧
    (∃ (s : State) (init : Initiator) (addr : Nat) (n : Nat) (value : BitVec 128),
      zoneOf addr = Zone.dram ∧ memLive s { init := init, rw := Rw.write, addr := addr, bytes := n, value := value } = true ∧ wayFree init 2 addr n s = true) ∧
    (∃ (s : State) (init : Initiator) (addr : Nat) (n : Nat) (value : BitVec 128),
      zoneOf addr = Zone.store ∧ memLive s { init := init, rw := Rw.write, addr := addr, bytes := n, value := value } = true ∧ wayFree init 2 addr n s = true) ∧
    (∃ (s : State),
      s.ram.fillOn = true ∧ s.ram.fillNext + 1 < 8192 ∧ s.ram.selfRefresh = false) ∧
    (∃ (s : State),
      [Mode.run, Mode.doze, Mode.safe].contains s.mode = true ∧ s.ram.lastReq.getD 0 + 1000 ≤ s.now) ∧
    (∃ (s : State),
      [Mode.run, Mode.service, Mode.swap, Mode.hemLoad, Mode.doze, Mode.safe].contains s.mode = true ∧ s.rb Reg.MEM_CFG 0 = true ∧ s.ram.selfRefresh = false ∧ s.ram.bad = [] ∧ s.ram.scrubWord + 1 < 67108864 ∧ (s.ram.scrubWord ≠ 0 ∨ s.ram.scrubOn = true ∨ s.ram.scrubAge = none ∨ ∃ a, s.ram.scrubAge = some a ∧ scrubPeriod s ≤ a)) ∧
    (∃ (s : State),
      s.ram.hour < s.now / 3600000000000 ∧ s.flt.hour ≠ hourOf s.now) :=
  ⟨⟨State.reset, .thimble, 0x20000000, 8, 0,
    by decide +kernel⟩,
   ⟨State.reset, .thimble, 0x20000000, 8, 0,
    by decide +kernel⟩,
   ⟨coreS, .core 0, 0x89000000, 8, 0,
    by decide +kernel⟩,
   ⟨runS, .bobbin, 0x80000000, 8, 0,
    by decide +kernel⟩,
   ⟨{ runS with ram := { Mem.reset with fillOn := true } },
    by decide +kernel⟩,
   ⟨runS.wrg64 Reg.TIM_NOW 1000,
    by decide +kernel⟩,
   ⟨runS,
    by decide +kernel⟩,
   ⟨runS.wrg64 Reg.TIM_NOW 3600000000000,
    by decide +kernel⟩⟩

/-- The hypotheses of FlashQueueAndRefreshComplete are met, clause by clause. -/
theorem wit_FlashQueueAndRefreshComplete :
    (∃ (a : Acc) (s : State),
      regFree a 147540 s = true) ∧
    (∃ (s : State) (tail : Nat) (addr : Nat),
      tail = s.rf Reg.FLS_DQ_TAIL 0 12 % 2 ^ ringLog s ∧ addr = s.rg64 Reg.FLS_DQ_BASE + 32 * tail ∧ s.rb Reg.FLS_DQ_CTRL 31 = true ∧ s.rf Reg.FLS_DQ_HEAD 0 12 % 2 ^ ringLog s ≠ tail ∧ (∀ (d : Desc), s.fls.descs.head? = some d → (tail + 2 ^ ringLog s - d.idx) % 2 ^ ringLog s ≤ 16) ∧ s.fls.paused = none ∧ s.fls.stopReset = false ∧ [Mode.safe, Mode.nap, Mode.hibernate].contains s.mode = false ∧ inUserMem (s.rg64 Reg.FLS_DQ_BASE) (32 * 2 ^ ringLog s) = true ∧ s.ram.bad = [] ∧ 1 ≤ readLe s addr 1 ∧ readLe s addr 1 ≤ 10) ∧
    (∃ (a : Acc) (s : State),
      regFree a 147548 s = true) ∧
    (∃ (a : Acc) (s : State),
      regFree a 147556 s = true) ∧
    (∃ (s : State) (init : Initiator) (addr : Nat) (n : Nat),
      sends s init = true ∧ addr < 67108864 ∧ servedAt s init Zone.flash false true = true ∧ wayFree init 1 addr n s = true ∧ flashBusy s addr = false ∧ s.ram.bad = []) ∧
    (∃ (s : State),
      s.fls.rfLast = none ∧ [Mode.run, Mode.service, Mode.doze, Mode.safe].contains s.mode = true ∧ s.fls.rfOn = false) ∧
    (∃ (s : State),
      s.fls.rfOn = true ∧ opMode s = Mode.run ∧ s.fls.paused = none ∧ s.fls.rfUnit < 1024 ∧ (fbank s (s.fls.rfUnit / 128)).st = 0 ∧ s.rb Reg.FLS_REFRESH_HOLD (s.fls.rfUnit / 128) = false ∧ s.fls.rfCopy = none ∧ s.ram.bad = [] ∧ s.fls.weak.contains s.fls.rfUnit = false) ∧
    (∃ (s : State) (p : Nat),
      s.fls.rfOn = true ∧ opMode s = Mode.run ∧ s.fls.paused = none ∧ s.fls.rfUnit < 1024 ∧ (fbank s (s.fls.rfUnit / 128)).st = 0 ∧ s.rb Reg.FLS_REFRESH_HOLD (s.fls.rfUnit / 128) = false ∧ s.fls.rfCopy = none ∧ s.ram.bad = [] ∧ pickSpare s.bump (s.fls.rfUnit / 128) = some p) ∧
    (∃ (s : State) (v : Nat) (p : Nat),
      s.fls.rfOn = true ∧ opMode s = Mode.run ∧ s.fls.paused = none ∧ s.fls.rfUnit < 1024 ∧ (fbank s (s.fls.rfUnit / 128)).st = 0 ∧ s.rb Reg.FLS_REFRESH_HOLD (s.fls.rfUnit / 128) = false ∧ s.fls.rfCopy = some (v, p)) ∧
    (∃ (s : State),
      (∀ (b : Nat), b < 8 → s.rb Reg.FLS_REFRESH_HOLD b = true → s.now < sget (fun x => 0) s.fls.holdAt b + 86400000000000)) ∧
    (∃ (s : State) (b : Nat),
      b < 8 ∧ s.rb Reg.FLS_REFRESH_HOLD b = true ∧ sget (fun x => 0) s.fls.holdAt b + 86400000000000 ≤ s.now) :=
  ⟨⟨inner, State.reset,
    by decide +kernel⟩,
   ⟨{ ((runS.wrg Reg.FLS_DQ_CTRL 0x80000000).wrg Reg.FLS_DQ_HEAD 1).wrg64 Reg.FLS_DQ_BASE 0x20000000 with mem := [⟨0x20000000, 1⟩] }, _, _,
    rfl, rfl, by decide +kernel⟩,
   ⟨inner, State.reset,
    by decide +kernel⟩,
   ⟨inner, State.reset,
    by decide +kernel⟩,
   ⟨State.reset, .thimble, 0, 0,
    by decide +kernel⟩,
   ⟨runS,
    by decide +kernel⟩,
   ⟨{ runS with fls := { Fls.reset with rfOn := true } },
    by decide +kernel⟩,
   ⟨spareS, 1039,
    ⟨by decide +kernel, by decide +kernel, by decide +kernel, by decide +kernel, by decide +kernel, by decide +kernel, by decide +kernel, by decide +kernel, pickSpare_last⟩⟩,
   ⟨{ runS with fls := { Fls.reset with rfOn := true, rfCopy := some (0, 1024) } }, 0, 1024,
    by decide +kernel⟩,
   ⟨State.reset,
    by decide +kernel⟩,
   ⟨(runS.wrg Reg.FLS_REFRESH_HOLD 1).wrg64 Reg.TIM_NOW 86400000000000, 0,
    by decide +kernel⟩⟩

/-- The hypotheses of FlashDescriptorsComplete are met, clause by clause. -/
theorem wit_FlashDescriptorsComplete :
    (∃ (s : State) (f : State) (bank : Fin 8) (env : FlashEnv) (d : Desc) (b : State) (data : List Byte),
      f = fitFlash (↑bank) s ∧ env.rivals = [] ∧ descFieldsOk d = true ∧ d.addr < 67108864 ∧ startable s 1 ↑bank = some d ∧ (fbank s ↑bank).st = 0 ∧ pagesOk d 256 65536 = true ∧ (protectedIn f d.addr 1).isSome = false ∧ s.fls.unusable.contains (sectorAt d.addr) = false ∧ bufRead f d env = (b, some data) ∧ notErased b d.addr data = none) ∧
    (∃ (s : State) (f : State) (bank : Fin 8) (env : FlashEnv) (d : Desc),
      f = fitFlash (↑bank) s ∧ env.rivals = [] ∧ descFieldsOk d = true ∧ d.addr < 67108864 ∧ startable s 2 ↑bank = some d ∧ (fbank s ↑bank).st = 0 ∧ 1 ≤ d.count ∧ d.addr % 65536 = 0 ∧ sectorAt d.addr % 128 + d.count ≤ 128 ∧ protectedIn f d.addr d.count = none ∧ List.find? (fun i => s.fls.unusable.contains (sectorAt d.addr + i)) (List.range d.count) = none) ∧
    (∃ (s : State) (f : State) (bank : Fin 8) (env : FlashEnv) (d : Desc),
      f = fitFlash (↑bank) s ∧ env.rivals = [] ∧ descFieldsOk d = true ∧ d.addr < 67108864 ∧ startable s 3 ↑bank = some d ∧ (fbank s ↑bank).st = 0 ∧ pagesOk d 256 65536 = true ∧ f.ram.bad = [] ∧ env.eccAt = none ∧ notBlank f d.addr d.count = none) ∧
    (∃ (s : State) (f : State) (bank : Fin 8) (env : FlashEnv) (d : Desc) (b : State) (data : List Byte),
      f = fitFlash (↑bank) s ∧ env.rivals = [] ∧ descFieldsOk d = true ∧ d.addr < 67108864 ∧ startable s 4 ↑bank = some d ∧ (fbank s ↑bank).st = 0 ∧ pagesOk d 256 65536 = true ∧ env.eccAt = none ∧ bufRead f d env = (b, some data) ∧ b.ram.bad = [] ∧ List.find? (fun i => readBytes b (d.addr + 256 * i) 256 != List.take 256 (List.drop (256 * i) data)) (List.range d.count) = none) ∧
    (∃ (s : State) (f : State) (bank : Fin 8) (env : FlashEnv) (d : Desc),
      f = fitFlash (↑bank) s ∧ env.rivals = [] ∧ descFieldsOk d = true ∧ d.addr < 67108864 ∧ startable s 5 ↑bank = some d ∧ (fbank s ↑bank).st = 0 ∧ d.count = 1 ∧ (protectedIn f d.addr 1).isSome = false) ∧
    (∃ (s : State) (f : State) (bank : Fin 8) (env : FlashEnv) (d : Desc) (o : FlsOp),
      f = fitFlash (↑bank) s ∧ env.rivals = [] ∧ descFieldsOk d = true ∧ d.addr < 67108864 ∧ s.fls.paused = none ∧ (fbank s ↑bank).st = 3 ∧ (fbank s ↑bank).op = some o ∧ o.pos + 1 < o.count) ∧
    (∃ (s : State) (bank : Fin 8) (env : FlashEnv) (reqs : List Nat),
      reqs = startRivals s (↑bank) env.rivals ∧ startable s 1 ↑bank = none) ∧
    (∃ (s : State) (bank : Fin 8) (env : FlashEnv) (reqs : List Nat),
      reqs = startRivals s (↑bank) env.rivals ∧ startable s 2 ↑bank = none) ∧
    (∃ (s : State) (bank : Fin 8) (env : FlashEnv) (reqs : List Nat),
      reqs = startRivals s (↑bank) env.rivals ∧ startable s 5 ↑bank = none) ∧
    (∃ (s : State) (bank : Fin 8) (env : FlashEnv) (reqs : List Nat),
      reqs = startRivals s (↑bank) env.rivals ∧ reqs.length < 2) ∧
    (∃ (s : State) (bank : Fin 8) (env : FlashEnv) (reqs : List Nat),
      reqs = startRivals s (↑bank) env.rivals ∧ 2 ≤ reqs.length) ∧
    (∃ (s : State) (d : Desc),
      descFieldsOk d = true ∧ startable s 6 8 = some d ∧ s.fls.opt = none ∧ d.count = 1 ∧ d.addr < 8192 ∧ optAllowed s = true ∧ optCurrent s d.addr = false) ∧
    (∃ (s : State) (env : FlashEnv) (d : Desc) (b : State) (data : List Byte),
      descFieldsOk d = true ∧ startable s 7 8 = some d ∧ s.fls.opt = none ∧ pagesOk d 16 4096 = true ∧ d.addr < 8192 ∧ optAllowed s = true ∧ optCurrent s d.addr = false ∧ bufRead s d env = (b, some data) ∧ notErased b (67108864 + d.addr) data = none) ∧
    (∃ (s : State) (d : Desc),
      descFieldsOk d = true ∧ startable s 8 8 = some d ∧ s.fls.opt = none ∧ d.count = 0 ∧ d.addr ≤ 1 ∧ d.addr ≠ bootSlot s) ∧
    (∃ (s : State) (d : Desc),
      descFieldsOk d = true ∧ startable s 9 8 = some d ∧ s.fls.opt = none ∧ d.count = 0 ∧ d.addr ≤ 1 ∧ slotState s d.addr = 1) ∧
    (∃ (s : State) (d : Desc),
      descFieldsOk d = true ∧ startable s 10 8 = some d ∧ d.count = 0 ∧ d.addr = 0) :=
  ⟨⟨({ runS with fls := { Fls.reset with descs := [⟨0, 0, 1, 0, 1, 0x10000, 0x20000000, false⟩] } }).wrg (Reg.FLS_WP 0) 0, _, 0, ⟨none, false, true, []⟩, ⟨0, 0, 1, 0, 1, 0x10000, 0x20000000, false⟩, ({ runS with fls := { Fls.reset with descs := [⟨0, 0, 1, 0, 1, 0x10000, 0x20000000, false⟩] } }).wrg (Reg.FLS_WP 0) 0, List.replicate 256 0,
    rfl, by decide +kernel⟩,
   ⟨({ runS with fls := { Fls.reset with descs := [⟨0, 0, 2, 0, 1, 0x10000, 0x20000000, false⟩] } }).wrg (Reg.FLS_WP 0) 0, _, 0, ⟨none, false, true, []⟩, ⟨0, 0, 2, 0, 1, 0x10000, 0x20000000, false⟩,
    rfl, by decide +kernel⟩,
   ⟨{ runS with fls := { Fls.reset with descs := [⟨0, 0, 3, 0, 1, 0x10000, 0x20000000, false⟩] } }, _, 0, ⟨none, false, true, []⟩, ⟨0, 0, 3, 0, 1, 0x10000, 0x20000000, false⟩,
    rfl, by decide +kernel⟩,
   ⟨{ runS with mem := (List.range 256).map fun i => ⟨0x20000000 + i, 0xFF⟩, fls := { Fls.reset with descs := [⟨0, 0, 4, 0, 1, 0x10000, 0x20000000, false⟩] } }, _, 0, ⟨none, false, true, []⟩, ⟨0, 0, 4, 0, 1, 0x10000, 0x20000000, false⟩, { runS with mem := (List.range 256).map fun i => ⟨0x20000000 + i, 0xFF⟩, fls := { Fls.reset with descs := [⟨0, 0, 4, 0, 1, 0x10000, 0x20000000, false⟩] } }, List.replicate 256 0xFF,
    rfl, by decide +kernel⟩,
   ⟨({ runS with fls := { Fls.reset with descs := [⟨0, 0, 5, 0, 1, 0x10000, 0x20000000, false⟩] } }).wrg (Reg.FLS_WP 0) 0, _, 0, ⟨none, false, true, []⟩, ⟨0, 0, 5, 0, 1, 0x10000, 0x20000000, false⟩,
    rfl, by decide +kernel⟩,
   ⟨{ runS with fls := { Fls.reset with banks := [(0, { FlsBank.reset with st := 3, op := some ⟨none, 2, 0, 2, 0, 0, []⟩ })] } }, _, 0, ⟨none, false, true, []⟩, ⟨0, 0, 2, 0, 2, 0x10000, 0x20000000, false⟩, ⟨none, 2, 0, 2, 0, 0, []⟩,
    rfl, by decide +kernel⟩,
   ⟨State.reset, 0, ⟨none, false, true, []⟩, _,
    rfl, by decide +kernel⟩,
   ⟨State.reset, 0, ⟨none, false, true, []⟩, _,
    rfl, by decide +kernel⟩,
   ⟨State.reset, 0, ⟨none, false, true, []⟩, _,
    rfl, by decide +kernel⟩,
   ⟨State.reset, 0, ⟨none, false, true, []⟩, _,
    rfl, by decide +kernel⟩,
   ⟨{ runS with fls := { Fls.reset with rfOn := true } }, 0, ⟨none, false, true, [2, 3]⟩, _,
    rfl, by decide +kernel⟩,
   ⟨({ runS with fls := { Fls.reset with descs := [⟨0, 0, 6, 0, 1, 0, 0x20000000, false⟩] } }).wrg Reg.FLS_CFG 4, ⟨0, 0, 6, 0, 1, 0, 0x20000000, false⟩,
    by decide +kernel⟩,
   ⟨({ runS with fls := { Fls.reset with descs := [⟨0, 0, 7, 0, 1, 0, 0x20000000, false⟩] } }).wrg Reg.FLS_CFG 4, ⟨none, false, true, []⟩, ⟨0, 0, 7, 0, 1, 0, 0x20000000, false⟩, ({ runS with fls := { Fls.reset with descs := [⟨0, 0, 7, 0, 1, 0, 0x20000000, false⟩] } }).wrg Reg.FLS_CFG 4, List.replicate 256 0,
    by decide +kernel⟩,
   ⟨{ runS with fls := { Fls.reset with descs := [⟨0, 0, 8, 0, 0, 1, 0x20000000, false⟩] } }, ⟨0, 0, 8, 0, 0, 1, 0x20000000, false⟩,
    by decide +kernel⟩,
   ⟨jWrite (halfAt 0) 2 1 0 5 ({ runS with fls := { Fls.reset with descs := [⟨0, 0, 9, 0, 0, 1, 0x20000000, false⟩] } }), ⟨0, 0, 9, 0, 0, 1, 0x20000000, false⟩,
    by decide +kernel⟩,
   ⟨{ runS with fls := { Fls.reset with descs := [⟨0, 0, 10, 0, 0, 0, 0x20000000, false⟩] } }, ⟨0, 0, 10, 0, 0, 0, 0x20000000, false⟩,
    by decide +kernel⟩⟩

/-- The hypotheses of QueuePortsComplete are met, clause by clause. -/
theorem wit_QueuePortsComplete :
    (∃ (init : Initiator) (queue : Fin 64) (beat : BeatEnv) (s : State) (value : DWord) (v : State) (x : Que) (t : State),
      v = seeReads (↑queue) beat.lag (queWaited init (↑queue) (fitQueue (↑queue) s)) ∧ x = queOf v ↑queue ∧ t = (pushWord (↑queue) (queRequester init) value v).fst ∧ beat.ecc = Ecc.none ∧ beatFree init (↑queue) 2 0 beat s = true ∧ isProd s (↑queue) init = true ∧ 1 ≤ tagOf value ∧ tagOf value ≤ 4 ∧ nfld (BitVec.toNat value) 48 4 = 0 ∧ packetOk x (queRequester init) (tagOf value) = true ∧ queFull v ↑queue = false ∧ queResetting v ↑queue = false) ∧
    (∃ (init : Initiator) (queue : Fin 64) (beat : BeatEnv) (s : State) (value : DWord) (v : State) (x : Que) (t : State),
      v = seeReads (↑queue) beat.lag (queWaited init (↑queue) (fitQueue (↑queue) s)) ∧ x = queOf v ↑queue ∧ t = (pushWord (↑queue) (queRequester init) value v).fst ∧ beat.ecc = Ecc.none ∧ beatFree init (↑queue) 2 0 beat s = true ∧ isProd s (↑queue) init = true ∧ 1 ≤ tagOf value ∧ tagOf value ≤ 4 ∧ nfld (BitVec.toNat value) 48 4 = 0 ∧ packetOk x (queRequester init) (tagOf value) = true ∧ queFull v ↑queue = false ∧ queResetting v ↑queue = false ∧ x.flush = none) ∧
    (∃ (init : Initiator) (queue : Fin 64) (beat : BeatEnv) (s : State) (v : State) (x : Que),
      v = consReady (↑queue) (seeWrites (↑queue) beat.lag (queWaited init (↑queue) (fitQueue (↑queue) s))) ∧ x = queOf v ↑queue ∧ beat.ecc = Ecc.none ∧ beatFree init (↑queue) 1 256 beat s = true ∧ isCons s (↑queue) init = true ∧ x.errWord = none ∧ queEmpty v ↑queue = true) ∧
    (∃ (init : Initiator) (queue : Fin 64) (beat : BeatEnv) (s : State) (v : State) (x : Que),
      v = consReady (↑queue) (seeWrites (↑queue) beat.lag (queWaited init (↑queue) (fitQueue (↑queue) s))) ∧ x = queOf v ↑queue ∧ beat.ecc = Ecc.none ∧ beatFree init (↑queue) 1 256 beat s = true ∧ isCons s (↑queue) init = true ∧ x.errWord = none ∧ x.flush = none ∧ sorted v ↑queue = false ∧ x.bad = [] ∧ queEmpty v ↑queue = false) ∧
    (∃ (init : Initiator) (queue : Fin 64) (beat : BeatEnv) (s : State) (v : State) (x : Que),
      v = consReady (↑queue) (seeWrites (↑queue) beat.lag (queWaited init (↑queue) s)) ∧ x = queOf v ↑queue ∧ beat.ecc = Ecc.none ∧ beatFree init (↑queue) 1 480 beat s = true ∧ isCons s (↑queue) init = true ∧ x.errWord = none ∧ queEmpty v ↑queue = true) ∧
    (∃ (init : Initiator) (queue : Fin 64) (beat : BeatEnv) (s : State) (v : State) (x : Que),
      v = consReady (↑queue) (seeWrites (↑queue) beat.lag (queWaited init (↑queue) s)) ∧ x = queOf v ↑queue ∧ beat.ecc = Ecc.none ∧ beatFree init (↑queue) 1 480 beat s = true ∧ isCons s (↑queue) init = true ∧ x.errWord = none ∧ x.flush = none ∧ sorted v ↑queue = false ∧ x.bad = [] ∧ queEmpty v ↑queue = false) ∧
    (∃ (init : Initiator) (queue : Fin 64) (beat : BeatEnv) (s : State) (v : State) (x : Que),
      v = queSeen init (↑queue) beat s ∧ x = queOf v ↑queue ∧ beatFree init (↑queue) 2 482 beat s = true ∧ x.shake = none ∧ x.flush = none ∧ isCons s (↑queue) init = true ∧ sorted v ↑queue = false) ∧
    (∃ (init : Initiator) (queue : Fin 64) (beat : BeatEnv) (s : State) (v : State) (x : Que) (t : State),
      v = queSeen init (↑queue) beat s ∧ x = queOf v ↑queue ∧ t = setQue ↑queue { x with shake := some { op := ShakeOp.rewind, side := 0, who := some (queRequester init), ptr := x.rptr, t0 := v.now } } v ∧ beatFree init (↑queue) 2 482 beat s = true ∧ x.shake = none ∧ x.flush = none ∧ isCons s (↑queue) init = true ∧ sorted v ↑queue = false ∧ (x.mark.isSome = true ∨ x.markLost = true)) ∧
    (∃ (init : Initiator) (queue : Fin 64) (beat : BeatEnv) (s : State) (v : State) (x : Que),
      v = queSeen init (↑queue) beat s ∧ x = queOf v ↑queue ∧ beatFree init (↑queue) 2 482 beat s = true ∧ x.shake = none ∧ x.flush = none ∧ isCons s (↑queue) init = true) ∧
    (∃ (init : Initiator) (queue : Fin 64) (beat : BeatEnv) (s : State) (v : State) (x : Que) (t : State) (force : Bool),
      v = queSeen init (↑queue) beat s ∧ x = queOf v ↑queue ∧ t = startFlush (↑queue) (queSide init (↑queue) s) (some (queRequester init)) force v ∧ force = false ∧ beatFree init (↑queue) 2 482 beat s = true ∧ x.shake = none ∧ x.flush = none) ∧
    (∃ (init : Initiator) (queue : Fin 64) (beat : BeatEnv) (s : State) (v : State) (x : Que) (t : State) (force : Bool),
      v = queSeen init (↑queue) beat s ∧ x = queOf v ↑queue ∧ t = startFlush (↑queue) (queSide init (↑queue) s) (some (queRequester init)) force v ∧ force = true ∧ beatFree init (↑queue) 2 482 beat s = true ∧ x.shake = none ∧ x.flush = none) ∧
    (∃ (init : Initiator) (queue : Fin 64) (beat : BeatEnv) (s : State) (v : State) (x : Que) (t : State) (force : Bool),
      v = queSeen init (↑queue) beat s ∧ x = queOf v ↑queue ∧ t = startFlush (↑queue) (queSide init (↑queue) s) (some (queRequester init)) force v ∧ beatFree init (↑queue) 2 482 beat s = true ∧ x.shake = none ∧ x.flush = none ∧ x.wSeen < 2 * depth v ↑queue) ∧
    (∃ (init : Initiator) (queue : Fin 64) (beat : BeatEnv) (s : State) (v : State) (x : Que) (t : State) (force : Bool),
      v = queSeen init (↑queue) beat s ∧ x = queOf v ↑queue ∧ t = startFlush (↑queue) (queSide init (↑queue) s) (some (queRequester init)) force v ∧ beatFree init (↑queue) 2 482 beat s = true ∧ x.shake = none ∧ x.flush = none ∧ oneClock v ↑queue = false) :=
  ⟨⟨.core 0, 0, .calm, coreS.wrg (Reg.QUE_CFG 0) 0x80000000, 0x1000000000000000, _, _, _,
    rfl, rfl, rfl, by decide +kernel⟩,
   ⟨.core 0, 0, .calm, coreS.wrg (Reg.QUE_CFG 0) 0x80000000, 0x1000000000000000, _, _, _,
    rfl, rfl, rfl, by decide +kernel⟩,
   ⟨.core 0, 0, .calm, coreS.wrg (Reg.QUE_CFG 0) 0x80000000, _, _,
    rfl, rfl, by decide +kernel⟩,
   ⟨.core 0, 0, .calm, { (coreS.wrg (Reg.QUE_CFG 0) 0x80000000) with ques := [(0, { Que.reset with ram := [(0, 1)], wptr := 1, wSeen := 1 })] }, _, _,
    rfl, rfl, by decide +kernel⟩,
   ⟨.core 0, 0, .calm, coreS.wrg (Reg.QUE_CFG 0) 0x80000000, _, _,
    rfl, rfl, by decide +kernel⟩,
   ⟨.core 0, 0, .calm, { (coreS.wrg (Reg.QUE_CFG 0) 0x80000000) with ques := [(0, { Que.reset with ram := [(0, 1)], wptr := 1, wSeen := 1 })] }, _, _,
    rfl, rfl, by decide +kernel⟩,
   ⟨.core 0, 0, .calm, { (coreS.wrg (Reg.QUE_CFG 0) 0x80000000) with ques := [(0, { Que.reset with ram := [(0, 1)], wptr := 1, wSeen := 1 })] }, _, _,
    rfl, rfl, by decide +kernel⟩,
   ⟨.core 0, 0, .calm, { (coreS.wrg (Reg.QUE_CFG 0) 0x80000000) with ques := [(0, { Que.reset with ram := [(0, 1)], wptr := 1, wSeen := 1, mark := some 0 })] }, _, _, _,
    rfl, rfl, rfl, by decide +kernel⟩,
   ⟨.core 0, 0, .calm, { (coreS.wrg (Reg.QUE_CFG 0) 0x80000000) with ques := [(0, { Que.reset with ram := [(0, 1)], wptr := 1, wSeen := 1 })] }, _, _,
    rfl, rfl, by decide +kernel⟩,
   ⟨.core 0, 0, .calm, coreS.wrg (Reg.QUE_CFG 0) 0x80000000, _, _, _, _,
    rfl, rfl, rfl, rfl, by decide +kernel⟩,
   ⟨.core 0, 0, .calm, coreS.wrg (Reg.QUE_CFG 0) 0x80000000, _, _, _, _,
    rfl, rfl, rfl, rfl, by decide +kernel⟩,
   ⟨.core 0, 0, .calm, coreS.wrg (Reg.QUE_CFG 0) 0x80000000, _, _, _, false,
    rfl, rfl, rfl, by decide +kernel⟩,
   ⟨.core 0, 0, .calm, coreS.wrg (Reg.QUE_CFG 0) 0x80400000, _, _, _, false,
    rfl, rfl, rfl, by decide +kernel⟩⟩

/-- The hypotheses of QueueControlComplete are met, clause by clause. -/
theorem wit_QueueControlComplete :
    (∃ (queue : Fin 64) (s : State) (x : Que) (r : FlushReq),
      x = queOf s ↑queue ∧ queClocked s = true ∧ x.flush = some r ∧ (r.reached = true ∨ maySee s (↑queue) (pside s ↑queue) r.t0 = true) ∧ (r.force = true ∨ x.owner = none) ∧ x.shake = none) ∧
    (∃ (queue : Fin 64) (s : State) (x : Que) (w : Option Nat) (p : Nat) (t : Nat),
      x = queOf s ↑queue ∧ queClocked s = true ∧ x.shake = some { op := ShakeOp.mark, side := 0, who := w, ptr := p, t0 := t }) ∧
    (∃ (queue : Fin 64) (s : State) (x : Que) (w : Option Nat) (p : Nat) (t : Nat),
      x = queOf s ↑queue ∧ queClocked s = true ∧ x.shake = some { op := ShakeOp.rewound, side := 0, who := w, ptr := p, t0 := t }) ∧
    (∃ (queue : Fin 64) (s : State) (x : Que) (w : Option Nat) (p : Nat) (t : Nat) (seen : Nat),
      x = queOf s ↑queue ∧ seen = (if between (depth s ↑queue) x.wptr p < between (depth s ↑queue) x.wptr x.wSeen then p else x.wSeen) ∧ queClocked s = true ∧ x.shake = some { op := ShakeOp.flush, side := 0, who := w, ptr := p, t0 := t }) ∧
    (∃ (queue : Fin 64) (s : State) (x : Que) (a : Acc),
      x = queOf s ↑queue ∧ regFree a (Reg.QUE_CMD ↑queue) s = true ∧ joined s ↑queue = false) ∧
    (∃ (queue : Fin 64) (s : State) (x : Que) (a : Acc) (value : Word),
      x = queOf s ↑queue ∧ regFree a (Reg.QUE_CFG ↑queue) s = true ∧ joined s ↑queue = false ∧ (queCfgWrite (↑queue) value s).snd = true) ∧
    (∃ (queue : Fin 64) (s : State) (x : Que) (lag : Nat) (n : Nat) (v : State),
      x = queOf s ↑queue ∧ n = seenOf s (↑queue) (cside s ↑queue) x.wTimes lag ∧ v = setQue ↑queue { x with wSeen := (x.wSeen + n) % (2 * depth s ↑queue), wTimes := List.drop n x.wTimes } s ∧ queClocked s = true ∧ s.rf (Reg.QUE_THRESH ↑queue) 0 15 = 0) ∧
    (∃ (queue : Fin 64) (s : State) (x : Que) (lag : Nat) (n : Nat) (v : State),
      x = queOf s ↑queue ∧ n = seenOf s (↑queue) (cside s ↑queue) x.wTimes lag ∧ v = setQue ↑queue { x with wSeen := (x.wSeen + n) % (2 * depth s ↑queue), wTimes := List.drop n x.wTimes } s ∧ queClocked s = true ∧ x.armed = true ∧ 0 < s.rf (Reg.QUE_THRESH ↑queue) 0 15 ∧ s.rf (Reg.QUE_THRESH ↑queue) 0 15 ≤ consCount v ↑queue) ∧
    (∃ (queue : Fin 64) (s : State) (x : Que),
      x = queOf s ↑queue ∧ queClocked s = true ∧ joined s ↑queue = false) :=
  ⟨⟨0, { (coreS.wrg (Reg.QUE_CFG 0) 0x80000000) with ques := [(0, { Que.reset with flush := some ⟨0, some 0, true, true, 0⟩ })] }, _, ⟨0, some 0, true, true, 0⟩,
    rfl, by decide +kernel⟩,
   ⟨0, { (coreS.wrg (Reg.QUE_CFG 0) 0x80000000) with ques := [(0, { Que.reset with shake := some ⟨.mark, 0, some 0, 5, 0⟩ })] }, _, some 0, 5, 0,
    rfl, by decide +kernel⟩,
   ⟨0, { (coreS.wrg (Reg.QUE_CFG 0) 0x80000000) with ques := [(0, { Que.reset with shake := some ⟨.rewound, 0, some 0, 5, 0⟩ })] }, _, some 0, 5, 0,
    rfl, by decide +kernel⟩,
   ⟨0, { (coreS.wrg (Reg.QUE_CFG 0) 0x80000000) with ques := [(0, { Que.reset with shake := some ⟨.flush, 0, some 0, 5, 0⟩ })] }, _, some 0, 5, 0, _,
    rfl, rfl, by decide +kernel⟩,
   ⟨0, State.reset, _, inner,
    rfl, by decide +kernel⟩,
   ⟨0, State.reset, _, inner, 0,
    rfl, by decide +kernel⟩,
   ⟨0, coreS.wrg (Reg.QUE_CFG 0) 0x80000000, _, 0, _, _,
    rfl, rfl, rfl, by decide +kernel⟩,
   ⟨0, { (coreS.wrg (Reg.QUE_CFG 0) 0x80000000) with ques := [(0, { Que.reset with ram := [(0, 1)], wptr := 1, wSeen := 1, armed := true })] }.wrg (Reg.QUE_THRESH 0) 1, _, 0, _, _,
    rfl, rfl, rfl, by decide +kernel⟩,
   ⟨0, coreS.wrg (Reg.QUE_CFG 0) 0x80000000, _,
    rfl, by decide +kernel⟩⟩

/-- The hypotheses of PinCommandsComplete are met, clause by clause. -/
theorem wit_PinCommandsComplete :
    (∃ (s : State) (a : Acc) (pin : Fin 480) (value : Word),
      regFree a (196864 + ↑pin / 40 * 4096 + ↑pin % 40 * 4) s = true ∧ muxAllowed s (↑pin) (fld value 0 3) (fld value 4 3) true = true) ∧
    (∃ (s : State) (a : Acc) (bank : Fin 12) (high : Bool),
      regFree a (196688 + ↑bank * 4096 + 4 * b2n high) s = true) ∧
    (∃ (s : State) (a : Acc) (bank : Fin 12) (high : Bool),
      regFree a (196696 + ↑bank * 4096 + 4 * b2n high) s = true) ∧
    (∃ (s : State) (pin : Fin 480) (edges : Nat),
      wakeMode s ≠ 7 ∧ wakeMode s ≠ 8 ∧ (pinOf s ↑pin).run + edges < s.rf (cfgReg ↑pin) 16 4 + 1) ∧
    (∃ (s : State) (pin : Fin 480) (board : Option Bool) (edges : Nat) (t : State),
      t = setPin (↑pin) ({ pinOf s ↑pin with board := board, keep := padLevel s ↑pin }) s ∧ wakeMode s ≠ 7 ∧ wakeMode s ≠ 8 ∧ pinIrqMode s = true ∧ bankLive s (↑pin / 40) = true ∧ masked s ↑pin = false ∧ padLevel t ↑pin ≠ (pinOf s ↑pin).accepted ∧ s.rf (cfgReg ↑pin) 16 4 + 1 ≤ (pinOf s ↑pin).run + edges ∧ 1 ≤ edges ∧ isEnabled s (PIN_PAGE (↑pin / 40)) = true ∧ latchSets (s.rf (cfgReg ↑pin) 20 3) (pinOf s ↑pin).accepted (padLevel t ↑pin) = true ∧ pinLatch s ↑pin = false ∧ (bankOf s (↑pin / 40)).clrNow.testBit (↑pin % 40) = false) ∧
    (∃ (s : State) (pin : Fin 480) (x : Bool) (t : Nat),
      t = s.now / 10 * 10 ∧ 40 ≤ t ∧ (pinOf s ↑pin).drv.oe = true ∧ x ≠ (pinOf s ↑pin).drv.level ∧ (pinOf s ↑pin).drvAt + 40 < t ∧ (∀ (k : Nat), k < 3 → maskedAt s (t - 10 * k) ↑pin = false) ∧ isEnabled s (PIN_PAGE (↑pin / 40)) = true ∧ padSampling s = true) ∧
    (∃ (s : State) (bank : Fin 12),
      bankPowered s ↑bank = true) ∧
    (∃ (s : State) (a : Acc) (bank : Fin 12),
      regFree a (196744 + ↑bank * 4096) s = true ∧ (bankOf s ↑bank).shut = true) ∧
    (∃ (s : State) (a : Acc) (bank : Fin 12),
      regFree a (196744 + ↑bank * 4096) s = true ∧ (bankOf s ↑bank).shut = false) :=
  ⟨⟨State.reset, inner, 0, 0,
    by decide +kernel⟩,
   ⟨State.reset, inner, 0, false,
    by decide +kernel⟩,
   ⟨State.reset, inner, 0, false,
    by decide +kernel⟩,
   ⟨State.reset, 0, 0,
    by decide +kernel⟩,
   ⟨{ runS with optRec := List.replicate 64 0x33, banks := [(0, { Bank.reset with good := true })] }.wrg (cfgReg 0) 0x100000, 0, some true, 5, _,
    rfl, by decide +kernel⟩,
   ⟨({ runS with optRec := List.replicate 64 0x33, banks := [(0, { Bank.reset with good := true, oe := 1 })], pins := [(0, { Pin.reset with drv := ⟨true, false⟩ })] }.wrg (muxReg 0) 1).wrg64 Reg.TIM_NOW 1000, 0, true, _,
    rfl, by decide +kernel⟩,
   ⟨{ runS with optRec := List.replicate 64 0x33, banks := [(0, { Bank.reset with good := true })] }, 0,
    by decide +kernel⟩,
   ⟨{ runS with optRec := List.replicate 64 0x33, banks := [(0, { Bank.reset with good := true, shut := true })] }, inner, 0,
    by decide +kernel⟩,
   ⟨State.reset, inner, 0,
    by decide +kernel⟩⟩

/-- The hypotheses of PleatGroupsAndEdgesComplete are met, clause by clause. -/
theorem wit_PleatGroupsAndEdgesComplete :
    (∃ (a : Acc) (group : Fin 8) (s : State),
      regFree a (246040 + ↑group * 64) s = true ∧ isEnabled s PLT_PAGE = true ∧ groupBusy s ↑group = false ∧ sampleOk s ↑group = true) ∧
    (∃ (a : Acc) (group : Fin 8) (s : State),
      regFree a (246040 + ↑group * 64) s = true ∧ isEnabled s PLT_PAGE = true ∧ (groupOf s ↑group).running = true) ∧
    (∃ (a : Acc) (group : Fin 8) (s : State),
      regFree a (246040 + ↑group * 64) s = true ∧ isEnabled s PLT_PAGE = true ∧ (groupOf s ↑group).running = false ∧ (groupOf s ↑group).waiting = true) ∧
    (∃ (a : Acc) (group : Fin 8) (s : State),
      regFree a (246040 + ↑group * 64) s = true ∧ isEnabled s PLT_PAGE = true ∧ groupBusy s ↑group = true) ∧
    (∃ (a : Acc) (s : State) (mask : BitVec 16),
      regFree a 245824 s = true ∧ isEnabled s PLT_PAGE = true ∧ (∀ (k : Nat), k < 16 → mask.getLsbD k = true → pinFunc s (s.rf (Reg.PLT_TTE_CTL k) 0 9) = 4)) ∧
    (∃ (a : Acc) (s : State),
      regFree a 245828 s = true) ∧
    (∃ (s : State) (channel : Fin 16) (t : Nat) (n : Nat),
      n = s.rf (Reg.PLT_TTE_CTL ↑channel) 0 9 ∧ sget (fun x => (0, false)) s.plt.fireAt ↑channel = (t, false) ∧ (pinOf s n).tteLast = none ∧ s.rb Reg.PLT_TTE_ARM ↑channel = true ∧ t ≤ s.now ∧ pleatRuns s = true ∧ tteFirst (↑channel) s = true) :=
  ⟨⟨inner, 0, (runS.wrg (Reg.PLT_GSAMPLE 0) 100).wrg (Reg.PLT_GPERIOD 0) 1000,
    by decide +kernel⟩,
   ⟨inner, 0, { runS with plt := { Plt.reset with groups := [(0, { Group.reset with running := true })] } },
    by decide +kernel⟩,
   ⟨inner, 0, { runS with plt := { Plt.reset with groups := [(0, { Group.reset with waiting := true })] } },
    by decide +kernel⟩,
   ⟨inner, 0, { runS with plt := { Plt.reset with groups := [(0, { Group.reset with running := true })] } },
    by decide +kernel⟩,
   ⟨inner, State.reset, 0,
    by decide +kernel⟩,
   ⟨inner, ({ runS with plt := { Plt.reset with fireAt := [(0, (0, false))] } }).wrg Reg.PLT_TTE_ARM 1,
    by decide +kernel⟩,
   ⟨({ runS with plt := { Plt.reset with fireAt := [(0, (0, false))] } }).wrg Reg.PLT_TTE_ARM 1, 0, 0, _,
    rfl, by decide +kernel⟩⟩

/-- The hypotheses of PleatTimesComplete are met, clause by clause. -/
theorem wit_PleatTimesComplete :
    (∃ (group : Fin 8) (s : State) (x : Group),
      x = groupOf s ↑group ∧ pleatRuns s = true ∧ x.waiting = true ∧ x.t0 ≤ s.now) ∧
    (∃ (group : Fin 8) (s : State) (x : Group),
      x = groupOf s ↑group ∧ pleatRuns s = true ∧ x.running = true ∧ x.slot + 1 < slotsOf s ↑group ∧ frameStart s ↑group + (x.slot + 1) * periodOf s ↑group ≤ s.now) ∧
    (∃ (group : Fin 8) (s : State) (x : Group),
      x = groupOf s ↑group ∧ pleatRuns s = true ∧ x.running = true ∧ x.sampled = false ∧ frameStart s ↑group + x.slot * periodOf s ↑group + sampleOf s ↑group ≤ s.now) ∧
    (∃ (group : Fin 8) (s : State) (x : Group),
      x = groupOf s ↑group ∧ pleatRuns s = true ∧ x.running = true ∧ x.slot + 1 = slotsOf s ↑group ∧ x.stopping = false ∧ x.left ≠ 1 ∧ frameStart s ↑group + slotsOf s ↑group * periodOf s ↑group ≤ s.now) :=
  ⟨⟨0, { runS with plt := { Plt.reset with groups := [(0, { Group.reset with waiting := true })] } }, _,
    rfl, by decide +kernel⟩,
   ⟨0, ((({ runS with plt := { Plt.reset with groups := [(0, { Group.reset with running := true })] } }).wrg (Reg.PLT_GCFG 0) 0x10000000).wrg (Reg.PLT_GPERIOD 0) 1000).wrg64 Reg.TIM_NOW 5000, _,
    rfl, by decide +kernel⟩,
   ⟨0, ((({ runS with plt := { Plt.reset with groups := [(0, { Group.reset with running := true })] } }).wrg (Reg.PLT_GCFG 0) 0).wrg (Reg.PLT_GPERIOD 0) 1000).wrg64 Reg.TIM_NOW 5000, _,
    rfl, by decide +kernel⟩,
   ⟨0, ((({ runS with plt := { Plt.reset with groups := [(0, { Group.reset with running := true })] } }).wrg (Reg.PLT_GCFG 0) 0).wrg (Reg.PLT_GPERIOD 0) 1000).wrg64 Reg.TIM_NOW 5000, _,
    rfl, by decide +kernel⟩⟩

/-- The hypotheses of PanelsAndLinkEventsComplete are met, clause by clause. -/
theorem wit_PanelsAndLinkEventsComplete :
    (∃ (a : Acc) (s : State) (panels : BitVec 8),
      regFree a 4164 s = true ∧ (∀ (p : Nat), p < 8 → panels.getLsbD p = true → p = accPanel a s ∨ accPanel a s = 0 ∧ holds s p = false)) ∧
    (∃ (a : Acc) (s : State),
      regFree a 4160 s = true) ∧
    (∃ (s : State),
      s.hst.linkUp = true ∧ hostsWork s = true) ∧
    (∃ (s : State),
      s.hst.linkUp = true ∧ s.clk.perst = false) ∧
    (∃ (s : State) (speed : BitVec 4) (width : BitVec 6),
      s.hst.linkUp = false ∧ hostsWork s = true ∧ [1, 2, 3].contains speed.toNat = true ∧ [1, 2, 4].contains width.toNat = true) ∧
    (∃ (s : State) (fn : Fin 4) (cause : Fin 32),
      s.hst.linkUp = true ∧ (BitVec.toNat (cfgWord s (↑fn) 66)).testBit ↑cause = false) ∧
    (∃ (s : State) (fn : Fin 4) (cause : Fin 32),
      s.hst.linkUp = true ∧ (BitVec.toNat (cfgWord s (↑fn) 69)).testBit ↑cause = false) :=
  ⟨⟨inner, State.reset, 0,
    by decide +kernel⟩,
   ⟨inner, State.reset,
    by decide +kernel⟩,
   ⟨{ runS with hst := { Hst.reset with linkUp := true } },
    by decide +kernel⟩,
   ⟨{ { runS with hst := { Hst.reset with linkUp := true } } with clk := { Clk.reset with perst := false } },
    by decide +kernel⟩,
   ⟨runS, 1, 1,
    by decide +kernel⟩,
   ⟨{ runS with hst := { Hst.reset with linkUp := true } }, 0, 0,
    by decide +kernel⟩,
   ⟨{ runS with hst := { Hst.reset with linkUp := true } }, 0, 0,
    by decide +kernel⟩⟩

/-- The hypotheses of PcieRequestsComplete are met, clause by clause. -/
theorem wit_PcieRequestsComplete :
    (∃ (fn : Fin 4) (s : State) (q : PcieReq) (w : BitVec 32) (r : State × Rsp × Nat),
      r = pageGet (Initiator.pcie fn) q.off 4 s ∧ fnFree fn s = true ∧ q.fn = fn ∧ q.bar = Bar.bar0 ∧ q.rw = Rw.read ∧ q.poisoned = false ∧ q.dws = [(15, w)] ∧ q.off % 4 = 0 ∧ q.off < 1048576 ∧ r.snd.fst = Rsp.okay) ∧
    (∃ (fn : Fin 4) (s : State) (q : PcieReq) (w : BitVec 32) (r : State × Rsp),
      r = pagePut { init := Initiator.pcie fn, others := q.others, env := q.reg.getD 0 RegEnv.calm } q.off 4 w.toNat s ∧ fnFree fn s = true ∧ q.fn = fn ∧ q.bar = Bar.bar0 ∧ q.rw = Rw.write ∧ q.poisoned = false ∧ q.dws = [(15, w)] ∧ q.off % 4 = 0 ∧ q.off < 1048576 ∧ r.snd = Rsp.okay) ∧
    (∃ (fn : Fin 4) (s : State) (q : PcieReq) (be : BitVec 4) (w : BitVec 32),
      fnFree fn s = true ∧ q.fn = fn ∧ q.bar = Bar.bar4 ∧ q.rw = Rw.write ∧ q.poisoned = false ∧ q.dws = [(be, w)] ∧ q.also = [] ∧ (dramWindow s (panelFor s (Initiator.pcie fn))).fst ≤ q.off ∧ q.off + 4 ≤ (dramWindow s (panelFor s (Initiator.pcie fn))).snd ∧ q.off + 4 ≤ 385875968) ∧
    (∃ (fn : Fin 4) (s : State) (q : PcieReq),
      fnFree fn s = true ∧ q.fn = fn ∧ q.bar = Bar.bar4 ∧ q.rw = Rw.read ∧ q.dws ≠ [] ∧ q.ecc = Ecc.none ∧ s.ram.bad = [] ∧ q.also = [] ∧ (dramWindow s (panelFor s (Initiator.pcie fn))).fst ≤ q.off ∧ q.off + 4 * q.dws.length ≤ (dramWindow s (panelFor s (Initiator.pcie fn))).snd ∧ q.off + 4 * q.dws.length ≤ 385875968) ∧
    (∃ (fn : Fin 4) (s : State) (q : PcieReq),
      fnFree fn s = true ∧ q.fn = fn ∧ q.bar = Bar.bar2) ∧
    (∃ (fn : Fin 4) (s : State),
      fnFree fn s = true) ∧
    (∃ (fn : Fin 4) (s : State) (dw : Fin 1024) (value : Word) (t : State),
      t = setFn (↑fn) ({ fnOf s ↑fn with cfg := sset (cfgReset (↑fn) s.thm.uid.toNat) (fnOf s ↑fn).cfg (↑dw) (cfgPut s (↑fn) (↑dw) value) }) s ∧ fnFree fn s = true ∧ ↑dw ≠ 30) ∧
    (∃ (fn : Fin 4) (s : State) (dw : Fin 1024) (value : Word) (t : State),
      t = setFn (↑fn) ({ fnOf s ↑fn with cfg := sset (cfgReset (↑fn) s.thm.uid.toNat) (fnOf s ↑fn).cfg (↑dw) (cfgPut s (↑fn) (↑dw) value) }) s ∧ fnFree fn s = true ∧ ↑dw ≠ 30 ∧ ↑dw ≠ 65 ∧ ↑dw ≠ 68 ∧ ↑dw ≠ 17) :=
  ⟨⟨0, { runS with hst := { Hst.reset with linkUp := true } }, ⟨0, .bar0, 0x0, .read, [(15, 0)], false, [], [], [], .none, []⟩, 0, _,
    rfl, by decide +kernel⟩,
   ⟨0, { runS with hst := { Hst.reset with linkUp := true } }, ⟨0, .bar0, 0x8048, .write, [(15, 0)], false, [], [], [], .none, []⟩, 0, _,
    rfl, by decide +kernel⟩,
   ⟨0, { runS with hst := { Hst.reset with linkUp := true } }.wrg (Reg.PNL_DWIN 0) 16, ⟨0, .bar4, 0, .write, [(15, 5)], false, [], [], [], .none, []⟩, 15, 5,
    by decide +kernel⟩,
   ⟨0, { runS with hst := { Hst.reset with linkUp := true } }.wrg (Reg.PNL_DWIN 0) 16, ⟨0, .bar4, 0, .read, [(15, 0)], false, [], [], [], .none, []⟩,
    by decide +kernel⟩,
   ⟨0, { runS with hst := { Hst.reset with linkUp := true } }, ⟨0, .bar2, 0x0, .write, [], false, [], [], [], .none, []⟩,
    by decide +kernel⟩,
   ⟨0, { runS with hst := { Hst.reset with linkUp := true } },
    by decide +kernel⟩,
   ⟨0, { runS with hst := { Hst.reset with linkUp := true } }, 0, 0, _,
    rfl, by decide +kernel⟩,
   ⟨0, { runS with hst := { Hst.reset with linkUp := true } }, 0, 0, _,
    rfl, by decide +kernel⟩⟩

/-- The hypotheses of MailboxesComplete are met, clause by clause. -/
theorem wit_MailboxesComplete :
    (∃ (fn : Fin 4) (s : State) (bytes : List (Nat × BitVec 8)) (len : Nat) (buf : List (Nat × Byte)),
      buf = List.foldl (fun m b => if b.fst < 4096 then sset (fun x => 0) m b.fst b.snd else m) (fnOf s ↑fn).mbxIn bytes ∧ fnFree fn s = true ∧ inBusy s ↑fn = false ∧ 16 ≤ len ∧ len ≤ 4096) ∧
    (∃ (fn : Fin 4) (s : State) (value : Word) (frame : List Byte) (rest : List (List Byte)),
      fnFree fn s = true ∧ (fnOf s ↑fn).out = frame :: rest ∧ bit value 0 = true) ∧
    (∃ (fn : Fin 4) (s : State) (dw : Fin 256) (value : BitVec 32) (w : BitVec 32),
      w = (if ↑dw % 4 = 3 then value &&& 1 else if ↑dw % 4 = 0 then value &&& 4294967292 else value) ∧ fnFree fn s = true) :=
  ⟨⟨0, { runS with hst := { Hst.reset with linkUp := true } }, [], 16, _,
    rfl, by decide +kernel⟩,
   ⟨0, { runS with hst := { Hst.reset with linkUp := true, fns := [(0, { PcieFn.reset with out := [[1]] })] } }, 1, [1], [],
    by decide +kernel⟩,
   ⟨0, { runS with hst := { Hst.reset with linkUp := true } }, 0, 0, _,
    rfl, by decide +kernel⟩⟩

/-- The hypotheses of QuadSpiComplete are met, clause by clause. -/
theorem wit_QuadSpiComplete :
    (∃ (q : QspiReq) (s : State) (v : State) (addr : Nat) (r : State × Rsp × Nat),
      v = qspiStart q s ∧ r = pageGet (Initiator.qspi q.port) addr 4 v ∧ hostBarred v (Initiator.qspi q.port) = false ∧ qspiFresh 1 q s = true ∧ q.body = natLe addr 4 ++ [1] ∧ addr % 4 = 0 ∧ addr < 1048576 ∧ r.snd.fst = Rsp.okay) ∧
    (∃ (q : QspiReq) (s : State) (v : State) (addr : Nat) (value : Nat) (r : State × Rsp),
      v = qspiStart q s ∧ r = pagePut { init := Initiator.qspi q.port, others := q.env.others, env := q.env.reg.getD 0 RegEnv.calm } addr 4 value v ∧ hostBarred v (Initiator.qspi q.port) = false ∧ qspiFresh 2 q s = true ∧ q.body = natLe addr 4 ++ [1] ++ natLe value 4 ∧ value < 2 ^ 32 ∧ addr % 4 = 0 ∧ addr < 1048576 ∧ r.snd = Rsp.okay) ∧
    (∃ (q : QspiReq) (s : State) (v : State) (queue : Fin 64) (value : Nat) (r : State × Rsp),
      v = qspiStart q s ∧ r = quePut (Initiator.qspi q.port) (panelFor v (Initiator.qspi q.port)) (↑queue) 0 8 value (q.env.beats.getD 0 BeatEnv.calm) v ∧ hostBarred v (Initiator.qspi q.port) = false ∧ qspiFresh 3 q s = true ∧ q.body = natLe (↑queue) 1 ++ natLe 1 2 ++ natLe value 8 ∧ value < 2 ^ 64 ∧ r.snd = Rsp.okay) ∧
    (∃ (q : QspiReq) (s : State) (v : State) (queue : Fin 64) (r : State × Rsp × Nat),
      v = qspiStart q s ∧ r = queGet (Initiator.qspi q.port) (panelFor v (Initiator.qspi q.port)) (↑queue) 2048 8 (q.env.beats.getD 0 BeatEnv.calm) v ∧ hostBarred v (Initiator.qspi q.port) = false ∧ qspiFresh 4 q s = true ∧ q.body = natLe (↑queue) 1 ++ natLe 1 2 ∧ popTakes (Initiator.qspi q.port) (↑queue) (q.env.beats.getD 0 BeatEnv.calm).lag v = true ∧ r.snd.fst = Rsp.okay) ∧
    (∃ (q : QspiReq) (s : State) (v : State) (queue : Fin 64) (op : Nat) (r : State × Rsp) (t : State × Rsp × Nat),
      v = qspiStart q s ∧ r = quePut (Initiator.qspi q.port) (panelFor v (Initiator.qspi q.port)) (↑queue) 3856 8 op (q.env.beats.getD 0 BeatEnv.calm) v ∧ t = queGet (Initiator.qspi q.port) (panelFor v (Initiator.qspi q.port)) (↑queue) 3864 8 (q.env.beats.getD 0 BeatEnv.calm) r.fst ∧ hostBarred v (Initiator.qspi q.port) = false ∧ qspiFresh 5 q s = true ∧ q.body = natLe (↑queue) 1 ++ natLe op 1 ∧ 1 ≤ op ∧ op ≤ 5 ∧ r.snd = Rsp.okay) ∧
    (∃ (q : QspiReq) (s : State) (v : State),
      v = qspiStart q s ∧ hostBarred v (Initiator.qspi q.port) = false ∧ qspiFresh 8 q s = true ∧ q.body = []) ∧
    (∃ (q : QspiReq) (s : State) (v : State) (port : Fin 2),
      v = qspiStart q s ∧ hostBarred v (Initiator.qspi q.port) = false ∧ qspiOn s ↑port = true) ∧
    (∃ (q : QspiReq) (s : State) (v : State) (frame : List (BitVec 8)),
      v = qspiStart q s ∧ qspiFresh 6 q s = true ∧ hostBarred v (Initiator.qspi q.port) = false ∧ q.body = natLe frame.length 2 ++ frame ∧ 16 ≤ frame.length ∧ frame.length ≤ 4096 ∧ inBusy v (↑q.port + 4) = false) ∧
    (∃ (q : QspiReq) (s : State) (v : State) (frame : List Byte) (rest : List (List Byte)),
      v = qspiStart q s ∧ qspiFresh 7 q s = true ∧ hostBarred v (Initiator.qspi q.port) = false ∧ q.body = [] ∧ (portOf v ↑q.port).out = frame :: rest) ∧
    (∃ (q : QspiReq) (s : State) (v : State) (addr : Nat) (n : Nat) (l : List (BitVec 8)),
      v = qspiStart q s ∧ qspiFresh 9 q s = true ∧ memServed v (Initiator.qspi q.port) = true ∧ q.body = natLe addr 4 ++ natLe n 2 ++ l ∧ l.length = 8 * n ∧ 1 ≤ n ∧ n ≤ 512 ∧ addr % 8 = 0 ∧ inUserMem addr (8 * n) = true) ∧
    (∃ (q : QspiReq) (s : State) (v : State) (addr : Nat) (n : Nat),
      v = qspiStart q s ∧ qspiFresh 10 q s = true ∧ memServed v (Initiator.qspi q.port) = true ∧ q.body = natLe addr 4 ++ natLe n 2 ∧ 1 ≤ n ∧ n ≤ 512 ∧ addr % 8 = 0 ∧ inUserMem addr (8 * n) = true ∧ s.ram.bad = [] ∧ q.env.beats = []) :=
  ⟨⟨⟨0, none, 1, reqCrc 1 1 ([0, 0, 0, 0, 1]), [0, 0, 0, 0, 1], .calm⟩, runS.wrg (Reg.HST_QSPI_CFG 0) 1, _, 0, _,
    rfl, rfl, by decide +kernel⟩,
   ⟨⟨0, none, 1, reqCrc 2 1 ([0x48, 0x80, 0, 0, 1, 0, 0, 0, 0]), [0x48, 0x80, 0, 0, 1, 0, 0, 0, 0], .calm⟩, (runS.wrg (Reg.HST_QSPI_CFG 0) 1).wrg (Reg.PNL_INIT 3) 0, _, 0x8048, 0, _,
    rfl, rfl, by decide +kernel⟩,
   ⟨⟨0, none, 1, reqCrc 3 1 ([0, 1, 0, 1, 0, 0, 0, 0, 0, 0, 0x10]), [0, 1, 0, 1, 0, 0, 0, 0, 0, 0, 0x10], .calm⟩, ((runS.wrg (Reg.HST_QSPI_CFG 0) 1).wrg (Reg.PNL_INIT 3) 0).wrg (Reg.QUE_CFG 0) 0x80A00000, _, 0, 0x1000000000000001, _,
    rfl, rfl, by decide +kernel⟩,
   ⟨⟨0, none, 1, reqCrc 4 1 ([0, 1, 0]), [0, 1, 0], .calm⟩, { (((runS.wrg (Reg.HST_QSPI_CFG 0) 1).wrg (Reg.PNL_INIT 3) 0).wrg (Reg.QUE_CFG 0) 0x80A00000) with ques := [(0, { Que.reset with ram := [(0, 1)], wptr := 1, wSeen := 1 })] }, _, 0, _,
    rfl, rfl, by decide +kernel⟩,
   ⟨⟨0, none, 1, reqCrc 5 1 ([0, 1]), [0, 1], .calm⟩, ((runS.wrg (Reg.HST_QSPI_CFG 0) 1).wrg (Reg.PNL_INIT 3) 0).wrg (Reg.QUE_CFG 0) 0x80A00000, _, 0, 1, _, _,
    rfl, rfl, rfl, by decide +kernel⟩,
   ⟨⟨0, none, 1, reqCrc 8 1 ([]), [], .calm⟩, runS.wrg (Reg.HST_QSPI_CFG 0) 1, _,
    rfl, by decide +kernel⟩,
   ⟨⟨0, none, 1, reqCrc 8 1 ([]), [], .calm⟩, runS.wrg (Reg.HST_QSPI_CFG 0) 1, _, 0,
    rfl, by decide +kernel⟩,
   ⟨⟨0, none, 1, reqCrc 6 1 ([16, 0] ++ List.replicate 16 0), [16, 0] ++ List.replicate 16 0, .calm⟩, runS.wrg (Reg.HST_QSPI_CFG 0) 1, _, List.replicate 16 0,
    rfl, by decide +kernel⟩,
   ⟨⟨0, none, 1, reqCrc 7 1 ([]), [], .calm⟩, { (runS.wrg (Reg.HST_QSPI_CFG 0) 1) with hst := { Hst.reset with ports := [(0, { QspiPort.reset with out := [[1]] })] } }, _, [1], [],
    rfl, by decide +kernel⟩,
   ⟨⟨0, none, 1, reqCrc 9 1 ([0, 0, 0, 0x20, 1, 0, 1, 2, 3, 4, 5, 6, 7, 8]), [0, 0, 0, 0x20, 1, 0, 1, 2, 3, 4, 5, 6, 7, 8], .calm⟩, { (runS.wrg (Reg.HST_QSPI_CFG 0) 1) with mode := .safe, pat := { Pat.reset with recovery := true } }, _, 0x20000000, 1, [1, 2, 3, 4, 5, 6, 7, 8],
    rfl, by decide +kernel⟩,
   ⟨⟨0, none, 1, reqCrc 10 1 ([0, 0, 0, 0x20, 1, 0]), [0, 0, 0, 0x20, 1, 0], .calm⟩, { (runS.wrg (Reg.HST_QSPI_CFG 0) 1) with mode := .safe, pat := { Pat.reset with recovery := true } }, _, 0x20000000, 1,
    rfl, by decide +kernel⟩⟩

/-- The hypotheses of PllsComplete are met, clause by clause. -/
theorem wit_PllsComplete :
    (∃ (a : Acc) (pll : Fin 8) (s : State),
      regFree a (16648 + ↑pll * 64) s = true ∧ a.env.badLands.getLsbD ↑pll = false ∧ relockRefusal s (↑pll) (shadowSet s ↑pll) = none) ∧
    (∃ (a : Acc) (pll : Fin 8) (s : State) (entry : Fin 16) (e : PllEntry),
      regFree a (16648 + ↑pll * 64) s = true ∧ a.env.badLands.getLsbD ↑pll = false ∧ sget (fun x => none) (List.map (fun x => (x.fst, some x.snd)) (pllOf s ↑pll).entries) ↑entry = some e ∧ ceilsOk s (↑pll) e.set = true ∧ refHere s e.set.ref = true) ∧
    (∃ (a : Acc) (pll : Fin 8) (s : State),
      regFree a (16648 + ↑pll * 64) s = true ∧ (pllOf s ↑pll).st = 3) ∧
    (∃ (a : Acc) (pll : Fin 8) (s : State),
      regFree a (16648 + ↑pll * 64) s = true) ∧
    (∃ (a : Acc) (s : State) (plls : BitVec 8),
      (∀ (n : Nat), n < 8 → ∀ (y : PllSet), plls.getLsbD n = true → (y = { (pllOf s n).act with ss := (shadowSet s n).ss, outs := updateOuts s n }) → ((pllOf s n).st = 0 ∨ rangeOk y = true ∧ ceilsOk s n y = true) ∧ (n = 1 ∨ n = 2 → nfld (shadowSet s n).ss 13 2 = 0)) ∧ regFree a 16448 s = true) ∧
    (∃ (pll : Fin 8) (s : State) (p : Pll) (x : PllSet),
      p = pllOf s ↑pll ∧ p.upd = some x ∧ p.st ≠ 1 ∧ p.st ≠ 2) ∧
    (∃ (pll : Fin 8) (s : State) (p : Pll),
      p = pllOf s ↑pll ∧ (p.st = 1 ∨ p.st = 2) ∧ refHere s p.act.ref = true ∧ s.mode = Mode.run) ∧
    (∃ (pll : Fin 8) (s : State) (p : Pll) (t : State),
      p = pllOf s ↑pll ∧ t = irq CLK_PAGE 1 (raise 1025 (setPll ↑pll { st := 4, act := p.act, slow := p.slow, band := p.band, ctrl := p.ctrl, entries := p.entries, last := p.last, start := p.start, late := p.late, digital := p.digital, upd := p.upd } s)) ∧ p.st = 3 ∧ autoRelock t ↑pll = false) ∧
    (∃ (pll : Fin 8) (s : State) (p : Pll) (t : State),
      p = pllOf s ↑pll ∧ t = irq CLK_PAGE 1 (raise 1025 (setPll ↑pll { st := 4, act := p.act, slow := p.slow, band := p.band, ctrl := p.ctrl, entries := p.entries, last := p.last, start := p.start, late := p.late, digital := p.digital, upd := p.upd } s)) ∧ p.st = 3 ∧ autoRelock t ↑pll = true ∧ refHere t p.act.ref = true) ∧
    (∃ (pll : Fin 8) (s : State) (p : Pll),
      p = pllOf s ↑pll ∧ (p.st = 1 ∨ p.st = 2) ∧ p.late = false ∧ p.start + 2000000 ≤ s.now) :=
  ⟨⟨inner, 0, { runS with clk := { Clk.reset with xoReady := true } },
    by decide +kernel⟩,
   ⟨inner, 0, { runS with clk := { Clk.reset with xoReady := true, plls := [(0, { Pll.reset with entries := [(0, ⟨⟨0, 1, 120, 0, 0, []⟩, 0, 0⟩)] })] } }, 0, ⟨⟨0, 1, 120, 0, 0, []⟩, 0, 0⟩,
    by decide +kernel⟩,
   ⟨inner, 3, { runS with clk := { Clk.reset with xoReady := true, plls := [(3, { Pll.reset with st := 3 })] } },
    by decide +kernel⟩,
   ⟨inner, 0, State.reset,
    by decide +kernel⟩,
   ⟨inner, State.reset, 0,
    by simp, by decide +kernel⟩,
   ⟨3, { runS with clk := { Clk.reset with xoReady := true, plls := [(3, { Pll.reset with upd := some PllSet.off })] } }, _, PllSet.off,
    rfl, by decide +kernel⟩,
   ⟨3, { runS with clk := { Clk.reset with xoReady := true, plls := [(3, { Pll.reset with st := 1 })] } }, _,
    rfl, by decide +kernel⟩,
   ⟨3, ({ runS with clk := { Clk.reset with xoReady := true, plls := [(3, { Pll.reset with st := 3 })] } }).wrg (Reg.CLK_PLL_CFG 3) 0, _, _,
    rfl, rfl, by decide +kernel⟩,
   ⟨3, ({ runS with clk := { Clk.reset with xoReady := true, plls := [(3, { Pll.reset with st := 3 })] } }).wrg (Reg.CLK_PLL_CFG 3) 0x8000, _, _,
    rfl, rfl, by decide +kernel⟩,
   ⟨3, ({ runS with clk := { Clk.reset with xoReady := true, plls := [(3, { Pll.reset with st := 1 })] } }).wrg64 Reg.TIM_NOW 2000000, _,
    rfl, by decide +kernel⟩⟩

/-- The hypotheses of ReferencesComplete are met, clause by clause. -/
theorem wit_ReferencesComplete :
    (∃ (s : State) (ref : Fin 3),
      s.clk.lost.getLsbD ↑ref = true) ∧
    (∃ (s : State),
      s.clk.xoReady = false ∧ clocksOn s = true) ∧
    (∃ (s : State),
      s.clk.xoReady = false ∧ s.clk.fallback = false ∧ clocksOn s = true) ∧
    (∃ (s : State),
      s.mode ≠ Mode.off ∧ s.mode ≠ Mode.hold ∧ s.mode ≠ Mode.hibernate ∧ s.clk.rc32 = false) :=
  ⟨⟨{ runS with clk := { Clk.reset with lost := 1 } }, 0,
    by decide +kernel⟩,
   ⟨runS,
    by decide +kernel⟩,
   ⟨runS,
    by decide +kernel⟩,
   ⟨runS,
    by decide +kernel⟩⟩

/-- The hypotheses of TimeBaseComplete are met, clause by clause. -/
theorem wit_TimeBaseComplete :
    (∃ (s : State) (n : Nat),
      n = ((s.now : Int) * 2 ^ 32 + (s.tim.frac : Int) + increment s).toNat ∧ timeRuns s = true) ∧
    (∃ (s : State),
      s.mode ≠ Mode.off) ∧
    (∃ (s : State) (init : Initiator),
      sends s init = true ∧ hostBarred s init = false ∧ wayFree init 1 1610633280 4 s = true ∧ heldWord s (panelFor s init) Reg.TIM_NOW = none) ∧
    (∃ (s : State) (init : Initiator),
      sends s init = true ∧ hostBarred s init = false ∧ wayFree init 1 1610633284 4 s = true ∧ heldWord s (panelFor s init) (Reg.TIM_NOW + 4) = none) ∧
    (∃ (s : State),
      s.tim.steering = true ∧ s.timSource ≠ 2 ∧ s.tim.diff = 0) ∧
    (∃ (s : State) (a : Acc) (channel : Fin 64) (lo : Word),
      lo = sget (fun x => s.rg (Reg.TIM_CMP ↑channel)) s.tim.cmpLow ↑channel ∧ regFree a (20740 + ↑channel * 16) s = true) ∧
    (∃ (s : State) (channel : Fin 64) (t : State),
      t = (event (4160 + ↑channel) s).wb (Reg.TIM_CMP_HIT (↑channel / 32)) (↑channel % 32) true ∧ s.tim.cmpWas = [] ∧ s.rb (Reg.TIM_CMP_CTL ↑channel) 31 = true ∧ timeRuns s = true ∧ s.rg64 (Reg.TIM_CMP ↑channel) ≤ s.now ∧ s.rb (Reg.TIM_CMP_CTL ↑channel) 29 = false ∧ s.rg (Reg.TIM_CMP_PER ↑channel) = 0 ∧ t.tim.cmpWas = []) :=
  ⟨⟨runS, _,
    rfl, by decide +kernel⟩,
   ⟨State.reset,
    by decide +kernel⟩,
   ⟨State.reset, .thimble,
    by decide +kernel⟩,
   ⟨State.reset, .thimble,
    by decide +kernel⟩,
   ⟨{ runS with clk := { Clk.reset with plls := [(1, { Pll.reset with st := 3 })] }, tim := { Tim.reset with steering := true } },
    by decide +kernel⟩,
   ⟨State.reset, inner, 0, _,
    rfl, by decide +kernel⟩,
   ⟨runS.wrg (Reg.TIM_CMP_CTL 0) 0x80000000, 0, _,
    rfl, by decide +kernel⟩⟩

/-- The hypotheses of WatchdogsComplete are met, clause by clause. -/
theorem wit_WatchdogsComplete :
    (∃ (s : State) (core : Fin 16) (env : RegEnv),
      regFree { init := Initiator.core core, others := [], env := env } 24640 s = true ∧ wdgEn s ↑core = true ∧ wdgDue s ↑core = false) ∧
    (∃ (s : State) (a : Acc),
      regFree a 24676 s = true ∧ wdgEn s (16 + accPanel a s) = true ∧ wdgDue s (16 + accPanel a s) = false) ∧
    (∃ (s : State) (a : Acc),
      regFree a 24648 s = true ∧ wdgCounts s 24 = true ∧ (wdgOf s 24).used < (wdgOf s 24).timeout ∧ s.rf Reg.WDG_SYS_CFG 28 3 * (wdgOf s 24).timeout ≤ (wdgOf s 24).used * 8) ∧
    (∃ (s : State) (a : Acc) (value : BitVec 32),
      regFree a 24648 s = true ∧ wdgCounts s 24 = true ∧ (wdgOf s 24).used < (wdgOf s 24).timeout ∧ value ≠ 42330) ∧
    (∃ (s : State) (a : Acc) (timeout : BitVec 9),
      regFree a 24644 s = true ∧ wdgEn s 24 = false ∧ 1 ≤ timeout.toNat ∧ timeout.toNat ≤ 256) ∧
    (∃ (s : State) (watchdog : Fin 25),
      wdgCounts s ↑watchdog = true ∧ (wdgOf s ↑watchdog).warned = false ∧ 7 * (wdgOf s ↑watchdog).timeout ≤ 8 * (wdgOf s ↑watchdog).used) ∧
    (∃ (s : State) (core : Fin 16) (t : State),
      t = wdgReport s ↑core ∧ wdgDue s ↑core = true ∧ wdgAction t ↑core = 0) ∧
    (∃ (s : State) (core : Fin 16) (t : State) (n : Nat),
      t = wdgReport s ↑core ∧ wdgDue s ↑core = true ∧ wdgAction t ↑core = 1 ∧ (coreOf s ↑core).thread = some n) ∧
    (∃ (s : State) (panel : Fin 8) (t : State),
      t = wdgReport s (16 + ↑panel) ∧ wdgDue s (16 + ↑panel) = true ∧ wdgAction t (16 + ↑panel) = 0) ∧
    (∃ (s : State) (panel : Fin 8) (t : State),
      t = wdgReport s (16 + ↑panel) ∧ wdgDue s (16 + ↑panel) = true ∧ wdgAction t (16 + ↑panel) = 1) ∧
    (∃ (s : State),
      wdgDue s 24 = true) ∧
    (∃ (s : State) (cause : Nat) (panel : Nat),
      s.pwr.modReset = some (cause, panel)) :=
  ⟨⟨{ coreS.wrg (wdgCfg 0) 0x80000000 with tim := { Tim.reset with wdg := [(0, { Wdg.reset with timeout := 5 })] } }, 0, .calm,
    by decide +kernel⟩,
   ⟨{ runS.wrg (wdgCfg 16) 0x80000000 with tim := { Tim.reset with wdg := [(16, { Wdg.reset with timeout := 5 })] } }, inner,
    by decide +kernel⟩,
   ⟨{ runS.wrg (wdgCfg 24) 0x80000000 with tim := { Tim.reset with wdg := [(24, { Wdg.reset with timeout := 5 })] } }, inner,
    by decide +kernel⟩,
   ⟨{ runS.wrg (wdgCfg 24) 0x80000000 with tim := { Tim.reset with wdg := [(24, { Wdg.reset with timeout := 5 })] } }, inner, 1,
    by decide +kernel⟩,
   ⟨runS, inner, 1,
    by decide +kernel⟩,
   ⟨{ runS.wrg (wdgCfg 24) 0x80000000 with tim := { Tim.reset with wdg := [(24, { Wdg.reset with timeout := 8, used := 7 })] } }, 24,
    by decide +kernel⟩,
   ⟨{ ({ withCore { core0 with thread := some 0 } with bob := { Bob.reset with threads := [(0, { Thread.reset with st := .running, lastCore := 0 })] } }).wrg (wdgCfg 0) 0x80000000 with tim := { Tim.reset with wdg := [(0, { Wdg.reset with timeout := 5, used := 5 })] } }, 0, _,
    rfl, by decide +kernel⟩,
   ⟨{ ({ withCore { core0 with thread := some 0 } with bob := { Bob.reset with threads := [(0, { Thread.reset with st := .running, lastCore := 0 })] } }).wrg (wdgCfg 0) 0xA0000000 with tim := { Tim.reset with wdg := [(0, { Wdg.reset with timeout := 5, used := 5 })] } }, 0, _, 0,
    rfl, by decide +kernel⟩,
   ⟨{ runS.wrg (wdgCfg 16) 0x80000000 with tim := { Tim.reset with wdg := [(16, { Wdg.reset with timeout := 5, used := 5 })] } }, 0, _,
    rfl, by decide +kernel⟩,
   ⟨{ runS.wrg (wdgCfg 16) 0x90000000 with tim := { Tim.reset with wdg := [(16, { Wdg.reset with timeout := 5, used := 5 })] } }, 0, _,
    rfl, by decide +kernel⟩,
   ⟨{ runS.wrg (wdgCfg 24) 0x80000000 with tim := { Tim.reset with wdg := [(24, { Wdg.reset with timeout := 5, used := 5 })] } },
    by decide +kernel⟩,
   ⟨{ State.reset with mode := .run, pwr := { Pwr.reset with modReset := some (3, 0) } }, 3, 0,
    by decide +kernel⟩⟩

/-- The hypotheses of StartsAndShutdownsComplete are met, clause by clause. -/
theorem wit_StartsAndShutdownsComplete :
    (∃ (s : State) (v : State),
      v = setMode Mode.hold s ∧ s.mode = Mode.off ∧ s.pwr.resetN = false) ∧
    (∃ (s : State),
      s.mode = Mode.hold ∧ s.pwr.resetN = false ∧ s.pwr.locked = false) ∧
    (∃ (s : State),
      s.mode = Mode.hold ∧ s.pwr.locked = false ∧ s.pwr.resetN = false ∧ s.pwr.vin = true ∧ s.pwr.tries < 3) ∧
    (∃ (s : State),
      s.mode = Mode.hold ∧ s.pwr.locked = false ∧ s.pwr.resetN = false ∧ s.pwr.vin = true ∧ 3 ≤ s.pwr.tries) ∧
    (∃ (s : State) (u : State),
      u = resetPass 1 0 s ∧ s.mode ≠ Mode.off ∧ s.pwr.resetN = false) ∧
    (∃ (s : State),
      s.mode = Mode.off) ∧
    (∃ (s : State),
      s.mode ≠ Mode.off ∧ s.mode ≠ Mode.hibernate ∧ s.pwr.vin = true ∧ s.pwr.locked = false) ∧
    (∃ (s : State),
      s.mode = Mode.hibernate ∧ s.pwr.vin = false) ∧
    (∃ (s : State),
      s.mode ≠ Mode.off ∧ s.mode ≠ Mode.hibernate ∧ s.pwr.locked = false) ∧
    (∃ (s : State),
      s.mode ≠ Mode.off ∧ s.mode ≠ Mode.hold ∧ s.mode ≠ Mode.hibernate ∧ s.pwr.railOffs = []) ∧
    (∃ (s : State),
      s.mode = Mode.hibernate) :=
  ⟨⟨{ State.reset with mode := .off }, _,
    rfl, by decide +kernel⟩,
   ⟨State.reset,
    by decide +kernel⟩,
   ⟨State.reset,
    by decide +kernel⟩,
   ⟨{ State.reset with mode := .hold, pwr := { Pwr.reset with tries := 3 } },
    by decide +kernel⟩,
   ⟨State.reset, _,
    rfl, by decide +kernel⟩,
   ⟨{ State.reset with mode := .off },
    by decide +kernel⟩,
   ⟨State.reset,
    by decide +kernel⟩,
   ⟨{ State.reset with mode := .hibernate, pwr := { Pwr.reset with vin := false } },
    by decide +kernel⟩,
   ⟨State.reset,
    by decide +kernel⟩,
   ⟨runS,
    by decide +kernel⟩,
   ⟨{ State.reset with mode := .hibernate },
    by decide +kernel⟩⟩

/-- The hypotheses of PowerMonitorsComplete are met, clause by clause. -/
theorem wit_PowerMonitorsComplete :
    (∃ (s : State),
      s.mode ≠ Mode.off ∧ s.mode ≠ Mode.hibernate ∧ s.rb pwrStat 28 = false) ∧
    (∃ (s : State),
      s.mode ≠ Mode.off ∧ s.mode ≠ Mode.hibernate ∧ s.rb pwrStat 29 = false) ∧
    (∃ (s : State),
      s.mode ≠ Mode.off ∧ s.mode ≠ Mode.hibernate) ∧
    (∃ (s : State) (t : Nat),
      s.pwr.charge = some t ∧ s.rb pwrStat 29 = false) ∧
    (∃ (s : State) (t : Nat),
      s.pwr.charge = some t) ∧
    (∃ (s : State) (current : Nat),
      s.mode = Mode.run ∧ s.rb Reg.PWR_CFG 8 = true ∧ phases s < phasesFor current) ∧
    (∃ (s : State) (current : Nat),
      s.mode = Mode.run ∧ s.rb Reg.PWR_CFG 8 = true ∧ phasesMin s < phases s ∧ phasesFor (current + 200) < phases s) ∧
    (∃ (s : State),
      s.mode = Mode.run) ∧
    (∃ (s : State) (t : Nat),
      s.pwr.overAt = some t ∧ s.rb pwrStat 26 = false ∧ t + 10000000 ≤ s.now) :=
  ⟨⟨runS,
    by decide +kernel⟩,
   ⟨runS,
    by decide +kernel⟩,
   ⟨runS,
    by decide +kernel⟩,
   ⟨{ State.reset with mode := .run, pwr := { Pwr.reset with charge := some 0 } }, 0,
    by decide +kernel⟩,
   ⟨{ State.reset with mode := .run, pwr := { Pwr.reset with charge := some 0 } }, 0,
    by decide +kernel⟩,
   ⟨(runS.wrg Reg.PWR_CFG 0x100).wrg pwrStat 0x10000, 2000,
    by decide +kernel⟩,
   ⟨(runS.wrg Reg.PWR_CFG 0x100).wrg pwrStat 0x20000, 0,
    by decide +kernel⟩,
   ⟨runS,
    by decide +kernel⟩,
   ⟨({ State.reset with mode := .run, pwr := { Pwr.reset with overAt := some 0 } }).wrg64 Reg.TIM_NOW 10000000, 0,
    by decide +kernel⟩⟩

/-- The hypotheses of ModeRequestsComplete are met, clause by clause. -/
theorem wit_ModeRequestsComplete :
    (∃ (a : Acc) (s : State),
      regFree a 8256 s = true ∧ s.pwr.req = none ∧ s.pwr.entry = none ∧ (s.mode = Mode.run ∨ s.mode = Mode.swap)) ∧
    (∃ (a : Acc) (s : State),
      regFree a 8256 s = true ∧ s.pwr.req = none ∧ s.pwr.entry = none ∧ (s.mode = Mode.run ∨ s.mode = Mode.swap) ∧ saveValid s = true ∧ hibArmed s = true) ∧
    (∃ (a : Acc) (s : State),
      regFree a 8256 s = true ∧ (s.mode = Mode.run ∨ s.mode = Mode.service ∨ s.mode = Mode.swap)) ∧
    (∃ (a : Acc) (s : State) (target : Nat),
      regFree a 8256 s = true ∧ s.pwr.req = some target) :=
  ⟨⟨inner, runS,
    by decide +kernel⟩,
   ⟨inner, (runS.wrg64 Reg.SPL_SAVE_BASE 0x90000000).wrg Reg.AON_WAKE_AT_CTL 1,
    by decide +kernel⟩,
   ⟨inner, runS,
    by decide +kernel⟩,
   ⟨inner, { State.reset with mode := .run, pwr := { Pwr.reset with req := some 6 } }, 6,
    by decide +kernel⟩⟩

/-- The hypotheses of SleepEntriesComplete are met, clause by clause. -/
theorem wit_SleepEntriesComplete :
    (∃ (s : State) (u : State),
      u = entered Mode.doze (armLatch 6 s) ∧ s.mode = Mode.run ∧ s.pwr.req = some 6 ∧ s.pat.outage = none ∧ coresHalted s = true) ∧
    (∃ (s : State) (u : State) (v : State),
      v = drainCores (cutOperations (flashNap (pleatNap (armLatch 7 s)))) ∧ u = entered Mode.nap (setPhases 1 (dllsStop (fun x => true) (captureNap (timeCapture { v with ram := { v.ram with selfRefresh := true }, pwr := { v.pwr with alarms := cmpAlarms s ++ deadlineAlarms s ++ commitAlarms s ++ tteAlarms s ++ wakeAtAlarms s } })))) ∧ s.mode = Mode.run ∧ s.pwr.req = some 7 ∧ coresHalted s = true ∧ napWaits s = false) ∧
    (∃ (s : State) (u : State) (t : State),
      t = hibBegin s ∧ u = hibEnd t ∧ s.mode = Mode.run ∧ s.pwr.req = some 8 ∧ s.pat.outage = none ∧ basteHolds s = false ∧ saveValid s = true ∧ t.mode = Mode.run ∧ t.pwr.entry = some 8 ∧ flushReady t = true) :=
  ⟨⟨{ State.reset with mode := .run, pwr := { Pwr.reset with req := some 6 } }, _,
    rfl, by decide +kernel⟩,
   ⟨{ State.reset with mode := .run, pwr := { Pwr.reset with req := some 7 } }, _, _,
    rfl, rfl, by decide +kernel⟩,
   ⟨({ State.reset with mode := .run, pwr := { Pwr.reset with req := some 8 } }).wrg64 Reg.SPL_SAVE_BASE 0x90000000, _, _,
    rfl, rfl, by decide +kernel⟩⟩

/-- The hypotheses of WakesAndSourcesComplete are met, clause by clause. -/
theorem wit_WakesAndSourcesComplete :
    (∃ (s : State),
      s.mode = Mode.doze ∧ s.pwr.latch ≠ []) ∧
    (∃ (s : State) (core : Nat),
      s.mode = Mode.doze ∧ s.pwr.latch = [] ∧ coreEvent s = some core) ∧
    (∃ (s : State) (v : State) (w : State),
      v = setPhases (phasesNow s) s ∧ w = queWake (dropNap (wdgWake (flashNapWake (pleatWake (timeRebuild (ovlWake { v with ram := { v.ram with selfRefresh := false } })))))) ∧ s.mode = Mode.nap ∧ s.pwr.latch ≠ []) ∧
    (∃ (s : State) (env : StartEnv) (v : State) (r : State × Bool) (w : State) (x : State) (y : State),
      v = lcRead (replayScan (steerBegin (timeRebuild (takeSamples env.readings env.vdd (fltRestart (banksUp env.banks (railsGood { s with pwr := { s.pwr with wakeTries := 0 } }))))))) ∧ r = (if (isRaw v.lcs.st || isLockedTest v.lcs.st) = true then (setMode Mode.load v, true) else loadDecision env.candFails env.hemFails v) ∧ w = wdgWake (memWake v.pwr.retained (clocksUp env r.fst)) ∧ x = { w with fit := { w.fit with began := w.now } } ∧ y = bobRestore env.saveOk (regionsIn x) ∧ s.mode = Mode.hibernate ∧ s.pwr.latch ≠ [] ∧ s.pwr.wakeHeld = false ∧ s.pwr.vin = true ∧ r.snd = false) ∧
    (∃ (s : State) (env : StartEnv) (v : State) (r : State × Bool) (w : State) (x : State) (y : State),
      v = lcRead (replayScan (steerBegin (timeRebuild (takeSamples env.readings env.vdd (fltRestart (banksUp env.banks (railsGood { s with pwr := { s.pwr with wakeTries := 0 } }))))))) ∧ r = (if (isRaw v.lcs.st || isLockedTest v.lcs.st) = true then (setMode Mode.load v, true) else loadDecision env.candFails env.hemFails v) ∧ w = wdgWake (memWake v.pwr.retained (clocksUp env r.fst)) ∧ x = { w with fit := { w.fit with began := w.now } } ∧ y = bobRestore env.saveOk (regionsIn x) ∧ s.mode = Mode.hibernate ∧ s.pwr.latch ≠ [] ∧ s.pwr.wakeHeld = false ∧ s.pwr.vin = true ∧ r.snd = true ∧ coreClocks y = true) ∧
    (∃ (s : State) (env : StartEnv) (v : State) (r : State × Bool) (w : State) (x : State) (y : State),
      v = lcRead (replayScan (steerBegin (timeRebuild (takeSamples env.readings env.vdd (fltRestart (banksUp env.banks (railsGood { s with pwr := { s.pwr with wakeTries := 0 } }))))))) ∧ r = (if (isRaw v.lcs.st || isLockedTest v.lcs.st) = true then (setMode Mode.load v, true) else loadDecision env.candFails env.hemFails v) ∧ w = wdgWake (memWake v.pwr.retained (clocksUp env r.fst)) ∧ x = { w with fit := { w.fit with began := w.now } } ∧ y = bobRestore env.saveOk (regionsIn x) ∧ s.mode = Mode.hibernate ∧ s.pwr.latch ≠ [] ∧ s.pwr.wakeHeld = false ∧ s.pwr.vin = true ∧ r.snd = true ∧ coreClocks y = false) ∧
    (∃ (s : State),
      s.mode = Mode.hibernate ∧ s.pwr.latch ≠ [] ∧ s.pwr.wakeHeld = false ∧ s.pwr.wakeTries < 3) ∧
    (∃ (s : State),
      s.mode = Mode.hibernate ∧ s.pwr.latch ≠ [] ∧ s.pwr.wakeHeld = false ∧ 3 ≤ s.pwr.wakeTries) ∧
    (∃ (s : State) (code : Fin 16) (idx : Nat),
      s.pwr.latching = true ∧ s.pwr.wakeHeld = false ∧ canWake s (↑code) idx = true) ∧
    (∃ (s : State) (code : Fin 16) (idx : Nat),
      (s.pwr.latching = false ∨ s.pwr.wakeHeld = true ∨ canWake s (↑code) idx = false)) ∧
    (∃ (s : State),
      s.mode = Mode.doze ∧ wakeAtOn s = true ∧ s.rg64 Reg.AON_WAKE_AT ≤ s.now + 2000) ∧
    (∃ (s : State),
      (s.mode = Mode.nap ∨ s.mode = Mode.hibernate) ∧ s.pwr.wakeHeld = false) ∧
    (∃ (s : State) (t : State),
      t = s.wb Reg.AON_WAKE_AT_CTL 0 false ∧ wakeAtOn s = true ∧ s.rg64 Reg.AON_WAKE_AT ≤ edgeNow s ∧ s.mode = Mode.run) ∧
    (∃ (s : State) (t : State),
      t = s.wb Reg.AON_WAKE_AT_CTL 0 false ∧ wakeAtOn s = true ∧ s.rg64 Reg.AON_WAKE_AT ≤ edgeNow s ∧ s.mode ≠ Mode.run) ∧
    (∃ (s : State) (t : State),
      t = s.wb Reg.AON_WAKE_AT_CTL 0 false ∧ wakeAtOn s = true ∧ s.rg64 Reg.AON_WAKE_AT ≤ edgeNow s) :=
  ⟨⟨{ State.reset with mode := .doze, pwr := { Pwr.reset with latch := [(7, 0)] } },
    by decide +kernel⟩,
   ⟨({ withCore { core0 with ctx := { Ctx.reset with mie := 0x80, mstMie := true } } with mode := .doze }).wrg64 (Reg.CORE_MTIMECMP 0) 0, 0,
    by decide +kernel⟩,
   ⟨{ State.reset with mode := .nap, pwr := { Pwr.reset with latch := [(7, 0)] } }, _, _,
    rfl, rfl, by decide +kernel⟩,
   ⟨{ State.reset with mode := .hibernate, pwr := { Pwr.reset with latch := [(7, 0)] } }, startEnv, _, _, _, _, _,
    rfl, rfl, rfl, rfl, rfl, by decide +kernel⟩,
   ⟨{ State.reset with mode := .hibernate, pwr := { Pwr.reset with latch := [(7, 0)] }, lcs := { Lcs.reset with word := 0, st := 0 } }, { startEnv with xoReady := true, locked := 0xFF }, _, _, _, _, _,
    rfl, rfl, rfl, rfl, rfl, by decide +kernel⟩,
   ⟨{ State.reset with mode := .hibernate, pwr := { Pwr.reset with latch := [(7, 0)] }, lcs := { Lcs.reset with word := 0, st := 0 } }, { startEnv with locked := 0 }, _, _, _, _, _,
    rfl, rfl, rfl, rfl, rfl, by decide +kernel⟩,
   ⟨{ State.reset with mode := .hibernate, pwr := { Pwr.reset with latch := [(7, 0)] } },
    by decide +kernel⟩,
   ⟨{ State.reset with mode := .hibernate, pwr := { Pwr.reset with latch := [(7, 0)], wakeTries := 3 } },
    by decide +kernel⟩,
   ⟨{ State.reset with mode := .nap, pwr := { Pwr.reset with latching := true } }, 9, 0,
    by decide +kernel⟩,
   ⟨State.reset, 0, 0,
    by decide +kernel⟩,
   ⟨({ State.reset with mode := .doze }).wrg Reg.AON_WAKE_AT_CTL 1,
    by decide +kernel⟩,
   ⟨{ State.reset with mode := .nap, pwr := { Pwr.reset with alarms := [(6, 0, 0)] } },
    by decide +kernel⟩,
   ⟨runS.wrg Reg.AON_WAKE_AT_CTL 1, _,
    rfl, by decide +kernel⟩,
   ⟨({ State.reset with mode := .doze }).wrg Reg.AON_WAKE_AT_CTL 1, _,
    rfl, by decide +kernel⟩,
   ⟨({ State.reset with mode := .doze }).wrg Reg.AON_WAKE_AT_CTL 1, _,
    rfl, by decide +kernel⟩⟩

/-- The hypotheses of ThimbleCommandsComplete are met, clause by clause. -/
theorem wit_ThimbleCommandsComplete :
    (∃ (a : Acc) (s : State) (c : State) (slot : Fin 16) (m : State × List Byte),
      c = asymContest a.env.contested s ∧ m = unitRead (thmArg s) 48 s ∧ regFree a 295008 s = true ∧ lcOwner s = true ∧ a.env.otpBad = false ∧ ↑slot ≠ 0 ∧ blockIn (thmArg s) 48 = true ∧ (signOf s ↑slot).programmed = false) ∧
    (∃ (a : Acc) (s : State) (c : State) (slot : Fin 16),
      c = asymContest a.env.contested s ∧ regFree a 295008 s = true ∧ lcOwner s = true ∧ a.env.otpBad = false ∧ ((List.range 16).any fun k => k != ↑slot && (signOf s k).programmed && !(signOf s k).revoked) = true) ∧
    (∃ (a : Acc) (s : State) (c : State) (slot : Fin 16) (m : State × List Byte),
      c = asymContest a.env.contested s ∧ m = unitRead (thmArg s) 156 c ∧ regFree a 295008 s = true ∧ lcOwner s = true ∧ a.env.otpBad = false ∧ ↑slot < 8 ∧ blockIn (thmArg s) 156 = true ∧ (dkeyOf s ↑slot).programmed = false) ∧
    (∃ (a : Acc) (s : State) (c : State) (slot : Fin 16),
      c = asymContest a.env.contested s ∧ regFree a 295008 s = true ∧ lcOwner s = true ∧ a.env.otpBad = false ∧ ↑slot < 8) ∧
    (∃ (a : Acc) (s : State) (c : State) (m : State × List Byte),
      c = asymContest a.env.contested s ∧ m = unitRead (thmArg s) 48 c ∧ regFree a 295008 s = true ∧ lcOwner s = true ∧ a.env.otpBad = false ∧ blockIn (thmArg s) 144 = true) :=
  ⟨⟨inner, runS.wrg64 Reg.THM_ARG 0x20000000, _, 1, _,
    rfl, rfl, by decide +kernel⟩,
   ⟨inner, { runS with thm := { Thm.reset with sign := [(3, { SignSlot.reset with programmed := true })] } }, _, 1,
    rfl, by decide +kernel⟩,
   ⟨inner, runS.wrg64 Reg.THM_ARG 0x20000000, _, 0, _,
    rfl, rfl, by decide +kernel⟩,
   ⟨inner, State.reset, _, 0,
    rfl, by decide +kernel⟩,
   ⟨inner, runS.wrg64 Reg.THM_ARG 0x20000000, _, _,
    rfl, rfl, by decide +kernel⟩⟩

/-- The hypotheses of EnrolmentsComplete are met, clause by clause. -/
theorem wit_EnrolmentsComplete :
    (∃ (a : Acc) (s : State) (entry : Fin 1024) (x : Enrol) (addr : Nat) (m : State × List Byte),
      x = enrolOf s ↑entry ∧ addr = s.rg64 Reg.SES_ENROL_ADDR % 2 ^ 40 ∧ m = unitRead addr 128 s ∧ regFree a 266308 s = true ∧ a.env.storeBad = false ∧ blockIn addr 128 = true) ∧
    (∃ (a : Acc) (s : State) (entry : Fin 1024) (x : Enrol) (addr : Nat),
      x = enrolOf s ↑entry ∧ addr = s.rg64 Reg.SES_ENROL_ADDR % 2 ^ 40 ∧ regFree a 266308 s = true ∧ a.env.storeBad = false ∧ x.valid = true) ∧
    (∃ (a : Acc) (s : State) (entry : Fin 1024) (x : Enrol) (addr : Nat),
      x = enrolOf s ↑entry ∧ addr = s.rg64 Reg.SES_ENROL_ADDR % 2 ^ 40 ∧ regFree a 266308 s = true ∧ a.env.storeBad = false ∧ x.valid = true ∧ blockIn addr 128 = true) :=
  ⟨⟨inner, (runS).wrg64 Reg.SES_ENROL_ADDR 0x20000000, 0, _, _, _,
    rfl, rfl, rfl, by decide +kernel⟩,
   ⟨inner, { runS with ses := { Ses.reset with enrol := [(0, { Enrol.reset with valid := true })] } }, 0, _, _,
    rfl, rfl, by decide +kernel⟩,
   ⟨inner, ({ runS with ses := { Ses.reset with enrol := [(0, { Enrol.reset with valid := true })] } }).wrg64 Reg.SES_ENROL_ADDR 0x20000000, 0, _, _,
    rfl, rfl, by decide +kernel⟩⟩

/-- The hypotheses of HandshakesComplete are met, clause by clause. -/
theorem wit_HandshakesComplete :
    (∃ (s : State) (port : Fin 24) (l : List Byte) (t : State),
      takeFrame (↑port) s = some (l, t) ∧ sesRuns s = true ∧ ftype l = 1 ∧ l.length = 148 ∧ blockNum l 2 2 = 148 ∧ blockNum l 4 12 = 0 ∧ blockNum l 18 2 = 0 ∧ helloCheck t l = none) ∧
    (∃ (s : State) (port : Fin 24) (contested : Bool) (l : List Byte) (t : State) (c : State) (x : Slot) (e : Enrol) (y : Slot),
      takeFrame (↑port) s = some (l, t) ∧ x = slotOf t (fslot l) ∧ c = asymContest contested t ∧ e = enrolOf c x.partner ∧ y = { st := 2, port := x.port, partner := x.partner, gen := x.gen, seqIn := x.seqIn, seqOut := x.seqOut, bad := x.bad, last := c.now, th := x.th, keys := x.keys, cell := x.cell, full0 := x.full0, full1 := x.full1 } ∧ sesRuns s = true ∧ frameOk l = true ∧ ftype l = 3 ∧ frameSlotOk t (↑port) l = true ∧ x.st = 1 ∧ l.length = 112 ∧ fseq l = 0) ∧
    (∃ (s : State) (port : Fin 24) (l : List Byte) (t : State),
      takeFrame (↑port) s = some (l, t) ∧ sesRuns s = true ∧ frameOk l = true ∧ ftype l = 5 ∧ frameSlotOk t (↑port) l = true) ∧
    (∃ (s : State) (slot : Fin 1024) (x : Slot),
      x = slotOf s ↑slot ∧ x.st = 1 ∧ x.last + max 1 (s.rf Reg.SES_CFG 16 8) * 10000000 ≤ s.now) ∧
    (∃ (s : State) (slot : Fin 1024) (x : Slot),
      x = slotOf s ↑slot ∧ x.st = 2 ∧ s.rf Reg.SES_CFG 0 16 ≠ 0 ∧ x.last + s.rf Reg.SES_CFG 0 16 * 1000000000 ≤ s.now) :=
  ⟨⟨{ runS with ses := { Ses.reset with enrol := [(0, { Enrol.reset with valid := true, enabled := true, maxSess := 1 })], inbox := [(0, ([1, 1, 148, 0] ++ List.replicate 144 0))] } }, 0, [1, 1, 148, 0] ++ List.replicate 144 0, _,
    rfl, by decide +kernel⟩,
   ⟨{ runS with ses := { Ses.reset with slots := [(0, { Slot.reset with st := 1 })], inbox := [(0, ([1, 3, 112, 0] ++ List.replicate 108 0))] } }, 0, false, [1, 3, 112, 0] ++ List.replicate 108 0, _, _, _, _, _,
    rfl, rfl, rfl, rfl, rfl, by decide +kernel⟩,
   ⟨{ runS with ses := { Ses.reset with slots := [(0, { Slot.reset with st := 2 })], inbox := [(0, ([1, 5, 17, 0] ++ List.replicate 13 0))] } }, 0, [1, 5, 17, 0] ++ List.replicate 13 0, _,
    rfl, by decide +kernel⟩,
   ⟨({ runS with ses := { Ses.reset with slots := [(0, { Slot.reset with st := 1 })] } }).wrg64 Reg.TIM_NOW 3000000000, 0, _,
    rfl, by decide +kernel⟩,
   ⟨(({ runS with ses := { Ses.reset with slots := [(0, { Slot.reset with st := 2 })] } }).wrg Reg.SES_CFG 1).wrg64 Reg.TIM_NOW 1000000000, 0, _,
    rfl, by decide +kernel⟩⟩

/-- The hypotheses of SessionTrafficComplete are met, clause by clause. -/
theorem wit_SessionTrafficComplete :
    (∃ (s : State) (port : Fin 24) (l : List Byte) (t : State),
      takeFrame (↑port) s = some (l, t) ∧ sesRuns s = true ∧ frameOk l = true ∧ ftype l = 16 ∧ frameSlotOk t (↑port) l = true ∧ (slotOf t (fslot l)).st = 2) ∧
    (∃ (s : State) (a : Acc) (slot : Fin 1024) (len : BitVec 12) (t : State) (addr : Nat) (m : State × List Byte),
      t = sesDue s ∧ addr = t.rg64 Reg.SES_TX_ADDR % 2 ^ 40 ∧ m = unitRead addr len.toNat t ∧ regFree a 266352 s = true ∧ (slotOf t ↑slot).st = 2 ∧ 1 ≤ len.toNat ∧ len.toNat ≤ 4062 ∧ inUserMem addr len.toNat = true ∧ outBusy t (slotOf t ↑slot).port = false) ∧
    (∃ (s : State) (a : Acc),
      regFree a 266336 s = true ∧ rxValid s = true) ∧
    (∃ (s : State) (a : Acc) (slot : Fin 1024) (x : Slot),
      x = slotOf s ↑slot ∧ regFree a 266360 s = true ∧ x.st = 2) :=
  ⟨⟨{ runS with ses := { Ses.reset with slots := [(0, { Slot.reset with st := 2 })], inbox := [(0, ([1, 16, 40, 0] ++ List.replicate 36 0))] } }, 0, [1, 16, 40, 0] ++ List.replicate 36 0, _,
    rfl, by decide +kernel⟩,
   ⟨({ runS with ses := { Ses.reset with slots := [(0, { Slot.reset with st := 2 })] } }).wrg64 Reg.SES_TX_ADDR 0x20000000, inner, 0, 1, _, _, _,
    rfl, rfl, rfl, by decide +kernel⟩,
   ⟨({ runS with ses := { Ses.reset with slots := [(0, { Slot.reset with st := 2, full1 := true })] } }).wrg64 Reg.SES_RX_BASE 0x90000000, inner,
    by decide +kernel⟩,
   ⟨{ runS with ses := { Ses.reset with slots := [(0, { Slot.reset with st := 2 })] } }, inner, 0, _,
    rfl, by decide +kernel⟩⟩

/-- The hypotheses of LifeCycleCommandsComplete are met, clause by clause. -/
theorem wit_LifeCycleCommandsComplete :
    (∃ (a : Acc) (s : State) (c : State) (turn : Nat → State),
      (∀ (v : Nat), turn v = (lcTurn 0 a.env.meets (fun t => (lcsRun (w32 v) a.env.steps a.env.otpMask a.env.otpBad t, ())) s).fst) ∧ c = grantExpire s ∧ regFree a 299104 s = true) ∧
    (∃ (a : Acc) (s : State) (c : State) (turn : Nat → State) (target : BitVec 5),
      (∀ (v : Nat), turn v = (lcTurn 0 a.env.meets (fun t => (lcsRun (w32 v) a.env.steps a.env.otpMask a.env.otpBad t, ())) s).fst) ∧ c = grantExpire s ∧ regFree a 299104 s = true ∧ a.env.meets = [] ∧ lcRefusal c target.toNat (tokenBytes c) = none) ∧
    (∃ (a : Acc) (s : State) (c : State) (turn : Nat → State) (token : BitVec 5),
      (∀ (v : Nat), turn v = (lcTurn 0 a.env.meets (fun t => (lcsRun (w32 v) a.env.steps a.env.otpMask a.env.otpBad t, ())) s).fst) ∧ c = grantExpire s ∧ regFree a 299104 s = true ∧ a.env.meets = [] ∧ a.env.otpBad = false ∧ (tokenOf c token.toNat).programmed = false ∧ (token.toNat < 8 ∧ c.lcs.st = 0 ∨ token.toNat = 8 ∧ (c.lcs.st = 15 ∨ c.lcs.st = 16))) ∧
    (∃ (a : Acc) (s : State) (c : State) (turn : Nat → State),
      (∀ (v : Nat), turn v = (lcTurn 0 a.env.meets (fun t => (lcsRun (w32 v) a.env.steps a.env.otpMask a.env.otpBad t, ())) s).fst) ∧ c = grantExpire s ∧ regFree a 299104 s = true ∧ a.env.meets = [] ∧ c.lcs.grant = none ∧ isOpenState c.lcs.st = true ∧ c.mode = Mode.run) ∧
    (∃ (a : Acc) (s : State) (c : State) (turn : Nat → State),
      (∀ (v : Nat), turn v = (lcTurn 0 a.env.meets (fun t => (lcsRun (w32 v) a.env.steps a.env.otpMask a.env.otpBad t, ())) s).fst) ∧ c = grantExpire s ∧ regFree a 299104 s = true ∧ a.env.meets = []) ∧
    (∃ (a : Acc) (s : State) (c : State) (turn : Nat → State),
      (∀ (v : Nat), turn v = (lcTurn 0 a.env.meets (fun t => (lcsRun (w32 v) a.env.steps a.env.otpMask a.env.otpBad t, ())) s).fst) ∧ c = grantExpire s ∧ regFree a 299104 s = true ∧ a.env.meets = [] ∧ c.lcs.grant.isSome = true ∧ c.mode = Mode.service) :=
  ⟨⟨inner, runS, _, _,
    fun _ => rfl, rfl, by decide +kernel⟩,
   ⟨inner, runS, _, _, 0x13,
    fun _ => rfl, rfl, by decide +kernel⟩,
   ⟨inner, runS, _, _, 8,
    fun _ => rfl, rfl, by decide +kernel⟩,
   ⟨inner, runS, _, _,
    fun _ => rfl, rfl, by decide +kernel⟩,
   ⟨inner, State.reset, _, _,
    fun _ => rfl, rfl, by decide +kernel⟩,
   ⟨inner, { runS with mode := .service, lcs := { Lcs.reset with grant := some ⟨true, 0, 0, 0xFF, 0xFFFF, 0, true⟩ } }, _, _,
    fun _ => rfl, rfl, by decide +kernel⟩⟩

/-- The hypotheses of JtagInstructionsComplete are met, clause by clause. -/
theorem wit_JtagInstructionsComplete :
    (∃ (s : State) (g : State) (sel : Nat → State),
      (∀ (code : Nat), sel code = { g with lcs := { g.lcs with tap := code } }) ∧ g = grantExpire s ∧ g.mode ≠ Mode.off ∧ g.mode ≠ Mode.hibernate) ∧
    (∃ (s : State) (g : State) (sel : Nat → State),
      (∀ (code : Nat), sel code = { g with lcs := { g.lcs with tap := code } }) ∧ g = grantExpire s ∧ g.mode ≠ Mode.off ∧ g.mode ≠ Mode.hibernate ∧ jtagOpen g 2 = true) ∧
    (∃ (s : State) (g : State) (sel : Nat → State),
      (∀ (code : Nat), sel code = { g with lcs := { g.lcs with tap := code } }) ∧ g = grantExpire s ∧ g.mode ≠ Mode.off ∧ g.mode ≠ Mode.hibernate ∧ jtagOpen g 24 = true) ∧
    (∃ (s : State) (g : State) (sel : Nat → State),
      (∀ (code : Nat), sel code = { g with lcs := { g.lcs with tap := code } }) ∧ g = grantExpire s ∧ g.mode ≠ Mode.off ∧ g.mode ≠ Mode.hibernate ∧ jtagOpen g 25 = true) ∧
    (∃ (s : State) (g : State) (sel : Nat → State),
      (∀ (code : Nat), sel code = { g with lcs := { g.lcs with tap := code } }) ∧ g = grantExpire s ∧ g.mode ≠ Mode.off ∧ g.mode ≠ Mode.hibernate ∧ jtagOpen g 24 = false) ∧
    (∃ (s : State) (g : State) (sel : Nat → State),
      (∀ (code : Nat), sel code = { g with lcs := { g.lcs with tap := code } }) ∧ g = grantExpire s ∧ g.mode ≠ Mode.off ∧ g.mode ≠ Mode.hibernate ∧ s.lcs.grant = none) ∧
    (∃ (s : State) (g : State) (sel : Nat → State) (x : Grant),
      (∀ (code : Nat), sel code = { g with lcs := { g.lcs with tap := code } }) ∧ g = grantExpire s ∧ g.mode ≠ Mode.off ∧ g.mode ≠ Mode.hibernate ∧ s.lcs.grant = some x ∧ x.jtag = true) :=
  ⟨⟨runS, _, _,
    fun _ => rfl, rfl, by decide +kernel⟩,
   ⟨runS, _, _,
    fun _ => rfl, rfl, by decide +kernel⟩,
   ⟨runS, _, _,
    fun _ => rfl, rfl, by decide +kernel⟩,
   ⟨runS, _, _,
    fun _ => rfl, rfl, by decide +kernel⟩,
   ⟨{ runS with lcs := { Lcs.reset with st := 0x10 } }, _, _,
    fun _ => rfl, rfl, by decide +kernel⟩,
   ⟨runS, _, _,
    fun _ => rfl, rfl, by decide +kernel⟩,
   ⟨{ runS with mode := .service, lcs := { Lcs.reset with grant := some ⟨true, 0, 0, 0xFF, 0xFFFF, 0, true⟩ } }, _, _, ⟨true, 0, 0, 0xFF, 0xFFFF, 0, true⟩,
    fun _ => rfl, rfl, by decide +kernel⟩⟩

/-- The hypotheses of AuthorisationsComplete are met, clause by clause. -/
theorem wit_AuthorisationsComplete :
    (∃ (s : State) (g : State) (sel : Nat → State) (target : BitVec 8) (token : List Byte) (env : RegEnv),
      (∀ (code : Nat), sel code = { g with lcs := { g.lcs with tap := code } }) ∧ g = grantExpire s ∧ env.meets = [] ∧ g.mode ≠ Mode.off ∧ g.mode ≠ Mode.hibernate ∧ jtagOpen g 17 = true ∧ lcRefusal (sel 17) target.toNat token = none) ∧
    (∃ (s : State) (g : State) (sel : Nat → State) (panel : BitVec 8) (scope : BitVec 16) (minutes : BitVec 16) (keyId : BitVec 8) (c : Challenge) (x : State),
      (∀ (code : Nat), sel code = { g with lcs := { g.lcs with tap := code } }) ∧ g = grantExpire s ∧ c = { jtag := true, panel := panel.toNat, scope := scope.toNat, minutes := minutes.toNat, keyId := keyId.toNat, slot := 0, nonce := (Config.nonce g.fresh).toNat, issued := g.now } ∧ x = { sel 18 with lcs := { (sel 18).lcs with challenge := some c } } ∧ g.mode = Mode.run ∧ (g.lcs.st = 16 ∨ g.lcs.st = 17) ∧ g.lcs.challenge = none ∧ g.lcs.grant = none ∧ panel.toNat < 8 ∧ scope.toNat < 32 ∧ 1 ≤ minutes.toNat ∧ minutes.toNat ≤ 1440 ∧ 1 ≤ keyId.toNat ∧ keyId.toNat < 16) ∧
    (∃ (s : State) (g : State) (sel : Nat → State) (body : List (BitVec 8)) (c : Challenge) (y : State) (k : SignSlot) (key : List Byte) (t : Nat),
      (∀ (code : Nat), sel code = { g with lcs := { g.lcs with tap := code } }) ∧ g = grantExpire s ∧ k = signOf g c.keyId ∧ key = List.take 96 body ∧ y = { sel 19 with lcs := { (sel 19).lcs with challenge := none } } ∧ t = g.now + c.minutes * 60000000000 ∧ g.mode = Mode.run ∧ (g.lcs.st = 16 ∨ g.lcs.st = 17) ∧ g.lcs.challenge = some c ∧ c.jtag = true ∧ g.now < c.issued + 300000000000 ∧ body.length = 192 ∧ k.programmed = true ∧ k.revoked = false) ∧
    (∃ (s : State) (g : State) (sel : Nat → State),
      (∀ (code : Nat), sel code = { g with lcs := { g.lcs with tap := code } }) ∧ g = grantExpire s ∧ g.mode ≠ Mode.off ∧ g.mode ≠ Mode.hibernate ∧ (g.lcs.st = 16 ∨ g.lcs.st = 17) ∧ (g.lcs.challenge = none ∨ g.mode ≠ Mode.run)) ∧
    (∃ (s : State) (g : State) (sel : Nat → State),
      (∀ (code : Nat), sel code = { g with lcs := { g.lcs with tap := code } }) ∧ g = grantExpire s) ∧
    (∃ (s : State) (g : State) (sel : Nat → State) (c : Challenge),
      (∀ (code : Nat), sel code = { g with lcs := { g.lcs with tap := code } }) ∧ g = grantExpire s ∧ s.lcs.challenge = some c ∧ c.issued + 300000000000 ≤ s.now) ∧
    (∃ (s : State) (g : State) (sel : Nat → State) (x : Grant),
      (∀ (code : Nat), sel code = { g with lcs := { g.lcs with tap := code } }) ∧ g = grantExpire s ∧ s.lcs.grant = some x ∧ x.full = false ∧ x.endTime ≤ s.now) :=
  ⟨⟨runS, _, _, 0x13, [], .calm,
    fun _ => rfl, rfl, by decide +kernel⟩,
   ⟨{ runS with lcs := { Lcs.reset with st := 0x10 } }, _, _, 0, 0, 1, 1, _, _,
    fun _ => rfl, rfl, rfl, rfl, by decide +kernel⟩,
   ⟨{ runS with lcs := { Lcs.reset with st := 0x10, challenge := some ⟨true, 0, 0, 1, 1, 0, 0, 0⟩ }, thm := { Thm.reset with sign := [(1, { SignSlot.reset with programmed := true })] } }, _, _, List.replicate 192 0, ⟨true, 0, 0, 1, 1, 0, 0, 0⟩, _, _, _, _,
    fun _ => rfl, rfl, rfl, rfl, rfl, rfl, by decide +kernel⟩,
   ⟨{ runS with lcs := { Lcs.reset with st := 0x10 } }, _, _,
    fun _ => rfl, rfl, by decide +kernel⟩,
   ⟨runS, _, _,
    fun _ => rfl, rfl⟩,
   ⟨({ runS with lcs := { Lcs.reset with st := 0x10, challenge := some ⟨true, 0, 0, 1, 1, 0, 0, 0⟩ }, thm := { Thm.reset with sign := [(1, { SignSlot.reset with programmed := true })] } }).wrg64 Reg.TIM_NOW 300000000000, _, _, ⟨true, 0, 0, 1, 1, 0, 0, 0⟩,
    fun _ => rfl, rfl, by decide +kernel⟩,
   ⟨({ runS with lcs := { Lcs.reset with grant := some ⟨true, 0, 0, 1, 0xFFFF, 5, false⟩ } }).wrg64 Reg.TIM_NOW 5, _, _, ⟨true, 0, 0, 1, 0xFFFF, 5, false⟩,
    fun _ => rfl, rfl, by decide +kernel⟩⟩

/-- The hypotheses of FittingComplete are met, clause by clause. -/
theorem wit_FittingComplete :
    (∃ (s : State) (r : FitRun),
      fitOn s = true ∧ List.find? (fun r => fitPower s r.cls && fitSpace s r.cls r.unit) (fitOrder s) = some r) ∧
    (∃ (s : State) (cls : Fin 8) (unit : Fin 256) (sig : BitVec 64) (r : FitRun) (t : State),
      t = s.wrg64 Reg.FIT_SIG (if (fitClass ↑cls).misr = true then sig.toNat else 0) ∧ List.find? (fun r => r.cls == ↑cls && r.unit == ↑unit) s.fit.running = some r ∧ r.retry = false ∧ marchMeets r none s = none) ∧
    (∃ (s : State),
      fitOn s = true ∧ s.mode ≠ Mode.safe ∧ s.fit.began + max 1 (s.rf Reg.FIT_CFG 0 16) * 60000000000 ≤ s.now) ∧
    (∃ (s : State),
      s.rb Reg.FIT_WINDOW_LEN 31 = true ∧ s.fit.window = none ∧ s.rg64 Reg.FIT_WINDOW_AT ≤ s.now) ∧
    (∃ (s : State) (e : Nat),
      s.fit.window = some e ∧ e ≤ s.now) ∧
    (∃ (s : State) (a : Acc) (cls : BitVec 4) (unit : BitVec 8) (slice : BitVec 8),
      regFree a 327776 s = true ∧ fitEnabled s cls.toNat = true ∧ unit.toNat < (fitClass cls.toNat).units ∧ slice.toNat < (fitClass cls.toNat).slices) ∧
    (∃ (s : State) (a : Acc) (cls : BitVec 4) (unit : BitVec 8),
      regFree a 327776 s = true ∧ fitEnabled s cls.toNat = true ∧ unit.toNat < (fitClass cls.toNat).units) ∧
    (∃ (s : State) (a : Acc),
      regFree a 327776 s = true) :=
  ⟨⟨runS, (fitOrder runS).headD ⟨1, 0, 0, 0, false, false, false⟩,
    by decide +kernel⟩,
   ⟨{ runS with fit := { Fit.reset with running := [⟨1, 0, 0, 0, false, false, false⟩] } }, 1, 0, 0, ⟨1, 0, 0, 0, false, false, false⟩, _,
    rfl, by decide +kernel⟩,
   ⟨runS.wrg64 Reg.TIM_NOW 4000000000000000,
    by decide +kernel⟩,
   ⟨runS.wrg Reg.FIT_WINDOW_LEN 0x80000000,
    by decide +kernel⟩,
   ⟨{ runS with fit := { Fit.reset with window := some 0 } }, 0,
    by decide +kernel⟩,
   ⟨runS, inner, 1, 0, 0,
    by decide +kernel⟩,
   ⟨runS, inner, 1, 0,
    by decide +kernel⟩,
   ⟨State.reset, inner,
    by decide +kernel⟩⟩

/-- The hypotheses of MonitorsAndFaultsComplete are met, clause by clause. -/
theorem wit_MonitorsAndFaultsComplete :
    (∃ (s : State),
      monitorsOn s = true) ∧
    (∃ (s : State) (domain : Fin 12) (mv : Nat) (en : Bool) (w : State),
      en = (if ↑domain < 8 then boltEn s else clusterEn s) ∧ w = (noteVdd (↑domain) mv s).wb Reg.MON_LOCAL (↑domain) true ∧ monitorsOn s = true) ∧
    (∃ (s : State) (x : Intake) (t : State),
      t = logOne { s with flt := { s.flt with intake := [] } } x ∧ s.flt.intake = [x] ∧ t.flt.lossDue = false) ∧
    (∃ (s : State) (a : Acc),
      regFree a 335940 s = true) :=
  ⟨⟨runS,
    by decide +kernel⟩,
   ⟨runS.wrg Reg.FLT_ISO_CFG 0xC0000000, 0, 0, _, _,
    rfl, rfl, by decide +kernel⟩,
   ⟨{ runS with flt := { Flt.reset with intake := [⟨0x0402, 0, .run, false, false, 0⟩] } }, ⟨0x0402, 0, .run, false, false, 0⟩, _,
    rfl, by decide +kernel⟩,
   ⟨runS.wrg Reg.FLT_ISO_CFG 0xC0000000, inner,
    by decide +kernel⟩⟩

end Sys2Proof.Machine
end

section
/-!
PROOFS of the statements on the scope of the model (00_scope.md): what reset leaves (O2), and the staging write that refutes O15.
-/

namespace Sys2Proof.Machine

open Sys2Proof

/-! ### What reset leaves -/

/-- Every page R21 assigns lies below 0x53. -/
theorem pageOf_lt {i : Nat} {k : Page} (h : pageOf i = some k) : i < 0x53 := by
  refine Nat.lt_of_not_le fun hi => ?_
  have hnone : pageOf i = none := by
    unfold pageOf
    repeat rw [if_neg (by omega)]
  rw [hnone] at h
  exact nomatch h

@[simp] theorem rg_reset (off : Nat) : State.reset.rg off = regReset off := rfl

/-- The header registers read 0 at reset, STATUS (0x08, whose PWR copy does not) and CTRL (0x0C, which reads 1) apart (R22). -/
theorem regReset_header {i o : Nat} (hi : i < 0x53) (ho : o < 0x40) (hstatus : o ≠ 0x08) (hctrl : o ≠ 0x0C) :
    regReset (i * 0x1000 + o) = 0 := by
  have hbank : (i * 0x1000 + o) % 0x100000 = i * 0x1000 + o := by omega
  have hspecial : resetSpecial (i * 0x1000 + o) = none := by
    unfold resetSpecial
    repeat rw [if_neg (by omega)]
  have hoff : (i * 0x1000 + o) % 0x1000 = o := by omega
  simp only [regReset, hbank, hspecial, hoff, if_neg hctrl, if_pos ho]

/-- The four bytes of a PNL_OWN register at reset. -/
theorem regReset_own {q : Nat} (hq : q < 21) :
    regReset (Reg.PNL_OWN q) = w32 (ownReset (4 * q) + ownReset (4 * q + 1) * 0x100 + ownReset (4 * q + 2) * 0x10000
      + ownReset (4 * q + 3) * 0x1000000) := by
  have hspecial : resetSpecial (Reg.PNL_OWN q) = some (ownReset (4 * q) + ownReset (4 * q + 1) * 0x100
      + ownReset (4 * q + 2) * 0x10000 + ownReset (4 * q + 3) * 0x1000000) := by
    have hsub : 0x1100 + 4 * q - 0x1100 = 4 * q := by omega
    unfold resetSpecial Reg.PNL_OWN
    repeat rw [if_neg (by omega)]
    rw [if_pos (by omega)]
    simp only [hsub]
  have hbank : Reg.PNL_OWN q % 0x100000 = Reg.PNL_OWN q := by unfold Reg.PNL_OWN; omega
  simp only [regReset, hbank, hspecial]

theorem ownReset_le (i : Nat) : ownReset i ≤ 0x80 := by
  unfold ownReset
  split <;> omega

/-- The field of one of four bytes put together to a register word. -/
theorem fld_bytes (b : Nat → Nat) (hb : ∀ j, b j < 0x100) {j : Nat} (hj : j < 4) :
    fld (w32 (b 0 + b 1 * 0x100 + b 2 * 0x10000 + b 3 * 0x1000000)) (8 * j) 8 = b j := by
  have := hb 0; have := hb 1; have := hb 2; have := hb 3
  simp only [fld, w32, BitVec.toNat_ofNat, Nat.shiftRight_eq_div_pow]
  obtain rfl | rfl | rfl | rfl : j = 0 ∨ j = 1 ∨ j = 2 ∨ j = 3 := by omega
  all_goals omega

/-- Each byte of PNL_OWN at reset (R25, R359). -/
theorem own_reset {i : Nat} (hi : i < 0x54) : State.reset.rf (Reg.PNL_OWN (i / 4)) (8 * (i % 4)) 8 = ownReset i := by
  have hbyte := fld_bytes (fun j => ownReset (4 * (i / 4) + j)) (fun j => by have := ownReset_le (4 * (i / 4) + j); omega)
    (j := i % 4) (by omega)
  rw [Nat.div_add_mod] at hbyte
  rw [State.rf, rg_reset, regReset_own (by omega)]
  exact hbyte

theorem ownerOf_reset {i : Nat} {k : Page} (h : pageOf i = some k) :
    ownerOf State.reset i = if k = .seam then none else some 0 := by
  have hi := pageOf_lt h
  simp only [ownerOf, own_reset (show i < 0x54 by omega), ownReset, h]
  cases k <;> rfl

/-- Settles O2: no register is listed at reset, so each reads its reset value: that of every header register asked for is 0, and the byte
of PNL_OWN of every assigned page names panel 0, SEAM's none. -/
theorem resetState : Obligations.ResetState := by
  refine ⟨rfl, rfl, rfl, rfl, fun page k hk => ?_⟩
  have hpage := pageOf_lt hk
  refine ⟨?_, ?_, ?_, ownerOf_reset hk⟩
  · exact regReset_header hpage (by decide) (by decide) (by decide)
  · exact regReset_header hpage (by decide) (by decide) (by decide)
  · rw [isLocked, State.rb, rg_reset, regReset_header hpage (by decide) (by decide) (by decide)]
    rfl

/-! ### Staging writes (R28, R359) -/

/-- A staged register: the command leaves what the staging write left. -/
theorem regCmd_stages {a : Acc} {off : Nat} {s u : State} {v : Word} {k : Page} {r : RegRow} (h : regFree a off s = true)
    (hk : pageOf (off / 0x1000) = some k) (ho : ¬ off % 0x1000 < 0x40)
    (hplain : blockWrite a.init k (off / 0x1000) (accPanel a s) (off % 0x1000) v a.env s = none)
    (hrow : rowAt k (off % 0x1000) = some r) (hrws : r.rws ≠ 0) (hu : stageWrite r (accPanel a s) off v s = (u, .okay)) :
    regCmd a off v s = regDone u := by
  refine regCmd_free v h u ?_
  rw [regWrite_block v k h hk ho]
  simp only [blockReg, hplain, hrow, if_pos hrws, hu]

/-- A staging write of a PNL_OWN register by a panel with no waiting commit stages the word as R359 leaves it, not the word as written. -/
theorem stageWrite_own {r : RegRow} {p off : Nat} {v : Word} {s : State} (ho : 0x1100 ≤ off ∧ off < 0x1154)
    (hc : (seamOf s p).commit = none) :
    stageWrite r p off v s = (setShadow off (some (p, ownStaged p off (v &&& w32 r.rws) s)) s, .okay) := by
  have hdwin : ¬ (0x1080 ≤ off ∧ off < 0x10A0 ∧ 368 < fld (ownStaged p off (v &&& w32 r.rws) s) 16 9
      + fld (ownStaged p off (v &&& w32 r.rws) s) 0 9) := by omega
  have hpin : ¬ 0x30000 ≤ off := by omega
  simp only [stageWrite, stage, okIf, if_pos ho, hc, if_neg hdwin, hpin, false_and, Option.isSome_none, Bool.false_eq_true, if_false, if_true]

/-- The row of PNL_OWN0 to PNL_OWN20 in the register table of the PNL page. -/
def ownRow : RegRow := ⟨0x100, 21, 4, 0, 0x87878787, 0, 0, 0, 0, 0⟩

theorem pageOf_own : ∀ q : Fin 21, pageOf (Reg.PNL_OWN q / 0x1000) = some .pnl := by decide

theorem rowAt_own : ∀ q : Fin 21, rowAt .pnl (Reg.PNL_OWN q % 0x1000) = some ownRow := by decide

/-- STAGING_WRITE of a PNL_OWN register that nothing bars, by a panel with no waiting commit. -/
theorem exec_stagingWrite_own {a : Acc} {s : State} (q : Fin 21) (v : Word) (h : regFree a (Reg.PNL_OWN q) s = true)
    (hc : (seamOf s (accPanel a s)).commit = none) :
    exec (.stagingWrite a (Reg.PNL_OWN q) v) s = .next (regDone (setShadow (Reg.PNL_OWN q)
      (some (accPanel a s, ownStaged (accPanel a s) (Reg.PNL_OWN q) (v &&& w32 ownRow.rws) s)) s)) := by
  have hstaged : isStaged (Reg.PNL_OWN q) = true := by
    simp only [isStaged, pageOf_own, rowAt_own]
    rfl
  have hoff : 0x1100 ≤ Reg.PNL_OWN q ∧ Reg.PNL_OWN q < 0x1154 := by unfold Reg.PNL_OWN; omega
  have hplain : blockWrite a.init .pnl (Reg.PNL_OWN q / 0x1000) (accPanel a s) (Reg.PNL_OWN q % 0x1000) v a.env s = none := by
    simp only [blockWrite, pnlWrite]
    rw [if_neg (by omega)]
  have hcmd := regCmd_stages h (pageOf_own q) (by omega) hplain (rowAt_own q) (by decide) (stageWrite_own hoff hc)
  change Host.Outcome.next (if isStaged (Reg.PNL_OWN q) then regCmd a (Reg.PNL_OWN q) v s else s) = _
  rw [if_pos hstaged, hcmd]

/-! ### The staging write that leaves another word than it wrote -/

/-- A register access of core 0 that is alone in its cycle. -/
def core0Access : Acc := ⟨.core 0, [], .calm⟩

/-- RUN, every register at its reset value, core 0 started: it carries panel 0, which owns the PNL page. -/
def core0Runs : State := { State.reset with mode := .run, cores := [(0, { Core.reset with started := true })] }

/-- Core 0 stages 0x80 in PNL_OWN0: the bytes of SEAM and PNL ignore the write (R359), so that 0x8000 stands staged. -/
theorem core0_stages_own :
    exec (.stagingWrite core0Access (Reg.PNL_OWN 0) 0x80) core0Runs
      = .next (regDone (setShadow (Reg.PNL_OWN 0) (some (0, 0x8000)) core0Runs)) := by
  have hpanel : accPanel core0Access core0Runs = 0 := by decide +kernel
  have hword : ownStaged 0 (Reg.PNL_OWN 0) (0x80 &&& w32 ownRow.rws) core0Runs = 0x8000 := by decide +kernel
  have hexec := exec_stagingWrite_own (a := core0Access) (s := core0Runs) 0 0x80 (by decide +kernel) (by decide +kernel)
  rwa [hpanel, show ((0 : Fin 21) : Nat) = 0 from rfl, hword] at hexec

/-- Refutes O15: its last clause says that a staged register takes the value as written, masked, and does not except PNL_OWN (0x1100 to
0x1153), whose fixed bytes ignore the write (R359). Core 0 of panel 0 writes 0x80 to PNL_OWN0, and 0x8000 stands staged, not 0x80. -/
theorem not_pageHeadersAndRegistersComplete : ¬ Obligations.PageHeadersAndRegistersComplete := by
  rintro ⟨-, hregs⟩
  obtain ⟨-, hstage⟩ := hregs core0Access core0Runs (Reg.PNL_OWN 0) .pnl ownRow (by decide) (pageOf_own 0) (by decide) (rowAt_own 0)
    (by decide +kernel)
  have hclaim : exec (.stagingWrite core0Access (Reg.PNL_OWN 0) 0x80) core0Runs
      = .next (regDone (setShadow (Reg.PNL_OWN 0) (some (0, 0x80)) core0Runs)) :=
    hstage 0x80 (by decide) (by decide +kernel) (by decide) (by decide) rfl
  rw [core0_stages_own, Host.Outcome.next.injEq] at hclaim
  have hleft : shadowOf (regDone (setShadow (Reg.PNL_OWN 0) (some (0, 0x8000)) core0Runs)) (Reg.PNL_OWN 0) = some (0, 0x8000) := by
    decide +kernel
  have hclaimed : shadowOf (regDone (setShadow (Reg.PNL_OWN 0) (some (0, 0x80)) core0Runs)) (Reg.PNL_OWN 0) = some (0, 0x80) := by
    decide +kernel
  rw [hclaim, hclaimed] at hleft
  exact absurd hleft (by decide)

end Sys2Proof.Machine
end

section
/-!
PROOFS of the statements on the address map and Seam (01_address_map_and_seam.md): what bars a register write and what lets it through
(O6, O7, O8), a commit with nothing staged (O9), and the stages, of offsets that are no staged register, that refute O10 and O14.
-/

namespace Sys2Proof.Machine

open Sys2Proof

/-! ### Offsets of a page -/

theorem pageOff_div {i o : Nat} (ho : o < 0x1000) : (i * 0x1000 + o) / 0x1000 = i := by omega

theorem pageOff_mod {i o : Nat} (ho : o < 0x1000) : (i * 0x1000 + o) % 0x1000 = o := by omega

/-- The block registers of every page begin at 0x40. -/
theorem rows_off (k : Page) : ∀ r ∈ k.rows, 0x40 ≤ r.off := by
  cases k <;> decide

/-- No block register stands among the header registers. -/
theorem rowAt_header (k : Page) {o : Nat} (ho : o < 0x40) : rowAt k o = none := by
  refine List.find?_eq_none.mpr fun r hr hhas => ?_
  have hoff := rows_off k r hr
  simp only [RegRow.has, Bool.and_eq_true, decide_eq_true_eq] at hhas
  omega

/-- Of the header, LOCK freezes CTRL only (R22, R24). -/
theorem freezes_header (k : Page) {o : Nat} (ho : o < 0x40) : freezes k o = (o == 0x0C) := by
  simp only [freezes, rowAt_header k ho, Bool.or_false]

/-- No header register is a panel's own. -/
theorem selfRegister_header {i o : Nat} (ho : o < 0x40) : selfRegister (i * 0x1000 + o) = false := by
  simp only [selfRegister, Reg.WDG_CORE_KICK, Bool.or_eq_false_iff, Bool.and_eq_false_iff, decide_eq_false_iff_not, beq_eq_false_iff_ne]
  omega

/-- Ownership lets an initiator write all header registers of a page, or none. -/
theorem ownerLets_header {x : Initiator} {s : State} {i o o' : Nat} (ho : o < 0x40) (ho' : o' < 0x40) :
    ownerLets x (i * 0x1000 + o) s = ownerLets x (i * 0x1000 + o') s := by
  have hdebug : debugLets x (i * 0x1000 + o) s = debugLets x (i * 0x1000 + o') s := by
    simp only [debugLets, pageOff_div (show o < 0x1000 by omega), pageOff_div (show o' < 0x1000 by omega)]
  simp only [ownerLets, hdebug, selfRegister_header ho, selfRegister_header ho', pageOff_div (show o < 0x1000 by omega),
    pageOff_div (show o' < 0x1000 by omega)]

theorem lockBars_of_unfrozen {s : State} {off : Nat} {k : Page} (hk : pageOf (off / 0x1000) = some k)
    (hf : freezes k (off % 0x1000) = false) : lockBars s off = false := by
  simp only [lockBars, hk, hf, Bool.and_false]

theorem lockBars_of_unlocked {s : State} {off : Nat} (h : isLocked s (off / 0x1000) = false) : lockBars s off = false := by
  simp only [lockBars, h, Bool.false_and]

/-! ### A write on its way to the register pages -/

/-- A write arrives at its register page: its initiator runs, is served (R379) and reaches the pages (R17), is alone in its cycle (R27) and
goes on at once. What is left of `regFree` are the checks of the page itself, ownership and LOCK. -/
structure Arrives (a : Acc) (off : Nat) (s : State) : Prop where
  sends : sends s a.init = true
  served : hostBarred s a.init = false
  alone : busRivals a s = []
  reaches : reachesPages a.init = true
  way : wayFree a.init 2 (0x60000000 + off) 4 s = true

/-- A write that arrives, and that neither ownership nor LOCK bars, is free. -/
theorem Arrives.regFree {a : Acc} {off : Nat} {s : State} (h : Arrives a off s) (howner : ownerLets a.init off s = true)
    (hlock : lockBars s off = false) : regFree a off s = true := by
  simp only [Machine.regFree, h.sends, h.served, h.alone, h.reaches, h.way, howner, hlock, List.isEmpty_nil, Bool.not_false, Bool.and_self]

/-- A 32-bit store at an aligned address of an assigned page is the register command. -/
theorem exec_registerWrite_page {a : Acc} {off : Nat} {k : Page} {s : State} (value : DWord) (h : Arrives a off s)
    (hk : pageOf (off / 0x1000) = some k) (halign : off % 4 = 0) :
    exec (.registerWrite a (0x60000000 + off) 4 value) s = .next (regCmd a off (w32 value.toNat) s) := by
  have hpage := pageOf_lt hk
  have hsub : 0x60000000 + off - 0x60000000 = off := by omega
  have hzone : ¬ (0x60000000 + off < 0x60000000 ∨ 0x60100000 ≤ 0x60000000 + off ∨ (none : Option Page).isSome) := by
    simp only [Option.isSome_none, Bool.false_eq_true, or_false]
    omega
  change Host.Outcome.next (regStore a (0x60000000 + off) 4 value s) = _
  unfold regStore
  rw [if_neg (by simp [h.sends]), if_neg (by simp [h.served]), hsub, if_neg (by simpa [hk] using hzone), if_neg (by omega)]

/-- A write that ownership or LOCK bars answers ACCESS. -/
theorem regWrite_barred {x : Initiator} {off : Nat} {v : Word} {e : RegEnv} {k : Page} {s : State} (hk : pageOf (off / 0x1000) = some k)
    (hreach : reachesPages x = true) (hbars : ownerLets x off s = false ∨ lockBars s off = true) :
    regWrite x off v e s = (s, .access) := by
  have hcheck : (!ownerLets x off s) = true ∨ (isLocked s (off / 0x1000) = true ∧ freezes k (off % 0x1000) = true) := by
    simpa only [lockBars, hk, Bool.and_eq_true, Bool.not_eq_true'] using hbars
  simp only [regWrite, hk, hreach, Bool.not_true, Bool.false_eq_true, if_false, if_pos hcheck]

/-- A command whose write ownership or LOCK bars changes nothing but its answer, ACCESS, and what its sender sees of it (R19, R24, R26). -/
theorem regCmd_barred {a : Acc} {off : Nat} {v : Word} {k : Page} {s : State} (h : Arrives a off s)
    (hk : pageOf (off / 0x1000) = some k) (hbars : ownerLets a.init off s = false ∨ lockBars s off = true) :
    regCmd a off v s = settled (writeSeen a.init (0x60000000 + off) (s.answer .access)) := by
  unfold regCmd
  rw [h.sends, h.served]
  simp only [Bool.not_true, Bool.false_eq_true, if_false]
  rw [onWay_free _ h.way, busCycle_alone a off v s h.alone, regWrite_barred hk h.reaches hbars]

/-! ### CTRL of the nine fixed pages (R23) -/

theorem ctrlFixed_of_mem {k : Page} (h : k ∈ [Page.seam, .pnl, .aon, .pwr, .clk, .tim, .thm, .lcs, .flt]) : k.ctrlFixed = true :=
  (by decide : ∀ k ∈ [Page.seam, .pnl, .aon, .pwr, .clk, .tim, .thm, .lcs, .flt], k.ctrlFixed = true) k h

/-- A write of a fixed CTRL has no effect. -/
theorem regCmd_fixedCtrl {a : Acc} {i : Nat} {k : Page} {s : State} (v : Word) (hk : pageOf i = some k) (hfixed : k.ctrlFixed = true)
    (h : regFree a (i * 0x1000 + 0xC) s = true) : regCmd a (i * 0x1000 + 0xC) v s = regDone s := by
  have hdiv : (i * 0x1000 + 0xC) / 0x1000 = i := pageOff_div (by decide)
  have hmod : (i * 0x1000 + 0xC) % 0x1000 = 0xC := pageOff_mod (by decide)
  rw [regCmd_header k h (by rw [hdiv, hk]) (by rw [hmod]; decide), hdiv, hmod]
  simp only [headerWrite, ctrlWrite, hfixed, if_true]

/-- A fixed CTRL reads 1 where no held snapshot stands before it. -/
theorem regRead_fixedCtrl {x : Initiator} {i : Nat} {k : Page} {s : State} (hk : pageOf i = some k) (hfixed : k.ctrlFixed = true)
    (hheld : heldWord s (panelFor s x) (i * 0x1000 + 0xC) = none) : regRead x (i * 0x1000 + 0xC) s = (s, .okay, 1) := by
  have hdiv : (i * 0x1000 + 0xC) / 0x1000 = i := pageOff_div (by decide)
  have hmod : (i * 0x1000 + 0xC) % 0x1000 = 0xC := pageOff_mod (by decide)
  have hnow : i * 0x1000 + 0xC ≠ Reg.TIM_NOW := by unfold Reg.TIM_NOW; omega
  have hnowHigh : i * 0x1000 + 0xC ≠ Reg.TIM_NOW + 4 := by unfold Reg.TIM_NOW; omega
  have hload : i * 0x1000 + 0xC ≠ Reg.MEM_DRAM_LOAD := by unfold Reg.MEM_DRAM_LOAD; omega
  simp only [regRead, hdiv, hmod, hk, hheld, if_neg hnow, if_neg hnowHigh, if_neg hload]
  simp only [regValue, headerRead, hfixed]
  rfl

/-- Settles O6: a free write of a fixed CTRL leaves what it found, with or without SOFT_RESET, and a read of it answers 1. -/
theorem fixedControlRegisters : Obligations.FixedControlRegisters := by
  intro page k s hk hmem
  have hfixed := ctrlFixed_of_mem hmem
  refine ⟨fun a enable h => ⟨?_, ?_⟩, fun x hheld => regRead_fixedCtrl hk hfixed hheld⟩
  · change Host.Outcome.next (regCmd a (page.val * 0x1000 + 0xC) (ctrlWord enable false) s) = _
    rw [regCmd_fixedCtrl _ hk hfixed h]
  · change Host.Outcome.next (regCmd a (page.val * 0x1000 + 0xC) (ctrlWord enable true) s) = _
    rw [regCmd_fixedCtrl _ hk hfixed h]

/-! ### LOCK (R24) -/

/-- A header register but CTRL takes the write of an initiator that may write the page, locked or not. -/
theorem regCmd_headerUnfrozen {a : Acc} {i o : Nat} {k : Page} {s : State} (v : Word) (h : Arrives a (i * 0x1000 + o) s)
    (hk : pageOf i = some k) (ho : o < 0x40) (hctrl : o ≠ 0x0C) (howner : ownerLets a.init (i * 0x1000 + o) s = true) :
    regCmd a (i * 0x1000 + o) v s = regDone (headerWrite k i (accPanel a s) o v s) := by
  have hdiv : (i * 0x1000 + o) / 0x1000 = i := pageOff_div (by omega)
  have hmod : (i * 0x1000 + o) % 0x1000 = o := pageOff_mod (by omega)
  have hkoff : pageOf ((i * 0x1000 + o) / 0x1000) = some k := by rw [hdiv, hk]
  have hlock : lockBars s (i * 0x1000 + o) = false :=
    lockBars_of_unfrozen hkoff (by rw [hmod, freezes_header k ho]; exact beq_eq_false_iff_ne.mpr hctrl)
  rw [regCmd_header k (h.regFree howner hlock) hkoff (by rw [hmod]; exact ho), hdiv, hmod]

/-- Settles O7: LOCK bars what it freezes; of the header it freezes CTRL only, so that IRQ_RAW, IRQ_EN and LOCK itself go by ownership. -/
theorem lockFreezesThePage : Obligations.LockFreezesThePage := by
  intro a page k s free hk hsend hserved halone hreach hfree
  have harrives : ∀ off, free off → Arrives a off s := fun off hway => ⟨hsend, hserved, halone, hreach, (hfree off).mp hway⟩
  have hkoff : ∀ o < 0x1000, pageOf ((page.val * 0x1000 + o) / 0x1000) = some k := fun o ho => by rw [pageOff_div ho, hk]
  refine ⟨fun off value hpage halign hway hlocked hfreezes => ?_, fun value howner => ⟨fun hway => ?_, fun hway => ?_⟩,
    fun hway => ⟨fun howner => ?_, fun howner => ?_⟩⟩
  · have hk' : pageOf (off / 0x1000) = some k := by rw [hpage, hk]
    have hbars : lockBars s off = true := by simp only [lockBars, hpage, hlocked, hk, hfreezes, Bool.and_self]
    rw [exec_registerWrite_page value (harrives _ hway) hk' halign, regCmd_barred (harrives _ hway) hk' (.inr hbars)]
  · rw [exec_registerWrite_page value (harrives _ hway) (hkoff _ (by decide)) (by omega),
      regCmd_headerUnfrozen _ (harrives _ hway) hk (by decide) (by decide) howner]
    rfl
  · rw [ownerLets_header (o' := 0x14) (by decide) (by decide)] at howner
    rw [exec_registerWrite_page value (harrives _ hway) (hkoff _ (by decide)) (by omega),
      regCmd_headerUnfrozen _ (harrives _ hway) hk (by decide) (by decide) howner]
    rfl
  · change Host.Outcome.next (regCmd a (page.val * 0x1000 + 0x24) 1 s) = _
    rw [regCmd_headerUnfrozen 1 (harrives _ hway) hk (by decide) (by decide) howner]
    rfl
  · change Host.Outcome.next (regCmd a (page.val * 0x1000 + 0x24) 1 s) = _
    rw [regCmd_barred (harrives _ hway) (hkoff _ (by decide)) (.inl howner)]

/-! ### Ownership (R26) -/

/-- Every initiator reads every assigned page. -/
theorem regRead_okay (x : Initiator) {off : Nat} {k : Page} (s : State) (hk : pageOf (off / 0x1000) = some k) :
    (regRead x off s).2.1 = .okay := by
  unfold regRead
  simp only [hk]
  split
  · rfl
  · split
    · rfl
    · split
      · rfl
      · rfl

/-- Ownership bars a register of a page that another panel owns. -/
theorem ownerLets_of_other {x : Initiator} {off q : Nat} {s : State} (hexempt : ownerExempt x = false) (hself : selfRegister off = false)
    (howner : ownerOf s (off / 0x1000) = some q) (hq : q ≠ panelFor s x) : ownerLets x off s = false := by
  simp only [ownerLets, hexempt, hself, howner, beq_eq_false_iff_ne.mpr hq, Bool.or_self, Bool.and_false]

/-- Ownership lets the owner's initiators write, and all where there is no owner; the debug unit has its own rule (R513). -/
theorem ownerLets_of_own {x : Initiator} {off : Nat} {s : State} (hdebug : x ≠ .debugUnit)
    (howner : ownerOf s (off / 0x1000) = none ∨ ownerOf s (off / 0x1000) = some (panelFor s x)) : ownerLets x off s = true := by
  have hlets : debugLets x off s = true := by
    cases x with
    | debugUnit => exact absurd rfl hdebug
    | _ => rfl
  obtain howner | howner := howner <;> simp [ownerLets, hlets, howner]

/-- Settles O8: a read of an assigned page answers OKAY, and the check of R26 bars the writes of the panels that do not own it and no other. -/
theorem ownershipOfPages : Obligations.OwnershipOfPages := by
  intro off k s hk
  refine ⟨fun x => regRead_okay x s hk, ?_, ?_⟩
  · intro a value q hsend hserved halone hreach hway halign hexempt hself howner hq
    have harrives : Arrives a off s := ⟨hsend, hserved, halone, hreach, hway⟩
    rw [exec_registerWrite_page value harrives hk halign,
      regCmd_barred harrives hk (.inl (ownerLets_of_other hexempt hself howner hq))]
  · intro a hsend hserved halone hreach hway hdebug hunlocked howner
    exact Arrives.regFree ⟨hsend, hserved, halone, hreach, hway⟩ (ownerLets_of_own hdebug howner) (lockBars_of_unlocked hunlocked)

/-! ### A commit with nothing staged (R33) -/

/-- What a sparse map of options shows at a key is listed in it. -/
theorem mem_of_sget_some {α : Type} {m : List (Nat × Option α)} {k : Nat} {v : α} (h : sget (fun _ => none) m k = some v) :
    (k, some v) ∈ m := by
  induction m with
  | nil => exact nomatch h
  | cons x m ih =>
    obtain ⟨j, u⟩ := x
    by_cases hj : j = k
    · simp only [sget, if_pos hj] at h
      subst hj h
      exact List.mem_cons_self
    · simp only [sget, if_neg hj] at h
      exact List.mem_cons_of_mem _ (ih h)

/-- A register with a staged value of a panel is among those the panel has staged. -/
theorem mem_stagedBy_of_shadowOf {s : State} {off p : Nat} {v : Word} (h : shadowOf s off = some (p, v)) : (off, v) ∈ stagedBy s p :=
  List.mem_filterMap.mpr ⟨_, mem_of_sget_some h, by simp only [if_true]⟩

/-- A panel that has staged nothing gives no pin to a pleat group: its commit overfills none (R343). -/
theorem commitOverfull_of_unstaged {s : State} {p : Nat} (h : stagedBy s p = []) : commitOverfull [p] s = false := by
  have hnone : ∀ off q v, shadowOf s off = some (q, v) → q ≠ p := by
    rintro off q v hv rfl
    have := mem_stagedBy_of_shadowOf hv
    rw [h] at this
    exact nomatch this
  dsimp only [commitOverfull]
  refine List.any_eq_false.mpr fun g _ => ?_
  rw [Bool.and_eq_true, not_and]
  intro _
  rw [List.any_eq_true]
  rintro ⟨n, -, hgiven⟩
  rw [beq_iff_eq] at hgiven
  refine iteInduction (motive := fun x => x = some (3, g) → False) (fun _ hlvds => ?_) (fun _ hnext => ?_) hgiven
  · exact absurd (congrArg Prod.fst (Option.some.inj hlvds)) (show (5 : Nat) ≠ 3 by decide)
  · split at hnext
    next q v hv => simp [hnone _ q v hv] at hnext
    next => exact nomatch hnext

/-- A commit request of a panel with nothing staged and no waiting commit reports EMPTY. -/
theorem commitReq_empty {s : State} {p : Nat} (at? : Bool) (hstaged : stagedBy s p = []) (hc : (seamOf s p).commit = none) :
    commitReq p at? s = seamCode p 3 s := by
  simp only [commitReq, hc, hstaged, Option.isSome_none, List.isEmpty_nil, Bool.false_eq_true, if_false, if_true]

/-- COMMIT_NOW and COMMIT_AT (`at?`), where no pleat group is overfull, act by the request's rule. -/
theorem seamWrite_commit {s : State} {p : Nat} (at? : Bool) (hfull : commitOverfull [p] s = false) :
    seamWrite p 0x40 (if at? then 2 else 1) s = some (commitReq p at? s, .okay) := by
  cases at? <;> simp [seamWrite, hfull, unless'] <;> rfl

theorem regCmd_commit_empty {a : Acc} {s : State} (at? : Bool) (h : regFree a 0x40 s = true) (hstaged : stagedBy s (accPanel a s) = [])
    (hc : (seamOf s (accPanel a s)).commit = none) :
    regCmd a 0x40 (if at? then 2 else 1) s = regDone (seamCode (accPanel a s) 3 s) := by
  refine regCmd_acts .seam _ h rfl (by decide) ?_
  rw [← commitReq_empty at? hstaged hc]
  exact seamWrite_commit at? (commitOverfull_of_unstaged hstaged)

/-- Settles O9: a panel with nothing staged overfills no pleat group, so its request is judged, and reports EMPTY. -/
theorem emptyCommit : Obligations.EmptyCommit :=
  fun _ _ h hstaged hc =>
    ⟨congrArg Host.Outcome.next (regCmd_commit_empty false h hstaged hc), congrArg Host.Outcome.next (regCmd_commit_empty true h hstaged hc)⟩

/-! ### A staged word between two registers -/

/-- Panel 0 has staged 5 for the pleat table at 0x3C800, and 6 at 0x3C801, within the same word. -/
def misalignedStage : State := { State.reset with mode := .run, shadow := [(0x3C800, some (0, 5)), (0x3C801, some (0, 6))] }

/-- Refutes O10: it asks alignment of the register it looks at and of no other staged offset. The value staged at 0x3C801 goes to the table of
its word, 0x3C800, after that table's own 5, and 6 stands there. (No staging write reaches an offset that is not a word's, R18: the
statement lacks that condition on the stage.) -/
theorem not_stagedValuesApplyTogether : ¬ Obligations.StagedValuesApplyTogether := by
  intro h
  obtain ⟨hword, -⟩ := h misalignedStage 0 1 (by decide +kernel) (by decide) 0x3C800 5 (by decide +kernel) (by decide) (by decide)
  have hleft : (applyPanel 1 misalignedStage 0).rg 0x3C800 = 6 := by decide +kernel
  rw [hleft] at hword
  exact absurd hword (by decide)

/-! ### A staged TIM_NOW -/

/-- RUN at 5 ns; panel 0 has a commit that is due, with 0 staged for TIM_NOW, and a snapshot request for 5 ns. -/
def stagedClock : State :=
  { State.reset.wrg64 Reg.TIM_NOW 5 with
    mode := .run
    shadow := [(Reg.TIM_NOW, some (0, 0))]
    seam := [(0, { SeamPanel.reset with commit := some ⟨false, 0, true, false, false⟩, snapReq := some ⟨5, []⟩ })] }

/-- Refutes O14 by its last clause, which says that a snapshot whose target is reached is captured after the commits that are due. The commit
here applies 0 to TIM_NOW, so that the snapshot's target lies ahead again and the request stays. (TIM_NOW is no staged register, R28: the
clause lacks the condition that only staged registers have staged values.) -/
theorem not_seamRequestsAndTicksComplete : ¬ Obligations.SeamRequestsAndTicksComplete := by
  rintro ⟨-, hticks⟩
  obtain ⟨-, -, hsnap⟩ := hticks stagedClock
  have hclaim := hsnap 0 ⟨5, []⟩ _ _ _ (by decide +kernel) (by decide +kernel) (by decide +kernel) rfl rfl rfl
  rw [show exec .snapshotCapture stagedClock = .next (snapTick stagedClock) from rfl, Host.Outcome.next.injEq] at hclaim
  have hpending : (seamOf (snapTick stagedClock) 0).snapReq.isSome = true := by decide +kernel
  rw [hclaim] at hpending
  exact absurd hpending (by decide +kernel)

end Sys2Proof.Machine
end

section
/-!
PROOFS of the statements on the fabric (02_fabric.md): requests of a window port to shared SRAM (O17), the partner ports (O18), and the
cells, clocks, lines and target ports of the fabric (O16).
-/

namespace Sys2Proof.Machine

open Sys2Proof

/-! ### Bytes of memory -/

theorem readByte_of_mem {s t : State} (h : memOf t = memOf s) (x : Nat) : readByte t x = readByte s x :=
  congrArg (fun m => sget memDefault m x) h

theorem readBytes_of_mem {s t : State} (h : memOf t = memOf s) (a n : Nat) : readBytes t a n = readBytes s a n := by
  induction n generalizing a with
  | zero => rfl
  | succ n ih => simp only [readBytes, readByte_of_mem h, ih]

theorem readLe_of_mem {s t : State} (h : memOf t = memOf s) (a n : Nat) : readLe t a n = readLe s a n :=
  congrArg leNat (readBytes_of_mem h a n)

/-- A byte outside those written stays; the others are the bytes of the list. -/
theorem readByte_writeBytes (a : Nat) (l : List Byte) (s : State) (x : Nat) :
    readByte (writeBytes a l s) x = if a ≤ x ∧ x < a + l.length then l.getD (x - a) 0 else readByte s x := by
  induction l generalizing a s with
  | nil => rw [if_neg (by simp only [List.length_nil]; omega)]; rfl
  | cons b l ih =>
    rw [writeBytes, ih, List.length_cons]
    by_cases hx : x = a
    · subst hx
      rw [if_neg (by omega), if_pos (by omega), Nat.sub_self]
      exact sget_sset_self _ _ _ _
    · have hkeep : readByte (writeByte a b s) x = readByte s x := sget_sset_ne _ _ _ hx
      rw [hkeep]
      by_cases hin : a + 1 ≤ x ∧ x < a + 1 + l.length
      · rw [if_pos hin, if_pos (by omega), show x - a = (x - (a + 1)) + 1 by omega, List.getD_cons_succ]
      · rw [if_neg hin, if_neg (by omega)]

@[simp] theorem natLe_length (v n : Nat) : (natLe v n).length = n := by
  induction n generalizing v with
  | zero => rfl
  | succ n ih => rw [natLe, List.length_cons, ih]

/-- Byte `k` of a number. -/
theorem natLe_getD (v : Nat) {n k : Nat} (h : k < n) : (natLe v n).getD k 0 = BitVec.ofNat 8 (v / 256 ^ k) := by
  induction n generalizing v k with
  | zero => omega
  | succ n ih =>
    cases k with
    | zero => simp only [natLe, List.getD_cons_zero, Nat.pow_zero, Nat.div_one]
    | succ k => rw [natLe, List.getD_cons_succ, ih _ (by omega), Nat.div_div_eq_div_mul, Nat.pow_succ']

theorem leNat_natLe (v n : Nat) : leNat (natLe v n) = v % 256 ^ n := by
  induction n generalizing v with
  | zero => simp only [natLe, leNat, Nat.pow_zero, Nat.mod_one]
  | succ n ih => rw [natLe, leNat, ih, show 256 ^ (n + 1) = 256 * 256 ^ n from Nat.pow_succ', Nat.mod_mul, BitVec.toNat_ofNat]

theorem readLe_lt (s : State) (a n : Nat) : readLe s a n < 256 ^ n := by
  unfold readLe
  induction n generalizing a with
  | zero => exact Nat.one_pos
  | succ n ih =>
    have hbyte := (readByte s a).isLt
    have hrest := ih (a + 1)
    simp only [readBytes, leNat, Nat.pow_succ']
    omega

/-- What stands where a list of bytes was written is that list. -/
theorem readBytes_of_getD {t : State} {l : List Byte} {a : Nat} (h : ∀ k < l.length, readByte t (a + k) = l.getD k 0) :
    readBytes t a l.length = l := by
  induction l generalizing a with
  | nil => rfl
  | cons b l ih =>
    have hfirst : readByte t a = b := h 0 (Nat.succ_pos _)
    have hrest : ∀ k < l.length, readByte t (a + 1 + k) = l.getD k 0 := fun k hk => by
      have := h (k + 1) (Nat.succ_lt_succ hk)
      rwa [List.getD_cons_succ, show a + (k + 1) = a + 1 + k by omega] at this
    rw [List.length_cons, readBytes, hfirst, ih hrest]

/-! ### A write of memory with its effects -/

/-- What a write of memory does beside its bytes (R174, R250, R257) changes no byte. -/
theorem readByte_putBy (own : Option Nat) (a : Nat) (l : List Byte) (s : State) (x : Nat) :
    readByte (putBy own a l s) x = if a ≤ x ∧ x < a + l.length then l.getD (x - a) 0 else readByte s x := by
  have hmem : memOf (putBy own a l s) = memOf (writeBytes a l (memTouch a l.length s)) := by
    unfold putBy
    rw [mendBad_mem, dropResv_mem]
  rw [readByte_of_mem hmem, readByte_writeBytes, readByte_of_mem (memTouch_mem a l.length s)]

theorem readByte_putBy_out {own : Option Nat} {a : Nat} {l : List Byte} {s : State} {x : Nat} (h : x < a ∨ a + l.length ≤ x) :
    readByte (putBy own a l s) x = readByte s x := by
  rw [readByte_putBy, if_neg (by omega)]

theorem readByte_putBy_at {own : Option Nat} {a : Nat} {l : List Byte} {s : State} {k : Nat} (h : k < l.length) :
    readByte (putBy own a l s) (a + k) = l.getD k 0 := by
  rw [readByte_putBy, if_pos (by omega), Nat.add_sub_cancel_left]

/-- A number written reads back in as many bytes (R8). -/
theorem readLe_putBy (own : Option Nat) (a v n : Nat) (s : State) : readLe (putBy own a (natLe v n) s) a n = v % 256 ^ n := by
  have hbytes := readBytes_of_getD (t := putBy own a (natLe v n) s) (a := a) fun k hk => readByte_putBy_at hk
  rw [natLe_length] at hbytes
  rw [readLe, hbytes, leNat_natLe]

/-! ### What an access of memory leaves of the window -/

/-- What decides how a window port's request ends: which regions are isolated, and that no word of memory is bad. -/
structure KeepsWindow (s t : State) : Prop where
  iso : ∀ r, isolated t r = isolated s r
  bad : s.ram.bad = [] → t.ram.bad = []

theorem KeepsWindow.trans {s t u : State} (h : KeepsWindow s t) (h' : KeepsWindow t u) : KeepsWindow s u :=
  ⟨fun r => (h'.iso r).trans (h.iso r), fun hbad => h'.bad (h.bad hbad)⟩

theorem isolated_wrg {k : Nat} (v : Word) (s : State) (r : Nat) (h : k ≠ Reg.FAB_BOLT_OFF) : isolated (s.wrg k v) r = isolated s r := by
  simp only [isolated, State.wrg_frame, State.rb, State.rg_wrg_ne s v h.symm]

theorem isolated_wrg64 {k : Nat} (n : Nat) (s : State) (r : Nat) (hlow : k ≠ Reg.FAB_BOLT_OFF) (hhigh : k + 4 ≠ Reg.FAB_BOLT_OFF) :
    isolated (s.wrg64 k n) r = isolated s r :=
  (isolated_wrg _ _ r hhigh).trans (isolated_wrg _ s r hlow)

theorem isolated_incSat {k : Nat} (lo len : Nat) (s : State) (r : Nat) (h : k ≠ Reg.FAB_BOLT_OFF) :
    isolated (s.incSat k lo len) r = isolated s r :=
  isolated_wrg _ s r h

theorem isolated_fitResult (cycles c u k code : Nat) (s : State) (r : Nat) : isolated (fitResult cycles c u k code s) r = isolated s r :=
  isolated_wrg64 _ s r (by decide) (by decide)

theorem isolated_withFit (s : State) (f : Fit) (r : Nat) : isolated { s with fit := f } r = isolated s r := rfl

theorem isolated_bump (s : State) (r : Nat) : isolated s.bump r = isolated s r := rfl

theorem isolated_setFitUnit (c u : Nat) (y : FitUnit) (s : State) (r : Nat) : isolated (setFitUnit c u y s) r = isolated s r := rfl

theorem fitResult_ram (cycles c u k code : Nat) (s : State) : (fitResult cycles c u k code s).ram = s.ram := by
  rw [fitResult]
  simp only [State.wrg64_frame]

/-- The state in which FIT_RESULT names an aborted slice and the record of Fitting is `f`. -/
def abortNoted (x : FitRun) (f : Fit) (s : State) : State :=
  { fitResult (s.freeBelow (fitClass x.cls).cycles) x.cls x.unit x.slice 5 s.bump with fit := f }

theorem abortNoted_keeps (x : FitRun) (f : Fit) (s : State) : KeepsWindow s (abortNoted x f s) := by
  refine ⟨fun r => ?_, fun hbad => ?_⟩ <;> unfold abortNoted
  · rw [isolated_withFit, isolated_fitResult, isolated_bump]
  · simp only [fitResult_ram, State.bump_frame, hbad]

/-- An aborted slice of Fitting writes its own page's registers and record only: a forced one is named, another is counted too (R524, R526). -/
theorem abortOne_cases (x : FitRun) (s : State) :
    (∃ f, abortOne x s = abortNoted x f s)
    ∨ ∃ f y, abortOne x s = (setFitUnit x.cls x.unit y (abortNoted x f s)).incSat Reg.FIT_COUNT 16 16 := by
  by_cases h : x.forced = true
  · exact .inl ⟨_, if_pos h⟩
  · exact .inr ⟨_, _, if_neg h⟩

theorem abortOne_keeps (x : FitRun) (s : State) : KeepsWindow s (abortOne x s) := by
  obtain ⟨f, h⟩ | ⟨f, y, h⟩ := abortOne_cases x s <;> rw [h]
  · exact abortNoted_keeps x f s
  · refine (abortNoted_keeps x f s).trans ⟨fun r => ?_, fun hbad => ?_⟩
    · rw [isolated_incSat _ _ _ _ (by decide), isolated_setFitUnit]
    · simp only [State.incSat_frame, setFitUnit_frame, hbad]

theorem abortSlices_keeps (p : FitRun → Bool) (s : State) : KeepsWindow s (abortSlices p s) := by
  refine List.foldlRecOn (motive := KeepsWindow s) _ _ ⟨fun _ => rfl, id⟩ fun t ht x _ => ?_
  exact ht.trans (abortOne_keeps x t)

/-- An access of shared SRAM ends a slice of Fitting at most (R524). -/
theorem memTouch_keeps {a : Nat} (n : Nat) (s : State) (h : inSram a = true) : KeepsWindow s (memTouch a n s) := by
  rw [memTouch, if_pos h, fitSram]
  split
  · exact ⟨fun _ => rfl, id⟩
  · exact abortSlices_keeps _ s

theorem putBy_keeps (own : Option Nat) {a : Nat} (l : List Byte) (s : State) (h : inSram a = true) : KeepsWindow s (putBy own a l s) := by
  have hwrite : ∀ (l : List Byte) (a : Nat) (s : State), KeepsWindow s (writeBytes a l s) := fun l => by
    induction l with
    | nil => exact fun _ _ => ⟨fun _ => rfl, id⟩
    | cons b l ih => exact fun a s => (show KeepsWindow s (writeByte a b s) from ⟨fun _ => rfl, id⟩).trans (ih _ _)
  refine ((memTouch_keeps l.length s h).trans (hwrite l a _)).trans ⟨fun _ => rfl, fun hbad => ?_⟩
  show (writeBytes a l (memTouch a l.length s)).ram.bad.filter _ = []
  rw [hbad, List.filter_nil]

/-! ### What a change of isolation leaves of the answer -/

theorem sendMsg_ans (f v : Nat) (s : State) : (sendMsg f v s).ans = s.ans := by
  unfold sendMsg
  split <;> rfl

/-- A scan of a vector changes its function's record, and may send a message (R370). -/
theorem vectorScan_ans (f : Nat) (s : State) (v : Nat) : (vectorScan f s v).ans = s.ans := by
  unfold vectorScan
  dsimp only
  split
  · rfl
  · split
    · split
      · simp only [setFn_frame]
      · simp only [sendMsg_ans, setFn_frame]
    · simp only [setFn_frame]

theorem hstScan_ans (s : State) : (hstScan s).ans = s.ans :=
  List.foldlRecOn (motive := fun t : State => t.ans = s.ans) _ _ rfl fun t ht x _ => (vectorScan_ans x.1 t x.2).trans ht

theorem irq_ans (page n : Nat) (s : State) : (irq page n s).ans = s.ans := hstScan_ans _

theorem noteWinErr_ans (isPort : Bool) (port code core tag addr : Nat) (s : State) :
    (noteWinErr isPort port code core tag addr s).ans = s.ans := by
  have hcounted : (s.incSat Reg.FAB_WIN_ERR 8 4).ans = s.ans := by simp only [State.incSat_frame]
  have hnoted : ∀ w n, (irq 0x0B 2 ((s.wrg Reg.FAB_WIN_ERR w).wrg64 Reg.FAB_WIN_ERR_ADDR n)).ans = s.ans := fun w n => by
    simp only [irq_ans, State.wrg64_frame, State.wrg_frame]
  rw [noteWinErr]
  split
  · exact hcounted
  · exact hnoted _ _

/-- A trap changes its core; the fault before it, registers. -/
theorem coreFault_ans (c kind reason addr : Nat) (s : State) : (coreFault c kind reason addr s).ans = s.ans := by
  unfold coreFault except trapTo
  dsimp only
  simp only [setCore_frame]
  split
  · split <;> simp only [State.incSat_frame, State.wrg64_frame, State.wrg_frame]
  · rw [irq_ans]
    split <;> simp only [State.incSat_frame, State.wrg64_frame, State.wrg_frame]

theorem tportAnswer_isolated_ans (q : TportReq) (v : DWord) (s : State) : (tportAnswer q .isolated v s).ans = s.ans := by
  unfold tportAnswer
  dsimp only
  rw [coreFault_ans, noteWinErr_ans]

theorem tportIsolated_ans (s : State) : (tportIsolated s).ans = s.ans := by
  refine List.foldlRecOn (motive := fun t : State => t.ans = s.ans) _ _ rfl fun t ht q _ => ?_
  split
  · exact (tportAnswer_isolated_ans q 0 t).trans ht
  · exact ht

theorem ppDrop_ans (p : Nat) (s : State) : (ppDrop p s).ans = s.ans := by
  unfold ppDrop
  split
  · exact irq_ans _ _ _
  · rfl

theorem isolationSettles_ans (s : State) : (isolationSettles s).ans = s.ans :=
  List.foldlRecOn (motive := fun t : State => t.ans = s.ans) _ _ (tportIsolated_ans s) fun t ht p _ => (ppDrop_ans p t).trans ht

/-- A module that is not in TRANSIT keeps memory and the answer as its immediate consequences settle. -/
theorem settled_of_running {s : State} (h : s.mode ≠ .transit) : (settled s).ans = s.ans ∧ memOf (settled s) = memOf s := by
  have hstay : transitSettles s = s := by
    unfold transitSettles
    exact if_neg fun hc => h hc.1
  rw [settled, hstay]
  exact ⟨isolationSettles_ans s, isolationSettles_mem s⟩

/-- In TRANSIT every region is isolated (R80). -/
theorem mode_ne_transit {s : State} {r : Nat} (h : isolated s r = false) : s.mode ≠ .transit := fun hm => by
  simp only [isolated, hm, Bool.or_true, Bool.true_eq_false] at h

/-! ### A request of a window port to shared SRAM -/

theorem inSram_iff {a : Nat} : inSram a = true ↔ 0x20000000 ≤ a ∧ a < 0x20800000 := by
  simp only [inSram, Bool.and_eq_true, decide_eq_true_eq]

theorem zoneOf_sram {a : Nat} (h : inSram a = true) : zoneOf a = .sram := by
  have hbounds := inSram_iff.mp h
  unfold zoneOf
  repeat rw [if_neg (by omega)]
  rw [if_pos h]

/-- SRAM ends at a multiple of 16: the beat of an address in it lies in it whole. -/
theorem inSram_beat {q : WinReq} (h : inSram (winBase q) = true) {a : Nat} (hlow : winBase q ≤ a) (hhigh : a < winBase q + 16) :
    inSram a = true := by
  rw [inSram_iff] at h ⊢
  unfold winBase at *
  omega

/-- A window port is served in SRAM, reading and writing (R17). -/
theorem servedAt_win_sram (s : State) (q : WinReq) (isWrite machine : Bool) : servedAt s (winInit q) .sram isWrite machine = true := by
  cases isWrite <;> rfl

/-- With no bad word in memory and right check bits, a read of SRAM delivers what stands there. -/
theorem memGet_sram (i : Initiator) {a : Nat} (n : Nat) {s : State} (h : inSram a = true) (hbad : s.ram.bad = []) :
    memGet i .sram a n .none s = (memTouch a n s, .okay, readLe s a n) := by
  have hcheck : memCheck (sourceCode i) a n .none (memTouch a n s) = (memTouch a n s, true) := by
    rw [memCheck, (memTouch_keeps n s h).bad hbad, List.find?_nil]
  simp only [memGet, hcheck, readLe_of_mem (memTouch_mem a n s), if_true]

theorem busGet_sram (q : WinReq) (machine : Bool) {a : Nat} (n : Nat) {s : State} (h : inSram a = true) (hbad : s.ram.bad = []) :
    busGet (winInit q) machine a n .calm s = (memTouch a n s, .okay, readLe s a n) := by
  have hphys : physFor (winInit q) a = a := rfl
  simp only [busGet, hphys, zoneOf_sram h, servedAt_win_sram, Bool.not_true, Bool.false_eq_true, if_false]
  exact memGet_sram (winInit q) n h hbad

/-- A request with no rival on the data path is served at once (R77). -/
theorem inTurn_alone {q : WinReq} (act : State → State) (s : State) (h : q.rivals = []) : inTurn q act s = act s := by
  simp only [inTurn, pathRivals, h, List.filter_nil, List.isEmpty_nil, if_true]

/-- An aligned beat crosses no 4 KiB boundary (R71). -/
theorem winBad_one {q : WinReq} {b : WinBeat} (hcode : q.unknown = none) (hbeats : q.beats = [b]) : winBad q = false := by
  simp only [winBad, hcode, hbeats, Option.isSome_none, List.isEmpty_cons, List.length_singleton, Bool.false_or, winBase,
    Bool.or_eq_false_iff, decide_eq_false_iff_not]
  omega

/-- A whole beat in SRAM is two pieces of 8 bytes. -/
theorem winPieces_whole {q : WinReq} {data : BitVec 128} (hsram : inSram (winBase q) = true) (hbeats : q.beats = [⟨0xFFFF, data⟩])
    (hmeets : q.meets = []) :
    winPieces q = [(0, 255, nfld data.toNat 0 64, .calm), (8, 255, nfld data.toNat 64 64, .calm)] := by
  have hunit : winUnit q = 8 := by rw [winUnit, zoneOf_sram hsram]
  have hhalves : List.range (16 / 8) = [0, 1] := by decide
  simp only [winPieces, hunit, hbeats, hmeets, hhalves, List.zipIdx_cons, List.zipIdx_nil, List.map_cons, List.map_nil, List.flatten_cons,
    List.flatten_nil, List.append_nil, Nat.mul_zero, Nat.mul_one, Nat.zero_add]
  rfl

theorem winEnd_okay {q : WinReq} (d : List DWord) {s : State} (h : isolated s (16 * q.port.val) = false) :
    winEnd q .okay d s = s.answer .okay d := by
  simp only [winEnd, if_true, h, Bool.false_eq_true, if_false]
  rfl

theorem sends_win {s : State} {p : Fin 8} (h : sends s (.win p) = true) : isolated s (16 * p.val) = false := by
  simp only [sends, Bool.and_eq_true, Bool.not_eq_true'] at h
  exact h.1.1

/-- A request to shared SRAM that is served and meets nothing: no other on its way, no bad word. -/
structure SramRequest (q : WinReq) (s : State) : Prop where
  sent : sends s (winInit q) = true
  code : q.unknown = none
  alone : q.rivals = []
  calm : q.meets = []
  good : s.ram.bad = []
  sram : inSram (winBase q) = true

theorem SramRequest.connected {q : WinReq} {s : State} (h : SramRequest q s) : isolated s (16 * q.port.val) = false :=
  sends_win h.sent

/-- The second half of the beat. -/
theorem SramRequest.sram8 {q : WinReq} {s : State} (h : SramRequest q s) : inSram (winBase q + 8) = true :=
  inSram_beat h.sram (by omega) (by omega)

/-! RD (R72). -/

/-- A read of a whole beat takes its two halves in ascending order. -/
theorem winRead_whole {q : WinReq} {s : State} {data : BitVec 128} (h : SramRequest q s) (hbeats : q.beats = [⟨0xFFFF, data⟩]) :
    winRead q s = (memTouch (winBase q + 8) 8 (memTouch (winBase q) 8 s)).answer .okay
      [w64 (readLe s (winBase q) 8), w64 (readLe s (winBase q + 8) 8)] := by
  have hunit : winUnit q = 8 := by rw [winUnit, zoneOf_sram h.sram]
  have hfirst := memTouch_keeps 8 s h.sram
  have hsecond := memTouch_keeps 8 (memTouch (winBase q) 8 s) h.sram8
  have hopen := ((hfirst.trans hsecond).iso _).trans h.connected
  simp only [winRead, h.sent, Bool.not_true, Bool.false_eq_true, if_false, inTurn_alone _ s h.alone, winBad_one h.code hbeats, hunit,
    zoneOf_sram h.sram, winPieces_whole h.sram hbeats h.calm, List.foldl_cons, List.foldl_nil, false_and, Nat.add_zero,
    busGet_sram q false 8 h.sram h.good, busGet_sram q false 8 h.sram8 (hfirst.bad h.good), readLe_of_mem (memTouch_mem _ _ s)]
  exact winEnd_okay _ hopen

/-! WR_P and WR_NP (R72). -/

/-- A whole beat of 16 bytes stored at `a`, its low half first. -/
def beatStored (a : Nat) (data : BitVec 128) (s : State) : State :=
  putBy none (a + 8) (natLe (nfld data.toNat 64 64) 8) (putBy none a (natLe (nfld data.toNat 0 64) 8) s)

theorem beatStored_keeps {q : WinReq} {s : State} (data : BitVec 128) (h : SramRequest q s) :
    KeepsWindow s (beatStored (winBase q) data s) :=
  (putBy_keeps none _ s h.sram).trans (putBy_keeps none _ _ h.sram8)

/-- A piece of a whole beat in SRAM is stored whole. -/
theorem winStore_whole {q : WinReq} {o : Nat} (v k : Nat) (e : BeatEnv) (s : State) (hsram : inSram (winBase q) = true)
    (hpiece : inSram (winBase q + o) = true) :
    winStore q (s, .okay) ((o, 255, v, e), k) = (putBy none (winBase q + o) (natLe v 8) s, .okay) := by
  have hunit : winUnit q = 8 := by rw [winUnit, zoneOf_sram hsram]
  simp only [winStore, zoneOf_sram hpiece, servedAt_win_sram, hunit]
  rfl

theorem winStores_whole {q : WinReq} {s : State} {data : BitVec 128} (h : SramRequest q s) (hbeats : q.beats = [⟨0xFFFF, data⟩]) :
    winStores q s = (beatStored (winBase q) data s, .okay) := by
  simp only [winStores, winPieces_whole h.sram hbeats h.calm, List.zipIdx_cons, List.zipIdx_nil, List.foldl_cons, List.foldl_nil,
    winStore_whole _ _ _ _ h.sram (show inSram (winBase q + 0) = true from h.sram), winStore_whole _ _ _ _ h.sram h.sram8]
  rfl

/-- Posted or not, the answer to a write that succeeds is OKAY with nothing in it. -/
theorem winWrite_whole {q : WinReq} {s : State} {data : BitVec 128} (posted : Bool) (h : SramRequest q s)
    (hbeats : q.beats = [⟨0xFFFF, data⟩]) : winWrite posted q s = (beatStored (winBase q) data s).answer .okay := by
  have hopen := ((beatStored_keeps data h).iso _).trans h.connected
  simp only [winWrite, h.sent, Bool.not_true, Bool.false_eq_true, if_false, inTurn_alone _ s h.alone, winBad_one h.code hbeats,
    winStores_whole h hbeats, winEnd_okay [] hopen]
  cases posted <;> rfl

/-- Byte `k` of a field of 64 bits. -/
theorem ofNat_nfld_byte (n lo : Nat) {k : Nat} (h : k < 8) :
    BitVec.ofNat 8 (nfld n lo 64 / 256 ^ k) = BitVec.ofNat 8 (nfld n (lo + 8 * k) 8) := by
  refine BitVec.eq_of_getLsbD_eq fun i hi => ?_
  have hpow : 256 ^ k = 2 ^ (8 * k) := by rw [Nat.pow_mul]
  simp only [BitVec.getLsbD_ofNat, nfld, hpow, Nat.testBit_div_two_pow, Nat.testBit_mod_two_pow, Nat.testBit_shiftRight,
    show i + 8 * k < 64 by omega, hi, decide_true, Bool.true_and]
  congr 1
  omega

theorem readByte_beatStored_at (a : Nat) (data : BitVec 128) (s : State) {k : Nat} (h : k < 16) :
    readByte (beatStored a data s) (a + k) = BitVec.ofNat 8 (nfld data.toNat (8 * k) 8) := by
  unfold beatStored
  by_cases hk : k < 8
  · rw [readByte_putBy_out (by omega), readByte_putBy_at (by rw [natLe_length]; exact hk), natLe_getD _ hk, ofNat_nfld_byte _ _ hk,
      Nat.zero_add]
  · obtain ⟨j, rfl⟩ : ∃ j, k = 8 + j := ⟨k - 8, by omega⟩
    have hj : j < 8 := by omega
    rw [← Nat.add_assoc, readByte_putBy_at (by rw [natLe_length]; exact hj), natLe_getD _ hj, ofNat_nfld_byte _ _ hj,
      show 64 + 8 * j = 8 * (8 + j) by omega]

theorem readByte_beatStored_out {a : Nat} (data : BitVec 128) (s : State) {x : Nat} (h : x < a ∨ a + 16 ≤ x) :
    readByte (beatStored a data s) x = readByte s x := by
  unfold beatStored
  rw [readByte_putBy_out (by rw [natLe_length]; omega), readByte_putBy_out (by rw [natLe_length]; omega)]

/-- What the command leaves of a write once its consequences have settled: the answer and memory stand. -/
theorem winWrite_settled {q : WinReq} {s : State} {data : BitVec 128} (posted : Bool) (h : SramRequest q s)
    (hbeats : q.beats = [⟨0xFFFF, data⟩]) :
    (settled (winWrite posted q s)).ans.rsp = .okay
    ∧ (∀ k < 16, readByte (settled (winWrite posted q s)) (winBase q + k) = BitVec.ofNat 8 (nfld data.toNat (8 * k) 8))
    ∧ ∀ x, (x < winBase q ∨ winBase q + 16 ≤ x) → readByte (settled (winWrite posted q s)) x = readByte s x := by
  rw [winWrite_whole posted h hbeats]
  have hopen := ((beatStored_keeps data h).iso _).trans h.connected
  obtain ⟨hans, hmem⟩ := settled_of_running (s := (beatStored (winBase q) data s).answer .okay) (mode_ne_transit hopen)
  have hstored : memOf (settled ((beatStored (winBase q) data s).answer .okay)) = memOf (beatStored (winBase q) data s) := by
    rw [hmem, State.answer_mem]
  refine ⟨by rw [hans]; rfl, fun k hk => ?_, fun x hx => ?_⟩
  · rw [readByte_of_mem hstored, readByte_beatStored_at _ _ _ hk]
  · rw [readByte_of_mem hstored, readByte_beatStored_out _ _ hx]

/-! The atomic commands (R74). -/

/-- What an atomic command leaves of memory: the operand of the command stored, where it stores one. -/
def atomicStored (op : WinAtomic) (n a : Nat) (data : BitVec 128) (s : State) : State :=
  let t := memTouch a n (dropResv none a n s)
  match op.store (readLe s a n) (nfld data.toNat 0 (8 * n)) (nfld data.toNat 64 (8 * n)) with
  | some v => putBy none a (natLe v n) t
  | none => t

theorem atomicStored_keeps (op : WinAtomic) (n : Nat) {a : Nat} (data : BitVec 128) (s : State) (h : inSram a = true) :
    KeepsWindow s (atomicStored op n a data s) := by
  have hdrop : KeepsWindow s (dropResv none a n s) := ⟨fun _ => rfl, id⟩
  have htouch := hdrop.trans (memTouch_keeps n _ h)
  unfold atomicStored
  dsimp only
  split
  · exact htouch.trans (putBy_keeps none _ _ h)
  · exact htouch

/-- The value at `a` after an atomic command: the one it stores, or the old one. -/
theorem readLe_atomicStored (op : WinAtomic) (n a : Nat) (data : BitVec 128) (s : State) :
    readLe (atomicStored op n a data s) a n
      = ((op.store (readLe s a n) (nfld data.toNat 0 (8 * n)) (nfld data.toNat 64 (8 * n))).getD (readLe s a n)) % 256 ^ n := by
  have hold : readLe (memTouch a n (dropResv none a n s)) a n = readLe s a n :=
    readLe_of_mem ((memTouch_mem _ _ _).trans (dropResv_mem _ _ _ s)) a n
  unfold atomicStored
  dsimp only
  split
  case _ v hv => rw [readLe_putBy, hv, Option.getD_some]
  case _ hv => rw [hold, hv, Option.getD_none, Nat.mod_eq_of_lt (readLe_lt s a n)]

theorem winAtomicAt_sram {op : WinAtomic} {n a : Nat} {q : WinReq} {s : State} {en : BitVec 16} {data : BitVec 128} (h : SramRequest q s)
    (ha : inSram a = true) (hbeats : q.beats = [⟨en, data⟩]) :
    winAtomicAt op n a q s = (atomicStored op n a data s).answer .okay [w64 (readLe s a n)] := by
  have hopen := ((atomicStored_keeps op n data s ha).iso _).trans h.connected
  have hbeat : (q.beats.getD 0 ⟨0, 0⟩).data = data := by rw [hbeats]; rfl
  have hcalm : (q.meets.getD 0 .calm).ecc = .none := by rw [h.calm]; rfl
  have hget : memGet (winInit q) .sram a n .none (dropResv none a n s) = (memTouch a n (dropResv none a n s), .okay, readLe s a n) := by
    rw [memGet_sram (winInit q) n ha (s := dropResv none a n s) h.good, readLe_of_mem (dropResv_mem none a n s)]
  simp only [winAtomicAt, zoneOf_sram ha, hcalm, hget, hbeat, ne_eq, not_true_eq_false, if_false]
  exact winEnd_okay _ hopen

/-- An atomic command of `n` bytes on the aligned place in SRAM that holds its address. -/
theorem winAtomic_sram {op : WinAtomic} {wide : Bool} {q : WinReq} {s : State} {en : BitVec 16} {data : BitVec 128} {n a : Nat}
    (h : SramRequest q s) (hbeats : q.beats = [⟨en, data⟩]) (hn : n = if wide then 8 else 4) (ha : a = q.addr.toNat / n * n) :
    winAtomic op wide q s = (atomicStored op n a data s).answer .okay [w64 (readLe s a n)] := by
  have hsram : inSram a = true := by
    have hplace : winBase q ≤ a ∧ a < winBase q + 16 := by
      subst ha
      unfold winBase
      cases wide <;> simp only [Bool.false_eq_true, if_false, if_true] at hn <;> subst hn <;> omega
    exact inSram_beat h.sram hplace.1 hplace.2
  simp only [winAtomic, h.sent, Bool.not_true, Bool.false_eq_true, if_false, inTurn_alone _ s h.alone, winBad_one h.code hbeats, ← hn, ← ha,
    zoneOf_sram hsram, winAtomicAt_sram h hsram hbeats]

/-- What an answer shows. -/
theorem answer_shows (s : State) (r : Rsp) (d : List DWord) :
    (s.answer r d).ans = { (s.answer r d).ans with rsp := r, data := d, code := 0 } := rfl

theorem readByte_answer (s : State) (r : Rsp) (d : List DWord) (x : Nat) : readByte (s.answer r d) x = readByte s x :=
  readByte_of_mem (State.answer_mem s r d 0) x

theorem readLe_answer (s : State) (r : Rsp) (d : List DWord) (a n : Nat) : readLe (s.answer r d) a n = readLe s a n :=
  readLe_of_mem (State.answer_mem s r d 0) a n

theorem nfld_lt (n lo len : Nat) : nfld n lo len < 2 ^ len := Nat.mod_lt _ (Nat.two_pow_pos len)

/-- An atomic command of `n` bytes answers the old value, and leaves at its place what it stores. -/
theorem winAtomic_done (op : WinAtomic) {wide : Bool} (n : Nat) {q : WinReq} {s : State} {en : BitVec 16} {data : BitVec 128}
    (h : SramRequest q s) (hbeats : q.beats = [⟨en, data⟩]) (hn : n = if wide then 8 else 4) {t : State} (ht : t = winAtomic op wide q s) :
    t.ans = { t.ans with rsp := .okay, data := [w64 (readLe s (q.addr.toNat / n * n) n)], code := 0 }
    ∧ readLe t (q.addr.toNat / n * n) n
      = ((op.store (readLe s (q.addr.toNat / n * n) n) (nfld data.toNat 0 (8 * n)) (nfld data.toNat 64 (8 * n))).getD
          (readLe s (q.addr.toNat / n * n) n)) % 256 ^ n := by
  rw [ht, winAtomic_sram h hbeats hn rfl, readLe_answer, readLe_atomicStored]
  exact ⟨answer_shows _ _ _, rfl⟩

/-- Settles O17: a beat in SRAM is two pieces, each served whole, and an atomic command a read and a store at one place. -/
theorem windowMemoryRequestsComplete : Obligations.WindowMemoryRequestsComplete := by
  intro q s hsent hcode halone hcalm hgood hsram
  have h : SramRequest q s := ⟨hsent, hcode, halone, hcalm, hgood, hsram⟩
  refine ⟨fun data hbeats => ?read, fun data hbeats => ⟨_, rfl, winWrite_settled true h hbeats⟩,
    fun data hbeats => ⟨_, rfl, winWrite_settled false h hbeats⟩, fun data en hbeats => ?swap, fun data en hbeats => ?add,
    fun data en hbeats => ?cas⟩
  case read =>
    refine ⟨_, congrArg Host.Outcome.next (winRead_whole h hbeats), answer_shows _ _ _, fun x => ?_⟩
    rw [readByte_answer, readByte_of_mem (memTouch_mem _ _ _), readByte_of_mem (memTouch_mem _ _ _)]
  case swap =>
    obtain ⟨hans, hvalue⟩ := winAtomic_done .swap (wide := true) 8 h hbeats rfl rfl
    exact ⟨_, rfl, hans, hvalue.trans (Nat.mod_eq_of_lt (nfld_lt data.toNat 0 64))⟩
  case add =>
    obtain ⟨hans, hvalue⟩ := winAtomic_done .add (wide := false) 4 h hbeats rfl rfl
    exact ⟨_, rfl, hans, hvalue⟩
  case cas =>
    obtain ⟨hans, hvalue⟩ := winAtomic_done .cas (wide := true) 8 h hbeats rfl rfl
    refine ⟨_, rfl, hans, hvalue.trans ?_⟩
    rw [WinAtomic.store]
    split
    · exact Nat.mod_eq_of_lt (nfld_lt data.toNat 64 64)
    · exact Nat.mod_eq_of_lt (readLe_lt s _ 8)

/-! ### Partner ports -/

/-- A frame of an allowed length that finds room waits for the session engine (R78). -/
theorem ppFrame_waits {s : State} {p : Nat} {bytes : List Byte} (hon : isEnabled s FAB_PAGE = true) (hup : ppUp s p = true)
    (hmin : 16 ≤ bytes.length) (hroom : ppWaiting s p + bytes.length ≤ 4096) : ppFrame p bytes false s = postFrame (8 + p) bytes s := by
  have hcut : ¬ (false = true ∨ (!ppUp s p) = true) := by rw [hup]; decide
  rw [ppFrame, hon, if_neg (by decide), if_neg hcut, if_neg (by omega), if_neg (by omega), if_neg (by omega)]

/-- The oldest frame of a port leaves, and the frames that wait for room move up (R78). -/
theorem ppSend_oldest {s : State} {p : Nat} {f : Nat × List Byte} (hon : isEnabled s FAB_PAGE = true) (hup : ppUp s p = true)
    (hf : s.fab.ppTx.find? (·.1 == p) = some f) :
    ppSend p s = (ppMove { s with fab := { s.fab with ppTx := s.fab.ppTx.erase f } }).answer .okay (f.2.map (·.setWidth 64)) := by
  simp only [ppSend, hon, hup, hf, Bool.not_true, Bool.false_eq_true, or_self, if_false]

theorem ppLink_changes {s : State} {p : Nat} {up : Bool} (hon : isEnabled s FAB_PAGE = true) (hopen : isolated s (ppRegion p) = false)
    (hnew : s.fab.linkUp.getLsbD p ≠ up) :
    ppLink p up s = irq FAB_PAGE 4 { s with fab := { s.fab with linkUp := s.fab.linkUp ^^^ BitVec.twoPow 16 p } } := by
  simp only [ppLink, hon, hopen, hnew, Bool.not_true, Bool.false_eq_true, or_self, if_false]

/-- Settles O18: each command of a partner port with what it needs of the state. -/
theorem partnerPortsComplete : Obligations.PartnerPortsComplete :=
  fun _ _ =>
    ⟨fun _ hon hup hmin hroom => congrArg Host.Outcome.next (ppFrame_waits hon hup hmin hroom),
     fun _ hon hup hf => congrArg Host.Outcome.next (ppSend_oldest hon hup hf),
     fun _ hon hopen hnew => congrArg Host.Outcome.next (ppLink_changes hon hopen hnew)⟩

/-! ### Guarded BRAM (R53) -/

/-- A port-1 read of a guarded word, with no region isolated, answers what the check delivers of the word with its new wrong bits. -/
theorem guardedAccess_ans {s : State} {block word : Nat} (flips : BitVec 72) (hopen : isolated s (block / 24) = false)
    (hmode : (bramCfgOf s block).mode = .guarded) {key : Nat} (hkey : key = block * 512 + word) {r : State × DWord × Nat}
    (hr : r = guardedRead key (setErr key (errOf s key ^^^ flips) s)) :
    (guardedAccess block word flips s).ans = { (guardedAccess block word flips s).ans with rsp := .okay, data := [r.2.1], code := r.2.2 } := by
  subst hkey hr
  simp only [guardedAccess, hopen, hmode, ne_eq, not_true_eq_false, Bool.false_eq_true, or_self, if_false]
  rfl

theorem rowOf_setErr (k : Nat) (e : BitVec 72) (s : State) (j : Nat) : rowOf (setErr k e s) j = rowOf s j := rfl

/-- What the check delivers of a word with no wrong bit, one, and two. -/
theorem guardedRead_none {s : State} {key : Nat} (h : popc 72 (errOf s key).toNat = 0) :
    (guardedRead key s).2 = ((rowOf s key).truncate 64, 0) := by
  simp only [guardedRead, h]

theorem guardedRead_one {s : State} {key : Nat} (h : popc 72 (errOf s key).toNat = 1) :
    (guardedRead key s).2 = ((rowOf s key).truncate 64, 1) := by
  simp only [guardedRead, h]

theorem guardedRead_two {s : State} {key : Nat} (h : popc 72 (errOf s key).toNat = 2) :
    (guardedRead key s).2 = ((rowOf s key).truncate 64 ^^^ (errOf s key).truncate 64, 2) := by
  simp only [guardedRead, h]

theorem bramRepair_done {s : State} {block word : Nat} (hword : word < 512) (hopen : isolated s (block / 24) = false)
    (hwaits : s.fab.repair.contains (block * 512 + word) = true) :
    bramRepair (block * 512 + word) s = setErr (block * 512 + word) 0 { s with fab := { s.fab with
      repair := s.fab.repair.filter (· != block * 512 + word) } } := by
  have hblock : (block * 512 + word) / 512 / 24 = block / 24 := by omega
  simp only [bramRepair, hwaits, hblock, hopen, Bool.not_false, and_self, if_true]

/-! ### DLLs (R64, R404) -/

theorem dllStep_moves {s : State} {d : Nat} (later : Bool) (hruns : dllRuns s d = true) (hidle : (dllOf s d).step = none) :
    dllStep d later s = (setDll d { dllOf s d with step := some later } s).wf (Reg.CLK_DLL_PHASE d) 0 8
      (s.rf (Reg.CLK_DLL_PHASE d) 0 8 + (if later then 1 else 255)) := by
  simp only [dllStep, hruns, hidle, Option.isNone_none, and_self, if_true]

theorem dllAligned_sets {s : State} {d : Nat} (hruns : dllRuns s d = true) (hout : (dllOf s d).aligned = false) :
    dllAligned d s = (setDll d { dllOf s d with aligned := true } s).wf (Reg.CLK_DLL_PHASE d) 0 8 0 := by
  simp only [dllAligned, hruns, hout, Bool.not_false, and_self, if_true]

theorem dllUnlock_drops {s : State} {d : Nat} (hin : (dllOf s d).aligned = true) :
    dllUnlock d s = irq CLK_PAGE 7 (setDll d { dllOf s d with aligned := false, step := none } s) := by
  simp only [dllUnlock, hin, if_true]

/-! ### Needle lines, parameter words, bolts and target ports -/

theorem needleEdge_event {s : State} {n : Nat} (hopen : isolated s (n / 32) = false) (hon : isEnabled s FAB_PAGE = true) :
    needleEdge n s = event n s := by
  simp only [needleEdge, hopen, hon, Bool.not_true, Bool.false_eq_true, or_self, if_false]

/-- A map with the keys `base` to `base + m - 1` written holds there what was written. -/
theorem sget_foldl_sset {α : Type} [DecidableEq α] (d : Nat → α) (f : Nat → α) (base : Nat) (l : List (Nat × α))
    {m n : Nat} (h : n < m) :
    sget d ((List.range m).foldl (fun l n => sset d l (base + n) (f n)) l) (base + n) = f n := by
  induction m with
  | zero => omega
  | succ m ih =>
    rw [List.range_succ, List.foldl_append, List.foldl_cons, List.foldl_nil]
    obtain rfl | hlt := Nat.eq_or_lt_of_le (Nat.le_of_lt_succ h)
    · exact sget_sset_self _ _ _ _
    · rw [sget_sset_ne _ _ _ (by omega), ih hlt]

/-- The mask of waiting regions with one of them taken out. -/
theorem getLsbD_cleared (x : BitVec 128) (r : Nat) : (x &&& ~~~(BitVec.twoPow 128 r)).getLsbD r = false := by
  simp only [BitVec.getLsbD_and, BitVec.getLsbD_not, BitVec.getLsbD_twoPow, decide_true, Bool.and_true, Bool.and_not_self, Bool.and_false]

theorem paramCapture_takes {s : State} {r : Nat} (hwaits : s.fab.paramPend.getLsbD r = true) (hopen : isolated s r = false)
    (hon : isEnabled s FAB_PAGE = true) :
    (paramCapture r s).fab.paramPend.getLsbD r = false
    ∧ (Config.captureBound (markFrames s.fab.latch r) = true → ∀ n < 64,
      sget (fun _ => 0) (paramCapture r s).fab.params (64 * r + n) = s.rg (Reg.FAB_PARAM n)) := by
  simp only [paramCapture, hwaits, hopen, hon, Bool.not_false, and_self, if_true]
  split
  case _ hbound => exact ⟨getLsbD_cleared _ _, fun _ n hn => sget_foldl_sset _ (fun n => s.rg (Reg.FAB_PARAM n)) _ _ hn⟩
  case _ hfree => exact ⟨getLsbD_cleared _ _, fun hbound => absurd hbound hfree⟩

/-- A write of FAB_BOLT_OFF switches off the bolts whose bit is new (R83). -/
theorem regCmd_boltOff {a : Acc} {s : State} (bolts : BitVec 8) (h : regFree a 0xB060 s = true) :
    regCmd a 0xB060 (w32 bolts.toNat) s
      = regDone ((bitsOf 8 bolts.toNat).foldl (fun s b => if s.rb Reg.FAB_BOLT_OFF b then s else boltOff b s) s) := by
  refine regCmd_acts .fab _ h rfl (by decide) ?_
  have hvalue : (w32 bolts.toNat).toNat = bolts.toNat := by
    rw [w32, BitVec.toNat_ofNat, Nat.mod_eq_of_lt (by omega)]
  have hfab : ∀ v : Word, blockWrite a.init .fab (0xB060 / 0x1000) (accPanel a s) (0xB060 % 0x1000) v a.env s
      = acts ((bitsOf 8 v.toNat).foldl (fun s b => if s.rb Reg.FAB_BOLT_OFF b then s else boltOff b s) s) := fun _ => rfl
  rw [hfab, hvalue]
  rfl

theorem tportRespond_answers {s : State} {t c : Nat} {q : TportReq} (r : Rsp) (v : DWord)
    (hq : s.fab.tports.find? (fun q => q.port == t && q.core == c) = some q) (hintime : s.now ≤ q.start + tportLimit s) :
    tportRespond t c r v s = tportAnswer q r v s := by
  simp only [tportRespond, hq, if_neg (Nat.not_lt.mpr hintime)]

theorem tportExpire_ends {s : State} {t : Nat} {q : TportReq}
    (hq : s.fab.tports.find? (fun q => q.port == t && decide (q.start + tportLimit s ≤ s.now)) = some q) :
    tportExpire t s = tportAnswer q .timeout 0 (raise 0x0B02 s) := by
  simp only [tportExpire, hq]

/-! ### The cells of the loaded design -/

/-- In a region that is not isolated an event acts (R80). -/
theorem fabricEvent_acts {s : State} {e : FabricEvent} {r : Nat} (hr : e.region = some r) (hopen : isolated s r = false) :
    fabricEvent s e = e.act s := by
  simp only [fabricEvent, hr, hopen, Bool.false_eq_true, if_false]

theorem fabricEvent_isolated {s : State} {e : FabricEvent} {r : Nat} (hr : e.region = some r) (hiso : isolated s r = true) :
    fabricEvent s e = s := by
  simp only [fabricEvent, hr, hiso, if_true]

theorem ffOf_setFf_ne {n m : Nat} (v : Bool) (s : State) (h : m ≠ n) : ffOf (setFf n v s) m = ffOf s m := sget_sset_ne _ _ _ h

/-- The content of a LUT that moves is no flip-flop's. -/
theorem ffOf_lutEdge (n : Nat) (s : State) (x : LutIn × Nat) (m : Nat) : ffOf (lutEdge n s x) m = ffOf s m := by
  unfold lutEdge
  dsimp only
  split <;> rfl

/-- With the clock enable at 1 and no set/reset, FA takes what its LUT shows, or DA (R44). -/
theorem ffOf_ffEdge_fa {n : Nat} (s : State) (x : LutIn) (j : Nat) :
    ffOf (ffEdge n true false s (x, j)) (16 * n + 2 * j)
      = if (lutCfgOf s (8 * n + j)).faDirect then x.da else (lutOut (lutCfgOf s (8 * n + j)) (lutBits s (8 * n + j)) x.i).1 := by
  simp only [ffEdge, Bool.false_eq_true, if_false, if_true]
  rw [ffOf_setFf_ne _ _ (by omega), ffOf_setFf]

/-- The WHOLE function of a LUT: the bit of its table that the six inputs select (R44). -/
theorem lutOut_whole {s : State} {n : Nat} (i : BitVec 6) (hlogic : (lutCfgOf s n).kind = .logic) (hwhole : (lutCfgOf s n).split = false) :
    (lutOut (lutCfgOf s n) (lutBits s n) i).1 = (lutCfgOf s n).table.getLsbD i.toNat := by
  simp only [lutOut, lutBits, hlogic, hwhole, Bool.false_and, Bool.false_eq_true, if_false]

theorem sliceEdge_first {s : State} {n : Nat} (x : LutIn) (hlogic : (lutCfgOf s (8 * n)).kind = .logic)
    (hwhole : (lutCfgOf s (8 * n)).split = false) (hlut : (lutCfgOf s (8 * n)).faDirect = false) :
    ffOf (sliceEdge n true false [x] s) (16 * n) = (lutCfgOf s (8 * n)).table.getLsbD x.i.toNat := by
  have hedge := ffOf_ffEdge_fa (n := n) s x 0
  simp only [Nat.mul_zero, Nat.add_zero, hlut, Bool.false_eq_true, if_false, lutOut_whole x.i hlogic hwhole] at hedge
  simp only [sliceEdge, List.take_succ_cons, List.take_nil, List.zipIdx_cons, List.zipIdx_nil, List.foldl_cons, List.foldl_nil,
    ffOf_lutEdge, hedge]

/-! Block RAM (R53). -/

/-- A block alone has depth 1 at least (R54). -/
theorem joined'_pos (s : State) (b : Nat) : 0 < joined' s b := by
  unfold joined'
  dsimp only
  split
  · decide
  · split
    · decide
    · split <;> decide

/-- A write cycle of port 0 of a guarded block goes to the whole row. -/
theorem bramAt_guarded {s : State} {b : Nat} {c : BramCycle} (hmode : (bramCfgOf s b).mode = .guarded) (hwrite : c.isWrite = true)
    (hdepth : c.depth = 0) : bramAt s b 0 c = some ⟨b * 512 + c.addr % 512, 0, 2 ^ 72 - 1⟩ := by
  have halone : ¬ joined' s b ≤ 0 := Nat.not_le.mpr (joined'_pos s b)
  have hlets : portWrites .guarded 0 = true := rfl
  simp only [bramAt, hmode, hwrite, hdepth, hlets, Fin.val_zero, halone, Nat.add_zero, if_false, if_true, Bool.not_true, Bool.false_eq_true]

/-- Port 0 of a guarded block only writes: it shows nothing of its cycle. -/
theorem bramPush_guarded {s : State} {b : Nat} (isWrite : Bool) (old new : BitVec 72) (hmode : (bramCfgOf s b).mode = .guarded) :
    bramPush b 0 isWrite old new s = s := by
  have hlets : portReads .guarded 0 = false := rfl
  simp only [bramPush, hmode, hlets, Bool.not_false, if_true]

/-- The row of a guarded block written with right check bits, and its repair over. -/
def guardedWritten (row : Nat) (v : BitVec 72) (s : State) : State :=
  let t := (setErr row 0 (setRow row v s)).bump.bump
  { t with fab := { t.fab with repair := t.fab.repair.filter (· != row) } }

theorem bramWrite_guarded {s : State} {b : Nat} {c : BramCycle} {x : BramAt} (p : Nat) (hmode : (bramCfgOf s b).mode = .guarded)
    (hflip1 : c.flip1 = false) (hflip2 : c.flip2 = false) :
    bramWrite b p c x s = guardedWritten x.row ((c.data.truncate 64).setWidth 72) s := by
  have hright : flipMask s c = 0 := by simp only [flipMask, hflip1, hflip2, Bool.false_eq_true, if_false]
  simp only [bramWrite, bramStored, hmode, hright]
  rfl

theorem rowOf_bump (s : State) (k : Nat) : rowOf s.bump k = rowOf s k := rfl
theorem errOf_bump (s : State) (k : Nat) : errOf s.bump k = errOf s k := rfl
theorem bramCfgOf_bump (s : State) (b : Nat) : bramCfgOf s.bump b = bramCfgOf s b := rfl
theorem rowOf_withRepair (s : State) (l : List Nat) (k : Nat) : rowOf { s with fab := { s.fab with repair := l } } k = rowOf s k := rfl
theorem errOf_withRepair (s : State) (l : List Nat) (k : Nat) : errOf { s with fab := { s.fab with repair := l } } k = errOf s k := rfl
theorem bramCfgOf_withRepair (s : State) (l : List Nat) (b : Nat) :
    bramCfgOf { s with fab := { s.fab with repair := l } } b = bramCfgOf s b := rfl
theorem bramCfgOf_setErr (k : Nat) (e : BitVec 72) (s : State) (b : Nat) : bramCfgOf (setErr k e s) b = bramCfgOf s b := rfl
theorem bramCfgOf_setRow (k : Nat) (v : BitVec 72) (s : State) (b : Nat) : bramCfgOf (setRow k v s) b = bramCfgOf s b := rfl

theorem bramCfgOf_guardedWritten (row : Nat) (v : BitVec 72) (s : State) (b : Nat) :
    bramCfgOf (guardedWritten row v s) b = bramCfgOf s b := by
  rw [guardedWritten, bramCfgOf_withRepair, bramCfgOf_bump, bramCfgOf_bump, bramCfgOf_setErr, bramCfgOf_setRow]

theorem guardedWritten_holds (row : Nat) (v : BitVec 72) (s : State) :
    rowOf (guardedWritten row v s) row = v ∧ errOf (guardedWritten row v s) row = 0
    ∧ (guardedWritten row v s).fab.repair.contains row = false := by
  unfold guardedWritten
  refine ⟨?_, ?_, ?_⟩
  · rw [rowOf_withRepair, rowOf_bump, rowOf_bump, rowOf_setErr, rowOf_setRow]
  · rw [errOf_withRepair, errOf_bump, errOf_bump, errOf_setErr]
  · rw [← Bool.not_eq_true, List.contains_iff_mem]
    intro hmem
    obtain ⟨-, hother⟩ := List.mem_filter.mp hmem
    exact absurd rfl (bne_iff_ne.mp hother)

theorem bramCycle_guarded {s : State} {b : Nat} {c : BramCycle} (hmode : (bramCfgOf s b).mode = .guarded) (hwrite : c.isWrite = true)
    (hdepth : c.depth = 0) (hflip1 : c.flip1 = false) (hflip2 : c.flip2 = false) :
    bramCycle b (some c) none s = guardedWritten (b * 512 + c.addr % 512) ((c.data.truncate 64).setWidth 72) s := by
  simp only [bramCycle, Option.bind_some, Option.bind_none, bramAt_guarded hmode hwrite hdepth, Option.map_some, bramOne, hwrite, if_true,
    bramWrite_guarded 0 hmode hflip1 hflip2]
  exact bramPush_guarded _ _ _ (by rw [bramCfgOf_guardedWritten, hmode])

/-! DSP blocks (R56). -/

/-- One lane of 48 bits is the sum itself (R59). -/
theorem laneSum_one (a b : BitVec 48) : (laneSum .one a b false).1 = a + b := by
  have hlane : List.range 1 = [0] := rfl
  refine BitVec.eq_of_toNat_eq ?_
  simp only [laneSum, laneShape, hlane, List.foldl_cons, List.foldl_nil, nfld, Nat.mul_zero, Nat.shiftRight_zero, Nat.pow_zero, Nat.mul_one,
    Bool.false_eq_true, if_false, BitVec.toNat_or, BitVec.toNat_ofNat, BitVec.toNat_add, Nat.mod_mod, ← Nat.add_mod]
  exact Nat.zero_or _

theorem dspEdge_accumulates {s : State} {n : Nat} {c : DspCfg} (x w : BitVec 27) (y : BitVec 24) (z : BitVec 48) (hc : c = dspCfgOf s n)
    (hlanes : c.lanes = .one) (hop : c.op = .accPlusP) (hpass : c.pre = .pass) (hix : c.useIx = false) (hiy : c.useIy = false)
    (hpre : c.usePre = false) (hmul : c.useMul = false) :
    (dspOf (dspEdge n x w y z s) n).acc = (dspOf s n).acc + dspProduct c x y := by
  simp only [dspOf, dspEdge, sget_sset_self, ← hc, hpass, hix, hiy, hpre, hmul, preAdd, dspStage, hop, hlanes,
    Bool.false_eq_true, if_false, if_true, laneSum_one]

/-! ### The statement -/

/-- Settles O16: each command acts where its condition holds, and an event of the design's logic on its cell, unless its
region is isolated. -/
theorem fabricBramAndLinesComplete : Obligations.FabricBramAndLinesComplete := by
  refine ⟨fun s => ⟨?guarded, ?repair, ?step, fun _ => rfl, ?aligned, ?unlock⟩,
    fun s => ⟨fun _ _ => rfl, fun _ _ => rfl, ?needle, ?capture, ?bolts, ?response, ?timeout⟩,
    fun s => ⟨fun _ _ => fabricEvent_isolated, ?slice, ?bram, ?dsp⟩⟩
  case guarded =>
    intro block word dataFlips checkFlips err content hopen hmode herr hcontent
    have hans := guardedAccess_ans (checkFlips ++ dataFlips) hopen hmode (word := word.val) rfl rfl
    rw [← herr] at hans
    have hnow := errOf_setErr (block.val * 512 + word.val) err s
    have hrow := rowOf_setErr (block.val * 512 + word.val) err s (block.val * 512 + word.val)
    refine ⟨_, rfl, fun h0 => ?_, fun h1 => ?_, fun h2 => ?_⟩
    · rwa [guardedRead_none (by rw [hnow]; exact h0), hrow, ← hcontent] at hans
    · rwa [guardedRead_one (by rw [hnow]; exact h1), hrow, ← hcontent] at hans
    · rwa [guardedRead_two (by rw [hnow]; exact h2), hrow, hnow, ← hcontent] at hans
  case repair => exact fun _ word hopen hwaits => congrArg Host.Outcome.next (bramRepair_done word.isLt hopen hwaits)
  case step => exact fun _ later hruns hidle => congrArg Host.Outcome.next (dllStep_moves later hruns hidle)
  case aligned => exact fun _ hruns hout => congrArg Host.Outcome.next (dllAligned_sets hruns hout)
  case unlock => exact fun _ hin => congrArg Host.Outcome.next (dllUnlock_drops hin)
  case needle => exact fun _ hopen hon => congrArg Host.Outcome.next (needleEdge_event hopen hon)
  case capture => exact fun _ hwaits hopen hon => ⟨_, rfl, paramCapture_takes hwaits hopen hon⟩
  case bolts => exact fun _ bolts h => congrArg Host.Outcome.next (regCmd_boltOff bolts h)
  case response =>
    exact fun _ _ _ value _ hq hintime => congrArg Host.Outcome.next (tportRespond_answers _ value hq hintime)
  case timeout => exact fun _ _ hq => congrArg Host.Outcome.next (tportExpire_ends hq)
  case slice =>
    intro n x c hopen hc hlogic hwhole hlut
    subst hc
    rw [fabricEvent_acts (e := .slice n true false [x]) rfl hopen]
    exact sliceEdge_first x hlogic hwhole hlut
  case bram =>
    intro block c t row hopen hmode hwrite hdepth hflip1 hflip2 ht hrow
    rw [fabricEvent_acts (e := .bram block (some c) none) rfl hopen, FabricEvent.act, bramCycle_guarded hmode hwrite hdepth hflip1 hflip2,
      ← hrow] at ht
    rw [ht]
    exact guardedWritten_holds row _ s
  case dsp =>
    intro n x w y z c hopen hc hlanes hop hpass hix hiy hpre hmul
    rw [fabricEvent_acts (e := .dsp n x w y z) rfl hopen]
    exact dspEdge_accumulates x w y z hc hlanes hop hpass hix hiy hpre hmul

end Sys2Proof.Machine
end

section
/-!
PROOFS of the statements on Zenwick images (03_zenwick_images.md): the plane commands of PAT_CMD complete (O19).
-/

namespace Sys2Proof.Machine

open Sys2Proof

/-! ### What an interrupt source, a fault and a report leave of the planes -/

/-- A message that goes out is noted among the messages, and nowhere else. -/
theorem sendMsg_hst (f v : Nat) (s : State) : ∃ h, sendMsg f v s = { s with hst := h } := by
  unfold sendMsg
  split
  · exact ⟨_, rfl⟩
  · exact ⟨s.hst, rfl⟩

/-- The scan of a vector changes the record of the hosts only (R370). -/
theorem vectorScan_hst (f : Nat) (s : State) (v : Nat) : ∃ h, vectorScan f s v = { s with hst := h } := by
  unfold vectorScan
  dsimp only
  split
  · exact ⟨s.hst, rfl⟩
  · split
    · split
      · exact ⟨_, rfl⟩
      · obtain ⟨h, hsent⟩ := sendMsg_hst f v (setFn f { fnOf s f with level := (fnOf s f).level ||| 1#64 <<< v } s)
        exact ⟨h, hsent⟩
    · exact ⟨_, rfl⟩

/-- The scan of all enabled vectors changes the record of the hosts only. -/
theorem hstScan_hst (s : State) : ∃ h, hstScan s = { s with hst := h } := by
  refine List.foldlRecOn (motive := fun t : State => ∃ h, t = { s with hst := h }) _ _ ⟨s.hst, rfl⟩ fun t ht x _ => ?_
  obtain ⟨h, rfl⟩ := ht
  exact vectorScan_hst x.1 _ x.2

@[simp] theorem irq_pat (page n : Nat) (s : State) : (irq page n s).pat = s.pat := by
  obtain ⟨h, hscan⟩ := hstScan_hst (s.wrg (irqRaw page) (w32 (nset (s.rg (irqRaw page)).toNat n)))
  rw [irq, hstNotify, hscan]
  simp only [State.wrg_frame]

@[simp] theorem raise_pat (code : Nat) (s : State) : (raise code s).pat = s.pat := by
  unfold raise intakePush faultNote
  split <;> simp only [State.incSat_frame, State.wrg_frame]

@[simp] theorem patErr_pat (stage code : Nat) (s : State) : (patErr stage code s).pat = s.pat := by
  simp only [patErr, State.wrg_frame]

@[simp] theorem writeReport_pat (stage code : Nat) (s : State) :
    (writeReport stage code s).pat = { s.pat with writing := none, opState := 8 } := by
  simp only [writeReport, irq_pat, raise_pat, patErr_pat]

/-- The planes stand in the record of the pattern controller. -/
theorem planeOf_of_pat {s t : State} (h : t.pat = s.pat) (p : Plane) : planeOf t p = planeOf s p := by
  cases p <;> simp only [planeOf, h]

@[simp] theorem planeOf_irq (page n : Nat) (s : State) (p : Plane) : planeOf (irq page n s) p = planeOf s p :=
  planeOf_of_pat (irq_pat page n s) p

@[simp] theorem planeOf_patErr (stage code : Nat) (s : State) (p : Plane) : planeOf (patErr stage code s) p = planeOf s p :=
  planeOf_of_pat (patErr_pat stage code s) p

theorem planeOf_withOpState (s : State) (n : Nat) (p : Plane) :
    planeOf { s with pat := { s.pat with opState := n } } p = planeOf s p := by cases p <;> rfl

/-! ### The write of PAT_CMD -/

/-- OP of a PAT_CMD word. -/
theorem patWord_op (n : Nat) {op : Nat} (hop : op < 16) : fld (w32 (16 * n + op)) 0 4 = op := by
  simp only [fld, w32, BitVec.toNat_ofNat, Nat.shiftRight_eq_div_pow]
  omega

/-- TARGET of a PAT_CMD word. -/
theorem patWord_target (t : Fin 4) {op : Nat} (hop : op < 16) : fld (w32 (16 * t.val + op)) 4 2 = t.val := by
  have ht := t.isLt
  simp only [fld, w32, BitVec.toNat_ofNat, Nat.shiftRight_eq_div_pow]
  omega

/-- A write of PAT_CMD that nothing bars does what the word asks for. -/
theorem regCmd_pat {a : Acc} {v : Word} {s u : State} (h : regFree a 0x8040 s = true)
    (hu : patCmd (accPanel a s) v a.env.cellFails s = u) : regCmd a 0x8040 v s = regDone u :=
  regCmd_acts .pat u h rfl (by decide) (congrArg (fun t => some (t, Rsp.okay)) hu)

theorem patCmd_write {panel : Nat} {t : Fin 4} {p : Plane} {s : State} (cellFails : Bool) (hon : isEnabled s PAT_PAGE = true)
    (ht : targetOf t.val = some p) (hfree : writeRefusal panel p s = none) :
    patCmd panel (w32 (16 * t.val + 1)) cellFails s = writePlane p s := by
  simp only [patCmd, patWord_op t.val (show 1 < 16 by decide), patWord_target t (show 1 < 16 by decide), hon, ht, hfree,
    Bool.not_true, Bool.false_eq_true, and_false, if_false, Nat.one_ne_zero]

theorem patCmd_abort (panel : Nat) (cellFails : Bool) (s : State) : patCmd panel 2 cellFails s = abortPat s := rfl

theorem patCmd_erase {panel : Nat} {t : Fin 4} {p : Plane} {s : State} (cellFails : Bool) (hon : isEnabled s PAT_PAGE = true)
    (ht : targetOf t.val = some p) : patCmd panel (w32 (16 * t.val + 6)) cellFails s = erasePlane panel p cellFails s := by
  have hop : ¬ 6 = 0 := by decide
  simp only [patCmd, patWord_op t.val (show 6 < 16 by decide), patWord_target t (show 6 < 16 by decide), hon, ht,
    Bool.not_true, Bool.false_eq_true, and_false, if_false, hop]

theorem patCmd_confirm {s : State} (panel : Nat) (cellFails : Bool) (hon : isEnabled s PAT_PAGE = true) :
    patCmd panel 5 cellFails s = confirm s := by
  have hop : fld 5 0 4 = 5 := by decide
  have hnop : ¬ 5 = 0 := by decide
  simp only [patCmd, hop, hon, Bool.not_true, Bool.false_eq_true, and_false, if_false, hnop]

/-! ### ABORT (R121, R125) -/

theorem abortWrite_writing (s : State) : (abortWrite s).pat.writing = none := by
  unfold abortWrite
  split
  case h_1 hnone => exact hnone
  case h_2 => split <;> simp only [writeFails, writeReport_pat]

theorem cancelSwapAt_pending (s : State) : (cancelSwapAt s).pat.pending = none := by
  unfold cancelSwapAt
  split
  case h_1 hnone => exact hnone
  case h_2 => simp only [irq_pat, patErr_pat]

theorem cancelSwapAt_writing (s : State) : (cancelSwapAt s).pat.writing = s.pat.writing := by
  unfold cancelSwapAt
  split
  case h_1 => rfl
  case h_2 => simp only [irq_pat, patErr_pat]

theorem abortPat_idle (s : State) : (abortPat s).pat.writing = none ∧ (abortPat s).pat.pending = none :=
  ⟨(cancelSwapAt_writing _).trans (abortWrite_writing s), cancelSwapAt_pending _⟩

/-! ### ERASE (R121, R122, R141) -/

/-- An erase is counted in the plane's record (R122). -/
theorem planeOf_countErase (p : Plane) (s : State) :
    planeOf (countErase p s) p = { planeOf s p with cycles := satInc (planeOf s p).cycles 16 } := by
  rw [← planeOf_setPlane p { planeOf s p with cycles := satInc (planeOf s p).cycles 16 } s]
  refine planeOf_of_pat ?_ p
  unfold countErase
  dsimp only
  split <;> simp only [irq_pat, raise_pat]

/-- What an erase of plane `p` that counts and empties it leaves, from the state it found: `fails` makes the plane INVALID (R141). -/
def erased (p : Plane) (fails : Bool) (s : State) : State :=
  setPlane p { PlaneRec.reset with
    cycles := satInc (planeOf s p).cycles 16, st := if fails then .invalid else .empty } (countErase p (patErr 0 0 s))

theorem planeOf_erased (p : Plane) (fails : Bool) (s : State) :
    planeOf (erased p fails s) p = { PlaneRec.reset with
      cycles := satInc (planeOf s p).cycles 16, st := if fails then .invalid else .empty } :=
  planeOf_setPlane _ _ _

/-- An ERASE that nothing refuses: the plane erased, with the failure or DONE reported. -/
theorem erasePlane_free {panel : Nat} {p : Plane} {s : State} (cellFails : Bool) (hmode : writeMode panel s = true)
    (hidle : imageBusy s = false) (hfree : targetRefusal p s = none) :
    erasePlane panel p cellFails s = if cellFails
      then irq PAT_PAGE 1 (patErr 0 0x2B { erased p cellFails s with pat := { (erased p cellFails s).pat with opState := 8 } })
      else irq PAT_PAGE 0 { erased p cellFails s with pat := { (erased p cellFails s).pat with opState := 7 } } := by
  have hcount : (planeOf (countErase p (patErr 0 0 s)) p).cycles = satInc (planeOf s p).cycles 16 := by
    rw [planeOf_countErase, planeOf_patErr]
  simp only [erasePlane, erased, hmode, hidle, hfree, hcount, Bool.not_true, Bool.false_eq_true, if_false]

theorem erasePlane_erases {panel : Nat} {p : Plane} {s : State} (cellFails : Bool) (hmode : writeMode panel s = true)
    (hidle : imageBusy s = false) (hfree : targetRefusal p s = none) :
    (erasePlane panel p cellFails s).pat.opState = (if cellFails then 8 else 7)
    ∧ planeOf (erasePlane panel p cellFails s) p = { PlaneRec.reset with
        cycles := satInc (planeOf s p).cycles 16, st := if cellFails then .invalid else .empty } := by
  rw [erasePlane_free cellFails hmode hidle hfree]
  cases cellFails
  case false => exact ⟨by rw [if_neg Bool.false_ne_true, irq_pat, if_neg Bool.false_ne_true],
      by rw [if_neg Bool.false_ne_true, planeOf_irq, planeOf_withOpState, planeOf_erased]⟩
  case true => exact ⟨by rw [if_pos rfl, irq_pat, patErr_pat, if_pos rfl],
      by rw [if_pos rfl, planeOf_irq, planeOf_patErr, planeOf_withOpState, planeOf_erased]⟩

/-! ### CONFIRM (R134) -/

theorem storeSelection_none {s : State} (h : s.pat.store = none) : storeSelection s = s := by
  simp only [storeSelection, h]

/-- With no other operation in progress, CONFIRM of a trial ends it with DONE. -/
theorem confirm_trial {s : State} (htrial : s.pat.trial = true) (hstore : s.pat.store = none) (hidle : imageBusy s = false) :
    confirm s = irq PAT_PAGE 0 { patErr 0 0 s with pat := { s.pat with
      trial := false, opState := 7
      selectedB := match s.pat.loaded with | some .a => false | some .b => true | _ => s.pat.selectedB } } := by
  have hkept : storeSelection (patErr 0 0 s) = patErr 0 0 s := storeSelection_none (by rw [patErr_pat, hstore])
  have hbusy : imageBusy (patErr 0 0 s) = false := by rw [← hidle]; simp only [imageBusy, patErr_pat]
  simp only [confirm, htrial, hkept, hbusy, patErr_pat, Bool.not_true, Bool.false_eq_true, if_false] <;> rfl

/-! ### The statement -/

/-- Settles O19: a free write of PAT_CMD does what its word asks for, and each operation completes as its own lemma says. -/
theorem planeCommandsComplete : Obligations.PlaneCommandsComplete := by
  refine fun a s hfree hon => ⟨?write, ?abort, ?erase, ?confirm⟩
  case write =>
    intro t p r h ht hrefusal hr hh
    have hcmd : exec (.planeWrite a t) s
        = .next (regDone (writeJudged p (s.rg64 Reg.PAT_SRC_ADDR) (s.rg Reg.PAT_SRC_LEN).toNat h (hdrJudge h (some p) r.1) r.1)) := by
      subst hh hr
      exact congrArg Host.Outcome.next (regCmd_pat hfree (patCmd_write _ hon ht hrefusal))
    exact ⟨fun hpass => by rw [hcmd, hpass, writeJudged], fun e hfail => by rw [hcmd, hfail, writeJudged]⟩
  case abort => exact ⟨_, congrArg Host.Outcome.next (regCmd_pat hfree (patCmd_abort _ _ s)), abortPat_idle s⟩
  case erase =>
    exact fun t p ht hmode hidle htarget =>
      ⟨_, congrArg Host.Outcome.next (regCmd_pat hfree (patCmd_erase _ hon ht)), erasePlane_erases _ hmode hidle htarget⟩
  case confirm =>
    exact fun htrial hstore hidle => congrArg Host.Outcome.next
      (regCmd_pat hfree ((patCmd_confirm _ _ hon).trans (confirm_trial htrial hstore hidle)))

end Sys2Proof.Machine
end

section
/-!
PROOFS of the statements on pattern loading (04_pattern_loading.md): the swaps (O20), the basting commands (O21), the starts and the
shutdowns of the module (O47).
-/

namespace Sys2Proof.Machine

open Sys2Proof

/-! ### The read-back of a written plane (R120) -/

/-- An interrupt source does not change the mode. -/
@[simp] theorem irq_mode (page n : Nat) (s : State) : (irq page n s).mode = s.mode := by
  obtain ⟨h, hscan⟩ := hstScan_hst (s.wrg (irqRaw page) (w32 (nset (s.rg (irqRaw page)).toNat n)))
  rw [irq, hstNotify, hscan]
  simp only [State.wrg_frame]

/-- A read-back in which no cell fails and whose check fits: the plane is VALID, and the write is over with DONE. -/
theorem writeDone_reads {s : State} {w : PlaneWrite} (hw : s.pat.writing = some w) (hstep : w.step = 4)
    (hreads : planeReads (planeOf s w.plane) = true) :
    writeDone false s = irq PAT_PAGE 0 { setPlane w.plane { planeOf s w.plane with st := .valid } s with
      pat := { (setPlane w.plane { planeOf s w.plane with st := .valid } s).pat with writing := none, opState := 7 } } := by
  simp only [writeDone, hw, hstep, hreads, Nat.lt_irrefl, Bool.false_eq_true, Bool.not_true, if_false]

theorem planeOf_writeOver (s : State) (n : Nat) (p : Plane) :
    planeOf { s with pat := { s.pat with writing := none, opState := n } } p = planeOf s p := by cases p <;> rfl

theorem writeDone_valid {s : State} {w : PlaneWrite} (hw : s.pat.writing = some w) (hstep : w.step = 4)
    (hreads : planeReads (planeOf s w.plane) = true) :
    (planeOf (writeDone false s) w.plane).st = .valid ∧ (writeDone false s).pat.writing = none ∧ (writeDone false s).pat.opState = 7 := by
  simp only [writeDone_reads hw hstep hreads, planeOf_irq, irq_pat, planeOf_writeOver, planeOf_setPlane, and_self]

/-! ### SWAP and SWAP_AT (R124 to R126) -/

/-- OP of the PAT_CMD word of a swap. -/
theorem swapWord_op (trial : Bool) (t : Fin 4) {op : Nat} (hop : op < 16) : fld (w32 (64 * b2n trial + 16 * t.val + op)) 0 4 = op := by
  simp only [fld, w32, BitVec.toNat_ofNat, Nat.shiftRight_eq_div_pow]
  omega

/-- TARGET of the PAT_CMD word of a swap. -/
theorem swapWord_target (trial : Bool) (t : Fin 4) {op : Nat} (hop : op < 16) :
    fld (w32 (64 * b2n trial + 16 * t.val + op)) 4 2 = t.val := by
  have ht := t.isLt
  simp only [fld, w32, BitVec.toNat_ofNat, Nat.shiftRight_eq_div_pow]
  cases trial <;> simp only [b2n] <;> omega

/-- TRIAL of the PAT_CMD word of a swap. -/
theorem swapWord_trial (trial : Bool) (t : Fin 4) {op : Nat} (hop : op < 16) :
    bit (w32 (64 * b2n trial + 16 * t.val + op)) 6 = trial := by
  have ht := t.isLt
  simp only [bit, w32, BitVec.toNat_ofNat, Nat.testBit_eq_decide_div_mod_eq]
  cases trial
  case false =>
    simp only [b2n, Bool.false_eq_true, if_false, decide_eq_false_iff_not]
    omega
  case true =>
    simp only [b2n, if_true, decide_eq_true_eq]
    omega

/-- SWAP (`at?` false) and SWAP_AT of PAT_CMD. -/
theorem patCmd_swap {panel : Nat} {t : Fin 4} {p : Plane} {s : State} (at? trial cellFails : Bool) (hon : isEnabled s PAT_PAGE = true)
    (ht : targetOf t.val = some p) :
    patCmd panel (w32 (64 * b2n trial + 16 * t.val + (3 + b2n at?))) cellFails s = swapCmd at? (some p) trial s := by
  have hsmall : 3 + b2n at? < 16 := by cases at? <;> decide
  simp only [patCmd, swapWord_op trial t hsmall, swapWord_target trial t hsmall, swapWord_trial trial t hsmall, hon, ht, Bool.not_true,
    Bool.false_eq_true, and_false, if_false]
  cases at? <;> rfl

/-- The swap that PAT_CMD asks for, as it begins or waits: PAT_SWAP_AT is read once PAT_ERR is cleared. -/
def swapAsked (p : Plane) (trial : Bool) (s : State) : Swap :=
  ⟨p, trial, (patErr 0 0 s).rg64 Reg.PAT_SWAP_AT, s.mode, 0, (patErr 0 0 s).rg64 Reg.PAT_SWAP_AT⟩

theorem swapCmd_now {p : Plane} {trial : Bool} {s : State} (h : swapRefusal (some p) trial s = none) :
    swapCmd false (some p) trial s = startOutage (swapAsked p trial s) (patErr 0 0 s) := by
  simp only [swapCmd, h, Bool.false_eq_true, false_and, if_false]
  rfl

theorem swapCmd_waits {p : Plane} {trial : Bool} {s : State} (h : swapRefusal (some p) trial s = none)
    (hlater : (patErr 0 0 s).now < (patErr 0 0 s).rg64 Reg.PAT_SWAP_AT) :
    swapCmd true (some p) trial s
      = { patErr 0 0 s with pat := { s.pat with pending := some (swapAsked p trial s), opState := 5 } } := by
  simp only [swapCmd, h, hlater, true_and, if_true]
  rfl

/-- A command that settles what its meaning leaves, where that is known. -/
theorem next_settled {s t : State} (h : s = t) :
    (.next (settled s) : Host.Outcome State Fault Refusal) = .next (settled t) := by rw [h]

theorem startOutage_mode (w : Swap) (s : State) : (startOutage w s).mode = .swap := by
  simp only [startOutage, irq_mode]
  rfl

theorem swapAtDue_starts {w : Swap} {s : State} (hw : s.pat.pending = some w) (hdue : w.time ≤ s.now) (hrun : inRun s = true) :
    swapAtDue s = startOutage w s := by
  simp only [swapAtDue, hw, hdue, hrun, and_self, if_true]

/-- Settles O20: a read-back that fits makes the plane VALID, SWAP that nothing refuses starts its outage, SWAP_AT waits for its time and
starts it then. -/
theorem swapsComplete : Obligations.SwapsComplete := by
  refine fun s => ⟨?done, ?swap, ?swapAt, ?start⟩
  case done => exact fun w hw hstep hreads => ⟨_, rfl, writeDone_valid hw hstep hreads⟩
  case swap =>
    exact fun a t trial p hfree hon ht hrefusal => congrArg Host.Outcome.next
      (regCmd_pat hfree ((patCmd_swap false trial _ hon ht).trans (swapCmd_now hrefusal)))
  case swapAt =>
    exact fun a t trial p hfree hon ht hrefusal hlater => congrArg Host.Outcome.next
      (regCmd_pat hfree ((patCmd_swap true trial _ hon ht).trans (swapCmd_waits hrefusal hlater)))
  case start =>
    exact fun w hw hdue hrun =>
      ⟨next_settled (swapAtDue_starts hw hdue hrun), startOutage_mode w s⟩

/-! ### BASTE (R135, R136) -/

/-- A write of BAS_CMD that nothing bars does what the word asks for. -/
theorem regCmd_bas {a : Acc} {v : Word} {s u : State} (h : regFree a 0x9040 s = true) (hu : basCmd v s = u) :
    regCmd a 0x9040 v s = regDone u :=
  regCmd_acts .bas u h rfl (by decide) (congrArg (fun t => some (t, Rsp.okay)) hu)

@[simp] theorem basErr_pat (stage code : Nat) (s : State) : (basErr stage code s).pat = s.pat := by
  simp only [basErr, State.wrg_frame]

/-- BASTE is accepted (R135): RUN or SERVICE, no image operation in progress, and an aligned source in user memory that holds a header. -/
structure BasteAccepted (s : State) : Prop where
  enabled : isEnabled s BAS_PAGE = true
  runs : inRun s = true
  idle : imageBusy s = false
  aligned : s.rg64 Reg.BAS_SRC_ADDR % 4 = 0
  inUser : inUserMem (s.rg64 Reg.BAS_SRC_ADDR) (s.rg Reg.BAS_SRC_LEN).toNat = true
  whole : 528 ≤ (s.rg Reg.BAS_SRC_LEN).toNat

theorem startBaste_judged {s : State} {r : State × List Byte} {h : BitVec 4096} (hacc : BasteAccepted s)
    (hr : r = imageRead (s.rg64 Reg.BAS_SRC_ADDR) 512 s) (hh : h = BitVec.ofNat 4096 (leNat r.2)) :
    startBaste s = basteJudged (s.rg64 Reg.BAS_SRC_ADDR) (s.rg Reg.BAS_SRC_LEN).toNat h (hdrJudge h none r.1) r.1 := by
  subst hh hr
  simp only [startBaste, hacc.enabled, hacc.runs, hacc.idle, hacc.aligned, hacc.inUser, Nat.not_lt.mpr hacc.whole, Bool.not_true,
    Bool.false_eq_true, ne_eq, not_true_eq_false, or_self, if_false]

/-- With every bolt on, no region of a header lies in a bolt that is off. -/
theorem hdrMask_boltsOn {s : State} (h : BitVec 4096) (hon : ∀ b, b < 8 → s.rb Reg.FAB_BOLT_OFF b = false) :
    ((bitsOf 128 (hdrMask h).toNat).any fun r => s.rb Reg.FAB_BOLT_OFF (r / 16)) = false := by
  refine List.any_eq_false.mpr fun r hr => ?_
  have hlt : r < 128 := List.mem_range.mp (List.mem_filter.mp hr).1
  rw [hon (r / 16) (by omega)]
  exact Bool.false_ne_true

theorem basteJudged_passes {s : State} (addr len : Nat) (h : BitVec 4096) (hon : ∀ b, b < 8 → s.rb Reg.FAB_BOLT_OFF b = false) :
    (basteJudged addr len h none s).pat = { s.pat with
      basState := 1, baste := some ⟨1, ((basErr 0 0 s).wrg Reg.BAS_PROGRESS 0).now + 3000000, hdrMask h, addr, len, h, 0⟩ } := by
  simp only [basteJudged, hdrMask_boltsOn h hon, Bool.false_eq_true, if_false, State.wrg_frame, basErr_pat]

theorem basteJudged_fails {s : State} (addr len : Nat) (h : BitVec 4096) (e : Nat × Nat)
    (hon : ∀ b, b < 8 → s.rb Reg.FAB_BOLT_OFF b = false) :
    (basteJudged addr len h (some e) s).pat = { s.pat with basState := 8 } := by
  simp only [basteJudged, hdrMask_boltsOn h hon, Bool.false_eq_true, if_false, irq_pat, State.wrg_frame, basErr_pat]

/-! ### ABORT and RESTORE (R138, R139) -/

theorem abortBaste_early {s : State} {b : Baste} (hb : s.pat.baste = some b) (hstep : b.step < 3) :
    abortBaste s = irq BAS_PAGE 1 (basErr 0 0x25 { s with pat := { s.pat with baste := none, basState := 8 } }) := by
  simp only [abortBaste, abortBasteEarly, hb, hstep, if_true]

/-- Whether a plane is ACTIVE is seen in the record of the pattern controller alone. -/
theorem isActive_of_pat {s t : State} (h : t.pat = s.pat) (p : Plane) : isActive t p = isActive s p := by
  simp only [isActive, planeOf_of_pat h, h]

/-- The isolation that begins a RESTORE leaves the record of the pattern controller. -/
theorem restoreHeld_pat (mask : BitVec 128) (s : State) :
    (keepIso (mask.getLsbD ·) (holdRegions mask (basErr 0 0 s))).pat = s.pat := rfl

theorem restoreRegions_copies {s : State} {p : Plane} (hon : isEnabled s BAS_PAGE = true) (hrun : inRun s = true)
    (hidle : imageBusy s = false) (hloaded : s.pat.loaded = some p) (hactive : isActive s p = true) :
    (restoreRegions s).pat = { s.pat with
      basState := 9
      restore := some (s.fab.held ||| bastedMask s, (holdRegions (s.fab.held ||| bastedMask s) (basErr 0 0 s)).now + 2200000) } := by
  have hheld := restoreHeld_pat (s.fab.held ||| bastedMask s) s
  simp only [restoreRegions, hon, hrun, hidle, hheld, hloaded, isActive_of_pat hheld p, hactive, Bool.not_true, Bool.false_eq_true,
    or_self, if_false, if_true]
  rfl

/-- Settles O21: a free write of BAS_CMD does what its word asks for; BASTE, once accepted, judges its header. -/
theorem bastingComplete : Obligations.BastingComplete := by
  refine fun a s hfree => ⟨?baste, ?abort, ?restore⟩
  case baste =>
    intro r h hon hrun hidle halign huser hlen hr hh hbolts
    have hcmd : exec (.baste a) s = .next (regDone (startBaste s)) := congrArg Host.Outcome.next (regCmd_bas hfree rfl)
    rw [startBaste_judged ⟨hon, hrun, hidle, halign, huser, hlen⟩ hr hh] at hcmd
    refine ⟨fun hpass => ⟨_, hcmd, ?_⟩, fun hfail => ⟨_, hcmd, ?_⟩⟩
    · rw [hpass, basteJudged_passes _ _ h hbolts]
      exact ⟨rfl, rfl⟩
    · obtain ⟨e, he⟩ := Option.ne_none_iff_exists'.mp hfail
      rw [he, basteJudged_fails _ _ h e hbolts]
      exact ⟨rfl, rfl⟩
  case abort => exact fun b hb hstep => congrArg Host.Outcome.next (regCmd_bas hfree (abortBaste_early hb hstep))
  case restore =>
    intro p hon hrun hidle hloaded hactive
    refine ⟨restoreRegions s, congrArg Host.Outcome.next (regCmd_bas hfree rfl), ?_⟩
    rw [restoreRegions_copies hon hrun hidle hloaded hactive]
    exact ⟨rfl, rfl⟩

/-! ### The pass through HOLD (R437, R583) -/

theorem writeBytes_mode (l : List Byte) : ∀ (a : Nat) (s : State), (writeBytes a l s).mode = s.mode := by
  induction l with
  | nil => exact fun _ _ => rfl
  | cons b l ih => exact fun a s => ih (a + 1) (writeByte a b s)

/-- A step that keeps the mode keeps it when folded over a list. -/
theorem foldl_mode {α : Type} {f : State → α → State} (hf : ∀ s x, (f s x).mode = s.mode) (l : List α) (s : State) :
    (l.foldl f s).mode = s.mode :=
  List.foldlRecOn (motive := fun t : State => t.mode = s.mode) l f rfl fun t ht x _ => (hf t x).trans ht

theorem scramble_mode (a : Nat) (data : List Byte) (s : State) : (scramble a data s).mode = s.mode := by
  refine foldl_mode (fun t i => ?_) _ s
  dsimp only
  split
  · rfl
  · exact writeBytes_mode _ _ t

theorem scrambleAll_mode (a n : Nat) (s : State) : (scrambleAll a n s).mode = s.mode := writeBytes_mode _ _ s

/-- A flash operation that is cut off leaves the mode (R280). -/
theorem cutOp_mode (base : Nat) (o : FlsOp) (s : State) : (cutOp base o s).mode = s.mode := by
  unfold cutOp
  split
  · exact scrambleAll_mode _ _ s
  · split
    · exact scrambleAll_mode _ _ s
    · exact scramble_mode _ _ s

theorem cutAll_mode (s : State) : (cutAll s).mode = s.mode := by
  have hbanks : ((List.range 8).foldl cutBank s).mode = s.mode :=
    foldl_mode (fun t b => foldl_mode (fun u o => cutOp_mode 0 o u) _ t) _ s
  unfold cutAll
  dsimp only
  split
  · rw [cutOp_mode, hbanks]
  · exact hbanks

theorem flashHold_mode (s : State) : (flashHold s).mode = s.mode := by
  simp only [flashHold, cutAll_mode]

theorem fltRestart_mode (s : State) : (fltRestart s).mode = s.mode := rfl

theorem clearMem_mode (p : Nat → Bool) (s : State) : (clearMem p s).mode = s.mode := rfl

theorem setMode_mode (m : Mode) (s : State) : (setMode m s).mode = m := rfl

theorem passHold_mode (s : State) : (passHold s).mode = .hold := by
  rw [passHold, fltRestart_mode, flashHold_mode, clearMem_mode, setMode_mode]

theorem resetPass_mode (cause panel : Nat) (s : State) : (resetPass cause panel s).mode = .hold := by
  simp only [resetPass, noteReset, State.wrg_frame, passHold_mode]

/-! ### Starts (R432, R433, R583) -/

theorem powerOnStart_off {s : State} (env : StartEnv) (hoff : s.mode = .off) (hreset : s.pwr.resetN = false) :
    powerOnStart env s
      = startHold env { setMode .hold s with pwr := { (setMode .hold s).pwr with vin := true, locked := false, tries := 0 } } := by
  simp only [powerOnStart, hoff, hreset, setMode_frame, Bool.false_eq_true, if_false]

theorem powerOnStart_hold {s : State} (env : StartEnv) (hhold : s.mode = .hold) (hreset : s.pwr.resetN = false)
    (hunlocked : s.pwr.locked = false) : powerOnStart env s = startHold env { s with pwr := { s.pwr with vin := true } } := by
  simp only [powerOnStart, hhold, hreset, hunlocked, Bool.or_self, Bool.false_eq_true, if_false]

/-- A start is on its way: HOLD, not locked, RESET_N high, VIN valid. -/
structure Starting (s : State) : Prop where
  hold : s.mode = .hold
  unlocked : s.pwr.locked = false
  released : s.pwr.resetN = false
  supplied : s.pwr.vin = true

theorem railStartFail_of_starting {s : State} (rail : Fin 6) (h : Starting s) :
    railStartFail rail s = if 3 ≤ s.pwr.tries then
        { s.wrg Reg.PWR_LAST_OFF (w32 (rail.val * 256 + 4)) with pwr := { s.pwr with locked := true, offDue := true } }
      else { s with pwr := { s.pwr with tries := s.pwr.tries + 1 } } := by
  simp only [railStartFail, h.hold, h.unlocked, h.released, h.supplied, ne_eq, not_true_eq_false, Bool.not_true, Bool.false_eq_true,
    or_self, if_false, State.wrg_frame]

theorem resetN_low {s : State} (hon : s.mode ≠ .off) (hhigh : s.pwr.resetN = false) :
    resetN true s = { resetPass 1 0 s with pwr := { (resetPass 1 0 s).pwr with resetN := true, locked := false, tries := 0 } } := by
  simp only [resetN, hon, hhigh, Bool.not_false, and_self, if_false, if_true]

theorem resetN_off {s : State} (low : Bool) (hoff : s.mode = .off) : resetN low s = { s with pwr := { s.pwr with resetN := low } } :=
  if_pos hoff

/-! ### Shutdowns (R429, R434, R436, R437, R439) -/

theorem State.rg_wrg64_ne (s : State) {k l : Nat} (n : Nat) (hlow : l ≠ k) (hhigh : l ≠ k + 4) : (s.wrg64 k n).rg l = s.rg l :=
  (State.rg_wrg_ne _ _ hhigh).trans (State.rg_wrg_ne _ _ hlow)

theorem State.rg_incSat_ne (s : State) {k l : Nat} (lo len : Nat) (h : l ≠ k) : (s.incSat k lo len).rg l = s.rg l :=
  State.rg_wrg_ne _ _ h

theorem State.rg_wb_ne (s : State) {k l : Nat} (i : Nat) (b : Bool) (h : l ≠ k) : (s.wb k i b).rg l = s.rg l :=
  State.rg_wrg_ne _ _ h

theorem State.rg_withPwr (s : State) (x : Pwr) (k : Nat) : { s with pwr := x }.rg k = s.rg k := rfl

/-- The module stands in HOLD with a cause and a rail in PWR_LAST_OFF (R437). -/
structure ShutDown (cause rail : Nat) (s : State) : Prop where
  mode : s.mode = .hold
  cause : s.rf Reg.PWR_LAST_OFF 0 8 = cause
  rail : s.rf Reg.PWR_LAST_OFF 8 8 = rail

theorem shutdown_rg (cause rail : Nat) (s : State) : (shutdown cause rail s).rg Reg.PWR_LAST_OFF = w32 (rail * 256 + cause) := by
  rw [shutdown, State.rg_withPwr, noteReset, State.rg_wrg_ne _ _ (by decide), State.rg_incSat_ne _ _ _ (by decide),
    State.rg_wrg64_ne _ _ (by decide) (by decide), State.rg_wrg_self]

theorem shutdown_shutDown (cause rail : Nat) (s : State) (hcause : cause < 256) (hrail : rail < 256) :
    ShutDown cause rail (shutdown cause rail s) where
  mode := by simp only [shutdown, noteReset, State.wrg_frame, State.incSat_frame, State.wrg64_frame, passHold_mode]
  cause := by
    simp only [State.rf, shutdown_rg, fld, w32, BitVec.toNat_ofNat, Nat.shiftRight_eq_div_pow]
    omega
  rail := by
    simp only [State.rf, shutdown_rg, fld, w32, BitVec.toNat_ofNat, Nat.shiftRight_eq_div_pow]
    omega

/-- What leaves the mode and PWR_LAST_OFF leaves a shutdown. -/
theorem ShutDown.of_eq {cause rail : Nat} {s t : State} (h : ShutDown cause rail s) (hmode : t.mode = s.mode)
    (hreg : t.rg Reg.PWR_LAST_OFF = s.rg Reg.PWR_LAST_OFF) : ShutDown cause rail t where
  mode := hmode.trans h.mode
  cause := by rw [State.rf, hreg]; exact h.cause
  rail := by rw [State.rf, hreg]; exact h.rail

theorem ShutDown.withPwr {cause rail : Nat} {s : State} (h : ShutDown cause rail s) (x : Pwr) :
    ShutDown cause rail { s with pwr := x } :=
  ⟨h.mode, h.cause, h.rail⟩

theorem vinGone_shutDown {cause rail : Nat} {s : State} (h : ShutDown cause rail s) : ShutDown cause rail (vinGone s) := by
  refine h.of_eq ?_ ?_
  · simp only [vinGone, State.wb_frame]
  · rw [vinGone, State.rg_withPwr, State.rg_wb_ne _ _ _ (by decide)]

theorem brownOut_shuts {s : State} (hon : s.mode ≠ .off) (hawake : s.mode ≠ .hibernate) (hvin : s.pwr.vin = true)
    (hunlocked : s.pwr.locked = false) : brownOut s = vinGone (shutdown 1 0 s) := by
  simp only [brownOut, hon, hawake, hvin, hunlocked, Bool.not_true, Bool.false_eq_true, or_self, false_and, if_false]

theorem hibernateBrownOut_shuts {s : State} (hasleep : s.mode = .hibernate) (hvin : s.pwr.vin = false) :
    hibernateBrownOut s = shutdown 1 0 s := by
  simp only [hibernateBrownOut, hasleep, hvin, Bool.not_false, and_self, if_true]

theorem ilimit_shuts {s : State} (hon : s.mode ≠ .off) (hawake : s.mode ≠ .hibernate) (hunlocked : s.pwr.locked = false) :
    ilimit s = shutdown 3 0 s := by
  unfold ilimit
  split
  case h_1 hoff => exact absurd hoff hon
  case h_2 hasleep => exact absurd hasleep hawake
  case h_3 => rw [hunlocked, if_neg Bool.false_ne_true]

/-- A first rail out of its window does not lock the module. -/
theorem railOut_first {s : State} (rail : Fin 6) (hon : s.mode ≠ .off) (hup : s.mode ≠ .hold) (hawake : s.mode ≠ .hibernate)
    (hfirst : s.pwr.railOffs = []) :
    railOut rail s = { shutdown 2 rail.val s with
      pwr := { (shutdown 2 rail.val s).pwr with railOffs := [s.rg64 Reg.TIM_AON] } } := by
  have hrecent : ([s.rg64 Reg.TIM_AON].filter fun t => (s.rg64 Reg.TIM_AON + 2 ^ 48 - t) % 2 ^ 48 < aon10s) = [s.rg64 Reg.TIM_AON] := by
    rw [List.filter_cons_of_pos (by rw [Nat.add_sub_cancel_left, Nat.mod_self]; rfl), List.filter_nil]
  unfold railOut
  split
  case h_1 hoff => exact absurd hoff hon
  case h_2 hhold => exact absurd hhold hup
  case h_3 hasleep => exact absurd hasleep hawake
  case h_4 => simp only [hfirst, hrecent, List.length_singleton, show ¬ 3 ≤ 1 by decide, decide_false, Bool.or_false, Bool.not_true,
      Bool.false_eq_true, if_false]

/-! ### What Selvage loses (R430, R441) -/

/-- The highest bit of a register reads back as it was set. -/
theorem State.rb_wb_top (s : State) (k : Nat) : (s.wb k 31 true).rb k 31 = true := by
  have hlt := (s.rg k).isLt
  simp only [State.rb, State.wb, State.wf, State.rg_wrg_self, bit, setFld, fld, b2n, if_true, BitVec.toNat_ofNat, Nat.shiftLeft_eq,
    Nat.shiftRight_eq_div_pow, Nat.testBit_eq_decide_div_mod_eq, decide_eq_true_eq]
  omega

theorem aonBrownOut_resets {s : State} (hasleep : s.mode = .hibernate) :
    (aonBrownOut s).mode = .hold ∧ (aonBrownOut s).rb Reg.AON_SUPPLY 31 = true ∧ (aonBrownOut s).pwr.borDue = true := by
  unfold aonBrownOut
  rw [if_neg (not_not_intro hasleep)]
  exact ⟨rfl, State.rb_wb_top _ _, rfl⟩

/-! ### The statement -/

/-- Settles O47: each start, fault of a rail and level of RESET_N acts as its lemma says; a brown-out, the input current limit and a rail out
of its window shut down through HOLD, which the mode and PWR_LAST_OFF show; what Selvage loses is gone. -/
theorem startsAndShutdownsComplete : Obligations.StartsAndShutdownsComplete := by
  refine ⟨fun s => ⟨?vin, ?start, ?again, ?lock, ?low, ?high⟩, fun s => ⟨?brownOut, ?hibernate, ?ilimit, ?rail, ?aon, ?selvage⟩⟩
  case vin =>
    rintro env _ hoff hreset rfl
    exact next_settled (powerOnStart_off env hoff hreset)
  case start =>
    exact fun env hhold hreset hunlocked =>
      next_settled (powerOnStart_hold env hhold hreset hunlocked)
  case again =>
    exact fun rail hhold hunlocked hreset hvin htries => next_settled
      ((railStartFail_of_starting rail ⟨hhold, hunlocked, hreset, hvin⟩).trans (if_neg (Nat.not_le.mpr htries)))
  case lock =>
    exact fun rail hhold hunlocked hreset hvin htries => next_settled
      ((railStartFail_of_starting rail ⟨hhold, hunlocked, hreset, hvin⟩).trans (if_pos htries))
  case low =>
    rintro _ hon hhigh rfl
    exact ⟨resetPass_mode 1 0 s, next_settled (resetN_low hon hhigh)⟩
  case high => exact fun hoff => next_settled (resetN_off false hoff)
  case brownOut =>
    intro hon hawake hvin hunlocked
    have hdown := vinGone_shutDown (shutdown_shutDown 1 0 s (by decide) (by decide))
    exact ⟨_, next_settled (brownOut_shuts hon hawake hvin hunlocked), hdown.mode, hdown.cause, rfl⟩
  case hibernate =>
    intro hasleep hvin
    have hdown := shutdown_shutDown 1 0 s (by decide) (by decide)
    exact ⟨_, next_settled (hibernateBrownOut_shuts hasleep hvin), hdown.mode, hdown.cause⟩
  case ilimit =>
    intro hon hawake hunlocked
    have hdown := shutdown_shutDown 3 0 s (by decide) (by decide)
    exact ⟨_, next_settled (ilimit_shuts hon hawake hunlocked), hdown.mode, hdown.cause⟩
  case rail =>
    intro rail hon hup hawake hfirst
    have hdown := (shutdown_shutDown 2 rail.val s (by decide) (by omega)).withPwr
      { (shutdown 2 rail.val s).pwr with railOffs := [s.rg64 Reg.TIM_AON] }
    exact ⟨_, next_settled (railOut_first rail hon hup hawake hfirst),
      hdown.mode, hdown.cause, hdown.rail, rfl⟩
  case aon => exact fun hasleep => ⟨_, rfl, aonBrownOut_resets hasleep⟩
  case selvage => exact ⟨_, rfl, rfl, rfl, rfl⟩

end Sys2Proof.Machine
end

section
/-!
PROOFS of the statements on Overlock (05_overlock.md): the sweeps, the plane refresher, the vote and the injection complete (O22).
-/

namespace Sys2Proof.Machine

open Sys2Proof

/-! ### Starts, overruns and region resets (R147, R151, R164) -/

theorem sweepStart_idle {s : State} {b : Nat} (hruns : sweepRuns s = true) (hidle : (sweepOf s b).on = false)
    (hdue : (sweepOf s b).start = 0 ∨ (sweepOf s b).start + 20000000 ≤ s.now) :
    sweepStart b s = setSweep b { sweepOf s b with on := true, region := 0, frame := 0, start := s.now, late := false } s := by
  simp only [sweepStart, hruns, hidle, hdue, Bool.not_false, and_self, if_true]

theorem sweepOverrun_reports {s : State} {b : Nat} (hon : (sweepOf s b).on = true) (hfirst : (sweepOf s b).late = false)
    (hlong : (sweepOf s b).start + 20000000 < s.now) :
    sweepOverrun b s = irq OVL_PAGE 7 (raise 0x0A09 (setSweep b { sweepOf s b with late := true } s)) := by
  simp only [sweepOverrun, hon, hfirst, hlong, Bool.not_false, and_self, if_true]

theorem resetRelease_due {s : State} {r t : Nat} (hheld : s.fab.resetRel.find? (·.1 == r) = some (r, t)) (hdue : t ≤ s.now) :
    resetRelease r s
      = releaseRegions (1#128 <<< r) { s with fab := { s.fab with resetRel := s.fab.resetRel.filter (·.1 != r) } } := by
  simp only [resetRelease, hheld, hdue, if_true]

/-! ### A frame that agrees with its reference (R146 to R148) -/

theorem maskFrame_xor (s : State) (a : Nat) (f g : BitVec 4096) : maskFrame s a (f ^^^ g) = maskFrame s a f ^^^ maskFrame s a g := by
  ext i hi
  simp only [maskFrame, BitVec.getElem_xor, BitVec.getElem_and, Bool.and_xor_distrib_right]

/-- Frames that differ in DYNAMIC words only are one frame once these are masked. -/
theorem maskFrame_eq_of_xor {s : State} {a : Nat} {f g : BitVec 4096} (h : maskFrame s a (f ^^^ g) = 0) :
    maskFrame s a f = maskFrame s a g :=
  BitVec.xor_eq_zero_iff.mp ((maskFrame_xor s a f g).symm.trans h)

/-- The comparison of an engine has no false alarm (R148). -/
theorem sweepFinds_agrees {s : State} {a : Nat} (h : frameDiff s a = 0) : sweepFinds s a = none := by
  have hmasked := maskFrame_eq_of_xor h
  simp only [sweepFinds, hmasked, Nat.xor_self, and_self, if_true]

theorem checkFrame_agrees {s : State} {a : Nat} (safe : Bool) (stuck : List (Fin 4096)) (cut : Option Bool) (h : frameDiff s a = 0) :
    checkFrame safe a stuck cut s = s := by
  rw [checkFrame, sweepFinds_agrees h, frameFound]

/-- A frame written with what it holds differs from its reference as before. -/
theorem frameDiff_rewritten (s : State) (a : Nat) :
    frameDiff (setLatchFrame a (sget (fun _ => 0) s.fab.latch a) s) a = frameDiff s a := by
  simp only [frameDiff, maskFrame, setLatchFrame, sget_sset_self]

/-- Isolation does not look at the latches. -/
theorem isolated_setLatchFrame (a : Nat) (f : BitVec 4096) (s : State) (r : Nat) : isolated (setLatchFrame a f s) r = isolated s r := rfl

/-- An engine stands at frame `a` of region `r`, which it can check and which agrees with its reference. -/
structure FrameAgrees (s : State) (b r a : Nat) : Prop where
  runs : sweepRuns s = true
  on : (sweepOf s b).on = true
  region : r = 16 * b + (sweepOf s b).region
  frame : a = 512 * r + (sweepOf s b).frame
  notIsolated : isolated s r = false
  good : sget (fun _ => false) s.ovl.bad a = false
  same : frameDiff s a = 0

theorem sweepFrame_agrees {s : State} {b : Fin 8} {r a : Nat} (safe : Bool) (stuck : List (Fin 4096)) (cut : Option Bool)
    (h : FrameAgrees s b.val r a) :
    sweepFrame safe ⟨b, [], ⟨.none, stuck, cut⟩⟩ s = sweepNext b.val (setLatchFrame a (sget (fun _ => 0) s.fab.latch a) s) := by
  have hcheck := checkFrame_agrees safe stuck cut ((frameDiff_rewritten s a).trans h.same)
  simp only [sweepFrame, refError, h.runs, h.on, ← h.region, ← h.frame, isolated_setLatchFrame, h.notIsolated, setLatchFrame_frame, h.good,
    hcheck, List.foldl_nil, Bool.not_true, Bool.false_eq_true, or_self, if_false]

/-- With one engine in the cycle, the round over the bolts up to `n` is its step. -/
theorem foldl_filter_single {β : Type} (f : β → SweepRead → β) (q : SweepRead) (n : Nat) (s : β) :
    (List.range n).foldl (fun s b => ([q].filter (·.bolt.val == b)).foldl f s) s = if q.bolt.val < n then f s q else s := by
  induction n with
  | zero => rfl
  | succ n ih =>
    have hbolt : [q].filter (·.bolt.val == n) = if q.bolt.val = n then [q] else [] := by
      simp only [List.filter_cons, List.filter_nil, beq_iff_eq]
    rw [List.range_succ, List.foldl_append, ih, List.foldl_cons, List.foldl_nil, hbolt]
    obtain hlt | heq | hgt := Nat.lt_trichotomy q.bolt.val n
    · rw [if_pos hlt, if_neg (Nat.ne_of_lt hlt), if_pos (Nat.lt_succ_of_lt hlt), List.foldl_nil]
    · rw [if_neg (by omega), if_pos heq, if_pos (by omega), List.foldl_cons, List.foldl_nil]
    · rw [if_neg (Nat.lt_asymm hgt), if_neg (Nat.ne_of_gt hgt), if_neg (by omega), List.foldl_nil]

theorem sweepFrames_single (q : SweepRead) (s : State) : sweepFrames [q] s = sweepFrame (s.mode == .safe) q s :=
  (foldl_filter_single _ q 8 s).trans (if_pos q.bolt.isLt)

theorem sweepNext_inside {s : State} {b : Nat} (h : (sweepOf s b).frame + 1 < 480) :
    sweepNext b s = setSweep b { sweepOf s b with frame := (sweepOf s b).frame + 1 } s := if_pos h

theorem sweepFrames_movesOn {s : State} {b : Fin 8} {r a : Nat} (stuck : List (Fin 4096)) (cut : Option Bool)
    (h : FrameAgrees s b.val r a) (hinside : (sweepOf s b.val).frame + 1 < 480) :
    sweepFrames [⟨b, [], ⟨.none, stuck, cut⟩⟩] s
      = setSweep b.val { sweepOf s b.val with frame := (sweepOf s b.val).frame + 1 }
          (setLatchFrame a (sget (fun _ => 0) s.fab.latch a) s) := by
  rw [sweepFrames_single, sweepFrame_agrees _ stuck cut h]
  exact sweepNext_inside hinside

/-! ### The plane refresher (R156 to R158) -/

theorem refreshStart_due {s v : State} {hot : Bool} {p : Plane} (hv : v = noteHot hot s) (hidle : v.ovl.rfPlane = none)
    (hdue : [Plane.a, Plane.b, Plane.hem].find? (fun p => refreshOn v p && passDue v p) = some p) :
    refreshStart hot s = { v with ovl := { v.ovl with rfPlane := some p, rfFrame := 0, rfCount := 0 } } := by
  subst hv
  simp only [refreshStart, hidle, hdue, Option.isSome_none, Bool.false_eq_true, if_false]

theorem refreshFrame_sound {s : State} {p : Plane} (verifyFails : Nat) (eraseFails : Bool) (hpass : s.ovl.rfPlane = some p)
    (hfree : refreshOn s p = true) (hvalid : (planeOf s p).st = .valid) (hinside : s.ovl.rfFrame + 1 < 61440) :
    refreshFrame false 0 verifyFails eraseFails s = { s with ovl := { s.ovl with rfFrame := s.ovl.rfFrame + 1 } } := by
  have hsound : ¬ 9 ≤ 0 ∧ ¬ 2 ≤ 0 := by decide
  simp only [refreshFrame, refreshNext, hpass, hfree, hvalid, hinside, hsound, Bool.not_true, Bool.false_eq_true, ne_eq,
    not_true_eq_false, or_self, if_false, if_true]

/-! ### The vote and the injection (R161, R165) -/

theorem voteError_majority {s : State} (hrun : s.mode = .run) :
    voteError true s = raise 0x0A04 (irq OVL_PAGE 3 (s.incSat Reg.OVL_SELF_ERR 0 16)) := by
  simp only [voteError, hrun, if_true]

/-- The OVL_INJECT word with GO, of a cell of a configuration word of a frame. -/
def injectWord (far : BitVec 16) (word : BitVec 7) (cell : BitVec 5) : Word :=
  w32 (0x10000000 + cell.toNat * 2 ^ 23 + word.toNat * 2 ^ 16 + far.toNat)

theorem injectWord_fields (far : BitVec 16) (word : BitVec 7) (cell : BitVec 5) :
    bit (injectWord far word cell) 28 = true ∧ fld (injectWord far word cell) 0 16 = far.toNat
    ∧ fld (injectWord far word cell) 16 7 = word.toNat ∧ fld (injectWord far word cell) 23 5 = cell.toNat := by
  have hfar := far.isLt
  have hword := word.isLt
  have hcell := cell.isLt
  simp only [injectWord, bit, fld, w32, BitVec.toNat_ofNat, Nat.shiftRight_eq_div_pow, Nat.testBit_eq_decide_div_mod_eq, decide_eq_true_eq]
  omega

theorem injectUpset_flips {s : State} {g : Grant} (far : BitVec 16) (word : BitVec 7) (cell : BitVec 5) (hservice : s.mode = .service)
    (hgrant : grantNow s = some g) (hfull : g.full = true) (hframe : far.toNat % 512 < 480) :
    injectUpset (injectWord far word cell) s = setLatchFrame far.toNat
      (sget (fun _ => 0) s.fab.latch far.toNat ^^^ (1#4096 <<< (32 * word.toNat + cell.toNat))) s := by
  obtain ⟨hgo, hfar, hword, hcell⟩ := injectWord_fields far word cell
  simp only [injectUpset, hgo, hfar, hword, hcell, hservice, hgrant, hfull, hframe, Bool.true_or, and_self, if_true]

/-- A write of OVL_INJECT that nothing bars injects what its word asks for. -/
theorem regCmd_inject {a : Acc} {v : Word} {s u : State} (h : regFree a 0xA0A0 s = true) (hu : injectUpset v s = u) :
    regCmd a 0xA0A0 v s = regDone u :=
  regCmd_acts .ovl u h rfl (by decide) (congrArg (fun t => some (t, Rsp.okay)) hu)

/-! ### The statement -/

/-- Settles O22: each command of Overlock where its condition holds; a frame that agrees with its reference passes the comparison, so that the
engine only moves on. -/
theorem overlockComplete : Obligations.OverlockComplete := by
  refine ⟨fun s => ⟨?start, ?frame, ?release, ?overrun⟩, fun s => ⟨?pass, ?sound, ?vote, ?inject⟩⟩
  case start => exact fun b hruns hidle hdue => congrArg Host.Outcome.next (sweepStart_idle hruns hidle hdue)
  case frame =>
    intro b stuck hruns hon hopen hgood hsame hinside
    have hnext := sweepFrames_movesOn stuck none ⟨hruns, hon, rfl, rfl, hopen, hgood, hsame⟩ hinside
    refine ⟨_, next_settled hnext, ?_, ?_, ?_⟩ <;> simp only [sweepOf_setSweep, setSweep_frame, setLatchFrame_frame]
  case release => exact fun r t hheld hdue => next_settled (resetRelease_due hheld hdue)
  case overrun => exact fun b hon hfirst hlong => congrArg Host.Outcome.next (sweepOverrun_reports hon hfirst hlong)
  case pass => exact fun hot p v hv hidle hdue => congrArg Host.Outcome.next (refreshStart_due hv hidle hdue)
  case sound => exact fun p hpass hfree hvalid hinside => next_settled (refreshFrame_sound 0 false hpass hfree hvalid hinside)
  case vote => exact fun hrun => next_settled (voteError_majority hrun)
  case inject =>
    exact fun a far word cell g hfree hservice hgrant hfull hframe => congrArg Host.Outcome.next
      (regCmd_inject hfree (injectUpset_flips far word cell hservice hgrant hfull hframe))

end Sys2Proof.Machine
end

section
/-!
PROOFS of the statements on the cores (06_cores.md): the instruction at the pc (O23), loads, stores, atomics and the write buffer (O24), and
fences, WFI, CSR instructions, interrupts and the core pages (O25).
-/

namespace Sys2Proof.Machine

open Sys2Proof

/-! ### The registers of a core -/

theorem coreOf_of_cores {s t : State} (h : t.cores = s.cores) (c : Nat) : coreOf t c = coreOf s c :=
  congrArg (fun m => sget (fun _ => Core.reset) m c) h

@[simp] theorem coreOf_updCtx (c : Nat) (f : Ctx → Ctx) (s : State) :
    coreOf (updCtx c f s) c = { coreOf s c with ctx := f (coreOf s c).ctx } := coreOf_setCore _ _ _

@[simp] theorem coreOf_passInstr (c len : Nat) (s : State) :
    coreOf (passInstr c len s) c = { coreOf s c with
      ctx := { (coreOf s c).ctx with pc := (coreOf s c).ctx.pc + BitVec.ofNat 64 len }
      minstret := (coreOf s c).minstret + 1 } := coreOf_setCore _ _ _

/-- A register written reads back, but x0. -/
@[simp] theorem rx_wx (c r : Nat) (v : DWord) (s : State) : rx (wx c r v s) c r = if r = 0 then 0 else v := by
  unfold rx wx
  split
  · rfl
  · rw [coreOf_updCtx]
    exact sget_sset_self _ _ _ _

/-- A write of a register changes no other part of its core. -/
theorem coreOf_wx (c r : Nat) (v : DWord) (s : State) :
    ∃ x, coreOf (wx c r v s) c = { coreOf s c with ctx := { (coreOf s c).ctx with x := x } } := by
  unfold wx
  split
  · exact ⟨_, rfl⟩
  · exact ⟨_, coreOf_updCtx _ _ _⟩

/-- A register written: the parts of its core that stay. -/
@[simp] theorem wx_frame (c r : Nat) (v : DWord) (s : State) :
    (coreOf (wx c r v s) c).ctx.pc = (coreOf s c).ctx.pc ∧ (coreOf (wx c r v s) c).ctx.mscratch = (coreOf s c).ctx.mscratch
    ∧ (coreOf (wx c r v s) c).resv = (coreOf s c).resv := by
  obtain ⟨x, hcore⟩ := coreOf_wx c r v s
  rw [hcore]
  exact ⟨rfl, rfl, rfl⟩

/-! ### An instruction of a core that runs -/

theorem coreInstr_active {c : Fin 16} {s : State} (i : RvInstr) (short : Bool) (e : CoreEnv) (h : coreActive s c.val = true) :
    coreInstr c i short e s = settled (stepDone c.val (instrRun c.val i (instrLen short) 0 e s)) :=
  congrArg settled (onCore_active _ h)

/-- The same, where what the instruction does is known. -/
theorem coreInstr_does {c : Fin 16} {s u : State} {i : RvInstr} {short : Bool} {e : CoreEnv} (h : coreActive s c.val = true)
    (hu : instrRun c.val i (instrLen short) 0 e s = u) : coreInstr c i short e s = settled (stepDone c.val u) := by
  rw [coreInstr_active i short e h, hu]

theorem executeNext_fetched {c bits len : Nat} {e : CoreEnv} {s : State} (h : coreActive s c = true)
    (hfetch : (fetch c e s).2 = some (bits, len)) (hfree : trigHit s c 2 (coreOf s c).ctx.pc = none) :
    executeNext c e s
      = stepDone c (instrRun c (if len = 2 then decode16 bits else decode32 bits) len bits e (fetch c e s).1) := by
  simp only [executeNext, onCore_active _ h, hfree, hfetch]

theorem fetchCmd_fetched {c : Fin 16} {bits len : Nat} {e : CoreEnv} {s : State} (h : coreActive s c.val = true)
    (hfetch : (fetch c.val e s).2 = some (bits, len)) :
    fetchCmd c e s = stepDone c.val ((fetch c.val e s).1.answer .okay [w64 bits]) := by
  simp only [fetchCmd, onCore_active _ h, hfetch]

/-- Settles O23: an instruction of a core that runs is what its own meaning does; the one at the pc comes from the fetch. -/
theorem instructionsComplete : Obligations.InstructionsComplete := by
  intro core env s hactive
  refine ⟨fun bits len hfetch => ⟨fun hfree => ?execute, ?fetch⟩, fun x hcore henv => ?memory, fun kind double rd rs1 rs2 => ?atomic,
    fun kind imm rd src num => ?csr⟩
  case execute => exact next_settled (executeNext_fetched hactive hfetch hfree)
  case fetch => exact congrArg Host.Outcome.next (fetchCmd_fetched hactive hfetch)
  case memory =>
    subst hcore henv
    exact congrArg Host.Outcome.next (coreInstr_active _ _ _ hactive)
  case atomic => exact congrArg Host.Outcome.next (coreInstr_active _ false _ hactive)
  case csr => exact congrArg Host.Outcome.next (coreInstr_active _ false _ hactive)

/-! ### What an access of memory leaves of the cores -/

theorem fitResult_cores (cycles c u k code : Nat) (s : State) : (fitResult cycles c u k code s).cores = s.cores := by
  rw [fitResult]
  simp only [State.wrg64_frame]

theorem abortNoted_cores (x : FitRun) (f : Fit) (s : State) : (abortNoted x f s).cores = s.cores := by
  unfold abortNoted
  simp only [fitResult_cores, State.bump_frame]

theorem abortOne_cores (x : FitRun) (s : State) : (abortOne x s).cores = s.cores := by
  obtain ⟨f, h⟩ | ⟨f, y, h⟩ := abortOne_cases x s <;> rw [h]
  · exact abortNoted_cores x f s
  · simp only [State.incSat_frame, setFitUnit_frame, abortNoted_cores]

theorem abortSlices_cores (p : FitRun → Bool) (s : State) : (abortSlices p s).cores = s.cores :=
  List.foldlRecOn (motive := fun t : State => t.cores = s.cores) _ _ rfl fun t ht x _ => (abortOne_cores x t).trans ht

theorem memTouch_cores (a n : Nat) (s : State) : (memTouch a n s).cores = s.cores := by
  unfold memTouch fitSram dramTouch
  split
  · split
    · rfl
    · exact abortSlices_cores _ s
  · split <;> rfl

@[simp] theorem coreOf_memTouch (a n : Nat) (s : State) (c : Nat) : coreOf (memTouch a n s) c = coreOf s c :=
  coreOf_of_cores (memTouch_cores a n s) c

/-! ### Addresses of a core -/

/-- Only a core's own TCM has another address in the physical space (R17). -/
theorem physFor_above {a : Nat} (i : Initiator) (h : 0x10040000 ≤ a) : physFor i a = a := by
  cases i
  case core c => exact if_neg fun hin => Nat.not_lt.mpr h hin.2
  all_goals rfl

theorem physFor_sram {a : Nat} (i : Initiator) (h : inSram a = true) : physFor i a = a := by
  have hbounds := inSram_iff.mp h
  exact physFor_above i (by omega)

/-- Below the fabric window no address is one of a target port. -/
theorem window_above {a t : Nat} (h : zoneOf a = .window t) : 0x40000000 ≤ a := by
  refine Nat.le_of_not_lt fun hlow => ?_
  have hbelow : ¬ (0x40000000 ≤ a ∧ a < 0x50000000) := by omega
  simp only [zoneOf, hbelow, if_false] at h
  repeat' split at h
  all_goals cases h

theorem physFor_window {a t : Nat} (i : Initiator) (h : zoneOf a = .window t) : physFor i a = a := by
  have hlow := window_above h
  exact physFor_above i (by omega)

/-- With no store posted, a load sees what memory holds (R173). -/
theorem overlay_empty {s : State} {c : Nat} (a n v : Nat) (h : (coreOf s c).wbuf = []) : overlay s c a n v = v % 256 ^ n := by
  have hbyte : (fun x : Byte × Nat => bufferedByte s c (a + x.2) x.1) = Prod.fst := by
    funext x
    rw [bufferedByte, h, List.foldl_nil]
  rw [overlay, hbyte, List.zipIdx_map_fst, leNat_natLe]

/-- An empty write buffer has nothing to drain. -/
theorem drainAll_empty {s : State} {c : Nat} (h : (coreOf s c).wbuf = []) : drainAll c s = s := by
  rw [drainAll, h]
  rfl

/-- The initiator that a core is. -/
theorem ofNat_core (c : Fin 16) : Fin.ofNat 16 c.val = c := Fin.ofNat_val_eq_self c

/-! ### Loads and stores (R168, R173) -/

/-- An access that is aligned, meets no trigger and that PMP lets through is performed. -/
theorem memRun_free {c reg len : Nat} {op : MemOp} {a : DWord} (e : CoreEnv) {s : State} (hint : op.fp = false)
    (haligned : a.toNat % op.bytes = 0) (htrig : trigHit s c (b2n op.isStore) a = none)
    (hpmp : pmpOk s c (dataPrv s c) a.toNat op.bytes (b2n op.isStore) = true) :
    memRun c op reg len a e s
      = if op.isStore then storeRun c op len a.toNat (rx s c reg) e s else loadRun c op reg len a.toNat e s := by
  simp only [memRun, haligned, htrig, hpmp, hint, ne_eq, not_true_eq_false, Bool.not_true, Bool.false_eq_true, if_false]

theorem busGet_core_sram (c : Fin 16) (machine : Bool) {a : Nat} (n : Nat) {b : BeatEnv} {s : State} (h : inSram a = true)
    (hbad : s.ram.bad = []) (hecc : b.ecc = .none) :
    busGet (.core c) machine a n b s = (memTouch a n s, .okay, readLe s a n) := by
  have hserved : servedAt s (.core c) .sram false machine = true := rfl
  simp only [busGet, physFor_sram _ h, zoneOf_sram h, hserved, hecc, Bool.not_true, Bool.false_eq_true, if_false]
  exact memGet_sram _ n h hbad

theorem loadRun_sram {c : Fin 16} {op : MemOp} (rd len : Nat) {a : Nat} {e : CoreEnv} {s : State} (h : inSram a = true)
    (hbad : s.ram.bad = []) (hecc : e.dataEcc = .none) (hempty : (coreOf s c.val).wbuf = []) :
    loadRun c.val op rd len a e s = loadDone c.val op rd len (readLe s a op.bytes) (memTouch a op.bytes s) := by
  have hseen : overlay (memTouch a op.bytes s) c.val a op.bytes (readLe s a op.bytes) = readLe s a op.bytes := by
    rw [overlay_empty _ _ _ (by rw [coreOf_memTouch, hempty]), Nat.mod_eq_of_lt (readLe_lt _ _ _)]
  have hget := busGet_core_sram c (dataPrv s c.val == 3) op.bytes (b := ⟨e.lag, e.rivals, e.dataEcc⟩) h hbad hecc
  simp only [loadRun, ofNat_core, physFor_sram _ h, zoneOf_sram h, hget, hseen]

theorem loadRun_window {c : Fin 16} {op : MemOp} (rd len : Nat) {a t : Nat} (e : CoreEnv) (s : State) (h : zoneOf a = .window t) :
    loadRun c.val op rd len a e s = tportAccess c.val t a op rd len 0 (!e.rivals.isEmpty) s := by
  have hlisted : listed s (.core c) (.window t) true = true := rfl
  simp only [loadRun, ofNat_core, physFor_window _ h, h, hlisted, if_true]

theorem storeRun_window {c : Fin 16} {op : MemOp} (len : Nat) {a t : Nat} (v : DWord) (e : CoreEnv) {s : State} (h : zoneOf a = .window t)
    (hempty : (coreOf s c.val).wbuf = []) :
    storeRun c.val op len a v e s = tportAccess c.val t a op 0 len v (!e.rivals.isEmpty) s := by
  simp only [storeRun, physFor_window _ h, h, drainAll_empty hempty]

theorem storeRun_sram {c : Nat} {op : MemOp} (len : Nat) {a : Nat} (v : DWord) (e : CoreEnv) (s : State) (h : inSram a = true) :
    storeRun c op len a v e s = passInstr c len (postStore c a op.bytes v s) := by
  simp only [storeRun, physFor_sram _ h, zoneOf_sram h]

/-- The first store posted stands alone in the write buffer. -/
theorem postStore_empty {c : Nat} (a n : Nat) (v : DWord) {s : State} (hempty : (coreOf s c).wbuf = []) :
    postStore c a n v s = setCore c { coreOf s c with wbuf := [(a, n, v)] } s := by
  simp only [postStore, hempty, List.length_nil, Nat.zero_lt_succ, if_true, List.nil_append]

/-- A load of an integer register ends with the value in the register and the pc past it. -/
theorem loadDone_int {op : MemOp} (c rd len v : Nat) (s : State) (hint : op.fp = false) :
    loadDone c op rd len v s = wx c rd (loadValue op v) (passInstr c len s) := by
  simp only [loadDone, hint, Bool.false_eq_true, if_false]

/-- What a register takes of `n` bytes of memory, sign- or zero-extended. -/
theorem loadValue_readLe {op : MemOp} (s : State) (a : Nat) (hint : op.fp = false) :
    loadValue op (readLe s a op.bytes)
      = if op.signed then sext (8 * op.bytes) (readLe s a op.bytes) else w64 (readLe s a op.bytes) := by
  have hfits : readLe s a op.bytes % 2 ^ (8 * op.bytes) = readLe s a op.bytes := by
    rw [Nat.pow_mul]
    exact Nat.mod_eq_of_lt (readLe_lt s a op.bytes)
  simp only [loadValue, hint, hfits, Bool.false_eq_true, if_false]

/-- The operation of a load or store of the integer registers. -/
def intOp (x : LoadStore) : MemOp := ⟨x.isStore, 2 ^ x.size.val, x.signed, false⟩

/-- A load or store of the integer registers that nothing stops, by a core that runs and has posted no store. -/
structure FreeAccess (x : LoadStore) (s : State) : Prop where
  active : coreActive s x.core.val = true
  integer : x.fp = false
  aligned : loadStoreAddr x s % 2 ^ x.size.val = 0
  noTrigger : trigHit s x.core.val (b2n x.isStore) (BitVec.ofNat 64 (loadStoreAddr x s)) = none
  passes : pmpOk s x.core.val (dataPrv s x.core.val) (loadStoreAddr x s) (2 ^ x.size.val) (b2n x.isStore) = true
  empty : (coreOf s x.core.val).wbuf = []

theorem FreeAccess.runs {x : LoadStore} {s : State} (h : FreeAccess x s) :
    instrRun x.core.val (loadStoreInstr x) (instrLen x.short) 0 x.env s
      = if x.isStore then storeRun x.core.val (intOp x) (instrLen x.short) (loadStoreAddr x s) (rx s x.core.val x.reg.val) x.env s
        else loadRun x.core.val (intOp x) x.reg.val (instrLen x.short) (loadStoreAddr x s) x.env s := by
  have hinstr : instrRun x.core.val (loadStoreInstr x) (instrLen x.short) 0 x.env s
      = memRun x.core.val (intOp x) x.reg.val (instrLen x.short) (rx s x.core.val x.base.val + sext 12 x.offset.toNat) x.env s := by
    simp only [loadStoreInstr, instrRun, intOp, h.integer, Bool.false_eq_true, false_and, if_false]
  have htrig := h.noTrigger
  rw [loadStoreAddr, BitVec.ofNat_toNat, BitVec.setWidth_eq] at htrig
  exact hinstr.trans (memRun_free x.env rfl h.aligned htrig h.passes)

theorem FreeAccess.load {x : LoadStore} {s : State} (h : FreeAccess x s) (hload : x.isStore = false)
    (hsram : inSram (loadStoreAddr x s) = true) (hbad : s.ram.bad = []) (hecc : x.env.dataEcc = .none) :
    instrRun x.core.val (loadStoreInstr x) (instrLen x.short) 0 x.env s
      = wx x.core.val x.reg.val (loadValue (intOp x) (readLe s (loadStoreAddr x s) (intOp x).bytes))
          (passInstr x.core.val (instrLen x.short) (memTouch (loadStoreAddr x s) (2 ^ x.size.val) s)) := by
  rw [h.runs, hload, if_neg Bool.false_ne_true, loadRun_sram _ _ hsram hbad hecc h.empty]
  exact loadDone_int _ _ _ _ _ rfl

theorem FreeAccess.store {x : LoadStore} {s : State} (h : FreeAccess x s) (hstore : x.isStore = true)
    (hsram : inSram (loadStoreAddr x s) = true) :
    instrRun x.core.val (loadStoreInstr x) (instrLen x.short) 0 x.env s
      = passInstr x.core.val (instrLen x.short) (setCore x.core.val
          { coreOf s x.core.val with wbuf := [(loadStoreAddr x s, 2 ^ x.size.val, rx s x.core.val x.reg.val)] } s) := by
  rw [h.runs, if_pos hstore, storeRun_sram _ _ _ _ hsram, postStore_empty _ _ _ h.empty]
  rfl

theorem FreeAccess.window {x : LoadStore} {s : State} {t : Nat} (h : FreeAccess x s) (hport : zoneOf (loadStoreAddr x s) = .window t) :
    instrRun x.core.val (loadStoreInstr x) (instrLen x.short) 0 x.env s
      = tportAccess x.core.val t (loadStoreAddr x s) (intOp x) (if x.isStore then 0 else x.reg.val) (instrLen x.short)
          (if x.isStore then rx s x.core.val x.reg.val else 0) (!x.env.rivals.isEmpty) s := by
  rw [h.runs]
  by_cases hstore : x.isStore = true
  · simp only [if_pos hstore, storeRun_window _ _ _ hport h.empty]
  · simp only [if_neg hstore, loadRun_window _ _ _ _ hport]

theorem portInstr_window {x : LoadStore} {s : State} {t : Nat} (h : zoneOf (loadStoreAddr x s) = .window t) :
    portInstr x s = coreInstr x.core (loadStoreInstr x) x.short x.env s := by
  simp only [portInstr, h]

/-! ### Atomics (R174) -/

/-- An atomic access of shared SRAM that nothing stops, by a core that has posted no store. -/
structure FreeAtomic (c : Fin 16) (n a : Nat) (e : CoreEnv) (s : State) : Prop where
  empty : (coreOf s c.val).wbuf = []
  good : s.ram.bad = []
  noError : e.dataEcc = .none
  sram : inSram a = true
  aligned : a % n = 0
  reads : pmpOk s c.val (dataPrv s c.val) a n 0 = true
  writes : pmpOk s c.val (dataPrv s c.val) a n 1 = true

theorem FreeAtomic.served {c : Fin 16} {n a : Nat} {e : CoreEnv} {s : State} (h : FreeAtomic c n a e s) :
    atomicRefuses s c.val a = none := by
  simp only [atomicRefuses, physFor_sram _ h.sram, zoneOf_sram h.sram]

section
variable {c : Fin 16} {n rd len : Nat} {a v : DWord} {e : CoreEnv} {s : State} (op : AmoOp) (h : FreeAtomic c n a.toNat e s)
include h

theorem FreeAtomic.lr :
    atomicRun c.val 0 op n rd len a v e s
      = wx c.val rd (sext (8 * n) (readLe s a.toNat n)) (passInstr c.val len (setCore c.val
          { coreOf s c.val with resv := some (a.toNat / 64) } (memTouch a.toNat n s))) := by
  simp only [atomicRun, physFor_sram _ h.sram, zoneOf_sram h.sram, h.aligned, h.reads, h.served, h.noError, drainAll_empty h.empty,
    memGet_sram _ n h.sram h.good, coreOf_memTouch, ne_eq, not_true_eq_false, Bool.not_true, Bool.false_eq_true, if_true, if_false,
    Nat.reduceEqDiff, false_and, or_self]

theorem FreeAtomic.sc (hresv : (coreOf s c.val).resv = some (a.toNat / 64)) :
    atomicRun c.val 1 op n rd len a v e s
      = wx c.val rd 0 (passInstr c.val len (setCore c.val
          { coreOf (putBy (some c.val) a.toNat (natLe v.toNat n) s) c.val with resv := none }
          (putBy (some c.val) a.toNat (natLe v.toNat n) s))) := by
  simp only [atomicRun, ofNat_core, physFor_sram _ h.sram, zoneOf_sram h.sram, h.aligned, h.writes, h.served, hresv,
    drainAll_empty h.empty, memPut, ownCore, ne_eq, not_true_eq_false, Bool.not_true, Bool.false_eq_true, if_true, if_false,
    Nat.reduceEqDiff, false_and, or_self]

theorem FreeAtomic.amo :
    atomicRun c.val 2 op n rd len a v e s
      = wx c.val rd (sext (8 * n) (readLe s a.toNat n)) (passInstr c.val len (putBy (some c.val) a.toNat
          (natLe (amoRun op n (sext (8 * n) (readLe s a.toNat n)) (sext (8 * n) v.toNat)).toNat n) (memTouch a.toNat n s))) := by
  simp only [atomicRun, ofNat_core, physFor_sram _ h.sram, zoneOf_sram h.sram, h.aligned, h.reads, h.writes, h.served, h.noError,
    drainAll_empty h.empty, memGet_sram _ n h.sram h.good, memPut, ownCore, ne_eq, not_true_eq_false, Bool.not_true,
    Bool.false_eq_true, if_false, Nat.reduceEqDiff, and_false, or_self]

end

theorem exec_atomic {core : Fin 16} {kind : AtomicKind} {double : Bool} {rd rs1 rs2 : Fin 32} {env : CoreEnv} {s u : State} {n : Nat}
    {i : RvInstr} (hactive : coreActive s core.val = true) (hn : n = if double then 8 else 4)
    (hi : atomicInstr kind n rd.val rs1.val rs2.val = i) (hu : instrRun core.val i 4 0 env s = u) :
    exec (.atomicAccess core kind double rd rs1 rs2 env) s = .next (settled (stepDone core.val u)) := by
  subst hn hi
  exact congrArg Host.Outcome.next (coreInstr_does hactive hu)

/-- The posted store that waits longest is performed (R173). -/
theorem drainOne_oldest {c a n : Nat} {v : DWord} {l : List (Nat × Nat × DWord)} {s : State} (h : (coreOf s c).wbuf = (a, n, v) :: l) :
    drainOne c s = putBy (some c) a (natLe v.toNat n) (setCore c { coreOf s c with wbuf := l } s) := by
  simp only [drainOne, h]

/-- What an instruction does to registers leaves the numbers in memory. -/
theorem readLe_wx_passInstr (c rd len : Nat) (x : DWord) (s : State) (a n : Nat) :
    readLe (wx c rd x (passInstr c len s)) a n = readLe s a n :=
  readLe_of_mem (by rw [wx_mem, passInstr_mem]) a n

/-- Settles O24: each access is what its own path through `memRun` and `atomicRun` leaves where nothing stops it. -/
theorem loadsStoresAndAtomicsComplete : Obligations.LoadsStoresAndAtomicsComplete := by
  refine ⟨fun x s hactive hint haligned htrig hpmp hempty => ?memory,
    fun core rd rs1 rs2 double env s n a hn ha => ⟨fun hactive hempty hbad hecc hsram haligned hread hwrite => ?atomics, ?drain⟩⟩
  case memory =>
    have h : FreeAccess x s := ⟨hactive, hint, haligned, htrig, hpmp, hempty⟩
    refine ⟨fun hload hsram hbad hecc => ?load, fun hstore hsram => ?store, fun t hport => ?window⟩
    case load =>
      refine ⟨_, congrArg Host.Outcome.next (coreInstr_does hactive (h.load hload hsram hbad hecc)), ?_, ?_, ?_⟩
      · rw [rx_wx, loadValue_readLe s _ rfl]
        rfl
      · simp only [wx_frame, coreOf_passInstr, coreOf_memTouch]
      · show memOf _ = memOf s
        rw [wx_mem, passInstr_mem, memTouch_mem]
    case store =>
      refine ⟨_, congrArg Host.Outcome.next (coreInstr_does hactive (h.store hstore hsram)), ?_, ?_, rfl⟩
      · simp only [coreOf_passInstr, coreOf_setCore]
      · simp only [coreOf_passInstr, coreOf_setCore]
    case window =>
      exact congrArg Host.Outcome.next ((portInstr_window hport).trans (coreInstr_does hactive (h.window hport)))
  case atomics =>
    subst ha
    have h : FreeAtomic core n _ env s := ⟨hempty, hbad, hecc, hsram, haligned, hread, hwrite⟩
    have hpow : 256 ^ n = 2 ^ (8 * n) := by rw [Nat.pow_mul]
    refine ⟨?lr, fun hresv => ?sc, fun kind op hop => ?amo⟩
    case lr =>
      refine ⟨_, exec_atomic hactive hn rfl (h.lr .swap), rx_wx _ _ _ _, ?_⟩
      simp only [wx_frame, coreOf_passInstr, coreOf_setCore]
    case sc =>
      refine ⟨_, exec_atomic hactive hn rfl (h.sc .swap hresv), ?_, ?_, ?_⟩
      · rw [rx_wx, ite_self]
      · simp only [wx_frame, coreOf_passInstr, coreOf_setCore]
      · rw [readLe_wx_passInstr, readLe_of_mem (setCore_mem _ _ _), readLe_putBy, hpow]
    case amo =>
      refine ⟨_, exec_atomic hactive hn hop (h.amo op), rx_wx _ _ _ _, ?_⟩
      rw [readLe_wx_passInstr, readLe_putBy, hpow]
  case drain => exact fun a n v l hposted => congrArg Host.Outcome.next (drainOne_oldest hposted)

/-! ### WFI (R182) -/

/-- The pc and the counters say nothing of the interrupts pending. -/
theorem mipOf_passInstr (c len : Nat) (s : State) : mipOf (passInstr c len s) c = mipOf s c := by
  unfold mipOf
  rw [coreOf_passInstr]
  rfl

theorem wfiRun_halts {c : Nat} (len : Nat) {s : State} (h : mipOf s c &&& (coreOf s c).ctx.mie.toNat = 0) :
    wfiRun c len s = setCore c { coreOf (passInstr c len s) c with halted := true } (passInstr c len s) := by
  have hquiet : mipOf (passInstr c len s) c &&& (coreOf (passInstr c len s) c).ctx.mie.toNat = 0 := by
    rw [mipOf_passInstr, coreOf_passInstr]
    exact h
  simp only [wfiRun, hquiet, if_true]

theorem wfiEnds_halted {c : Nat} {s : State} (hhalted : (coreOf s c).halted = true)
    (hdue : mipOf s c &&& (coreOf s c).ctx.mie.toNat ≠ 0) : wfiEnds c s = setCore c { coreOf s c with halted := false } s :=
  if_pos ⟨hhalted, hdue⟩

theorem wfiEnds_awake {c : Nat} {s : State} (h : (coreOf s c).halted = false) : wfiEnds c s = s :=
  if_neg fun hboth => Bool.false_ne_true (h.symm.trans hboth.1)

/-! ### CSR instructions (R167) -/

/-- A write of mscratch from M-mode: the old value goes to the register. -/
theorem csrRun_mscratch {c : Nat} (rd src len bits : Nat) {s : State} (h : prvOf s c = 3) :
    csrRun c .rw false rd src 0x340 len bits s
      = wx c rd (coreOf s c).ctx.mscratch (updCtx c (fun x => { x with mscratch := rx s c src }) (passInstr c len s)) := by
  have hget : csrGet s c 0x340 = some (coreOf s c).ctx.mscratch := rfl
  have hallowed : ¬ ((256 ≤ 0x340 % 1024 ∧ prvOf s c ≠ 3) ∨ ((CsrOp.rw == .rw || src != 0) = true ∧ 0xC00 ≤ 0x340)) := by
    rw [h]
    omega
  unfold csrRun
  simp only [hget]
  rw [if_neg hallowed]
  rfl

/-! ### Interrupts (R177) -/

theorem takeIrq_taken {c n : Nat} {s : State} (hruns : coreRuns s c = true) (hdebug : s.lcs.halted.contains c = false)
    (hstore : inStore s c = false) (hchosen : (coreOf s c).chosen = none) (hwaiting : (coreOf s c).waiting = false)
    (hirq : irqTaken s c = some n) : takeIrq c s = trapTo c n true 0 s := by
  simp only [takeIrq, hruns, hdebug, hstore, hchosen, hwaiting, hirq, Bool.not_true, Option.isSome_none, Bool.or_self,
    Bool.false_eq_true, if_false]

/-- MTIP is a level: it stands while TIM_NOW has reached CORE_MTIMECMP. -/
theorem mipOf_mtip {s : State} {c : Nat} (h : s.rg64 (Reg.CORE_MTIMECMP c) ≤ s.now) : (mipOf s c).testBit 7 = true := by
  simp only [mipOf, h, decide_true]
  cases s.rb (Reg.CORE_MSIP c) 0 <;> cases meip s c <;> cases (coreOf s c).cancel <;> rfl

theorem mtimeMatch_due {s : State} {c : Nat} (h : s.rg64 (Reg.CORE_MTIMECMP c) ≤ s.now) : mtimeMatch c s = wfiEnds c s := if_pos h

/-! ### The page of a core (R172, R185, R186) -/

theorem pageOf_core {c : Nat} (h : c < 16) : pageOf (0x10 + c) = some .core := by
  have hcores : ∀ c : Fin 16, pageOf (0x10 + c.val) = some .core := by decide
  exact hcores ⟨c, h⟩

/-- A write of a block register of core `c` that acts. -/
theorem regCmd_core {a : Acc} {off c o : Nat} {v : Word} {s u : State} (h : regFree a off s = true) (hc : c < 16)
    (hoff : off = (0x10 + c) * 0x1000 + o) (hlow : 0x40 ≤ o) (hhigh : o < 0x1000) (hu : coreWrite c o v s = some (u, .okay)) :
    regCmd a off v s = regDone u := by
  subst hoff
  refine regCmd_acts .core u h ?_ ?_ ?_
  · rw [pageOff_div hhigh, pageOf_core hc]
  · rw [pageOff_mod hhigh]
    exact Nat.not_lt.mpr hlow
  · rw [pageOff_div hhigh, pageOff_mod hhigh, blockWrite, Nat.add_sub_cancel_left]
    exact hu

/-- CORE_RUN.START of a held core of a cluster that is on (R185). -/
theorem coreStart_held {c : Nat} {s : State} (hon : clusterOff s (c / 4) = false) (hheld : (coreOf (fitCore c s) c).started = false) :
    coreStart c s = setCore c { Core.reset with
        started := true, ctx := { Ctx.reset with pc := w64 ((fitCore c s).rg64 (Reg.CORE_BOOT_PC c) % 2 ^ 40) }
        pmp := (coreOf (fitCore c s) c).pmp, icache := (coreOf (fitCore c s) c).icache }
      ((fitCore c s).wb (Reg.CORE_RUN c) 0 true) := by
  simp only [coreStart, hon, hheld, Bool.false_eq_true, if_false]

theorem clusterOffSet_on {k : Nat} {s : State} (h : clusterOff s k = false) :
    clusterOffSet k s = clusterLost k (raise ((0x10 + 4 * k) * 0x100 + 3) (s.wb (Reg.CORE_CLUSTER_OFF (4 * k)) 0 true)) := by
  simp only [clusterOffSet, h, Bool.false_eq_true, if_false]

theorem coreWrite_run {c : Nat} {s u : State} (hu : coreStart c s = u) : coreWrite c 0x40 1 s = some (u, .okay) :=
  congrArg (fun t => some (t, Rsp.okay)) hu

theorem coreWrite_icinv (c : Nat) (s : State) : coreWrite c 0x94 1 s = some (icacheClear c s, .okay) := rfl

/-- CORE_CLUSTER_OFF stands on the page of a cluster's first core. -/
theorem coreWrite_clusterOff (k : Nat) (s : State) : coreWrite (4 * k) 0xA0 1 s = some (clusterOffSet k s, .okay) := by
  have hfirst : 4 * k % 4 = 0 ∧ bit 1 0 = true := ⟨Nat.mul_mod_right 4 k, rfl⟩
  have hwrite : coreWrite (4 * k) 0xA0 1 s = acts (if 4 * k % 4 = 0 ∧ bit 1 0 then clusterOffSet (4 * k / 4) s else s) := rfl
  rw [hwrite, if_pos hfirst, Nat.mul_div_cancel_left k (by decide)]
  rfl

/-- Settles O25: each instruction is its own meaning on a core that runs, an interrupt a trap to M-mode, and a write of a core's page what
the register does. -/
theorem coreControlAndPageComplete : Obligations.CoreControlAndPageComplete := by
  refine ⟨fun core s => ⟨fun pred succ env hactive => ?fence, fun env hactive => ?fenceI, fun env hactive hquiet => ?wfi,
    fun rd src env hactive hmachine => ?csr, fun n hruns hdebug hstore hchosen hwaiting hirq => ?irq, fun hdue => ?mtime⟩,
    fun a s => ⟨fun core hfree hon hheld => ?start, fun core hfree => ?icinv, fun k hfree hon => ?clusterOff⟩⟩
  case fence => exact congrArg Host.Outcome.next (coreInstr_active _ false env hactive)
  case fenceI => exact congrArg Host.Outcome.next (coreInstr_active _ false env hactive)
  case wfi =>
    refine ⟨_, congrArg Host.Outcome.next (coreInstr_does hactive (wfiRun_halts 4 hquiet)), ?_, ?_⟩
    · rw [coreOf_setCore]
    · rw [coreOf_setCore, coreOf_passInstr]
      rfl
  case csr =>
    refine ⟨_, congrArg Host.Outcome.next (coreInstr_does hactive (csrRun_mscratch rd.val src.val 4 0 hmachine)), rx_wx _ _ _ _, ?_⟩
    simp only [wx_frame, coreOf_updCtx]
  case irq =>
    refine ⟨_, congrArg Host.Outcome.next (takeIrq_taken hruns hdebug hstore hchosen hwaiting hirq), ?_⟩
    simp only [trapTo, coreOf_setCore, b2n, if_true, Nat.one_mul, and_self]
  case mtime =>
    refine ⟨mipOf_mtip hdue, fun hhalted henabled => ?_, fun hawake => ?_⟩
    · exact congrArg Host.Outcome.next ((mtimeMatch_due hdue).trans (wfiEnds_halted hhalted henabled))
    · exact congrArg Host.Outcome.next ((mtimeMatch_due hdue).trans (wfiEnds_awake hawake))
  case start =>
    refine ⟨_, congrArg Host.Outcome.next (regCmd_core hfree core.isLt (by omega) (by decide) (by decide)
      (coreWrite_run (coreStart_held hon hheld))), ?_⟩
    rw [coreOf_setCore]
    exact ⟨rfl, rfl, rfl⟩
  case icinv =>
    refine ⟨congrArg Host.Outcome.next (regCmd_core hfree core.isLt (by omega) (by decide) (by decide) (coreWrite_icinv core.val s)), ?_⟩
    rw [icacheClear, coreOf_setCore]
  case clusterOff =>
    have hset := coreWrite_clusterOff k.val s
    rw [clusterOffSet_on hon] at hset
    exact congrArg Host.Outcome.next (regCmd_core hfree (by omega) (by omega) (by decide) (by decide) hset)

end Sys2Proof.Machine
end

section
/-!
PROOFS of the statements on Bobbin (07_bobbin.md): the operations of the doorbell page (O26, O27), the thread commands (O28), and the rest of
Bobbin's register page, dispatch, timeouts, the event intake and overflow recovery (O29).
-/

namespace Sys2Proof.Machine

open Sys2Proof

/-! ### The doorbell of a core while Bobbin is open (R206) -/

/-- A doorbell store that nothing bars, where what its operation does is known. -/
theorem doorCmd_does {core : Fin 16} {off : Nat} {arg : DWord} {short : Bool} {env : CoreEnv} {s u : State}
    (h : doorFree core off env s = true) (hoff : off < 0x38) (hu : doorbell core.val off arg (doorStart core short s) = u) :
    doorCmd core off arg short env s = doorDone core u := by
  rw [doorCmd_free h hoff, hu]

theorem doorStart_thread (core : Fin 16) (short : Bool) (s : State) :
    (coreOf (doorStart core short s) core.val).thread = (coreOf s core.val).thread := by
  rw [doorStart, coreOf_setCore]

theorem doorStart_open {s : State} (core : Fin 16) (short : Bool) (h : bobClosed s = false) : bobClosed (doorStart core short s) = false := h

/-- The operation at each offset of the page. -/
theorem doorbell_open {s : State} (h : bobClosed s = false) (c : Nat) (arg : DWord) :
    doorbell c 0x00 arg s = readyDoor c arg s ∧ doorbell c 0x08 arg s = yieldDoor c arg.toNat s
    ∧ doorbell c 0x10 arg s = waitDoor c arg s ∧ doorbell c 0x18 arg s = delayDoor c arg s
    ∧ doorbell c 0x20 arg s = signalDoor c arg s ∧ doorbell c 0x28 arg s = stopDoor c arg.toNat false s
    ∧ doorbell c 0x30 arg s = stopDoor c arg.toNat true s := by
  have hclosed : ¬ (s.bob.flushing || s.bob.isSaved) = true := ne_true_of_eq_false h
  simp only [doorbell, if_neg hclosed]
  and_intros <;> rfl

/-! ### READY, YIELD, WAIT_TIMEOUT, SUSPEND and CANCEL (R208, R209, R211, R213) -/

theorem readyDoor_named {arg : DWord} (c : Nat) (s : State) (h : nfld arg.toNat 18 45 = 0) :
    readyDoor c arg s = complete c (deliver (nfld arg.toNat 0 18) (arg.toNat.testBit 63) 0 s).2.1
      (some (deliver (nfld arg.toNat 0 18) (arg.toNat.testBit 63) 0 s).2.2) 0
      (deliver (nfld arg.toNat 0 18) (arg.toNat.testBit 63) 0 s).1 :=
  if_neg fun hne => hne h

/-- YIELD of a core that runs no thread: the core joins. -/
theorem yieldDoor_joins {c : Nat} {s : State} (h : (coreOf s c).thread = none) :
    yieldDoor c 0 s = setCore c { coreOf s c with joined := true, waiting := true, idleTrap := false } s := by
  simp only [yieldDoor, h, ne_eq, not_true_eq_false, if_false]

theorem delayDoor_starts {c t : Nat} {arg : DWord} {s : State} (h : (coreOf s c).thread = some t) (hpos : arg.toNat ≠ 0)
    (hlt : arg.toNat < 2 ^ 32) : delayDoor c arg s = startWait c 4 arg.toNat arg s := by
  have hok : ¬ (arg.toNat = 0 ∨ 2 ^ 32 ≤ arg.toNat) := by omega
  simp only [delayDoor, h, if_neg hok]

/-- SUSPEND or CANCEL of another thread than the core's own: the core goes on, and the operation on the thread gives its result. -/
theorem stopDoor_other {c arg : Nat} {s : State} (isCancel : Bool) (harg : nfld arg 18 45 = 0) (hnamed : arg.testBit 63 = false)
    (hother : (coreOf s c).thread ≠ some (nfld arg 0 18)) :
    stopDoor c arg isCancel s
      = complete c (if isCancel then cancel (nfld arg 0 18) s else suspend (nfld arg 0 18) s).2
          (some (threadOf s (nfld arg 0 18)).st.code) 0 (if isCancel then cancel (nfld arg 0 18) s else suspend (nfld arg 0 18) s).1 := by
  simp only [stopDoor, stopTarget, hnamed, Bool.false_eq_true, if_false, harg, ne_eq, not_true_eq_false, hother, and_false, false_and]

/-- Settles O26: each store comes down to its operation at the doorbell, and the operation to what it does on the thread its argument names. -/
theorem threadDoorbellsComplete : Obligations.ThreadDoorbellsComplete := by
  intro core arg short env s
  have hopen {off : Nat} (h : doorFree core off env s = true) := doorbell_open (doorStart_open core short (doorFree_open h)) core.val
  have hthread := doorStart_thread core short s
  refine ⟨fun h harg => ?ready, fun h hnone => ?yield, fun t h hsome hpos hlt => ?delay, fun h harg hnamed hother => ?suspend,
    fun h harg hnamed hother => ?cancel⟩
  case ready =>
    obtain ⟨hready, -⟩ := hopen h arg
    exact congrArg Host.Outcome.next (doorCmd_does h (by decide) (hready.trans (readyDoor_named _ _ harg)))
  case yield =>
    obtain ⟨-, hyield, -⟩ := hopen h 0
    refine ⟨_, congrArg Host.Outcome.next (doorCmd_does h (by decide) (hyield.trans (yieldDoor_joins (hthread.trans hnone)))), ?_⟩
    rw [coreOf_setCore]
    exact ⟨rfl, rfl⟩
  case delay =>
    obtain ⟨-, -, -, hdelay, -⟩ := hopen h arg
    exact congrArg Host.Outcome.next (doorCmd_does h (by decide) (hdelay.trans (delayDoor_starts (hthread.trans hsome) hpos hlt)))
  case suspend =>
    obtain ⟨-, -, -, -, -, hsuspend, -⟩ := hopen h arg
    rw [← hthread] at hother
    exact congrArg Host.Outcome.next (doorCmd_does h (by decide) (hsuspend.trans (stopDoor_other false harg hnamed hother)))
  case cancel =>
    obtain ⟨-, -, -, -, -, -, hcancel⟩ := hopen h arg
    rw [← hthread] at hother
    exact congrArg Host.Outcome.next (doorCmd_does h (by decide) (hcancel.trans (stopDoor_other true harg hnamed hother)))

/-! ### Arguments with their KIND (R210, R212) -/

theorem kindArg_toNat {k : Nat} (hk : k < 4) (arg : BitVec 62) : (kindArg k arg).toNat = 2 ^ 62 * k + arg.toNat := by
  have harg := arg.isLt
  simp only [kindArg, w64, BitVec.toNat_ofNat]
  omega

theorem kindArg_kind {k : Nat} (hk : k < 4) (arg : BitVec 62) : nfld (kindArg k arg).toNat 62 2 = k := by
  have harg := arg.isLt
  rw [kindArg_toNat hk]
  simp only [nfld, Nat.shiftRight_eq_div_pow]
  omega

/-- KIND leaves every bit below it as it is. -/
theorem kindArg_testBit {k i : Nat} (hk : k < 4) (hi : i < 62) (arg : BitVec 62) :
    (kindArg k arg).toNat.testBit i = arg.toNat.testBit i := by
  rw [kindArg_toNat hk, Nat.testBit_two_pow_mul_add _ arg.isLt, if_pos hi]

theorem testBit_nfld (n lo len i : Nat) : (nfld n lo len).testBit i = (decide (i < len) && n.testBit (lo + i)) := by
  rw [nfld, Nat.testBit_mod_two_pow, Nat.testBit_shiftRight]

/-- KIND leaves every field below it as it is. -/
theorem kindArg_nfld {k lo len : Nat} (hk : k < 4) (hlen : lo + len ≤ 62) (arg : BitVec 62) :
    nfld (kindArg k arg).toNat lo len = nfld arg.toNat lo len := by
  refine Nat.eq_of_testBit_eq fun i => ?_
  rw [testBit_nfld, testBit_nfld]
  by_cases hi : i < len
  · rw [kindArg_testBit hk (by omega)]
  · rw [decide_eq_false hi, Bool.false_and, Bool.false_and]

/-- A field that is 0 has no part that is not. -/
theorem nfld_zero_of_le {n lo len lo' len' : Nat} (h : nfld n lo len = 0) (hlo : lo ≤ lo') (hlen : lo' + len' ≤ lo + len) :
    nfld n lo' len' = 0 := by
  refine Nat.eq_of_testBit_eq fun i => ?_
  have hbit := testBit_nfld n lo len (lo' - lo + i)
  rw [h, Nat.zero_testBit, show lo + (lo' - lo + i) = lo' + i by omega] at hbit
  rw [testBit_nfld, Nat.zero_testBit]
  by_cases hi : i < len'
  · rw [decide_eq_true (show lo' - lo + i < len by omega), Bool.true_and] at hbit
    rw [← hbit, Bool.and_false]
  · rw [decide_eq_false hi, Bool.false_and]

/-! ### WAIT_EVENT (R210, R214, R216) -/

/-- An argument of WAIT_EVENT is accepted by its mask: FLAGS waits have one, the others none. -/
theorem waitArgOk_kind {k : Nat} {arg : BitVec 62} (hk : k < 4) (hbit : arg.toNat.testBit 60 = false)
    (hmask : if k = 1 ∨ k = 2 then nfld arg.toNat 0 32 ≠ 0 else nfld arg.toNat 0 32 = 0) :
    waitArgOk (kindArg k arg).toNat = true := by
  simp only [waitArgOk, kindArg_kind hk, kindArg_testBit hk (show 60 < 62 by decide), kindArg_nfld hk (show 0 + 32 ≤ 62 by decide), hbit]
  by_cases hflags : k = 1 ∨ k = 2
  · rw [if_pos hflags] at hmask
    simpa [hflags] using hmask
  · rw [if_neg hflags] at hmask
    simpa [hflags] using hmask

section

variable {c t : Nat} {arg : BitVec 62} {s : State}
variable (hthread : (coreOf s c).thread = some t) (hbit : arg.toNat.testBit 60 = false)

include hthread hbit

/-- A wait of a thread with an argument that is accepted, by its KIND. -/
theorem waitDoor_kind {k : Nat} (hk : k < 4)
    (hmask : if k = 1 ∨ k = 2 then nfld arg.toNat 0 32 ≠ 0 else nfld arg.toNat 0 32 = 0) :
    waitDoor c (kindArg k arg) s =
      if k = 1 ∨ k = 2 then flagsWait c (nfld arg.toNat 48 12) (nfld arg.toNat 32 16) (kindArg k arg) s
      else if k = 3 then semTake c (nfld arg.toNat 48 12) (nfld arg.toNat 32 16) (kindArg k arg) s
      else if (threadOf s t).pend then
        complete c 0x02 (some (threadOf s t).st.code) 0 (setThread t { threadOf s t with pend := false } s)
      else startWait c 1 (nfld arg.toNat 32 16) (kindArg k arg) s := by
  simp only [waitDoor, hthread, waitArgOk_kind hk hbit hmask, kindArg_kind hk, kindArg_nfld hk (show 32 + 16 ≤ 62 by decide),
    kindArg_nfld hk (show 48 + 12 ≤ 62 by decide), Bool.not_true, Bool.false_eq_true, if_false]

theorem waitDoor_pending (hmask : nfld arg.toNat 0 32 = 0) (hpend : (threadOf s t).pend = true) :
    waitDoor c (kindArg 0 arg) s
      = complete c 0x02 (some (threadOf s t).st.code) 0 (setThread t { threadOf s t with pend := false } s) :=
  (waitDoor_kind (k := 0) hthread hbit (by decide) hmask).trans (if_pos hpend)

theorem waitDoor_waits (hmask : nfld arg.toNat 0 32 = 0) (hpend : (threadOf s t).pend = false) :
    waitDoor c (kindArg 0 arg) s = startWait c 1 (nfld arg.toNat 32 16) (kindArg 0 arg) s :=
  (waitDoor_kind (k := 0) hthread hbit (by decide) hmask).trans (if_neg (ne_true_of_eq_false hpend))

theorem waitDoor_flags {k : Nat} (hk : k = 1 ∨ k = 2) (hmask : nfld arg.toNat 0 32 ≠ 0) :
    waitDoor c (kindArg k arg) s = flagsWait c (nfld arg.toNat 48 12) (nfld arg.toNat 32 16) (kindArg k arg) s :=
  (waitDoor_kind hthread hbit (by omega) ((if_pos hk).mpr hmask)).trans (if_pos hk)

theorem waitDoor_sem (hmask : nfld arg.toNat 0 32 = 0) :
    waitDoor c (kindArg 3 arg) s = semTake c (nfld arg.toNat 48 12) (nfld arg.toNat 32 16) (kindArg 3 arg) s :=
  waitDoor_kind (k := 3) hthread hbit (by decide) hmask

end

/-! ### SIGNAL (R212, R214, R216) -/

/-- A signal that R212 allows, by its KIND. -/
theorem signalDoor_kind {k : Nat} {arg : BitVec 62} (c : Nat) (s : State) (hk : k < 3) (hreserved : nfld arg.toNat 60 2 = 0)
    (hgap : nfld arg.toNat 32 16 = 0) (hmask : k = 0 → nfld arg.toNat 0 32 = 0) :
    signalDoor c (kindArg k arg) s =
      if k = 0 then
        complete c (semPost (nfld arg.toNat 48 12) (coreOf s c).thread s).2 none 0 (semPost (nfld arg.toNat 48 12) (coreOf s c).thread s).1
      else if k = 1 then complete c 0x00 none 0 (flagsChange (nfld arg.toNat 48 12) (w32 (nfld arg.toNat 0 32)) 0 s)
      else complete c 0x00 none 0 (flagsChange (nfld arg.toNat 48 12) 0 (w32 (nfld arg.toNat 0 32)) s) := by
  have hk4 : k < 4 := by omega
  have hok : signalArgOk (kindArg k arg).toNat = true := by
    simp only [signalArgOk, kindArg_kind hk4, kindArg_nfld hk4 (show 60 + 2 ≤ 62 by decide), kindArg_nfld hk4 (show 32 + 16 ≤ 62 by decide),
      kindArg_nfld hk4 (show 0 + 32 ≤ 62 by decide), hreserved, hgap]
    by_cases hpost : k = 0
    · simp [hpost, hmask hpost]
    · simp [hpost, show k ≠ 3 by omega]
  simp only [signalDoor, hok, kindArg_kind hk4, kindArg_nfld hk4 (show 48 + 12 ≤ 62 by decide),
    kindArg_nfld hk4 (show 0 + 32 ≤ 62 by decide), Bool.not_true, Bool.false_eq_true, if_false]

/-- Settles O27: the argument with its KIND selects the wait or the signal, and keeps the fields that the operation reads. -/
theorem waitsAndSignalsComplete : Obligations.WaitsAndSignalsComplete := by
  intro core arg short env s t hrun
  have hopen {off : Nat} (h : doorFree core off env s = true) := doorbell_open (doorStart_open core short (doorFree_open h)) core.val
  have hthread := (doorStart_thread core short s).trans hrun
  have hwait {k : Nat} {u : State} (h : doorFree core 0x10 env s = true)
      (hu : waitDoor core.val (kindArg k arg) (doorStart core short s) = u) :
      (.next (doorCmd core 0x10 (kindArg k arg) short env s) : Host.Outcome State Fault Refusal) = .next (doorDone core u) := by
    obtain ⟨-, -, hdoor, -⟩ := hopen h (kindArg k arg)
    rw [doorCmd_does h (by decide) (hdoor.trans hu)]
  have hsignal {k : Nat} {u : State} (h : doorFree core 0x20 env s = true)
      (hu : signalDoor core.val (kindArg k arg) (doorStart core short s) = u) :
      (.next (doorCmd core 0x20 (kindArg k arg) short env s) : Host.Outcome State Fault Refusal) = .next (doorDone core u) := by
    obtain ⟨-, -, -, -, hdoor, -⟩ := hopen h (kindArg k arg)
    rw [doorCmd_does h (by decide) (hdoor.trans hu)]
  refine ⟨fun h hmask hbit hpend => ?pending, fun h hmask hbit hpend => ?waits, fun h hmask hbit => ?any, fun h hmask hbit => ?all,
    fun h hmask hbit => ?sem, fun h hlow hreserved => ?post, fun h hgap hreserved => ?flags⟩
  case pending => exact hwait h (waitDoor_pending hthread hbit hmask hpend)
  case waits => exact hwait h (waitDoor_waits hthread hbit hmask hpend)
  case any => exact hwait h (waitDoor_flags hthread hbit (.inl rfl) hmask)
  case all => exact hwait h (waitDoor_flags hthread hbit (.inr rfl) hmask)
  case sem => exact hwait h (waitDoor_sem hthread hbit hmask)
  case post =>
    have hpost := signalDoor_kind (k := 0) core.val (doorStart core short s) (by decide) hreserved
      (nfld_zero_of_le hlow (by decide) (by decide)) fun _ => nfld_zero_of_le hlow (by decide) (by decide)
    rw [hthread] at hpost
    exact hsignal h hpost
  case flags =>
    exact ⟨hsignal h (signalDoor_kind (k := 1) _ _ (by decide) hreserved hgap (fun hk => absurd hk (by decide))),
      hsignal h (signalDoor_kind (k := 2) _ _ (by decide) hreserved hgap (fun hk => absurd hk (by decide)))⟩

/-! ### A command at Bobbin's register page (R221, R228) -/

/-- A request of Bobbin's page that nothing else meets: Bobbin works and is open, and no other operation stands in its cycle. -/
structure PageOpen (a : Acc) (s : State) : Prop where
  runs : bobRuns s = true
  isOpen : bobClosed s = false
  alone : a.env.bob = []

/-- A request that is one operation, alone in its cycle, leaves what the operation left. -/
theorem bobStep_one {r : BobReq} {o : BobOp} {s : State} (hr : r ≠ .intake) (h : opsOf s r = [o]) :
    bobStep r [] s = bobDone (o.run s) := congrArg fitReady (bobCycle_one r s o hr h)

section

variable {a : Acc} {s : State} (v : Word) (hpage : PageOpen a s)

include hpage

/-- A write of Bobbin's page that stands for a request of one operation. -/
theorem regCmd_request {off : Nat} {r : BobReq} {o : BobOp} (h : regFree a off s = true) (hbob : pageOf (off / 0x1000) = some .bob)
    (hlow : ¬ off % 0x1000 < 0x40) (hwrite : bobWrite (off % 0x1000) v a.env s = some (bobStep r a.env.bob s, .okay)) (hr : r ≠ .intake)
    (hops : opsOf s r = [o]) : regCmd a off v s = regDone (bobDone (o.run s)) := by
  rw [hpage.alone, bobStep_one hr hops] at hwrite
  exact regCmd_acts .bob _ h hbob hlow hwrite

theorem regCmd_tcmd (h : regFree a 0x20044 s = true) (hidle : bobBusy s = false) :
    regCmd a 0x20044 v s = regDone (bobDone (threadCmd v a.env.ecc s)) := by
  have hops : opsOf s (.tcmd v a.env.ecc) = [⟨16, fun _ => [onThread (fld v 0 18)], threadCmd v a.env.ecc⟩] := by
    simp only [opsOf, hpage.runs, hpage.isOpen, hidle, Bool.not_false, Bool.and_self, if_true]
  have hwrite : bobWrite 0x44 v a.env s = some (bobStep (.tcmd v a.env.ecc) a.env.bob s, .okay) := by
    simp only [bobWrite, unless', hpage.isOpen, hidle, Bool.or_self, Bool.false_eq_true, if_false]
    rfl
  exact (regCmd_request v hpage h rfl (by decide) hwrite BobReq.noConfusion hops :)

theorem regCmd_makeReady (h : regFree a 0x20060 s = true) :
    regCmd a 0x20060 v s = regDone (bobDone (opResult (fld v 0 18) 1 (deliver (fld v 0 18) (bit v 31) 0 s).2.2
      (deliver (fld v 0 18) (bit v 31) 0 s).2.1 (deliver (fld v 0 18) (bit v 31) 0 s).1)) := by
  have hops : opsOf s (.makeReady v) = [⟨16, fun _ => [onThread (fld v 0 18)], fun s =>
      opResult (fld v 0 18) 1 (deliver (fld v 0 18) (bit v 31) 0 s).2.2 (deliver (fld v 0 18) (bit v 31) 0 s).2.1
        (deliver (fld v 0 18) (bit v 31) 0 s).1⟩] := by
    simp only [opsOf, hpage.runs, hpage.isOpen, Bool.not_false, Bool.and_self, if_true]
  have hwrite : bobWrite 0x60 v a.env s = some (bobStep (.makeReady v) a.env.bob s, .okay) := by
    simp only [bobWrite, unless', hpage.isOpen, Bool.false_eq_true, if_false]
    rfl
  exact (regCmd_request v hpage h rfl (by decide) hwrite BobReq.noConfusion hops :)

theorem regCmd_cancel (h : regFree a 0x20064 s = true) :
    regCmd a 0x20064 v s = regDone (bobDone (opResult (fld v 0 18) 2 (threadOf s (fld v 0 18)).st.code
      (cancel (fld v 0 18) s).2 (cancel (fld v 0 18) s).1)) := by
  have hops : opsOf s (.cancel v) = [⟨16, fun s => cancelObjs s (fld v 0 18), fun s =>
      opResult (fld v 0 18) 2 (threadOf s (fld v 0 18)).st.code (cancel (fld v 0 18) s).2 (cancel (fld v 0 18) s).1⟩] := by
    simp only [opsOf, hpage.runs, hpage.isOpen, Bool.not_false, Bool.and_self, if_true]
  have hwrite : bobWrite 0x64 v a.env s = some (bobStep (.cancel v) a.env.bob s, .okay) := by
    simp only [bobWrite, unless', hpage.isOpen, Bool.false_eq_true, if_false]
    rfl
  exact (regCmd_request v hpage h rfl (by decide) hwrite BobReq.noConfusion hops :)

theorem regCmd_objCmd (h : regFree a 0x200A0 s = true) (hidle : bobBusy s = false) :
    regCmd a 0x200A0 v s = regDone (bobDone (objCmd v s)) := by
  have hops : opsOf s (.objCmd v) = [⟨16, objCmdObjs v, objCmd v⟩] := by
    simp only [opsOf, hpage.runs, hpage.isOpen, hidle, Bool.not_false, Bool.and_self, if_true]
  have hwrite : bobWrite 0xA0 v a.env s = some (bobStep (.objCmd v) a.env.bob s, .okay) := by
    simp only [bobWrite, unless', hpage.isOpen, hidle, Bool.or_self, Bool.false_eq_true, if_false]
    rfl
  exact (regCmd_request v hpage h rfl (by decide) hwrite BobReq.noConfusion hops :)

end

/-! ### The thread commands (R192, R193, R204, R221) -/

theorem tcmdWord_op {op : Nat} (t : BitVec 18) (h : op < 16) : fld (w32 (op * 2 ^ 28 + t.toNat)) 28 4 = op := by
  have ht := t.isLt
  simp only [fld, w32, BitVec.toNat_ofNat, Nat.shiftRight_eq_div_pow]
  omega

/-- The thread in the low bits of a command word. -/
theorem commandWord_thread {n : Nat} (m : Nat) (t : BitVec 18) (h : n = m * 2 ^ 18 + t.toNat) : fld (w32 n) 0 18 = t.toNat := by
  have ht := t.isLt
  simp only [h, fld, w32, BitVec.toNat_ofNat, Nat.shiftRight_eq_div_pow]
  omega

/-- What the command of number `op` does on its thread, and its result code. -/
def threadOp (op t arg : Nat) (e : Ecc) (s : State) : State × Nat :=
  if op = 1 then initThread t arg e s
  else if op = 2 then freeThread t s
  else if op = 3 then readThread t arg s
  else if op = 4 then setPrio t arg s
  else if op = 5 then setAffinity t arg s
  else if op = 6 then setPin' t arg s
  else (s, 0x0B)

/-- A command that ran: its result and the thread's state before it wait to be published. -/
def ranWith (prior : Nat) (r : State × Nat) : State := { r.1 with bob := { r.1.bob with cmd := some (r.2, prior) } }

@[simp] theorem ranWith_mem (prior : Nat) (r : State × Nat) : memOf (ranWith prior r) = memOf r.1 := rfl

@[simp] theorem threadOf_ranWith (prior : Nat) (r : State × Nat) (t : Nat) : threadOf (ranWith prior r) t = threadOf r.1 t := rfl

theorem threadCmd_word {op : Nat} (t : BitVec 18) (e : Ecc) (s : State) (hpos : op ≠ 0) (hop : op < 16) :
    threadCmd (w32 (op * 2 ^ 28 + t.toNat)) e s
      = ranWith (threadOf s t.toNat).st.code (threadOp op t.toNat (s.rg64 Reg.BOB_TARG) e s) := by
  have hthread := commandWord_thread (n := op * 2 ^ 28 + t.toNat) (op * 2 ^ 10) t (by omega)
  simp only [threadCmd, tcmdWord_op t hop, hthread, if_neg hpos]
  rfl

theorem setPrio_sets {t arg : Nat} {s : State} (harg : arg < 256) (hused : (threadOf s t).st ≠ .unused) :
    setPrio t arg s = (reinherit t (setThread t { threadOf s t with base := arg } s), 0x00) := by
  simp only [setPrio, if_neg (Nat.not_le.mpr harg), if_neg hused]

/-- SET_AFFINITY of a thread that no core has chosen. -/
theorem setAffinity_unchosen {t arg : Nat} {s : State} (hpos : arg ≠ 0) (harg : arg < 65536) (hused : (threadOf s t).st ≠ .unused)
    (hfree : ∀ c < 16, (coreOf s c).chosen ≠ some t) :
    setAffinity t arg s = (setThread t { threadOf s t with aff := arg } s, 0x00) := by
  have hok : ¬ (arg = 0 ∨ 65536 ≤ arg) := by omega
  have hout : ¬ ((List.range 16).any fun c => (coreOf (setThread t { threadOf s t with aff := arg } s) c).chosen == some t
      && !arg.testBit c) = true := by
    rw [List.any_eq_true]
    rintro ⟨c, hc, hchosen⟩
    rw [Bool.and_eq_true, beq_iff_eq] at hchosen
    exact hfree c (List.mem_range.mp hc) hchosen.1
  simp only [setAffinity, if_neg hok, if_neg hused, if_neg hout]

theorem setPin_clears {t : Nat} {s : State} (hused : (threadOf s t).st ≠ .unused) :
    setPin' t 0 s = (setThread t { threadOf s t with pinned := false } s, 0x00) := by
  simp only [setPin', if_neg hused]
  rfl

/-- Settles O28: the command's word selects the operation, and what the operation does on its thread is its own equation. -/
theorem threadCommandsComplete : Obligations.ThreadCommandsComplete := by
  intro a thread s hfree hruns hopen hidle halone
  have hcmd {op : Nat} {r : State × Nat} (hpos : op ≠ 0) (hop : op < 16)
      (hr : threadOp op thread.toNat (s.rg64 Reg.BOB_TARG) a.env.ecc s = r) :
      (.next (regCmd a 0x20044 (w32 (op * 2 ^ 28 + thread.toNat)) s) : Host.Outcome State Fault Refusal)
        = .next (regDone (bobDone (ranWith (threadOf s thread.toNat).st.code r))) := by
    rw [regCmd_tcmd _ ⟨hruns, hopen, halone⟩ hfree hidle, threadCmd_word thread _ s hpos hop, hr]
  refine ⟨⟨_, hcmd (op := 1) (by decide) (by decide) rfl, rfl⟩, ⟨_, hcmd (op := 2) (by decide) (by decide) rfl, rfl⟩,
    ⟨_, hcmd (op := 3) (by decide) (by decide) rfl, rfl⟩, fun harg hused => ?prio, fun hpos harg hused hchosen => ?affinity,
    fun harg hused => ?pin⟩
  case prio =>
    refine ⟨_, hcmd (op := 4) (by decide) (by decide) (setPrio_sets harg hused), rfl, ?_⟩
    simp only [mem_memOf, ranWith_mem, reinherit_mem, setThread_mem]
  case affinity =>
    refine ⟨_, hcmd (op := 5) (by decide) (by decide) (setAffinity_unchosen hpos harg hused hchosen), rfl, ?_⟩
    simp only [threadOf_ranWith, threadOf_setThread]
  case pin =>
    rw [harg] at hcmd
    refine ⟨_, hcmd (op := 6) (by decide) (by decide) (setPin_clears hused), rfl, ?_⟩
    simp only [threadOf_ranWith, threadOf_setThread]

/-! ### The results and objects of Bobbin's page (R197, R213, R221) -/

theorem cmdDone_publishes {code prior : Nat} {s : State} (h : s.bob.cmd = some (code, prior)) :
    cmdDone s = irq BOB_PAGE 0 { ((s.wf Reg.BOB_TRES 0 8 code).wf Reg.BOB_TRES 16 4 prior) with bob := { s.bob with cmd := none } } := by
  simp only [cmdDone, h, State.wf_frame]

theorem readyWord_resume (resume : Bool) (t : BitVec 18) : bit (w32 (b2n resume * 2 ^ 31 + t.toNat)) 31 = resume := by
  have ht := t.isLt
  simp only [bit, w32, BitVec.toNat_ofNat, Nat.testBit_eq_decide_div_mod_eq]
  cases resume <;> simp only [b2n, Bool.false_eq_true, if_false, if_true, decide_eq_true_eq, decide_eq_false_iff_not] <;> omega

/-- The fields of a semaphore's command word: OP, the object, and bit 31 clear. -/
theorem semWord_fields {op : Nat} (id : BitVec 12) (hop : op < 16) :
    fld (w32 (b2n false * 2 ^ 31 + op * 2 ^ 24 + id.toNat)) 24 4 = op ∧ fld (w32 (b2n false * 2 ^ 31 + op * 2 ^ 24 + id.toNat)) 0 12 = id.toNat
    ∧ bit (w32 (b2n false * 2 ^ 31 + op * 2 ^ 24 + id.toNat)) 31 = false := by
  have hid := id.isLt
  simp only [fld, bit, b2n, w32, BitVec.toNat_ofNat, Nat.shiftRight_eq_div_pow, Nat.testBit_eq_decide_div_mod_eq, Bool.false_eq_true,
    if_false, decide_eq_false_iff_not]
  omega

theorem objCmd_readSem (id : BitVec 12) (s : State) :
    objCmd (w32 (b2n false * 2 ^ 31 + 1 * 2 ^ 24 + id.toNat)) s
      = ranWith 0 (s.wrg64 Reg.BOB_OBJ_DATA (semData (semOf s id.toNat)), 0x00) := by
  obtain ⟨hop, hid, hsem⟩ := semWord_fields id (show 1 < 16 by decide)
  simp only [objCmd, hop, hid, hsem, Nat.one_ne_zero, Bool.false_eq_true, if_false, if_true]
  rfl

/-- WRITE of a semaphore that no thread waits on or owns; a mutex takes no count above 1. -/
theorem objCmd_writeSem {id : BitVec 12} {s : State} (hqueue : (semOf s id.toNat).queue = []) (howner : (semOf s id.toNat).owner = none)
    (hcount : (s.rg64 Reg.BOB_OBJ_DATA).testBit 16 = true → nfld (s.rg64 Reg.BOB_OBJ_DATA) 0 16 ≤ 1) :
    objCmd (w32 (b2n false * 2 ^ 31 + 2 * 2 ^ 24 + id.toNat)) s
      = ranWith 0 (setSem id.toNat { semOf s id.toNat with
          count := nfld (s.rg64 Reg.BOB_OBJ_DATA) 0 16, mutex := (s.rg64 Reg.BOB_OBJ_DATA).testBit 16 } s, 0x00) := by
  obtain ⟨hop, hid, hsem⟩ := semWord_fields id (show 2 < 16 by decide)
  have hidle : ¬ (!(semOf s id.toNat).queue.isEmpty || (semOf s id.toNat).owner.isSome) = true := by
    rw [hqueue, howner]
    decide
  have hfits : ¬ ((s.rg64 Reg.BOB_OBJ_DATA).testBit 16 && decide (1 < nfld (s.rg64 Reg.BOB_OBJ_DATA) 0 16)) = true := by
    rw [Bool.and_eq_true, decide_eq_true_eq]
    exact fun hboth => absurd hboth.2 (Nat.not_lt.mpr (hcount hboth.1))
  have hwrite : ¬ 2 = 0 ∧ ¬ 2 = 1 := by decide
  simp only [objCmd, hop, hid, hsem, if_neg hidle, if_neg hfits, hwrite, Bool.false_eq_true, if_false, if_true]
  rfl

/-- A cycle without a request does nothing. -/
theorem bobCycle_nil (s : State) : bobCycle [] s = s := rfl

theorem bindWrite_keeps {v : Word} {s : State} (hsource : sourceAssigned (s.rf Reg.BOB_BIND_SEL 0 13) = true)
    (hok : bindOk (v.toNat * 2 ^ 32 + s.bob.bindLow.toNat) = true) :
    bindWrite v s = ({ s with bob := { s.bob with
      bindings := sset (fun _ => 0) s.bob.bindings (s.rf Reg.BOB_BIND_SEL 0 13) (w64 (v.toNat * 2 ^ 32 + s.bob.bindLow.toNat))
      bindFor := none } }, true) := by
  simp only [bindWrite, hsource, hok, Bool.not_true, Bool.false_eq_true, if_false, if_true]

theorem regCmd_bind {a : Acc} {v : Word} {s u : State} (h : regFree a 0x200CC s = true) (hopen : bobClosed s = false)
    (halone : a.env.bob = []) (hu : bindWrite v (fitReady s) = (u, true)) : regCmd a 0x200CC v s = regDone u := by
  have hwrite : bobWrite 0xCC v a.env s
      = some (if bobClosed s then (s, .access) else okIf (bindWrite v (fitReady (bobCycle a.env.bob s)))) := rfl
  rw [hopen, halone, bobCycle_nil, hu] at hwrite
  exact regCmd_acts .bob u h rfl (by decide) hwrite

/-! ### Dispatch and the quantum (R200 to R202) -/

theorem threadOf_of_bob {s t : State} (h : t.bob = s.bob) (n : Nat) : threadOf t n = threadOf s n :=
  congrArg (fun b : Bob => sget (fun _ => Thread.reset) b.threads n) h

/-- The watchdog and the latency record of a dispatch change no core and no thread. -/
theorem noteLatency_restarted_frame (c since : Nat) (s : State) :
    (noteLatency since (if wdgEn s c then wdgRestart c s else s)).cores = s.cores
    ∧ (noteLatency since (if wdgEn s c then wdgRestart c s else s)).bob = s.bob := by
  simp only [noteLatency, State.wf_frame, State.bump_frame]
  split
  · simp only [wdgRestart, setWdg_frame, and_self]
  · exact ⟨rfl, rfl⟩

/-- The thread chosen for a core, with no error in its context, is restored: what the core and the thread's record become. -/
theorem restoreThread_sound {c t : Nat} {s : State} (hchosen : (coreOf s c).chosen = some t) (hsound : (threadOf s t).damaged = false) :
    ∃ k x u, restoreThread c .none s = noteLatency (threadOf s t).readyAt (if wdgEn u c then wdgRestart c u else u)
      ∧ u = setThread t x (setCore c k s).bump ∧ k.thread = some t ∧ k.chosen = none ∧ x.onCore = true ∧ x.lastCore = c := by
  have hnone : ¬ (false || Ecc.none == Ecc.double) = true := by decide
  simp only [restoreThread, hchosen, hsound, if_neg hnone]
  exact ⟨_, _, _, rfl, rfl, rfl, rfl, rfl, rfl⟩

theorem restoreThread_restores {c t : Nat} {s : State} (hchosen : (coreOf s c).chosen = some t) (hsound : (threadOf s t).damaged = false) :
    (coreOf (restoreThread c .none s) c).thread = some t ∧ (coreOf (restoreThread c .none s) c).chosen = none
    ∧ (threadOf (restoreThread c .none s) t).onCore = true ∧ (threadOf (restoreThread c .none s) t).lastCore = c := by
  obtain ⟨k, x, u, hrestore, hu, hruns, htaken, honCore, hcore⟩ := restoreThread_sound hchosen hsound
  obtain ⟨hcores, hbob⟩ := noteLatency_restarted_frame c (threadOf s t).readyAt u
  have hplaced : u.cores = (setCore c k s).cores := by simp only [hu, setThread_frame, State.bump_frame]
  have hk : coreOf u c = k := (coreOf_of_cores hplaced c).trans (coreOf_setCore c k s)
  have hx : threadOf u t = x := by rw [hu, threadOf_setThread]
  rw [hrestore, coreOf_of_cores hcores, threadOf_of_bob hbob, hk, hx]
  exact ⟨hruns, htaken, honCore, hcore⟩

/-- A thread on a core that is not RUNNING is removed at its dispatch point. -/
theorem dispatchPoint_removes {c t : Nat} {e : Ecc} {s : State} (hthread : (coreOf s c).thread = some t)
    (hpoint : atDispatchPoint s c = true) (hstopped : (threadOf s t).st ≠ .running) :
    dispatchPoint c e s = restoreThread c e (settle (leaveCore c s)) := by
  have hremoved : removed s c = true := by
    simp only [removed, runsOn, hthread, beq_eq_false_iff_ne.mpr hstopped, Bool.and_false, Bool.not_false, Option.isSome_some, Bool.and_self]
  simp only [dispatchPoint, hthread, hpoint, hremoved, Bool.not_true, Bool.false_eq_true, if_false, if_true]

theorem quantumExpiry_due {c t : Nat} {s : State} (hthread : (coreOf s c).thread = some t)
    (hdue : s.rf Reg.BOB_CFG 16 16 ≠ 0 ∧ s.rf Reg.BOB_CFG 8 8 ≤ (threadOf s t).eff
      ∧ (threadOf s t).lastDispatch + s.rf Reg.BOB_CFG 16 16 * 1000 ≤ s.now) :
    quantumExpiry c s = setCore c { coreOf s c with quantum := true } s := by
  simp only [quantumExpiry, hthread, if_pos hdue]

/-! ### Timeouts, the event intake and overflow recovery (R218, R224, R240) -/

theorem timeoutEnds_due {t slot d : Nat} {s : State} (htimer : (threadOf s t).timer = some (slot, d)) (hwaiting : (threadOf s t).st = .waiting)
    (hdue : d ≤ s.now) :
    timeoutEnds t s = wake t (resWord 0x03 (some 3)
      (if (threadOf s t).reason = 2 then (grpOf s (waitObj (threadOf s t))).val.toNat else 0) s) 0 s := by
  simp only [timeoutEnds, htimer, if_pos (And.intro hwaiting hdue)]

theorem opsOf_timeout {s : State} (t : Nat) (hruns : bobRuns s = true) :
    opsOf s (.timeout t) = [⟨21, fun _ => [⟨(0, t), 3⟩], timeoutEnds t⟩] := if_pos hruns

/-- One pending source is served, wherever the intake's base stands. -/
theorem served_one {n : Nat} {s : State} (h : s.bob.latches = [n]) : served s = [n] := by
  by_cases hbase : s.bob.ibase ≤ n
  · simp [served, h, hbase]
  · simp [served, h, hbase, Nat.lt_of_not_le hbase]

theorem intakeTaken_one {n : Nat} {s : State} (hruns : bobRuns s = true) (hopen : bobClosed s = false) (h : s.bob.latches = [n]) :
    intakeTaken s = { s with bob := { s.bob with latches := [] } } := by
  simp [intakeTaken, hruns, hopen, served_one h, h]

/-- The intake with one pending source is one operation, on the state whose latch is cleared. -/
theorem bobStep_intakeOne {n : Nat} {s : State} (hruns : bobRuns s = true) (hopen : bobClosed s = false) (h : s.bob.latches = [n]) :
    bobStep .intake [] s = bobDone (eventAct (bindingOf s n) { s with bob := { s.bob with latches := [] } }) := by
  obtain ⟨m, hm, hsame⟩ := applyOps_one s.bob.abase ⟨17, eventObjs (bindingOf s n), eventAct (bindingOf s n)⟩
    { s with bob := { s.bob with latches := [] } }
  have hops : opsOf s .intake = [⟨17, eventObjs (bindingOf s n), eventAct (bindingOf s n)⟩] := by
    simp [opsOf, hruns, hopen, served_one h]
  have hone : oneEach [.intake] = [.intake] := rfl
  have hcycle : bobCycle [.intake] s = noteContest m (settle (eventAct (bindingOf s n) { s with bob := { s.bob with latches := [] } })) := by
    have hintake : ([BobReq.intake].any fun r => r == .intake) = true := rfl
    simp only [bobCycle, hone, List.flatMap_cons, List.flatMap_nil, List.append_nil, hops, List.foldl_cons, List.foldl_nil, insOp, hintake,
      if_true, intakeTaken_one hruns hopen h, List.length_cons, List.length_nil, Nat.zero_add, hm]
  rw [bobStep, hcycle, noteContest_same 17 m _ hsame]
  rfl

/-- The first thread in ascending ID is recovered where none stands behind the last one recovered. -/
theorem recoverNext_wraps {t : Nat} {l : List Nat} {s : State} (hlist : overflowed s = t :: l)
    (hnone : (overflowed s).filter (s.bob.lastRec < ·) = []) (hroom : 64 ≤ freeBlocks s) : recoverNext s = some t := by
  simp only [recoverNext, if_neg (Nat.not_lt.mpr hroom), hnone]
  rw [hlist]
  rfl

theorem recoverOne_next {t : Nat} {s : State} (h : recoverNext s = some t) :
    recoverOne s = prefetch t (noteCleared (threadOf s t) (becomeReady t 3 { s with bob := { s.bob with lastRec := t } }).1) := by
  simp only [recoverOne, h]

theorem opsOf_recovery {s : State} (hruns : bobRuns s = true) (hopen : bobClosed s = false) :
    opsOf s .recovery = [⟨22, fun s => ((recoverNext s).map onThread).toList, recoverOne⟩] := by
  simp only [opsOf, hruns, hopen, Bool.not_false, Bool.and_self, if_true]

/-- Settles O29: each command of the page comes down to its request, each request alone in its cycle to its operation, and the rest of
dispatch to its own equations. -/
theorem bobbinPageAndDispatchComplete : Obligations.BobbinPageAndDispatchComplete := by
  refine ⟨fun a s => ⟨fun code prior hcmd => ?done, fun thread resume hfree hruns hopen halone => ?ready,
    fun thread hfree hruns hopen halone => ?cancel, fun id hfree hruns hopen hidle halone => ?readSem,
    fun id hfree hruns hopen hidle halone hqueue howner hcount => ?writeSem, fun high f hfree hopen halone hf hsource hok => ?bind⟩,
    fun s => ⟨fun core t hchosen hsound => ?dispatch, fun core ecc t hthread hpoint hstopped => ?point,
    fun core t hthread hon hlevel hdue => ?quantum, fun thread slot d hruns htimer hwaiting hdue => ?timeout,
    fun n hruns hopen hlatch => ?intake, fun t l hruns hopen hlist hnone hroom => ?recovery⟩⟩
  case done => exact congrArg Host.Outcome.next (cmdDone_publishes hcmd)
  case ready =>
    have hready := regCmd_makeReady (w32 (b2n resume * 2 ^ 31 + thread.toNat)) ⟨hruns, hopen, halone⟩ hfree
    rw [commandWord_thread (b2n resume * 2 ^ 13) thread (by omega), readyWord_resume] at hready
    exact congrArg Host.Outcome.next hready
  case cancel =>
    have hcancel := regCmd_cancel (w32 thread.toNat) ⟨hruns, hopen, halone⟩ hfree
    rw [commandWord_thread 0 thread (by omega)] at hcancel
    exact congrArg Host.Outcome.next hcancel
  case readSem =>
    have hread := regCmd_objCmd (w32 (b2n false * 2 ^ 31 + 1 * 2 ^ 24 + id.toNat)) ⟨hruns, hopen, halone⟩ hfree hidle
    rw [objCmd_readSem id s] at hread
    exact ⟨_, congrArg Host.Outcome.next hread, by simp only [ranWith, State.wrg64_frame]⟩
  case writeSem =>
    have hwrite := regCmd_objCmd (w32 (b2n false * 2 ^ 31 + 2 * 2 ^ 24 + id.toNat)) ⟨hruns, hopen, halone⟩ hfree hidle
    rw [objCmd_writeSem hqueue howner hcount] at hwrite
    have hsem := semOf_setSem id.toNat { semOf s id.toNat with
      count := nfld (s.rg64 Reg.BOB_OBJ_DATA) 0 16, mutex := (s.rg64 Reg.BOB_OBJ_DATA).testBit 16 } s
    exact ⟨_, congrArg Host.Outcome.next hwrite, rfl, congrArg Sem.count hsem, congrArg Sem.mutex hsem⟩
  case bind =>
    subst hf
    exact congrArg Host.Outcome.next (regCmd_bind hfree hopen halone (bindWrite_keeps hsource hok))
  case dispatch => exact ⟨_, rfl, restoreThread_restores hchosen hsound⟩
  case point => exact congrArg Host.Outcome.next (dispatchPoint_removes hthread hpoint hstopped)
  case quantum => exact congrArg Host.Outcome.next (quantumExpiry_due hthread ⟨hon, hlevel, hdue⟩)
  case timeout =>
    have hstep := bobStep_one BobReq.noConfusion (opsOf_timeout thread.toNat hruns)
    exact congrArg Host.Outcome.next (hstep.trans (congrArg bobDone (timeoutEnds_due htimer hwaiting hdue)))
  case intake => exact ⟨_, congrArg Host.Outcome.next (bobStep_intakeOne hruns hopen hlatch), rfl⟩
  case recovery =>
    have hstep := bobStep_one BobReq.noConfusion (opsOf_recovery hruns hopen)
    have hnext := recoverOne_next (recoverNext_wraps hlist hnone hroom)
    exact congrArg Host.Outcome.next (hstep.trans (congrArg bobDone hnext))

end Sys2Proof.Machine
end

section
/-!
PROOFS of the statement on the Spool (08_bobbin_events_and_spool.md): spill, refill, search and the rebuilding of a level (O30).
-/

namespace Sys2Proof.Machine

open Sys2Proof

/-! ### Reads and writes of a block's words (R233, R257, R260) -/

/-- A request for DRAM changes the record of the memories only, and no check bits. -/
theorem dramTouch_ram (a n : Nat) (s : State) : ∃ m, dramTouch a n s = { s with ram := m } ∧ m.bad = s.ram.bad := by
  unfold dramTouch
  split
  · exact ⟨_, rfl, rfl⟩
  · exact ⟨s.ram, rfl, rfl⟩

/-- The blocks of the Spool stand in DRAM, behind shared SRAM. -/
theorem inSram_blockAt (num o : Nat) : inSram (blockAt num + o) = false := by
  rw [Bool.eq_false_iff, Ne, inSram_iff, blockAt]
  omega

theorem memTouch_block (num o n : Nat) (s : State) :
    ∃ m, memTouch (blockAt num + o) n s = { s with ram := m } ∧ m.bad = s.ram.bad := by
  simpa only [memTouch, inSram_blockAt, Bool.false_eq_true, if_false] using dramTouch_ram (blockAt num + o) n s

theorem memCheck_sound (src a n : Nat) {s : State} (h : s.ram.bad = []) : memCheck src a n .none s = (s, true) := by
  simp only [memCheck, h, List.find?_nil]

/-- With no uncorrectable word in memory a block is read, and only the record of the memories changes. -/
theorem blockFetch_sound (b : SpBlock) {s : State} (h : s.ram.bad = []) :
    ∃ m, blockFetch b s = ({ s with ram := m }, true) ∧ m.bad = [] := by
  obtain ⟨m, htouch, hbad⟩ := memTouch_block b.num 0 (32 * max 1 b.entries.length) s
  rw [h] at hbad
  refine ⟨m, ?_, hbad⟩
  rw [Nat.add_zero] at htouch
  simp only [blockFetch, bobFetch, htouch, memCheck_sound 0x20 _ _ (s := { s with ram := m }) hbad, if_true]

theorem blocksFetch_sound (l : List SpBlock) {s : State} (h : s.ram.bad = []) :
    ∃ m, l.foldl (fun (a : State × Bool) b => if a.2 then blockFetch b a.1 else a) (s, true) = ({ s with ram := m }, true) := by
  induction l generalizing s with
  | nil => exact ⟨s.ram, rfl⟩
  | cons b l ih =>
    obtain ⟨m, hfetch, hbad⟩ := blockFetch_sound b h
    obtain ⟨m', hrest⟩ := ih (s := { s with ram := m }) hbad
    exact ⟨m', by simpa only [List.foldl_cons, if_true, hfetch] using hrest⟩

/-- Entries written to a block change no register. -/
theorem rg_spoolWrite (num j : Nat) (es : List Entry) (s : State) (k : Nat) : (spoolWrite num j es s).rg k = s.rg k := by
  unfold spoolWrite
  dsimp only
  split
  · rfl
  · obtain ⟨m, htouch, -⟩ := memTouch_block num (32 * j) (32 * es.length) { s with bob := { s.bob with
      slots := es.zipIdx.foldl (fun m x => sset (fun _ => noEntry) m (32 * num + j + x.2) { x.1 with held := none }) s.bob.slots } }
    rw [htouch]
    rfl

theorem rg_spoolWrites (l : List SpBlock) (s : State) (k : Nat) :
    (l.foldl (fun s b => spoolWrite b.num 0 b.entries s) s).rg k = s.rg k :=
  List.foldlRecOn (motive := fun t : State => t.rg k = s.rg k) _ _ rfl fun _ ht b _ => (rg_spoolWrite b.num 0 b.entries _ k).trans ht

/-! ### Refill (R234) -/

/-- A field that is a whole register reads back what was written to it. -/
theorem State.rf_wf_whole (s : State) (k : Nat) {n : Nat} (h : n < 2 ^ 32) : (s.wf k 0 32 n).rf k 0 32 = n := by
  have hold := (s.rg k).isLt
  simp only [State.rf, State.wf, State.rg_wrg_self, fld, setFld, Nat.shiftRight_zero, Nat.shiftLeft_zero, BitVec.toNat_ofNat]
  omega

theorem satInc_lt (n len : Nat) : satInc n len < 2 ^ len := by
  have hpos := Nat.two_pow_pos len
  unfold satInc
  split <;> omega

/-- The state after the first block `b` of the Spool is refilled, the blocks `l` staying, before cores take threads. -/
def refilled (b : SpBlock) (l : List SpBlock) (s : State) : State :=
  ({ s with bob := { s.bob with
      blocks := l, full := s.bob.full && !(b.num < 32000), missed := []
      chip := (b.entries.filter (current s)).foldl (fun m e => insEntry e m) s.bob.chip } }).incSat Reg.SPL_REFILLS 0 32

theorem refill_due {b : SpBlock} {l : List SpBlock} {s : State} (hruns : bobRuns s = true) (hopen : s.bob.flushing = false)
    (hblocks : s.bob.blocks = b :: l) (hlow : onChip s ≤ refillMark s) (hbuilt : rebuilding s b.level = false) (hbad : s.ram.bad = []) :
    ∃ m, refill s = settle (refilled b l { s with ram := m }) := by
  obtain ⟨m, hfetch, -⟩ := blockFetch_sound b hbad
  have hdue : bobRuns s ∧ !s.bob.flushing ∧ onChip s ≤ refillMark s ∧ !rebuilding s b.level := by
    simp only [hruns, hopen, hbuilt, Bool.not_false, and_true, hlow]
  refine ⟨m, ?_⟩
  simp only [refill, hblocks, if_pos hdue, hfetch, Bool.not_true, Bool.false_eq_true, if_false]
  rfl

/-! ### The search of the Spool (R235) -/

theorem rebuilding_none {s : State} (h : s.bob.rebuild = []) (lev : Nat) : rebuilding s lev = false := by
  rw [rebuilding, h, List.any_nil]

/-- No thread that waits outside the Spool may run on core `c`: the condition under which it searches. -/
theorem readyOrder_any_mayRun {c : Nat} {s : State} (h : ∀ x ∈ readyOrder s, x.held = none → (threadOf s x.thread).aff.testBit c = false) :
    ((readyOrder s).any fun e => e.held.isNone && (threadOf s e.thread).aff.testBit c) = false := by
  rw [List.any_eq_false]
  intro x hx hmay
  rw [Bool.and_eq_true, Option.isNone_iff_eq_none] at hmay
  obtain ⟨hfree, haff⟩ := hmay
  exact Bool.false_ne_true ((h x hx hfree).symm.trans haff)

theorem spoolSearch_finds {c : Nat} {e : Entry} {s : State} (hfree : coreFree s c = true) (hon : dispatchOn s = true)
    (hspooled : s.bob.blocks.isEmpty = false) (howes : s.bob.missed.contains c = false) (hbuilt : s.bob.rebuild = []) (hbad : s.ram.bad = [])
    (hchip : ∀ x ∈ readyOrder s, x.held = none → (threadOf s x.thread).aff.testBit c = false)
    (hfound : ((s.bob.blocks.flatMap (·.entries)).take (searchLen s)).find?
      (fun e => current s e && (threadOf s e.thread).aff.testBit c) = some e) :
    ∃ m, spoolSearch c s = settle (choose c e.thread { s with ram := m }) := by
  have hreached : (s.bob.blocks.filter fun b => !rebuilding s b.level) = s.bob.blocks :=
    List.filter_eq_self.mpr fun b _ => by rw [rebuilding_none hbuilt, Bool.not_false]
  obtain ⟨m, hfetch⟩ := blocksFetch_sound (searchBlocks (searchLen s) s.bob.blocks) hbad
  have hfound' : ((s.bob.blocks.flatMap (·.entries)).take (searchLen s)).find?
      (fun e => current { s with ram := m } e && (threadOf { s with ram := m } e.thread).aff.testBit c) = some e := hfound
  refine ⟨m, ?_⟩
  simp only [spoolSearch, readyOrder_any_mayRun hchip, hfree, hon, hspooled, howes, hreached, hfetch, hfound', Bool.not_false,
    Bool.and_self, Bool.not_true, Bool.false_eq_true, if_true, if_false]

/-! ### The rebuilding of a level (R241) -/

theorem irq_bob (page n : Nat) (s : State) : (irq page n s).bob = s.bob := by
  obtain ⟨h, hscan⟩ := hstScan_hst (s.wrg (irqRaw page) (w32 (nset (s.rg (irqRaw page)).toNat n)))
  rw [irq, hstNotify, hscan]
  simp only [State.wrg_frame]

theorem rg_irq_ne {page k : Nat} (n : Nat) (s : State) (h : k ≠ irqRaw page) : (irq page n s).rg k = s.rg k := by
  obtain ⟨x, hscan⟩ := hstScan_hst (s.wrg (irqRaw page) (w32 (nset (s.rg (irqRaw page)).toNat n)))
  rw [irq, hstNotify, hscan]
  exact State.rg_wrg_ne s _ h

theorem raise_bob (code : Nat) (s : State) : (raise code s).bob = s.bob := by
  unfold raise intakePush faultNote
  split <;> simp only [State.incSat_frame, State.wrg_frame]

theorem State.rg_withFlt (s : State) (x : Flt) (k : Nat) : { s with flt := x }.rg k = s.rg k := rfl

theorem rg_intakePush_ne {k : Nat} (x : Intake) (s : State) (h : k ≠ Reg.FLT_COUNT) : (intakePush x s).rg k = s.rg k := by
  unfold intakePush
  split
  · rfl
  · dsimp only
    rw [State.rg_withFlt, State.rg_incSat_ne _ _ _ h]

/-- A fault writes FAULT_INFO of its page and, where it is lost, the log's counter. -/
theorem rg_raise_ne {code k : Nat} (s : State) (hinfo : k ≠ faultInfo (code / 0x100)) (hcount : k ≠ Reg.FLT_COUNT) :
    (raise code s).rg k = s.rg k :=
  (rg_intakePush_ne _ _ hcount).trans (State.rg_wrg_ne s _ hinfo)

theorem noteMemErr_bob (src a pos : Nat) (ue : Bool) (s : State) : (noteMemErr src a pos ue s).bob = s.bob := by
  unfold noteMemErr
  split <;> simp only [State.incSat_frame, State.wrg64_frame, State.wrg_frame]

/-- An uncorrectable error is recorded in registers; Bobbin's record stays. -/
theorem memUe_bob (src a : Nat) (s : State) : (memUe src a s).bob = s.bob := by
  simp only [memUe, raise_bob, irq_bob, noteMemErr_bob, State.incSat_frame]

theorem spoolEcc_names {n : Nat} {b : SpBlock} {s : State} (h : s.bob.blocks.find? (fun b => b.num == n) = some b) :
    (spoolEcc n s).rg Reg.SPL_ERR = w32 (2 ^ 31 + b.level * 2 ^ 16 + n) := by
  simp only [spoolEcc, h]
  rw [rg_raise_ne _ (by decide) (by decide), rg_irq_ne _ _ (by decide), rg_spoolWrites]
  exact State.rg_wrg_self s Reg.SPL_ERR _

/-- An uncorrectable error in a block of the Spool has the block's level rebuilt once the error is recorded. -/
theorem spoolBad_names {n : Nat} {b : SpBlock} {s : State} (h : s.bob.blocks.find? (fun b => b.num == n) = some b) :
    (spoolBad n s).rg Reg.SPL_ERR = w32 (2 ^ 31 + b.level * 2 ^ 16 + n) := by
  have hused : (s.bob.blocks.any fun b => b.num == n) = true :=
    List.any_eq_true.mpr ⟨b, List.mem_of_find?_eq_some h, List.find?_some (p := fun b : SpBlock => b.num == n) h⟩
  have hbob : (memUe 0x20 (blockAt n) (markBad (blockAt n / 8) s)).bob = s.bob := memUe_bob _ _ _
  rw [spoolBad, if_pos hused]
  exact spoolEcc_names (by rw [hbob, h])

/-! ### The statement -/

/-- Settles O30: a read of blocks without uncorrectable words changes the record of the memories only, so that refill and search act on the
entries as they stand; a rebuild leaves SPL_ERR as its first step wrote it. -/
theorem spoolComplete : Obligations.SpoolComplete := by
  refine fun s => ⟨fun hruns hopen hhigh => ?spill, fun b l hruns hopen hblocks hlow hbuilt hbad => ?refill,
    fun core e hfree hon hspooled howes hbuilt hbad hchip hfound => ?search, fun block b hblock => ?rebuild⟩
  case spill =>
    have hdue : bobRuns s ∧ !s.bob.flushing ∧ spillMark s ≤ onChip s := ⟨hruns, by rw [hopen, Bool.not_false], hhigh⟩
    exact congrArg Host.Outcome.next (if_pos hdue)
  case refill =>
    obtain ⟨m, hrefill⟩ := refill_due hruns hopen hblocks hlow hbuilt hbad
    exact ⟨_, congrArg Host.Outcome.next hrefill, State.rf_wf_whole _ _ (satInc_lt _ _), rfl⟩
  case search =>
    obtain ⟨m, hsearch⟩ := spoolSearch_finds hfree hon hspooled howes hbuilt hbad hchip hfound
    exact ⟨_, congrArg Host.Outcome.next hsearch, rfl, rfl⟩
  case rebuild => exact ⟨_, rfl, spoolBad_mem block.val s, spoolBad_names hblock⟩

end Sys2Proof.Machine
end

section
/-!
PROOFS of the statement on the memories (09_memories.md): accesses of SRAM and DRAM, zero-fill, refresh, power-down, patrol scrub and the
hour of the error counts (O31).
-/

namespace Sys2Proof.Machine

open Sys2Proof

/-! ### An access alone in its cycle (R250 to R256) -/

/-- Bobbin's memory and the user region lie in DRAM (R254). -/
theorem inDram_of_zone {a : Nat} (h : zoneOf a = .dram ∨ zoneOf a = .store) : inDram a = true := by
  by_contra hout
  simp only [inDram, Bool.and_eq_true, decide_eq_true_eq] at hout
  have huser : inDramUser a = false := by simp only [inDramUser, Bool.and_eq_false_iff, decide_eq_false_iff_not]; omega
  have hstore : ¬ (0x80000000 ≤ a ∧ a < 0x89000000) := by omega
  simp only [zoneOf, hstore, huser, Bool.false_eq_true, if_false] at h
  repeat' split at h
  all_goals simp only [reduceCtorEq, or_self] at h

/-- One requester contests no bank, so that no base moves on (R251). -/
theorem turnBanks_one (p : MemReq → Bool) (w : MemReq) (s : State) : turnBanks ([w].filter p) s = s := by
  have hone : ∀ q : MemReq → Bool, (([w].filter q).map (sramReq ·.init)).eraseDups.length < 2 := fun q => by
    rw [List.filter_singleton]
    cases q w <;> simp [List.eraseDups_cons]
  have hcalm : hotBanks ([w].filter p) = [] := List.filter_eq_nil_iff.mpr fun b _ => by
    rw [List.filter_filter, decide_eq_true_eq, Nat.not_le]
    exact hone _
  rw [turnBanks, hcalm]
  rfl

/-- An access alone in its cycle is served at once. -/
theorem memRound_alone (own : MemReq) (e : Ecc) (s : State) : memRound own [] e s = memServe own e s := by
  simp only [memRound, List.filter_nil, List.foldl_cons, List.foldl_nil, insReq, List.length_singleton, Nat.le_refl, if_true, memTurn,
    turnBanks_one]

/-- An access alone in its cycle that reaches the memories answers what it is served. -/
theorem memAccess_served {own : MemReq} {e : Ecc} {s t : State} {v : Nat} (hlive : memLive s own = true)
    (hserve : memServe own e s = (t, .okay, v)) :
    memAccess own [] e s = t.answer .okay (if own.rw == .read then [w64 v, w64 (v / 2 ^ 64)] else []) := by
  simp only [memLive, Bool.and_eq_true] at hlive
  obtain ⟨⟨hsends, -⟩, hpasses⟩ := hlive
  simp only [memAccess, hsends, hpasses, memRound_alone, hserve, failSeen, Bool.not_true, Bool.false_eq_true, if_false, if_true]

/-- Nothing that its sender has posted precedes the access (R173). -/
theorem drainFor_free {i : Initiator} {kind a n : Nat} {s : State} (h : wayFree i kind a n s = true) : drainFor i s = s := by
  cases i
  case core c => exact drainAll_empty (wayFree_empty h)
  all_goals rfl

/-! ### Writes (R250, R254) -/

section
variable {init : Initiator} {addr n : Nat} {value : BitVec 128} {s : State} (ecc : Ecc)
  (hlive : memLive s ⟨init, .write, addr, n, value⟩ = true) (hway : wayFree init 2 addr n s = true)
include hlive hway

/-- A write of SRAM or of the DRAM user region stores its bytes. -/
theorem memAccess_write (hzone : zoneOf addr = .sram ∨ zoneOf addr = .dram) :
    memAccess ⟨init, .write, addr, n, value⟩ [] ecc s = (putBy (ownCore init) addr (natLe value.toNat n) s).answer .okay := by
  refine memAccess_served (v := 0) hlive ?_
  obtain hzone | hzone := hzone <;> simp only [memServe, drainFor_free hway, hzone, memPut]

/-- A write of Bobbin's memory leaves its content as Bobbin's operations give it. -/
theorem memAccess_write_store (hzone : zoneOf addr = .store) :
    memAccess ⟨init, .write, addr, n, value⟩ [] ecc s
      = (mendBad addr (natLe value.toNat n).length (memTouch addr (natLe value.toNat n).length s)).answer .okay := by
  refine memAccess_served (v := 0) hlive ?_
  simp only [memServe, drainFor_free hway, hzone, memPut]

end

/-- What a write leaves in memory: its bytes, and the others as they were. -/
theorem putBy_shows (own : Option Nat) (a v n : Nat) (s : State) {t : State} (h : t = (putBy own a (natLe v n) s).answer .okay) :
    t.ans.rsp = .okay ∧ readLe t a n = v % 2 ^ (8 * n) ∧ ∀ x, (x < a ∨ a + n ≤ x) → readByte t x = readByte s x := by
  subst h
  refine ⟨rfl, ?_, fun x hx => ?_⟩
  · rw [readLe_answer, readLe_putBy, Nat.pow_mul]
  · rw [readByte_answer, readByte_putBy_out (by rwa [natLe_length])]

/-! ### Reads of SRAM (R250) -/

theorem fitResult_ans (cycles c u k code : Nat) (s : State) : (fitResult cycles c u k code s).ans = s.ans := by
  simp only [fitResult, State.wrg64_frame]

theorem abortOne_ans (x : FitRun) (s : State) : (abortOne x s).ans = s.ans := by
  have hnoted : ∀ f, (abortNoted x f s).ans = s.ans := fun f => by
    simp only [abortNoted, fitResult_ans, State.bump_frame]
  obtain ⟨f, h⟩ | ⟨f, y, h⟩ := abortOne_cases x s <;> rw [h]
  · exact hnoted f
  · simp only [State.incSat_frame, setFitUnit_frame, hnoted]

/-- An access of memory aborts slices of Fitting at most (R524), and answers nothing by that. -/
theorem memTouch_ans (a n : Nat) (s : State) : (memTouch a n s).ans = s.ans := by
  unfold memTouch fitSram dramTouch
  split
  · split
    · rfl
    · exact List.foldlRecOn (motive := fun t : State => t.ans = s.ans) _ _ rfl fun t ht x _ => (abortOne_ans x t).trans ht
  · split <;> rfl

/-- With nothing posted, a reader sees what memory holds (R173). -/
theorem seenBy_free {i : Initiator} {kind a n : Nat} {s : State} (h : wayFree i kind a n s = true) :
    seenBy i a n (memTouch a n s, .okay, readLe s a n) = (memTouch a n s, .okay, readLe s a n) := by
  cases i
  case core c =>
    have hempty : (coreOf (memTouch a n s) c.val).wbuf = [] := by rw [coreOf_memTouch, wayFree_empty h]
    simp only [seenBy, overlay_empty _ _ _ hempty, Nat.mod_eq_of_lt (readLe_lt s a n)]
  all_goals rfl

/-- A read of SRAM with no uncorrectable word in memory delivers the bytes that stand there. -/
theorem memAccess_read_sram {init : Initiator} {addr n : Nat} {value : BitVec 128} {s : State} (hsram : inSram addr = true)
    (hlive : memLive s ⟨init, .read, addr, n, value⟩ = true) (hway : wayFree init 1 addr n s = true) (hbad : s.ram.bad = []) :
    memAccess ⟨init, .read, addr, n, value⟩ [] .none s
      = (memTouch addr n s).answer .okay [w64 (readLe s addr n), w64 (readLe s addr n / 2 ^ 64)] := by
  refine memAccess_served hlive ?_
  simp only [memServe, zoneOf_sram hsram, memGet_sram init n hsram hbad, seenBy_free hway]

/-! ### The DRAM's own commands (R257 to R261) -/

/-- Segments of the zero-fill before the last (R257). -/
theorem fillSegment_more {s : State} (hon : s.ram.fillOn = true) (hmore : s.ram.fillNext + 1 < 8192) (hself : s.ram.selfRefresh = false) :
    fillSegment s = { s with ram := { s.ram with fillNext := s.ram.fillNext + 1, lastReq := some s.now } } := by
  have hdue : s.ram.fillOn ∧ s.ram.fillNext < 8192 ∧ !s.ram.selfRefresh := ⟨hon, by omega, by rw [hself, Bool.not_false]⟩
  rw [fillSegment, if_pos hdue]
  exact if_neg (Nat.ne_of_lt hmore)

/-- 1 µs without requests in a mode that lets the DRAM power down (R258). -/
theorem dramDown_idle {s : State} (hmode : [Mode.run, .doze, .safe].contains s.mode = true) (hidle : s.ram.lastReq.getD 0 + 1000 ≤ s.now) :
    dramDown s = { s with ram := { s.ram with down := true } } := by
  have hmodes : s.mode = .run ∨ s.mode = .doze ∨ s.mode = .safe := by simpa using hmode
  obtain hm | hm | hm := hmodes <;> simp only [dramDown, hm, hidle, decide_true, Bool.and_true, if_true]

/-- A pass of the scrub that goes on or is due reads its next word (R259). -/
theorem scrubStep_next (e : Ecc) {s : State} (hmode : [Mode.run, .service, .swap, .hemLoad, .doze, .safe].contains s.mode = true)
    (hon : s.rb Reg.MEM_CFG 0 = true) (hself : s.ram.selfRefresh = false) (hmore : s.ram.scrubWord + 1 < 0x4000000)
    (hdue : s.ram.scrubWord ≠ 0 ∨ s.ram.scrubOn = true ∨ s.ram.scrubAge = none ∨ ∃ a, s.ram.scrubAge = some a ∧ scrubPeriod s ≤ a) :
    ∃ t : State, scrubStep e s = { t with ram := { t.ram with scrubWord := s.ram.scrubWord + 1, scrubOn := true } } := by
  have hmodes : s.mode = .run ∨ s.mode = .service ∨ s.mode = .swap ∨ s.mode = .hemLoad ∨ s.mode = .doze ∨ s.mode = .safe := by
    simpa using hmode
  unfold scrubStep
  refine ⟨_, (if_neg ?goes).trans (if_neg (Nat.ne_of_lt hmore))⟩
  case goes =>
    simp only [Bool.or_eq_true, not_or]
    refine ⟨⟨⟨?works, ?on⟩, ?awake⟩, ?due⟩
    case works => obtain hm | hm | hm | hm | hm | hm := hmodes <;> simp only [hm] <;> decide
    case on => simp only [hon, Bool.not_true, Bool.false_eq_true, not_false_eq_true]
    case awake => simp only [hself, Bool.false_eq_true, not_false_eq_true]
    case due =>
      obtain hword | hstarted | hfirst | ⟨a, hage, hold⟩ := hdue
      · simp [hword]
      · simp [hstarted]
      · simp [hfirst]
      · simp [hage, hold]

/-- A whole hour has ended for both counts (R261, R542). -/
theorem hourRoll_memHour {s : State} (hmem : s.ram.hour < s.now / 3600000000000) (hflt : s.flt.hour ≠ hourOf s.now) :
    hourRoll (memHour s) = { s with
      ram := { s.ram with hour := s.now / 3600000000000, hourCe := 0, hourRaised := false }
      flt := { s.flt with hour := hourOf s.now, ruleCnt := [], boltCnt := [], cluCnt := [] } } := by
  rw [memHour, if_pos hmem]
  exact if_neg hflt

/-! ### The statement -/

/-- Settles O31: an access alone in its cycle is served at once, and what the memories keep beside their bytes changes none of them. -/
theorem memoryCommandsComplete : Obligations.MemoryCommandsComplete := by
  refine fun s => ⟨fun init addr n value ecc hsram hlive hway => ?sramWrite, fun init addr n value hsram hlive hway hbad => ?sramRead,
    fun init addr n value ecc hdram hlive hway => ?dramWrite, fun init addr n value ecc hstore hlive hway => ?storeWrite,
    fun hon hmore hself => ?zeroFill, rfl, fun hmode hidle => ?powerDown, fun hmode hon hself _ hmore hdue => ?scrub,
    fun hmem hflt => ?hour⟩
  case sramWrite =>
    have hwrite := memAccess_write ecc hlive hway (.inl (zoneOf_sram hsram))
    exact ⟨_, congrArg Host.Outcome.next (if_pos hsram), putBy_shows _ _ _ _ _ hwrite⟩
  case sramRead =>
    refine ⟨_, congrArg Host.Outcome.next (if_pos hsram), ?_⟩
    rw [memAccess_read_sram hsram hlive hway hbad]
    exact ⟨memTouch_mem _ _ _, congrArg (Answer.mk _ _ _ ·.also) (memTouch_ans _ _ _)⟩
  case dramWrite =>
    have hwrite := memAccess_write ecc hlive hway (.inr hdram)
    exact ⟨_, congrArg Host.Outcome.next (if_pos (inDram_of_zone (.inl hdram))), putBy_shows _ _ _ _ _ hwrite⟩
  case storeWrite =>
    refine ⟨_, congrArg Host.Outcome.next (if_pos (inDram_of_zone (.inr hstore))), ?_⟩
    rw [memAccess_write_store ecc hlive hway hstore]
    exact ⟨rfl, memTouch_mem _ _ _⟩
  case zeroFill => exact congrArg Host.Outcome.next (fillSegment_more hon hmore hself)
  case powerDown => exact congrArg Host.Outcome.next (dramDown_idle hmode hidle)
  case scrub =>
    obtain ⟨t, ht⟩ := scrubStep_next .none hmode hon hself hmore hdue
    have hmem : memOf (scrubStep .none s) = memOf s := scrubStep_mem .none s
    rw [ht] at hmem
    exact ⟨_, congrArg Host.Outcome.next ht, rfl, rfl, hmem⟩
  case hour => exact congrArg Host.Outcome.next (hourRoll_memHour hmem hflt)

end Sys2Proof.Machine
end

section
/-!
PROOFS of the statements on the code flash (10_code_flash.md): the queue, suspends, reads and the refresher (O32), and the descriptors as they
start and finish (O33).
-/

namespace Sys2Proof.Machine

open Sys2Proof

/-! ### What Fitting's abort leaves of the flash (R524) -/

/-- A slice of Fitting that is aborted changes nothing of the flash controller. -/
theorem abortOne_fls (x : FitRun) (s : State) : (abortOne x s).fls = s.fls := by
  have hnoted : ∀ f, (abortNoted x f s).fls = s.fls := fun f => by
    simp only [abortNoted, fitResult, State.wrg64_frame, State.bump_frame]
  obtain ⟨f, h⟩ | ⟨f, y, h⟩ := abortOne_cases x s <;> rw [h]
  · exact hnoted f
  · simp only [State.incSat_frame, setFitUnit_frame, hnoted]

theorem abortSlices_fls (p : FitRun → Bool) (s : State) : (abortSlices p s).fls = s.fls :=
  List.foldlRecOn (motive := fun t : State => t.fls = s.fls) _ _ rfl fun t ht x _ => (abortOne_fls x t).trans ht

theorem fitFlash_fls (b : Nat) (s : State) : (fitFlash b s).fls = s.fls := by
  unfold fitFlash
  split
  · rfl
  · exact abortSlices_fls _ s

theorem fitFlash_bad (b : Nat) {s : State} (h : s.ram.bad = []) : (fitFlash b s).ram.bad = [] := by
  unfold fitFlash
  split
  · exact h
  · exact (abortSlices_keeps _ s).bad h

theorem memTouch_fls (a n : Nat) (s : State) : (memTouch a n s).fls = s.fls := by
  unfold memTouch fitSram dramTouch
  split
  · split
    · rfl
    · exact abortSlices_fls _ s
  · split <;> rfl

theorem memTouch_bad (a n : Nat) {s : State} (h : s.ram.bad = []) : (memTouch a n s).ram.bad = [] := by
  by_cases hsram : inSram a = true
  · exact (memTouch_keeps n s hsram).bad h
  · obtain ⟨m, htouch, hbad⟩ := dramTouch_ram a n s
    rw [memTouch, if_neg hsram, htouch, hbad, h]

/-! ### The descriptor that starts (R274, R524) -/

theorem fbank_of_fls {s t : State} (h : t.fls = s.fls) (b : Nat) : fbank t b = fbank s b := congrArg (fun f : Fls => sget _ f.banks b) h

theorem startable_of_fls {s t : State} (h : t.fls = s.fls) (op bank : Nat) : startable t op bank = startable s op bank := by
  simp only [startable, h]

/-- The descriptor that may start in a bank is one of the bank. -/
theorem startable_bank {s : State} {op bank : Nat} {d : Desc} (h : startable s op bank = some d) : descBank d = bank := by
  unfold startable at h
  split at h
  · exact nomatch h
  · refine List.foldlRecOn (motive := fun a : Option Desc × List Desc => ∀ d, a.1 = some d → descBank d = bank) _ _
      (fun _ hnone => absurd hnone.symm (Option.some_ne_none _)) (fun a ha x _ y hy => ?_) d h
    dsimp only at hy
    split at hy
    · exact ha y hy
    · split at hy
      case isTrue hgo =>
        simp only [Bool.and_eq_true, beq_iff_eq] at hgo
        obtain ⟨⟨-, hbank⟩, -⟩ := hgo
        cases hy
        exact hbank
      case isFalse => exact nomatch hy

/-- A descriptor of a bank starts once Fitting has left the bank. -/
theorem flashStarts_bank {s : State} {op : Nat} {bank : Fin 8} {d : Desc} (h : startable s op bank.val = some d) (rivals : List (Fin 4))
    (f : State → State) : flashStarts bank.val op rivals f s = f (fitFlash bank.val s) := by
  simp only [flashStarts, h, fitDesc, startable_bank h, if_pos bank.isLt]

/-- A descriptor of the option area or the journal meets no slice of Fitting. -/
theorem flashStarts_option {s : State} {op : Nat} {d : Desc} (h : startable s op 8 = some d) (f : State → State) :
    flashStarts 8 op [] f s = f s := by
  simp only [flashStarts, h, fitDesc, startable_bank h, Nat.lt_irrefl, if_false]

theorem flashStarts_none {s : State} {op bank : Nat} (h : startable s op bank = none) (rivals : List (Fin 4)) (f : State → State) :
    flashStarts bank op rivals f s = (grantStart bank (startRivals s bank rivals) s).1 := by
  simp only [flashStarts, h]

/-! ### Starts that reach a bank in one cycle (R278) -/

/-- A start that meets no other is granted, and nothing is recorded. -/
theorem grantStart_alone {reqs : List Nat} (bank : Nat) (s : State) (h : reqs.length < 2) : grantStart bank reqs s = (s, true) := if_pos h

theorem dropCopy_base (u n : Nat) (s : State) : (dropCopy u n s).fls.base = s.fls.base := by
  unfold dropCopy
  split
  · split <;> rfl
  · rfl

theorem replayKick_base (s : State) : (replayKick s).fls.base = s.fls.base := by
  unfold replayKick
  generalize List.range 8 = banks
  refine List.foldlRecOn (motive := fun t : State => t.fls.base = s.fls.base) _ _ rfl fun t ht b _ => ?_
  split
  · split
    · exact (dropCopy_base _ _ _).trans ht
    · exact ht
  · exact ht

/-- Two starts or more: the base of the bank's order moves on by one. -/
theorem grantStart_base {reqs : List Nat} (bank : Nat) (s : State) (h : 2 ≤ reqs.length) :
    (grantStart bank reqs s).1.fls.base = (s.fls.base + 1) % 4 := by
  unfold grantStart
  rw [if_neg (Nat.not_lt.mpr h)]
  dsimp only
  split
  · simp only [replayKick_base, State.wrg_frame]
  · simp only [State.wrg_frame]

/-! ### The descriptors of a bank (R267, R273 to R275, R279)

`s` is the state that a start finds once Fitting has left the bank. -/

section
variable {bank : Nat} {env : FlashEnv} {d : Desc} {s : State} (halone : env.rivals = []) (hfields : descFieldsOk d = true)
  (haddr : d.addr < 0x4000000) (hidle : (fbank s bank).st = 0)
include halone hfields haddr hidle

theorem startProgram_starts {b : State} {data : List Byte} (hd : startable s 1 bank = some d) (hpages : pagesOk d 256 0x10000 = true)
    (hopen : (protectedIn s d.addr 1).isSome = false) (husable : s.fls.unusable.contains (sectorAt d.addr) = false)
    (hbuf : bufRead s d env = (b, some data)) (herased : notErased b d.addr data = none) :
    startProgram bank env s = dropCopy (sectorAt d.addr) 1 (flashInv d.addr (256 * d.count)
      (setFbank bank { fbank s bank with st := 3, op := some ⟨some d, 1, d.addr, d.count, 0, 0, data⟩ } (markStarted d b))) := by
  have hstart : programStart s (fbank s bank) d = some (3, false) := if_pos hidle
  have hgrant : grantStart bank (0 :: startRivals s bank env.rivals) s = (s, true) := by rw [halone]; rfl
  have hfree : ((fbank s bank).st == 1 || (fbank s bank).st == 2) = false := by rw [hidle]; rfl
  simp only [startProgram, hd, hstart, hgrant, hfree, hfields, hpages, hopen, husable, hbuf, herased, Nat.not_le.mpr haddr, decide_false,
    Bool.false_and, Bool.not_true, Bool.or_self, Bool.false_eq_true, if_false, if_true]

theorem startErase_starts (hd : startable s 2 bank = some d) (hpos : 1 ≤ d.count) (halign : d.addr % 0x10000 = 0)
    (hbank : sectorAt d.addr % 128 + d.count ≤ 128) (hopen : protectedIn s d.addr d.count = none)
    (husable : (List.range d.count).find? (fun i => s.fls.unusable.contains (sectorAt d.addr + i)) = none) :
    startErase bank env s = dropCopy (sectorAt d.addr) d.count (flashInv d.addr (0x10000 * d.count)
      (jOpen 1 (sectorAt d.addr) (setFbank bank
        { fbank s bank with st := 1, op := some ⟨some d, 2, d.addr, d.count, 0, 0, []⟩, auto := false } (markStarted d s)))) := by
  have hgrant : grantStart bank (0 :: startRivals s bank env.rivals) s = (s, true) := by rw [halone]; rfl
  have hcount : ¬ d.count = 0 := by omega
  have hmost : ¬ 128 < d.count := by omega
  simp only [startErase, hd, hidle, hgrant, hfields, hcount, hmost, halign, hopen, husable, Nat.not_le.mpr haddr, Nat.not_lt.mpr hbank,
    bne_self_eq_false, decide_false, ne_eq, not_true_eq_false, Bool.not_true, Bool.or_self, Bool.false_eq_true, if_false]

theorem startCheck_checks {op : Nat} {b : State} {data : List Byte} (hd : startable s op bank = some d)
    (hpages : pagesOk d 256 0x10000 = true) (hbuf : (if op = 4 then bufRead s d env else (s, some [])) = (b, some data)) :
    startCheck bank op env s = checkDone op d data env b := by
  have hgrant : grantStart bank (0 :: startRivals s bank env.rivals) s = (s, true) := by rw [halone]; rfl
  simp only [startCheck, hd, hidle, hgrant, hbuf, hfields, hpages, Nat.not_le.mpr haddr, decide_false, ne_eq, not_true_eq_false, Bool.not_true,
    Bool.or_self, Bool.false_eq_true, if_false]

theorem startMarkBad_retires (hd : startable s 5 bank = some d) (hone : d.count = 1) (hopen : (protectedIn s d.addr 1).isSome = false) :
    startMarkBad bank env s = descDone d 0x01 0 env.statusOk (retire (sectorAt d.addr) s) := by
  have hgrant : grantStart bank (0 :: startRivals s bank env.rivals) s = (s, true) := by rw [halone]; rfl
  simp only [startMarkBad, hd, hidle, hgrant, hfields, hone, hopen, refuseDesc, Nat.not_le.mpr haddr, bne_self_eq_false, decide_false, ne_eq,
    not_true_eq_false, Bool.not_true, Bool.or_self, Bool.false_eq_true, if_false]

end

/-- A check of a range with no uncorrectable word and no page that differs ends with DONE (R273). -/
theorem checkDone_finds_nothing {op : Nat} {d : Desc} {data : List Byte} {env : FlashEnv} {s : State} (hecc : env.eccAt = none)
    (hbad : s.ram.bad = []) (hsame : (if op = 3 then notBlank s d.addr d.count
      else (List.range d.count).find? fun i => readBytes s (d.addr + 256 * i) 256 != (data.drop (256 * i)).take 256) = none) :
    checkDone op d data env s = descDone d 0x01 0 env.statusOk s := by
  simp only [checkDone, hecc, hbad, hsame, refuseDesc, List.filter_nil, List.head?_nil, Option.map_none]

/-- A verified page before the last goes into memory, and the bank goes on with the next (R275). -/
theorem flashOpDone_page {bank : Nat} {ok : Bool} {o : FlsOp} {s : State} (hbank : bank < 8) (hawake : s.fls.paused = none)
    (hprog : (fbank s bank).st = 3) (hop : (fbank s bank).op = some o) (hmore : o.pos + 1 < o.count) :
    flashOpDone bank true ok s = setFbank bank { fbank s bank with op := some { o with pos := o.pos + 1 } }
      (programWords (o.addr + 256 * o.pos) ((o.data.drop (256 * o.pos)).take 256) s) := by
  have hstep : flashOpDone bank true ok s = programStep bank o true ok s := by
    simp only [flashOpDone, hawake, hprog, hop, Nat.ne_of_lt hbank, Option.isSome_none, Bool.false_eq_true, if_false]
  have hplain : ¬ (fbank s bank).st = 5 := by rw [hprog]; decide
  rw [hstep, programStep, if_pos rfl, if_pos hmore]
  exact congrArg (setFbank bank · _) (if_neg hplain)

/-! ### The descriptors of the option area and the journal (R283, R287) -/

section
variable {env : FlashEnv} {d : Desc} {s : State} (hfields : descFieldsOk d = true)
include hfields

theorem startOptErase_starts (hd : startable s 6 8 = some d) (hfree : s.fls.opt = none) (hone : d.count = 1) (haddr : d.addr < 0x2000)
    (hallowed : optAllowed s = true) (hother : optCurrent s d.addr = false) :
    startOptErase env s = { dropCopy (1024 + d.addr / 0x1000) 1 (markStarted d s) with
      fls := { (dropCopy (1024 + d.addr / 0x1000) 1 (markStarted d s)).fls with
        opt := some ⟨some d, 6, 0x1000 * (d.addr / 0x1000), 1, 0, 0, []⟩ } } := by
  simp only [startOptErase, hd, hfree, hfields, hone, hallowed, hother, Nat.not_le.mpr haddr, Option.isSome_none, bne_self_eq_false,
    decide_false, Bool.not_true, Bool.or_self, Bool.false_eq_true, if_false]

theorem startOptProgram_starts {b : State} {data : List Byte} (hd : startable s 7 8 = some d) (hfree : s.fls.opt = none)
    (hpages : pagesOk d 16 0x1000 = true) (haddr : d.addr < 0x2000) (hallowed : optAllowed s = true) (hother : optCurrent s d.addr = false)
    (hbuf : bufRead s d env = (b, some data)) (herased : notErased b (0x04000000 + d.addr) data = none) :
    startOptProgram env s = { dropCopy (1024 + d.addr / 0x1000) 1 (markStarted d b) with
      fls := { (dropCopy (1024 + d.addr / 0x1000) 1 (markStarted d b)).fls with
        opt := some ⟨some d, 7, d.addr, d.count, 0, 0, data⟩ } } := by
  simp only [startOptProgram, hd, hfree, hfields, hpages, hallowed, hother, hbuf, herased, Nat.not_le.mpr haddr, Option.isSome_none,
    decide_false, Bool.not_true, Bool.or_self, Bool.false_eq_true, if_false]

theorem startSlot_begins (hd : startable s 8 8 = some d) (hfree : s.fls.opt = none) (hnone : d.count = 0) (hslot : d.addr ≤ 1)
    (hother : d.addr ≠ bootSlot s) : startSlot 8 env s = descDone d 0x01 0 env.statusOk (jOpen 2 d.addr s) := by
  simp only [startSlot, hd, hfree, hfields, hnone, hother, refuseDesc, Nat.not_lt.mpr hslot, Option.isSome_none, bne_self_eq_false,
    decide_false, Bool.not_true, Bool.or_self, Bool.false_eq_true, if_false, if_true]

theorem startSlot_commits (hd : startable s 9 8 = some d) (hfree : s.fls.opt = none) (hnone : d.count = 0) (hslot : d.addr ≤ 1)
    (hopen : slotState s d.addr = 1) : startSlot 9 env s = descDone d 0x01 0 env.statusOk (jClose 2 d.addr s) := by
  simp only [startSlot, hd, hfree, hfields, hnone, hopen, refuseDesc, Nat.not_lt.mpr hslot, Option.isSome_none, bne_self_eq_false,
    decide_false, Bool.not_true, Bool.or_self, Bool.false_eq_true, Nat.reduceEqDiff, if_false, if_true]

theorem startFence_done (hd : startable s 10 8 = some d) (hnone : d.count = 0) (hzero : d.addr = 0) :
    startFence env s = descDone d 0x01 0 env.statusOk s := by
  simp only [startFence, hd, hfields, hnone, hzero, refuseDesc, bne_self_eq_false, Bool.not_true, Bool.or_self, Bool.false_eq_true, if_false]

end

/-! ### The statement on the descriptors -/

/-- Settles O33: a descriptor of a bank starts in the state that Fitting leaves, which is the flash as it was; with no rival it is granted, and
its own start or check does the rest. -/
theorem flashDescriptorsComplete : Obligations.FlashDescriptorsComplete := by
  refine ⟨fun s f bank env d hf halone hfields haddr => ?banks, fun s bank env reqs hreqs => ?rivals, fun s env d hfields => ?option⟩
  case banks =>
    subst hf
    have hfls := fitFlash_fls bank.val s
    have hbank : fbank (fitFlash bank.val s) bank.val = fbank s bank.val := fbank_of_fls hfls _
    have hready : ∀ {op}, startable s op bank.val = some d → startable (fitFlash bank.val s) op bank.val = some d :=
      fun hd => (startable_of_fls hfls _ _).trans hd
    refine ⟨fun b data hd hidle hpages hopen husable hbuf herased => ?program, fun hd hidle hpos halign hin hopen husable => ?erase,
      fun hd hidle hpages hbad hecc hblank => ?blank, fun b data hd hidle hpages hecc hbuf hbad hsame => ?verify,
      fun hd hidle hone hopen => ?markBad, fun o hawake hprog hop hmore => ?page⟩
    case program =>
      rw [← hbank] at hidle ⊢
      rw [← hfls] at husable
      exact congrArg Host.Outcome.next ((flashStarts_bank hd _ _).trans
        (startProgram_starts halone hfields haddr hidle (hready hd) hpages hopen husable hbuf herased))
    case erase =>
      rw [← hbank] at hidle ⊢
      rw [← hfls] at husable
      exact congrArg Host.Outcome.next ((flashStarts_bank hd _ _).trans
        (startErase_starts halone hfields haddr hidle (hready hd) hpos halign hin hopen husable))
    case blank =>
      rw [← hbank] at hidle
      exact congrArg Host.Outcome.next ((flashStarts_bank hd _ _).trans
        ((startCheck_checks halone hfields haddr hidle (hready hd) hpages rfl).trans (checkDone_finds_nothing hecc hbad hblank)))
    case verify =>
      rw [← hbank] at hidle
      exact congrArg Host.Outcome.next ((flashStarts_bank hd _ _).trans
        ((startCheck_checks halone hfields haddr hidle (hready hd) hpages hbuf).trans (checkDone_finds_nothing hecc hbad hsame)))
    case markBad =>
      rw [← hbank] at hidle
      exact congrArg Host.Outcome.next ((flashStarts_bank hd _ _).trans
        (startMarkBad_retires halone hfields haddr hidle (hready hd) hone hopen))
    case page => exact congrArg (Host.Outcome.next <| bootGoes ·) (flashOpDone_page bank.isLt hawake hprog hop hmore)
  case rivals =>
    subst hreqs
    exact ⟨fun h => congrArg Host.Outcome.next (flashStarts_none h _ _), fun h => congrArg Host.Outcome.next (flashStarts_none h _ _),
      fun h => congrArg Host.Outcome.next (flashStarts_none h _ _), fun h => congrArg Prod.fst (grantStart_alone _ s h),
      fun h => grantStart_base _ s h⟩
  case option =>
    refine ⟨fun hd hfree hone haddr hallowed hother => ⟨_, rfl, ?erase⟩,
      fun b data hd hfree hpages haddr hallowed hother hbuf herased => ⟨_, rfl, ?program⟩, fun hd hfree hnone hslot hother => ?begins,
      fun hd hfree hnone hslot hopen => ?commits, fun hd hnone hzero => ?fence⟩
    case erase =>
      exact congrArg Host.Outcome.next ((flashStarts_option hd _).trans (startOptErase_starts hfields hd hfree hone haddr hallowed hother))
    case program =>
      exact congrArg Host.Outcome.next ((flashStarts_option hd _).trans
        (startOptProgram_starts hfields hd hfree hpages haddr hallowed hother hbuf herased))
    case begins =>
      exact congrArg Host.Outcome.next ((flashStarts_option hd _).trans (startSlot_begins hfields hd hfree hnone hslot hother))
    case commits =>
      exact congrArg Host.Outcome.next ((flashStarts_option hd _).trans (startSlot_commits hfields hd hfree hnone hslot hopen))
    case fence => exact congrArg Host.Outcome.next ((flashStarts_option hd _).trans (startFence_done hfields hd hnone hzero))

/-! ### Register writes of the flash page (R271, R276, R277) -/

/-- The row of FLS_DQ_HEAD in the register table of the FLS page. -/
def dqHeadRow : RegRow := ⟨0x54, 1, 4, 0xfff, 0, 0, 0, 0, 0, 0⟩

/-- FLS_DQ_HEAD takes the value of a write by its access codes. -/
theorem regCmd_dqHead {a : Acc} {s : State} (v : Word) (h : regFree a 0x24054 s = true) :
    regCmd a 0x24054 v s = regDone (plainWrite dqHeadRow Reg.FLS_DQ_HEAD v s) := by
  refine regCmd_free v h _ ?_
  rw [regWrite_block v .fls h (by decide) (by decide)]
  rfl

/-- A write by access codes sets a field whose bits are all RW, from bit 0 on. -/
theorem rf_plainWrite_dqHead (v : Word) (s : State) :
    (plainWrite dqHeadRow Reg.FLS_DQ_HEAD v s).rf Reg.FLS_DQ_HEAD 0 12 = fld v 0 12 := by
  have hfld : ∀ w : Word, fld w 0 12 = (w.setWidth 12).toNat := fun w => by rw [fld, Nat.shiftRight_zero, BitVec.toNat_setWidth]
  have hrw : (w32 dqHeadRow.rw).setWidth 12 = BitVec.allOnes 12 := by decide
  have hw1c : (w32 dqHeadRow.w1c).setWidth 12 = 0#12 := by decide
  have hw1s : (w32 dqHeadRow.w1s).setWidth 12 = 0#12 := by decide
  simp only [State.rf, plainWrite, State.rg_wrg_self, hfld, BitVec.setWidth_or, BitVec.setWidth_and,
    BitVec.setWidth_not (show 12 ≤ 32 by decide), hrw, hw1c, hw1s, BitVec.not_allOnes, BitVec.and_zero, BitVec.and_allOnes, BitVec.zero_or,
    BitVec.not_zero, BitVec.or_zero]

/-- The word of FLS_SUSPEND: the banks, and SUSPEND (1) or RESUME (2). -/
theorem suspendWord_fields {k : Nat} (banks : BitVec 8) (hk : k < 4) :
    fld (w32 (k * 2 ^ 16 + banks.toNat)) 0 8 = banks.toNat ∧ fld (w32 (k * 2 ^ 16 + banks.toNat)) 16 2 = k := by
  have hbanks := banks.isLt
  simp only [fld, w32, BitVec.toNat_ofNat, Nat.shiftRight_eq_div_pow]
  omega

theorem flashSuspend_suspends (banks : BitVec 8) (s : State) :
    flashSuspend (w32 (1 * 2 ^ 16 + banks.toNat)) s = (bitsOf 8 banks.toNat).foldl (fun s b => suspendReq b s) s := by
  obtain ⟨hbanks, hop⟩ := suspendWord_fields (k := 1) banks (by decide)
  simp only [flashSuspend, hbanks, hop, if_true]

theorem flashSuspend_resumes (banks : BitVec 8) (s : State) :
    flashSuspend (w32 (2 * 2 ^ 16 + banks.toNat)) s = (bitsOf 8 banks.toNat).foldl (fun s b => resumeBank b s) s := by
  obtain ⟨hbanks, hop⟩ := suspendWord_fields (k := 2) banks (by decide)
  simp only [flashSuspend, hbanks, hop, Nat.reduceEqDiff, if_false, if_true]

/-! ### The fetch of a descriptor (R271, R274) -/

/-- The low field of a register reads back what was written to it. -/
theorem State.rf_wf_low (s : State) (k : Nat) {len n : Nat} (hlen : len ≤ 32) (h : n < 2 ^ len) : (s.wf k 0 len n).rf k 0 len = n := by
  have hold := Nat.div_add_mod (s.rg k).toNat (2 ^ len)
  have hput : (s.rg k).toNat - (s.rg k).toNat % 2 ^ len + n = 2 ^ len * ((s.rg k).toNat / 2 ^ len) + n := by omega
  simp only [State.rf, State.wf, State.rg_wrg_self, fld, setFld, Nat.shiftRight_zero, Nat.shiftLeft_zero, BitVec.toNat_ofNat,
    Nat.mod_eq_of_lt h, hput]
  rw [Nat.mod_mod_of_dvd _ (Nat.pow_dvd_pow 2 hlen), Nat.mul_add_mod, Nat.mod_eq_of_lt h]

theorem State.rf_withFls (s : State) (x : Fls) (k lo len : Nat) : { s with fls := x }.rf k lo len = s.rf k lo len := rfl

theorem ringLog_le (s : State) : ringLog s ≤ 12 := by
  unfold ringLog
  omega

theorem descIn_of_mem {s t : State} (h : memOf t = memOf s) (tail a : Nat) : descIn t tail a = descIn s tail a := by
  simp only [descIn, readLe_of_mem h]

/-- A descriptor whose opcode R273 lists joins the fetched ones, and TAIL moves on. -/
theorem dqTake_known {d : Desc} (next : Nat) (s : State) (hlow : 1 ≤ d.op) (hhigh : d.op ≤ 10) :
    dqTake d next s = { s.wf Reg.FLS_DQ_TAIL 0 12 next with
      fls := { (s.wf Reg.FLS_DQ_TAIL 0 12 next).fls with descs := (s.wf Reg.FLS_DQ_TAIL 0 12 next).fls.descs ++ [d] } } :=
  if_neg (by omega)

/-- A queue that runs, is not at its HEAD and has its descriptor near fetches it where no word of memory is bad. -/
theorem dqFetch_takes {s : State} {tail : Nat} (htail : tail = s.rf Reg.FLS_DQ_TAIL 0 12 % 2 ^ ringLog s)
    (hruns : s.rb Reg.FLS_DQ_CTRL 31 = true) (hmore : s.rf Reg.FLS_DQ_HEAD 0 12 % 2 ^ ringLog s ≠ tail)
    (hnear : ∀ d, s.fls.descs.head? = some d → (tail + 2 ^ ringLog s - d.idx) % 2 ^ ringLog s ≤ 16) (hawake : s.fls.paused = none)
    (hgoes : s.fls.stopReset = false) (hmode : [Mode.safe, .nap, .hibernate].contains s.mode = false)
    (hring : inUserMem (s.rg64 Reg.FLS_DQ_BASE) (32 * 2 ^ ringLog s) = true) (hbad : s.ram.bad = []) :
    dqFetch .none s = dqTake (descIn s tail (s.rg64 Reg.FLS_DQ_BASE + 32 * tail)) ((tail + 1) % 2 ^ ringLog s)
      (memTouch (s.rg64 Reg.FLS_DQ_BASE + 32 * tail) 32 s) := by
  have hwakes : (s.mode == .safe) = false ∧ (s.mode == .nap) = false ∧ (s.mode == .hibernate) = false := by simpa using hmode
  obtain ⟨hsafe, hnap, hhibernate⟩ := hwakes
  have hhead : (s.rf Reg.FLS_DQ_HEAD 0 12 % 2 ^ ringLog s == tail) = false := beq_eq_false_iff_ne.mpr hmore
  have hcheck := memCheck_sound FLS_SOURCE (s.rg64 Reg.FLS_DQ_BASE + 32 * tail) 32
    (memTouch_bad (s.rg64 Reg.FLS_DQ_BASE + 32 * tail) 32 hbad)
  unfold dqFetch
  simp only [← htail, hruns, hhead, hawake, hgoes, hsafe, hnap, hhibernate, hring, hcheck, descIn_of_mem (memTouch_mem _ _ s),
    Option.isSome_none, Bool.not_true, Bool.or_false, Bool.false_or, Bool.false_eq_true, if_false]
  refine if_neg ?_
  split
  case h_1 d hd => exact fun hfar => Nat.not_lt.mpr (hnear d hd) (of_decide_eq_true hfar)
  case h_2 => exact Bool.false_ne_true

/-! ### Reads (R266, R269) -/

theorem zoneOf_flash {a : Nat} (h : a < 0x04000000) : zoneOf a = .flash := if_pos h

theorem flashCheck_sound (a n : Nat) {s : State} (h : s.ram.bad = []) : flashCheck a n .none s = (s, true) := by
  simp only [flashCheck, h, List.find?_nil]

/-- A line served by the prefetch lines or the branch cache changes their order of use only. -/
theorem flashHit_ram {line : Nat} {s t : State} (h : flashHit line s = some t) : t.ram = s.ram := by
  unfold flashHit at h
  dsimp only at h
  split at h
  · cases h
    rfl
  · exact nomatch h

theorem flashLines_ram {a n : Nat} {s t : State} (h : flashLines a n s = some t) : t.ram = s.ram := by
  refine List.foldlRecOn (motive := fun o : Option State => ∀ u, o = some u → u.ram = s.ram) _ _ (fun u hu => ?_)
    (fun o ho k _ u hu => ?_) t h
  · cases hu
    rfl
  · obtain ⟨v, hv, hhit⟩ := Option.bind_eq_some_iff.mp hu
    exact (flashHit_ram hhit).trans (ho v hv)

/-- A location that is not busy answers its bytes where no word of memory is bad; lines that serve it are the most recently used (R269). -/
theorem flashGet_idle {a : Nat} (n : Nat) {s : State} (haddr : a < 0x04000000) (hidle : flashBusy s a = false) (hbad : s.ram.bad = []) :
    flashGet a n .none s = ((flashLines a n (fitFlash (bankAt a) s)).getD (fitFlash (bankAt a) s), .okay, readLe s a n) := by
  have hfit : flashBusy (fitFlash (bankAt a) s) a = false := by
    simpa only [flashBusy, fbank_of_fls (fitFlash_fls (bankAt a) s)] using hidle
  have hsound : ((flashLines a n (fitFlash (bankAt a) s)).getD (fitFlash (bankAt a) s)).ram.bad = [] := by
    cases hlines : flashLines a n (fitFlash (bankAt a) s) with
    | none => exact fitFlash_bad _ hbad
    | some t =>
      rw [Option.getD_some, flashLines_ram hlines]
      exact fitFlash_bad _ hbad
  simp only [flashGet, haddr, hfit, ite_self, flashCheck_sound a n hsound, readLe_of_mem (fitFlash_mem _ s), Bool.false_eq_true, if_true,
    if_false]

theorem flashRead_idle {i : Initiator} {a n : Nat} {s : State} (hsends : sends s i = true) (haddr : a < 0x04000000)
    (hserved : servedAt s i .flash false true = true) (hway : wayFree i 1 a n s = true) (hidle : flashBusy s a = false)
    (hbad : s.ram.bad = []) :
    flashRead i a n .none s
      = ((flashLines a n (fitFlash (bankAt a) s)).getD (fitFlash (bankAt a) s)).answer .okay [w64 (readLe s a n)] := by
  simp only [flashRead, hsends, zoneOf_flash haddr, hserved, onWay_free _ hway, flashGet_idle n haddr hidle hbad, failSeen, Bool.not_true,
    Bool.false_eq_true, if_true, if_false]

/-! ### The refresher (R288) -/

/-- The pass that is owed since the module passed through HOLD. -/
theorem flashPass_owed {s : State} (hot : Bool) (howed : s.fls.rfLast = none)
    (hmode : [Mode.run, .service, .doze, .safe].contains s.mode = true) (hidle : s.fls.rfOn = false) :
    flashPass hot s = { noteHot hot s with
      fls := { s.fls with rfOn := true, rfUnit := 0, rfCount := 0, rfLast := some s.ovl.activeNs } } := by
  have hmodes : s.mode = .run ∨ s.mode = .service ∨ s.mode = .doze ∨ s.mode = .safe := by simpa using hmode
  obtain hm | hm | hm | hm := hmodes <;>
    simp only [flashPass, noteHot, howed, hm, hidle, Bool.not_false, Bool.and_self, if_true]

/-- A sector of the pass whose bank is idle and not held, in RUN. -/
structure SectorDue (s : State) : Prop where
  on : s.fls.rfOn = true
  runs : opMode s = .run
  awake : s.fls.paused = none
  sector : s.fls.rfUnit < 1024
  idle : (fbank s (s.fls.rfUnit / 128)).st = 0
  unheld : s.rb Reg.FLS_REFRESH_HOLD (s.fls.rfUnit / 128) = false

/-- A finished copy is switched to. -/
theorem SectorDue.switches {s : State} (h : SectorDue s) {v p : Nat} (differs : Bool) (e : Ecc) (hcopy : s.fls.rfCopy = some (v, p)) :
    flashRefreshStep differs e s = refreshSwitch v p s := by
  simp only [flashRefreshStep, unitBank, h.on, h.runs, h.awake, h.sector, h.idle, h.unheld, hcopy, Option.isSome_none, bne_self_eq_false,
    Bool.not_true, Bool.or_self, Bool.false_eq_true, if_true, if_false]

/-- With no word of memory bad, reading a sector reports none. -/
theorem refreshReads_sound (a n : Nat) {s : State} (h : s.ram.bad = []) : refreshReads a n .none s = s.bump := by
  simp only [refreshReads, h, List.filter_nil]
  rfl

/-- A sector with nothing to correct moves the pass on. -/
theorem SectorDue.passes {s : State} (h : SectorDue s) (hcopy : s.fls.rfCopy = none) (hbad : s.ram.bad = [])
    (hsound : s.fls.weak.contains s.fls.rfUnit = false) :
    flashRefreshStep false .none s = passNext s.bump := by
  simp only [flashRefreshStep, unitBank, h.on, h.runs, h.awake, h.sector, h.idle, h.unheld, hcopy, hsound, refreshReads_sound _ _ hbad,
    Option.isSome_none, bne_self_eq_false, Bool.not_true, Bool.or_self, Bool.false_eq_true, if_true, if_false]

/-- A sector to correct is copied into a free spare. -/
theorem SectorDue.copies {s : State} (h : SectorDue s) {p : Nat} (hcopy : s.fls.rfCopy = none) (hbad : s.ram.bad = [])
    (hspare : pickSpare s.bump (s.fls.rfUnit / 128) = some p) :
    flashRefreshStep true .none s = { s.bump with fls := { s.fls with rfCopy := some (s.fls.rfUnit, p) } }.bump := by
  simp only [flashRefreshStep, unitBank, h.on, h.runs, h.awake, h.sector, h.idle, h.unheld, hcopy, hspare, refreshReads_sound _ _ hbad,
    Option.isSome_none, bne_self_eq_false, Bool.not_true, Bool.or_self, Bool.true_or, Bool.false_eq_true, if_true, if_false,
    State.bump_frame]

/-- Before the last unit the pass moves on. -/
theorem passNext_sector {s : State} (h : s.fls.rfUnit < 1024) : passNext s = { s with fls := { s.fls with rfUnit := s.fls.rfUnit + 1 } } :=
  if_neg (by omega)

/-! ### The end of the refresh holds (R290) -/

/-- A bit of a word that is cleared, among the others. -/
theorem bit_setFld_clear (w : Word) (i j : Nat) : bit (setFld w i 1 0) j = (bit w j && j != i) := by
  have hold := Nat.div_add_mod w.toNat (2 ^ i)
  have hhalf := Nat.div_add_mod (w.toNat / 2 ^ i) 2
  have hlow := Nat.mod_lt w.toNat (Nat.two_pow_pos i)
  have hword : (setFld w i 1 0).toNat = 2 ^ i * (2 * (w.toNat / 2 ^ i / 2)) + w.toNat % 2 ^ i := by
    have hlt := w.isLt
    simp only [setFld, fld, BitVec.toNat_ofNat, Nat.shiftRight_eq_div_pow, Nat.shiftLeft_eq, Nat.pow_one, Nat.zero_mod, Nat.zero_mul,
      Nat.add_zero]
    rw [Nat.mod_eq_of_lt (by omega)]
    have hmul : 2 ^ i * (w.toNat / 2 ^ i) = 2 ^ i * (2 * (w.toNat / 2 ^ i / 2)) + w.toNat / 2 ^ i % 2 * 2 ^ i := by
      conv_lhs => rw [← hhalf, Nat.mul_add, Nat.mul_comm (2 ^ i) (w.toNat / 2 ^ i % 2)]
    omega
  rw [bit, hword, Nat.testBit_two_pow_mul_add _ hlow, bit]
  obtain hj | rfl | hj := Nat.lt_trichotomy j i
  · rw [if_pos hj, Nat.testBit_mod_two_pow, decide_eq_true hj, Bool.true_and, bne_iff_ne.mpr (Nat.ne_of_lt hj), Bool.and_true]
  · simp [Nat.testBit_zero]
  · obtain ⟨k, rfl⟩ : ∃ k, j = i + (k + 1) := ⟨j - i - 1, by omega⟩
    rw [if_neg (by omega), Nat.add_sub_cancel_left, Nat.testBit_succ, Nat.mul_div_cancel_left _ Nat.two_pos, ← Nat.testBit_succ,
      Nat.testBit_div_two_pow, Nat.add_comm _ i, bne_iff_ne.mpr (by omega), Bool.and_true]

theorem State.rb_wb_clear (s : State) (k i j : Nat) : (s.wb k i false).rb k j = (s.rb k j && j != i) := by
  rw [State.rb, State.wb, State.wf, State.rg_wrg_self]
  exact bit_setFld_clear _ _ _

/-- A hold bit that was set 24 hours ago. -/
def holdOver (s : State) (b : Nat) : Bool :=
  s.rb Reg.FLS_REFRESH_HOLD b && decide (sget (fun _ => 0) s.fls.holdAt b + 86400000000000 ≤ s.now)

/-- A bank's hold ends where it is over: the step of `holdExpiry`. -/
def holdEnd (s : State) (b : Nat) : State := if holdOver s b then s.wb Reg.FLS_REFRESH_HOLD b false else s

theorem holdExpiry_foldl (s : State) : holdExpiry s = (List.range 8).foldl holdEnd s := rfl

theorem now_wb_hold (s : State) (b : Nat) (x : Bool) : (s.wb Reg.FLS_REFRESH_HOLD b x).now = s.now := by
  simp only [State.now, State.rg64]
  rw [State.rg_wb_ne _ _ _ (by decide), State.rg_wb_ne _ _ _ (by decide)]

theorem rb_holdEnd (s : State) (c b : Nat) :
    (holdEnd s c).rb Reg.FLS_REFRESH_HOLD b = (s.rb Reg.FLS_REFRESH_HOLD b && !(holdOver s c && b == c)) := by
  unfold holdEnd
  split
  case isTrue h => rw [State.rb_wb_clear, h, Bool.true_and, bne]
  case isFalse h => rw [Bool.not_eq_true] at h; rw [h, Bool.false_and, Bool.not_false, Bool.and_true]

theorem holdOver_holdEnd (s : State) (c b : Nat) : holdOver (holdEnd s c) b = (holdOver s b && !(holdOver s c && b == c)) := by
  have hkeep : (holdEnd s c).fls = s.fls ∧ (holdEnd s c).now = s.now := by
    unfold holdEnd
    split
    · exact ⟨rfl, now_wb_hold _ _ _⟩
    · exact ⟨rfl, rfl⟩
  simp only [holdOver, rb_holdEnd, hkeep, Bool.and_right_comm]

/-- Of the banks visited, the holds that are over end. -/
theorem rb_foldl_holdEnd (l : List Nat) (s : State) (b : Nat) :
    (l.foldl holdEnd s).rb Reg.FLS_REFRESH_HOLD b = (s.rb Reg.FLS_REFRESH_HOLD b && !(holdOver s b && decide (b ∈ l))) := by
  induction l generalizing s with
  | nil => simp only [List.foldl_nil, List.not_mem_nil, decide_false, Bool.and_false, Bool.not_false, Bool.and_true]
  | cons c l ih =>
    rw [List.foldl_cons, ih, rb_holdEnd, holdOver_holdEnd]
    by_cases hbc : b = c
    · subst hbc
      cases holdOver s b <;> simp
    · simp [beq_eq_false_iff_ne.mpr hbc, hbc]

theorem foldl_holdEnd_none {l : List Nat} {s : State} (h : ∀ b ∈ l, holdOver s b = false) : l.foldl holdEnd s = s := by
  refine List.foldlRecOn (motive := fun t : State => t = s) _ _ rfl fun t ht b hb => ?_
  rw [ht, holdEnd, h b hb, if_neg Bool.false_ne_true]

/-! ### The statement on the queue, reads and the refresher -/

/-- Settles O32: each write of the page does what its register says, a fetch and a read touch memory without changing a byte, a due sector is
visited by what it needs, and of the holds those that are over end. -/
theorem flashQueueAndRefreshComplete : Obligations.FlashQueueAndRefreshComplete := by
  refine ⟨fun a s => ⟨fun value h => ?head, fun tail addr htail haddr hruns hmore hnear hawake hgoes hmode hring hbad hlow hhigh => ?fetch,
    fun h => ?run, fun h => ?stop, fun banks h => ?suspend, fun banks h => ?resume,
    fun init addr n hsends haddr hserved hway hidle hbad => ?read⟩,
    fun s => ⟨fun hot howed hmode hidle => ?pass, fun hon hruns hawake hsector hidle hunheld => ?sector, fun hnone => ?kept,
      fun b hb hheld hover => ?ends⟩⟩
  case head =>
    exact ⟨_, congrArg Host.Outcome.next (regCmd_dqHead value h), rf_plainWrite_dqHead value s, plainWrite_mem _ _ _ _⟩
  case fetch =>
    subst haddr
    have hfetch := (dqFetch_takes htail hruns hmore hnear hawake hgoes hmode hring hbad).trans (dqTake_known _ _ hlow hhigh)
    have hnext : (tail + 1) % 2 ^ ringLog s < 2 ^ 12 :=
      (Nat.mod_lt _ (Nat.two_pow_pos _)).trans_le (Nat.pow_le_pow_right Nat.two_pos (ringLog_le s))
    refine ⟨_, congrArg Host.Outcome.next hfetch, ?descs, ?tail, memTouch_mem _ _ s⟩
    case descs =>
      simp only [State.wf_frame, memTouch_fls]
      rfl
    case tail =>
      rw [State.rf_withFls]
      exact State.rf_wf_low _ _ (by decide) hnext
  case run => exact congrArg Host.Outcome.next (regCmd_acts .fls _ h (by decide) (by decide) rfl)
  case stop => exact congrArg Host.Outcome.next (regCmd_acts .fls _ h (by decide) (by decide) rfl)
  case suspend =>
    rw [← flashSuspend_suspends]
    exact congrArg Host.Outcome.next (regCmd_acts .fls _ h (by decide) (by decide) rfl)
  case resume =>
    rw [← flashSuspend_resumes]
    exact congrArg Host.Outcome.next (regCmd_acts .fls _ h (by decide) (by decide) rfl)
  case read => exact congrArg Host.Outcome.next (flashRead_idle hsends haddr hserved hway hidle hbad)
  case pass => exact congrArg Host.Outcome.next (flashPass_owed hot howed hmode hidle)
  case sector =>
    have hdue : SectorDue s := ⟨hon, hruns, hawake, hsector, hidle, hunheld⟩
    exact ⟨fun hcopy hbad hsound => congrArg Host.Outcome.next ((hdue.passes hcopy hbad hsound).trans (passNext_sector hsector)),
      fun p hcopy hbad hspare => congrArg Host.Outcome.next (hdue.copies hcopy hbad hspare),
      fun v p hcopy => congrArg Host.Outcome.next (hdue.switches false .none hcopy)⟩
  case kept =>
    refine congrArg Host.Outcome.next (foldl_holdEnd_none fun b hb => ?_)
    rw [holdOver, Bool.and_eq_false_imp]
    exact fun hheld => decide_eq_false (Nat.not_le.mpr (hnone b (List.mem_range.mp hb) hheld))
  case ends =>
    refine ⟨_, rfl, (rb_foldl_holdEnd (List.range 8) s b).trans ?_⟩
    simp only [holdOver, hheld, hover, List.mem_range, hb, decide_true, Bool.and_self, Bool.not_true,
      Bool.and_false]

end Sys2Proof.Machine
end

section
/-!
PROOFS of the statements on every step (95_what_each_step_holds.md): a step is the front command's meaning (O1), the commands that store nothing
(O5), and the canonical form of memory, at reset and through every step (O3, O4).
-/

namespace Sys2Proof.Machine

open Sys2Proof

/-! ### Memory through the commands -/

/-- A command that stores nothing leaves memory as it is: what its own law says. -/
theorem exec_mem {c : Instr} {s t : State} (h : storesNothing c = true) (he : exec c s = .next t) : memOf t = memOf s := by
  cases c with
  | sealPoint => exact execSealPoint_mem _ _ _ he
  | snapshotCapture => exact execSnapshotCapture_mem _ _ he
  | bramGuardedRead => exact execBramGuardedRead_mem _ _ _ _ _ _ he
  | bramRepair => exact execBramRepair_mem _ _ _ _ he
  | dllStep => exact execDllStep_mem _ _ _ _ he
  | dllStepDone => exact execDllStepDone_mem _ _ _ he
  | dllAligned => exact execDllAligned_mem _ _ _ he
  | dllUnlock => exact execDllUnlock_mem _ _ _ he
  | globalBufferEnable => exact execGlobalBufferEnable_mem _ _ _ _ he
  | globalBufferSelect => exact execGlobalBufferSelect_mem _ _ _ _ he
  | needleEdge => exact execNeedleEdge_mem _ _ _ he
  | paramCapture => exact execParamCapture_mem _ _ _ he
  | targetPortResponse => exact execTargetPortResponse_mem _ _ _ _ _ _ he
  | targetPortTimeout => exact execTargetPortTimeout_mem _ _ _ he
  | partnerFrameRx => exact execPartnerFrameRx_mem _ _ _ _ _ he
  | partnerFrameTx => exact execPartnerFrameTx_mem _ _ _ he
  | linkUpChange => exact execLinkUpChange_mem _ _ _ _ he
  | sweepStart => exact execSweepStart_mem _ _ _ he
  | sweepOverrun => exact execSweepOverrun_mem _ _ _ he
  | refreshPassStart => exact execRefreshPassStart_mem _ _ _ he
  | interruptTaken => exact execInterruptTaken_mem _ _ _ he
  | mtimecmpMatch => exact execMtimecmpMatch_mem _ _ _ he
  | dispatch => exact execDispatch_mem _ _ _ _ he
  | quantumExpiry => exact execQuantumExpiry_mem _ _ _ he
  | threadCmdDone => exact execThreadCmdDone_mem _ _ he
  | spill => exact execSpill_mem _ _ he
  | refill => exact execRefill_mem _ _ he
  | spoolSearch => exact execSpoolSearch_mem _ _ _ he
  | spoolEccRebuild => exact execSpoolEccRebuild_mem _ _ _ he
  | zeroFillSegment => exact execZeroFillSegment_mem _ _ he
  | dramRefresh => exact execDramRefresh_mem _ _ he
  | dramPowerDown => exact execDramPowerDown_mem _ _ he
  | patrolScrub => exact execPatrolScrub_mem _ _ _ he
  | errorHourRollover => exact execErrorHourRollover_mem _ _ he
  | flashRead => exact execFlashRead_mem _ _ _ _ _ _ he
  | flashRefreshPass => exact execFlashRefreshPass_mem _ _ _ he
  | refreshHoldExpiry => exact execRefreshHoldExpiry_mem _ _ he
  | flushPoint => exact execFlushPoint_mem _ _ _ he
  | queueHandshakeDone => exact execQueueHandshakeDone_mem _ _ _ he
  | queueThreshold => exact execQueueThreshold_mem _ _ _ _ he
  | forcedReset => exact execForcedReset_mem _ _ _ _ he
  | pinInputChange => exact execPinInputChange_mem _ _ _ _ _ he
  | pinMismatch => exact execPinMismatch_mem _ _ _ _ _ _ he
  | bankRailFault => exact execBankRailFault_mem _ _ _ he
  | pleatStartTime => exact execPleatStartTime_mem _ _ _ he
  | pleatSlotBoundary => exact execPleatSlotBoundary_mem _ _ _ he
  | pleatSample => exact execPleatSample_mem _ _ _ he
  | pleatFrameEnd => exact execPleatFrameEnd_mem _ _ _ he
  | tteFire => exact execTteFire_mem _ _ _ he
  | perst => exact execPerst_mem _ _ _ _ he
  | linkDown => exact execLinkDown_mem _ _ he
  | linkUp => exact execLinkUp_mem _ _ _ _ he
  | qCmd => exact execQCmd_mem _ _ _ he
  | sRecv => exact execSRecv_mem _ _ _ he
  | portStatus => exact execPortStatus_mem _ _ _ he
  | qspiAbort => exact execQspiAbort_mem _ _ _ he
  | updateDone => exact execUpdateDone_mem _ _ _ he
  | lockLost => exact execLockLost_mem _ _ _ _ he
  | refLost => exact execRefLost_mem _ _ _ _ he
  | refRestored => exact execRefRestored_mem _ _ _ _ he
  | lockTimeout => exact execLockTimeout_mem _ _ _ he
  | xoReady => exact execXoReady_mem _ _ _ he
  | rcFallback => exact execRcFallback_mem _ _ _ he
  | xo32Fail => exact execXo32Fail_mem _ _ he
  | timNowRead => exact execTimNowRead_mem _ _ _ _ he
  | steerEnd => exact execSteerEnd_mem _ _ he
  | compareMatch => exact execCompareMatch_mem _ _ _ he
  | wdgWarn => exact execWdgWarn_mem _ _ _ he
  | overvolt => exact execOvervolt_mem _ _ he
  | vholdOk => exact execVholdOk_mem _ _ _ he
  | vholdAbsent => exact execVholdAbsent_mem _ _ _ he
  | phaseAdd => exact execPhaseAdd_mem _ _ _ he
  | phaseShed => exact execPhaseShed_mem _ _ _ he
  | powerMonitorSample => exact execPowerMonitorSample_mem _ _ _ _ _ _ _ he
  | overBudget => exact execOverBudget_mem _ _ he
  | wakeEvent => exact execWakeEvent_mem _ _ _ _ he
  | wakeAtReached => exact execWakeAtReached_mem _ _ he
  | idcode => exact execIdcode_mem _ _ he
  | samplePreload => exact execSamplePreload_mem _ _ _ he
  | extest => exact execExtest_mem _ _ _ he
  | clamp => exact execClamp_mem _ _ he
  | highz => exact execHighz_mem _ _ he
  | lcStatus => exact execLcStatus_mem _ _ he
  | dtmcs => exact execDtmcs_mem _ _ he
  | bypass => exact execBypass_mem _ _ he
  | challengeExpiry => exact execChallengeExpiry_mem _ _ he
  | sliceStart => exact execSliceStart_mem _ _ he
  | roundStart => exact execRoundStart_mem _ _ he
  | windowOpen => exact execWindowOpen_mem _ _ he
  | windowClose => exact execWindowClose_mem _ _ he
  | alwaysOnTick => exact execAlwaysOnTick_mem _ _ he
  | flashRefreshSector => exact execFlashRefreshSector_mem _ _ _ _ he
  | aerError => exact execAerError_mem _ _ _ _ _ he
  | _ => exact nomatch h

/-- Every command keeps memory canonical: one that stores nothing leaves it as it is, any other by its own law. -/
theorem exec_wf {c : Instr} {s t : State} (hw : Memory.wf (memOf s) = true) (he : exec c s = .next t) : Memory.wf (memOf t) = true := by
  by_cases hc : storesNothing c = true
  · rw [exec_mem hc he]
    exact hw
  cases c with
  | registerWrite => exact execRegisterWrite_wf _ _ _ _ _ hw _ he
  | stagingWrite => exact execStagingWrite_wf _ _ _ _ hw _ he
  | commitNow => exact execCommitNow_wf _ _ hw _ he
  | commitAt => exact execCommitAt_wf _ _ hw _ he
  | discard => exact execDiscard_wf _ _ hw _ he
  | applyTick => exact execApplyTick_wf _ hw _ he
  | takeNow => exact execTakeNow_wf _ _ hw _ he
  | takeAt => exact execTakeAt_wf _ _ hw _ he
  | release => exact execRelease_wf _ _ hw _ he
  | softReset => exact execSoftReset_wf _ _ _ _ hw _ he
  | ctrlEnableWrite => exact execCtrlEnableWrite_wf _ _ _ _ hw _ he
  | irqSet => exact execIrqSet_wf _ _ _ _ hw _ he
  | pageLock => exact execPageLock_wf _ _ _ hw _ he
  | rd => exact execRd_wf _ _ hw _ he
  | wrP => exact execWrP_wf _ _ hw _ he
  | wrNp => exact execWrNp_wf _ _ hw _ he
  | amoSwap => exact execAmoSwap_wf _ _ _ hw _ he
  | amoAdd => exact execAmoAdd_wf _ _ _ hw _ he
  | amoCas => exact execAmoCas_wf _ _ _ hw _ he
  | targetPortAccess => exact execTargetPortAccess_wf _ _ hw _ he
  | boltOff => exact execBoltOff_wf _ _ _ hw _ he
  | planeWrite => exact execPlaneWrite_wf _ _ _ hw _ he
  | planeWriteDone => exact execPlaneWriteDone_wf _ _ hw _ he
  | patAbort => exact execPatAbort_wf _ _ hw _ he
  | planeErase => exact execPlaneErase_wf _ _ _ hw _ he
  | swap => exact execSwap_wf _ _ _ _ hw _ he
  | swapAt => exact execSwapAt_wf _ _ _ _ hw _ he
  | swapAtStart => exact execSwapAtStart_wf _ hw _ he
  | confirm => exact execConfirm_wf _ _ hw _ he
  | baste => exact execBaste_wf _ _ hw _ he
  | basAbort => exact execBasAbort_wf _ _ hw _ he
  | restore => exact execRestore_wf _ _ hw _ he
  | sweepFrameCheck => exact execSweepFrameCheck_wf _ _ _ _ _ hw _ he
  | regionResetRelease => exact execRegionResetRelease_wf _ _ hw _ he
  | refreshFrameCheck => exact execRefreshFrameCheck_wf _ _ _ _ hw _ he
  | overlockVoteError => exact execOverlockVoteError_wf _ _ hw _ he
  | ovlInject => exact execOvlInject_wf _ _ _ _ _ hw _ he
  | instructionExecute => exact execInstructionExecute_wf _ _ _ hw _ he
  | instructionFetch => exact execInstructionFetch_wf _ _ _ hw _ he
  | loadStore => exact execLoadStore_wf _ _ hw _ he
  | atomicAccess => exact execAtomicAccess_wf _ _ _ _ _ _ _ _ hw _ he
  | writeBufferDrain => exact execWriteBufferDrain_wf _ _ hw _ he
  | fence => exact execFence_wf _ _ _ _ _ hw _ he
  | fenceI => exact execFenceI_wf _ _ _ hw _ he
  | wfi => exact execWfi_wf _ _ _ hw _ he
  | csrAccess => exact execCsrAccess_wf _ _ _ _ _ _ _ _ hw _ he
  | coreStart => exact execCoreStart_wf _ _ _ hw _ he
  | icacheInvalidate => exact execIcacheInvalidate_wf _ _ _ hw _ he
  | clusterOff => exact execClusterOff_wf _ _ _ hw _ he
  | dbReady => exact execDbReady_wf _ _ _ _ _ hw _ he
  | dbYield => exact execDbYield_wf _ _ _ _ _ hw _ he
  | waitEventReady => exact execWaitEventReady_wf _ _ _ _ _ hw _ he
  | waitEventFlagsAny => exact execWaitEventFlagsAny_wf _ _ _ _ _ hw _ he
  | waitEventFlagsAll => exact execWaitEventFlagsAll_wf _ _ _ _ _ hw _ he
  | waitEventSem => exact execWaitEventSem_wf _ _ _ _ _ hw _ he
  | waitTimeout => exact execWaitTimeout_wf _ _ _ _ _ hw _ he
  | semPost => exact execSemPost_wf _ _ _ _ _ hw _ he
  | flagsSet => exact execFlagsSet_wf _ _ _ _ _ hw _ he
  | flagsClear => exact execFlagsClear_wf _ _ _ _ _ hw _ he
  | dbSuspend => exact execDbSuspend_wf _ _ _ _ _ hw _ he
  | dbCancel => exact execDbCancel_wf _ _ _ _ _ hw _ he
  | dispatchPointSwitch => exact execDispatchPointSwitch_wf _ _ _ hw _ he
  | timeoutExpiry => exact execTimeoutExpiry_wf _ _ _ hw _ he
  | init => exact execInit_wf _ _ _ hw _ he
  | free => exact execFree_wf _ _ _ hw _ he
  | read => exact execRead_wf _ _ _ hw _ he
  | setPrio => exact execSetPrio_wf _ _ _ hw _ he
  | setAffinity => exact execSetAffinity_wf _ _ _ hw _ he
  | setPin => exact execSetPin_wf _ _ _ hw _ he
  | bobMakeReady => exact execBobMakeReady_wf _ _ _ _ hw _ he
  | bobCancel => exact execBobCancel_wf _ _ _ hw _ he
  | objRead => exact execObjRead_wf _ _ _ _ hw _ he
  | objWrite => exact execObjWrite_wf _ _ _ _ hw _ he
  | eventIntake => exact execEventIntake_wf _ _ hw _ he
  | bobBind => exact execBobBind_wf _ _ _ hw _ he
  | overflowRecovery => exact execOverflowRecovery_wf _ _ hw _ he
  | sramAccess => exact execSramAccess_wf _ _ _ _ _ _ _ _ hw _ he
  | dramAccess => exact execDramAccess_wf _ _ _ _ _ _ _ _ hw _ he
  | dqHeadWrite => exact execDqHeadWrite_wf _ _ _ hw _ he
  | dqFetch => exact execDqFetch_wf _ _ hw _ he
  | dqRun => exact execDqRun_wf _ _ hw _ he
  | dqStop => exact execDqStop_wf _ _ hw _ he
  | program => exact execProgram_wf _ _ _ hw _ he
  | erase => exact execErase_wf _ _ _ hw _ he
  | blankCheck => exact execBlankCheck_wf _ _ _ hw _ he
  | verify => exact execVerify_wf _ _ _ hw _ he
  | markBad => exact execMarkBad_wf _ _ _ hw _ he
  | optErase => exact execOptErase_wf _ _ hw _ he
  | optProgram => exact execOptProgram_wf _ _ hw _ he
  | slotBegin => exact execSlotBegin_wf _ _ hw _ he
  | slotCommit => exact execSlotCommit_wf _ _ hw _ he
  | flashFenceDesc => exact execFlashFenceDesc_wf _ _ hw _ he
  | flashOpComplete => exact execFlashOpComplete_wf _ _ _ _ hw _ he
  | flashSuspend => exact execFlashSuspend_wf _ _ _ hw _ he
  | flashResume => exact execFlashResume_wf _ _ _ hw _ he
  | quePush => exact execQuePush_wf _ _ _ _ _ hw _ he
  | quePop => exact execQuePop_wf _ _ _ _ hw _ he
  | quePeek => exact execQuePeek_wf _ _ _ _ hw _ he
  | mark => exact execMark_wf _ _ _ _ hw _ he
  | rewind => exact execRewind_wf _ _ _ _ hw _ he
  | clearMark => exact execClearMark_wf _ _ _ _ hw _ he
  | flush => exact execFlush_wf _ _ _ _ hw _ he
  | flushForce => exact execFlushForce_wf _ _ _ _ hw _ he
  | queueReset => exact execQueueReset_wf _ _ _ hw _ he
  | queCfgWrite => exact execQueCfgWrite_wf _ _ _ _ hw _ he
  | pinMuxWrite => exact execPinMuxWrite_wf _ _ _ _ hw _ he
  | pinOutSet => exact execPinOutSet_wf _ _ _ _ _ hw _ he
  | pinOutClr => exact execPinOutClr_wf _ _ _ _ _ hw _ he
  | railRetry => exact execRailRetry_wf _ _ _ hw _ he
  | start => exact execStart_wf _ _ _ hw _ he
  | startAt => exact execStartAt_wf _ _ _ hw _ he
  | stop => exact execStop_wf _ _ _ hw _ he
  | halt => exact execHalt_wf _ _ _ hw _ he
  | pltTteArm => exact execPltTteArm_wf _ _ _ hw _ he
  | pltTteCancel => exact execPltTteCancel_wf _ _ _ hw _ he
  | pnlReset => exact execPnlReset_wf _ _ _ hw _ he
  | pnlHold => exact execPnlHold_wf _ _ hw _ he
  | bar0Access => exact execBar0Access_wf _ _ hw _ he
  | bar4Access => exact execBar4Access_wf _ _ hw _ he
  | pcieConfigAccess => exact execPcieConfigAccess_wf _ _ _ _ _ hw _ he
  | mbxInLen => exact execMbxInLen_wf _ _ _ _ hw _ he
  | mbxOutDone => exact execMbxOutDone_wf _ _ _ hw _ he
  | flr => exact execFlr_wf _ _ hw _ he
  | qspiRdReg => exact execQspiRdReg_wf _ _ hw _ he
  | qspiWrReg => exact execQspiWrReg_wf _ _ hw _ he
  | qPush => exact execQPush_wf _ _ hw _ he
  | qPop => exact execQPop_wf _ _ hw _ he
  | sSend => exact execSSend_wf _ _ hw _ he
  | wrMem => exact execWrMem_wf _ _ hw _ he
  | rdMem => exact execRdMem_wf _ _ hw _ he
  | relock => exact execRelock_wf _ _ _ hw _ he
  | hop => exact execHop_wf _ _ _ _ hw _ he
  | store => exact execStore_wf _ _ _ _ hw _ he
  | clear => exact execClear_wf _ _ _ _ hw _ he
  | clkUpdate => exact execClkUpdate_wf _ _ _ hw _ he
  | pllLock => exact execPllLock_wf _ _ hw _ he
  | compareWrite => exact execCompareWrite_wf _ _ _ _ hw _ he
  | wdgCoreKick => exact execWdgCoreKick_wf _ _ _ _ _ hw _ he
  | wdgPanelKick => exact execWdgPanelKick_wf _ _ _ hw _ he
  | wdgSysKick => exact execWdgSysKick_wf _ _ _ hw _ he
  | wdgSysEnable => exact execWdgSysEnable_wf _ _ _ _ hw _ he
  | coreWdgExpiry => exact execCoreWdgExpiry_wf _ _ _ hw _ he
  | panelWdgExpiry => exact execPanelWdgExpiry_wf _ _ _ hw _ he
  | sysWdgExpiry => exact execSysWdgExpiry_wf _ _ hw _ he
  | moduleReset => exact execModuleReset_wf _ hw _ he
  | powerOnStart => exact execPowerOnStart_wf _ _ hw _ he
  | railStartFail => exact execRailStartFail_wf _ _ hw _ he
  | resetN => exact execResetN_wf _ _ hw _ he
  | brownOut => exact execBrownOut_wf _ hw _ he
  | hibernateBrownOut => exact execHibernateBrownOut_wf _ hw _ he
  | ilimit => exact execIlimit_wf _ hw _ he
  | railOutOfWindow => exact execRailOutOfWindow_wf _ _ hw _ he
  | aonBrownOut => exact execAonBrownOut_wf _ hw _ he
  | modeReqDoze => exact execModeReqDoze_wf _ _ hw _ he
  | modeReqNap => exact execModeReqNap_wf _ _ hw _ he
  | modeReqHibernate => exact execModeReqHibernate_wf _ _ hw _ he
  | modeReqSafe => exact execModeReqSafe_wf _ _ hw _ he
  | modeReqRun => exact execModeReqRun_wf _ _ hw _ he
  | dozeEntry => exact execDozeEntry_wf _ hw _ he
  | dozeWake => exact execDozeWake_wf _ hw _ he
  | napEntry => exact execNapEntry_wf _ hw _ he
  | napWake => exact execNapWake_wf _ hw _ he
  | hibernateEntry => exact execHibernateEntry_wf _ hw _ he
  | hibernateWake => exact execHibernateWake_wf _ _ hw _ he
  | hibernateWakeRetry => exact execHibernateWakeRetry_wf _ _ hw _ he
  | timedWake => exact execTimedWake_wf _ hw _ he
  | progSign => exact execProgSign_wf _ _ _ hw _ he
  | revokeSign => exact execRevokeSign_wf _ _ _ hw _ he
  | progDkey => exact execProgDkey_wf _ _ _ hw _ he
  | revokeDkey => exact execRevokeDkey_wf _ _ _ hw _ he
  | attest => exact execAttest_wf _ _ hw _ he
  | enrolWrite => exact execEnrolWrite_wf _ _ _ hw _ he
  | enrolEnable => exact execEnrolEnable_wf _ _ _ hw _ he
  | enrolDisable => exact execEnrolDisable_wf _ _ _ hw _ he
  | enrolErase => exact execEnrolErase_wf _ _ _ hw _ he
  | enrolRead => exact execEnrolRead_wf _ _ _ hw _ he
  | hello => exact execHello_wf _ _ _ hw _ he
  | finish => exact execFinish_wf _ _ _ hw _ he
  | alert => exact execAlert_wf _ _ hw _ he
  | dataFrame => exact execDataFrame_wf _ _ _ _ hw _ he
  | handshakeTimeout => exact execHandshakeTimeout_wf _ _ hw _ he
  | sessionIdle => exact execSessionIdle_wf _ _ hw _ he
  | sesTxCmd => exact execSesTxCmd_wf _ _ _ _ hw _ he
  | sesRxFree => exact execSesRxFree_wf _ _ _ _ hw _ he
  | sesClose => exact execSesClose_wf _ _ _ hw _ he
  | transition => exact execTransition_wf _ _ _ hw _ he
  | progToken => exact execProgToken_wf _ _ _ hw _ he
  | serviceOpen => exact execServiceOpen_wf _ _ hw _ he
  | serviceEnd => exact execServiceEnd_wf _ _ hw _ he
  | lcTransition => exact execLcTransition_wf _ _ _ _ hw _ he
  | lcChallenge => exact execLcChallenge_wf _ _ _ _ _ _ hw _ he
  | lcResponse => exact execLcResponse_wf _ _ _ _ hw _ he
  | dmi => exact execDmi_wf _ _ _ _ _ hw _ he
  | trstN => exact execTrstN_wf _ hw _ he
  | grantExpiry => exact execGrantExpiry_wf _ hw _ he
  | sliceDone => exact execSliceDone_wf _ _ _ _ _ _ _ hw _ he
  | runOne => exact execRunOne_wf _ _ _ _ _ hw _ he
  | runUnit => exact execRunUnit_wf _ _ _ _ hw _ he
  | abortAll => exact execAbortAll_wf _ _ hw _ he
  | tempSample => exact execTempSample_wf _ _ _ hw _ he
  | localSupplyFault => exact execLocalSupplyFault_wf _ _ _ hw _ he
  | faultLog => exact execFaultLog_wf _ hw _ he
  | fltAck => exact execFltAck_wf _ _ hw _ he
  | tick => exact execTick_wf _ hw _ he
  | selvagePowerLoss => exact execSelvagePowerLoss_wf _ hw _ he
  | msixTableWrite => exact execMsixTableWrite_wf _ _ _ _ hw _ he
  | _ => exact absurd rfl hc

/-! ### The statements -/

/-- Settles O1: the two cases of a step, one for each form of the queue. -/
theorem stepRunsTheFrontCommand : Obligations.StepRunsTheFrontCommand := by
  intro s
  refine ⟨fun c rest h => ?_, fun h => ?_⟩
  · simp only [step, h]
  · simp only [step, h]

/-- Settles O3: the empty list is canonical. -/
theorem resetMemoryCanonical : Obligations.ResetMemoryCanonical := ⟨rfl, rfl⟩

/-- Settles O5: a command that stores nothing leaves memory as it is, and a byte reads what memory holds. -/
theorem commandsThatStoreNothing : Obligations.CommandsThatStoreNothing :=
  fun _ _ _ hc he => readByte_of_mem (exec_mem hc he)

/-- Settles O4: an idle step changes nothing, and the command of any other keeps memory canonical, from the same memory. -/
theorem stepKeepsMemoryCanonical : Obligations.StepKeepsMemoryCanonical := by
  intro s t hw h
  obtain ⟨hfront, hidle⟩ := stepRunsTheFrontCommand s
  cases hq : s.pending with
  | nil =>
    rw [hidle hq, Host.Outcome.next.injEq] at h
    exact h ▸ hw
  | cons c rest =>
    rw [hfront c rest hq] at h
    exact exec_wf (s := { s with pending := rest }) hw h

end Sys2Proof.Machine
end

section
/-!
PROOFS. What the reports that many commands make leave as it is: the scan of the hosts' interrupt lines, an interrupt source, a fault, an event
of Bobbin. Each changes registers and the one record that it is noted in. And
the fields of a register word, and a register write by its page and offset.
-/

namespace Sys2Proof.Machine

open Sys2Proof

/-- The hosts' interrupt lines (R369, R370): the fields that stay. -/
@[simp] theorem hstScan_frame (s : State) :
    (hstScan s).mode = s.mode ∧ (hstScan s).prevMode = s.prevMode ∧ (hstScan s).regs = s.regs ∧ (hstScan s).shadow = s.shadow
    ∧ (hstScan s).mem = s.mem ∧ (hstScan s).ans = s.ans ∧ (hstScan s).fresh = s.fresh ∧ (hstScan s).seam = s.seam ∧ (hstScan s).fab = s.fab
    ∧ (hstScan s).pat = s.pat ∧ (hstScan s).flt = s.flt ∧ (hstScan s).sensors = s.sensors ∧ (hstScan s).thm = s.thm
    ∧ (hstScan s).ovl = s.ovl ∧ (hstScan s).pins = s.pins ∧ (hstScan s).banks = s.banks ∧ (hstScan s).plt = s.plt
    ∧ (hstScan s).optRec = s.optRec ∧ (hstScan s).lcs = s.lcs ∧ (hstScan s).cores = s.cores ∧ (hstScan s).bob = s.bob
    ∧ (hstScan s).ram = s.ram ∧ (hstScan s).fls = s.fls ∧ (hstScan s).ques = s.ques ∧ (hstScan s).clk = s.clk ∧ (hstScan s).tim = s.tim
    ∧ (hstScan s).pwr = s.pwr ∧ (hstScan s).ses = s.ses ∧ (hstScan s).dm = s.dm ∧ (hstScan s).fit = s.fit
    ∧ (hstScan s).strapPort = s.strapPort ∧ (hstScan s).pending = s.pending := by
  obtain ⟨h, hs⟩ := hstScan_hst s
  rw [hs]
  and_intros <;> rfl

/-- An interrupt source: the fields that stay, beside the mode and the planes. -/
@[simp] theorem irq_frame (page n : Nat) (s : State) :
    (irq page n s).prevMode = s.prevMode ∧ (irq page n s).shadow = s.shadow ∧ (irq page n s).mem = s.mem ∧ (irq page n s).ans = s.ans
    ∧ (irq page n s).fresh = s.fresh ∧ (irq page n s).seam = s.seam ∧ (irq page n s).fab = s.fab ∧ (irq page n s).flt = s.flt
    ∧ (irq page n s).sensors = s.sensors ∧ (irq page n s).thm = s.thm ∧ (irq page n s).ovl = s.ovl ∧ (irq page n s).pins = s.pins
    ∧ (irq page n s).banks = s.banks ∧ (irq page n s).plt = s.plt ∧ (irq page n s).optRec = s.optRec ∧ (irq page n s).lcs = s.lcs
    ∧ (irq page n s).cores = s.cores ∧ (irq page n s).bob = s.bob ∧ (irq page n s).ram = s.ram ∧ (irq page n s).fls = s.fls
    ∧ (irq page n s).ques = s.ques ∧ (irq page n s).clk = s.clk ∧ (irq page n s).tim = s.tim ∧ (irq page n s).pwr = s.pwr
    ∧ (irq page n s).ses = s.ses ∧ (irq page n s).dm = s.dm ∧ (irq page n s).fit = s.fit ∧ (irq page n s).strapPort = s.strapPort
    ∧ (irq page n s).pending = s.pending := by
  simp only [irq, hstNotify, hstScan_frame, State.wrg_frame, and_self]

/-- A code on its way into the fault log: the fields that stay. -/
@[simp] theorem intakePush_frame (x : Intake) (s : State) :
    (intakePush x s).mode = s.mode ∧ (intakePush x s).prevMode = s.prevMode ∧ (intakePush x s).shadow = s.shadow
    ∧ (intakePush x s).mem = s.mem ∧ (intakePush x s).ans = s.ans ∧ (intakePush x s).fresh = s.fresh ∧ (intakePush x s).seam = s.seam
    ∧ (intakePush x s).fab = s.fab ∧ (intakePush x s).pat = s.pat ∧ (intakePush x s).sensors = s.sensors ∧ (intakePush x s).thm = s.thm
    ∧ (intakePush x s).ovl = s.ovl ∧ (intakePush x s).pins = s.pins ∧ (intakePush x s).banks = s.banks ∧ (intakePush x s).plt = s.plt
    ∧ (intakePush x s).optRec = s.optRec ∧ (intakePush x s).lcs = s.lcs ∧ (intakePush x s).cores = s.cores ∧ (intakePush x s).bob = s.bob
    ∧ (intakePush x s).ram = s.ram ∧ (intakePush x s).fls = s.fls ∧ (intakePush x s).ques = s.ques ∧ (intakePush x s).clk = s.clk
    ∧ (intakePush x s).tim = s.tim ∧ (intakePush x s).pwr = s.pwr ∧ (intakePush x s).hst = s.hst ∧ (intakePush x s).ses = s.ses
    ∧ (intakePush x s).dm = s.dm ∧ (intakePush x s).fit = s.fit ∧ (intakePush x s).strapPort = s.strapPort
    ∧ (intakePush x s).pending = s.pending := by
  unfold intakePush
  split <;> simp only [State.incSat_frame, and_self]

/-- A fault: the fields that stay, beside the planes. -/
@[simp] theorem raise_frame (code : Nat) (s : State) :
    (raise code s).mode = s.mode ∧ (raise code s).prevMode = s.prevMode ∧ (raise code s).shadow = s.shadow ∧ (raise code s).mem = s.mem
    ∧ (raise code s).ans = s.ans ∧ (raise code s).fresh = s.fresh ∧ (raise code s).seam = s.seam ∧ (raise code s).fab = s.fab
    ∧ (raise code s).sensors = s.sensors ∧ (raise code s).thm = s.thm ∧ (raise code s).ovl = s.ovl ∧ (raise code s).pins = s.pins
    ∧ (raise code s).banks = s.banks ∧ (raise code s).plt = s.plt ∧ (raise code s).optRec = s.optRec ∧ (raise code s).lcs = s.lcs
    ∧ (raise code s).cores = s.cores ∧ (raise code s).bob = s.bob ∧ (raise code s).ram = s.ram ∧ (raise code s).fls = s.fls
    ∧ (raise code s).ques = s.ques ∧ (raise code s).clk = s.clk ∧ (raise code s).tim = s.tim ∧ (raise code s).pwr = s.pwr
    ∧ (raise code s).hst = s.hst ∧ (raise code s).ses = s.ses ∧ (raise code s).dm = s.dm ∧ (raise code s).fit = s.fit
    ∧ (raise code s).strapPort = s.strapPort ∧ (raise code s).pending = s.pending := by
  simp only [raise, faultNote, intakePush_frame, State.wrg_frame, and_self]

/-- A fault that names a bolt: the fields that stay. -/
@[simp] theorem raiseBolt_frame (code bolt : Nat) (s : State) :
    (raiseBolt code bolt s).mode = s.mode ∧ (raiseBolt code bolt s).prevMode = s.prevMode ∧ (raiseBolt code bolt s).shadow = s.shadow
    ∧ (raiseBolt code bolt s).mem = s.mem ∧ (raiseBolt code bolt s).ans = s.ans ∧ (raiseBolt code bolt s).fresh = s.fresh
    ∧ (raiseBolt code bolt s).seam = s.seam ∧ (raiseBolt code bolt s).fab = s.fab ∧ (raiseBolt code bolt s).pat = s.pat
    ∧ (raiseBolt code bolt s).sensors = s.sensors ∧ (raiseBolt code bolt s).thm = s.thm ∧ (raiseBolt code bolt s).ovl = s.ovl
    ∧ (raiseBolt code bolt s).pins = s.pins ∧ (raiseBolt code bolt s).banks = s.banks ∧ (raiseBolt code bolt s).plt = s.plt
    ∧ (raiseBolt code bolt s).optRec = s.optRec ∧ (raiseBolt code bolt s).lcs = s.lcs ∧ (raiseBolt code bolt s).cores = s.cores
    ∧ (raiseBolt code bolt s).bob = s.bob ∧ (raiseBolt code bolt s).ram = s.ram ∧ (raiseBolt code bolt s).fls = s.fls
    ∧ (raiseBolt code bolt s).ques = s.ques ∧ (raiseBolt code bolt s).clk = s.clk ∧ (raiseBolt code bolt s).tim = s.tim
    ∧ (raiseBolt code bolt s).pwr = s.pwr ∧ (raiseBolt code bolt s).hst = s.hst ∧ (raiseBolt code bolt s).ses = s.ses
    ∧ (raiseBolt code bolt s).dm = s.dm ∧ (raiseBolt code bolt s).fit = s.fit ∧ (raiseBolt code bolt s).strapPort = s.strapPort
    ∧ (raiseBolt code bolt s).pending = s.pending := by
  simp only [raiseBolt, faultNote, intakePush_frame, State.wrg_frame, and_self]

/-- An event of Bobbin (R240): the fields that stay. -/
@[simp] theorem event_frame (n : Nat) (s : State) :
    (event n s).mode = s.mode ∧ (event n s).prevMode = s.prevMode ∧ (event n s).shadow = s.shadow ∧ (event n s).mem = s.mem
    ∧ (event n s).ans = s.ans ∧ (event n s).fresh = s.fresh ∧ (event n s).seam = s.seam ∧ (event n s).fab = s.fab ∧ (event n s).pat = s.pat
    ∧ (event n s).flt = s.flt ∧ (event n s).sensors = s.sensors ∧ (event n s).thm = s.thm ∧ (event n s).ovl = s.ovl
    ∧ (event n s).pins = s.pins ∧ (event n s).banks = s.banks ∧ (event n s).plt = s.plt ∧ (event n s).optRec = s.optRec
    ∧ (event n s).lcs = s.lcs ∧ (event n s).cores = s.cores ∧ (event n s).ram = s.ram ∧ (event n s).fls = s.fls ∧ (event n s).ques = s.ques
    ∧ (event n s).clk = s.clk ∧ (event n s).tim = s.tim ∧ (event n s).pwr = s.pwr ∧ (event n s).hst = s.hst ∧ (event n s).ses = s.ses
    ∧ (event n s).dm = s.dm ∧ (event n s).fit = s.fit ∧ (event n s).strapPort = s.strapPort ∧ (event n s).pending = s.pending := by
  unfold event
  split
  · simp only [and_self]
  · split <;> simp only [State.incSat_frame, and_self]

/-! ### Registers that a report leaves as they are -/

theorem rg_hstScan (s : State) (k : Nat) : (hstScan s).rg k = s.rg k := by
  obtain ⟨h, hs⟩ := hstScan_hst s
  rw [hs]
  rfl

theorem rg_event_ne {k : Nat} (n : Nat) (s : State) (h : k ≠ Reg.BOB_EVT_MERGED) : (event n s).rg k = s.rg k := by
  unfold event
  split
  · rfl
  · split
    · exact State.rg_incSat_ne s _ _ h
    · rfl

theorem State.rg_withFit (s : State) (x : Fit) (k : Nat) : { s with fit := x }.rg k = s.rg k := rfl

theorem State.rg_bump (s : State) (k : Nat) : s.bump.rg k = s.rg k := rfl

theorem rg_setFitUnit (c u : Nat) (y : FitUnit) (s : State) (k : Nat) : (setFitUnit c u y s).rg k = s.rg k := rfl

theorem rg_abortNoted_ne {k : Nat} (x : FitRun) (f : Fit) (s : State) (h : k < 0x50000) : (abortNoted x f s).rg k = s.rg k := by
  have hlow : k ≠ Reg.FIT_RESULT := Nat.ne_of_lt (Nat.lt_trans h (by decide))
  have hhigh : k ≠ Reg.FIT_RESULT + 4 := Nat.ne_of_lt (Nat.lt_trans h (by decide))
  unfold abortNoted
  rw [State.rg_withFit, fitResult, State.rg_wrg64_ne _ _ hlow hhigh, State.rg_bump]

/-- Slices that end write FIT_RESULT and FIT_COUNT only (R524). -/
theorem rg_abortSlices_ne {k : Nat} (p : FitRun → Bool) (s : State) (h : k < 0x50000) : (abortSlices p s).rg k = s.rg k := by
  have hcount : k ≠ Reg.FIT_COUNT := Nat.ne_of_lt (Nat.lt_trans h (by decide))
  refine List.foldlRecOn (motive := fun t : State => t.rg k = s.rg k) _ _ rfl fun t ht x _ => ?_
  obtain ⟨f, hf⟩ | ⟨f, y, hf⟩ := abortOne_cases x t <;> rw [hf]
  · rw [rg_abortNoted_ne x f t h, ht]
  · rw [State.rg_incSat_ne _ _ _ hcount, rg_setFitUnit, rg_abortNoted_ne x f t h, ht]

/-! ### Fields of a word -/

/-- A word with a field written: what stands above the field, the field, what stands below. -/
theorem setFld_toNat (w : Word) {lo len : Nat} (n : Nat) (h : lo + len ≤ 32) :
    (setFld w lo len n).toNat = 2 ^ lo * (2 ^ len * (w.toNat / 2 ^ lo / 2 ^ len) + n % 2 ^ len) + w.toNat % 2 ^ lo := by
  have hold := Nat.div_add_mod w.toNat (2 ^ lo)
  have hfield := Nat.div_add_mod (w.toNat / 2 ^ lo) (2 ^ len)
  have hput := Nat.mod_lt n (Nat.two_pow_pos len)
  have hlow := Nat.mod_lt w.toNat (Nat.two_pow_pos lo)
  have hhigh : w.toNat / 2 ^ lo / 2 ^ len < 2 ^ (32 - lo - len) := by
    rw [Nat.div_div_eq_div_mul, ← Nat.pow_add, Nat.div_lt_iff_lt_mul (Nat.two_pow_pos _), ← Nat.pow_add]
    exact Nat.lt_of_lt_of_le w.isLt (Nat.pow_le_pow_right (by decide) (by omega))
  have hsplit : w.toNat = 2 ^ lo * (2 ^ len * (w.toNat / 2 ^ lo / 2 ^ len)) + w.toNat / 2 ^ lo % 2 ^ len * 2 ^ lo + w.toNat % 2 ^ lo := by
    rw [Nat.mul_comm _ (2 ^ lo), ← Nat.mul_add, hfield, hold]
  have hlt : 2 ^ lo * (2 ^ len * (w.toNat / 2 ^ lo / 2 ^ len) + n % 2 ^ len) + w.toNat % 2 ^ lo < 2 ^ 32 := by
    have hmid : 2 ^ len * (w.toNat / 2 ^ lo / 2 ^ len) + n % 2 ^ len < 2 ^ (32 - lo) := by
      calc _ < 2 ^ len * (w.toNat / 2 ^ lo / 2 ^ len) + 2 ^ len := by omega
        _ = 2 ^ len * (w.toNat / 2 ^ lo / 2 ^ len + 1) := rfl
        _ ≤ 2 ^ len * 2 ^ (32 - lo - len) := Nat.mul_le_mul_left _ hhigh
        _ = 2 ^ (32 - lo) := by rw [← Nat.pow_add]; congr 1; omega
    calc _ < 2 ^ lo * (2 ^ len * (w.toNat / 2 ^ lo / 2 ^ len) + n % 2 ^ len) + 2 ^ lo := by omega
      _ = 2 ^ lo * (2 ^ len * (w.toNat / 2 ^ lo / 2 ^ len) + n % 2 ^ len + 1) := rfl
      _ ≤ 2 ^ lo * 2 ^ (32 - lo) := Nat.mul_le_mul_left _ hmid
      _ = 2 ^ 32 := by rw [← Nat.pow_add]; congr 1; omega
  have hnew : w.toNat - w.toNat / 2 ^ lo % 2 ^ len * 2 ^ lo + n % 2 ^ len * 2 ^ lo
      = 2 ^ lo * (2 ^ len * (w.toNat / 2 ^ lo / 2 ^ len) + n % 2 ^ len) + w.toNat % 2 ^ lo := by
    rw [Nat.mul_add, Nat.mul_comm (2 ^ lo) (n % 2 ^ len)]
    omega
  simp only [setFld, fld, BitVec.toNat_ofNat, Nat.shiftRight_eq_div_pow, Nat.shiftLeft_eq]
  rw [hnew, Nat.mod_eq_of_lt hlt]

/-- A bit of a word with a field written. -/
theorem bit_setFld (w : Word) {lo len : Nat} (n : Nat) (h : lo + len ≤ 32) (j : Nat) :
    bit (setFld w lo len n) j = if lo ≤ j ∧ j < lo + len then n.testBit (j - lo) else bit w j := by
  rw [bit, setFld_toNat w n h, Nat.testBit_two_pow_mul_add _ (Nat.mod_lt _ (Nat.two_pow_pos lo)), bit]
  split
  case isTrue hj =>
    rw [if_neg (by omega), Nat.testBit_mod_two_pow, decide_eq_true hj, Bool.true_and]
  case isFalse hj =>
    rw [Nat.testBit_two_pow_mul_add _ (Nat.mod_lt _ (Nat.two_pow_pos len))]
    split
    case isTrue hin =>
      rw [if_pos (by omega), Nat.testBit_mod_two_pow, decide_eq_true hin, Bool.true_and]
    case isFalse hout =>
      rw [if_neg (by omega), Nat.testBit_div_two_pow, Nat.testBit_div_two_pow]
      congr 1
      omega

/-- A field is its bits. -/
theorem testBit_fld (w : Word) (lo len i : Nat) : (fld w lo len).testBit i = (decide (i < len) && bit w (lo + i)) := by
  rw [fld, Nat.testBit_mod_two_pow, Nat.testBit_shiftRight, bit]

/-- A field written reads back, and one apart from it stays. -/
theorem fld_setFld_self (w : Word) {lo len : Nat} (n : Nat) (h : lo + len ≤ 32) : fld (setFld w lo len n) lo len = n % 2 ^ len := by
  refine Nat.eq_of_testBit_eq fun i => ?_
  rw [testBit_fld, bit_setFld w n h, Nat.testBit_mod_two_pow]
  by_cases hi : i < len
  · rw [if_pos (by omega), Nat.add_sub_cancel_left]
  · rw [decide_eq_false hi, Bool.false_and, Bool.false_and]

theorem fld_setFld_apart (w : Word) {lo len lo' len' : Nat} (n : Nat) (h : lo + len ≤ 32) (hapart : lo' + len' ≤ lo ∨ lo + len ≤ lo') :
    fld (setFld w lo len n) lo' len' = fld w lo' len' := by
  refine Nat.eq_of_testBit_eq fun i => ?_
  rw [testBit_fld, testBit_fld, bit_setFld w n h]
  by_cases hi : i < len'
  · rw [if_neg (by omega)]
  · rw [decide_eq_false hi, Bool.false_and, Bool.false_and]

/-- A bit of a register with a field of it written. -/
theorem State.rb_wf (s : State) (k : Nat) {lo len : Nat} (n : Nat) (h : lo + len ≤ 32) (j : Nat) :
    (s.wf k lo len n).rb k j = if lo ≤ j ∧ j < lo + len then n.testBit (j - lo) else s.rb k j := by
  rw [State.rb, State.wf, State.rg_wrg_self, bit_setFld _ _ h, State.rb]

theorem State.rb_wb (s : State) (k : Nat) {i : Nat} (b : Bool) (h : i < 32) (j : Nat) : (s.wb k i b).rb k j = if j = i then b else s.rb k j := by
  rw [State.wb, State.rb_wf s k _ (by omega)]
  by_cases hj : j = i
  · subst hj
    rw [if_pos (by omega), if_pos rfl, Nat.sub_self]
    cases b <;> rfl
  · rw [if_neg (by omega), if_neg hj]

theorem State.rf_wf_self (s : State) (k : Nat) {lo len : Nat} (n : Nat) (h : lo + len ≤ 32) : (s.wf k lo len n).rf k lo len = n % 2 ^ len := by
  rw [State.rf, State.wf, State.rg_wrg_self, fld_setFld_self _ _ h]

theorem State.rf_wf_apart (s : State) (k : Nat) {lo len lo' len' : Nat} (n : Nat) (h : lo + len ≤ 32) (hapart : lo' + len' ≤ lo ∨ lo + len ≤ lo') :
    (s.wf k lo len n).rf k lo' len' = s.rf k lo' len' := by
  rw [State.rf, State.wf, State.rg_wrg_self, fld_setFld_apart _ _ h hapart, State.rf]

theorem State.rg_wf_ne (s : State) {k l : Nat} (lo len n : Nat) (h : l ≠ k) : (s.wf k lo len n).rg l = s.rg l := State.rg_wrg_ne s _ h

/-! ### A write of a block register, by its page and offset -/

/-- A write of a register that acts, at offset `o` of page `i`, that nothing bars. -/
theorem regCmd_at {a : Acc} {i o : Nat} {k : Page} {v : Word} {s u : State} (hk : pageOf i = some k) (hlow : 0x40 ≤ o) (hhigh : o < 0x1000)
    (h : regFree a (i * 0x1000 + o) s = true) (hu : blockWrite a.init k i (accPanel a s) o v a.env s = some (u, .okay)) :
    regCmd a (i * 0x1000 + o) v s = regDone u := by
  refine regCmd_acts k u h ?_ ?_ ?_
  · rw [pageOff_div hhigh, hk]
  · rw [pageOff_mod hhigh]
    exact Nat.not_lt.mpr hlow
  · rw [pageOff_div hhigh, pageOff_mod hhigh]
    exact hu

end Sys2Proof.Machine
end

section
/-!
PROOFS of the statements on the queue engine (11_queue_engine.md): beats at a queue's port and the port commands (O34), and the other commands
of the queues (O35).
-/

namespace Sys2Proof.Machine

open Sys2Proof

/-! ### A beat at a queue's port that nothing bars (R17, R298, R305) -/

/-- What `beatFree` asks, taken apart. -/
structure Beat (i : Initiator) (q kind slot : Nat) (b : BeatEnv) (s : State) : Prop where
  reaches : queReaches i s = true
  way : wayFree i kind (0x70000000 + 0x1000 * q + 8 * slot) 8 s = true
  lets : queLets s q (panelFor s i) i = true
  on : queOn s q = true
  alone : b.rivals = []

theorem Beat.of_free {i : Initiator} {q kind slot : Nat} {b : BeatEnv} {s : State} (h : beatFree i q kind slot b s = true) :
    Beat i q kind slot b s := by
  simp only [beatFree, Bool.and_eq_true, List.isEmpty_iff] at h
  obtain ⟨⟨⟨⟨hreaches, hway⟩, hlets⟩, hon⟩, halone⟩ := h
  exact ⟨hreaches, hway, hlets, hon, halone⟩

/-- A beat with no rival in its cycle. -/
theorem queCycle_alone {b : BeatEnv} (i : Initiator) (panel q off : Nat) (rw : Rw) (v : DWord) (s : State) (h : b.rivals = []) :
    queCycle i panel q off rw v b s = queBeat i panel q off rw v b.lag b.ecc s := by
  simp only [queCycle, queRivals, h, List.filter_nil, List.isEmpty_nil, Bool.true_or, if_true]

/-- The queues' region lists an initiator the same at every queue and offset. -/
theorem servedAt_queue {s : State} {i : Initiator} (q off : Nat) (isWrite : Bool) (h : servedAt s i (.queue 0 0) true true = true) :
    servedAt s i (.queue q off) isWrite true = true := by
  simp only [servedAt, Bool.not_true, Bool.false_or, Bool.and_eq_true] at h
  obtain ⟨hlisted, hwrites⟩ := h
  have hl : listed s i (.queue q off) true = true := by cases i <;> exact hlisted
  have hw : writes s i (.queue q off) = true := by cases i <;> exact hwrites
  simp only [servedAt, hl, hw, Bool.or_true, Bool.and_self]

/-- A PCIe function that sends and is not turned away has its request performed at once (R363, R382). -/
theorem pcieRun_serves {c : PcieCmd} {s : State} (h : sends s (.pcie (pcieSource c).1) = true)
    (hbar : hostBarred s (.pcie (pcieSource c).1) = false) : pcieRun c s = pcieDo c s := by
  simp only [sends, Bool.and_eq_true, Bool.not_eq_true'] at h
  obtain ⟨⟨hwork, hup⟩, hd3⟩ := h
  have hnap : s.mode ≠ .nap := fun hm => by
    simp only [hostsWork, opMode, hm, reduceCtorEq, false_and, if_false, Bool.false_eq_true] at hwork
  simp only [pcieRun, pcieServe, hnap, hwork, hup, hd3, hbar, false_and, if_false, Bool.not_true, Bool.false_eq_true, or_self]

theorem beatPut {i : Initiator} {panel q slot : Nat} {v d : DWord} {b : BeatEnv} {s t : State} {r : Rsp} (halone : b.rivals = [])
    (hbeat : queBeat i panel q (8 * slot) .write v b.lag b.ecc s = (t, r, d)) :
    quePut i panel q (8 * slot) 8 v.toNat b s = (t, r) := by
  have hv : w64 v.toNat = v := BitVec.ofNat_toNat 64 v
  rw [quePut, if_neg (by omega), hv, queCycle_alone _ _ _ _ _ _ _ halone, hbeat]

theorem beatGet {i : Initiator} {panel q slot : Nat} {d : DWord} {b : BeatEnv} {s t : State} {r : Rsp} (halone : b.rivals = [])
    (hbeat : queBeat i panel q (8 * slot) .read 0 b.lag b.ecc s = (t, r, d)) :
    queGet i panel q (8 * slot) 8 b s = (t, r, d.toNat) := by
  rw [queGet, if_neg (by omega), queCycle_alone _ _ _ _ _ _ _ halone, hbeat]

/-- A beat that nothing bars and that completes: a write of a value, or a read. -/
theorem queCmdAt_completes {i : Initiator} {q : Fin 64} {slot : Fin 512} {rw : Rw} {v d : DWord} {b : BeatEnv} {s t : State} {kind : Nat}
    (h : Beat i q.val kind slot.val b s) (hkind : kind = if rw = .write then 2 else 1) (hv : rw = .read → v = 0)
    (hbeat : queBeat i (panelFor s i) q.val (8 * slot.val) rw v b.lag b.ecc s = (t, .okay, d)) :
    queCmdAt i q slot rw v b s = t.answer .okay (if rw = .read then [d] else []) := by
  obtain ⟨hreaches, hway, -, -, halone⟩ := h
  simp only [queReaches, Bool.and_eq_true, Bool.not_eq_true'] at hreaches
  obtain ⟨⟨hsends, hbar⟩, hserved⟩ := hreaches
  have hd : w64 d.toNat = d := BitVec.ofNat_toNat 64 d
  subst hkind
  by_cases hpcie : ∃ f, i = .pcie f
  · obtain ⟨f, rfl⟩ := hpcie
    simp only [queCmdAt]
    rw [pcieRun_serves (c := .queue f q slot rw v b) hsends hbar]
    cases rw with
    | write => simp only [pcieDo, bar2Queue, beatPut halone hbeat, if_true, reduceCtorEq, if_false]
    | read =>
      cases hv rfl
      simp only [pcieDo, bar2Queue, beatGet halone hbeat, if_true, hd]
  · have hserves := fun isWrite => servedAt_queue q.val (8 * slot.val) isWrite hserved
    cases rw with
    | write =>
      have hfree : wayFree i 2 (0x70000000 + 0x1000 * q.val + 8 * slot.val) 8 s = true := hway
      have hrun : queCmdAt i q slot .write v b s = onWay i 2 (0x70000000 + 0x1000 * q.val + 8 * slot.val) 8 (fun s =>
          let r := quePut i (panelFor s i) q.val (8 * slot.val) 8 v.toNat b s
          failSeen i 2 (0x70000000 + 0x1000 * q.val + 8 * slot.val) r.2 (r.1.answer r.2)) s := by
        cases i with
        | pcie f => exact absurd ⟨f, rfl⟩ hpcie
        | _ => simp only [queCmdAt, hsends, hbar, hserves, Bool.not_true, Bool.false_eq_true, if_false, beq_self_eq_true, if_true]
      rw [hrun, onWay_free _ hfree]
      simp only [beatPut halone hbeat, failSeen, if_true, reduceCtorEq, if_false]
    | read =>
      cases hv rfl
      have hfree : wayFree i 1 (0x70000000 + 0x1000 * q.val + 8 * slot.val) 8 s = true := hway
      have hrun : queCmdAt i q slot .read 0 b s = onWay i 1 (0x70000000 + 0x1000 * q.val + 8 * slot.val) 8 (fun s =>
          let r := queGet i (panelFor s i) q.val (8 * slot.val) 8 b s
          failSeen i 1 (0x70000000 + 0x1000 * q.val + 8 * slot.val) r.2.1 (r.1.answer r.2.1 [w64 r.2.2])) s := by
        cases i with
        | pcie f => exact absurd ⟨f, rfl⟩ hpcie
        | _ => simp only [queCmdAt, hsends, hbar, hserves, Bool.not_true, Bool.false_eq_true, if_false, show (Rw.read == Rw.write) = false from rfl]
      rw [hrun, onWay_free _ hfree]
      simp only [beatGet halone hbeat, failSeen, if_true, hd]

/-! ### What a beat does at the queue (R303, R304) -/

/-- The classes of a queue stand in registers that Fitting does not write. -/
theorem cside_fitQueue (q n : Nat) (s : State) (h : q < 64) : cside (fitQueue n s) q = cside s q := by
  have hk : Reg.QUE_CFG q < 0x50000 := by unfold Reg.QUE_CFG; omega
  unfold fitQueue
  split
  · rfl
  · simp only [cside, State.rf, rg_abortSlices_ne _ _ hk]

theorem queSide_fitQueue (i : Initiator) (q n : Nat) (s : State) (h : q < 64) : queSide i q (fitQueue n s) = queSide i q s := by
  have hcons : isCons (fitQueue n s) q i = isCons s q i := by
    unfold isCons
    rw [cside_fitQueue q n s h]
  rw [queSide, hcons, queSide]

/-- An initiator that a queue lets through has a class, and its index is what the queue knows it by. -/
theorem queLets_requester {s : State} {q panel : Nat} {i : Initiator} (h : queLets s q panel i = true) :
    (queClass i).map (·.2) = some (queRequester i) := by
  have hclass : isProd s q i = true ∨ isCons s q i = true := by
    simp only [queLets, Bool.and_eq_true, Bool.or_eq_true] at h
    exact h.2
  unfold isProd isCons at hclass
  unfold queRequester
  cases hc : queClass i with
  | none => simp only [hc, Bool.false_eq_true, or_self] at hclass
  | some c => rfl

/-- A beat's own command before has ended when it is served (R311): the side that the queue tells is the one it acts on. -/
theorem queWaited_fitQueue (i : Initiator) {q : Nat} (s : State) (h : q < 64) :
    queWaited i q (fitQueue q s)
      = match i with
        | .qspi _ => ownShake q (queSide i q s) (queRequester i) (fitQueue q s)
        | _ => fitQueue q s := by
  cases i <;> simp only [queWaited, queSide_fitQueue _ q q s h]

section
variable {i : Initiator} {q panel : Nat} {s : State} (e : Ecc) (lag : Nat) (hq : q < 64) (hlets : queLets s q panel i = true)
  (hon : queOn s q = true)
include hq hlets hon

theorem queBeat_push (w : DWord) (hprod : isProd s q i = true) :
    queBeat i panel q 0 .write w lag e s
      = ((pushWord q (queRequester i) w (seeReads q lag (queWaited i q (fitQueue q s)))).1,
          if (pushWord q (queRequester i) w (seeReads q lag (queWaited i q (fitQueue q s)))).2 then .okay else .access, 0) := by
  have hme := queLets_requester hlets
  rw [queWaited_fitQueue i s hq]
  simp only [queBeat, hlets, hon, hprod, hme, queSide, Option.getD_some, Bool.not_true, Bool.false_eq_true, if_false, Nat.zero_lt_succ,
    if_true] <;> rfl

theorem queBeat_pop (hcons : isCons s q i = true) :
    queBeat i panel q 0x800 .read 0 lag e s = popWord q e (seeWrites q lag (queWaited i q (fitQueue q s))) := by
  have hme := queLets_requester hlets
  have hport : ¬ (0x800 < 0x800 ∨ 0xF18 < 0x800) := by decide
  rw [queWaited_fitQueue i s hq]
  simp only [queBeat, hlets, hon, hcons, hme, hport, queSide, Option.getD_some, Bool.not_true, Bool.false_eq_true, if_false, if_true,
    show 0x800 < 0xF00 by decide] <;> rfl

theorem queBeat_command {op : Nat} (hpos : 1 ≤ op) (hop : op ≤ 5) (hside : op ≤ 3 → isCons s q i = true) :
    queBeat i panel q 0xF10 .write (w64 op) lag e s
      = (portCmd q (queSide i q s) (some (queRequester i)) op (if queSide i q s = 0 then seeWrites q lag (queWaited i q (fitQueue q s))
          else seeReads q lag (queWaited i q (fitQueue q s))), .okay, 0) := by
  have hme := queLets_requester hlets
  have hword : (w64 op).toNat = op := by rw [w64, BitVec.toNat_ofNat, Nat.mod_eq_of_lt (by omega)]
  have hlow : op < 16 := by omega
  have hport : ¬ 0xF10 < 0x800 := by decide
  have hlets' : ((op == 1 || op == 2 || op == 3) && !isCons s q i) = false := by
    by_cases h3 : op ≤ 3
    · simp only [hside h3, Bool.not_true, Bool.and_false]
    · have : op = 4 ∨ op = 5 := by omega
      rcases this with rfl | rfl <;> rfl
  rw [queWaited_fitQueue i s hq]
  simp only [queBeat, hlets, hon, hme, hword, hlow, hport, hlets', queSide, Option.getD_some, Bool.not_true, Bool.false_eq_true,
    if_false, if_true] <;> rfl

end

theorem queBeat_peek {i : Initiator} {q panel : Nat} {s : State} (e : Ecc) (lag : Nat) (hlets : queLets s q panel i = true)
    (hon : queOn s q = true) (hcons : isCons s q i = true) :
    queBeat i panel q 0xF00 .read 0 lag e s
      = ((peekWord q e (seeWrites q lag (queWaited i q s))).1, .okay, (peekWord q e (seeWrites q lag (queWaited i q s))).2) := by
  have hme := queLets_requester hlets
  have hport : ¬ (0xF00 < 0x800 ∨ 0xF18 < 0xF00) := by decide
  simp only [queBeat, hlets, hon, hcons, hme, hport, queWaited, queSide, Option.getD_some, Bool.not_true, Bool.false_eq_true, if_false, if_true,
    Nat.lt_irrefl]

/-! ### What the views and the handshakes leave of a queue's record (R299, R308 to R312) -/

theorem queOf_irq (page n : Nat) (s : State) (q : Nat) : queOf (irq page n s) q = queOf s q := by simp only [queOf, irq_frame]

theorem queOf_event (n : Nat) (s : State) (q : Nat) : queOf (event n s) q = queOf s q := by simp only [queOf, event_frame]

theorem queOf_raise (code : Nat) (s : State) (q : Nat) : queOf (raise code s) q = queOf s q := by simp only [queOf, raise_frame]

theorem queOf_incSat (s : State) (k lo len q : Nat) : queOf (s.incSat k lo len) q = queOf s q := by simp only [queOf, State.incSat_frame]

theorem queOf_queErr (n cause : Nat) (s : State) (q : Nat) : queOf (queErr n cause s) q = queOf s q := by
  unfold queErr
  dsimp only
  split
  · exact queOf_incSat s _ _ _ q
  · rw [queOf_irq]
    simp only [queOf, State.wb_frame, State.wf_frame]

/-- The threshold event (R308) arms or disarms the queue, and changes no pointer. -/
theorem queOf_threshCheck (q : Nat) (s : State) : ∃ b, queOf (threshCheck q s) q = { queOf s q with armed := b } := by
  unfold threshCheck
  dsimp only
  split
  · exact ⟨_, rfl⟩
  · split
    · exact ⟨true, queOf_setQue _ _ _⟩
    · split
      · refine ⟨false, ?_⟩
        rw [queOf_event, queOf_irq, queOf_setQue]
      · exact ⟨_, rfl⟩

theorem queOf_seeWrites (q lag : Nat) (s : State) :
    ∃ n l b, queOf (seeWrites q lag s) q = { queOf s q with wSeen := n, wTimes := l, armed := b } := by
  unfold seeWrites
  obtain ⟨b, hb⟩ := queOf_threshCheck q (setQue q { queOf s q with
    wSeen := ((queOf s q).wSeen + seenOf s q (cside s q) (queOf s q).wTimes lag) % (2 * depth s q)
    wTimes := (queOf s q).wTimes.drop (seenOf s q (cside s q) (queOf s q).wTimes lag) } s)
  rw [queOf_setQue] at hb
  exact ⟨_, _, b, hb⟩

theorem landRewind_changes (x : Que) : ∃ k r l, landRewind x = { x with shake := k, rSeen := r, rTimes := l } := by
  unfold landRewind
  split <;> exact ⟨_, _, _, rfl⟩

theorem queOf_fixFlush (q : Nat) (s : State) : ∃ o k, queOf (fixFlush q s) q = { queOf s q with owner := o, shake := k } := by
  unfold fixFlush
  dsimp only
  split
  · split
    · exact ⟨_, _, queOf_setQue _ _ _⟩
    · exact ⟨_, _, rfl⟩
  · exact ⟨_, _, rfl⟩

/-- The words of a queue, and where each side has come: what the other side's view, the requests under way and the threshold do not change. -/
structure KeepsWords (x y : Que) : Prop where
  ram : y.ram = x.ram
  wptr : y.wptr = x.wptr

structure KeepsPlaces (x y : Que) : Prop extends KeepsWords x y where
  rptr : y.rptr = x.rptr

theorem KeepsWords.trans {x y z : Que} (h : KeepsWords x y) (h' : KeepsWords y z) : KeepsWords x z :=
  ⟨h'.ram.trans h.ram, h'.wptr.trans h.wptr⟩

theorem KeepsPlaces.trans {x y z : Que} (h : KeepsPlaces x y) (h' : KeepsPlaces y z) : KeepsPlaces x z :=
  ⟨h.toKeepsWords.trans h'.toKeepsWords, h'.rptr.trans h.rptr⟩

theorem threshCheck_places (q : Nat) (s : State) : KeepsPlaces (queOf s q) (queOf (threshCheck q s) q) := by
  obtain ⟨b, h⟩ := queOf_threshCheck q s
  rw [h]
  exact ⟨⟨rfl, rfl⟩, rfl⟩

theorem seeWrites_places (q lag : Nat) (s : State) : KeepsPlaces (queOf s q) (queOf (seeWrites q lag s) q) := by
  obtain ⟨n, l, b, h⟩ := queOf_seeWrites q lag s
  rw [h]
  exact ⟨⟨rfl, rfl⟩, rfl⟩

theorem fixFlush_places (q : Nat) (s : State) : KeepsPlaces (queOf s q) (queOf (fixFlush q s) q) := by
  obtain ⟨o, k, h⟩ := queOf_fixFlush q s
  rw [h]
  exact ⟨⟨rfl, rfl⟩, rfl⟩

theorem arrive_places (q : Nat) (s : State) : KeepsPlaces (queOf s q) (queOf (arrive q s) q) := by
  unfold arrive
  dsimp only
  refine KeepsPlaces.trans ?_ (fixFlush_places q _)
  obtain ⟨k, r, l, h⟩ := landRewind_changes (queOf s q)
  rw [queOf_setQue, h]
  exact ⟨⟨rfl, rfl⟩, rfl⟩

theorem seeReads_places (q lag : Nat) (s : State) : KeepsPlaces (queOf s q) (queOf (seeReads q lag s) q) := by
  have hseen : ∀ n l, KeepsPlaces (queOf s q) (queOf (setQue q { queOf s q with rSeen := n, rTimes := l } s) q) := fun n l => by
    rw [queOf_setQue]
    exact ⟨⟨rfl, rfl⟩, rfl⟩
  unfold seeReads
  dsimp only
  split
  · exact (hseen _ _).trans (arrive_places q _)
  · exact hseen _ _

theorem queResult_words (side v : Nat) (x : Que) : KeepsPlaces x (queResult side v x) := by
  unfold queResult
  split
  · exact ⟨⟨rfl, rfl⟩, rfl⟩
  · split <;> exact ⟨⟨rfl, rfl⟩, rfl⟩

theorem setQue_words {q : Nat} {x y : Que} {s : State} (hram : y.ram = x.ram) (hwptr : y.wptr = x.wptr) :
    KeepsWords x (queOf (setQue q y s) q) := by
  rw [queOf_setQue]
  exact ⟨hram, hwptr⟩

/-- The end of a handshake moves the read pointer at most. -/
theorem shakeDone_words (q : Nat) (s : State) : KeepsWords (queOf s q) (queOf (shakeDone q s) q) := by
  have hland : KeepsWords (queOf s q) (landRewind (queOf s q)) := by
    obtain ⟨k, r, l, h⟩ := landRewind_changes (queOf s q)
    rw [h]
    exact ⟨rfl, rfl⟩
  unfold shakeDone
  generalize landRewind (queOf s q) = x at hland
  obtain ⟨hram, hwptr⟩ := hland
  dsimp only
  cases hx : x.shake with
  | none => exact ⟨rfl, rfl⟩
  | some h =>
    obtain ⟨op, side, who, ptr, t0⟩ := h
    have hres : ∀ (n : Nat) (y : Que), y.ram = x.ram → y.wptr = x.wptr → KeepsWords (queOf s q) (queOf (setQue q (queResult side n y) s) q) :=
      fun n y hr hw => setQue_words ((queResult_words side n y).ram.trans (hr.trans hram)) ((queResult_words side n y).wptr.trans (hw.trans hwptr))
    have hview : ∀ (n : Nat) (y : Que), y.ram = x.ram → y.wptr = x.wptr →
        KeepsWords (queOf s q) (queOf (threshCheck q (setQue q (queResult side n y) s)) q) :=
      fun n y hr hw => (hres n y hr hw).trans (threshCheck_places q _).toKeepsWords
    cases op <;> dsimp only
    case mark => exact hres _ _ rfl rfl
    case rewind => exact hview _ _ rfl rfl
    case rewound => exact hview _ _ rfl rfl
    case markLost =>
      rw [queOf_queErr]
      exact hres _ _ rfl rfl
    case flush => exact hview _ _ rfl rfl
    case force => exact hview _ _ rfl rfl
    case reset => exact setQue_words hram hwptr

theorem shakeNow_words (q : Nat) (s : State) : KeepsWords (queOf s q) (queOf (shakeNow q s) q) := by
  unfold shakeNow
  split
  · exact shakeDone_words q s
  · exact ⟨rfl, rfl⟩

/-! ### Pushes, pops and peeks (R301 to R303, R306, R307) -/

/-- What a push that nothing refuses leaves of the queue's record before the views follow. -/
def pushedQue (q r : Nat) (w : DWord) (s : State) : Que :=
  let x := queOf s q
  let lost := match x.mark with | some m => between (depth s q) x.wptr m == depth s q | none => false
  { x with ram := sset (fun _ => 0) x.ram (x.wptr % depth s q) w, bad := x.bad.filter (· != x.wptr % depth s q)
           wptr := (x.wptr + 1) % (2 * depth s q), owner := if tagOf w = 2 then some r else if tagOf w = 4 then none else x.owner
           mark := if lost then none else x.mark, markLost := x.markLost || lost, wTimes := x.wTimes ++ [moveAt s (pside s q) x.wTimes] }

/-- A push that nothing refuses (R301, R306): the word is put behind the last one, and the views follow. -/
theorem pushWord_admitted {q r : Nat} {w : DWord} {s : State} (hlow : 1 ≤ tagOf w) (hhigh : tagOf w ≤ 4) (hzero : nfld w.toNat 48 4 = 0)
    (hpacket : packetOk (queOf s q) r (tagOf w) = true) (hfull : queFull s q = false) (hreset : queResetting s q = false) :
    pushWord q r w s = (if (queOf s q).flush.isSome
      then shakeNow q (fixFlush q ((setQue q (pushedQue q r w s) s).incSat (Reg.QUE_PUSHES q) 0 32))
      else seeWrites q (pushedQue q r w s).wTimes.length (fixFlush q ((setQue q (pushedQue q r w s) s).incSat (Reg.QUE_PUSHES q) 0 32)), true) := by
  have htag : ¬ (tagOf w < 1 ∨ 4 < tagOf w ∨ nfld w.toNat 48 4 ≠ 0) := by omega
  simp only [pushWord, htag, hpacket, hfull, hreset, Bool.not_true, Bool.false_eq_true, if_false, Bool.or_self]
  rfl

theorem pushWord_places {q r : Nat} {w : DWord} {s : State} (hlow : 1 ≤ tagOf w) (hhigh : tagOf w ≤ 4) (hzero : nfld w.toNat 48 4 = 0)
    (hpacket : packetOk (queOf s q) r (tagOf w) = true) (hfull : queFull s q = false) (hreset : queResetting s q = false) :
    KeepsWords (pushedQue q r w s) (queOf (pushWord q r w s).1 q)
    ∧ ((queOf s q).flush = none → (queOf (pushWord q r w s).1 q).rptr = (queOf s q).rptr) := by
  have hput : KeepsPlaces (pushedQue q r w s) (queOf (fixFlush q ((setQue q (pushedQue q r w s) s).incSat (Reg.QUE_PUSHES q) 0 32)) q) := by
    have h := fixFlush_places q ((setQue q (pushedQue q r w s) s).incSat (Reg.QUE_PUSHES q) 0 32)
    rwa [queOf_incSat, queOf_setQue] at h
  rw [pushWord_admitted hlow hhigh hzero hpacket hfull hreset]
  split
  case isTrue h => exact ⟨hput.toKeepsWords.trans (shakeNow_words q _), fun hnone => by rw [hnone] at h; exact nomatch h⟩
  case isFalse => exact ⟨(hput.trans (seeWrites_places q _ _)).toKeepsWords, fun _ => (hput.trans (seeWrites_places q _ _)).rptr⟩

theorem queEmpty_nextPlace {s : State} {q : Nat} (h : queEmpty s q = true) : nextPlace s q = none := by
  simp only [nextPlace, h, if_true]

theorem nextPlace_first {s : State} {q : Nat} (h : queEmpty s q = false) (hsorted : sorted s q = false) : nextPlace s q = some 0 := by
  simp only [nextPlace, h, hsorted, Bool.false_eq_true, if_false]

section
variable {q : Nat} {s : State} (hword : (queOf (consReady q s) q).errWord = none)
include hword

theorem popWord_empty (e : Ecc) (h : queEmpty (consReady q s) q = true) : popWord q e s = (consReady q s, .okay, 0) := by
  simp only [popWord, hword, queEmpty_nextPlace h, ite_self]

theorem peekWord_empty (e : Ecc) (h : queEmpty (consReady q s) q = true) : peekWord q e s = (consReady q s, 0) := by
  simp only [peekWord, hword, queEmpty_nextPlace h, ite_self]

variable (hflush : (queOf (consReady q s) q).flush = none) (hsorted : sorted (consReady q s) q = false)
  (hbad : (queOf (consReady q s) q).bad = []) (hsome : queEmpty (consReady q s) q = false)
include hflush hsorted hbad hsome

/-- A pop in arrival order takes the oldest word (R307). -/
theorem popWord_oldest :
    popWord q .none s = ((takeAt q 0 (consReady q s)).incSat (Reg.QUE_POPS q) 0 32, .okay,
      sget (fun _ => 0) (queOf (consReady q s) q).ram ((queOf (consReady q s) q).rptr % depth (consReady q s) q)) := by
  have hnone : (Ecc.none == Ecc.double) = false := rfl
  simp only [popWord, hword, hflush, hbad, nextPlace_first hsome hsorted, hnone, Option.isSome_none, Bool.false_eq_true, if_false,
    List.contains_nil, Bool.or_self, Nat.add_zero]

theorem peekWord_oldest :
    peekWord q .none s = (consReady q s,
      sget (fun _ => 0) (queOf (consReady q s) q).ram ((queOf (consReady q s) q).rptr % depth (consReady q s) q)) := by
  have hnone : (Ecc.none == Ecc.double) = false := rfl
  simp only [peekWord, hword, hflush, hbad, nextPlace_first hsome hsorted, hnone, Option.isSome_none, Bool.false_eq_true, if_false,
    List.contains_nil, Bool.or_self, Nat.add_zero]

end

/-- The oldest word taken: the read pointer moves past it, the write pointer stays. -/
theorem takeAt_oldest (q : Nat) (s : State) :
    (queOf (takeAt q 0 s) q).rptr = ((queOf s q).rptr + 1) % (2 * depth s q) ∧ (queOf (takeAt q 0 s) q).wptr = (queOf s q).wptr := by
  unfold takeAt
  dsimp only
  refine ⟨((threshCheck_places q _).trans (seeReads_places q _ _)).rptr.trans ?_, ((threshCheck_places q _).trans (seeReads_places q _ _)).wptr.trans ?_⟩
  · rw [queOf_setQue]
  · rw [queOf_setQue]

/-! ### The port commands (R309 to R312) -/

theorem shakeDone_none {q : Nat} {s : State} (h : (queOf s q).shake = none) : shakeDone q s = s := by
  have hland : landRewind (queOf s q) = queOf s q := by simp only [landRewind, h]
  simp only [shakeDone, hland, h]

section
variable {q side : Nat} {who : Option Nat} {s : State} (hshake : (queOf s q).shake = none) (hflush : (queOf s q).flush = none)
include hshake hflush

theorem portCmd_mark (hsorted : sorted s q = false) :
    portCmd q side who 1 s = shakeNow q (setQue q { queOf s q with shake := some ⟨.mark, side, who, (queOf s q).rptr, s.now⟩ } s) := by
  simp only [portCmd, hshake, hflush, hsorted, Option.isSome_none, Bool.and_false, Bool.or_self, Bool.false_eq_true, false_and, if_false, if_true,
    Nat.reduceEqDiff, Nat.reduceLT, one_ne_zero, or_self]

theorem portCmd_rewind (hsorted : sorted s q = false) (hmark : (queOf s q).mark.isSome = true ∨ (queOf s q).markLost = true) :
    portCmd q 0 who 2 s = shakeNow q (if noCrossing s q 0
      then arrive q (setQue q { queOf s q with shake := some ⟨.rewind, 0, who, (queOf s q).rptr, s.now⟩ } s)
      else setQue q { queOf s q with shake := some ⟨.rewind, 0, who, (queOf s q).rptr, s.now⟩ } s) := by
  have hvalid : ¬ ((queOf s q).mark.isNone = true ∧ (!(queOf s q).markLost) = true) := by
    rintro ⟨hnone, hlost⟩
    rcases hmark with h | h
    · simp only [Option.isNone_iff_eq_none.mp hnone, Option.isSome_none, Bool.false_eq_true] at h
    · simp only [h, Bool.not_true, Bool.false_eq_true] at hlost
  simp only [portCmd, hshake, hflush, hsorted, hvalid, Option.isSome_none, Bool.and_false, Bool.or_self, Bool.false_eq_true, false_and, if_false,
    Nat.reduceEqDiff, Nat.reduceLT, OfNat.ofNat_ne_zero, or_self, if_true]
  rfl

theorem portCmd_clearMark : portCmd q 0 who 3 s = setQue q { queOf s q with mark := none, markLost := false, resC := 1 } s := by
  simp [portCmd, hshake, hflush, queResult]

theorem portCmd_flush : portCmd q side who 4 s = startFlush q side who false s := by
  simp [portCmd, hshake, hflush, shakeDone_none hshake]

theorem portCmd_flushForce : portCmd q side who 5 s = startFlush q side who true s := by
  simp [portCmd, hshake, hflush, shakeDone_none hshake]

end

/-! ### A flush that is requested (R309, R310) -/

theorem between_self (d n : Nat) : between d n n = 0 := by
  unfold between
  rw [Nat.add_sub_cancel_left, Nat.mod_self]

/-- A view that has caught up with a pointer is as far from it. -/
theorem between_zero_symm {d w v : Nat} (hv : v < 2 * d) (h : between d w v = 0) : between d v w = 0 := by
  unfold between at h ⊢
  obtain ⟨k, hk⟩ := Nat.dvd_of_mod_eq_zero h
  match k with
  | 0 => rw [show v + 2 * d - w = 2 * d by omega, Nat.mod_self]
  | 1 => rw [show v + 2 * d - w = 2 * d by omega, Nat.mod_self]
  | k + 2 =>
    rw [Nat.mul_add] at hk
    rw [show v + 2 * d - w = 0 by omega, Nat.zero_mod]

/-- The threshold event writes the source of its queue and Bobbin's count of merged events. -/
theorem rg_threshCheck_cfg (n q : Nat) (s : State) : (threshCheck n s).rg (Reg.QUE_CFG q) = s.rg (Reg.QUE_CFG q) := by
  have hmerged : Reg.QUE_CFG q ≠ Reg.BOB_EVT_MERGED := by unfold Reg.QUE_CFG Reg.BOB_EVT_MERGED; omega
  have hirq : Reg.QUE_CFG q ≠ irqRaw (quePage n) := by unfold Reg.QUE_CFG irqRaw quePage; omega
  unfold threshCheck
  dsimp only
  split
  · rfl
  · split
    · rfl
    · split
      · rw [rg_event_ne _ _ hmerged, rg_irq_ne _ _ hirq]
        rfl
      · rfl

theorem depth_threshCheck (n q : Nat) (s : State) : depth (threshCheck n s) q = depth s q := by
  unfold depth queCfg State.rb
  rw [rg_threshCheck_cfg]

theorem oneClock_threshCheck (n q : Nat) (s : State) : oneClock (threshCheck n s) q = oneClock s q := by
  simp only [oneClock, pside, cside, State.rf, rg_threshCheck_cfg]

theorem consCount_of_flush {s : State} {q : Nat} (h : (queOf s q).flush.isSome = true) : consCount s q = 0 := by
  simp only [consCount, h, if_true]

theorem flush_threshCheck (q : Nat) (s : State) : (queOf (threshCheck q s) q).flush = (queOf s q).flush := by
  obtain ⟨b, h⟩ := queOf_threshCheck q s
  rw [h]

theorem flush_fixFlush (q : Nat) (s : State) : (queOf (fixFlush q s) q).flush = (queOf s q).flush := by
  obtain ⟨o, k, h⟩ := queOf_fixFlush q s
  rw [h]

theorem depth_fixFlush (q : Nat) (s : State) : depth (fixFlush q s) q = depth s q := by
  unfold fixFlush
  dsimp only
  split
  · split <;> rfl
  · rfl

theorem oneClock_fixFlush (q : Nat) (s : State) : oneClock (fixFlush q s) q = oneClock s q := by
  unfold fixFlush
  dsimp only
  split
  · split <;> rfl
  · rfl

/-- Where the consumer's view stands when a flush to a flush point ends (R309). -/
def flushedSeen (d p : Nat) (x : Que) : Nat := if between d x.wptr p < between d x.wptr x.wSeen then p else x.wSeen

/-- The record of a queue after a flush to a flush point, in a queue of depth `d` (R309). -/
def flushedQue (d p : Nat) (x : Que) : Que :=
  { x with shake := none, rptr := p, rSeen := p, wSeen := flushedSeen d p x
           wTimes := x.wTimes.drop (x.wTimes.length - between d x.wptr (flushedSeen d p x)), rTimes := [], flush := none, mark := none
           markLost := false, taken := none }

theorem landRewind_other {x : Que} {h : Shake} (hx : x.shake = some h) (hop : h.op ≠ .rewind) : landRewind x = x := by
  obtain ⟨op, side, who, ptr, t0⟩ := h
  cases op with
  | rewind => exact absurd rfl hop
  | _ => simp only [landRewind, hx]

theorem shakeDone_flush {q side p t0 : Nat} {who : Option Nat} {force : Bool} {s : State}
    (h : (queOf s q).shake = some ⟨if force then .force else .flush, side, who, p, t0⟩) :
    ∃ w, shakeDone q s = threshCheck q (setQue q (queResult side 1 { flushedQue (depth s q) p (queOf s q) with errWord := w }) s)
      ∧ (force = false → w = (queOf s q).errWord) := by
  cases force with
  | false =>
    refine ⟨_, ?_, fun _ => rfl⟩
    rw [if_neg Bool.false_ne_true] at h
    simp only [shakeDone, landRewind_other h (show ShakeOp.flush ≠ .rewind by decide), h, reduceCtorEq, if_false]
    rfl
  | true =>
    refine ⟨none, ?_, fun hf => nomatch hf⟩
    rw [if_pos rfl] at h
    simp only [shakeDone, landRewind_other h (show ShakeOp.force ≠ .rewind by decide), h, if_true]
    rfl

/-- A flush that has been carried out leaves the consumer nothing. -/
theorem consCount_flushed {q side p : Nat} {w : Option DWord} {x : Que} {s : State} (hp : p = x.wptr) (hseen : x.wSeen < 2 * depth s q) :
    consCount (threshCheck q (setQue q (queResult side 1 { flushedQue (depth s q) p x with errWord := w }) s)) q = 0 := by
  obtain ⟨b, hb⟩ := queOf_threshCheck q (setQue q (queResult side 1 { flushedQue (depth s q) p x with errWord := w }) s)
  have hview : between (depth s q) (flushedSeen (depth s q) p x) p = 0 := by
    subst hp
    unfold flushedSeen
    split
    · exact between_self _ _
    case isFalse h =>
      rw [between_self] at h
      exact between_zero_symm hseen (by omega)
  have hdepth : depth (threshCheck q (setQue q (queResult side 1 { flushedQue (depth s q) p x with errWord := w }) s)) q = depth s q :=
    (depth_threshCheck q q _).trans rfl
  rw [queOf_setQue] at hb
  simp only [consCount, hb, hdepth]
  unfold queResult
  split
  · exact hview
  · split <;> exact hview

section
variable (q side : Nat) (who : Option Nat) (force : Bool) (s : State)

/-- The record of a queue with a flush requested. -/
def askedQue : Que :=
  { queOf s q with flush := some ⟨side, who, force, noCrossing s q side, s.now⟩, shake := none, mark := none, markLost := false }

theorem startFlush_eq :
    startFlush q side who force s = shakeNow q (threshCheck q (fixFlush q (setQue q (askedQue q side who force s) s))) := rfl

theorem startFlush_flush :
    (queOf (threshCheck q (fixFlush q (setQue q (askedQue q side who force s) s))) q).flush.isSome = true := by
  rw [flush_threshCheck, flush_fixFlush, queOf_setQue]
  rfl

theorem oneClock_startFlush : oneClock (threshCheck q (fixFlush q (setQue q (askedQue q side who force s) s))) q = oneClock s q := by
  rw [oneClock_threshCheck, oneClock_fixFlush]
  rfl

theorem depth_startFlush : depth (threshCheck q (fixFlush q (setQue q (askedQue q side who force s) s))) q = depth s q := by
  rw [depth_threshCheck, depth_fixFlush]
  rfl

/-- In an asynchronous queue the flush stays requested until its handshake ends. -/
theorem startFlush_pending (h : oneClock s q = false) : (queOf (startFlush q side who force s) q).flush.isSome = true := by
  rw [startFlush_eq, shakeNow, oneClock_startFlush, h, if_neg Bool.false_ne_true]
  exact startFlush_flush q side who force s

/-- A requested flush leaves the consumer nothing (R309): it is pending, or has been carried out. -/
theorem consCount_startFlush (hseen : (queOf s q).wSeen < 2 * depth s q) : consCount (startFlush q side who force s) q = 0 := by
  cases hone : oneClock s q with
  | false => exact consCount_of_flush (startFlush_pending q side who force s hone)
  | true =>
    have hcross : noCrossing s q side = true := by rw [noCrossing, hone, Bool.or_true]
    rw [startFlush_eq, shakeNow, oneClock_startFlush, hone, if_pos rfl]
    obtain ⟨b, hb⟩ := queOf_threshCheck q (fixFlush q (setQue q (askedQue q side who force s) s))
    by_cases hpoint : force = true ∨ (queOf s q).owner.isNone = true
    · have hfix : queOf (fixFlush q (setQue q (askedQue q side who force s) s)) q
          = { askedQue q side who force s with owner := none, shake := some ⟨if force then .force else .flush, side, who, (queOf s q).wptr, s.now⟩ } := by
        simp only [fixFlush, queOf_setQue, askedQue, hcross, hpoint, Option.isNone_none, and_self, if_true]
        rfl
      rw [hfix] at hb
      obtain ⟨w, hw, -⟩ := shakeDone_flush (q := q) (force := force) (congrArg Que.shake hb)
      rw [hw]
      exact consCount_flushed (congrArg Que.wptr hb).symm (by rw [hb, depth_startFlush]; exact hseen)
    · have hfix : queOf (fixFlush q (setQue q (askedQue q side who force s) s)) q = askedQue q side who force s := by
        simp only [fixFlush, queOf_setQue, askedQue, hpoint, and_false, if_false]
      rw [hfix] at hb
      rw [shakeDone_none (congrArg Que.shake hb)]
      exact consCount_of_flush (startFlush_flush q side who force s)

end

/-! ### The statement on the ports -/

theorem queWaited_mem (i : Initiator) (q : Nat) (s : State) : memOf (queWaited i q s) = memOf s := by
  cases i with
  | qspi p => exact ownShake_mem _ _ _ s
  | _ => rfl

/-- A port command that nothing bars and that its side may give. -/
theorem queCmdAt_command {i : Initiator} {q : Fin 64} {op : Nat} {b : BeatEnv} {s u : State} (hfree : beatFree i q.val 2 482 b s = true)
    (hpos : 1 ≤ op) (hop : op ≤ 5) (hside : op ≤ 3 → isCons s q.val i = true)
    (hu : portCmd q.val (queSide i q.val s) (some (queRequester i)) op (queSeen i q.val b s) = u) :
    Host.Outcome.next (φ := Fault) (ρ := Refusal) (queCmdAt i q 482 .write (w64 op) b s) = .next (u.answer .okay) := by
  have hbeat := Beat.of_free hfree
  have hdoes := queBeat_command b.ecc b.lag q.isLt hbeat.lets hbeat.on hpos hop hside
  rw [show (if queSide i q.val s = 0 then seeWrites q.val b.lag (queWaited i q.val (fitQueue q.val s))
    else seeReads q.val b.lag (queWaited i q.val (fitQueue q.val s))) = queSeen i q.val b s from rfl, hu] at hdoes
  exact congrArg Host.Outcome.next (queCmdAt_completes (slot := 482) hbeat rfl (fun h => nomatch h) hdoes)

/-- Settles O34: a beat that nothing bars is what `queBeat` does of it; a push puts its word behind the last one, a pop takes the oldest, and a
port command starts, or ends, what it names. -/
theorem queuePortsComplete : Obligations.QueuePortsComplete := by
  refine ⟨fun init queue beat s hecc => ⟨?_, ?_, ?_⟩, fun init queue beat s v x hfree hv hx hshake hflush => ⟨fun hcons => ?_, ?_⟩⟩
  · intro value v x t hfree hprod hv hx hlow hhigh hzero hpacket hfull hreset ht
    subst hv hx ht
    have hbeat := Beat.of_free hfree
    have hpush := queBeat_push beat.ecc beat.lag queue.isLt hbeat.lets hbeat.on value hprod
    have hok := congrArg Prod.snd (pushWord_admitted hlow hhigh hzero hpacket hfull hreset)
    obtain ⟨hwords, hrptr⟩ := pushWord_places hlow hhigh hzero hpacket hfull hreset
    rw [hok] at hpush
    refine ⟨congrArg Host.Outcome.next (queCmdAt_completes (slot := 0) hbeat rfl (fun h => nomatch h) hpush), ?_, hwords.wptr, ?_, hrptr⟩
    · simp only [mem_memOf, pushWord_mem, seeReads_mem, queWaited_mem, fitQueue_mem]
    · rw [hwords.ram]
      exact sget_sset_self _ _ _ _
  · intro v x hfree hcons hv hx hword
    subst hv hx
    have hbeat := Beat.of_free hfree
    have hpop := queBeat_pop beat.ecc beat.lag queue.isLt hbeat.lets hbeat.on hcons
    refine ⟨fun hempty => ?_, fun hflush hsorted hbad hsome => ?_⟩
    · rw [popWord_empty hword _ hempty] at hpop
      exact congrArg Host.Outcome.next (queCmdAt_completes (slot := 256) hbeat rfl (fun _ => rfl) hpop)
    · rw [hecc, popWord_oldest hword hflush hsorted hbad hsome, ← hecc] at hpop
      refine ⟨_, congrArg Host.Outcome.next (queCmdAt_completes (slot := 256) hbeat rfl (fun _ => rfl) hpop), ?_, ?_, ?_⟩
      · rw [queOf_incSat]
        exact (takeAt_oldest _ _).1
      · rw [queOf_incSat]
        exact (takeAt_oldest _ _).2
      · simp only [mem_memOf, State.incSat_mem, takeAt_mem, consReady_mem, seeWrites_mem, queWaited_mem, fitQueue_mem]
  · intro v x hfree hcons hv hx hword
    subst hv hx
    have hbeat := Beat.of_free hfree
    have hpeek := queBeat_peek beat.ecc beat.lag hbeat.lets hbeat.on hcons
    refine ⟨fun hempty => ?_, fun hflush hsorted hbad hsome => ?_⟩
    · rw [peekWord_empty hword _ hempty] at hpeek
      exact congrArg Host.Outcome.next (queCmdAt_completes (slot := 480) hbeat rfl (fun _ => rfl) hpeek)
    · rw [hecc, peekWord_oldest hword hflush hsorted hbad hsome, ← hecc] at hpeek
      exact congrArg Host.Outcome.next (queCmdAt_completes (slot := 480) hbeat rfl (fun _ => rfl) hpeek)
  · have hside : queSide init queue.val s = 0 := if_pos hcons
    subst hv hx
    refine ⟨fun hsorted => ?_, fun t hsorted hmark ht => ?_, ?_⟩
    · exact queCmdAt_command hfree (op := 1) (by decide) (by decide) (fun _ => hcons) (hside ▸ portCmd_mark hshake hflush hsorted)
    · subst ht
      exact queCmdAt_command hfree (op := 2) (by decide) (by decide) (fun _ => hcons) (hside ▸ portCmd_rewind hshake hflush hsorted hmark)
    · exact queCmdAt_command hfree (op := 3) (by decide) (by decide) (fun _ => hcons) (hside ▸ portCmd_clearMark hshake hflush)
  · intro t force ht
    subst hv hx ht
    refine ⟨fun hf => ?_, fun hf => ?_, fun hseen => consCount_startFlush _ _ _ _ _ hseen, fun hone => startFlush_pending _ _ _ _ _ hone⟩
    · subst hf
      exact queCmdAt_command hfree (op := 4) (by decide) (by decide) (fun h => absurd h (by decide)) (portCmd_flush hshake hflush)
    · subst hf
      exact queCmdAt_command hfree (op := 5) (by decide) (by decide) (fun h => absurd h (by decide)) (portCmd_flushForce hshake hflush)

/-! ### Registers of a QUE page (R318) -/

theorem pageOf_que {p : Nat} (h : p < 4) : pageOf (0x28 + p) = some .que := by
  obtain rfl | rfl | rfl | rfl : p = 0 ∨ p = 1 ∨ p = 2 ∨ p = 3 := by omega
  all_goals rfl

/-- A write of a register of a queue, at offset `o` of its sixteen, that nothing bars. -/
theorem regCmd_que {a : Acc} {q o : Nat} {v : Word} {s u : State} (hq : q < 64) (ho : o < 0x40)
    (h : regFree a (0x28100 + o + q / 16 * 0x1000 + q % 16 * 0x40) s = true)
    (hu : queWrite (q / 16) (0x100 + q % 16 * 0x40 + o) v s = some (u, .okay)) :
    regCmd a (0x28100 + o + q / 16 * 0x1000 + q % 16 * 0x40) v s = regDone u := by
  have hsplit : 0x28100 + o + q / 16 * 0x1000 + q % 16 * 0x40 = (0x28 + q / 16) * 0x1000 + (0x100 + q % 16 * 0x40 + o) := by omega
  rw [hsplit] at h ⊢
  refine regCmd_at (pageOf_que (by omega)) (by omega) (by omega) h ?_
  rw [blockWrite, Nat.add_sub_cancel_left]
  exact hu

/-- The queue and the register that an offset of a QUE page names. -/
theorem queOffset {q o : Nat} (ho : o < 0x40) :
    (0x100 ≤ 0x100 + q % 16 * 0x40 + o ∧ 0x100 + q % 16 * 0x40 + o < 0x500)
    ∧ 16 * (q / 16) + (0x100 + q % 16 * 0x40 + o - 0x100) / 0x40 = q ∧ (0x100 + q % 16 * 0x40 + o - 0x100) % 0x40 = o := by
  omega

theorem queWrite_cfg {q : Nat} (v : Word) {s : State} (hown : joined s q = false) :
    queWrite (q / 16) (0x100 + q % 16 * 0x40 + 0) v s = some (okIf (queCfgWrite q v s)) := by
  obtain ⟨hin, hqueue, hreg⟩ := queOffset (q := q) (show 0 < 0x40 by decide)
  simp only [queWrite, if_pos hin, hqueue, hreg, hown, Bool.false_eq_true, if_false]

theorem queWrite_cmd {q : Nat} (v : Word) {s : State} (hown : joined s q = false) :
    queWrite (q / 16) (0x100 + q % 16 * 0x40 + 0x10) v s = acts (queCmd q v (fitQueue q s)) := by
  obtain ⟨hin, hqueue, hreg⟩ := queOffset (q := q) (show 0x10 < 0x40 by decide)
  simp only [queWrite, if_pos hin, hqueue, hreg, hown, Bool.false_eq_true, if_false]

theorem queCfgWrite_stored {q : Nat} {v : Word} {s : State} (h : (queCfgWrite q v s).2 = true) :
    (queCfgWrite q v s).1.rg (Reg.QUE_CFG q) = w32 (v.toNat &&& (if q % 2 = 0 then 0xF8F00000 else 0xB8F00000)) := by
  unfold queCfgWrite at h ⊢
  generalize (if q % 2 = 0 then 0xF8F00000 else 0xB8F00000) = mask at h ⊢
  dsimp only at h ⊢
  split
  case isTrue hbad =>
    rw [if_pos hbad] at h
    exact nomatch h
  case isFalse =>
    dsimp only
    split
    · exact State.rg_wrg_self s _ _
    · exact State.rg_wrg_self s _ _

/-! ### The end of a handshake (R311, R312) -/

theorem shakeDone_mark {q side p t0 : Nat} {who : Option Nat} {s : State} (h : (queOf s q).shake = some ⟨.mark, side, who, p, t0⟩) :
    shakeDone q s = setQue q (queResult side 1 { queOf s q with shake := none, mark := some p, markLost := false }) s := by
  simp only [shakeDone, landRewind_other h (show ShakeOp.mark ≠ .rewind by decide), h]

theorem shakeDone_rewound {q side p t0 : Nat} {who : Option Nat} {s : State} (h : (queOf s q).shake = some ⟨.rewound, side, who, p, t0⟩) :
    shakeDone q s = threshCheck q (setQue q (queResult side 1 { queOf s q with
      shake := none, rptr := p, rSeen := p, rTimes := [], taken := none }) s) := by
  simp only [shakeDone, landRewind_other h (show ShakeOp.rewound ≠ .rewind by decide), h]

/-! ### The flush point (R309), the threshold event (R308) and a reset by force (R313) -/

theorem flushPoint_reaches {q : Nat} {r : FlushReq} {s : State} (hr : (queOf s q).flush = some r)
    (harrives : r.reached = true ∨ maySee s q (pside s q) r.t0 = true) (hopen : r.force = true ∨ (queOf s q).owner = none)
    (hshake : (queOf s q).shake = none) :
    queOf (flushPoint q s) q = { queOf s q with
      flush := some { r with reached := true }, owner := none
      shake := some ⟨if r.force then .force else .flush, r.side, r.who, (queOf s q).wptr, s.now⟩ } := by
  have hgoes : (r.reached || maySee s q (pside s q) r.t0) = true := by rw [Bool.or_eq_true]; exact harrives
  have hpoint : r.force = true ∨ (queOf s q).owner.isNone = true := by rw [Option.isNone_iff_eq_none]; exact hopen
  have hland : landRewind (queOf s q) = queOf s q := by simp only [landRewind, hshake]
  simp only [flushPoint, hr, hgoes, if_true, arrive, hland, fixFlush, queOf_setQue, Option.map_some, hshake, hpoint, Option.isNone_none, and_self]
  rfl

theorem threshCheck_off {q : Nat} {s : State} (h : s.rf (Reg.QUE_THRESH q) 0 15 = 0) : threshCheck q s = s := by
  simp only [threshCheck, h, Nat.zero_min, if_true]

theorem threshCheck_reached {q : Nat} {s : State} (harmed : (queOf s q).armed = true) (hpos : 0 < s.rf (Reg.QUE_THRESH q) 0 15)
    (hreached : s.rf (Reg.QUE_THRESH q) 0 15 ≤ consCount s q) :
    threshCheck q s = event (0x1000 + q) (irq (quePage q) (q % 16) (setQue q { queOf s q with armed := false } s)) := by
  have hdepth : 0 < depth s q := by unfold depth; split <;> decide
  have hset : ¬ min (s.rf (Reg.QUE_THRESH q) 0 15) (depth s q) = 0 := by omega
  have hover : ¬ consCount s q < min (s.rf (Reg.QUE_THRESH q) 0 15) (depth s q) := by omega
  simp only [threshCheck, hset, hover, harmed, if_false, if_true]

theorem forcedReset_que (q : Nat) (isRead : Bool) (s : State) :
    queOf (forcedReset q isRead s) q = { Que.reset with
      resP := (queOf s q).resP, resC := (queOf s q).resC, shake := some ⟨.reset, 2, none, 0, (s.incSat (Reg.QUE_RESETS q) 0 16).now⟩
      errWord := some (w64 (0xE * 2 ^ 60 + b2n isRead * 2 ^ 16 + satInc (s.rf (Reg.QUE_RESETS q) 0 16) 16)) } := by
  have hcount : (s.incSat (Reg.QUE_RESETS q) 0 16).rf (Reg.QUE_RESETS q) 0 16 = satInc (s.rf (Reg.QUE_RESETS q) 0 16) 16 :=
    State.rf_wf_low s _ (by decide) (satInc_lt _ _)
  simp only [forcedReset, queOf_raise, queOf_irq, queOf_queErr, queOf_setQue, queClear, hcount, queOf_incSat]
  rfl

theorem now_incSat_resets (q : Nat) (s : State) : (s.incSat (Reg.QUE_RESETS q) 0 16).now = s.now := by
  have hlow : Reg.TIM_NOW ≠ Reg.QUE_RESETS q := by unfold Reg.TIM_NOW Reg.QUE_RESETS; omega
  have hhigh : Reg.TIM_NOW + 4 ≠ Reg.QUE_RESETS q := by unfold Reg.TIM_NOW Reg.QUE_RESETS; omega
  simp only [State.now, State.rg64, State.rg_incSat_ne s _ _ hlow, State.rg_incSat_ne s _ _ hhigh]

/-- Settles O35: the clauses in order, each the equation of its command where its condition holds. -/
theorem queueControlComplete : Obligations.QueueControlComplete := by
  intro queue s x hx
  subst hx
  refine ⟨fun r hclk hr harr hopen hshake => ⟨_, rfl, ?_⟩, fun w p t hclk h => ?_, fun w p t hclk h => ?_, fun w p t seen hclk h hseen => ?_,
    fun a hfree hown => ?_, fun a value hfree hown hok => ⟨_, ?_, queCfgWrite_stored hok⟩, fun lag n v hclk hn hv => ?_,
    fun isRead hclk hown => ⟨_, _, rfl, rfl, ?_⟩⟩
  · rw [hclk, if_pos rfl, flushPoint_reaches hr harr hopen hshake]
  · refine congrArg Host.Outcome.next ?_
    rw [hclk, if_pos rfl, shakeDone_mark h]
    rfl
  · refine congrArg Host.Outcome.next ?_
    rw [hclk, if_pos rfl, shakeDone_rewound h]
    rfl
  · refine congrArg Host.Outcome.next ?_
    obtain ⟨e, he, hkept⟩ := shakeDone_flush (force := false) h
    rw [hclk, if_pos rfl, he, hkept rfl, hseen]
    rfl
  · refine congrArg Host.Outcome.next ?_
    exact regCmd_que queue.isLt (o := 0x10) (by decide) hfree (queWrite_cmd 1 hown)
  · refine congrArg Host.Outcome.next ?_
    refine regCmd_que queue.isLt (o := 0) (by decide) hfree ?_
    rw [queWrite_cfg value hown]
    simp only [okIf, hok, if_true]
  · subst hn hv
    refine ⟨fun hzero => ?_, fun harmed hpos hreached => ?_⟩
    · refine congrArg Host.Outcome.next ?_
      rw [hclk, if_pos rfl]
      exact threshCheck_off hzero
    · refine congrArg Host.Outcome.next ?_
      rw [hclk, if_pos rfl]
      exact threshCheck_reached (by rw [queOf_setQue]; exact harmed) hpos hreached
  · rw [hclk, hown, Bool.not_false, Bool.and_self, if_pos rfl, forcedReset_que, now_incSat_resets]

end Sys2Proof.Machine
end

section
/-!
PROOFS of the statement on the pins (12_pins.md, O36): the registers of a PIN page, a change at a pin's land, a mismatch, and the rails.
-/

namespace Sys2Proof.Machine

open Sys2Proof

/-! ### Registers of a PIN page (R326, R333, R339) -/

theorem pageOf_pin {b : Nat} (h : b < 12) : pageOf (0x30 + b) = some .pin := by
  simp only [pageOf]
  repeat rw [if_neg (by omega)]
  rw [if_pos (by omega)]

/-- A write of a register of a PIN page that nothing bars. -/
theorem regCmd_pin {a : Acc} {b o : Nat} {v : Word} {s u : State} (hb : b < 12) (hlow : 0x40 ≤ o) (hhigh : o < 0x1000)
    (h : regFree a (0x30000 + o + b * 0x1000) s = true) (hu : pinWrite b o v s = some (u, .okay)) :
    regCmd a (0x30000 + o + b * 0x1000) v s = regDone u := by
  have hsplit : 0x30000 + o + b * 0x1000 = (0x30 + b) * 0x1000 + o := by omega
  rw [hsplit] at h ⊢
  refine regCmd_at (pageOf_pin hb) hlow hhigh h ?_
  rw [blockWrite, Nat.add_sub_cancel_left]
  exact hu

theorem pinWrite_mux {b i : Nat} {v : Word} {s : State} (hi : i < 40) (h : muxAllowed s (40 * b + i) (fld v 0 3) (fld v 4 3) true = true) :
    pinWrite b (0x100 + i * 4) v s = some (switchPin (40 * b + i) (fld v 0 3) (fld v 4 3) false false s, .okay) := by
  have hpin : 40 * b + (0x100 + i * 4 - 0x100) / 4 = 40 * b + i := by omega
  unfold pinWrite
  repeat rw [if_neg (by omega)]
  rw [if_pos (by omega), hpin, writeMux, if_pos h]
  rfl

/-! ### A change at a pin's land (R330, R332, R338) -/

theorem pinWakes_awake {n edges : Nat} {old new : Bool} {s : State} (hnap : wakeMode s ≠ 7) (hhibernate : wakeMode s ≠ 8) :
    pinWakes n old new edges s = s := by
  simp only [pinWakes, hnap, hhibernate, false_and, if_false]

/-- A state that differs in the records of the pins only. -/
def OnlyPins (s w : State) : Prop := ∃ m, w = { s with pins := m }

theorem OnlyPins.setPin {s w : State} (h : OnlyPins s w) (n : Nat) (p : Pin) : OnlyPins s (setPin n p w) := by
  obtain ⟨m, rfl⟩ := h
  exact ⟨_, rfl⟩

theorem onlyPins_setPin (n : Nat) (p : Pin) (s : State) : OnlyPins s (setPin n p s) := ⟨_, rfl⟩

theorem OnlyPins.regs {s w : State} (h : OnlyPins s w) : w.regs = s.regs := by
  obtain ⟨m, rfl⟩ := h
  rfl

theorem OnlyPins.rg {s w : State} (h : OnlyPins s w) (k : Nat) : w.rg k = s.rg k := by
  obtain ⟨m, rfl⟩ := h
  rfl

theorem OnlyPins.bankOf {s w : State} (h : OnlyPins s w) (b : Nat) : bankOf w b = bankOf s b := by
  obtain ⟨m, rfl⟩ := h
  rfl

theorem OnlyPins.wakeMode {s w : State} (h : OnlyPins s w) : wakeMode w = wakeMode s := by
  obtain ⟨m, rfl⟩ := h
  rfl

theorem OnlyPins.pinLatch {s w : State} (h : OnlyPins s w) (n : Nat) : pinLatch w n = pinLatch s n := by
  obtain ⟨m, rfl⟩ := h
  rfl

theorem setLatch_pins (n : Nat) (s : State) : (setLatch n s).1.pins = s.pins := by
  unfold setLatch
  dsimp only
  split
  · simp only [irq_frame, setBank_frame, State.wrg64_frame]
  · simp only [setBank_frame, State.wrg64_frame]

theorem setLatch_wakeMode (n : Nat) (s : State) : wakeMode (setLatch n s).1 = wakeMode s := by
  unfold setLatch
  dsimp only
  split
  · simp only [wakeMode, irq_mode, irq_frame, setBank_frame, State.wrg64_frame]
  · rfl

theorem pinOf_of_pins {s t : State} (h : t.pins = s.pins) (n : Nat) : pinOf t n = pinOf s n := by simp only [pinOf, h]

theorem event_wakeMode (n : Nat) (s : State) : wakeMode (event n s) = wakeMode s := by simp only [wakeMode, event_frame]

/-- The record of a pin when a board source has driven its land. -/
def drivenPin (n : Nat) (board : Option Bool) (s : State) : Pin := { pinOf s n with board := board, keep := padLevel s n }

/-- The level that the pad then shows. -/
def drivenLevel (n : Nat) (board : Option Bool) (s : State) : Bool := padLevel (setPin n (drivenPin n board s) s) n

/-- The record of a pin that a board source has driven for a number of pad-clock edges. -/
def heldPin (n : Nat) (board : Option Bool) (edges : Nat) (s : State) : Pin :=
  let lv := drivenLevel n board s
  { drivenPin n board s with
    keep := lv, sync1 := lv, sync2 := if edges = 1 then (pinOf s n).sync1 else lv
    run := if lv = (pinOf s n).accepted then 0 else (pinOf s n).run + edges }

def heldState (n : Nat) (board : Option Bool) (edges : Nat) (s : State) : State :=
  setPin n (heldPin n board edges s) (setPin n (drivenPin n board s) s)

/-- The detector after the edges (R332): an accepted level `lv`, and the latch. -/
def detected (n : Nat) (lv : Bool) (was : Bool) (s w : State) : State × Bool :=
  if (pinIrqMode s && latchSets (s.rf (cfgReg n) 20 3) was lv && isEnabled s (PIN_PAGE (n / 40))) = true then setLatch n w else (w, false)

section
variable {n edges : Nat} {board : Option Bool} {s : State}

theorem heldState_onlyPins : OnlyPins s (heldState n board edges s) := (onlyPins_setPin n _ s).setPin n _

theorem pinOf_heldState : pinOf (heldState n board edges s) n = heldPin n board edges s := pinOf_setPin _ _ _

theorem masked_heldState : masked (heldState n board edges s) n = masked s n := by
  have hwin : (pinOf (heldState n board edges s) n).win = (pinOf s n).win := by
    rw [pinOf_heldState]
    rfl
  simp only [masked, maskedAt, hwin]
  rfl

/-- The detector by its cases: land not sampled; masked; a level seen long enough, or not. -/
theorem pinDetect_eq : pinDetect n board edges s =
    if edges = 0 ∨ !padSampling s ∨ !bankLive s (n / 40) then
      (setPin n { drivenPin n board s with keep := drivenLevel n board s } (setPin n (drivenPin n board s) s), false)
    else if masked (heldState n board edges s) n then (heldState n board edges s, false)
    else
      let due := decide (s.rf (cfgReg n) 16 4 + 1 ≤ (heldPin n board edges s).run)
      detected n (if due then drivenLevel n board s else (pinOf s n).accepted) (pinOf s n).accepted s
        (if due then setPin n { heldPin n board edges s with accepted := drivenLevel n board s, run := 0 } (heldState n board edges s)
          else heldState n board edges s) := rfl

/-- A level that the detector's filter has not seen long enough: what was accepted stays, and only a mode that takes levels sets the latch. -/
theorem pinDetect_short (h : (pinOf s n).run + edges < s.rf (cfgReg n) 16 4 + 1) :
    ∃ w, OnlyPins s w ∧ (pinOf w n).board = board ∧ (pinOf w n).accepted = (pinOf s n).accepted
      ∧ (pinDetect n board edges s = (w, false)
        ∨ latchSets (s.rf (cfgReg n) 20 3) (pinOf s n).accepted (pinOf s n).accepted = true ∧ pinDetect n board edges s = setLatch n w) := by
  have hshort : (heldPin n board edges s).run ≤ (pinOf s n).run + edges := by
    simp only [heldPin]
    split <;> omega
  have hdue : decide (s.rf (cfgReg n) 16 4 + 1 ≤ (heldPin n board edges s).run) = false := decide_eq_false (by omega)
  have hboard : (pinOf (heldState n board edges s) n).board = board := by rw [pinOf_heldState]; rfl
  have haccepted : (pinOf (heldState n board edges s) n).accepted = (pinOf s n).accepted := by rw [pinOf_heldState]; rfl
  rw [pinDetect_eq]
  split
  · exact ⟨_, (onlyPins_setPin n _ s).setPin n _, by rw [pinOf_setPin]; rfl, by rw [pinOf_setPin]; rfl, .inl rfl⟩
  · refine ⟨_, heldState_onlyPins, hboard, haccepted, ?_⟩
    split
    · exact .inl rfl
    · simp only [hdue, Bool.false_eq_true, if_false, detected]
      split
      case isTrue hsets =>
        simp only [Bool.and_eq_true] at hsets
        exact .inr ⟨hsets.1.2, rfl⟩
      case isFalse => exact .inl rfl

/-- A level that the detector accepts and that sets the latch (R332). -/
theorem pinDetect_accepts (hirq : pinIrqMode s = true) (hlive : bankLive s (n / 40) = true) (hmask : masked s n = false)
    (hlevel : drivenLevel n board s ≠ (pinOf s n).accepted) (hlong : s.rf (cfgReg n) 16 4 + 1 ≤ (pinOf s n).run + edges) (hedges : 1 ≤ edges)
    (hon : isEnabled s (PIN_PAGE (n / 40)) = true)
    (hsets : latchSets (s.rf (cfgReg n) 20 3) (pinOf s n).accepted (drivenLevel n board s) = true) :
    ∃ w, OnlyPins s w ∧ (pinOf w n).board = board ∧ (pinOf w n).accepted = drivenLevel n board s
      ∧ pinDetect n board edges s = setLatch n w := by
  have hsampling : padSampling s = true := by
    unfold pinIrqMode at hirq
    unfold padSampling
    cases hm : s.mode <;> simp only [hm, Bool.false_eq_true] at hirq ⊢
  have hrun : (heldPin n board edges s).run = (pinOf s n).run + edges := if_neg hlevel
  have hdue : decide (s.rf (cfgReg n) 16 4 + 1 ≤ (heldPin n board edges s).run) = true := decide_eq_true (by omega)
  refine ⟨_, (heldState_onlyPins (n := n) (board := board) (edges := edges)).setPin n { heldPin n board edges s with accepted := drivenLevel n board s, run := 0 }, ?_, ?_, ?_⟩
  · rw [pinOf_setPin]
    rfl
  · rw [pinOf_setPin]
  · rw [pinDetect_eq, if_neg (by simp only [hsampling, hlive, Bool.not_true, Bool.false_eq_true, or_false]; omega), masked_heldState, hmask,
      if_neg Bool.false_ne_true]
    simp only [hdue, if_true, detected, hirq, hon, hsets, Bool.and_self]

end

/-- A latch that is clear and is not cleared at this edge changes to 1 (R332). -/
theorem setLatch_new {n : Nat} {s : State} (hlatch : pinLatch s n = false) (hclr : (bankOf s (n / 40)).clrNow.testBit (n % 40) = false) :
    (setLatch n s).2 = true := by
  simp only [setLatch, hlatch, hclr, Bool.not_false, Bool.and_self]

/-! ### A mismatch (R331) -/

/-- A pin that is driven and watched at a pad-clock edge, and shows another level than it drives. -/
theorem mismatchEdge_differs {t n : Nat} {s : State} (hdriven : (pinOf s n).drv.oe = true) (hlong : (pinOf s n).drvAt + 20 < t)
    (hmask : maskedAt s t n = false) (hon : isEnabled s (PIN_PAGE (n / 40)) = true) (hsampling : padSampling s = true)
    (hlevel : (pinOf s n).sync2 ≠ (pinOf s n).drv.level) :
    mismatchEdge t s n = if (pinOf s n).differs < 2 then setPin n { pinOf s n with differs := (pinOf s n).differs + 1 } s
      else irq (PIN_PAGE (n / 40)) 1 (s.wrg64 (Reg.PIN_MISMATCH (n / 40)) (nset (s.rg64 (Reg.PIN_MISMATCH (n / 40))) (n % 40))) := by
  have hdiffers : ((pinOf s n).sync2 == (pinOf s n).drv.level) = false := beq_eq_false_iff_ne.mpr hlevel
  simp only [mismatchEdge, hdriven, hlong, hmask, hon, hsampling, hdiffers, decide_true, Bool.not_false, Bool.and_self, Bool.not_true, Bool.or_self,
    Bool.false_eq_true, if_false]

/-- One of the edges at which a driven pin shows another level. -/
theorem mismatchEdge_counts {t n k : Nat} {x : Bool} {s w : State} (hw : OnlyPins s w)
    (hpin : ∃ y z, pinOf w n = { pinOf s n with sync1 := y, sync2 := z, differs := k }) (hdriven : (pinOf s n).drv.oe = true)
    (hlong : (pinOf s n).drvAt + 20 < t) (hmask : maskedAt s t n = false) (hon : isEnabled s (PIN_PAGE (n / 40)) = true)
    (hsampling : padSampling s = true) (hlevel : x ≠ (pinOf s n).drv.level) :
    (k < 2 → ∃ v, mismatchEdge t (setPin n { pinOf w n with sync1 := x, sync2 := x } w) n = v ∧ OnlyPins s v
      ∧ ∃ y z, pinOf v n = { pinOf s n with sync1 := y, sync2 := z, differs := k + 1 })
    ∧ (k = 2 → ∃ v, mismatchEdge t (setPin n { pinOf w n with sync1 := x, sync2 := x } w) n
        = irq (PIN_PAGE (n / 40)) 1 (v.wrg64 (Reg.PIN_MISMATCH (n / 40)) (nset (v.rg64 (Reg.PIN_MISMATCH (n / 40))) (n % 40))) ∧ OnlyPins s v) := by
  obtain ⟨y, z, hp⟩ := hpin
  obtain ⟨m, rfl⟩ := hw
  rw [hp]
  have hself : pinOf (setPin n { pinOf s n with sync1 := x, sync2 := x, differs := k } { s with pins := m }) n
      = { pinOf s n with sync1 := x, sync2 := x, differs := k } := pinOf_setPin _ _ _
  have hedge := mismatchEdge_differs (t := t) (n := n) (s := setPin n { pinOf s n with sync1 := x, sync2 := x, differs := k } { s with pins := m })
    (by rw [hself]; exact hdriven) (by rw [hself]; exact hlong) (by unfold maskedAt at hmask ⊢; rw [hself]; exact hmask) hon hsampling
    (by rw [hself]; exact hlevel)
  rw [hself] at hedge
  refine ⟨fun hk => ⟨_, hedge.trans (if_pos hk), ⟨_, rfl⟩, x, x, pinOf_setPin _ _ _⟩, fun hk => ⟨_, hedge.trans (if_neg (show ¬ k < 2 by omega)), ⟨_, rfl⟩⟩⟩

/-- Three edges in a row at which a driven pin shows another level (R331). -/
theorem mismatch_records {n t : Nat} {x : Bool} {s : State} (ht : t = s.now / 10 * 10) (hdriven : (pinOf s n).drv.oe = true)
    (hlong : (pinOf s n).drvAt + 40 < t) (hmask : ∀ k < 3, maskedAt s (t - 10 * k) n = false) (hon : isEnabled s (PIN_PAGE (n / 40)) = true)
    (hsampling : padSampling s = true) (hlevel : x ≠ (pinOf s n).drv.level) :
    ∃ w, OnlyPins s w ∧ mismatch n x x x s
      = irq (PIN_PAGE (n / 40)) 1 (w.wrg64 (Reg.PIN_MISMATCH (n / 40)) (nset (w.rg64 (Reg.PIN_MISMATCH (n / 40))) (n % 40))) := by
  have hstart : mismatch n x x x s = [(t - 20, x), (t - 10, x), (t, x)].foldl
      (fun s x => mismatchEdge x.1 (setPin n { pinOf s n with sync1 := x.2, sync2 := x.2 } s) n) (setPin n { pinOf s n with differs := 0 } s) := by
    simp only [mismatch, hsampling, Bool.not_true, Bool.false_eq_true, if_false, ht]
  obtain ⟨a, ha, honlya, hpina⟩ := (mismatchEdge_counts (t := t - 20) (x := x) (onlyPins_setPin n { pinOf s n with differs := 0 } s)
    ⟨_, _, pinOf_setPin _ _ _⟩ hdriven (by omega) (hmask 2 (by decide)) hon hsampling hlevel).1 (by decide)
  obtain ⟨b, hb, honlyb, hpinb⟩ := (mismatchEdge_counts (t := t - 10) (x := x) honlya hpina hdriven (by omega) (hmask 1 (by decide)) hon hsampling
    hlevel).1 (by decide)
  obtain ⟨w, hw, honlyw⟩ := (mismatchEdge_counts (t := t) (x := x) honlyb hpinb hdriven (by omega) (hmask 0 (by decide)) hon hsampling hlevel).2 rfl
  refine ⟨w, honlyw, ?_⟩
  rw [hstart, List.foldl_cons, List.foldl_cons, List.foldl_cons, List.foldl_nil, ha, hb, hw]

theorem pinChange_unlatched {n edges : Nat} {board : Option Bool} {s w : State} (h : pinDetect n board edges s = (w, false))
    (hnap : wakeMode w ≠ 7) (hhibernate : wakeMode w ≠ 8) : pinChange n board edges s = w := by
  rw [pinChange, h]
  exact pinWakes_awake hnap hhibernate

/-- The latch set: the pins stay as the detector left them, whether the latch was set before or not. -/
theorem pinChange_latched {n edges : Nat} {board : Option Bool} {s w : State} (h : pinDetect n board edges s = setLatch n w)
    (hnap : wakeMode w ≠ 7) (hhibernate : wakeMode w ≠ 8) : ∃ u, pinChange n board edges s = u ∧ u.pins = w.pins := by
  have hwake := setLatch_wakeMode n w
  rw [pinChange, h]
  split
  · have hevent := (event_wakeMode (pinSource n) (setLatch n w).1).trans hwake
    refine ⟨_, pinWakes_awake (hevent ▸ hnap) (hevent ▸ hhibernate), ?_⟩
    simp only [event_frame, setLatch_pins]
  · exact ⟨_, pinWakes_awake (hwake ▸ hnap) (hwake ▸ hhibernate), setLatch_pins n w⟩

theorem railRetry_up {b : Nat} {s : State} (h : (bankOf s b).shut = false) : railRetry b s = s := by
  rw [railRetry, h, if_neg Bool.false_ne_true]

theorem b2n_le (b : Bool) : b2n b ≤ 1 := by cases b <;> decide

/-- The two words of a 64-bit register of a PIN page. -/
theorem pinHalf {k o : Nat} (hk : k = 0x30000 + o) (b h : Nat) : k + b * 0x1000 + 4 * h = 0x30000 + (o + 4 * h) + b * 0x1000 := by omega

/-! ### The statement -/

/-- Settles O36: each register's own behaviour, the detector by what it has seen, and the mismatch by its three edges. -/
theorem pinCommandsComplete : Obligations.PinCommandsComplete := by
  intro s
  refine ⟨fun a pin value hfree hmux => ?_, fun a bank high mask hfree => ?_, fun a bank high mask hfree => ?_,
    fun pin board edges hnap hhib hshort => ?_, fun pin board edges t hnap hhib ht hirq hlive hmask hlevel hlong hedges hon hsets hlatch hclr => ?_,
    fun pin x t ht _ hdriven hx hlong hmask hon hsampling => ?_, fun bank hpowered => ?_, fun a bank hfree => ⟨fun hshut => ?_, fun hshut => ?_⟩⟩
  · have hpin : 40 * (pin.val / 40) + pin.val % 40 = pin.val := by omega
    have hoff : 0x30100 + pin.val / 40 * 0x1000 + pin.val % 40 * 4 = 0x30000 + (0x100 + pin.val % 40 * 4) + pin.val / 40 * 0x1000 := by omega
    have hput := pinWrite_mux (b := pin.val / 40) (i := pin.val % 40) (v := value) (s := s) (by omega) (by rwa [hpin])
    rw [hpin] at hput
    refine congrArg Host.Outcome.next ?_
    rw [hoff] at hfree ⊢
    exact regCmd_pin (by omega) (by omega) (by omega) hfree hput
  · refine congrArg Host.Outcome.next ?_
    rw [pinHalf (o := 0x50) rfl] at hfree ⊢
    exact regCmd_pin bank.isLt (by omega) (by have := b2n_le high; omega) hfree (by cases high <;> rfl)
  · refine congrArg Host.Outcome.next ?_
    rw [pinHalf (o := 0x58) rfl] at hfree ⊢
    exact regCmd_pin bank.isLt (by omega) (by have := b2n_le high; omega) hfree (by cases high <;> rfl)
  · obtain ⟨w, honly, hboard, haccepted, hdetect⟩ := pinDetect_short (n := pin.val) (board := board) hshort
    rcases hdetect with hnone | ⟨htakes, hsets⟩
    · refine ⟨w, congrArg Host.Outcome.next (pinChange_unlatched hnone (honly.wakeMode ▸ hnap) (honly.wakeMode ▸ hhib)), hboard, haccepted,
        fun _ => honly.regs⟩
    · obtain ⟨u, hu, hpins⟩ := pinChange_latched hsets (honly.wakeMode ▸ hnap) (honly.wakeMode ▸ hhib)
      refine ⟨u, congrArg Host.Outcome.next hu, ?_, ?_, fun hlevel => ?_⟩
      · rw [pinOf_of_pins hpins, hboard]
      · rw [pinOf_of_pins hpins, haccepted]
      · rw [hlevel] at htakes
        exact nomatch htakes
  · subst ht
    obtain ⟨w, honly, hboard, haccepted, hdetect⟩ := pinDetect_accepts (n := pin.val) (edges := edges) (board := board) hirq hlive hmask hlevel hlong
      hedges hon hsets
    have hnew : (setLatch pin.val w).2 = true := setLatch_new (by rw [honly.pinLatch]; exact hlatch) (by rw [honly.bankOf]; exact hclr)
    refine ⟨w, congrArg Host.Outcome.next ?_, hboard, haccepted, honly.regs⟩
    have hwake : wakeMode (event (pinSource pin.val) (setLatch pin.val w).1) = wakeMode s := by
      rw [event_wakeMode, setLatch_wakeMode, honly.wakeMode]
    rw [pinChange, hdetect, hnew, if_pos rfl]
    exact pinWakes_awake (hwake ▸ hnap) (hwake ▸ hhib)
  · obtain ⟨w, honly, hw⟩ := mismatch_records ht hdriven hlong hmask hon hsampling hx
    refine ⟨_, congrArg Host.Outcome.next hw, ?_⟩
    obtain ⟨m, rfl⟩ := honly
    rfl
  · exact congrArg Host.Outcome.next (if_pos hpowered)
  · refine congrArg Host.Outcome.next ?_
    exact regCmd_pin (o := 0x88) bank.isLt (by decide) (by decide) hfree (congrArg (fun u => some (u, Rsp.okay)) (if_pos hshut))
  · refine congrArg Host.Outcome.next ?_
    exact regCmd_pin (o := 0x88) bank.isLt (by decide) (by decide) hfree
      (congrArg (fun u => some (u, Rsp.okay)) (railRetry_up hshut))

end Sys2Proof.Machine
end

section
/-!
PROOFS of the statements on pin schedules (13_pleats.md): the commands of a pleat group and the time-triggered edges (O37), and what a group does
at its times (O38).
-/

namespace Sys2Proof.Machine

open Sys2Proof

/-! ### PLT_GCMD (R347) -/

/-- A write of PLT_GCMD that nothing bars and that its group takes. -/
theorem regCmd_gcmd {a : Acc} {g : Nat} {v : Word} {s u : State} (hg : g < 8) (h : regFree a (0x3C118 + g * 0x40) s = true)
    (hu : groupCmd g v s = (u, true)) : regCmd a (0x3C118 + g * 0x40) v s = regDone u := by
  have hsplit : 0x3C118 + g * 0x40 = 0x3C * 0x1000 + (0x118 + g * 0x40) := by omega
  have hgroup : (0x118 + g * 0x40 - 0x100) / 0x40 = g := by omega
  have hreg : (0x118 + g * 0x40 - 0x100) % 0x40 = 0x18 := by omega
  rw [hsplit] at h ⊢
  refine regCmd_at (k := .plt) rfl (by omega) (by omega) h ?_
  rw [blockWrite, pltWrite, if_neg (by omega), if_neg (by omega), if_pos (by omega), hgroup, hreg, if_pos rfl, hu]
  rfl

section
variable {g : Nat} {s : State} (hon : isEnabled s PLT_PAGE = true)
include hon

theorem groupCmd_start (hidle : groupBusy s g = false) (hsample : sampleOk s g = true) : groupCmd g 1 s = (groupStart g false s, true) := by
  have hop : fld 1 0 3 = 1 := by decide
  simp only [groupCmd, hon, hop, hidle, hsample, Bool.not_true, Bool.or_self, Bool.false_eq_true, if_false]

theorem groupCmd_startAt (hidle : groupBusy s g = false) (hsample : sampleOk s g = true) : groupCmd g 2 s = (groupStart g true s, true) := by
  have hop : fld 2 0 3 = 2 := by decide
  simp only [groupCmd, hon, hop, hidle, hsample, Bool.not_true, Bool.or_self, Bool.false_eq_true, if_false]

theorem groupCmd_stop : groupCmd g 3 s = (groupStop g s, true) := by
  have hop : fld 3 0 3 = 3 := by decide
  simp only [groupCmd, hon, hop, Bool.not_true, Bool.false_eq_true, if_false]

theorem groupCmd_halt : groupCmd g 4 s = (groupHalt g s, true) := by
  have hop : fld 4 0 3 = 4 := by decide
  simp only [groupCmd, hon, hop, Bool.not_true, Bool.false_eq_true, if_false]

end

/-- T0 of START_AT: its register, or the earliest time where that is too near (R347). -/
theorem groupStart_at (g : Nat) (s : State) :
    groupStart g true s = setGroup g { groupOf s g with
      waiting := true
      t0 := if s.rg64 (Reg.PLT_GSTART g) < s.now + 1000 then s.now + 1000 else s.rg64 (Reg.PLT_GSTART g)
      late := decide (s.rg64 (Reg.PLT_GSTART g) < s.now + 1000), frame := 0, slot := 0, stopping := false
      left := s.rf (Reg.PLT_GCFG g) 0 16, raw := [], hist := [], napHalt := false } s := by
  by_cases hlate : s.rg64 (Reg.PLT_GSTART g) < s.now + 1000 <;>
    simp only [groupStart, hlate, decide_true, decide_false, Bool.and_true, Bool.and_false, Bool.not_true, Bool.not_false,
      Bool.false_eq_true, if_true, if_false]

/-! ### The channels of the time-triggered edges (R351, R352) -/

/-- A change that leaves what the channels' arming looks at: the pins' functions, the channels' settings and the page's ENABLE. -/
structure KeepsTte (s t : State) : Prop where
  func : ∀ n, pinFunc t n = pinFunc s n
  ctl : ∀ k, t.rf (Reg.PLT_TTE_CTL k) 0 9 = s.rf (Reg.PLT_TTE_CTL k) 0 9
  on : isEnabled t PLT_PAGE = isEnabled s PLT_PAGE

/-- The channel's arm bit and fire time, written. -/
def tteWritten (k : Nat) (b : Bool) (l : List (Nat × (Nat × Bool))) (s : State) : State :=
  { s.wf Reg.PLT_TTE_ARM k 1 (b2n b) with plt := { s.plt with fireAt := l } }

theorem tteWritten_keeps (k : Nat) (b : Bool) (l : List (Nat × (Nat × Bool))) (s : State) : KeepsTte s (tteWritten k b l s) := by
  have hrg : ∀ j, j ≠ Reg.PLT_TTE_ARM → (tteWritten k b l s).rg j = s.rg j := fun j hj => State.rg_wf_ne s _ _ _ hj
  refine ⟨fun n => ?_, fun j => ?_, ?_⟩
  · have hn : muxReg n ≠ Reg.PLT_TTE_ARM := by unfold muxReg Reg.PIN_MUX Reg.PLT_TTE_ARM; omega
    simp only [pinFunc, State.rf, hrg _ hn]
  · have hj : Reg.PLT_TTE_CTL j ≠ Reg.PLT_TTE_ARM := by unfold Reg.PLT_TTE_CTL Reg.PLT_TTE_ARM; omega
    simp only [State.rf, hrg _ hj]
  · have ho : PLT_PAGE * 0x1000 + 0x0C ≠ Reg.PLT_TTE_ARM := by decide
    simp only [isEnabled, State.rb, hrg _ ho]

theorem rb_tteWritten {k : Nat} (b : Bool) (l : List (Nat × (Nat × Bool))) (s : State) (hk : k < 16) (j : Nat) :
    (tteWritten k b l s).rb Reg.PLT_TTE_ARM j = if j = k then b else s.rb Reg.PLT_TTE_ARM j :=
  State.rb_wb s Reg.PLT_TTE_ARM b (by omega) j

/-- Arming a channel whose pin is a TTE pin, on an enabled page. -/
theorem tteArm_arms {k : Nat} {s : State} (hk : k < 16) (hon : isEnabled s PLT_PAGE = true) (hfunc : pinFunc s (s.rf (Reg.PLT_TTE_CTL k) 0 9) = 4) :
    ∃ t, tteArm k s = (t, true) ∧ KeepsTte s t
      ∧ ∀ j, t.rb Reg.PLT_TTE_ARM j = if j = k then true else s.rb Reg.PLT_TTE_ARM j := by
  have hnot : ¬ pinFunc s (s.rf (Reg.PLT_TTE_CTL k) 0 9) ≠ 4 := not_not.mpr hfunc
  by_cases harmed : s.rb Reg.PLT_TTE_ARM k = true
  · refine ⟨s, ?_, ⟨fun _ => rfl, fun _ => rfl, rfl⟩, fun j => ?_⟩
    · simp only [tteArm, harmed, or_true, if_true]
    · split
      case isTrue hj => rw [hj, harmed]
      case isFalse => rfl
  · exact ⟨tteWritten k true _ s, by simp only [tteArm, hon, harmed, hnot, Bool.not_true, Bool.false_eq_true, or_self, if_false]; rfl,
      tteWritten_keeps k true _ s, rb_tteWritten true _ s hk⟩

theorem KeepsTte.trans {s t u : State} (h : KeepsTte s t) (h' : KeepsTte t u) : KeepsTte s u :=
  ⟨fun n => (h'.func n).trans (h.func n), fun k => (h'.ctl k).trans (h.ctl k), h'.on.trans h.on⟩

/-- The channels of a list armed one after the other. -/
theorem tteArm_foldl {l : List Nat} {s : State} (hl : ∀ k ∈ l, k < 16) (hon : isEnabled s PLT_PAGE = true)
    (hfunc : ∀ k ∈ l, pinFunc s (s.rf (Reg.PLT_TTE_CTL k) 0 9) = 4) :
    ∃ t, l.foldl (fun (a : State × Bool) k => if a.2 then tteArm k a.1 else a) (s, true) = (t, true)
      ∧ ∀ j, t.rb Reg.PLT_TTE_ARM j = (decide (j ∈ l) || s.rb Reg.PLT_TTE_ARM j) := by
  induction l generalizing s with
  | nil => exact ⟨s, rfl, fun j => by simp only [List.not_mem_nil, decide_false, Bool.false_or]⟩
  | cons k l ih =>
    obtain ⟨t, ht, hkeeps, hbits⟩ := tteArm_arms (hl k List.mem_cons_self) hon (hfunc k List.mem_cons_self)
    obtain ⟨u, hu, hrest⟩ := ih (s := t) (fun j hj => hl j (List.mem_cons_of_mem _ hj)) (hkeeps.on.trans hon)
      (fun j hj => by rw [hkeeps.func, hkeeps.ctl]; exact hfunc j (List.mem_cons_of_mem _ hj))
    refine ⟨u, ?_, fun j => ?_⟩
    · rw [List.foldl_cons, if_pos rfl, ht, hu]
    · rw [hrest, hbits]
      by_cases hj : j = k
      · simp only [hj, if_true, Bool.or_true, List.mem_cons, true_or, decide_true, Bool.true_or]
      · simp only [hj, if_false, List.mem_cons, false_or]

theorem tteCancel_eq (k : Nat) (s : State) : tteCancel k s = tteWritten k false (sdel k s.plt.fireAt) s := rfl

theorem tteCancel_foldl {l : List Nat} {s : State} (hl : ∀ k ∈ l, k < 16) (j : Nat) :
    (l.foldl (fun s k => tteCancel k s) s).rb Reg.PLT_TTE_ARM j = (!decide (j ∈ l) && s.rb Reg.PLT_TTE_ARM j) := by
  induction l generalizing s with
  | nil => simp only [List.foldl_nil, List.not_mem_nil, decide_false, Bool.not_false, Bool.true_and]
  | cons k l ih =>
    rw [List.foldl_cons, ih (fun j hj => hl j (List.mem_cons_of_mem _ hj)), tteCancel_eq, rb_tteWritten _ _ _ (hl k List.mem_cons_self)]
    by_cases hj : j = k
    · simp only [hj, if_true, Bool.and_false, List.mem_cons, true_or, decide_true, Bool.not_true, Bool.false_and]
    · simp only [hj, if_false, List.mem_cons, false_or]

theorem mem_bitsOf_mask {mask : BitVec 16} {k : Nat} : k ∈ bitsOf 16 (w32 mask.toNat).toNat ↔ k < 16 ∧ mask.getLsbD k = true := by
  have hword : (w32 mask.toNat).toNat = mask.toNat := by
    rw [w32, BitVec.toNat_ofNat, Nat.mod_eq_of_lt (Nat.lt_trans mask.isLt (by decide))]
  rw [hword, bitsOf, List.mem_filter, List.mem_range, BitVec.getLsbD]

/-- A channel whose time has come, on a pin that has seen no edge. -/
theorem tteFire_due {k t n : Nat} {s : State} (hfire : sget (fun _ => (0, false)) s.plt.fireAt k = (t, false))
    (hn : n = s.rf (Reg.PLT_TTE_CTL k) 0 9) (hlast : (pinOf s n).tteLast = none) (harmed : s.rb Reg.PLT_TTE_ARM k = true) (hdue : t ≤ s.now)
    (hruns : pleatRuns s = true) (hfirst : tteFirst k s = true) :
    tteFire k s = irq PLT_PAGE 16 ((tteCancel k (setPin n { pinOf s n with
      tte := tteDrive (s.rf (Reg.PLT_TTE_CTL k) 16 2), tteLast := some (t, k) } s)).wf Reg.PLT_TTE_FIRED k 1 1) := by
  subst hn
  simp only [tteFire, hfire, hlast, harmed, hfirst, hdue, hruns, and_self, if_true, Bool.false_eq_true, if_false, ne_eq, not_true_eq_false, or_self]

/-- Settles O37: the commands of a group by their op code, the channels of a mask one after the other, and the edge of the channel that is due. -/
theorem pleatGroupsAndEdgesComplete : Obligations.PleatGroupsAndEdgesComplete := by
  refine ⟨fun a group s hfree hon => ⟨fun hidle hsample => ?_, fun hidle hsample => ?_, fun hrun => ?_, fun hrun hwait => ?_, fun hbusy => ?_⟩,
    fun a s => ⟨fun mask hfree hon hfunc => ?_, fun mask hfree => ?_, fun channel t n hfire hn hlast harmed hdue hruns hfirst => ?_⟩⟩
  · exact congrArg Host.Outcome.next (regCmd_gcmd group.isLt hfree (groupCmd_start hon hidle hsample))
  · refine congrArg Host.Outcome.next (regCmd_gcmd group.isLt hfree ?_)
    rw [groupCmd_startAt hon hidle hsample, groupStart_at]
  · refine congrArg Host.Outcome.next (regCmd_gcmd group.isLt hfree ?_)
    rw [groupCmd_stop hon, groupStop, if_pos hrun]
  · refine congrArg Host.Outcome.next (regCmd_gcmd group.isLt hfree ?_)
    rw [groupCmd_stop hon, groupStop, hrun, if_neg Bool.false_ne_true, if_pos hwait]
  · refine congrArg Host.Outcome.next (regCmd_gcmd group.isLt hfree ?_)
    rw [groupCmd_halt hon, groupHalt, if_pos hbusy]
  · obtain ⟨t, ht, hbits⟩ := tteArm_foldl (l := bitsOf 16 (w32 mask.toNat).toNat) (fun k hk => (mem_bitsOf_mask.mp hk).1) hon
      (fun k hk => hfunc k (mem_bitsOf_mask.mp hk).1 (mem_bitsOf_mask.mp hk).2)
    refine ⟨t, congrArg Host.Outcome.next (regCmd_at (i := 0x3C) (o := 0x40) (k := .plt) rfl (by decide) (by decide) hfree ?_), fun k hk hset => ?_⟩
    · change some (tteArmAll (w32 mask.toNat) s) = _
      simp only [tteArmAll, ht, if_true]
    · rw [hbits, decide_eq_true (mem_bitsOf_mask.mpr ⟨hk, hset⟩), Bool.true_or]
  · refine ⟨_, congrArg Host.Outcome.next (regCmd_at (i := 0x3C) (o := 0x44) (k := .plt) rfl (by decide) (by decide) hfree rfl), fun k hk hset => ?_⟩
    rw [tteCancel_foldl (fun k hk => (mem_bitsOf_mask.mp hk).1), decide_eq_true (mem_bitsOf_mask.mpr ⟨hk, hset⟩), Bool.not_true, Bool.false_and]
  · exact congrArg Host.Outcome.next (tteFire_due hfire hn hlast harmed hdue hruns hfirst)

/-! ### The times of a group (R344, R346 to R349) -/

theorem frameStart_setGroup (g : Nat) (x : Group) (s : State) :
    frameStart (setGroup g x s) g = x.t0 + x.frame * slotsOf s g * periodOf s g := by
  unfold frameStart
  rw [groupOf_setGroup]
  rfl

/-- What the sample point changes: which levels have been sampled. -/
theorem sampleNow_changes (g : Nat) (s : State) : ∃ l b, sampleNow g s = setGroup g { groupOf s g with raw := l, sampled := b } s
    ∨ sampleNow g s = s := by
  unfold sampleNow
  dsimp only
  split
  · exact ⟨[], false, .inr rfl⟩
  · exact ⟨_, _, .inl rfl⟩

/-- A group before and after its sample point, which may have come: where it stands in its frame is the same. -/
structure SamePlace (g : Nat) (s t : State) : Prop where
  group : ∃ l b, groupOf t g = { groupOf s g with raw := l, sampled := b }
  runs : pleatRuns t = pleatRuns s
  start : frameStart t g = frameStart s g
  slots : slotsOf t g = slotsOf s g
  period : periodOf t g = periodOf s g
  now : t.now = s.now

theorem SamePlace.refl (g : Nat) (s : State) : SamePlace g s s := ⟨⟨_, _, rfl⟩, rfl, rfl, rfl, rfl, rfl⟩

theorem groupSample_place (g : Nat) (s : State) : SamePlace g s (groupSample g s) := by
  unfold groupSample
  dsimp only
  split
  · obtain ⟨l, b, h | h⟩ := sampleNow_changes g s <;> rw [h]
    · exact ⟨⟨l, b, groupOf_setGroup _ _ _⟩, rfl, frameStart_setGroup g _ s, rfl, rfl, rfl⟩
    · exact SamePlace.refl g s
  · exact SamePlace.refl g s

theorem slotBoundary_next {g : Nat} {s : State} (hrun : (groupOf s g).running = true) (hruns : pleatRuns s = true)
    (hin : (groupOf s g).slot + 1 < slotsOf s g) (hdue : frameStart s g + ((groupOf s g).slot + 1) * periodOf s g ≤ s.now) :
    ∃ l b, groupOf (slotBoundary g s) g = { groupOf s g with slot := (groupOf s g).slot + 1, raw := l, sampled := b } ∧ b = false := by
  obtain ⟨⟨l, b, hgroup⟩, hr, hstart, hslots, hperiod, hnow⟩ := groupSample_place g s
  refine ⟨l, false, ?_, rfl⟩
  rw [slotBoundary]
  dsimp only
  rw [if_pos (by rw [hgroup, hr, hstart, hslots, hperiod, hnow]; exact ⟨hrun, hruns, hin, hdue⟩), groupOf_setGroup, hgroup]

theorem testBit_nset_self (n i : Nat) : (nset n i).testBit i = true := by
  unfold nset
  split
  case isTrue h => exact h
  case isFalse h => rw [Nat.add_comm, Nat.testBit_two_pow_add_eq, Bool.not_eq_true', Bool.eq_false_iff.mpr h]

/-- The levels that a sample point records: those of the members that sample and whose pad is high. -/
theorem sampled_foldl (p : Nat → Bool) (slot : Nat) {l : List Nat} {m : List (Nat × Nat)} {n : Nat} (hp : p n = true)
    (h : n ∈ l ∨ (sget (fun _ => 0) m n).testBit slot = true) :
    (sget (fun _ => 0) (l.foldl (fun m n => if p n then sset (fun _ => 0) m n (nset (sget (fun _ => 0) m n) slot) else m) m) n).testBit slot
      = true := by
  induction l generalizing m with
  | nil => exact h.resolve_left List.not_mem_nil
  | cons k l ih =>
    rw [List.foldl_cons]
    refine ih ?_
    by_cases hk : k = n
    · subst hk
      rw [if_pos hp, sget_sset_self, testBit_nset_self]
      exact .inr rfl
    · refine h.imp (fun hmem => (List.mem_cons.mp hmem).resolve_left (fun e => hk e.symm)) fun hbit => ?_
      split
      · rwa [sget_sset_ne _ _ _ (fun e => hk e.symm)]
      · exact hbit

theorem groupSample_records {g : Nat} {s : State} (hrun : (groupOf s g).running = true) (hruns : pleatRuns s = true)
    (hfirst : (groupOf s g).sampled = false) (hdue : frameStart s g + (groupOf s g).slot * periodOf s g + sampleOf s g ≤ s.now) {n : Nat}
    (hmember : n ∈ groupMembers s g) (hcode : nfld (sget (fun _ => 0) s.plt.tables n).toNat (2 * (groupOf s g).slot) 2 = 3)
    (hlevel : padLevel s n = true) :
    Nat.testBit (sget (fun _ => 0) (groupOf (groupSample g s) g).raw n) (groupOf s g).slot = true := by
  have hsample : groupSample g s = sampleNow g s := if_pos ⟨hrun, hruns, hdue⟩
  rw [hsample, sampleNow, hfirst, if_neg Bool.false_ne_true, groupOf_setGroup]
  have hrec := sampled_foldl (fun n => decide (nfld (sget (fun _ => 0) s.plt.tables n).toNat (2 * (groupOf s g).slot) 2 = 3 ∧ padLevel s n = true))
    (groupOf s g).slot (m := (groupOf s g).raw) (decide_eq_true ⟨hcode, hlevel⟩) (.inl hmember)
  simpa only [decide_eq_true_eq] using hrec

theorem groupOf_frameBegins (g t : Nat) (s : State) : ∃ l, groupOf (frameBegins g t s) g = { groupOf s g with full := l } :=
  ⟨_, groupOf_setGroup _ _ _⟩

theorem groupOf_irq (page n : Nat) (s : State) (g : Nat) : groupOf (irq page n s) g = groupOf s g := by simp only [groupOf, irq_frame]

/-- A frame that is not the last ends: the next one begins. -/
theorem frameEndNow_next {g : Nat} {s : State} (hstop : (groupOf s g).stopping = false) (hleft : (groupOf s g).left ≠ 1) :
    (groupOf (frameEndNow g s) g).running = (groupOf s g).running ∧ (groupOf (frameEndNow g s) g).slot = 0
      ∧ (groupOf (frameEndNow g s) g).frame = (groupOf s g).frame + 1 ∧ (groupOf (frameEndNow g s) g).raw = [] := by
  have hgoes : ¬ ((groupOf s g).stopping = true ∨ (groupOf s g).left = 1) := by
    rw [hstop]
    exact not_or.mpr ⟨Bool.false_ne_true, hleft⟩
  have hbegins : ∀ (t : Nat) (u : State), (∃ h, groupOf u g = { groupOf s g with
        frame := (groupOf s g).frame + 1, slot := 0, raw := [], hist := h, left := (groupOf s g).left - 1, sampled := false }) →
      (groupOf (frameBegins g t u) g).running = (groupOf s g).running ∧ (groupOf (frameBegins g t u) g).slot = 0
        ∧ (groupOf (frameBegins g t u) g).frame = (groupOf s g).frame + 1 ∧ (groupOf (frameBegins g t u) g).raw = [] := fun t u hu => by
    obtain ⟨h, hu⟩ := hu
    obtain ⟨l, hl⟩ := groupOf_frameBegins g t u
    rw [hl, hu]
    exact ⟨rfl, rfl, rfl, rfl⟩
  unfold frameEndNow
  dsimp only
  rw [if_neg hgoes]
  refine hbegins _ _ ?_
  split
  · exact ⟨_, groupOf_setGroup _ _ _⟩
  · exact ⟨_, (groupOf_irq _ _ _ g).trans (groupOf_setGroup _ _ _)⟩

/-- Settles O38: T0, the slot boundary and the frame end, each behind the sample point of its slot, which leaves the group in its place. -/
theorem pleatTimesComplete : Obligations.PleatTimesComplete := by
  intro group s x hx hruns
  subst hx
  refine ⟨fun hwait hdue => ?_, fun hrun hin hdue => ⟨_, rfl, ?_⟩, fun hrun hfirst hdue => ⟨_, rfl, fun n hmember hcode hlevel => ?_⟩,
    fun hrun hlast hstop hleft hdue => ⟨_, rfl, ?_⟩⟩
  · exact congrArg Host.Outcome.next (if_pos ⟨hwait, hdue, hruns⟩)
  · obtain ⟨l, b, h, hb⟩ := slotBoundary_next hrun hruns hin hdue
    rw [h]
    exact ⟨rfl, hb, hrun⟩
  · exact groupSample_records hrun hruns hfirst hdue hmember hcode hlevel
  · obtain ⟨⟨l, b, hgroup⟩, hr, hstart, hslots, hperiod, hnow⟩ := groupSample_place group.val s
    have hend : frameEnd group.val s = frameEndNow group.val (groupSample group.val s) := by
      rw [frameEnd]
      rw [if_pos (by rw [hgroup, hr, hstart, hslots, hperiod, hnow]; exact ⟨hrun, hruns, hlast, hdue⟩)]
    obtain ⟨hrunning, hslot, hframe, hraw⟩ := frameEndNow_next (g := group.val) (s := groupSample group.val s) (by rw [hgroup]; exact hstop)
      (by rw [hgroup]; exact hleft)
    rw [hend]
    refine ⟨?_, hslot, ?_, hraw⟩
    · rw [hrunning, hgroup]
      exact hrun
    · rw [hframe, hgroup]

end Sys2Proof.Machine
end

section
/-!
PROOFS. Quad-SPI requests (R374 to R379): the frame of a request that is repeated or executed, and what each operation gives.
-/

namespace Sys2Proof.Machine

open Sys2Proof

/-! ### A request at its port -/

theorem hostsWork_awake {s : State} (h : hostsWork s = true) : s.mode ≠ .nap := fun hm => by
  simp only [hostsWork, opMode, hm, reduceCtorEq, false_and, if_false, Bool.false_eq_true] at h

theorem qspiReq_awake {opc : Nat} {q : QspiReq} {run : Initiator → State → PortRes} {s : State} (hon : qspiOn s q.port.val = true) :
    qspiReq opc q run s = qspiRun q.port.val (opcodeOf opc q) q.tag.toNat q.crc q.body (qspiServe opc q run) s := by
  simp only [qspiOn, Bool.and_eq_true] at hon
  exact if_neg fun h => hostsWork_awake hon.2 h.1

/-- R376: the kept response is sent, and REPEATED counts the request. -/
theorem qspiReq_repeated {opc : Nat} {q : QspiReq} {s : State} {k : Kept} (run : Initiator → State → PortRes)
    (hon : qspiOn s q.port.val = true) (hkept : (portOf s q.port.val).kept = some k) (htag : k.tag = q.tag.toNat) (hkcrc : k.crc = q.crc)
    (hcrc : q.crc = reqCrc (opcodeOf opc q) q.tag.toNat q.body) :
    qspiReq opc q run s = respond q.tag.toNat k.status k.body (s.incSat (Reg.HST_QSPI_ERR q.port.val) 8 8) := by
  have hsame : (some k).any (fun k => k.tag == q.tag.toNat && k.crc == q.crc) = true := by simp [htag, hkcrc]
  have hcount : qspiCount q.port.val 8 s = s.incSat (Reg.HST_QSPI_ERR q.port.val) 8 8 := by simp [qspiCount]
  rw [qspiReq_awake hon, qspiRun]
  simp only [hon, ← hcrc, hkept, hsame, hcount, Bool.not_true, Bool.false_eq_true, if_false, if_true, ne_eq, not_true_eq_false]

/-- R374, R376: a request that is executed leaves its response kept and answered. -/
theorem qspiReq_fresh {opc status : Nat} {q : QspiReq} {s u : State} {run : Initiator → State → PortRes} {body : List Byte}
    (hfresh : qspiFresh opc q s = true) (hrun : qspiServe opc q run (qspiStart q s) = (u, status, body)) (hstatus : status ≠ 0x11) :
    qspiReq opc q run s = qspiDone q status body u := by
  simp only [qspiFresh, Bool.and_eq_true, beq_iff_eq, Bool.not_eq_true', Option.isNone_iff_eq_none] at hfresh
  obtain ⟨⟨⟨hon, hknown⟩, hcrc⟩, hnew⟩ := hfresh
  have hopc : opcodeOf opc q = opc := by rw [opcodeOf, hknown]
  rw [qspiStart] at hrun
  rw [qspiReq_awake hon, qspiRun, hopc]
  simp only [hon, ← hcrc, hnew, hrun, hstatus, qspiDone, Bool.not_true, Bool.false_eq_true, if_false, ne_eq, not_true_eq_false]

theorem qspiServe_served {opc : Nat} {q : QspiReq} {s v : State} {run : Initiator → State → PortRes} (hfresh : qspiFresh opc q s = true)
    (hbar : hostBarred v (.qspi q.port) = false) : qspiServe opc q run v = run (.qspi q.port) v := by
  simp only [qspiFresh, Bool.and_eq_true, Option.isNone_iff_eq_none] at hfresh
  obtain ⟨⟨⟨-, hknown⟩, -⟩, -⟩ := hfresh
  have hopc : opcodeOf opc q = opc := by rw [opcodeOf, hknown]
  rw [qspiServe, hbar, hopc, if_neg Bool.false_ne_true, if_neg (not_not_intro rfl)]

/-- A request whose operation ends without an error. -/
theorem qspiReq_completes {opc : Nat} {q : QspiReq} {s u : State} {run : Initiator → State → PortRes} {body : List Byte}
    (hfresh : qspiFresh opc q s = true) (hbar : hostBarred (qspiStart q s) (.qspi q.port) = false)
    (hrun : run (.qspi q.port) (qspiStart q s) = (u, 0, body)) : qspiReq opc q run s = qspiDone q 0 body u :=
  qspiReq_fresh hfresh ((qspiServe_served hfresh hbar).trans hrun) (by decide)

/-- Settles O12: the ten requests, each by the lemma about a repeated request; three of them settle afterwards. -/
theorem repeatedRequestsNotExecuted : Obligations.RepeatedRequestsNotExecuted := by
  intro q s k opc c hon hkept htag hkcrc hcrc hc
  refine ⟨_, rfl, ?_⟩
  have hrep := fun run => qspiReq_repeated (opc := opc) run hon hkept htag hkcrc hcrc
  simp only [List.mem_cons, Prod.mk.injEq, List.not_mem_nil, or_false] at hc
  obtain ⟨rfl, rfl⟩ | ⟨rfl, rfl⟩ | ⟨rfl, rfl⟩ | ⟨rfl, rfl⟩ | ⟨rfl, rfl⟩ | ⟨rfl, rfl⟩ | ⟨rfl, rfl⟩ | ⟨rfl, rfl⟩ | ⟨rfl, rfl⟩ | ⟨rfl, rfl⟩ := hc
  case inr.inl | inr.inr.inl | inr.inr.inr.inr.inr.inl => exact congrArg (fun u => Host.Outcome.next (settled u)) (hrep _)
  all_goals exact congrArg Host.Outcome.next (hrep _)

/-! ### The fields of a request's body -/

theorem take_natLe (v n : Nat) (l : List Byte) : (natLe v n ++ l).take n = natLe v n := List.take_left' (natLe_length v n)

theorem drop_natLe (v n : Nat) (l : List Byte) : (natLe v n ++ l).drop n = l := List.drop_left' (natLe_length v n)

theorem drop_natLe_add (v n k : Nat) (l : List Byte) : (natLe v n ++ l).drop (n + k) = l.drop k := by
  rw [← List.drop_drop, drop_natLe]

theorem leNat_take_natLe {v n : Nat} (l : List Byte) (h : v < 256 ^ n) : leNat ((natLe v n ++ l).take n) = v := by
  rw [take_natLe, leNat_natLe, Nat.mod_eq_of_lt h]

theorem getD_natLe_byte {v : Nat} (l : List Byte) (h : v < 256) : ((natLe v 1 ++ l).getD 0 0).toNat = v := Nat.mod_eq_of_lt h

/-! ### One word -/

/-- A loop over one word that goes well. -/
theorem loop_one {f : State → State × Rsp × List Byte} {v : State} (h : (f v).2.1 = .okay) (w : Nat) :
    (Loop.next f (v, .okay, 0, [])).done w = ((f v).1, 0, natLe 1 w ++ (f v).2.2) := by
  simp only [Loop.next, h, ne_eq, not_true_eq_false, if_false, Loop.done, List.nil_append]
  rfl

theorem rdReg_one {i : Initiator} {addr : Nat} {v : State} (halign : addr % 4 = 0) (hrange : addr < 0x100000)
    (h : (pageGet i addr 4 v).2.1 = .okay) :
    rdReg i (natLe addr 4 ++ [1]) v = ((pageGet i addr 4 v).1, 0, natLe 1 1 ++ natLe (pageGet i addr 4 v).2.2 4) := by
  have haddr : leNat ((natLe addr 4 ++ [1]).take 4) = addr := leNat_take_natLe _ (by omega)
  have hn : ((natLe addr 4 ++ [(1 : Byte)]).getD 4 0).toNat = 1 := rfl
  have hlen : (natLe addr 4 ++ [(1 : Byte)]).length = 5 := rfl
  have hreg : regRange addr 1 = true := by simp [regRange, halign]; omega
  simp only [rdReg, haddr, hn, hlen, hreg, ne_eq, not_true_eq_false, Bool.not_true, Bool.false_eq_true, or_self, if_false, List.range_one,
    List.foldl_cons, List.foldl_nil, Nat.mul_zero, Nat.add_zero]
  exact loop_one (f := fun s => (_, _, _)) h 1

theorem wrReg_one {i : Initiator} {addr value : Nat} {env : HostEnv} {v : State} (hvalue : value < 2 ^ 32) (halign : addr % 4 = 0)
    (hrange : addr < 0x100000) (h : (pagePut ⟨i, env.others, env.reg.getD 0 .calm⟩ addr 4 value v).2 = .okay) :
    wrReg i (natLe addr 4 ++ [1] ++ natLe value 4) env v = ((pagePut ⟨i, env.others, env.reg.getD 0 .calm⟩ addr 4 value v).1, 0, natLe 1 1) := by
  have haddr : leNat ((natLe addr 4 ++ [1] ++ natLe value 4).take 4) = addr := by
    rw [List.append_assoc]
    exact leNat_take_natLe _ (by omega)
  have hn : ((natLe addr 4 ++ [(1 : Byte)] ++ natLe value 4).getD 4 0).toNat = 1 := rfl
  have hlen : (natLe addr 4 ++ [(1 : Byte)] ++ natLe value 4).length = 5 + 4 * 1 := rfl
  have hword : leNat (((natLe addr 4 ++ [(1 : Byte)] ++ natLe value 4).drop (5 + 4 * 0)).take 4) = value :=
    leNat_take_natLe (v := value) (n := 4) [] (by omega)
  have hreg : regRange addr 1 = true := by simp [regRange, halign]; omega
  simp only [wrReg, haddr, hn, hlen, hreg, ne_eq, not_true_eq_false, Bool.not_true, Bool.false_eq_true, or_self, if_false, List.range_one,
    List.foldl_cons, List.foldl_nil, hword, Nat.mul_zero, Nat.add_zero, if_true]
  exact loop_one (f := fun s => (_, _, [])) h 1

theorem qPush_one {i : Initiator} {panel q value : Nat} {env : HostEnv} {v : State} (hq : q < 64) (hvalue : value < 2 ^ 64)
    (h : (quePut i panel q 0 8 value (env.beats.getD 0 .calm) v).2 = .okay) :
    qPush i panel (natLe q 1 ++ natLe 1 2 ++ natLe value 8) env v = ((quePut i panel q 0 8 value (env.beats.getD 0 .calm) v).1, 0, natLe 1 2) := by
  have hqueue : ((natLe q 1 ++ natLe 1 2 ++ natLe value 8).getD 0 0).toNat = q := by
    rw [List.append_assoc]
    exact getD_natLe_byte _ (by omega)
  have hn : leNat (((natLe q 1 ++ natLe 1 2 ++ natLe value 8).drop 1).take 2) = 1 := rfl
  have hlen : (natLe q 1 ++ natLe 1 2 ++ natLe value 8).length = 3 + 8 * 1 := rfl
  have hcount : wordCount 1 = true := rfl
  have hword : leNat (((natLe q 1 ++ natLe 1 2 ++ natLe value 8).drop (3 + 8 * 0)).take 8) = value :=
    leNat_take_natLe (v := value) (n := 8) [] (by omega)
  simp only [qPush, hqueue, hn, hlen, hcount, Nat.not_le.mpr hq, ne_eq, not_true_eq_false, Bool.not_true, Bool.false_eq_true, or_self, if_false,
    List.range_one, List.foldl_cons, List.foldl_nil, hword]
  exact loop_one (f := fun s => (_, _, [])) h 2

theorem qPop_one {i : Initiator} {panel q : Nat} {env : HostEnv} {v : State} (hq : q < 64)
    (htakes : popTakes i q (env.beats.getD 0 .calm).lag v = true) (h : (queGet i panel q 0x800 8 (env.beats.getD 0 .calm) v).2.1 = .okay) :
    qPop i panel (natLe q 1 ++ natLe 1 2) env v = ((queGet i panel q 0x800 8 (env.beats.getD 0 .calm) v).1, 0,
      natLe 1 2 ++ natLe (queGet i panel q 0x800 8 (env.beats.getD 0 .calm) v).2.2 8) := by
  have hqueue : ((natLe q 1 ++ natLe 1 2).getD 0 0).toNat = q := getD_natLe_byte _ (by omega)
  have hn : leNat (((natLe q 1 ++ natLe 1 2).drop 1).take 2) = 1 := rfl
  have hlen : (natLe q 1 ++ natLe 1 2).length = 3 := rfl
  have hcount : wordCount 1 = true := rfl
  simp only [qPop, hqueue, hn, hlen, hcount, Nat.not_le.mpr hq, ne_eq, not_true_eq_false, Bool.not_true, Bool.false_eq_true, or_self, if_false,
    List.range_one, List.foldl_cons, List.foldl_nil, qPopOne, htakes, and_false]
  exact loop_one (f := fun s => (_, _, _)) h 2

theorem qCmd_one {i : Initiator} {panel q op : Nat} {env : HostEnv} {v : State} (hq : q < 64) (hpos : 1 ≤ op) (hop : op ≤ 5)
    (h : (quePut i panel q 0xF10 8 op (env.beats.getD 0 .calm) v).2 = .okay) :
    qCmd i panel (natLe q 1 ++ natLe op 1) env v =
      let t := queGet i panel q 0xF18 8 (env.beats.getD 0 .calm) (quePut i panel q 0xF10 8 op (env.beats.getD 0 .calm) v).1
      (t.1, 0, natLe t.2.2 8) := by
  have hqueue : ((natLe q 1 ++ natLe op 1).getD 0 0).toNat = q := getD_natLe_byte _ (by omega)
  have hcmd : ((natLe q 1 ++ natLe op 1).getD 1 0).toNat = op := Nat.mod_eq_of_lt (by omega)
  have hlen : (natLe q 1 ++ natLe op 1).length = 2 := rfl
  have hgood : ¬ (64 ≤ q ∨ op = 0 ∨ 5 < op ∨ (2 : Nat) ≠ 2) := by omega
  simp only [qCmd, hqueue, hcmd, hlen]
  rw [if_neg hgood, h]
  rfl

/-! ### Frames and memory -/

theorem sSendReq_frame {p : Nat} {frame : List Byte} {v : State} (hlow : 16 ≤ frame.length) (hhigh : frame.length ≤ 4096)
    (hbusy : inBusy v (p + 4) = false) : sSendReq p (natLe frame.length 2 ++ frame) v = (postFrame (p + 4) frame v, 0, []) := by
  have hlen : leNat ((natLe frame.length 2 ++ frame).take 2) = frame.length := leNat_take_natLe _ (by omega)
  have hsize : ¬ (frame.length < 16 ∨ 4096 < frame.length) := by omega
  rw [sSendReq, hlen, drop_natLe, List.length_append, natLe_length, if_neg (by omega), sSend, if_neg hsize, hbusy, if_neg Bool.false_ne_true]

theorem sRecv_waiting {p : Nat} {frame : List Byte} {rest : List (List Byte)} {v : State} (h : (portOf v p).out = frame :: rest) :
    sRecv p v = (setPort p { portOf v p with out := rest } v, 0, natLe frame.length 2 ++ frame) := by rw [sRecv, h]

theorem hostBarred_memServed {v : State} {i : Initiator} (h : memServed v i = true) : hostBarred v i = false := by
  simp only [memServed, Bool.and_eq_true] at h
  cases i <;> simp [hostBarred, h.2]

/-- A range of user memory lies in shared SRAM or in DRAM. -/
theorem zoneOf_userMem {a n : Nat} (h : inUserMem a n = true) : zoneOf a = .sram ∨ zoneOf a = .dram := by
  simp only [inUserMem, Bool.or_eq_true, Bool.and_eq_true] at h
  obtain ⟨hsram, -⟩ | ⟨hdram, -⟩ := h
  · exact .inl (zoneOf_sram hsram)
  · have hbounds := hdram
    simp only [inDramUser, Bool.and_eq_true, decide_eq_true_eq] at hbounds
    have hout : inSram a = false := by simp only [inSram, Bool.and_eq_false_iff, decide_eq_false_iff_not]; omega
    refine .inr ?_
    unfold zoneOf
    rw [hout, hdram]
    repeat rw [if_neg (by omega)]
    simp only [Bool.false_eq_true, if_false, if_true]
    repeat rw [if_neg (by omega)]

theorem memPut_user (i : Initiator) {z : Zone} (hz : z = .sram ∨ z = .dram) (a : Nat) (l : List Byte) (s : State) :
    memPut i z a l s = (putBy (ownCore i) a l s, .okay) := by
  obtain rfl | rfl := hz <;> rfl

theorem memGet_user (i : Initiator) {z : Zone} (hz : z = .sram ∨ z = .dram) (a n : Nat) {s : State} (hbad : s.ram.bad = []) :
    memGet i z a n .none s = (memTouch a n s, .okay, readLe s a n) := by
  have hcheck := memCheck_sound (sourceCode i) a n (memTouch_bad a n hbad)
  obtain rfl | rfl := hz <;> simp only [memGet, hcheck, readLe_of_mem (memTouch_mem a n s), if_true]

/-- The words of WR_MEM, written one after the other. -/
def wordsPut (i : Initiator) (z : Zone) (a : Nat) (body : List Byte) (n : Nat) (v : State) : Loop :=
  (List.range n).foldl (fun x k => Loop.next (fun s =>
    ((memPut i z (a + 8 * k) ((body.drop (6 + 8 * k)).take 8) s).1, (memPut i z (a + 8 * k) ((body.drop (6 + 8 * k)).take 8) s).2, [])) x)
    (v, .okay, 0, [])

theorem wordsPut_stores (i : Initiator) {z : Zone} (hz : z = .sram ∨ z = .dram) (a : Nat) (body : List Byte) (v : State) {n : Nat}
    (hn : 6 + 8 * n ≤ body.length) :
    ∃ u, wordsPut i z a body n v = (u, .okay, n, [])
      ∧ ∀ x, readByte u x = if a ≤ x ∧ x < a + 8 * n then body.getD (6 + (x - a)) 0 else readByte v x := by
  induction n with
  | zero => exact ⟨v, rfl, fun x => by rw [if_neg (by omega)]⟩
  | succ n ih =>
    obtain ⟨u, hu, hread⟩ := ih (by omega)
    have hput := memPut_user i hz (a + 8 * n) ((body.drop (6 + 8 * n)).take 8) u
    refine ⟨putBy (ownCore i) (a + 8 * n) ((body.drop (6 + 8 * n)).take 8) u, ?_, fun x => ?_⟩
    · rw [wordsPut] at hu ⊢
      rw [List.range_succ, List.foldl_append, hu]
      simp only [List.foldl_cons, List.foldl_nil, Loop.next, hput, ne_eq, not_true_eq_false, if_false, List.append_nil]
    · have hlen : ((body.drop (6 + 8 * n)).take 8).length = 8 := by rw [List.length_take, List.length_drop]; omega
      rw [readByte_putBy, hlen, hread]
      by_cases hin : a + 8 * n ≤ x ∧ x < a + 8 * n + 8
      · rw [if_pos hin, if_pos (by omega), List.getD_eq_getElem?_getD, List.getElem?_take, if_pos (by omega), List.getElem?_drop,
          ← List.getD_eq_getElem?_getD, show 6 + 8 * n + (x - (a + 8 * n)) = 6 + (x - a) by omega]
      · rw [if_neg hin]
        exact if_congr (by omega) rfl rfl

theorem userMem_bound {a n : Nat} (h : inUserMem a n = true) : a + n ≤ 0xA0000000 := by
  simp only [inUserMem, inDramUser, inSram, Bool.or_eq_true, Bool.and_eq_true, decide_eq_true_eq] at h
  omega

theorem memFields_user {a n : Nat} (hlow : 1 ≤ n) (hhigh : n ≤ 512) (halign : a % 8 = 0) (huser : inUserMem a (8 * n) = true) :
    memFields a n = none := by
  simp [memFields, wordCount, hlow, hhigh, halign, huser]

theorem wrMem_completes {i : Initiator} {addr n : Nat} {l : List Byte} {v : State} (hserved : memServed v i = true) (hlen : l.length = 8 * n)
    (hlow : 1 ≤ n) (hhigh : n ≤ 512) (halign : addr % 8 = 0) (huser : inUserMem addr (8 * n) = true) :
    ∃ u, wrMem i (natLe addr 4 ++ natLe n 2 ++ l) v = (u, 0, natLe n 2) ∧ readBytes u addr (8 * n) = l
      ∧ ∀ x, (x < addr ∨ addr + 8 * n ≤ x) → readByte u x = readByte v x := by
  have hbound := userMem_bound huser
  have haddr : leNat ((natLe addr 4 ++ natLe n 2 ++ l).take 4) = addr := by
    rw [List.append_assoc]
    exact leNat_take_natLe _ (by omega)
  have hn : leNat (((natLe addr 4 ++ natLe n 2 ++ l).drop 4).take 2) = n := by
    rw [List.append_assoc, drop_natLe]
    exact leNat_take_natLe _ (by omega)
  have hbody : (natLe addr 4 ++ natLe n 2 ++ l).length = 6 + 8 * n := by simp only [List.length_append, natLe_length, hlen]
  obtain ⟨u, hu, hread⟩ := wordsPut_stores i (zoneOf_userMem huser) addr (natLe addr 4 ++ natLe n 2 ++ l) v (n := n) hbody.ge
  refine ⟨u, ?_, ?_, fun x hx => (hread x).trans (if_neg (by omega))⟩
  · simp only [wrMem, haddr, hn, hserved, hbody, memFields_user hlow hhigh halign huser, Bool.not_true, Bool.false_eq_true, if_false, ne_eq,
      not_true_eq_false]
    rw [wordsPut] at hu
    rw [hu]
    exact congrArg (fun b => (u, 0, b)) (List.append_nil _)
  · rw [← hlen]
    refine readBytes_of_getD fun k hk => ?_
    rw [hread, if_pos (by omega), Nat.add_sub_cancel_left, List.getD_append_right _ _ _ _ (by simp [natLe_length])]
    exact congrArg (l.getD · 0) (Nat.add_sub_cancel_left 6 k)

/-- The words of RD_MEM, read one after the other. -/
def wordsGet (i : Initiator) (z : Zone) (a : Nat) (l : List BeatEnv) (n : Nat) (v : State) : Loop :=
  (List.range n).foldl (fun x k => Loop.next (fun s =>
    ((memGet i z (a + 8 * k) 8 ((l.getD k .calm).ecc) s).1, (memGet i z (a + 8 * k) 8 ((l.getD k .calm).ecc) s).2.1,
      natLe (memGet i z (a + 8 * k) 8 ((l.getD k .calm).ecc) s).2.2 8)) x) (v, .okay, 0, [])

theorem readBytes_length (s : State) (a n : Nat) : (readBytes s a n).length = n := by
  induction n generalizing a with
  | zero => rfl
  | succ n ih => rw [readBytes, List.length_cons, ih]

theorem readBytes_add (s : State) (a m n : Nat) : readBytes s a (m + n) = readBytes s a m ++ readBytes s (a + m) n := by
  induction m generalizing a with
  | zero => rw [Nat.zero_add, readBytes, List.nil_append, Nat.add_zero]
  | succ m ih => rw [Nat.add_right_comm, readBytes, readBytes, ih, List.cons_append, show a + 1 + m = a + (m + 1) by omega]

theorem natLe_leNat (l : List Byte) : natLe (leNat l) l.length = l := by
  induction l with
  | nil => rfl
  | cons b l ih =>
    have hb := b.isLt
    have hbyte : BitVec.ofNat 8 (b.toNat + 256 * leNat l) = b := BitVec.eq_of_toNat_eq (by rw [BitVec.toNat_ofNat]; omega)
    rw [leNat, List.length_cons, natLe, hbyte, show (b.toNat + 256 * leNat l) / 256 = leNat l by omega, ih]

theorem natLe_readLe (s : State) (a n : Nat) : natLe (readLe s a n) n = readBytes s a n := by
  have h := natLe_leNat (readBytes s a n)
  rwa [readBytes_length] at h

theorem wordsGet_reads (i : Initiator) {z : Zone} (hz : z = .sram ∨ z = .dram) (a n : Nat) {v : State} (hbad : v.ram.bad = []) :
    ∃ u, wordsGet i z a [] n v = (u, .okay, n, readBytes v a (8 * n)) ∧ memOf u = memOf v ∧ u.ram.bad = [] := by
  induction n with
  | zero => exact ⟨v, rfl, rfl, hbad⟩
  | succ n ih =>
    obtain ⟨u, hu, hmem, hb⟩ := ih
    have hget := memGet_user i hz (a + 8 * n) 8 hb
    refine ⟨memTouch (a + 8 * n) 8 u, ?_, (memTouch_mem _ _ _).trans hmem, memTouch_bad _ _ hb⟩
    rw [wordsGet] at hu ⊢
    rw [List.range_succ, List.foldl_append, hu]
    simp only [List.foldl_cons, List.foldl_nil, Loop.next, List.getD_nil, BeatEnv.calm, hget, ne_eq, not_true_eq_false, if_false]
    rw [Nat.mul_add, readBytes_add, natLe_readLe, readBytes_of_mem hmem]

theorem rdMem_completes {i : Initiator} {addr n : Nat} {env : HostEnv} {v : State} (hserved : memServed v i = true) (hlow : 1 ≤ n)
    (hhigh : n ≤ 512) (halign : addr % 8 = 0) (huser : inUserMem addr (8 * n) = true) (hbad : v.ram.bad = []) (hcalm : env.beats = []) :
    ∃ u, rdMem i (natLe addr 4 ++ natLe n 2) env v = (u, 0, natLe n 2 ++ readBytes v addr (8 * n)) ∧ memOf u = memOf v := by
  have hbound := userMem_bound huser
  have haddr : leNat ((natLe addr 4 ++ natLe n 2).take 4) = addr := leNat_take_natLe _ (by omega)
  have hn : leNat (((natLe addr 4 ++ natLe n 2).drop 4).take 2) = n := by
    rw [drop_natLe]
    exact leNat_take_natLe (v := n) (n := 2) [] (by omega)
  have hbody : (natLe addr 4 ++ natLe n 2).length = 6 := rfl
  obtain ⟨u, hu, hmem, -⟩ := wordsGet_reads i (zoneOf_userMem huser) addr n hbad
  refine ⟨u, ?_, hmem⟩
  rw [wordsGet] at hu
  simp only [rdMem, haddr, hn, hserved, hbody, memFields_user hlow hhigh halign huser, hcalm, Bool.not_true, Bool.false_eq_true, if_false, ne_eq,
    not_true_eq_false]
  rw [hu]
  rfl

/-! ### The obligation -/

theorem memOf_qspiStart (q : QspiReq) (s : State) : memOf (qspiStart q s) = memOf s := rfl

/-- Settles O42: each request is executed and its operation ends without an error. -/
theorem quadSpiComplete : Obligations.QuadSpiComplete := by
  refine ⟨fun q s v hv hbar => ?_, fun q s v hv => ?_⟩ <;> subst hv
  · refine ⟨fun addr r hfresh hbody halign hrange hr hok => ?_, fun addr value r hfresh hbody hvalue halign hrange hr hok => ?_,
      fun queue value r hfresh hbody hvalue hr hok => ?_, fun queue r hfresh hbody htakes hr hok => ?_,
      fun queue op r t hfresh hbody hpos hop hr hok ht => ?_, fun hfresh hbody => ?_, fun port hon => ?_⟩
    · subst hr
      refine congrArg Host.Outcome.next (qspiReq_completes hfresh hbar ?_)
      rw [hbody]
      exact rdReg_one halign hrange hok
    · subst hr
      refine congrArg (fun u => Host.Outcome.next (settled u)) (qspiReq_completes hfresh hbar ?_)
      rw [hbody]
      exact wrReg_one hvalue halign hrange hok
    · subst hr
      refine congrArg (fun u => Host.Outcome.next (settled u)) (qspiReq_completes hfresh hbar ?_)
      rw [hbody]
      exact qPush_one queue.isLt hvalue hok
    · subst hr
      refine congrArg Host.Outcome.next (qspiReq_completes hfresh hbar ?_)
      rw [hbody]
      exact qPop_one queue.isLt htakes hok
    · subst hr ht
      refine congrArg Host.Outcome.next (qspiReq_completes hfresh hbar ?_)
      rw [hbody]
      exact qCmd_one queue.isLt hpos hop hok
    · refine congrArg Host.Outcome.next (qspiReq_completes hfresh hbar ?_)
      rw [hbody]
      rfl
    · exact congrArg Host.Outcome.next ((if_pos hon).trans (by simp [qspiCount]))
  · refine ⟨fun frame hfresh hbar hbody hlow hhigh hbusy => ?_, fun frame rest hfresh hbar hbody hout => ?_,
      fun addr n l hfresh hserved hbody hlen hlow hhigh halign huser => ?_,
      fun addr n hfresh hserved hbody hlow hhigh halign huser hbad hcalm => ?_⟩
    · refine congrArg (fun u => Host.Outcome.next (settled u)) (qspiReq_completes hfresh hbar ?_)
      rw [hbody]
      exact sSendReq_frame hlow hhigh hbusy
    · refine congrArg Host.Outcome.next (qspiReq_completes hfresh hbar ?_)
      rw [hbody]
      exact sRecv_waiting hout
    · obtain ⟨u, hu, hread, hkeep⟩ := wrMem_completes hserved hlen hlow hhigh halign huser
      refine ⟨u, congrArg Host.Outcome.next (qspiReq_completes hfresh (hostBarred_memServed hserved) ?_), hread, fun x hx => ?_⟩
      · rw [hbody]
        exact hu
      · exact (hkeep x hx).trans (readByte_of_mem (memOf_qspiStart q s) x)
    · obtain ⟨u, hu, hmem⟩ := rdMem_completes hserved hlow hhigh halign huser hbad hcalm
      refine ⟨u, congrArg Host.Outcome.next (qspiReq_completes hfresh (hostBarred_memServed hserved) ?_), hmem⟩
      rw [hbody, ← readBytes_of_mem (memOf_qspiStart q s)]
      exact hu

end Sys2Proof.Machine
end

section
/-!
PROOFS. PCIe requests (R364 to R368): a BAR4 read as the model performs it, and why the obligation about PCIe requests fails.
-/

namespace Sys2Proof.Machine

open Sys2Proof

/-! ### The answer through HOLD -/

/-- Two states that differ in the cells of memory, and in the free values used for them, alone. -/
def OnlyCells (s t : State) : Prop := ∃ m n, t = { s with mem := m, fresh := n }

theorem OnlyCells.refl (s : State) : OnlyCells s s := ⟨s.mem, s.fresh, rfl⟩

theorem OnlyCells.trans {s t u : State} (h : OnlyCells s t) (h' : OnlyCells t u) : OnlyCells s u := by
  obtain ⟨_, _, rfl⟩ := h
  obtain ⟨m, n, rfl⟩ := h'
  exact ⟨m, n, rfl⟩

theorem OnlyCells.ans {s t : State} (h : OnlyCells s t) : t.ans = s.ans := by
  obtain ⟨_, _, rfl⟩ := h
  rfl

theorem OnlyCells.foldl {α : Type} {f : State → α → State} (hf : ∀ s x, OnlyCells s (f s x)) (l : List α) (s : State) : OnlyCells s (l.foldl f s) :=
  List.foldlRecOn (motive := OnlyCells s) l f (.refl s) fun t ht x _ => ht.trans (hf t x)

theorem writeBytes_onlyCells (l : List Byte) : ∀ (a : Nat) (s : State), OnlyCells s (writeBytes a l s) := by
  induction l with
  | nil => exact fun _ s => .refl s
  | cons b l ih => exact fun a s => (show OnlyCells s (writeByte a b s) from ⟨_, _, rfl⟩).trans (ih _ _)

theorem OnlyCells.fresh {s t : State} (h : OnlyCells s t) (n : Nat) : OnlyCells s { t with fresh := n } := h.trans ⟨_, _, rfl⟩

theorem scramble_onlyCells (a : Nat) (data : List Byte) (s : State) : OnlyCells s (scramble a data s) := by
  unfold scramble
  dsimp only
  refine OnlyCells.fresh (OnlyCells.foldl (fun t i => ?_) _ s) _
  split
  · exact .refl t
  · exact writeBytes_onlyCells _ _ t

theorem scrambleAll_onlyCells (a n : Nat) (s : State) : OnlyCells s (scrambleAll a n s) := (writeBytes_onlyCells _ a s).fresh _

/-- A flash operation that is cut off changes cells alone (R280). -/
theorem cutOp_onlyCells (base : Nat) (o : FlsOp) (s : State) : OnlyCells s (cutOp base o s) := by
  unfold cutOp
  split
  · exact scrambleAll_onlyCells _ _ s
  · split
    · exact scrambleAll_onlyCells _ _ s
    · exact scramble_onlyCells _ _ s

theorem cutAll_onlyCells (s : State) : OnlyCells s (cutAll s) := by
  have hbanks : OnlyCells s ((List.range 8).foldl cutBank s) := .foldl (fun t b => .foldl (fun u o => cutOp_onlyCells 0 o u) _ t) _ s
  unfold cutAll
  dsimp only
  split
  · exact hbanks.trans (cutOp_onlyCells _ _ _)
  · exact hbanks

theorem flashHold_ans (s : State) : (flashHold s).ans = s.ans := by simp only [flashHold, (cutAll_onlyCells s).ans]

theorem passHold_ans (s : State) : (passHold s).ans = s.ans := by
  have hrestart : ∀ t : State, (fltRestart t).ans = t.ans := fun _ => rfl
  have hclear : ∀ (p : Nat → Bool) (t : State), (clearMem p t).ans = t.ans := fun _ _ => rfl
  have hset : ∀ (m : Mode) (t : State), (setMode m t).ans = t.ans := fun _ _ => rfl
  rw [passHold, hrestart, flashHold_ans, hclear, hset]
  rfl

theorem settled_ans (s : State) : (settled s).ans = s.ans := by
  rw [settled, isolationSettles_ans]
  have hsettles : transitSettles s = passHold s ∨ transitSettles s = s := ite_eq_or_eq _ _ _
  obtain h | h := hsettles
  · rw [h, passHold_ans]
  · rw [h]

/-! ### A BAR4 read (R368) -/

theorem memOthers_nil (s : State) : memOthers [] s = s.meeting := rfl

/-- A read alone in its cycle of memory in the function's window. -/
theorem bar4_reads {q : PcieReq} {s : State} (hread : q.rw = .read) (hecc : q.ecc = .none) (hbad : s.ram.bad = []) (halone : q.also = [])
    (hlow : (dramWindow s (panelFor s (.pcie q.fn))).1 ≤ q.off)
    (hhigh : q.off + 4 * q.dws.length ≤ (dramWindow s (panelFor s (.pcie q.fn))).2) (hbar : q.off + 4 * q.dws.length ≤ 0x17000000) :
    bar4 q s = (memTouch (0x89000000 + q.off) (4 * q.dws.length) s.meeting).meeting.answer .okay
      ((chunks 4 q.dws.length (natLe (readLe s (0x89000000 + q.off) (4 * q.dws.length)) (4 * q.dws.length))).map w64) := by
  have hget := memGet_user (.pcie q.fn) (.inr rfl) (0x89000000 + q.off) (4 * q.dws.length) (show s.meeting.ram.bad = [] from hbad)
  rw [readLe_of_mem (show memOf s.meeting = memOf s from rfl)] at hget
  have hwin : ¬ (q.off < (dramWindow s (panelFor s (.pcie q.fn))).1 ∨
      (dramWindow s (panelFor s (.pcie q.fn))).2 < q.off + 4 * q.dws.length) := by omega
  unfold bar4
  simp only [hread, hecc, halone, List.filter_nil, memOthers_nil, hget, hwin, Nat.not_lt.mpr hbar, reduceCtorEq, and_false, if_false, if_true]

/-! ### The obligation fails -/

/-- A module whose link is up, and whose last answer still holds what another sender of that cycle was answered. -/
def heardState : State := { State.reset with
  mode := .run, hst := { State.reset.hst with linkUp := true }, ans := { State.reset.ans with also := [(.thimble, .okay, [])] } }

/-- A BAR4 read of the first DW of user memory. -/
def heardRead : PcieReq := ⟨0, .bar4, 0, .read, [(15, 0)], false, [], [], [], .none, []⟩

theorem heardRead_answer : ∃ u, exec (.bar4Access heardRead) heardState = .next (settled u) ∧ u.ans.also = [] := by
  have hfree : fnFree 0 heardState = true := by decide
  have hbar : hostBarred heardState (.pcie 0) = false := by decide
  have hsends : sends heardState (.pcie 0) = true := by decide
  have hwin : dramWindow heardState (panelFor heardState (.pcie 0)) = (0, 0x17000000) := by decide
  refine ⟨bar4 heardRead heardState, congrArg (fun u => Host.Outcome.next (settled u)) ?_, ?_⟩
  · exact (if_pos rfl).trans (pcieRun_serves (c := .mem heardRead) hsends hbar)
  · rw [bar4_reads rfl rfl rfl rfl (by rw [show heardRead.fn = 0 from rfl, hwin]; exact Nat.zero_le _)
      (by rw [show heardRead.fn = 0 from rfl, hwin]; decide) (by decide)]
    rfl

/-- Refutes O40: a read of BAR4 begins a cycle of its own, so what the answer before held of other senders is gone, while the clause has it stay. -/
theorem not_pcieRequestsComplete : ¬ Obligations.PcieRequestsComplete := by
  intro h
  obtain ⟨-, -, -, hread, -⟩ := h 0 heardState (by decide)
  obtain ⟨u, hu, -, hans⟩ := hread heardRead rfl rfl rfl (by decide) rfl rfl rfl (by decide) (by decide) (by decide)
  obtain ⟨v, hv, halso⟩ := heardRead_answer
  have hsame : settled u = settled v := Host.Outcome.next.inj (hu.symm.trans hv)
  have hstale : v.ans.also = [(.thimble, .okay, [])] := by
    rw [← settled_ans v, ← hsame, settled_ans u, hans]
    rfl
  rw [halso] at hstale
  exact absurd hstale (by decide)

end Sys2Proof.Machine
end

section
/-!
PROOFS. Life cycle and debug authorisation (R501 to R516): writes of LCS_CMD, the JTAG instructions, transitions, challenges and responses.
-/

namespace Sys2Proof.Machine

open Sys2Proof

/-! ### Writes of LCS_CMD (R519) -/

theorem lcTurn_alone {α : Type} (me : Nat) (act : State → State × α) (s : State) : lcTurn me [] act s = act s := rfl

theorem regCmd_lcs {a : Acc} {v : Word} {s : State} (h : regFree a 0x49060 s = true) :
    regCmd a 0x49060 v s
      = regDone (lcTurn 0 a.env.meets (fun t => (lcsRun v a.env.steps a.env.otpMask a.env.otpBad t, ())) s).1 :=
  regCmd_at (i := 0x49) (o := 0x60) (k := .lcs) rfl (by decide) (by decide) h rfl

/-- The fields of LCS_CMD. -/
theorem lcsCmd_fields {c arg : Nat} (hc : c < 16) (harg : arg < 32) :
    fld (w32 (c + 256 * arg)) 0 4 = c ∧ fld (w32 (c + 256 * arg)) 8 5 = arg := by
  simp only [fld, w32, BitVec.toNat_ofNat, Nat.shiftRight_eq_div_pow]
  omega

theorem lcsRun_transition {arg steps : Nat} {bad : BitVec 128} {otpBad : Bool} {s : State} (harg : arg < 32) :
    lcsRun (w32 (1 + 256 * arg)) steps bad otpBad s
      = lcDone (lcTransition arg (tokenBytes (grantExpire s)) steps bad (grantExpire s)).2
          (lcTransition arg (tokenBytes (grantExpire s)) steps bad (grantExpire s)).1 := by
  obtain ⟨hop, hfield⟩ := lcsCmd_fields (c := 1) (by decide) harg
  simp only [lcsRun, hop, hfield]

theorem lcsRun_progToken {arg steps : Nat} {bad : BitVec 128} {otpBad : Bool} {s : State} (harg : arg < 32) :
    lcsRun (w32 (2 + 256 * arg)) steps bad otpBad s = lcDone (progToken arg otpBad (grantExpire s)).2 (progToken arg otpBad (grantExpire s)).1 := by
  obtain ⟨hop, hfield⟩ := lcsCmd_fields (c := 2) (by decide) harg
  simp only [lcsRun, hop, hfield]

theorem lcsRun_serviceOpen {steps : Nat} {bad : BitVec 128} {otpBad : Bool} {s : State} :
    lcsRun (w32 3) steps bad otpBad s = lcDone (serviceOpen (grantExpire s)).2 (serviceOpen (grantExpire s)).1 := rfl

theorem lcsRun_serviceEnd {steps : Nat} {bad : BitVec 128} {otpBad : Bool} {s : State} :
    lcsRun (w32 4) steps bad otpBad s = lcDone 1 (closeGrant 2 (grantExpire s)) := rfl

/-! ### A transition's checks (R503, R505) -/

theorem lcTransition_token {target steps : Nat} {token : List Byte} {bad : BitVec 128} {s : State} (h : lcRefusal s target token = some 4) :
    lcTransition target token steps bad s = (lcLockout s, 4) := by
  rw [lcTransition, h]
  rfl

theorem lcTransition_accepted {target steps : Nat} {token : List Byte} {bad : BitVec 128} {s : State} (h : lcRefusal s target token = none) :
    lcTransition target token steps bad s = (lcAccepted target steps bad s, 1) := by rw [lcTransition, h]

theorem lcTransition_lockedOut {target steps : Nat} {token : List Byte} {bad : BitVec 128} {s : State} (hlock : s.lcs.lockedOut = true)
    (hmode : s.mode = .run ∨ s.mode = .service) : lcTransition target token steps bad s = (s, 5) := by
  have hruns : (s.mode == .run || s.mode == .service) = true := by simpa using hmode
  have hrefusal : lcRefusal s target token = some 5 := by simp only [lcRefusal, hruns, hlock, Bool.not_true, Bool.false_eq_true, if_false, if_true]
  rw [lcTransition, hrefusal]
  rfl

theorem lcsStatus_lockedOut {s : State} (h : s.lcs.lockedOut = true) : (lcsStatus s).testBit 29 = true := by
  have hgrant := b2n_le s.lcs.grant.isSome
  have hresumed := b2n_le s.lcs.resumed
  have hone : b2n true = 1 := rfl
  rw [lcsStatus, h, hone, Nat.testBit_eq_decide_div_mod_eq]
  exact decide_eq_true (by omega)

/-! ### JTAG instructions (R515) -/

/-- A JTAG instruction is the one in the TAP. -/
def tapped (code : Nat) (g : State) : State := { g with lcs := { g.lcs with tap := code } }

section
variable {s : State} {code : Nat}

theorem jtagSelect_open (hoff : (grantExpire s).mode ≠ .off) (hhib : (grantExpire s).mode ≠ .hibernate) (hopen : jtagOpen (grantExpire s) code = true) :
    jtagSelect code s = (tapped code (grantExpire s), true) := by
  simp only [jtagSelect, hoff, hhib, hopen, or_self, if_false, if_true, tapped]

theorem jtagSelect_gated (hoff : (grantExpire s).mode ≠ .off) (hhib : (grantExpire s).mode ≠ .hibernate)
    (hgated : jtagOpen (grantExpire s) code = false) :
    jtagSelect code s = ((tapped 0x3F (grantExpire s)).incSat Reg.LCS_JTAG 0 16, false) := by
  simp only [jtagSelect, hoff, hhib, hgated, or_self, if_false, Bool.false_eq_true, tapped]

theorem jtagServed_open {act : State → State × Nat × List Byte} {t : State} {c : Nat} {l : List Byte} (hoff : (grantExpire s).mode ≠ .off)
    (hhib : (grantExpire s).mode ≠ .hibernate) (hopen : jtagOpen (grantExpire s) code = true) (hact : act (tapped code (grantExpire s)) = (t, c, l)) :
    jtagServed code [] act s = t.answer .okay (l.map (·.setWidth 64)) c := by
  simp only [jtagServed, List.isEmpty_nil, if_true, lcTurn_alone, jtagRun, jtagSelect_open hoff hhib hopen, hact]

end

/-! ### Modes and the grant -/

theorem endGrant_mode (reason : Nat) (s : State) : (endGrant reason s).mode = s.mode := by
  unfold endGrant
  split
  · split
    · split <;> rfl
    · rfl
  · exact irq_mode _ _ _

theorem endGrant_ends {reason : Nat} {s : State} (h : s.lcs.grant.isSome = true) : (endGrant reason s).lcs.grant = none := by
  obtain ⟨g, hg⟩ := Option.isSome_iff_exists.mp h
  unfold endGrant
  rw [hg]
  simp only [irq_frame]

theorem closeGrant_ends {reason : Nat} {s : State} (h : s.lcs.grant.isSome = true) : (closeGrant reason s).lcs.grant = none := by
  unfold closeGrant
  dsimp only
  split
  · exact endGrant_ends h
  · exact endGrant_ends h

theorem closeGrant_mode (reason : Nat) (s : State) :
    (closeGrant reason s).mode = if s.lcs.grant.isSome = true ∧ s.mode = .service then .run else s.mode := by
  unfold closeGrant
  dsimp only
  rw [endGrant_mode]
  split
  · exact setMode_mode _ _
  · exact endGrant_mode _ _

theorem grantExpire_none {s : State} (h : s.lcs.grant = none) : grantExpire s = s := by
  rw [grantExpire, h]
  exact if_neg fun hc => Bool.false_ne_true hc.1

/-- A grant that ends brings RUN at most. -/
theorem grantExpire_mode {s : State} {m : Mode} (hm : s.mode ≠ m) (hrun : m ≠ .run) : (grantExpire s).mode ≠ m := by
  unfold grantExpire
  split
  · rw [closeGrant_mode]
    split
    · exact hrun.symm
    · exact hm
  · exact hm

theorem lcDone_mode (code : Nat) (s : State) : (lcDone code s).mode = s.mode := by
  rw [lcDone, irq_mode]
  simp only [State.wrg_frame]

theorem lcDone_grant (code : Nat) (s : State) : (lcDone code s).lcs.grant = s.lcs.grant := by
  simp only [lcDone, irq_frame, State.wrg_frame]

/-! ### The lockout and HOLD (R503) -/

theorem OnlyCells.lcs {s t : State} (h : OnlyCells s t) : t.lcs = s.lcs := by
  obtain ⟨_, _, rfl⟩ := h
  rfl

theorem flashHold_lcs (s : State) : (flashHold s).lcs = s.lcs := by simp only [flashHold, (cutAll_onlyCells s).lcs]

theorem passHold_lockedOut (s : State) : (passHold s).lcs.lockedOut = false := by
  have hrestart : ∀ t : State, (fltRestart t).lcs = t.lcs := fun _ => rfl
  have hclear : ∀ (p : Nat → Bool) (t : State), (clearMem p t).lcs = t.lcs := fun _ _ => rfl
  have hset : ∀ (m : Mode) (t : State), (setMode m t).lcs = t.lcs := fun _ _ => rfl
  rw [passHold, hrestart, flashHold_lcs, hclear, hset]
  rfl

theorem resetPass_lockedOut (cause panel : Nat) (s : State) : (resetPass cause panel s).lcs.lockedOut = false := by
  simp only [resetPass, noteReset, State.wrg_frame, passHold_lockedOut]

/-- Settles O13: the token check, the lockout that follows it, its turn at both routes, and its end in HOLD. -/
theorem tokenMismatchLocksOut : Obligations.TokenMismatchLocksOut := by
  intro s
  refine ⟨fun target token steps bad => ⟨fun h => lcTransition_token h, fun hlock hmode => lcTransition_lockedOut hlock hmode⟩,
    fun a target r hfree hr => ?_, fun target token env r hoff hhib halone hopen hr => ?_, lcsStatus_lockedOut, fun hoff hlow => ?_⟩
  · refine congrArg Host.Outcome.next ((regCmd_lcs hfree).trans ?_)
    have hrun : ∀ t, lcsRun (w32 (1 + 256 * target.toNat)) a.env.steps a.env.otpMask a.env.otpBad t = lcDone (r t).2 (r t).1 := fun t => by
      rw [lcsRun_transition target.isLt, hr]
    simp only [hrun]
  · refine congrArg (fun u => Host.Outcome.next (settled u)) ?_
    rw [jtagTransition, halone]
    exact jtagServed_open (t := r.1) (c := r.2) (l := []) (grantExpire_mode hoff (by decide)) (grantExpire_mode hhib (by decide)) hopen
      (by rw [jtagMove, hr]; rfl)
  · refine ⟨_, next_settled (resetN_low hoff hlow), ?_⟩
    simp only [resetPass_lockedOut]

/-! ### The commands of LCS_CMD (R501, R510, R514) -/

theorem progToken_stores {n : Nat} {s : State} (hfree : (tokenOf s n).programmed = false)
    (h : (n < 8 ∧ s.lcs.st = 0) ∨ (n = 8 ∧ (s.lcs.st = 0x0F ∨ s.lcs.st = 0x10))) :
    progToken n false s = (setToken n ⟨true, (tokenOf s n).consumed, tokenDigest s (tokenBytes s)⟩ s, 1) := by
  have hallowed : ((decide (n < 8) && s.lcs.st == 0) || (n == 8 && (s.lcs.st == 0x0F || s.lcs.st == 0x10))) = true := by
    simpa only [Bool.or_eq_true, Bool.and_eq_true, decide_eq_true_eq, beq_iff_eq] using h
  have hn : ¬ 9 ≤ n := by omega
  simp only [progToken, hallowed, hfree, hn, Bool.not_true, Bool.false_eq_true, if_false]

theorem serviceOpen_opens {s : State} (hgrant : s.lcs.grant = none) (hopen : isOpenState s.lcs.st = true) (hrun : s.mode = .run) :
    serviceOpen s = (startGrant ⟨false, 0, 0x1F, 0, 0, 2 ^ 64 - 1, true⟩ s, 1) := by
  have hmode : (s.mode != .run) = false := by rw [hrun]; rfl
  simp only [serviceOpen, hgrant, hopen, hmode, Option.isSome_none, Bool.not_true, Bool.or_self, Bool.false_eq_true, if_false]

theorem startGrant_mode (g : Grant) (s : State) : (startGrant g s).mode = .service := by rw [startGrant, irq_mode, setMode_mode]

theorem startGrant_grant (g : Grant) (s : State) : (startGrant g s).lcs.grant = some g := by
  simp only [startGrant, irq_frame, setMode, State.wrg64_frame]

/-- Settles O56: the four commands through LCS_CMD; alone each finds the engine as the end of a stale grant leaves it. -/
theorem lifeCycleCommandsComplete : Obligations.LifeCycleCommandsComplete := by
  intro a s c turn hfree hc hturn
  subst hc
  have hexec : ∀ v, regCmd a 0x49060 (w32 v) s = regDone (turn v) := fun v => (regCmd_lcs hfree).trans (congrArg regDone (hturn v).symm)
  refine ⟨fun target => congrArg Host.Outcome.next (hexec _), fun token => congrArg Host.Outcome.next (hexec _),
    congrArg Host.Outcome.next (hexec 3), congrArg Host.Outcome.next (hexec 4), fun halone => ?_⟩
  have halone' : ∀ v, turn v = lcsRun (w32 v) a.env.steps a.env.otpMask a.env.otpBad s := fun v => by rw [hturn, halone, lcTurn_alone]
  have hend : turn 4 = lcDone 1 (closeGrant 2 (grantExpire s)) := (halone' 4).trans lcsRun_serviceEnd
  refine ⟨fun target h => ?_, fun token hgood hblank hst => ?_, fun hgrant hopen hrun => ?_, hend, fun hgrant hservice => ?_⟩
  · rw [halone', lcsRun_transition target.isLt, lcTransition_accepted h]
  · rw [halone', lcsRun_progToken token.isLt, hgood, progToken_stores hblank hst]
  · have hopens : turn 3 = lcDone 1 (startGrant ⟨false, 0, 0x1F, 0, 0, 2 ^ 64 - 1, true⟩ (grantExpire s)) := by
      rw [halone', lcsRun_serviceOpen, serviceOpen_opens hgrant hopen hrun]
    refine ⟨hopens, ?_, ?_⟩
    · rw [hopens, lcDone_mode, startGrant_mode]
    · rw [hopens, lcDone_grant, startGrant_grant, Option.isSome_some]
  · rw [hend, lcDone_mode, lcDone_grant, closeGrant_mode, if_pos ⟨hgrant, hservice⟩, closeGrant_ends hgrant]
    exact ⟨rfl, rfl⟩

/-! ### The JTAG instructions (R513, R515) -/

theorem bscanShift_open {s : State} {code : Nat} (bits : BitVec 960) (hsel : jtagSelect code s = (tapped code (grantExpire s), true)) :
    bscanShift code bits s = { tapped code (grantExpire s) with lcs := { (tapped code (grantExpire s)).lcs with bsr := bits } }.answer .okay
      ((List.range 15).map fun i => w64 (nfld (bscanSample (tapped code (grantExpire s))).toNat (64 * i) 64)) := by
  simp only [bscanShift, hsel, if_true]

/-- BSCAN instructions are open or gated together. -/
theorem jtagOpen_bscan {g : State} (h : jtagOpen g 2 = true) {code : Nat} (hlow : 2 ≤ code) (hhigh : code ≤ 5) : jtagOpen g code = true := by
  have hfirst : ¬ (code = 0x01 ∨ code = 0x10 ∨ code = 0x3F) := by omega
  simp only [jtagOpen, hfirst, hlow, hhigh, and_self, if_true, if_false]
  exact h

theorem trst_jtag {s : State} {x : Grant} (hgrant : s.lcs.grant = some x) (hjtag : x.jtag = true) :
    trst s = closeGrant 4 { s with lcs := { s.lcs with tap := 0x01 } } := by simp only [trst, hgrant, hjtag, if_true]

theorem trst_none {s : State} (hgrant : s.lcs.grant = none) : trst s = tapped 0x01 s := by simp only [trst, hgrant, tapped]

/-- Settles O57: each instruction is selected, or gated, and then shows or does what it is for. -/
theorem jtagInstructionsComplete : Obligations.JtagInstructionsComplete := by
  intro s g sel hg hoff hhib hsel
  subst hg
  have htap : sel = fun code => tapped code (grantExpire s) := funext hsel
  subst htap
  have hopens : ∀ {code}, jtagOpen (grantExpire s) code = true → jtagSelect code s = (tapped code (grantExpire s), true) :=
    fun h => jtagSelect_open hoff hhib h
  refine ⟨?_, ?_, ?_, fun bits hscan => ⟨?_, ?_, ?_, ?_⟩, fun hopen => ?_, fun addr value env hopen => ⟨?_, ?_⟩, fun hgated => ?_,
    fun hgrant => ?_, fun x hgrant hjtag => ⟨?_, ?_⟩⟩
  · refine congrArg Host.Outcome.next ?_
    simp only [jtagWord, hopens (code := 0x01) rfl, if_true]
  · refine congrArg Host.Outcome.next ?_
    simp only [jtagWord, hopens (code := 0x10) rfl, if_true]
  · exact congrArg (fun r : State × Bool => Host.Outcome.next r.1) (hopens (code := 0x3F) rfl)
  · exact congrArg Host.Outcome.next (bscanShift_open bits (hopens hscan))
  · exact congrArg Host.Outcome.next (bscanShift_open bits (hopens (jtagOpen_bscan hscan (by decide) (by decide))))
  · exact congrArg (fun r : State × Bool => Host.Outcome.next r.1) (hopens (jtagOpen_bscan hscan (by decide) (by decide)))
  · exact congrArg (fun r : State × Bool => Host.Outcome.next r.1) (hopens (jtagOpen_bscan hscan (by decide) (by decide)))
  · refine congrArg Host.Outcome.next ?_
    simp only [dtmcs, hopens hopen, if_true]
  · refine congrArg (fun u => Host.Outcome.next (settled u)) ?_
    simp only [dmi, hopens hopen, Bool.not_true, Bool.false_eq_true, if_false]
    rfl
  · refine congrArg (fun u => Host.Outcome.next (settled u)) ?_
    simp only [dmi, hopens hopen, Bool.not_true, Bool.false_eq_true, if_false]
    rfl
  · refine congrArg Host.Outcome.next ?_
    simp only [dtmcs, jtagSelect_gated hoff hhib hgated, Bool.false_eq_true, if_false]
  · refine congrArg (fun u => Host.Outcome.next (settled u)) ?_
    rw [trst_none hgrant, grantExpire_none hgrant]
  · exact congrArg (fun u => Host.Outcome.next (settled u)) (trst_jtag hgrant hjtag)
  · exact closeGrant_ends (Option.isSome_iff_exists.mpr ⟨x, hgrant⟩)

/-! ### Challenges and responses (R511, R512) -/

theorem challengeExpire_none {s : State} (h : s.lcs.challenge = none) : challengeExpire s = s := by rw [challengeExpire, h]

theorem challengeExpire_old {s : State} {c : Challenge} (h : s.lcs.challenge = some c) (hold : c.issued + 300000000000 ≤ s.now) :
    challengeExpire s = { s with lcs := { s.lcs with challenge := none } } := by simp only [challengeExpire, h, hold, if_true]

/-- The states in which debug authorisation answers. -/
theorem jtagOpen_debug {g : State} (h : g.lcs.st = 0x10 ∨ g.lcs.st = 0x11) : jtagOpen g 0x12 = true ∧ jtagOpen g 0x13 = true := by
  have hst : (g.lcs.st == 0x10 || g.lcs.st == 0x11) = true := by simpa using h
  exact ⟨hst, hst⟩

/-- A challenge kept by the engine. -/
def challenged (c : Option Challenge) (t : State) : State := { t with lcs := { t.lcs with challenge := c } }

theorem challengeReq_issued {t : State} {panel scope minutes keyId : Nat} (hrun : t.mode = .run) (hst : t.lcs.st = 0x10 ∨ t.lcs.st = 0x11)
    (hchallenge : t.lcs.challenge = none) (hgrant : t.lcs.grant = none) (hpanel : panel < 8) (hscope : scope < 32) (hlow : 1 ≤ minutes)
    (hhigh : minutes ≤ 1440) (hkey : 1 ≤ keyId) (hkeys : keyId < 16) :
    let c : Challenge := ⟨true, panel, scope, minutes, keyId, 0, (Config.nonce t.fresh).toNat, t.now⟩
    challengeReq true 0 panel scope minutes keyId t = ((challenged (some c) t).bump, 0, challengeBytes t c) := by
  have hopen : (t.lcs.st == 0x10 || t.lcs.st == 0x11) = true := by simpa using hst
  have hmode : (t.mode != .run) = false := by rw [hrun]; rfl
  have hargs : ¬ (8 ≤ panel ∨ 32 ≤ scope ∨ minutes = 0 ∨ 1440 < minutes ∨ keyId = 0 ∨ 16 ≤ keyId) := by omega
  simp only [challengeReq, challengeExpire_none hchallenge, grantExpire_none hgrant, hchallenge, hgrant, hopen, hmode, hargs, Option.isSome_none,
    Bool.not_true, Bool.or_self, Bool.false_eq_true, if_false, challenged]

/-- What a denied response leaves: the challenge is used up, the denial is reported. -/
def denied (t : State) : State := irq LCS_PAGE 3 (raise 0x4903 (challenged none t))

theorem challengeResp_denied {t : State} {body : List Byte} {storeBad : Bool} (h : t.lcs.challenge = none ∨ t.mode ≠ .run) :
    challengeResp true 0 body storeBad t = (denied t, 0x22, []) := by
  unfold challengeResp
  cases hc : t.lcs.challenge with
  | none => rfl
  | some c =>
    have hmode : (t.mode != .run) = true := bne_iff_ne.mpr (h.resolve_left fun hn => nomatch hn.symm.trans hc)
    dsimp only
    rw [if_pos (by simp only [hmode, Bool.or_true, Bool.true_or])]
    rfl

/-- A response to the outstanding challenge of JTAG in its time, with a key of Thimble's slots: its digest and signature decide. -/
theorem challengeResp_judged {t : State} {c : Challenge} {body : List Byte} {storeBad : Bool} (hrun : t.mode = .run)
    (hc : t.lcs.challenge = some c) (hjtag : c.jtag = true) (hlive : t.now < c.issued + 300000000000) (hlen : body.length = 192)
    (hprogrammed : (signOf t c.keyId).programmed = true) (hvalid : (signOf t c.keyId).revoked = false) :
    challengeResp true 0 body storeBad t =
      if (signOf t c.keyId).digest = Config.sha384 (body.take 96) ∧ Config.ecdsaVerify (body.take 96) (Config.sha384 (challengeBytes t c))
          ((body.drop 96).take 48) ((body.drop 144).take 48) = true then
        (if storeBad = true then (challenged none t, 4, [])
         else (startGrant ⟨true, c.panel, c.scope, c.keyId, 0, t.now + c.minutes * 60000000000, false⟩ (challenged none t), 0,
           natLe (t.now + c.minutes * 60000000000) 8))
      else (denied t, 0x22, []) := by
  have hmode : (t.mode != .run) = false := by rw [hrun]; rfl
  have hlong : (body.length != 192) = false := by rw [hlen]; rfl
  have htime : decide (c.issued + 300000000000 ≤ t.now) = false := decide_eq_false (by omega)
  by_cases hdigest : (signOf t c.keyId).digest = Config.sha384 (body.take 96)
  · cases hverify : Config.ecdsaVerify (body.take 96) (Config.sha384 (challengeBytes t c)) ((body.drop 96).take 48) ((body.drop 144).take 48) with
    | true =>
      simp only [challengeResp, hc, hjtag, hmode, hlong, htime, hprogrammed, hvalid, hverify, hdigest, bne_self_eq_false, beq_self_eq_true,
        Bool.true_or, Bool.and_self, Bool.not_true, Bool.or_self, Bool.false_eq_true, if_false, if_true, challenged, and_self]
      rfl
    | false =>
      have hsame : ((signOf t c.keyId).digest != Config.sha384 (body.take 96)) = false := by rw [hdigest]; exact bne_self_eq_false _
      simp only [challengeResp, hc, hjtag, hmode, hlong, htime, hprogrammed, hvalid, hsame, hverify, beq_self_eq_true, Bool.true_or,
        Bool.and_self, Bool.not_true, Bool.not_false, Bool.or_self, Bool.false_eq_true, if_false, if_true, and_false, denied, challenged]
  · have hother : ((signOf t c.keyId).digest != Config.sha384 (body.take 96)) = true := bne_iff_ne.mpr hdigest
    simp only [challengeResp, hc, hjtag, hmode, hlong, htime, hprogrammed, hvalid, hother, hdigest, beq_self_eq_true, Bool.true_or,
      Bool.and_self, Bool.not_true, Bool.or_self, Bool.or_true, Bool.false_eq_true, if_false, if_true, false_and, denied, challenged]

theorem grantExpire_over {s : State} {x : Grant} (hgrant : s.lcs.grant = some x) (hfull : x.full = false) (hend : x.endTime ≤ s.now) :
    grantExpire s = closeGrant 1 s := by
  have hover : grantNow s = none := by simp [grantNow, hgrant, hfull, hend]
  rw [grantExpire, hgrant, hover]
  exact if_pos ⟨rfl, rfl⟩

/-- Settles O58: JTAG's three authorisation instructions as they are served alone, and the ends of a challenge and of a grant by time. -/
theorem authorisationsComplete : Obligations.AuthorisationsComplete := by
  intro s g sel hg hsel
  subst hg
  have htap : sel = fun code => tapped code (grantExpire s) := funext hsel
  subst htap
  refine ⟨fun target token env halone hoff hhib hopen hnone => ?_,
    fun panel scope minutes keyId c x hrun hst hchallenge hgrant hpanel hscope hlow hhigh hkey hkeys hc hx => ?_,
    fun body storeBad c y k key t hrun hst hc hjtag hlive hlen hk hprogrammed hvalid hkey hy ht => ?_,
    fun body storeBad hoff hhib hst hno => ?_, fun target token env panel scope minutes keyId body storeBad meets => ⟨rfl, rfl, rfl⟩,
    fun c hc hold => congrArg Host.Outcome.next (challengeExpire_old hc hold), fun x hgrant hfull hend => ⟨?_, ?_⟩⟩
  · refine congrArg (fun u => Host.Outcome.next (settled u)) ?_
    rw [jtagTransition, halone]
    exact jtagServed_open (l := []) hoff hhib hopen (by rw [jtagMove, lcTransition_accepted hnone])
  · subst hc hx
    refine congrArg (fun u => Host.Outcome.next (settled u)) ?_
    exact jtagServed_open (by rw [hrun]; decide) (by rw [hrun]; decide) (jtagOpen_debug hst).1
      (challengeReq_issued (t := tapped 0x12 (grantExpire s)) hrun hst hchallenge hgrant hpanel hscope hlow hhigh hkey hkeys)
  · subst hk hkey hy ht
    refine congrArg (fun u => Host.Outcome.next (settled u)) ?_
    have hact := challengeResp_judged (t := tapped 0x13 (grantExpire s)) (storeBad := storeBad) hrun hc hjtag hlive hlen hprogrammed hvalid
    have hserved := fun t c l h => jtagServed_open (act := challengeResp true 0 body storeBad) (t := t) (c := c) (l := l)
      (by rw [hrun]; decide) (by rw [hrun]; decide) (jtagOpen_debug hst).2 h
    split
    case isTrue hverified =>
      split
      case isTrue hbad => exact hserved _ _ _ ((hact.trans (if_pos hverified)).trans (if_pos hbad))
      case isFalse hgood => exact hserved _ _ _ ((hact.trans (if_pos hverified)).trans (if_neg hgood))
    case isFalse hwrong => exact hserved _ _ _ (hact.trans (if_neg hwrong))
  · refine congrArg (fun u => Host.Outcome.next (settled u)) ?_
    exact jtagServed_open hoff hhib (jtagOpen_debug hst).2 (challengeResp_denied (t := tapped 0x13 (grantExpire s)) hno)
  · exact congrArg (fun u => Host.Outcome.next (settled u)) (grantExpire_over hgrant hfull hend)
  · exact closeGrant_ends (Option.isSome_iff_exists.mpr ⟨x, hgrant⟩)

end Sys2Proof.Machine
end

section
/-!
PROOFS. Panels and the host ports' events (R360 to R372, R382, R386): panel resets and holds, the PCIe link, mailboxes, the MSI-X table.
-/

namespace Sys2Proof.Machine

open Sys2Proof

/-! ### PNL_RESET and PNL_HOLD (R360, R362) -/

/-- The row of PNL_HOLD in the register table of the PNL page. -/
def pnlHoldRow : RegRow := ⟨0x40, 1, 4, 0, 0, 0, 1, 0, 0, 0⟩

theorem regCmd_pnlHold {a : Acc} {s : State} (v : Word) (h : regFree a 0x1040 s = true) :
    regCmd a 0x1040 v s = regDone (plainWrite pnlHoldRow (bank (accPanel a s) Reg.PNL_HOLD) v s) := by
  refine regCmd_free v h _ ?_
  rw [regWrite_block v .pnl h (by decide) (by decide)]
  rfl

theorem holds_plainWrite (p : Nat) (s : State) : holds (plainWrite pnlHoldRow (bank p Reg.PNL_HOLD) 1 s) p = true := by
  have hone : (1 : Word).toNat.testBit 0 = true := by decide
  rw [holds, State.rb, plainWrite, State.rg_wrg_self, bit, BitVec.toNat_or, Nat.testBit_or]
  exact Bool.or_eq_true_iff.mpr (.inr hone)

theorem mem_bitsOf_panels {panels : BitVec 8} {p : Nat} : p ∈ bitsOf 8 (w32 panels.toNat).toNat ↔ p < 8 ∧ panels.getLsbD p = true := by
  have hword : (w32 panels.toNat).toNat = panels.toNat := by
    rw [w32, BitVec.toNat_ofNat, Nat.mod_eq_of_lt (Nat.lt_trans panels.isLt (by decide))]
  rw [hword, bitsOf, List.mem_filter, List.mem_range, BitVec.getLsbD]

/-- Panel 0 resets a panel that does not hold its resources; any other resets itself alone. -/
theorem panelResets_allowed {by' : Nat} {v : Word} {s : State}
    (h : ∀ p ∈ bitsOf 8 v.toNat, p = by' ∨ (by' = 0 ∧ holds s p = false)) :
    panelResets by' v s = ((bitsOf 8 v.toNat).foldl (fun s p => panelReset p s) s, true) := by
  refine if_pos (List.all_eq_true.mpr fun p hp => ?_)
  simpa only [Bool.or_eq_true, Bool.and_eq_true, beq_iff_eq, Bool.not_eq_true'] using h p hp

/-! ### The link in a scan of the host's vectors -/

/-- Two states with one PCIe link, and one list of requests held for it. -/
structure SameLink (s t : State) : Prop where
  linkUp : t.hst.linkUp = s.hst.linkUp
  held : t.hst.held = s.hst.held

theorem SameLink.refl (s : State) : SameLink s s := ⟨rfl, rfl⟩

theorem SameLink.trans {s t u : State} (h : SameLink s t) (h' : SameLink t u) : SameLink s u :=
  ⟨h'.linkUp.trans h.linkUp, h'.held.trans h.held⟩

theorem setFn_sameLink (f : Nat) (x : PcieFn) (s : State) : SameLink s (setFn f x s) := ⟨rfl, rfl⟩

theorem sendMsg_sameLink (f v : Nat) (s : State) : SameLink s (sendMsg f v s) := by
  unfold sendMsg
  split
  · exact ⟨rfl, rfl⟩
  · exact .refl s

theorem vectorScan_sameLink (f : Nat) (s : State) (v : Nat) : SameLink s (vectorScan f s v) := by
  unfold vectorScan
  dsimp only
  split
  · exact .refl s
  · split
    · split
      · exact setFn_sameLink _ _ _
      · exact (setFn_sameLink _ _ _).trans (sendMsg_sameLink _ _ _)
    · exact setFn_sameLink _ _ _

theorem hstScan_sameLink (s : State) : SameLink s (hstScan s) :=
  List.foldlRecOn (motive := SameLink s) _ _ (.refl s) fun _ ht x _ => ht.trans (vectorScan_sameLink x.1 _ x.2)

theorem irq_sameLink (page n : Nat) (s : State) : SameLink s (irq page n s) := by
  have hwrite : ∀ k v, SameLink s (s.wrg k v) := fun k v => ⟨rfl, rfl⟩
  exact (hwrite _ _).trans (hstScan_sameLink _)

/-! ### The events of the link (R372, R382, R386) -/

theorem setLink_linkUp (up : Bool) (speed width : Nat) (s : State) :
    (setLink up speed width s).hst.linkUp = up ∧ (setLink up speed width s).hst.held = s.hst.held := by
  unfold setLink
  dsimp only
  split
  · exact ⟨rfl, rfl⟩
  · exact ⟨(irq_sameLink _ _ _).linkUp, (irq_sameLink _ _ _).held⟩

/-- A change of LINK_UP is the source LINK's. -/
theorem setLink_changed {up : Bool} (speed width : Nat) {s : State} (h : s.hst.linkUp ≠ up) :
    setLink up speed width s = irq HST_PAGE 0 { s with hst := { s.hst with linkUp := up, speed := speed, width := width } } := if_neg h

theorem perst_hot (s : State) : ∃ u, perst true false s = u ∧ u.hst.linkUp = false ∧ u.hst.held = [] := by
  refine ⟨_, rfl, ?_⟩
  have hlink : ∀ t : State, t.hst.held = [] →
      (irq HST_PAGE 4 (setLink false 0 0 t)).hst.linkUp = false ∧ (irq HST_PAGE 4 (setLink false 0 0 t)).hst.held = [] := fun t ht => by
    obtain ⟨hup, hheld⟩ := setLink_linkUp false 0 0 t
    exact ⟨(irq_sameLink _ _ _).linkUp.trans hup, (irq_sameLink _ _ _).held.trans (hheld.trans ht)⟩
  exact hlink _ rfl

theorem linkDown_drops {s : State} (hup : s.hst.linkUp = true) (hperst : s.clk.perst = false) :
    linkDown s = (irq HST_PAGE 0 { s with hst := { s.hst with held := [], linkUp := false, speed := 0, width := 0 } }).incSat
      Reg.HST_PCIE_CNT 16 16 := by
  have hchange : setLink false 0 0 { s with hst := { s.hst with held := [] } }
      = irq HST_PAGE 0 { s with hst := { s.hst with held := [], linkUp := false, speed := 0, width := 0 } } :=
    setLink_changed 0 0 (show s.hst.linkUp ≠ false by rw [hup]; decide)
  rw [linkDown, hup, hchange]
  simp only [Bool.not_true, Bool.false_eq_true, if_false, State.incSat_frame, irq_frame, hperst]

theorem linkTrained_up {speed width : Nat} {s : State} (hdown : s.hst.linkUp = false) (hworks : hostsWork s = true)
    (hspeed : [1, 2, 3].contains speed = true) (hwidth : [1, 2, 4].contains width = true) :
    linkTrained speed width s = irq HST_PAGE 0 { s with hst := { s.hst with linkUp := true, speed := speed, width := width } } := by
  rw [linkTrained, hspeed, hwidth, hworks, hdown]
  exact setLink_changed _ _ (by rw [hdown]; decide)

theorem aerError_uncorrectable {f cause : Nat} {s : State} (hup : s.hst.linkUp = true) (hmask : (cfgWord s f 66).toNat.testBit cause = false) :
    aerError f true cause s = raise 0x4002 (irq HST_PAGE 1 ((aerStatus f 65 cause s).incSat Reg.HST_PCIE_AER 16 16)) := by
  simp only [aerError, hup, hmask, Bool.not_true, Bool.false_eq_true, if_false, if_true]

theorem aerError_correctable {f cause : Nat} {s : State} (hup : s.hst.linkUp = true) (hmask : (cfgWord s f 69).toNat.testBit cause = false) :
    aerError f false cause s = irq HST_PAGE 2 ((aerStatus f 68 cause s).incSat Reg.HST_PCIE_AER 0 16) := by
  simp only [aerError, hup, hmask, Bool.not_true, Bool.false_eq_true, if_false]

/-- A configuration request reaches a function whatever its power state (R363, R372). -/
theorem pcieRun_config {f : Fin 4} {d : Fin 1024} {rw : Rw} {v : Word} {s : State} (hup : s.hst.linkUp = true) (hworks : hostsWork s = true) :
    pcieRun (.config f d rw v) s = cfgAccess f.val d.val rw v s := by
  have hnap := hostsWork_awake hworks
  simp only [pcieRun, pcieServe, pcieDo, hnap, hup, hworks, pcieIsConfig, false_and, if_false, Bool.not_true, Bool.false_eq_true, and_false,
    or_self]

/-- Settles O39: each register write and each event by its own rule. -/
theorem panelsAndLinkEventsComplete : Obligations.PanelsAndLinkEventsComplete := by
  refine ⟨fun a s => ⟨fun panels hfree hallowed => ?_, fun hfree => ?_⟩, fun s => ⟨fun fn hup hworks => ?_, rfl, ?_, fun hup hperst => ?_,
    fun speed width hdown hworks hspeed hwidth => ?_, fun fn cause hup hmask => ?_, fun fn cause hup hmask => ?_⟩⟩
  · have hall : ∀ p ∈ bitsOf 8 (w32 panels.toNat).toNat, p = accPanel a s ∨ (accPanel a s = 0 ∧ holds s p = false) := fun p hp =>
      hallowed p (mem_bitsOf_panels.mp hp).1 (mem_bitsOf_panels.mp hp).2
    have hwrite : blockWrite a.init .pnl 1 (accPanel a s) 0x44 (w32 panels.toNat) a.env s
        = some ((bitsOf 8 (w32 panels.toNat).toNat).foldl (fun s p => panelReset p s) s, .okay) := by
      simp only [blockWrite, pnlWrite, if_true, panelResets_allowed hall, okIf]
    exact congrArg Host.Outcome.next (regCmd_at (i := 1) (o := 0x44) rfl (by decide) (by decide) hfree hwrite)
  · exact ⟨_, congrArg Host.Outcome.next (regCmd_pnlHold 1 hfree), holds_plainWrite _ s⟩
  · exact congrArg Host.Outcome.next (pcieRun_config hup hworks)
  · obtain ⟨u, hu, hlink⟩ := perst_hot s
    exact ⟨u, congrArg Host.Outcome.next hu, hlink⟩
  · exact congrArg Host.Outcome.next (linkDown_drops hup hperst)
  · exact congrArg Host.Outcome.next (linkTrained_up hdown hworks hspeed hwidth)
  · exact congrArg Host.Outcome.next (aerError_uncorrectable hup hmask)
  · exact congrArg Host.Outcome.next (aerError_correctable hup hmask)

/-! ### Mailboxes and the MSI-X table (R370, R371) -/

/-- A request of a function that is served is performed (R363, R382). -/
theorem pcieRun_free {c : PcieCmd} {s : State} (h : fnFree (pcieSource c).1 s = true) : pcieRun c s = pcieDo c s := by
  simp only [fnFree, Bool.and_eq_true, Bool.not_eq_true'] at h
  obtain ⟨⟨⟨hup, hworks⟩, hd0⟩, hbar⟩ := h
  refine pcieRun_serves (c := c) ?_ hbar
  simp only [sends, hup, hworks, hd0, Bool.not_false, Bool.and_self]

theorem mbxIn_posts {f : Fin 4} {bytes : List (Nat × Byte)} {len : Nat} {s : State} (h : fnFree f s = true) (hbusy : inBusy s f.val = false)
    (hlow : 16 ≤ len) (hhigh : len ≤ 4096) :
    let buf := bytes.foldl (fun m b => if b.1 < 4096 then sset (fun _ => (0 : Byte)) m b.1 b.2 else m) (fnOf s f.val).mbxIn
    mbxIn f bytes len s = hstScan (postFrame f.val ((List.range len).map (sget (fun _ => 0) buf)) (setFn f.val { fnOf s f.val with mbxIn := buf } s)) := by
  simp only [fnFree, Bool.and_eq_true, Bool.not_eq_true'] at h
  obtain ⟨⟨⟨hup, hworks⟩, hd0⟩, hbar⟩ := h
  have hlen : ¬ (len < 16 ∨ 4096 < len) := by omega
  have hstill : ∀ x, inBusy (setFn f.val x s) f.val = false := fun x => hbusy
  simp only [mbxIn, mbxPut, mbxPost, hup, hworks, hd0, hbar, hbusy, hstill, hlen, fnOf_setFn, Bool.not_true, Bool.false_eq_true, or_self, if_false,
    if_true]

theorem mbxDone_releases {f : Fin 4} {v : Word} {s : State} {frame : List Byte} {rest : List (List Byte)} (h : fnFree f s = true)
    (hout : (fnOf s f.val).out = frame :: rest) (hv : bit v 0 = true) :
    mbxDone f v s = hstScan (setFn f.val { fnOf (hstScan (setFn f.val { fnOf s f.val with out := [] } s)) f.val with out := rest }
      (hstScan (setFn f.val { fnOf s f.val with out := [] } s))) := by
  simp only [fnFree, Bool.and_eq_true, Bool.not_eq_true'] at h
  obtain ⟨⟨⟨hup, hworks⟩, hd0⟩, hbar⟩ := h
  simp only [mbxDone, hup, hworks, hd0, hbar, hv, hout, List.drop_one, List.tail_cons, Bool.not_true, Bool.false_eq_true, or_self, if_false, if_true]

theorem msixWrite_takes {f : Fin 4} {d : Fin 256} {v : Word} {s : State} (h : fnFree f s = true) :
    msixWrite f.val d.val v s = unmaskScan f.val (setFn f.val { fnOf s f.val with
      msix := sset msixReset (fnOf s f.val).msix d.val (if d.val % 4 = 3 then v &&& 1 else if d.val % 4 = 0 then v &&& 0xFFFFFFFC else v) } s) := by
  simp only [fnFree, Bool.and_eq_true, Bool.not_eq_true'] at h
  obtain ⟨⟨⟨hup, hworks⟩, hd0⟩, -⟩ := h
  simp only [msixWrite, hup, hworks, hd0, Nat.mod_eq_of_lt d.isLt, Bool.not_true, Bool.false_eq_true, or_self, if_false]

/-- Settles O41: the requests reach the function, and do at its mailbox and its table what they ask. -/
theorem mailboxesComplete : Obligations.MailboxesComplete := by
  intro fn s hfree
  refine ⟨fun bytes len buf hbusy hlow hhigh hbuf => ?_, fun value frame rest hout hv => ?_, fun dw value w hw => ?_⟩
  · subst hbuf
    exact congrArg Host.Outcome.next ((pcieRun_free (c := .mbxIn fn bytes len) hfree).trans (mbxIn_posts hfree hbusy hlow hhigh))
  · refine congrArg Host.Outcome.next ((pcieRun_free (c := .mbxDone fn value) hfree).trans ?_)
    rw [pcieDo, mbxDone_releases hfree hout hv, hout, List.headD_cons]
  · subst hw
    refine congrArg Host.Outcome.next ((pcieRun_free (c := .msix fn dw value) hfree).trans ?_)
    rw [pcieDo, msixWrite_takes hfree]

end Sys2Proof.Machine
end

section
/-!
PROOFS. Clock generation (R387 to R402): commands and events of the PLLs, loss and return of the references.
-/

namespace Sys2Proof.Machine

open Sys2Proof

/-! ### The record of a PLL -/

theorem setPll_clk (n : Nat) (p : Pll) (s : State) :
    (setPll n p s).clk = { s.clk with plls := sset (fun _ => Pll.reset) s.clk.plls n p } := by
  unfold setPll
  dsimp only
  split <;> rfl

theorem pllOf_of_clk {s t : State} (h : t.clk.plls = s.clk.plls) (n : Nat) : pllOf t n = pllOf s n := by rw [pllOf, pllOf, h]

theorem pllOf_irq (page n : Nat) (s : State) (m : Nat) : pllOf (irq page n s) m = pllOf s m := by simp only [pllOf, irq_frame]

theorem pllOf_raise (code : Nat) (s : State) (m : Nat) : pllOf (raise code s) m = pllOf s m := by simp only [pllOf, raise_frame]

theorem pllOf_setPll_ne {n m : Nat} (p : Pll) (s : State) (h : m ≠ n) : pllOf (setPll n p s) m = pllOf s m := by
  rw [pllOf, setPll_clk]
  exact sget_sset_ne _ _ p h

/-- A state whose clocks differ from another's in one PLL alone, its registers not at all. -/
structure OnePll (n : Nat) (p : Pll) (s t : State) : Prop where
  clk : t.clk = { s.clk with plls := sset (fun _ => Pll.reset) s.clk.plls n p }
  regs : t.regs = s.regs

section
variable {n : Nat} {p : Pll} {s t : State}

theorem OnePll.self (h : OnePll n p s t) : pllOf t n = p := by
  rw [pllOf, h.clk]
  exact sget_sset_self _ _ _ _

theorem OnePll.other (h : OnePll n p s t) {m : Nat} (hm : m ≠ n) : pllOf t m = pllOf s m := by
  rw [pllOf, h.clk]
  exact sget_sset_ne _ _ p hm

theorem onePll_setPll (n : Nat) (p : Pll) (s : State) : OnePll n p s (setPll n p s) := ⟨setPll_clk n p s, by simp only [setPll_frame]⟩

theorem OnePll.dram (h : OnePll n p s t) (m : Nat) (on : Bool) : OnePll n p s (dramForPll2 m on t) := by
  unfold dramForPll2
  split
  · exact ⟨h.clk, h.regs⟩
  · exact h

theorem OnePll.bump (h : OnePll n p s t) : OnePll n p s t.bump := ⟨h.clk, h.regs⟩

end

/-! ### Relocks (R396 to R398) -/

/-- The PLL as a relock with settings `x` from a band and a control value leaves it. -/
def hopPll (n : Nat) (x : PllSet) (b c : Nat) (s : State) : Pll :=
  let p := pllOf s n
  { p with st := 2, act := x, slow := slowDown p.act x (p.st == 0), band := b, ctrl := if (p.st == 1 || p.st == 2) = true then p.ctrl else c,
           start := s.now, late := false, digital := false }

/-- The PLL as a full relock with settings `x` leaves it. -/
def searchPll (n : Nat) (x : PllSet) (s : State) : Pll :=
  let p := pllOf s n
  { p with st := 1, act := x, slow := slowDown p.act x (p.st == 0), band := s.freeBelow 256,
           ctrl := if (p.st == 1 || p.st == 2) = true then p.ctrl else s.bump.freeBelow 65536, start := s.now, late := false, digital := false }

theorem startRelock_hop (n : Nat) (x : PllSet) (b c : Nat) (isCmd : Bool) (s : State) :
    OnePll n (hopPll n x b c s) s (startRelock n x (some (b, c)) false isCmd s) :=
  (onePll_setPll n _ s).dram _ _

theorem startRelock_full (n : Nat) (x : PllSet) (isCmd : Bool) (s : State) :
    OnePll n (searchPll n x s) s (startRelock n x none false isCmd s) :=
  (onePll_setPll n _ s).bump.bump.dram _ _

theorem clkRefuse_clk (n code : Nat) (s : State) : (clkRefuse n code s).clk = s.clk := by
  unfold clkRefuse
  dsimp only
  split <;> simp only [irq_frame, State.incSat_frame, State.wf_frame]

theorem dramForPll2_clk (n : Nat) (on : Bool) (s : State) : (dramForPll2 n on s).clk = s.clk := by
  unfold dramForPll2
  split <;> rfl

/-- The report of an open or shorted land in the precharge check. -/
def landNoted (n : Nat) (isCmd : Bool) (s : State) : State :=
  let s := irq CLK_PAGE 8 (raise 0x0405 { s with clk := { s.clk with lkfBad := true } })
  if isCmd then clkRefuse n 7 s else s

theorem startRelock_lost (n : Nat) (x : PllSet) (from' : Option (Nat × Nat)) (badLand isCmd : Bool) (s : State) :
    (startRelock n x from' badLand isCmd s).clk.lost = s.clk.lost := by
  have hpll : ∀ {p t u}, OnePll n p t u → t.clk.lost = s.clk.lost → u.clk.lost = s.clk.lost := fun h ht => by rw [h.clk]; exact ht
  cases badLand with
  | false => cases from' with
    | none => exact hpll (startRelock_full n x isCmd s) rfl
    | some e => exact hpll (startRelock_hop n x e.1 e.2 isCmd s) rfl
  | true =>
    have hnoted : (landNoted n isCmd s).clk.lost = s.clk.lost := by
      unfold landNoted
      split
      · rw [clkRefuse_clk]
        simp only [irq_frame, raise_frame]
      · simp only [irq_frame, raise_frame]
    unfold startRelock
    simp only [if_true, true_and]
    split
    · exact hpll (onePll_setPll n _ _) hnoted
    · cases from' with
      | none => exact hpll ((onePll_setPll n _ _).bump.bump.dram _ _) hnoted
      | some e => exact hpll ((onePll_setPll n _ _).dram _ _) hnoted

/-- A fold over PLLs each step of which changes its own alone, and finds it as it was at first: what a step does of its PLL stands in the end. -/
theorem foldl_plls {f : State → Nat → State} {Inv : State → Prop} {p : Nat → Pll} {R : Nat → Pll → Prop} {l : List Nat} (hl : l.Nodup)
    (hstep : ∀ t, ∀ n ∈ l, Inv t → pllOf t n = p n →
      Inv (f t n) ∧ (∀ m, m ≠ n → pllOf (f t n) m = pllOf t m) ∧ R n (pllOf (f t n) n))
    {s : State} (hs : Inv s) (hp : ∀ n ∈ l, pllOf s n = p n) :
    Inv (l.foldl f s) ∧ (∀ m, m ∉ l → pllOf (l.foldl f s) m = pllOf s m) ∧ ∀ n ∈ l, R n (pllOf (l.foldl f s) n) := by
  induction l generalizing s with
  | nil => exact ⟨hs, fun _ _ => rfl, fun _ h => absurd h List.not_mem_nil⟩
  | cons a l ih =>
    obtain ⟨ha, hl⟩ := List.nodup_cons.mp hl
    obtain ⟨hinv, hother, hself⟩ := hstep s a List.mem_cons_self hs (hp a List.mem_cons_self)
    have hne : ∀ n ∈ l, n ≠ a := fun n hn h => ha (h ▸ hn)
    obtain ⟨hinv', hrest, heach⟩ := ih hl (fun t n hn => hstep t n (List.mem_cons_of_mem a hn)) hinv fun n hn =>
      (hother n (hne n hn)).trans (hp n (List.mem_cons_of_mem a hn))
    refine ⟨hinv', fun m hm => ?_, fun n hn => ?_⟩
    · rw [List.mem_cons, not_or] at hm
      exact (hrest m hm.2).trans (hother m hm.1)
    · obtain rfl | hn := List.mem_cons.mp hn
      · rw [List.foldl_cons, hrest n ha]
        exact hself
      · exact heach n hn

/-! ### The commands of a PLL (R397, R399) -/

theorem pllCmd_fields {c entry : Nat} (hc : c < 16) (hentry : entry < 16) :
    fld (w32 (c + 256 * entry)) 0 4 = c ∧ fld (w32 (c + 256 * entry)) 8 4 = entry := by
  simp only [fld, w32, BitVec.toNat_ofNat, Nat.shiftRight_eq_div_pow]
  omega

theorem regCmd_pll {a : Acc} {n : Nat} {v : Word} {s : State} (hn : n < 8) (h : regFree a (0x4108 + n * 0x40) s = true) :
    regCmd a (0x4108 + n * 0x40) v s = regDone (pllCmd n v (a.env.badLands.getLsbD n) s) := by
  have hoff : 0x4108 + n * 0x40 = 4 * 0x1000 + (0x108 + n * 0x40) := by omega
  rw [hoff] at h ⊢
  refine regCmd_at (k := .clk) rfl (by omega) (by omega) h ?_
  have hrange : 0x100 ≤ 0x108 + n * 0x40 ∧ 0x108 + n * 0x40 < 0x300 := by omega
  have hpll : (0x108 + n * 0x40 - 0x100) / 0x40 = n := by omega
  have hreg : (0x108 + n * 0x40 - 0x100) % 0x40 = 8 := by omega
  simp only [blockWrite, clkWrite]
  rw [if_neg (by omega), if_neg (by omega), if_pos hrange, hpll, hreg]
  rfl

theorem pllCmd_relock (n : Nat) (badLand : Bool) (s : State) : pllCmd n (w32 1) badLand s = relockCmd n badLand s := rfl

theorem pllCmd_hop {entry : Nat} (n : Nat) (badLand : Bool) (s : State) (h : entry < 16) :
    pllCmd n (w32 (2 + 256 * entry)) badLand s = hopCmd n entry badLand s := by
  obtain ⟨hop, harg⟩ := pllCmd_fields (c := 2) (by decide) h
  simp only [pllCmd, hop, harg]

theorem pllCmd_store {entry : Nat} (n : Nat) (badLand : Bool) (s : State) (h : entry < 16) :
    pllCmd n (w32 (3 + 256 * entry)) badLand s = storeCmd n entry s := by
  obtain ⟨hop, harg⟩ := pllCmd_fields (c := 3) (by decide) h
  simp only [pllCmd, hop, harg]

theorem pllCmd_clear {entry : Nat} (n : Nat) (badLand : Bool) (s : State) (h : entry < 16) :
    pllCmd n (w32 (4 + 256 * entry)) badLand s = clearCmd n entry s := by
  obtain ⟨hop, harg⟩ := pllCmd_fields (c := 4) (by decide) h
  simp only [pllCmd, hop, harg]

theorem loadShadows_clk (n : Nat) (x : PllSet) (s : State) : (loadShadows n x s).clk = s.clk := by
  unfold loadShadows
  refine List.foldlRecOn (motive := fun t : State => t.clk = s.clk) _ _ ?_ fun t ht k _ => ?_
  · simp only [State.wrg_frame]
  · simp only [State.wrg_frame, ht]

theorem relockCmd_starts {n : Nat} {s : State} (h : relockRefusal s n (shadowSet s n) = none) :
    relockCmd n false s = startRelock n (shadowSet s n) none false true s := by simp only [relockCmd, h]

theorem hopCmd_loads {n entry : Nat} {s : State} {e : PllEntry} (he : sget (fun _ => none) ((pllOf s n).entries.map fun x => (x.1, some x.2)) entry = some e)
    (hceils : ceilsOk s n e.set = true) (href : refHere s e.set.ref = true) :
    hopCmd n entry false s = setPll n
      { pllOf (startRelock n e.set (some (e.band, e.ctrl)) false true (loadShadows n e.set s)) n with last := entry }
      (startRelock n e.set (some (e.band, e.ctrl)) false true (loadShadows n e.set s)) := by
  simp only [hopCmd, he, hceils, href, Bool.not_true, Bool.false_eq_true, if_false]

/-! ### CLK_UPDATE (R393) -/

theorem outShadow_of_regs {s t : State} (h : t.regs = s.regs) (n : Nat) : outShadow t n = outShadow s n := by
  funext k
  simp only [outShadow, State.rf, State.rb, State.rg, h]

theorem shadowSet_of_regs {s t : State} (h : t.regs = s.regs) (n : Nat) : shadowSet t n = shadowSet s n := by
  simp only [shadowSet, outShadow_of_regs h, State.rf, State.rg, h]
  rfl

theorem ceilsOk_of_regs {s t : State} (h : t.regs = s.regs) (n : Nat) (x : PllSet) : ceilsOk t n x = ceilsOk s n x := by
  simp only [ceilsOk, State.rf, State.rg, h]

theorem updateOuts_of {s t : State} {n : Nat} (h : t.regs = s.regs) (hp : pllOf t n = pllOf s n) : updateOuts t n = updateOuts s n := by
  simp only [updateOuts, outShadow_of_regs h, hp]

/-- The settings that an update of PLL n takes, and those the PLL would then run on. -/
def updateSet (s : State) (n : Nat) : PllSet := { shadowSet s n with outs := updateOuts s n }
def updatedSet (s : State) (n : Nat) : PllSet := { (pllOf s n).act with ss := (shadowSet s n).ss, outs := updateOuts s n }

/-- The checks of an update (R390, R392, R394). -/
def updateOk (s : State) (n : Nat) : Prop :=
  ((pllOf s n).st = 0 ∨ (rangeOk (updatedSet s n) = true ∧ ceilsOk s n (updatedSet s n) = true))
    ∧ (n = 1 ∨ n = 2 → nfld (shadowSet s n).ss 13 2 = 0)

theorem updateOne_holds {s : State} {n : Nat} (h : updateOk s n) : updateOne s n = setPll n { pllOf s n with upd := some (updateSet s n) } s := by
  obtain ⟨hsets, hspread⟩ := h
  have hrange : ¬ ((pllOf s n).st ≠ 0 ∧ (!rangeOk (updatedSet s n)) = true) := fun hc => by
    obtain h0 | ⟨hr, -⟩ := hsets
    · exact hc.1 h0
    · exact Bool.false_ne_true (by simpa only [hr, Bool.not_true] using hc.2)
  have hceils : ¬ ((pllOf s n).st ≠ 0 ∧ (!ceilsOk s n (updatedSet s n)) = true) := fun hc => by
    obtain h0 | ⟨-, hr⟩ := hsets
    · exact hc.1 h0
    · exact Bool.false_ne_true (by simpa only [hr, Bool.not_true] using hc.2)
  exact (if_neg hrange).trans ((if_neg fun hc => hc.2 (hspread hc.1)).trans (if_neg hceils))

theorem updateOk_of {s t : State} {n : Nat} (h : t.regs = s.regs) (hp : pllOf t n = pllOf s n) (hok : updateOk s n) : updateOk t n := by
  simp only [updateOk, updatedSet, updateOuts_of h hp, shadowSet_of_regs h, ceilsOk_of_regs h, hp]
  exact hok

theorem updateSet_of {s t : State} {n : Nat} (h : t.regs = s.regs) (hp : pllOf t n = pllOf s n) : updateSet t n = updateSet s n := by
  rw [updateSet, updateSet, updateOuts_of h hp, shadowSet_of_regs h]

/-- The updates of several PLLs, each held for its PLL's restart. -/
theorem clkUpdate_holds {v : Word} {s : State} (h : ∀ n ∈ bitsOf 8 v.toNat, updateOk s n) :
    ∀ n ∈ bitsOf 8 v.toNat, (pllOf (clkUpdate v s) n).upd = some (updateSet s n) := by
  have hnodup : (bitsOf 8 v.toNat).Nodup := List.nodup_range.filter _
  refine (foldl_plls (f := updateOne) (Inv := fun t => t.regs = s.regs) (p := pllOf s) (R := fun n q => q.upd = some (updateSet s n)) hnodup
    (fun t n hn hregs hp => ?_) rfl fun _ _ => rfl).2.2
  have hone := onePll_setPll n { pllOf t n with upd := some (updateSet t n) } t
  rw [updateOne_holds (updateOk_of hregs hp (h n hn))]
  refine ⟨hone.regs.trans hregs, fun m hm => hone.other hm, ?_⟩
  rw [hone.self, updateSet_of hregs hp]

/-! ### What happens to a PLL (R393, R395, R398, R401) -/

theorem updateDone_applies {n : Nat} {s : State} {x : PllSet} (hupd : (pllOf s n).upd = some x) (hfull : (pllOf s n).st ≠ 1)
    (hhop : (pllOf s n).st ≠ 2) :
    updateDone n s = irq CLK_PAGE 3 (setPll n { pllOf s n with act := { (pllOf s n).act with ss := x.ss, outs := x.outs }, upd := none } s) := by
  have hidle : ¬ ((pllOf s n).st = 1 ∨ (pllOf s n).st = 2) := not_or.mpr ⟨hfull, hhop⟩
  simp only [updateDone, applyUpdate, hidle, hupd, if_false]

/-- A held update changes the settings, and neither the state nor the slow-down divider. -/
theorem applyUpdate_keeps (n : Nat) (s : State) :
    (pllOf (applyUpdate n s) n).st = (pllOf s n).st ∧ (pllOf (applyUpdate n s) n).slow = (pllOf s n).slow ∧ (applyUpdate n s).mode = s.mode := by
  unfold applyUpdate
  dsimp only
  split
  · exact ⟨rfl, rfl, rfl⟩
  · rw [pllOf_irq, pllOf_setPll, irq_mode]
    exact ⟨rfl, rfl, by simp only [setPll_frame]⟩

/-- PLL n with its lock, before a held update and the report. -/
def lockedPll (n : Nat) (s : State) : State := dramForPll2 n false (setPll n { pllOf s n with st := 3, slow := 1, late := false } s)

theorem pllLock_eq {n : Nat} {s : State} (hst : (pllOf s n).st = 1 ∨ (pllOf s n).st = 2) (href : refHere s (pllOf s n).act.ref = true) :
    ∃ r b, pllLock n s = irq CLK_PAGE 0 { applyUpdate n (lockedPll n s) with regs := r, clk := { (applyUpdate n (lockedPll n s)).clk with fallback := b } } := by
  rw [pllLock]
  dsimp only
  rw [if_pos ⟨hst, href⟩]
  split
  · exact ⟨_, _, rfl⟩
  · exact ⟨_, _, rfl⟩

theorem pllLock_locks {n : Nat} {s : State} (hst : (pllOf s n).st = 1 ∨ (pllOf s n).st = 2) (href : refHere s (pllOf s n).act.ref = true) :
    (pllOf (pllLock n s) n).st = 3 ∧ (pllOf (pllLock n s) n).slow = 1 ∧ (pllLock n s).mode = s.mode := by
  obtain ⟨hst', hslow, hmode⟩ := applyUpdate_keeps n (lockedPll n s)
  have hself : pllOf (lockedPll n s) n = { pllOf s n with st := 3, slow := 1, late := false } := ((onePll_setPll n _ s).dram n false).self
  have hlocked : (lockedPll n s).mode = s.mode := by
    unfold lockedPll dramForPll2
    split <;> simp only [setPll_frame]
  obtain ⟨k, b, h⟩ := pllLock_eq hst href
  rw [h, irq_mode, pllOf_irq]
  refine ⟨hst'.trans (by rw [hself]), hslow.trans (by rw [hself]), hmode.trans hlocked⟩

theorem lockAndGo_run {wake : State → State} {n : Nat} {s : State} (h : (pllLock n s).mode = .run) : lockAndGo wake n s = pllLock n s := by
  simp only [lockAndGo, h, Bool.not_false, if_true]

/-- The loss of lock as it is reported, before a relock. -/
def lostLock (n : Nat) (s : State) : State := irq CLK_PAGE 1 (raise 0x0401 (setPll n { pllOf s n with st := 4 } s))

theorem pllOf_lostLock (n : Nat) (s : State) : pllOf (lostLock n s) n = { pllOf s n with st := 4 } := by
  rw [lostLock, pllOf_irq, pllOf_raise, pllOf_setPll]

theorem lockLost_coasts {n : Nat} {s : State} (bad : Bool) (hst : (pllOf s n).st = 3) (hauto : autoRelock (lostLock n s) n = false) :
    lockLost n bad s = lostLock n s := by
  refine (if_pos hst).trans (if_neg fun hc => ?_)
  rw [Bool.and_eq_true] at hc
  exact Bool.false_ne_true (hauto.symm.trans hc.1)

theorem lockLost_relocks {n : Nat} {s : State} (hst : (pllOf s n).st = 3) (hauto : autoRelock (lostLock n s) n = true)
    (href : refHere (lostLock n s) (pllOf s n).act.ref = true) : lockLost n false s = relockAfterLoss n false (lostLock n s) :=
  (if_pos hst).trans (if_pos (Bool.and_eq_true_iff.mpr ⟨hauto, href⟩))

theorem lockTimeout_reports {n : Nat} {s : State} (hst : (pllOf s n).st = 1 ∨ (pllOf s n).st = 2) (hlate : (pllOf s n).late = false)
    (hdue : (pllOf s n).start + 2000000 ≤ s.now) : lockTimeout n s = raise 0x0406 (setPll n { pllOf s n with late := true } s) :=
  if_pos ⟨hst, by rw [hlate]; rfl, hdue⟩

/-- Settles O43: the commands through CLK_PLLn_CMD and CLK_UPDATE, then the events of one PLL. -/
theorem pllsComplete : Obligations.PllsComplete := by
  refine ⟨fun a pll s => ⟨fun hfree hland hrefusal => ?_, fun entry e hfree hland he hceils href => ?_, fun entry hfree hst => ?_,
      fun entry hfree => ?_, fun plls hfree hok => ?_⟩,
    fun pll s p hp => ?_⟩
  · have hone := startRelock_full pll.val (shadowSet s pll.val) true s
    refine ⟨_, congrArg Host.Outcome.next ((regCmd_pll pll.isLt hfree).trans (by rw [hland, pllCmd_relock, relockCmd_starts hrefusal])), ?_, ?_⟩
    · rw [hone.self]; rfl
    · rw [hone.self]; rfl
  · have hone := startRelock_hop pll.val e.set e.band e.ctrl true (loadShadows pll.val e.set s)
    have hsame : pllOf (loadShadows pll.val e.set s) pll.val = pllOf s pll.val := pllOf_of_clk (congrArg _ (loadShadows_clk _ _ s)) _
    refine ⟨_, congrArg Host.Outcome.next ((regCmd_pll pll.isLt hfree).trans
      (by rw [hland, pllCmd_hop _ _ _ entry.isLt, hopCmd_loads he hceils href, hone.self])), ?_⟩
    rw [pllOf_setPll, hopPll, hsame]
    refine ⟨rfl, rfl, rfl, ?_, rfl⟩
    simp only [Bool.or_eq_true, beq_iff_eq]
  · refine congrArg Host.Outcome.next ((regCmd_pll pll.isLt hfree).trans (congrArg regDone ((pllCmd_store _ _ _ entry.isLt).trans ?_)))
    exact if_neg (not_not_intro hst)
  · exact congrArg Host.Outcome.next ((regCmd_pll pll.isLt hfree).trans (congrArg regDone (pllCmd_clear _ _ _ entry.isLt)))
  · refine ⟨_, congrArg Host.Outcome.next (regCmd_at (i := 4) (o := 0x40) (k := .clk) rfl (by decide) (by decide) hfree rfl), fun n hn hbit => ?_⟩
    exact clkUpdate_holds (fun m hm => hok m (mem_bitsOf_panels.mp hm).1 _ (mem_bitsOf_panels.mp hm).2 rfl) n (mem_bitsOf_panels.mpr ⟨hn, hbit⟩)
  · subst hp
    refine ⟨fun x hupd hfull hhop => congrArg Host.Outcome.next (updateDone_applies hupd hfull hhop), fun hst href hrun => ?_,
      fun bad t hst ht hauto => ?_, fun t hst ht hauto href => ?_,
      fun hst hlate hdue => congrArg Host.Outcome.next (lockTimeout_reports hst hlate hdue)⟩
    · obtain ⟨hlock, hslow, hmode⟩ := pllLock_locks hst href
      exact ⟨_, congrArg (fun u => Host.Outcome.next (settled u)) (lockAndGo_run (hmode.trans hrun)), hlock, hslow⟩
    · subst ht
      exact congrArg Host.Outcome.next (lockLost_coasts bad hst hauto)
    · subst ht
      have hone := startRelock_hop pll.val (pllOf (lostLock pll.val s) pll.val).act (pllOf (lostLock pll.val s) pll.val).band
        (pllOf (lostLock pll.val s) pll.val).ctrl false (lostLock pll.val s)
      refine ⟨_, congrArg Host.Outcome.next (lockLost_relocks hst hauto href), ?_, ?_⟩
      · rw [relockAfterLoss, hone.self]; rfl
      · rw [relockAfterLoss, hone.self, hopPll, pllOf_lostLock]

/-! ### The references (R388, R389, R391, R401) -/

theorem noBadLand (n : Nat) : (0 : BitVec 8).getLsbD n = false := by simp

/-- What the loss of reference r does of PLL n. -/
def lostRef (r : Fin 3) (slips : BitVec 8) (s : State) (n : Nat) : State :=
  if (pllOf s n).act.ref = r.val ∧ ((pllOf s n).st = 1 ∨ (pllOf s n).st = 2 ∨ (pllOf s n).st = 3) then
    if slips.getLsbD n ∧ (pllOf s n).st = 3 then irq CLK_PAGE 1 (irq CLK_PAGE 2 (raise 0x0402 (coast n s)))
    else irq CLK_PAGE 2 (raise 0x0402 (coast n s))
  else s

theorem lostRef_coasts (r : Fin 3) (slips : BitVec 8) (s : State) (n : Nat) :
    (lostRef r slips s n).clk.lost = s.clk.lost ∧ (∀ m, m ≠ n → pllOf (lostRef r slips s n) m = pllOf s m)
      ∧ ((pllOf s n).act.ref = r.val → 1 ≤ (pllOf s n).st → (pllOf s n).st ≤ 3 → (pllOf (lostRef r slips s n) n).st = 4) := by
  have hone : OnePll n { pllOf s n with st := 4 } s (coast n s) := onePll_setPll n _ s
  unfold lostRef
  split
  case isTrue hon =>
    have hcoast : ∀ t, t.clk = (coast n s).clk → t.clk.lost = s.clk.lost ∧ (∀ m, m ≠ n → pllOf t m = pllOf s m)
        ∧ ((pllOf s n).act.ref = r.val → 1 ≤ (pllOf s n).st → (pllOf s n).st ≤ 3 → (pllOf t n).st = 4) := fun t ht => by
      have hpll := pllOf_of_clk (congrArg Clk.plls ht)
      refine ⟨by rw [ht, hone.clk], fun m hm => (hpll m).trans (hone.other hm), fun _ _ _ => ?_⟩
      rw [hpll, hone.self]
    split
    · exact hcoast _ (by simp only [irq_frame, raise_frame])
    · exact hcoast _ (by simp only [irq_frame, raise_frame])
  case isFalse hoff => exact ⟨rfl, fun _ _ => rfl, fun href hlow hhigh => absurd ⟨href, by omega⟩ hoff⟩

theorem refLost_coasts (r : Fin 3) (slips : BitVec 8) (s : State) :
    (refLost r slips s).clk.lost = s.clk.lost ||| (1#3 <<< r.val)
      ∧ ∀ n < 8, (pllOf s n).act.ref = r.val → 1 ≤ (pllOf s n).st → (pllOf s n).st ≤ 3 → (pllOf (refLost r slips s) n).st = 4 := by
  have heq : refLost r slips s = (List.range 8).foldl (lostRef r slips) { s with clk := { s.clk with lost := s.clk.lost ||| (1#3 <<< r.val) } } := rfl
  rw [heq]
  have hfold := foldl_plls (f := lostRef r slips) (Inv := fun t => t.clk.lost = s.clk.lost ||| (1#3 <<< r.val)) (p := pllOf s)
    (R := fun n q => (pllOf s n).act.ref = r.val → 1 ≤ (pllOf s n).st → (pllOf s n).st ≤ 3 → q.st = 4) (l := List.range 8)
    List.nodup_range (fun t n _ hlost hp => ?_) (s := { s with clk := { s.clk with lost := s.clk.lost ||| (1#3 <<< r.val) } }) rfl fun _ _ => rfl
  · exact ⟨hfold.1, fun n hn => hfold.2.2 n (List.mem_range.mpr hn)⟩
  · obtain ⟨hkeep, hother, hself⟩ := lostRef_coasts r slips t n
    rw [hp] at hself
    exact ⟨hkeep.trans hlost, hother, hself⟩

/-- What the return of reference r does of PLL n. -/
def backRef (r : Fin 3) (bad : BitVec 8) (s : State) (n : Nat) : State :=
  if (pllOf s n).st = 4 ∧ (pllOf s n).act.ref = r.val ∧ autoRelock s n ∧ refHere s r.val then relockAfterLoss n (bad.getLsbD n) s else s

theorem refRestored_eq {r : Fin 3} {bad : BitVec 8} {s : State} (h : s.clk.lost.getLsbD r.val = true) :
    refRestored r bad s = (List.range 8).foldl (backRef r bad) { s with clk := { s.clk with lost := s.clk.lost &&& ~~~(1#3 <<< r.val) } } :=
  if_neg (by rw [h]; exact Bool.false_ne_true)

theorem backRef_lost (r : Fin 3) (bad : BitVec 8) (s : State) (n : Nat) : (backRef r bad s n).clk.lost = s.clk.lost := by
  unfold backRef
  split
  · exact startRelock_lost n _ _ _ _ s
  · rfl

theorem refRestored_back {r : Fin 3} {bad : BitVec 8} {s : State} (h : s.clk.lost.getLsbD r.val = true) :
    (refRestored r bad s).clk.lost.getLsbD r.val = false := by
  have hlost : (refRestored r bad s).clk.lost = s.clk.lost &&& ~~~(1#3 <<< r.val) := by
    rw [refRestored_eq h]
    exact List.foldlRecOn (motive := fun t : State => t.clk.lost = s.clk.lost &&& ~~~(1#3 <<< r.val)) _ _ rfl fun t ht n _ =>
      (backRef_lost r bad t n).trans ht
  have hr := r.isLt
  rw [hlost, BitVec.getLsbD_and, BitVec.getLsbD_not, BitVec.getLsbD_shiftLeft]
  simp [hr]

/-- XO25 starts PLL n if it is off. -/
def xoStart (s : State) (n : Nat) : State :=
  if (pllOf s n).st = 0 then startRelock n (shadowSet s n) none ((0 : BitVec 8).getLsbD n) false s else s

theorem startPlls_eq (s : State) : startPlls 0 s = (List.range 8).foldl xoStart s := rfl

/-- XO25 starts the PLLs that are off. -/
theorem startPlls_starts (s : State) :
    (startPlls 0 s).clk.xoReady = s.clk.xoReady ∧ ∀ n < 8, (pllOf s n).st = 0 → (pllOf (startPlls 0 s) n).st = 1 := by
  rw [startPlls_eq]
  have hfold := foldl_plls (f := xoStart)
    (Inv := fun t => t.clk.xoReady = s.clk.xoReady) (p := pllOf s) (R := fun n q => (pllOf s n).st = 0 → q.st = 1) (l := List.range 8)
    List.nodup_range (fun t n _ hready hp => ?_) (s := s) rfl fun _ _ => rfl
  · exact ⟨hfold.1, fun n hn => hfold.2.2 n (List.mem_range.mpr hn)⟩
  · have hone := startRelock_full n (shadowSet t n) false t
    rw [xoStart, noBadLand]
    split
    case isTrue hoff => exact ⟨by rw [hone.clk]; exact hready, fun m hm => hone.other hm, fun _ => by rw [hone.self]; rfl⟩
    case isFalse hon => exact ⟨hready, fun _ _ => rfl, fun hoff => absurd (hp ▸ hoff) hon⟩

theorem clocksOn_powered {s : State} (h : clocksOn s = true) : s.mode ≠ .off ∧ s.mode ≠ .hibernate := by
  refine ⟨fun hm => ?_, fun hm => ?_⟩ <;> rw [clocksOn, hm] at h <;> exact Bool.false_ne_true h

theorem xoReady_starts {s : State} (hready : s.clk.xoReady = false) (hon : clocksOn s = true) :
    (xoReady 0 s).clk.xoReady = true ∧ ∀ n < 8, (pllOf s n).st = 0 → (pllOf (xoReady 0 s) n).st = 1 := by
  obtain ⟨hoff, hhib⟩ := clocksOn_powered hon
  have hstart : xoReady 0 s = startPlls 0 (irq CLK_PAGE 4 { s with clk := { s.clk with xoReady := true } }) := by
    have hstill : clocksOn (irq CLK_PAGE 4 { s with clk := { s.clk with xoReady := true } }) = true := by rw [clocksOn, irq_mode]; exact hon
    simp only [xoReady, hready, hoff, hhib, hstill, Bool.false_eq_true, or_self, if_false, if_true]
  obtain ⟨hkeep, hstarts⟩ := startPlls_starts (irq CLK_PAGE 4 { s with clk := { s.clk with xoReady := true } })
  rw [hstart]
  refine ⟨hkeep.trans (by simp only [irq_frame]), fun n hn hst => hstarts n hn ?_⟩
  rw [pllOf_irq]
  exact hst

/-- PLL n started on RC100 (R391). -/
def rcStart (s : State) (n : Nat) : State :=
  startRelock n ⟨1, 4, fallbackN n, 0, (shadowSet s n).ss,
    if n = 0 then (List.range 4).map fun k => (true, 0, fallbackD k) else (shadowSet s n).outs⟩ none ((0 : BitVec 8).getLsbD n) false s

theorem rcFallback_eq {s : State} (hready : s.clk.xoReady = false) (hfall : s.clk.fallback = false) (hon : clocksOn s = true) :
    rcFallback 0 s = irq CLK_PAGE 5 (raise 0x0403 ((List.range 3).foldl rcStart
      ({ s with clk := { s.clk with fallback := true } }.wrg (Reg.CLK_PLL_CEIL 0 0) (w32 201000)))) := by
  rw [rcFallback, hready, hfall, hon]
  rfl

theorem rcFallback_starts {s : State} (hready : s.clk.xoReady = false) (hfall : s.clk.fallback = false) (hon : clocksOn s = true) :
    (rcFallback 0 s).clk.fallback = true ∧ ∀ n < 3, (pllOf (rcFallback 0 s) n).act.ref = 1 ∧ (pllOf (rcFallback 0 s) n).st = 1 := by
  have hfold := fun u (hu : u.clk.fallback = true) => foldl_plls (f := rcStart) (Inv := fun t => t.clk.fallback = true) (p := pllOf u)
    (R := fun _ q => q.act.ref = 1 ∧ q.st = 1) (l := List.range 3) List.nodup_range (fun t n _ hf _ => by
      have hone := startRelock_full n ⟨1, 4, fallbackN n, 0, (shadowSet t n).ss,
        if n = 0 then (List.range 4).map fun k => (true, 0, fallbackD k) else (shadowSet t n).outs⟩ false t
      rw [rcStart, noBadLand]
      exact ⟨by rw [hone.clk]; exact hf, fun m hm => hone.other hm, by rw [hone.self]; exact ⟨rfl, rfl⟩⟩) (s := u) hu fun _ _ => rfl
  obtain ⟨hkeep, -, hstarts⟩ := hfold ({ s with clk := { s.clk with fallback := true } }.wrg (Reg.CLK_PLL_CEIL 0 0) (w32 201000)) rfl
  rw [rcFallback_eq hready hfall hon]
  refine ⟨by simp only [irq_frame, raise_frame, hkeep], fun n hn => ?_⟩
  rw [pllOf_irq, pllOf_raise]
  exact hstarts n (List.mem_range.mpr hn)

theorem xo32Fail_reports {s : State} (hoff : s.mode ≠ .off) (hhold : s.mode ≠ .hold) (hhib : s.mode ≠ .hibernate) (hrc : s.clk.rc32 = false) :
    xo32Fail s = irq CLK_PAGE 6 (raise 0x0404 { s with clk := { s.clk with rc32 := true } }) := by
  have hpowered : ¬ (s.mode = .off ∨ s.clk.rc32 = true) := by rw [hrc]; exact not_or.mpr ⟨hoff, Bool.false_ne_true⟩
  rw [xo32Fail, if_neg hpowered]
  dsimp only
  split
  case h_1 hm => exact absurd hm hhold
  case h_2 hm => exact absurd hm hhib
  case h_3 => rfl

/-- Settles O44: what a reference's loss, return, start, absence, and XO32's failure do to the PLLs. -/
theorem referencesComplete : Obligations.ReferencesComplete := fun s =>
  ⟨fun ref slips => ⟨_, rfl, refLost_coasts ref slips s⟩, fun _ _ h => ⟨_, rfl, refRestored_back h⟩,
    fun hready hon => ⟨_, rfl, xoReady_starts hready hon⟩, fun hready hfall hon => ⟨_, rfl, rcFallback_starts hready hfall hon⟩,
    fun hoff hhold hhib hrc => congrArg Host.Outcome.next (xo32Fail_reports hoff hhold hhib hrc)⟩

end Sys2Proof.Machine
end

section
/-!
PROOFS. The time base and the watchdogs (R409 to R422): ticks, captures, steering, compare channels; kicks, warnings and expiries.
-/

namespace Sys2Proof.Machine

open Sys2Proof

/-! ### A 64-bit register -/

theorem State.rg64_wrg64_self (s : State) (k n : Nat) : (s.wrg64 k n).rg64 k = n % 2 ^ 64 := by
  rw [State.rg64, State.wrg64, State.rg_wrg_ne _ _ (by omega), State.rg_wrg_self, State.rg_wrg_self, w32, w32, BitVec.toNat_ofNat, BitVec.toNat_ofNat]
  omega

theorem State.rg64_of_regs {s t : State} (h : t.regs = s.regs) (k : Nat) : t.rg64 k = s.rg64 k := by
  simp only [State.rg64, State.rg, h]

/-! ### Ticks (R409, R412) -/

theorem wdgAdvance_regs (n : Nat) (s : State) (k : Nat) : (wdgAdvance n s k).regs = s.regs := by
  unfold wdgAdvance
  split <;> rfl

theorem wdgAdvance_frac (n : Nat) (s : State) (k : Nat) : (wdgAdvance n s k).tim.frac = s.tim.frac := by
  unfold wdgAdvance
  split <;> rfl

/-- A compare value written leaves TIM_NOW, whose register stands below those of the channels. -/
theorem applyCompares_now (s : State) : (applyCompares s).now = s.now ∧ (applyCompares s).tim.frac = s.tim.frac := by
  have hlow : ∀ c : Nat, Reg.TIM_NOW < Reg.TIM_CMP c ∧ Reg.TIM_NOW + 4 < Reg.TIM_CMP c := fun c => by
    unfold Reg.TIM_NOW Reg.TIM_CMP
    omega
  have hfold : ∀ (l : List (Nat × BitVec 64)) (t : State), (l.foldl (fun s c => s.wrg64 (Reg.TIM_CMP c.1) c.2.toNat) t).now = t.now
      ∧ (l.foldl (fun s c => s.wrg64 (Reg.TIM_CMP c.1) c.2.toNat) t).tim = t.tim := fun l => by
    induction l with
    | nil => exact fun _ => ⟨rfl, rfl⟩
    | cons c l ih =>
      intro t
      obtain ⟨hnow, htim⟩ := ih (t.wrg64 (Reg.TIM_CMP c.1) c.2.toNat)
      have hc := hlow c.1
      refine ⟨hnow.trans ?_, htim.trans (by simp only [State.wrg64_frame])⟩
      rw [State.now, State.now, State.rg64, State.rg64, State.rg_wrg64_ne _ _ (by omega) (by omega), State.rg_wrg64_ne _ _ (by omega) (by omega)]
  obtain ⟨hnow, htim⟩ := hfold s.tim.cmpNext s
  exact ⟨hnow, show (s.tim.cmpNext.foldl _ s).tim.frac = s.tim.frac from congrArg Tim.frac htim⟩

/-- What a tick has done before what waits for a time of its own. -/
def ticked (s : State) : State :=
  let u := applyCompares (advanceNow s)
  let d := u.now - s.now
  let u := (List.range 24).foldl (wdgAdvance d) u
  let u := if activeMode u then { u with ovl := { u.ovl with activeNs := u.ovl.activeNs + d } } else u
  if u.mode = .nap ∨ u.mode = .hibernate then u else { u with ram := { u.ram with scrubAge := u.ram.scrubAge.map (· + d) } }

theorem tick_eq {s : State} (h : timeRuns s = true) :
    tick s = quesDue (rebuildDue (suspendsDue (restoreDue (basDue (patDue (ticked s)))))) := if_neg (by rw [h]; decide)

theorem ticked_time {s : State} {n : Nat} (hn : n = ((s.now * 2 ^ 32 + s.tim.frac : Int) + increment s).toNat) :
    (ticked s).now = n / 2 ^ 32 % 2 ^ 64 ∧ (ticked s).tim.frac = n % 2 ^ 32 := by
  subst hn
  obtain ⟨hnow, hfrac⟩ := applyCompares_now (advanceNow s)
  have hfold : ∀ d u, ((List.range 24).foldl (wdgAdvance d) u).now = u.now ∧ ((List.range 24).foldl (wdgAdvance d) u).tim.frac = u.tim.frac :=
    fun d u => List.foldlRecOn (motive := fun t : State => t.now = u.now ∧ t.tim.frac = u.tim.frac) _ _ ⟨rfl, rfl⟩ fun t ht k _ =>
      ⟨(State.rg64_of_regs (wdgAdvance_regs d t k) _).trans ht.1, (wdgAdvance_frac d t k).trans ht.2⟩
  have hkeep : (ticked s).now = (applyCompares (advanceNow s)).now ∧ (ticked s).tim.frac = (applyCompares (advanceNow s)).tim.frac := by
    unfold ticked
    dsimp only
    split <;> split <;> exact hfold _ _
  have hself : (advanceNow s).now = ((s.now * 2 ^ 32 + s.tim.frac : Int) + increment s).toNat / 2 ^ 32 % 2 ^ 64 :=
    State.rg64_wrg64_self s Reg.TIM_NOW _
  exact ⟨hkeep.1.trans (hnow.trans hself), hkeep.2.trans hfrac⟩

theorem steer_regs (s : State) : (steer s).regs = s.regs := by
  unfold steer
  dsimp only
  split <;> rfl

theorem aonTick_counts {s : State} (hon : s.mode ≠ .off) : (aonTick s).rg64 Reg.TIM_AON = (s.rg64 Reg.TIM_AON + 1) % 2 ^ 48 := by
  rw [aonTick, if_neg hon, State.rg64_of_regs (wdgAdvance_regs _ _ _), State.rg64_of_regs (steer_regs _), State.rg64_wrg64_self]
  omega

/-! ### Captures (R410) -/

theorem regFetch_free {i : Initiator} {off : Nat} {s u : State} {v : Word} (hsends : sends s i = true) (hbar : hostBarred s i = false)
    (hway : wayFree i 1 (0x60000000 + off) 4 s = true) (hread : pageGet i off 4 s = (u, .okay, v.toNat)) :
    regFetch i off s = u.answer .okay [w64 v.toNat] := by
  rw [regFetch, hsends, if_neg (by decide), onWay_free _ hway]
  simp only [hbar, hread, Bool.false_eq_true, if_false, failSeen, if_true]

theorem pageGet_nowLow {i : Initiator} {s : State} (h : heldWord s (panelFor s i) Reg.TIM_NOW = none) :
    pageGet i 0x5040 4 s = ((readNowLow i s).1, .okay, (w32 s.now).toNat) := by
  have hpage : pageOf (0x5040 / 0x1000) = some .tim := rfl
  have hread : regRead i Reg.TIM_NOW s = ((readNowLow i s).1, .okay, w32 s.now) := by
    simp only [regRead, show pageOf (Reg.TIM_NOW / 0x1000) = some .tim from rfl, h, if_true]
    rfl
  simp only [pageGet, hpage, show regRead i 0x5040 s = _ from hread]
  rfl

theorem pageGet_nowHigh {i : Initiator} {s : State} (h : heldWord s (panelFor s i) (Reg.TIM_NOW + 4) = none) :
    pageGet i 0x5044 4 s = (s, .okay, (readNowHigh i s).toNat) := by
  have hpage : pageOf (0x5044 / 0x1000) = some .tim := rfl
  have hread : regRead i 0x5044 s = (s, .okay, readNowHigh i s) := by
    simp only [regRead, hpage, show heldWord s (panelFor s i) 0x5044 = none from h]
    rfl
  simp only [pageGet, hpage, hread]
  rfl

theorem readNowHigh_captured (i : Initiator) (s : State) : readNowHigh i (readNowLow i s).1 = w32 (s.now / 2 ^ 32) := sget_sset_self _ _ _ _

/-! ### Compare channels (R416, R417) -/

theorem regCmd_cmpHigh {a : Acc} {k : Nat} {v : Word} {s : State} (hk : k < 64) (h : regFree a (0x5104 + k * 0x10) s = true) :
    regCmd a (0x5104 + k * 0x10) v s = regDone (cmpHighWrite k v s) := by
  have hoff : 0x5104 + k * 0x10 = 5 * 0x1000 + (0x104 + k * 0x10) := by omega
  rw [hoff] at h ⊢
  refine regCmd_at (k := .tim) rfl (by omega) (by omega) h ?_
  have hrange : 0x100 ≤ 0x104 + k * 0x10 ∧ 0x104 + k * 0x10 < 0x500 := by omega
  have hchannel : (0x104 + k * 0x10 - 0x100) / 0x10 = k := by omega
  have hreg : (0x104 + k * 0x10 - 0x100) % 0x10 = 4 := by omega
  simp only [blockWrite, timWrite]
  rw [if_pos hrange, hchannel, hreg]
  rfl

theorem cmpMatch_once {k : Nat} {s t : State} (hwas : s.tim.cmpWas = []) (hen : s.rb (Reg.TIM_CMP_CTL k) 31 = true) (hruns : timeRuns s = true)
    (hdue : s.rg64 (Reg.TIM_CMP k) ≤ s.now) (hirq : s.rb (Reg.TIM_CMP_CTL k) 29 = false) (hper : s.rg (Reg.TIM_CMP_PER k) = 0)
    (ht : t = (event (0x1040 + k) s).wb (Reg.TIM_CMP_HIT (k / 32)) (k % 32) true) (hwas' : t.tim.cmpWas = []) :
    cmpMatch k s = { t with tim := { t.tim with cmpWas := [] } }.wb (Reg.TIM_CMP_CTL k) 31 false := by
  have hacts : cmpActs s k = (s.rg (Reg.TIM_CMP_CTL k), s.rg (Reg.TIM_CMP_PER k)) := by rw [cmpActs, hwas]; rfl
  have hen' : bit (s.rg (Reg.TIM_CMP_CTL k)) 31 = true := hen
  have hirq' : bit (s.rg (Reg.TIM_CMP_CTL k)) 29 = false := hirq
  have hzero : (0 : Word).toNat = 0 := rfl
  simp only [cmpMatch, hacts, hen', hirq', hruns, hdue, hper, hzero, hwas, List.any_nil, and_self, if_true, Bool.false_eq_true, if_false, ← ht, hwas',
    List.map_nil]

/-- Settles O45: the two kinds of tick, the reads of TIM_NOW, the end of the steering, and a compare channel. -/
theorem timeBaseComplete : Obligations.TimeBaseComplete := by
  refine fun s => ⟨fun n hruns hn => ⟨ticked s, ?_, ticked_time hn⟩, fun hon => ⟨_, rfl, aonTick_counts hon⟩,
    fun init hsends hbar hway hheld => ⟨_, congrArg Host.Outcome.next (regFetch_free hsends hbar hway (pageGet_nowLow hheld)), rfl,
      readNowHigh_captured init s⟩,
    fun init hsends hbar hway hheld => congrArg Host.Outcome.next (regFetch_free hsends hbar hway (pageGet_nowHigh hheld)),
    fun hsteer hsource hdiff => congrArg Host.Outcome.next (if_pos ⟨hsteer, hsource, hdiff⟩), fun a channel value lo hfree hlo => ?_,
    fun channel t hwas hen hruns hdue hirq hper ht hwas' =>
      congrArg Host.Outcome.next (cmpMatch_once hwas hen hruns hdue hirq hper ht hwas')⟩
  · exact congrArg (fun u => Host.Outcome.next (settled (padClockEdge s.now (replayAbandoned (hstScan (fabricRun u)))))) (tick_eq hruns)
  · subst hlo
    exact congrArg Host.Outcome.next (regCmd_cmpHigh channel.isLt hfree)

/-! ### Kicks and warnings (R419, R420) -/

theorem wdgKick_restarts {k : Nat} {s : State} (hen : wdgEn s k = true) (hdue : wdgDue s k = false) : wdgKick k s = wdgRestart k s :=
  if_pos (by rw [hen, hdue]; rfl)

theorem wdgDue_early {k : Nat} {s : State} (h : (wdgOf s k).used < (wdgOf s k).timeout) : wdgDue s k = false := by
  rw [wdgDue, decide_eq_false (Nat.not_le.mpr h), Bool.and_false]

theorem sysKick_restarts {s : State} (hcounts : wdgCounts s 24 = true) (hlive : (wdgOf s 24).used < (wdgOf s 24).timeout)
    (hopen : s.rf Reg.WDG_SYS_CFG 28 3 * (wdgOf s 24).timeout ≤ (wdgOf s 24).used * 8) : sysKick 0xA55A s = wdgRestart 24 s := by
  have hearly : ¬ (wdgOf s 24).used * 8 < s.rf Reg.WDG_SYS_CFG 28 3 * (wdgOf s 24).timeout := Nat.not_lt.mpr hopen
  simp only [sysKick, hcounts, wdgDue_early hlive, hearly, Bool.not_true, Bool.false_eq_true, or_self, if_false, ne_eq, not_true_eq_false,
    decide_false]

theorem sysKick_wrong {v : Word} {s : State} (hcounts : wdgCounts s 24 = true) (hlive : (wdgOf s 24).used < (wdgOf s 24).timeout) (hv : v ≠ 0xA55A) :
    sysKick v s = askReset 4 0 (raise 0x0604 (setWdg 24 { wdgOf s 24 with stopped := true } s)) := by
  simp only [sysKick, hcounts, wdgDue_early hlive, hv, Bool.not_true, Bool.false_eq_true, or_self, if_false, ne_eq, not_false_eq_true, true_or,
    if_true]

/-- The word of WDG_SYS_CFG with EN: nothing of it is masked off. -/
theorem sysCfg_fields (window : BitVec 3) (timeout : BitVec 9) :
    let v := w32 (2 ^ 31 + window.toNat * 2 ^ 28 + timeout.toNat)
    fld v 0 9 = timeout.toNat ∧ bit v 31 = true ∧ v &&& 0xF00001FF = v := by
  have hw := window.isLt
  have ht := timeout.isLt
  have hv : (w32 (2 ^ 31 + window.toNat * 2 ^ 28 + timeout.toNat)).toNat = 2 ^ 31 + window.toNat * 2 ^ 28 + timeout.toNat := by
    rw [w32, BitVec.toNat_ofNat]
    omega
  refine ⟨?_, ?_, ?_⟩
  · rw [fld, hv, Nat.shiftRight_zero]
    omega
  · rw [bit, hv, Nat.testBit_eq_decide_div_mod_eq]
    exact decide_eq_true (by omega)
  · have hones : ∀ j : Fin 32, (j.val < 9 ∨ 28 ≤ j.val) → (0xF00001FF : Word).getLsbD j.val = true := by decide
    refine BitVec.eq_of_getLsbD_eq fun j hj => ?_
    rw [BitVec.getLsbD_and]
    by_cases hmid : 9 ≤ j ∧ j < 28
    · have hzero : (w32 (2 ^ 31 + window.toNat * 2 ^ 28 + timeout.toNat)).getLsbD j = false := by
        rw [BitVec.getLsbD, hv, show 2 ^ 31 + window.toNat * 2 ^ 28 + timeout.toNat = 2 ^ 28 * (8 + window.toNat) + timeout.toNat by omega,
          Nat.testBit_two_pow_mul_add _ (by omega), if_pos hmid.2]
        exact Nat.testBit_lt_two_pow (Nat.lt_of_lt_of_le ht (Nat.pow_le_pow_right (by decide) hmid.1))
      rw [hzero, Bool.false_and]
    · rw [hones ⟨j, hj⟩ (by dsimp only; omega), Bool.and_true]

theorem sysCfgWrite_enables {window : BitVec 3} {timeout : BitVec 9} {s : State} (hen : wdgEn s 24 = false) (hlow : 1 ≤ timeout.toNat)
    (hhigh : timeout.toNat ≤ 256) : sysCfgWrite (w32 (2 ^ 31 + window.toNat * 2 ^ 28 + timeout.toNat)) s
      = (wdgRestart 24 (s.wrg Reg.WDG_SYS_CFG (w32 (2 ^ 31 + window.toNat * 2 ^ 28 + timeout.toNat))), true) := by
  obtain ⟨htimeout, hbit, hmask⟩ := sysCfg_fields window timeout
  have hrange : ¬ (timeout.toNat = 0 ∨ 256 < timeout.toNat) := by omega
  simp only [sysCfgWrite, hen, htimeout, hrange, hbit, hmask, Bool.false_eq_true, if_false, if_true]

theorem wdgWarn_warns {k : Nat} {s : State} (hcounts : wdgCounts s k = true) (hwarned : (wdgOf s k).warned = false)
    (hdue : 7 * (wdgOf s k).timeout ≤ 8 * (wdgOf s k).used) :
    wdgWarn k s = irq WDG_PAGE (if k < 16 then 0 else if k < 24 then 2 else 4) (setWdg k { wdgOf s k with warned := true } s) :=
  if_pos (by rw [hcounts, hwarned, decide_eq_true hdue]; rfl)

theorem regCmd_wdg {a : Acc} {o : Nat} {v : Word} {s u : State} (hlow : 0x40 ≤ o) (hhigh : o < 0x1000) (h : regFree a (6 * 0x1000 + o) s = true)
    (hu : wdgWrite a.init (accPanel a s) o v s = some (u, .okay)) : regCmd a (6 * 0x1000 + o) v s = regDone u :=
  regCmd_at (k := .wdg) rfl hlow hhigh h hu

/-! ### Expiries (R419, R421, R422) -/

section
variable {s : State} {k : Nat}

/-- The thread on each core that has one. -/
def threadsOn (s : State) : List (Nat × Nat) := (List.range 16).filterMap fun c => (coreOf s c).thread.map fun t => (c, t)

theorem threadsOn_find {n : Nat} (hk : k < 16) (hthread : (coreOf s k).thread = some n) : (threadsOn s).find? (·.1 == k) = some (k, n) := by
  have hfirst : (List.range 16).find? (fun c => ((coreOf s c).thread.map fun t => (c, t)).any (·.1 == k)) = some k := by
    refine List.find?_range_eq_some.mpr ⟨?_, List.mem_range.mpr hk, fun j hj => ?_⟩
    · rw [hthread, Option.map_some, Option.any_some, beq_self_eq_true]
    · cases (coreOf s j).thread with
      | none => rfl
      | some t => rw [Option.map_some, Option.any_some, beq_false_of_ne (Nat.ne_of_lt hj), Bool.not_false]
  rw [threadsOn, List.find?_filterMap, hfirst, Option.bind_some, hthread, Option.map_some]

/-- A watchdog that asks for a module reset as it expires (R421, R422). -/
def wdgResets (s : State) (k : Nat) : Bool := k == 24 || (decide (16 ≤ k) && wdgAction s k == 3)

/-- The actions of expired watchdogs of which none resets the module: SAFE, panel resets, isolation, CANCEL (R422). -/
def wdgActs (threads : List (Nat × Nat)) (due : List Nat) (s : State) : State :=
  let panels := due.filter fun k => 16 ≤ k ∧ k < 24
  let s := (panels.filter fun k => wdgAction s k == 2).foldl (fun s _ => raiseSafe 0x0605 s) s
  let s := (panels.filter fun k => wdgAction s k == 1).foldl (fun s k => panelReset (k - 16) s) s
  let acts := (due.filter (· < 16)).map fun k => (k, wdgAction s k)
  let s := ((acts.filter (·.2 == 2)).map fun a => a.1 / 4).eraseDups.foldl (fun s k => isolateCluster k s) s
  ((acts.filter (·.2 == 1)).map (·.1)).foldl (wdgCancel threads) s

theorem wdgExpire_acts {l : List Nat} (h : (l.filter (wdgDue s)).find? (wdgResets ((l.filter (wdgDue s)).foldl wdgReport s)) = none) :
    wdgExpire l s = wdgActs (threadsOn s) (l.filter (wdgDue s)) ((l.filter (wdgDue s)).foldl wdgReport s) := by
  unfold wdgResets at h
  simp only [wdgExpire, h]
  rfl

/-- A single watchdog that expires, and does not reset the module. -/
theorem wdgExpire_single (hdue : wdgDue s k = true) (hreset : wdgResets (wdgReport s k) k = false) :
    wdgExpire [k] s = wdgActs (threadsOn s) [k] (wdgReport s k) := by
  have hfilter : [k].filter (wdgDue s) = [k] := List.filter_cons_of_pos hdue
  have h := wdgExpire_acts (s := s) (l := [k]) (by rw [hfilter, List.foldl_cons, List.foldl_nil, List.find?_singleton, hreset]; rfl)
  rwa [hfilter] at h

theorem wdgActs_core {threads : List (Nat × Nat)} {t : State} (hk : k < 16) (hact : wdgAction t k ≠ 2) :
    wdgActs threads [k] t = if wdgAction t k = 1 then wdgCancel threads t k else t := by
  have hpanels : [k].filter (fun k => decide (16 ≤ k ∧ k < 24)) = [] := List.filter_cons_of_neg (by simpa using fun h => absurd hk (by omega))
  have hcores : [k].filter (fun k => decide (k < 16)) = [k] := List.filter_cons_of_pos (by simpa using hk)
  have htwo : (wdgAction t k == 2) = false := beq_false_of_ne hact
  simp only [wdgActs, hpanels, hcores, List.filter_nil, List.foldl_nil, List.map_cons, List.map_nil, List.filter_cons, htwo, Bool.false_eq_true,
    if_false, List.eraseDups_nil, beq_iff_eq]
  split <;> simp only [List.map_cons, List.map_nil, List.foldl_cons, List.foldl_nil]

theorem wdgActs_panel {threads : List (Nat × Nat)} {t : State} (hk : 16 ≤ k) (hlow : k < 24) (hact : wdgAction t k ≠ 2) :
    wdgActs threads [k] t = ([k].filter fun k => wdgAction t k == 1).foldl (fun s k => panelReset (k - 16) s) t := by
  have hpanels : [k].filter (fun k => decide (16 ≤ k ∧ k < 24)) = [k] := List.filter_cons_of_pos (by simpa using ⟨hk, hlow⟩)
  have hcores : [k].filter (fun k => decide (k < 16)) = [] := List.filter_cons_of_neg (by simpa using hk)
  have hsafe : [k].filter (fun k => wdgAction t k == 2) = [] := List.filter_cons_of_neg (by simpa using hact)
  unfold wdgActs
  dsimp only
  rw [hpanels, hcores, hsafe]
  rfl

theorem wdgResets_core {t : State} (hk : k < 16) : wdgResets t k = false := by
  have hne : (k == 24) = false := beq_false_of_ne (by omega)
  have hnot : ¬ 16 ≤ k := by omega
  simp only [wdgResets, hne, hnot, decide_false, Bool.false_and, Bool.or_self]

theorem wdgResets_panel {t : State} (hlow : k < 24) (hact : wdgAction t k ≠ 3) : wdgResets t k = false := by
  have hne : (k == 24) = false := beq_false_of_ne (by omega)
  simp only [wdgResets, hne, beq_false_of_ne hact, Bool.and_false, Bool.or_self]

/-- Of the watchdogs that reset the module the system's comes before the panels'. -/
theorem wdgExpire_reset {l : List Nat} {j : Nat}
    (h : (l.filter (wdgDue s)).find? (wdgResets ((l.filter (wdgDue s)).foldl wdgReport s)) = some j) :
    wdgExpire l s = if (l.filter (wdgDue s)).contains 24 then askReset 2 0 ((l.filter (wdgDue s)).foldl wdgReport s)
      else askReset 3 (j - 16) ((l.filter (wdgDue s)).foldl wdgReport s) := by
  unfold wdgResets at h
  simp only [wdgExpire, h]

theorem wdgExpire_system {l : List Nat} (hdue : wdgDue s 24 = true) :
    wdgExpire (24 :: l) s = askReset 2 0 (((24 :: l).filter (wdgDue s)).foldl wdgReport s) := by
  have hfilter : (24 :: l).filter (wdgDue s) = 24 :: l.filter (wdgDue s) := List.filter_cons_of_pos hdue
  have hresets : ∀ t : State, wdgResets t 24 = true := fun t => Bool.or_eq_true_iff.mpr (.inl rfl)
  have hcontains : ((24 :: l).filter (wdgDue s)).contains 24 = true := by rw [hfilter, List.contains_cons, beq_self_eq_true, Bool.true_or]
  have hfind : ((24 :: l).filter (wdgDue s)).find? (wdgResets (((24 :: l).filter (wdgDue s)).foldl wdgReport s)) = some 24 := by
    rw [hfilter]
    exact List.find?_cons_of_pos (hresets _)
  rw [wdgExpire_reset hfind, if_pos hcontains]

end

/-- Settles O46: the kicks through the WDG page, the warning, and each expiry with its ACTION. -/
theorem watchdogsComplete : Obligations.WatchdogsComplete := by
  refine ⟨fun s => ⟨fun core value env hfree hen hdue => ?_, fun a value hfree hen hdue => ?_, fun a hfree hcounts hlive hopen => ?_,
      fun a value hfree hcounts hlive hv => ?_, fun a window timeout hfree hen hlow hhigh => ?_, fun watchdog hcounts hwarned hdue => ?_⟩,
    fun s => ⟨fun core t hdue ht h0 => ?_, fun core t n hdue ht h1 hthread => ?_, fun panel t hdue ht h0 => ?_, fun panel t hdue ht h1 => ?_,
      fun others hdue => ?_, fun cause panel hreset => ?_⟩⟩
  · refine congrArg Host.Outcome.next (regCmd_wdg (o := 0x40) (by decide) (by decide) hfree ?_)
    rw [← wdgKick_restarts hen hdue]
    rfl
  · refine congrArg Host.Outcome.next (regCmd_wdg (o := 0x64) (by decide) (by decide) hfree ?_)
    rw [← wdgKick_restarts hen hdue]
    rfl
  · refine congrArg Host.Outcome.next (regCmd_wdg (o := 0x48) (by decide) (by decide) hfree ?_)
    rw [← sysKick_restarts hcounts hlive hopen]
    rfl
  · refine congrArg Host.Outcome.next (regCmd_wdg (o := 0x48) (by decide) (by decide) hfree ?_)
    rw [← sysKick_wrong hcounts hlive hv]
    rfl
  · refine congrArg Host.Outcome.next (regCmd_wdg (o := 0x44) (by decide) (by decide) hfree ?_)
    simp only [wdgWrite, sysCfgWrite_enables hen hlow hhigh, okIf, if_true]
    rfl
  · exact congrArg Host.Outcome.next (wdgWarn_warns hcounts hwarned hdue)
  · subst ht
    refine congrArg (fun u => Host.Outcome.next (settled u)) ((wdgExpire_single hdue (wdgResets_core core.isLt)).trans ?_)
    rw [wdgActs_core core.isLt (by rw [h0]; decide), h0, if_neg (by decide)]
  · subst ht
    refine congrArg (fun u => Host.Outcome.next (settled u)) ((wdgExpire_single hdue (wdgResets_core core.isLt)).trans ?_)
    rw [wdgActs_core core.isLt (by rw [h1]; decide), h1, if_pos rfl, wdgCancel, threadsOn_find core.isLt hthread]
  · subst ht
    have hlow : 16 + panel.val < 24 := by omega
    refine congrArg (fun u => Host.Outcome.next (settled u)) ((wdgExpire_single hdue (wdgResets_panel hlow (by rw [h0]; decide))).trans ?_)
    rw [wdgActs_panel (Nat.le_add_right _ _) hlow (by rw [h0]; decide), List.filter_cons_of_neg (by rw [h0]; decide)]
    rfl
  · subst ht
    have hlow : 16 + panel.val < 24 := by omega
    refine congrArg (fun u => Host.Outcome.next (settled u)) ((wdgExpire_single hdue (wdgResets_panel hlow (by rw [h1]; decide))).trans ?_)
    rw [wdgActs_panel (Nat.le_add_right _ _) hlow (by rw [h1]; decide), List.filter_cons_of_pos (by rw [h1]; decide), List.filter_nil,
      List.foldl_cons, List.foldl_nil, Nat.add_sub_cancel_left]
  · exact congrArg (fun u => Host.Outcome.next (settled u)) (wdgExpire_system hdue)
  · exact congrArg (fun u => Host.Outcome.next (settled u)) (by rw [moduleReset, hreset])

end Sys2Proof.Machine
end

section
/-!
PROOFS. The power monitors (R428 to R445), the requests of AON_MODE_REQ (R453), and the entry to NAP, whose command does one thing more than
its steps: the level conditions that stand as NAP is entered wake it (R338).
-/

namespace Sys2Proof.Machine

open Sys2Proof

/-! ### The flags and the sample of the power monitor (R428 to R430, R444, R445) -/

section
variable {s : State} {k : Nat}

/-- A mode in which the input monitors work (R428, R430). -/
theorem overvolt_on (hoff : s.mode ≠ .off) (hhib : s.mode ≠ .hibernate) : overvolt s = pwrFlag 28 2 true s := by
  unfold overvolt
  split
  · exact absurd ‹_› hoff
  · exact absurd ‹_› hhib
  · rfl

theorem vholdOk_on (ok : Bool) (hoff : s.mode ≠ .off) (hhib : s.mode ≠ .hibernate) : vholdOk ok s = pwrFlag 29 0 ok s := by
  unfold vholdOk
  split
  · exact absurd ‹_› hoff
  · exact absurd ‹_› hhib
  · rfl

theorem pwrFlag_rises {b : Nat} (n : Nat) (h : s.rb pwrStat b = false) : pwrFlag b n true s = irq PWR_PAGE n (s.wb pwrStat b true) := by
  rw [pwrFlag, h]
  rfl

theorem pwrFlag_falls (b n : Nat) (s : State) : pwrFlag b n false s = s.wb pwrStat b false := rfl

theorem pwrFlag_pwr (b n : Nat) (on : Bool) (s : State) : (pwrFlag b n on s).pwr = s.pwr := by
  unfold pwrFlag
  split
  · rw [(irq_frame ..).2.2.2.2.2.2.2.2.2.2.2.2.2.2.2.2.2.2.2.2.2.2.2.1]; rfl
  · rfl

theorem rg_pwrFlag_ne (b n : Nat) (on : Bool) (s : State) (hstat : k ≠ pwrStat) (hirq : k ≠ irqRaw PWR_PAGE) :
    (pwrFlag b n on s).rg k = s.rg k := by
  unfold pwrFlag
  split
  · rw [rg_irq_ne _ _ hirq, State.wb, State.rg_wf_ne _ _ _ _ hstat]
  · rw [State.wb, State.rg_wf_ne _ _ _ _ hstat]

/-- A sample notes since when the average is beyond the limit, and clears OVER_BUDGET. -/
theorem budgetSide_cases (avg : Nat) (s : State) :
    ∃ x, budgetSide avg s = { s with pwr := { s.pwr with overAt := x } }
      ∨ budgetSide avg s = { s.wb pwrStat 26 false with pwr := { s.pwr with overAt := none } } := by
  unfold budgetSide
  dsimp only
  generalize (if (if s.rb pwrStat 26 = true then decide (avg < budget s) else decide (budget s < avg)) = true
    then some (s.pwr.overAt.getD s.now) else none) = x
  cases x with
  | none => exact ⟨none, .inl rfl⟩
  | some t =>
    refine (ite_eq_or_eq _ _ _).elim (fun hclears => ⟨none, .inr (hclears.trans rfl)⟩) fun hstays => ⟨some t, .inl hstays⟩

theorem rg_budgetSide_ne (avg : Nat) (s : State) (hstat : k ≠ pwrStat) : (budgetSide avg s).rg k = s.rg k := by
  obtain ⟨x, h | h⟩ := budgetSide_cases avg s <;> rw [h, State.rg_withPwr]
  rw [State.wb, State.rg_wf_ne _ _ _ _ hstat]

theorem budgetSide_powers (avg : Nat) (s : State) : (budgetSide avg s).pwr.powers = s.pwr.powers := by
  obtain ⟨x, h | h⟩ := budgetSide_cases avg s <;> rw [h]

/-- A field of a word that is given as a number. -/
theorem fld_w32 (n lo len : Nat) : fld (w32 n) lo len = n % 2 ^ 32 / 2 ^ lo % 2 ^ len := by
  rw [fld, w32, BitVec.toNat_ofNat, Nat.shiftRight_eq_div_pow]

/-- What a sample reads and keeps, before it judges: the readings, OVERVOLT and ILIMIT, the power of the sample. -/
def sampleRead (vin vhold iin core : Nat) (limiting : Bool) (s : State) : State :=
  let s := (s.wrg Reg.PWR_VIN (w32 (vhold % 65536 * 65536 + vin % 65536))).wrg Reg.PWR_IIN (w32 (iin % 65536))
  let s := s.wrg Reg.PWR_CORE (w32 (core % 8192))
  let s := pwrFlag 27 3 limiting (if vin < 8000 then s.wb pwrStat 28 false else s)
  { s with pwr := { s.pwr with powers := (vin * iin / 100 :: s.pwr.powers).take 100 } }

/-- What a sample then judges: the average, the headroom, the side of the limit. -/
def sampleJudge (s : State) : State :=
  let avg := powerAvg s
  let s := (s.wf Reg.PWR_PIN 0 16 (min avg 65535)).wf Reg.PWR_PIN 16 16 (max (s.rf Reg.PWR_PIN 16 16) (min avg 65535))
  let head := budget s - avg
  budgetSide avg (pwrFlag 25 4 (decide (head < 2000)) (s.wrg Reg.PWR_HEADROOM (w32 head)))

theorem powerSample_run (vin vhold iin core : Nat) (limiting : Bool) (h : s.mode = .run) :
    powerSample vin vhold iin core limiting s = sampleJudge (sampleRead vin vhold iin core limiting s) := by
  unfold powerSample
  rw [h]
  rfl

/-- The judgement writes PWR_PIN, PWR_HEADROOM, STATUS and the interrupt source only. -/
theorem rg_sampleJudge_ne (s : State) (hpin : k ≠ Reg.PWR_PIN) (hhead : k ≠ Reg.PWR_HEADROOM) (hstat : k ≠ pwrStat)
    (hirq : k ≠ irqRaw PWR_PAGE) : (sampleJudge s).rg k = s.rg k := by
  unfold sampleJudge
  rw [rg_budgetSide_ne _ _ hstat, rg_pwrFlag_ne _ _ _ _ hstat hirq, State.rg_wrg_ne _ _ hhead, State.rg_wf_ne _ _ _ _ hpin,
    State.rg_wf_ne _ _ _ _ hpin]

theorem sampleJudge_powers (s : State) : (sampleJudge s).pwr.powers = s.pwr.powers := by
  unfold sampleJudge
  rw [budgetSide_powers, pwrFlag_pwr]
  rfl

theorem rg_clearOvervolt_ne (vin : Nat) (s : State) (hstat : k ≠ pwrStat) :
    (if vin < 8000 then s.wb pwrStat 28 false else s).rg k = s.rg k := by
  split
  · exact State.rg_wf_ne _ _ _ _ hstat
  · rfl

theorem rg_sampleRead_ne (vin vhold iin core : Nat) (limiting : Bool) (s : State) (hstat : k ≠ pwrStat) (hirq : k ≠ irqRaw PWR_PAGE) :
    (sampleRead vin vhold iin core limiting s).rg k
      = (((s.wrg Reg.PWR_VIN (w32 (vhold % 65536 * 65536 + vin % 65536))).wrg Reg.PWR_IIN (w32 (iin % 65536))).wrg Reg.PWR_CORE
          (w32 (core % 8192))).rg k := by
  unfold sampleRead
  dsimp only
  rw [State.rg_withPwr, rg_pwrFlag_ne _ _ _ _ hstat hirq, rg_clearOvervolt_ne _ _ hstat]

theorem sampleRead_powers (vin vhold iin core : Nat) (limiting : Bool) (s : State) :
    (sampleRead vin vhold iin core limiting s).pwr.powers = (vin * iin / 100 :: s.pwr.powers).take 100 := by
  unfold sampleRead
  dsimp only
  rw [pwrFlag_pwr]
  split <;> rfl

/-- The readings of a sample, as the registers show them. -/
theorem powerSample_reads (vin vhold iin core : Nat) (limiting : Bool) (h : s.mode = .run) :
    (powerSample vin vhold iin core limiting s).rg Reg.PWR_VIN = w32 (vhold % 65536 * 65536 + vin % 65536)
    ∧ (powerSample vin vhold iin core limiting s).rg Reg.PWR_IIN = w32 (iin % 65536)
    ∧ (powerSample vin vhold iin core limiting s).rg Reg.PWR_CORE = w32 (core % 8192) := by
  rw [powerSample_run _ _ _ _ _ h]
  refine ⟨?_, ?_, ?_⟩
  · rw [rg_sampleJudge_ne _ (by decide) (by decide) (by decide) (by decide), rg_sampleRead_ne _ _ _ _ _ _ (by decide) (by decide),
      State.rg_wrg_ne _ _ (by decide), State.rg_wrg_ne _ _ (by decide), State.rg_wrg_self]
  · rw [rg_sampleJudge_ne _ (by decide) (by decide) (by decide) (by decide), rg_sampleRead_ne _ _ _ _ _ _ (by decide) (by decide),
      State.rg_wrg_ne _ _ (by decide), State.rg_wrg_self]
  · rw [rg_sampleJudge_ne _ (by decide) (by decide) (by decide) (by decide), rg_sampleRead_ne _ _ _ _ _ _ (by decide) (by decide),
      State.rg_wrg_self]

theorem phaseAdd_acts {current : Nat} (hm : s.mode = .run) (hshed : s.rb Reg.PWR_CFG 8 = true) (hlow : phases s < phasesFor current) :
    phaseAdd current s = setPhases (phasesFor current) s := by
  unfold phaseAdd
  rw [hm]
  exact if_pos ⟨hshed, hlow⟩

theorem phaseShed_acts {current : Nat} (hm : s.mode = .run) (hshed : s.rb Reg.PWR_CFG 8 = true) (hmin : phasesMin s < phases s)
    (hlow : phasesFor (current + 200) < phases s) : phaseShed current s = setPhases (phases s - 1) s := by
  unfold phaseShed
  rw [hm]
  exact if_pos ⟨hshed, hmin, hlow⟩

theorem overBudget_acts {t : Nat} (hover : s.pwr.overAt = some t) (hflag : s.rb pwrStat 26 = false) (hlong : t + 10000000 ≤ s.now) :
    overBudget s = raise 0x0303 (irq PWR_PAGE 1 ({ s with pwr := { s.pwr with overAt := none } }.wb pwrStat 26 true)) := by
  unfold overBudget
  rw [hover]
  refine (if_pos ⟨by rw [hflag]; rfl, hlong⟩).trans (congrArg (raise 0x0303) ?_)
  exact pwrFlag_rises 1 hflag

end

/-- Settles O48: each flag of the input, the phases, what a sample keeps, the budget. -/
theorem powerMonitorsComplete : Obligations.PowerMonitorsComplete := by
  refine fun s => ⟨fun hoff hhib hflag => ?_, fun hoff hhib hflag => ?_, fun hoff hhib => ?_, fun t ht => ⟨fun hflag => ?_, ?_⟩,
    fun current hm hshed hlow => ?_, fun current hm hshed hmin hlow => ?_, fun vin vhold iin core limiting hm => ?_,
    fun t hover hflag hlong => ?_⟩
  · exact congrArg Host.Outcome.next ((overvolt_on hoff hhib).trans (pwrFlag_rises 2 hflag))
  · exact congrArg Host.Outcome.next ((vholdOk_on true hoff hhib).trans (pwrFlag_rises 0 hflag))
  · exact congrArg Host.Outcome.next ((vholdOk_on false hoff hhib).trans (pwrFlag_falls 29 0 s))
  · refine congrArg Host.Outcome.next ((if_neg ?_).trans rfl)
    rw [ht, hflag]
    exact fun hc => hc.elim (fun h => Bool.noConfusion h) fun h => Bool.noConfusion h.2
  · refine congrArg Host.Outcome.next ((if_neg ?_).trans rfl)
    rw [ht]
    exact fun hc => hc.elim (fun h => Bool.noConfusion h) fun h => Bool.noConfusion h.1
  · exact congrArg Host.Outcome.next (phaseAdd_acts hm hshed hlow)
  · exact congrArg Host.Outcome.next (phaseShed_acts hm hshed hmin hlow)
  · obtain ⟨hvin, hiin, hcore⟩ := powerSample_reads vin vhold iin core limiting hm
    refine ⟨powerSample vin vhold iin core limiting s, rfl, ?_, ?_, ?_, ?_, ?_⟩
    · rw [State.rf, hvin, fld_w32]
      omega
    · rw [State.rf, hvin, fld_w32]
      omega
    · rw [State.rf, hiin, fld_w32]
      omega
    · rw [State.rf, hcore, fld_w32]
      omega
    · rw [powerSample_run _ _ _ _ _ hm, sampleJudge_powers, sampleRead_powers]
  · exact congrArg Host.Outcome.next (overBudget_acts hover hflag hlong)

/-! ### The requests of AON_MODE_REQ (R453) -/

section
variable {s : State} {target : Nat}

/-- A write of AON_MODE_REQ that nothing bars. -/
theorem regCmd_modeReq {a : Acc} (v : Word) (h : regFree a 0x2040 s = true) : regCmd a 0x2040 v s = regDone (modeReq (fld v 0 4) s) :=
  regCmd_at (i := 2) (o := 0x40) (k := .aon) rfl (by decide) (by decide) h rfl

theorem sleepReq_accepted (hreq : s.pwr.req = none) (hentry : s.pwr.entry = none) (hm : s.mode = .run ∨ s.mode = .swap)
    (hhib : target = 8 → saveValid s = true ∧ hibArmed s = true) :
    sleepReq target s = modeAnswer target 1 { s with pwr := { s.pwr with req := some target } } := by
  unfold sleepReq
  rw [if_neg (by rw [hreq, hentry]; decide), if_neg (by rintro ⟨hrun, hswap⟩; exact hm.elim hrun hswap),
    if_neg (by rintro ⟨h8, hvalid⟩; rw [(hhib h8).1] at hvalid; exact Bool.noConfusion hvalid),
    if_neg (by rintro ⟨h8, harmed⟩; rw [(hhib h8).2] at harmed; exact Bool.noConfusion harmed)]

theorem safeReq_enters (hm : s.mode = .run ∨ s.mode = .service ∨ s.mode = .swap) : safeReq s = modeAnswer 0xA 2 (raiseSafe 0x0203 s) := by
  unfold safeReq
  obtain h | h | h := hm <;> rw [h]

theorem cancelReq_cancels (hreq : s.pwr.req = some target) :
    cancelReq s = modeAnswer 4 3 { s with pwr := { s.pwr with req := none } } := by
  rw [cancelReq, hreq, Option.isSome_some, if_pos rfl]

end

/-- Settles O49: each request is a write of AON_MODE_REQ, whose checks let it pass. -/
theorem modeRequestsComplete : Obligations.ModeRequestsComplete := by
  intro a s hfree
  refine ⟨fun hreq hentry hm => ⟨?_, ?_⟩, fun hreq hentry hm hvalid harmed => ?_, fun hm => ?_, fun target hreq => ?_⟩
  · refine congrArg Host.Outcome.next ((regCmd_modeReq 6 hfree).trans ?_)
    rw [← sleepReq_accepted hreq hentry hm (fun h => absurd h (by decide))]
    rfl
  · refine congrArg Host.Outcome.next ((regCmd_modeReq 7 hfree).trans ?_)
    rw [← sleepReq_accepted hreq hentry hm (fun h => absurd h (by decide))]
    rfl
  · refine congrArg Host.Outcome.next ((regCmd_modeReq 8 hfree).trans ?_)
    rw [← sleepReq_accepted hreq hentry hm (fun _ => ⟨hvalid, harmed⟩)]
    rfl
  · refine congrArg Host.Outcome.next ((regCmd_modeReq 10 hfree).trans ?_)
    rw [← safeReq_enters hm]
    rfl
  · refine congrArg Host.Outcome.next ((regCmd_modeReq 4 hfree).trans ?_)
    rw [← cancelReq_cancels hreq]
    rfl

/-! ### NAP entered with a level condition standing (R338) -/

section
variable {s : State} {n : Nat}

/-- The pins after a change to each: a pin of the module is changed once. -/
theorem sget_foldl_update {α : Type} [DecidableEq α] (d : Nat → α) (f : Nat → α → α) {l : List Nat} (hl : l.Nodup) (hn : n ∈ l)
    (m : List (Nat × α)) : sget d (l.foldl (fun m k => sset d m k (f k (sget d m k))) m) n = f n (sget d m n) := by
  have hother : ∀ (l : List Nat), n ∉ l → ∀ m, sget d (l.foldl (fun m k => sset d m k (f k (sget d m k))) m) n = sget d m n := fun l hout m =>
    List.foldlRecOn (motive := fun m' : List (Nat × α) => sget d m' n = sget d m n) _ _ rfl fun m' hm' k hk => by
      rw [sget_sset_ne _ _ _ fun hc : n = k => hout (hc ▸ hk), hm']
  induction l generalizing m with
  | nil => exact absurd hn List.not_mem_nil
  | cons k l ih =>
    obtain ⟨hk, hl⟩ := List.nodup_cons.mp hl
    rw [List.foldl_cons]
    obtain rfl | hn := List.mem_cons.mp hn
    · rw [hother l hk, sget_sset_self]
    · rw [ih hl hn, sget_sset_ne _ _ _ fun hc : n = k => hk (hc ▸ hn)]

theorem pinOf_updPins (f : Nat → Pin → Pin) (hn : n < 480) : pinOf (updPins (fun _ => true) f s) n = f n (pinOf s n) := by
  simp only [pinOf, updPins, if_true]
  exact sget_foldl_update (fun _ => Pin.reset) f List.nodup_range (List.mem_range.mpr hn) s.pins

theorem pinOf_captureNap (hn : n < 480) : pinOf (captureNap s) n = { pinOf s n with nap := some (padDrive s n) } := by
  rw [captureNap, pinOf_updPins _ hn]

/-- NAP entry up to the capture of the pads. -/
def napReady (s : State) : State :=
  let v := drainCores (cutOperations (flashNap (pleatNap (armLatch 7 s))))
  timeCapture { v with
    ram := { v.ram with selfRefresh := true }
    pwr := { v.pwr with alarms := cmpAlarms s ++ deadlineAlarms s ++ commitAlarms s ++ tteAlarms s ++ wakeAtAlarms s } }

theorem napEntry_enters (hrun : s.mode = .run) (hreq : s.pwr.req = some 7) (hcores : coresHalted s = true) (hwaits : napWaits s = false) :
    napEntry s = entered .nap (setPhases 1 (dllsStop (fun _ => true) (captureNap (napReady s)))) :=
  if_pos ⟨hrun, hreq, hcores, by rw [hwaits]; rfl⟩

theorem dllsStop_pins (which : Nat → Bool) (s : State) : (dllsStop which s).pins = s.pins := by
  unfold dllsStop
  dsimp only
  split
  · simp only [irq_frame]
  · rfl

theorem setPhases_pins (n : Nat) (s : State) : (setPhases n s).pins = s.pins := by simp only [setPhases, State.wf_frame]

theorem entered_pins (m : Mode) (s : State) : (entered m s).pins = s.pins := rfl

/-- In NAP a pad that was not driven takes the board's level. -/
theorem padLevel_board {b : Bool} (hnap : s.mode = .nap) (hpin : (pinOf s n).nap = some .off) (hboard : (pinOf s n).board = some b)
    (hlive : bankLive s (n / 40) = true) : padLevel s n = b := by
  have hdrive : driveAt s s.now n = .off := by
    rw [driveAt, hnap, hpin]
    split <;> rfl
  rw [padLevel, levelAt, hdrive, hlive, hboard]
  rfl

end

/-- A module in RUN that is asked for NAP: bank 0 is good, and pin 0 waits for a low level, which the board holds. -/
def levelState : State :=
  ({ State.reset with
      mode := .run, optRec := List.replicate 9 0x33, banks := [(0, { Bank.reset with good := true })]
      pins := [(0, { Pin.reset with board := some false })]
      pwr := { Pwr.reset with req := some 7 } }.wrg (cfgReg 0) (w32 (5 * 2 ^ 20))).wrg (Reg.PIN_INT_EN 0) 1

theorem levelState_enters :
    levelState.mode = .run ∧ levelState.pwr.req = some 7 ∧ coresHalted levelState = true ∧ napWaits levelState = false := by
  decide +kernel

theorem levelState_ready : padDrive (napReady levelState) 0 = .off ∧ (pinOf (napReady levelState) 0).board = some false := by
  decide +kernel

/-- As NAP is entered nothing is latched, and nothing else follows. -/
theorem levelState_latch :
    (napEntry levelState).pwr.latch = [] ∧ (napEntry levelState).pwr.latching = true ∧ (napEntry levelState).pwr.wakeHeld = false
    ∧ (napEntry levelState).fab.tports = [] ∧ (napEntry levelState).fab.linkUp = 0 := by
  decide +kernel

/-- Pin 0 is a wake source for a low level. -/
theorem levelState_source :
    (napEntry levelState).mode = .nap ∧ bankLive (napEntry levelState) 0 = true ∧ canWake (napEntry levelState) 0xC 0 = true
    ∧ (napEntry levelState).rf (cfgReg 0) 20 3 = 5 := by
  decide +kernel

theorem levelState_low : padLevel (napEntry levelState) 0 = false := by
  obtain ⟨hrun, hreq, hcores, hwaits⟩ := levelState_enters
  obtain ⟨hdrive, hboard⟩ := levelState_ready
  obtain ⟨hmode, hlive, -, -⟩ := levelState_source
  have hpins : (napEntry levelState).pins = (captureNap (napReady levelState)).pins := by
    rw [napEntry_enters hrun hreq hcores hwaits, entered_pins, setPhases_pins, dllsStop_pins]
  have hpin : pinOf (napEntry levelState) 0 = { pinOf (napReady levelState) 0 with nap := some .off } := by
    rw [← hdrive, ← pinOf_captureNap (by decide), pinOf, hpins, pinOf]
  exact padLevel_board hmode (by rw [hpin]) (by rw [hpin, hboard]) hlive

/-- A latched event stays, and so does all that is not the latch and its registers. -/
theorem latchWake_latched (w : Wake) (s : State) : (latchWake w s).pwr.latch ≠ [] ∧ (latchWake w s).mode = s.mode ∧ (latchWake w s).fab = s.fab := by
  unfold latchWake
  dsimp only
  split
  case isTrue h => exact ⟨fun hnil => by rw [hnil] at h; exact Bool.noConfusion h, by trivial, by trivial⟩
  case isFalse =>
    refine ⟨List.append_ne_nil_of_right_ne_nil _ (List.cons_ne_nil _ _), ?_, ?_⟩ <;> split <;>
      simp only [State.wb_frame, State.wrg64_frame, State.wrg_frame]

/-- One pin of `napLevels`. -/
def napLevel (s : State) (n : Nat) : State :=
  if 4 ≤ s.rf (cfgReg n) 20 3 ∧ latchSets (s.rf (cfgReg n) 20 3) (padLevel s n) (padLevel s n) then wakeEvent 0xC n s else s

theorem napLevel_cases (s : State) (n : Nat) : napLevel s n = s ∨ napLevel s n = latchWake (0xC, n) s := by
  unfold napLevel wakeEvent
  split
  · split
    · exact .inr rfl
    · exact .inl rfl
  · exact .inl rfl

theorem napLevel_stands {s : State} {n : Nat} (hlow : s.rf (cfgReg n) 20 3 = 5) (hpad : padLevel s n = false) (hopen : s.pwr.latching = true)
    (hheld : s.pwr.wakeHeld = false) (hcan : canWake s 0xC n = true) : napLevel s n = latchWake (0xC, n) s := by
  unfold napLevel wakeEvent
  rw [hlow, hpad, hopen, hheld, hcan]
  rfl

/-- Pin 0 comes first, and what it latches stays. -/
theorem napLevels_latched {s : State} (h : napLevel s 0 = latchWake (0xC, 0) s) :
    (napLevels s).pwr.latch ≠ [] ∧ (napLevels s).mode = s.mode ∧ (napLevels s).fab = s.fab := by
  have hfold : napLevels s = allPins.foldl napLevel s := rfl
  have hpins : allPins = 0 :: (List.range 479).map (· + 1) := List.range_succ_eq_map
  rw [hfold, hpins, List.foldl_cons, h]
  refine List.foldlRecOn (motive := fun t : State => t.pwr.latch ≠ [] ∧ t.mode = s.mode ∧ t.fab = s.fab) _ _ (latchWake_latched _ s) ?_
  rintro t ⟨hlatch, hmode, hfab⟩ n -
  obtain hs | hs := napLevel_cases t n <;> rw [hs]
  · exact ⟨hlatch, hmode, hfab⟩
  · obtain ⟨hl, hm, hf⟩ := latchWake_latched (0xC, n) t
    exact ⟨hl, hm.trans hmode, hf.trans hfab⟩

/-- With no thread port waiting, no link up and no life-cycle step ending, nothing follows. -/
theorem settled_quiet {s : State} (hports : s.fab.tports = []) (hlinks : s.fab.linkUp = 0) (hm : s.mode ≠ .transit) : settled s = s := by
  have hstay : transitSettles s = s := if_neg fun hc => hm hc.1
  have hdrop : ∀ p, ppDrop p s = s := fun p => by
    rw [ppDrop, hlinks]
    exact if_neg fun hc => by simp at hc
  rw [settled, hstay, isolationSettles, tportIsolated, hports, List.foldl_nil]
  exact List.foldlRecOn (motive := fun t : State => t = s) _ _ rfl fun t ht p _ => by rw [ht, hdrop]

/-- Refutes O50: a pin whose level condition stands as NAP is entered is latched by the same command, so its state is not the one the steps of
the entry end in. -/
theorem not_sleepEntriesComplete : ¬ Obligations.SleepEntriesComplete := by
  intro h
  obtain ⟨hrun, hreq, hcores, hwaits⟩ := levelState_enters
  obtain ⟨hempty, hopen, hheld, hports, hlinks⟩ := levelState_latch
  obtain ⟨hmode, -, hcan, hlow⟩ := levelState_source
  have hentry := napEntry_enters hrun hreq hcores hwaits
  obtain ⟨hnext, -⟩ := (h levelState _ hrun).2.1 _ hreq hcores hwaits rfl rfl
  replace hnext := hnext.trans (congrArg (fun u => Host.Outcome.next (settled u)) hentry.symm)
  have hexec : exec .napEntry levelState = .next (settled (napLevels (napEntry levelState))) := by
    have hif : (if (napEntry levelState).mode = .nap ∧ levelState.mode ≠ .nap then napLevels (napEntry levelState) else napEntry levelState)
        = napLevels (napEntry levelState) := if_pos ⟨hmode, by rw [hrun]; decide⟩
    exact congrArg (fun u => Host.Outcome.next (settled u)) hif
  obtain ⟨hlatch, hmode', hfab'⟩ := napLevels_latched (napLevel_stands hlow levelState_low hopen hheld hcan)
  rw [hexec, settled_quiet (by rw [hfab', hports]) (by rw [hfab', hlinks]) (by rw [hmode', hmode]; decide),
    settled_quiet hports hlinks (by rw [hmode]; decide)] at hnext
  injection hnext with hsame
  rw [hsame] at hlatch
  exact hlatch hempty

end Sys2Proof.Machine
end

section
/-!
PROOFS. The wakes from DOZE, NAP and HIBERNATE and their sources (R455 to R466).
-/

namespace Sys2Proof.Machine

open Sys2Proof

/-! ### What NAP's wake leaves of the memories (R456) -/

theorem timeRebuild_ram (s : State) : (timeRebuild s).ram = s.ram := by
  unfold timeRebuild
  split
  · rfl
  · simp only [irq_frame, State.wrg64_frame]

theorem pleatWake_ram (s : State) : (pleatWake s).ram = s.ram := by
  unfold pleatWake
  refine List.foldlRecOn (motive := fun t : State => t.ram = s.ram) _ _ rfl fun t ht g _ => ?_
  dsimp only
  split
  · simp only [setGroup_frame, ht]
  · exact ht

theorem resumeBank_ram (b : Nat) (s : State) : (resumeBank b s).ram = s.ram := by
  unfold resumeBank
  dsimp only
  split
  · simp only [setFbank_frame]
  · split
    · simp only [setFbank_frame]
    · split
      · simp only [setFbank_frame]
      · rfl

theorem flashNapWake_ram (s : State) : (flashNapWake s).ram = s.ram :=
  List.foldlRecOn (motive := fun t : State => t.ram = s.ram) _ _ rfl fun t ht b _ => (resumeBank_ram b t).trans ht

theorem wdgWake_ram (s : State) : (wdgWake s).ram = s.ram := by
  unfold wdgWake
  refine List.foldlRecOn (motive := fun t : State => t.ram = s.ram) _ _ rfl fun t ht k _ => ?_
  split
  · simp only [wdgRestart, setWdg_frame, ht]
  · exact ht

theorem dropNap_ram (s : State) : (dropNap s).ram = s.ram := by rw [dropNap, updPins]

theorem queWake_ram (s : State) : (queWake s).ram = s.ram := rfl

theorem ovlWake_ram (s : State) : (ovlWake s).ram = s.ram := rfl

section
variable {s : State}

/-! ### The wakes (R455, R456, R461, R462) -/

theorem isEmpty_latch (h : s.pwr.latch ≠ []) : s.pwr.latch.isEmpty = false := by
  rw [List.isEmpty_eq_false_iff]
  exact h

theorem dozeWake_latched (hm : s.mode = .doze) (h : s.pwr.latch ≠ []) : dozeWake s = settle (replay (irq AON_PAGE 0 (wakeTo s))) := by
  unfold dozeWake
  rw [if_neg (not_not_intro hm), isEmpty_latch h]
  dsimp only
  rw [isEmpty_latch h]
  rfl

theorem dozeWake_event {core : Nat} (hm : s.mode = .doze) (h : s.pwr.latch = []) (hcore : coreEvent s = some core) :
    dozeWake s = settle (replay (irq AON_PAGE 0 (wakeTo (latchWake (1, core) s)))) := by
  unfold dozeWake
  rw [if_neg (not_not_intro hm), h, hcore]
  dsimp only [List.isEmpty_nil]
  rw [isEmpty_latch (latchWake_latched (1, core) s).1]
  rfl

/-- The steps of a wake from NAP, up to the mode. -/
def napSteps (s : State) : State :=
  let v := setPhases (phasesNow s) s
  queWake (dropNap (wdgWake (flashNapWake (pleatWake (timeRebuild (ovlWake { v with ram := { v.ram with selfRefresh := false } }))))))

theorem napSteps_selfRefresh (s : State) : (napSteps s).ram.selfRefresh = false := by
  unfold napSteps
  dsimp only
  rw [queWake_ram, dropNap_ram, wdgWake_ram, flashNapWake_ram, pleatWake_ram, timeRebuild_ram, ovlWake_ram]

theorem napWake_latched (hm : s.mode = .nap) (h : s.pwr.latch ≠ []) :
    napWake s = settle (replay (irq AON_PAGE 0 ((wakeTo (napSteps s)).incSat Reg.AON_WAKE_CNT 0 16))) := by
  unfold napWake
  rw [if_neg (by rw [isEmpty_latch h]; exact fun hc => hc.elim (not_not_intro hm) Bool.noConfusion)]
  rfl

/-- A wake from HIBERNATE up to the plane it loads. -/
def hibRead (e : StartEnv) (s : State) : State :=
  lcRead (replayScan (steerBegin (timeRebuild (takeSamples e.readings e.vdd (fltRestart (banksUp e.banks
    (railsGood { s with pwr := { s.pwr with wakeTries := 0 } })))))))

/-- The plane it loads, and whether there is one. -/
def hibLoad (e : StartEnv) (v : State) : State × Bool :=
  if isRaw v.lcs.st || isLockedTest v.lcs.st then (setMode .load v, true) else loadDecision e.candFails e.hemFails v

/-- Clocks, memories and the time of Fitting, once the plane stands. -/
def hibMemories (e : StartEnv) (v r : State) : State :=
  let w := wdgWake (memWake v.pwr.retained (clocksUp e r))
  { w with fit := { w.fit with began := w.now } }

/-- The outcome of a wake from HIBERNATE by the plane and the clocks. -/
def hibOutcome (e : StartEnv) (found : Bool) (x : State) : State :=
  if !found then replay (bobRestore e.saveOk (startFails x))
  else if coreClocks (bobRestore e.saveOk (regionsIn x)) then hibArrive (bobRestore e.saveOk (regionsIn x))
  else { bobRestore e.saveOk (regionsIn x) with pwr := { (bobRestore e.saveOk (regionsIn x)).pwr with runDue := some true } }

theorem hibernateWake_latched (e : StartEnv) (hm : s.mode = .hibernate) (h : s.pwr.latch ≠ []) (hheld : s.pwr.wakeHeld = false)
    (hvin : s.pwr.vin = true) :
    hibernateWake e s = hibOutcome e (hibLoad e (hibRead e s)).2 (hibMemories e (hibRead e s) (hibLoad e (hibRead e s)).1) := by
  have hwakes : ¬ (s.mode ≠ .hibernate ∨ s.pwr.latch.isEmpty = true ∨ s.pwr.wakeHeld = true ∨ (!s.pwr.vin) = true) := by
    rw [isEmpty_latch h, hheld, hvin]
    rintro (hc | hc | hc | hc)
    · exact hc hm
    all_goals exact Bool.noConfusion hc
  unfold hibernateWake
  rw [if_neg hwakes]
  rfl

theorem hibOutcome_fails (e : StartEnv) (x : State) : hibOutcome e false x = replay (bobRestore e.saveOk (startFails x)) := if_pos rfl

theorem hibOutcome_arrives (e : StartEnv) (x : State) (h : coreClocks (bobRestore e.saveOk (regionsIn x)) = true) :
    hibOutcome e true x = hibArrive (bobRestore e.saveOk (regionsIn x)) := (if_neg Bool.noConfusion).trans (if_pos h)

theorem hibOutcome_waits (e : StartEnv) (x : State) (h : coreClocks (bobRestore e.saveOk (regionsIn x)) = false) :
    hibOutcome e true x
      = { bobRestore e.saveOk (regionsIn x) with pwr := { (bobRestore e.saveOk (regionsIn x)).pwr with runDue := some true } } :=
  (if_neg Bool.noConfusion).trans (if_neg (by rw [h]; exact Bool.noConfusion))

theorem wakeRetry_latched (rail : Fin 3) (hm : s.mode = .hibernate) (h : s.pwr.latch ≠ []) (hheld : s.pwr.wakeHeld = false) :
    wakeRetry rail s = if s.pwr.wakeTries + 1 < 4 then { s with pwr := { s.pwr with wakeTries := s.pwr.wakeTries + 1 } }
      else { s.wrg Reg.AON_WAKE_FAIL (w32 (2 ^ 31 + 4 * 2 ^ 8 + rail.val)) with
        pwr := { s.pwr with wakeTries := s.pwr.wakeTries + 1, wakeHeld := true, failDue := true } } := by
  have hwakes : ¬ (s.mode ≠ .hibernate ∨ s.pwr.latch.isEmpty = true ∨ s.pwr.wakeHeld = true) := by
    rw [isEmpty_latch h, hheld]
    rintro (hc | hc | hc)
    · exact hc hm
    all_goals exact Bool.noConfusion hc
  unfold wakeRetry
  rw [if_neg hwakes]
  rfl

/-! ### The wake sources (R457, R458, R466) -/

theorem wakeEvent_latches {code idx : Nat} (hopen : s.pwr.latching = true) (hheld : s.pwr.wakeHeld = false) (hcan : canWake s code idx = true) :
    wakeEvent code idx s = latchWake (code, idx) s := if_pos ⟨hopen, by rw [hheld]; rfl, hcan⟩

theorem wakeEvent_ignored {code idx : Nat} (h : s.pwr.latching = false ∨ s.pwr.wakeHeld = true ∨ canWake s code idx = false) :
    wakeEvent code idx s = s := by
  refine if_neg ?_
  rintro ⟨hopen, hheld, hcan⟩
  obtain hc | hc | hc := h
  · exact Bool.noConfusion (hopen.symm.trans hc)
  · rw [hc] at hheld
    exact Bool.noConfusion hheld
  · exact Bool.noConfusion (hcan.symm.trans hc)

theorem timedWake_doze (hm : s.mode = .doze) (hon : wakeAtOn s = true) (hdue : s.rg64 Reg.AON_WAKE_AT ≤ s.now + 2000) :
    timedWake s = latchWake (8, 0) s := by
  unfold timedWake
  rw [hm]
  exact if_pos ⟨hon, hdue⟩

/-- The targets that the next always-on edge would be too late for. -/
theorem timedWake_asleep (hm : s.mode = .nap ∨ s.mode = .hibernate) (hheld : s.pwr.wakeHeld = false) :
    timedWake s = (s.pwr.alarms.filter fun a => decide (a.2.2 < leadOf s.mode.code + sleepNow s)).foldl
      (fun s a => latchWake (a.1, a.2.1) s) s := by
  have hopen : ¬ s.pwr.wakeHeld = true := by rw [hheld]; exact Bool.noConfusion
  unfold timedWake
  obtain h | h := hm
  · rw [h]
    exact if_neg hopen
  · rw [h]
    exact if_neg hopen

theorem wakeAtReached_due (hon : wakeAtOn s = true) (hdue : s.rg64 Reg.AON_WAKE_AT ≤ edgeNow s) :
    wakeAtReached s = if (s.wb Reg.AON_WAKE_AT_CTL 0 false).mode = .run then irq AON_PAGE 5 (s.wb Reg.AON_WAKE_AT_CTL 0 false)
      else s.wb Reg.AON_WAKE_AT_CTL 0 false := if_pos ⟨hon, hdue⟩

end

/-- Settles O51: each wake by the steps it runs, each source by what it finds armed. -/
theorem wakesAndSourcesComplete : Obligations.WakesAndSourcesComplete := by
  refine ⟨fun s => ⟨fun hm hlatch => ?_, fun core hm hlatch hcore => ?_, fun v w hm hlatch hv hw => ?_,
      fun env v r w x y hm hlatch hheld hvin hv hr hw hx hy => ⟨fun hfound => ?_, fun hfound hclocks => ?_, fun hfound hclocks => ?_⟩,
      fun rail hm hlatch hheld => ⟨fun htries => ?_, fun htries => ?_⟩⟩,
    fun s => ⟨fun code idx hopen hheld hcan => ?_, fun code idx h => ?_, fun hm hon hdue => ?_, fun hm hheld => ?_,
      fun t hon hdue ht => ⟨fun hm => ?_, fun hm => ?_, ?_⟩⟩⟩
  · exact congrArg (fun u => Host.Outcome.next (settled u)) (dozeWake_latched hm hlatch)
  · exact congrArg (fun u => Host.Outcome.next (settled u)) (dozeWake_event hm hlatch hcore)
  · have hsteps : w = napSteps s := by rw [hw, hv, napSteps]
    subst hsteps
    exact ⟨congrArg (fun u => Host.Outcome.next (settled (heldGo u))) (napWake_latched hm hlatch), napSteps_selfRefresh s⟩
  · have hmem : x = hibMemories env (hibRead env s) (hibLoad env (hibRead env s)).1 := by rw [hx, hw, hr, hv]; rfl
    have hload : (hibLoad env (hibRead env s)).2 = false := by rw [← hfound, hr, hv]; rfl
    refine congrArg (fun u => Host.Outcome.next (settled u)) ((hibernateWake_latched env hm hlatch hheld hvin).trans ?_)
    rw [hload, hibOutcome_fails, hmem]
  · have hmem : x = hibMemories env (hibRead env s) (hibLoad env (hibRead env s)).1 := by rw [hx, hw, hr, hv]; rfl
    have hload : (hibLoad env (hibRead env s)).2 = true := by rw [← hfound, hr, hv]; rfl
    refine congrArg (fun u => Host.Outcome.next (settled u)) ((hibernateWake_latched env hm hlatch hheld hvin).trans ?_)
    rw [hload, ← hmem, hibOutcome_arrives env x (by rw [← hy, hclocks]), ← hy]
  · have hmem : x = hibMemories env (hibRead env s) (hibLoad env (hibRead env s)).1 := by rw [hx, hw, hr, hv]; rfl
    have hload : (hibLoad env (hibRead env s)).2 = true := by rw [← hfound, hr, hv]; rfl
    refine congrArg (fun u => Host.Outcome.next (settled u)) ((hibernateWake_latched env hm hlatch hheld hvin).trans ?_)
    rw [hload, ← hmem, hibOutcome_waits env x (by rw [← hy, hclocks]), ← hy]
  · exact congrArg (fun u => Host.Outcome.next (settled u)) ((wakeRetry_latched rail hm hlatch hheld).trans (if_pos (by omega)))
  · exact congrArg (fun u => Host.Outcome.next (settled u)) ((wakeRetry_latched rail hm hlatch hheld).trans (if_neg (by omega)))
  · exact congrArg Host.Outcome.next (wakeEvent_latches hopen hheld hcan)
  · exact congrArg Host.Outcome.next (wakeEvent_ignored h)
  · exact congrArg (fun u => Host.Outcome.next (settled u)) (timedWake_doze hm hon hdue)
  · exact congrArg (fun u => Host.Outcome.next (settled u)) (timedWake_asleep hm hheld)
  · subst ht
    exact congrArg Host.Outcome.next ((wakeAtReached_due hon hdue).trans (if_pos hm))
  · subst ht
    exact congrArg Host.Outcome.next ((wakeAtReached_due hon hdue).trans (if_neg hm))
  · rw [ht, State.rb_wb _ _ _ (by decide), if_pos rfl]

end Sys2Proof.Machine
end

section
/-!
PROOFS. The commands of Thimble (R471) and of the enrolment store (R478 to R480).
-/

namespace Sys2Proof.Machine

open Sys2Proof

section
variable {s : State}

/-! ### Thimble (R471) -/

/-- A write of THM_CMD that nothing bars. -/
theorem regCmd_thm {a : Acc} (v : Word) (h : regFree a 0x48060 s = true) :
    regCmd a 0x48060 v s = regDone (thmCmd v a.env.otpBad a.env.contested s) :=
  regCmd_at (i := 0x48) (o := 0x60) (k := .thm) rfl (by decide) (by decide) h rfl

/-- The fields of THM_CMD. -/
theorem thmCmd_fields {op slot : Nat} (hop : op < 16) (hslot : slot < 16) :
    fld (w32 (op + 256 * slot)) 0 4 = op ∧ fld (w32 (op + 256 * slot)) 8 4 = slot := by
  rw [fld_w32, fld_w32]
  omega

/-- A command whose result is known ends with it in THM_RESULT. -/
theorem regCmd_thmRun {a : Acc} {op slot code : Nat} {t : State} (h : regFree a 0x48060 s = true) (hop : op < 16) (hslot : slot < 16)
    (hrun : thmRun op slot a.env.otpBad a.env.contested s = (t, code)) :
    regCmd a 0x48060 (w32 (op + 256 * slot)) s = regDone (irq THM_PAGE 0 (t.wrg Reg.THM_RESULT (w32 code))) := by
  obtain ⟨h0, h8⟩ := thmCmd_fields hop hslot
  rw [regCmd_thm _ h, thmCmd, h0, h8, hrun]

/-- A check that passes is gone through. -/
theorem ite_not_of_true {α : Type} {c : Bool} (h : c = true) (x y : α) : (if (!c) = true then x else y) = y :=
  if_neg (by rw [h]; exact Bool.noConfusion)

theorem ite_of_false {α : Type} {c : Bool} (h : c = false) (x y : α) : (if c = true then x else y) = y :=
  if_neg (by rw [h]; exact Bool.noConfusion)

theorem thmRun_progSign {slot : Nat} (contested : Bool) (howner : lcOwner s = true) (hslot : slot ≠ 0) (hblock : blockIn (thmArg s) 48 = true)
    (hfree : (signOf s slot).programmed = false) :
    thmRun 1 slot false contested s
      = (setSign slot ⟨true, false, BitVec.ofNat 384 (leNat (unitRead (thmArg s) 48 s).2)⟩ (unitRead (thmArg s) 48 s).1, 1) := by
  unfold thmRun
  dsimp only
  rw [ite_not_of_true howner, if_neg hslot, ite_not_of_true hblock, ite_of_false hfree]
  rfl

theorem thmRun_revokeSign {slot : Nat} (contested : Bool) (howner : lcOwner s = true)
    (hrest : ((List.range 16).any fun k => k != slot && (signOf s k).programmed && !(signOf s k).revoked) = true) :
    thmRun 2 slot false contested s = (setSign slot { signOf s slot with revoked := true } s, 1) := by
  unfold thmRun
  dsimp only
  rw [ite_not_of_true howner, ite_not_of_true hrest]
  rfl

/-- A device key programmed from its block, where it opens. -/
def dkeyResult (slot : Nat) (m : State × List Byte) : State × Nat :=
  match unwrapKey m.1 slot m.2 with
  | none => (m.1, 6)
  | some k => (setDkey slot ⟨true, false, k⟩ m.1, 1)

theorem thmRun_progDkey {slot : Nat} (contested : Bool) (howner : lcOwner s = true) (hslot : slot < 8) (hblock : blockIn (thmArg s) 156 = true)
    (hfree : (dkeyOf s slot).programmed = false) :
    thmRun 3 slot false contested s = dkeyResult slot (unitRead (thmArg s) 156 (asymContest contested s)) := by
  unfold thmRun
  dsimp only
  rw [ite_not_of_true howner, if_neg (Nat.not_le_of_lt hslot), ite_not_of_true hblock, ite_of_false hfree]
  rfl

theorem thmRun_revokeDkey {slot : Nat} (contested : Bool) (howner : lcOwner s = true) (hslot : slot < 8) :
    thmRun 4 slot false contested s = (setDkey slot { dkeyOf s slot with revoked := true } s, 1) := by
  unfold thmRun
  exact (ite_not_of_true howner _ _).trans ((if_neg (Nat.not_le_of_lt hslot)).trans (ite_of_false rfl _ _))

theorem thmRun_attest (contested : Bool) (howner : lcOwner s = true) (hblock : blockIn (thmArg s) 144 = true) :
    thmRun 5 0 false contested s = (putBytes (thmArg s + 48)
      ((Config.deviceSign (Config.sha384 (ascii "ATTEST" ++ (unitRead (thmArg s) 48 (asymContest contested s)).2))).take 96)
      (unitRead (thmArg s) 48 (asymContest contested s)).1, 1) := by
  unfold thmRun
  dsimp only
  rw [ite_not_of_true howner, ite_not_of_true hblock]
  rfl

end

/-- Settles O52: each command passes its checks, and THM_RESULT and CMD_DONE follow. -/
theorem thimbleCommandsComplete : Obligations.ThimbleCommandsComplete := by
  intro a s c hfree howner hotp hc
  subst hc
  refine ⟨fun slot m hslot hblock hnew hm => ?_, fun slot hrest => ?_, fun slot m hslot hblock hnew hm => ?_, fun slot hslot => ?_,
    fun m hblock hm => ?_⟩
  · subst hm
    exact congrArg Host.Outcome.next (regCmd_thmRun hfree (by decide) slot.isLt (by
      rw [hotp, thmRun_progSign _ howner hslot hblock hnew]))
  · exact congrArg Host.Outcome.next (regCmd_thmRun hfree (by decide) slot.isLt (by rw [hotp, thmRun_revokeSign _ howner hrest]))
  · subst hm
    refine congrArg Host.Outcome.next ((regCmd_thmRun hfree (by decide) slot.isLt (by
      rw [hotp, thmRun_progDkey _ howner hslot hblock hnew])).trans ?_)
    unfold dkeyResult
    cases unwrapKey _ _ _ <;> rfl
  · exact congrArg Host.Outcome.next (regCmd_thmRun hfree (by decide) slot.isLt (by rw [hotp, thmRun_revokeDkey _ howner hslot]))
  · subst hm
    exact congrArg Host.Outcome.next (regCmd_thmRun (op := 5) (slot := 0) hfree (by decide) (by decide) (by
      rw [hotp, thmRun_attest _ howner hblock]))

section
variable {s : State}

/-! ### The enrolment store (R478 to R480) -/

/-- The fields of SES_ENROL_CMD. -/
theorem enrolCmd_fields {op id : Nat} (hop : op < 16) (hid : id < 1024) :
    fld (w32 (op * 2 ^ 28 + id)) 28 4 = op ∧ fld (w32 (op * 2 ^ 28 + id)) 0 10 = id := by
  rw [fld_w32, fld_w32]
  omega

/-- A write of SES_ENROL_CMD that nothing bars: a command whose result is known ends with it in SES_RESULT. -/
theorem regCmd_enrolRun {a : Acc} {op id code : Nat} {t : State} (h : regFree a 0x41044 s = true) (hop : op < 16) (hid : id < 1024)
    (hrun : enrolRun op id a.env.storeBad s = (t, code)) :
    regCmd a 0x41044 (w32 (op * 2 ^ 28 + id)) s = regDone (irq SES_PAGE 3 (t.wrg Reg.SES_RESULT (w32 code))) := by
  obtain ⟨h28, h0⟩ := enrolCmd_fields hop hid
  have hcmd : regCmd a 0x41044 (w32 (op * 2 ^ 28 + id)) s = regDone (enrolCmd (w32 (op * 2 ^ 28 + id)) a.env.storeBad s) :=
    regCmd_at (i := 0x41) (o := 0x44) (k := .ses) rfl (by decide) (by decide) h rfl
  rw [hcmd, enrolCmd, h28, h0, hrun]

/-- WRITE, where its block lies in user memory. -/
def enrolWritten (id : Nat) (x : Enrol) (m : State × List Byte) : State × Nat :=
  match enrolParse m.2 with
  | none => (m.1, 2)
  | some y => (if x.valid ∧ y.key ≠ x.key then closePartner id (setEnrol id y m.1) else setEnrol id y m.1, 1)

theorem enrolRun_write (id : Nat) (storeBad : Bool) (hblock : blockIn (s.rg64 Reg.SES_ENROL_ADDR % 2 ^ 40) 128 = true) :
    enrolRun 1 id storeBad s = enrolWritten id (enrolOf s id) (unitRead (s.rg64 Reg.SES_ENROL_ADDR % 2 ^ 40) 128 s) := by
  unfold enrolRun
  dsimp only
  rw [if_neg (by decide), if_pos rfl, ite_not_of_true hblock]
  rfl

/-- What ENABLE, DISABLE, ERASE and READ do to a valid entry. -/
def enrolValid (op id : Nat) (s : State) : State × Nat :=
  match op with
  | 2 => (setEnrol id { enrolOf s id with enabled := true } s, 1)
  | 3 => (closePartner id (setEnrol id { enrolOf s id with enabled := false } s), 1)
  | 4 => (closePartner id (setEnrol id { enrolOf s id with valid := false } s), 1)
  | _ => if !blockIn (s.rg64 Reg.SES_ENROL_ADDR % 2 ^ 40) 128 then (s, 3)
    else (putBytes (s.rg64 Reg.SES_ENROL_ADDR % 2 ^ 40) (enrolBytes (enrolOf s id)) s, 1)

theorem enrolValid_read {id : Nat} (hblock : blockIn (s.rg64 Reg.SES_ENROL_ADDR % 2 ^ 40) 128 = true) :
    enrolValid 5 id s = (putBytes (s.rg64 Reg.SES_ENROL_ADDR % 2 ^ 40) (enrolBytes (enrolOf s id)) s, 1) := ite_not_of_true hblock _ _

theorem enrolRun_valid {op id : Nat} (hlow : 2 ≤ op) (hhigh : op ≤ 5) (hvalid : (enrolOf s id).valid = true) :
    enrolRun op id false s = enrolValid op id s := by
  unfold enrolRun
  dsimp only
  rw [if_neg (by omega), if_neg (by omega), if_neg Bool.noConfusion, ite_not_of_true hvalid]
  rfl

end

/-- Settles O53: each command passes its checks, and SES_RESULT and ENROL_DONE follow. -/
theorem enrolmentsComplete : Obligations.EnrolmentsComplete := by
  intro a s entry x addr hfree hstore hx haddr
  subst hx haddr
  refine ⟨fun m hblock hm => ?_, fun hvalid => ⟨?_, ?_, ?_⟩, fun hvalid hblock => ?_⟩
  · subst hm
    refine congrArg Host.Outcome.next ((regCmd_enrolRun hfree (by decide) entry.isLt (enrolRun_write _ _ hblock)).trans ?_)
    cases enrolParse _ <;> rfl
  · exact congrArg Host.Outcome.next (regCmd_enrolRun hfree (by decide) entry.isLt (by
      rw [hstore, enrolRun_valid (by decide) (by decide) hvalid, enrolValid]))
  · exact congrArg Host.Outcome.next (regCmd_enrolRun hfree (by decide) entry.isLt (by
      rw [hstore, enrolRun_valid (by decide) (by decide) hvalid, enrolValid]))
  · exact congrArg Host.Outcome.next (regCmd_enrolRun hfree (by decide) entry.isLt (by
      rw [hstore, enrolRun_valid (by decide) (by decide) hvalid, enrolValid]))
  · exact congrArg Host.Outcome.next (regCmd_enrolRun hfree (by decide) entry.isLt (by
      rw [hstore, enrolRun_valid (by decide) (by decide) hvalid, enrolValid_read hblock]))

end Sys2Proof.Machine
end

section
/-!
PROOFS. The frames of a handshake, its timeouts, and the traffic of an open session (R481 to R490).
-/

namespace Sys2Proof.Machine

open Sys2Proof

section
variable {s t : State} {port : Nat} {l : List Byte}

/-! ### The frames of a handshake (R484, R485) -/

theorem hello_passes (contested : Bool) (htake : takeFrame port s = some (l, t)) (hruns : sesRuns s = true) (htype : ftype l = 1)
    (hlen : l.length = 148) (hlen' : blockNum l 2 2 = 148) (hzero : blockNum l 4 12 = 0) (hzero' : blockNum l 18 2 = 0)
    (hcheck : helloCheck t l = none) : hello port contested s = helloPasses port l (asymContest contested t) := by
  unfold hello
  rw [htake]
  dsimp only
  rw [ite_not_of_true hruns, if_neg (not_not_intro htype), if_neg (by rw [hlen, hlen', hzero, hzero']; decide), hcheck]

/-- The body of OPEN (R485): panel, rights, the longest frame, the idle limit. -/
def openBody (e : Enrol) (c : State) : List Byte :=
  natLe e.panel 1 ++ natLe e.rights 2 ++ natLe 4096 2 ++ natLe (c.rf Reg.SES_CFG 0 16) 2 ++ natLe 0 1

/-- A FINISH that is well formed, by its signature (R483 to R485). -/
def finishJudged (port : Nat) (l : List Byte) (x : Slot) (c : State) : State :=
  let e := enrolOf c x.partner
  let y := { x with st := 2, last := c.now }
  if Config.ecdsaVerify e.key (Config.sha384 (digestBytes x.th ++ l.take 16)) ((l.drop 16).take 48) ((l.drop 64).take 48) then
    irq SES_PAGE 0 (sendFrame port (sealFrame y (fslot l) 4 0 (openBody e c)) (setSlot (fslot l) y c))
  else freeSlot (fslot l) (hsFails port (fslot l) x.gen 6 (raise 0x4101 c))

theorem ite_bnot {α : Type} (c : Bool) (x y : α) : (if (!c) = true then x else y) = if c = true then y else x := by cases c <;> rfl

theorem finish_judged (contested : Bool) (htake : takeFrame port s = some (l, t)) (hruns : sesRuns s = true) (hok : frameOk l = true)
    (htype : ftype l = 3) (hslot : frameSlotOk t port l = true) (hst : (slotOf t (fslot l)).st = 1) (hlen : l.length = 112)
    (hseq : fseq l = 0) : finish port contested s = finishJudged port l (slotOf t (fslot l)) (asymContest contested t) := by
  unfold finish
  rw [htake]
  dsimp only
  rw [if_neg (by rw [hruns, htype]; decide), ite_not_of_true hok, if_neg (not_not_intro htype),
    if_neg (by rw [hslot, hst, hlen, hseq]; decide), ite_bnot]
  rfl

theorem alertFrame_judged (htake : takeFrame port s = some (l, t)) (hruns : sesRuns s = true) (hok : frameOk l = true) (htype : ftype l = 5)
    (hslot : frameSlotOk t port l = true) :
    alertFrame port s = if (slotOf t (fslot l)).st = 1 then irq SES_PAGE 1 (freeSlot (fslot l) t)
      else match acceptFrame l t with
        | (none, u) => u
        | (some _, u) => irq SES_PAGE 1 (freeSlot (fslot l) u) := by
  unfold alertFrame
  rw [htake]
  dsimp only
  rw [if_neg (by rw [hruns, htype]; decide), ite_not_of_true hok, if_neg (not_not_intro htype), ite_not_of_true hslot] <;> rfl

/-- An open session closes with an encrypted ALERT (R490). -/
theorem closeWith_open {n : Nat} (code : Nat) (h : (slotOf s n).st = 2) :
    closeWith n code s = irq SES_PAGE 1 (freeSlot n
      (sendFrame (slotOf s n).port (sealFrame (slotOf s n) n 5 ((slotOf s n).seqOut + 1) (natLe code 1)) s)) := by
  unfold closeWith
  dsimp only
  rw [if_neg (by rw [h]; decide), if_pos h]

end

/-- Settles O54: HELLO, FINISH and ALERT by their checks, the timers by what is due. -/
theorem handshakesComplete : Obligations.HandshakesComplete := by
  refine fun s => ⟨fun port contested l t htake hruns htype hlen hlen' hzero hzero' hcheck => ?_,
    fun port contested l t c x e y htake hruns hok htype hslot hx hst hlen hseq hc he hy => ?_,
    fun port l t htake hruns hok htype hslot => ?_, fun slot x hx hst hdue => ?_, fun slot x hx hst hon hdue => ?_⟩
  · exact congrArg Host.Outcome.next (hello_passes contested htake hruns htype hlen hlen' hzero hzero' hcheck)
  · subst hx hc he hy
    exact congrArg Host.Outcome.next (finish_judged contested htake hruns hok htype hslot hst hlen hseq)
  · exact congrArg Host.Outcome.next ((alertFrame_judged htake hruns hok htype hslot).trans rfl)
  · subst hx
    exact congrArg Host.Outcome.next (if_pos ⟨hst, hdue⟩)
  · subst hx
    exact congrArg Host.Outcome.next ((if_pos ⟨hst, hon, hdue⟩).trans (closeWith_open 0xA hst))

section
variable {s t : State} {port n : Nat} {l : List Byte}

/-! ### The traffic of an open session (R486 to R490) -/

theorem dataJudged_open (htake : takeFrame port s = some (l, t)) (hruns : sesRuns s = true) (hok : frameOk l = true) (htype : ftype l = 0x10)
    (hslot : frameSlotOk t port l = true) (hst : (slotOf t (fslot l)).st = 2) :
    dataJudged port s = ((acceptFrame l t).2, (acceptFrame l t).1.map fun p => (fslot l, p)) := by
  unfold dataJudged
  rw [htake]
  dsimp only
  rw [if_neg (by rw [hruns, htype]; decide), ite_not_of_true hok, if_neg (by rw [htype]; decide), if_neg (by rw [htype, hslot, hst]; decide)]

theorem dataFrame_open (env : HostEnv) (storeBad : Bool) (htake : takeFrame port s = some (l, t)) (hruns : sesRuns s = true)
    (hok : frameOk l = true) (htype : ftype l = 0x10) (hslot : frameSlotOk t port l = true) (hst : (slotOf t (fslot l)).st = 2) :
    dataFrame port env storeBad s = match acceptFrame l t with
      | (none, u) => u
      | (some p, u) => sesPlain (fslot l) p env storeBad u := by
  rw [dataFrame, dataJudged_open htake hruns hok htype hslot hst]
  obtain ⟨plain, u⟩ := acceptFrame l t
  cases plain <;> rfl

/-- A write of a command of the SES page that nothing bars. -/
theorem regCmd_ses {a : Acc} {o : Nat} {v : Word} {u : State} (hlow : 0x40 ≤ o) (hhigh : o < 0x1000)
    (h : regFree a (0x41 * 0x1000 + o) s = true) (hu : sesWrite o v a.env s = some (u, .okay)) :
    regCmd a (0x41 * 0x1000 + o) v s = regDone u := regCmd_at (k := .ses) rfl hlow hhigh h hu

/-- SES_TX_CMD once the timers that are due have acted (R488). -/
theorem txCmd_sends {v : Word} (ht : t = sesDue s) (hst : (slotOf t (fld v 0 10)).st = 2) (hlow : 1 ≤ fld v 16 12) (hhigh : fld v 16 12 ≤ 4062)
    (hmem : inUserMem (t.rg64 Reg.SES_TX_ADDR % 2 ^ 40) (fld v 16 12) = true) (hfree : outBusy t (slotOf t (fld v 0 10)).port = false) :
    txCmd v s = irq SES_PAGE 4 ((sendData (fld v 0 10) (natLe 0x20 1
        ++ natLe ((unitRead (t.rg64 Reg.SES_TX_ADDR % 2 ^ 40) (fld v 16 12) t).1.freeBelow 256) 1
        ++ (unitRead (t.rg64 Reg.SES_TX_ADDR % 2 ^ 40) (fld v 16 12) t).2)
      (unitRead (t.rg64 Reg.SES_TX_ADDR % 2 ^ 40) (fld v 16 12) t).1.bump).wrg Reg.SES_TX_STATUS (w32 1)) := by
  unfold txCmd
  rw [← ht]
  dsimp only
  rw [if_neg (not_not_intro hst), if_neg (by omega), ite_not_of_true hmem, ite_of_false hfree]

/-- The fields of SES_TX_CMD and SES_RX_FREE. -/
theorem txCmd_fields (slot : Fin 1024) (len : BitVec 12) :
    fld (w32 (len.toNat * 2 ^ 16 + slot.val)) 0 10 = slot.val ∧ fld (w32 (len.toNat * 2 ^ 16 + slot.val)) 16 12 = len.toNat := by
  rw [fld_w32, fld_w32]
  omega

theorem rxFree_fields (slot : Fin 1024) (cell : Bool) :
    fld (w32 (b2n cell * 2 ^ 16 + slot.val)) 0 10 = slot.val ∧ bit (w32 (b2n cell * 2 ^ 16 + slot.val)) 16 = cell := by
  have hcell := b2n_le cell
  refine ⟨by rw [fld_w32]; omega, ?_⟩
  have hbit : (b2n cell * 2 ^ 16 + slot.val) % 2 ^ 32 / 2 ^ 16 = b2n cell := by omega
  rw [bit, w32, BitVec.toNat_ofNat, Nat.testBit_eq_decide_div_mod_eq, hbit]
  cases cell <;> rfl

/-- The slot of a cell that has been freed. -/
def slotFreed (n : Nat) (cell : Bool) (s : State) : State :=
  setSlot n (if cell then { slotOf s n with full1 := false } else { slotOf s n with full0 := false }) s

theorem freeCell_valid (n : Nat) (cell : Bool) (h : rxValid s = true) :
    freeCell n cell s = memStore (cellAddr s n cell) 4 0 (slotFreed n cell s) := if_pos h

end

/-- Settles O55: a DATA frame by its judgement, each command as a write of the SES page. -/
theorem sessionTrafficComplete : Obligations.SessionTrafficComplete := by
  refine fun s => ⟨fun port env storeBad l t htake hruns hok htype hslot hst => ?_,
    fun a slot len t addr m hfree ht hst hlow hhigh haddr hmem hbusy hm => ?_, fun a slot hfree hvalid => ⟨?_, ?_⟩,
    fun a slot x hfree hx hst => ?_⟩
  · exact congrArg (fun u => Host.Outcome.next (settled u)) ((dataFrame_open env storeBad htake hruns hok htype hslot hst).trans rfl)
  · obtain ⟨h0, h16⟩ := txCmd_fields slot len
    subst hm haddr
    refine congrArg Host.Outcome.next ((regCmd_ses (o := 0x70) (by decide) (by decide) hfree rfl).trans (congrArg regDone ?_))
    rw [txCmd_sends ht (by rw [h0, hst]) (by rw [h16]; exact hlow) (by rw [h16]; exact hhigh) (by rw [h16, hmem]) (by rw [h0, hbusy]), h0, h16]
    rfl
  · obtain ⟨h0, h16⟩ := rxFree_fields slot false
    refine congrArg Host.Outcome.next ((regCmd_ses (o := 0x60) (by decide) (by decide) hfree rfl).trans (congrArg regDone ?_))
    rw [h0, h16, freeCell_valid _ _ hvalid, slotFreed, if_neg Bool.noConfusion]
  · obtain ⟨h0, h16⟩ := rxFree_fields slot true
    refine congrArg Host.Outcome.next ((regCmd_ses (o := 0x60) (by decide) (by decide) hfree rfl).trans (congrArg regDone ?_))
    rw [h0, h16, freeCell_valid _ _ hvalid, slotFreed, if_pos rfl]
  · subst hx
    have hslot : fld (w32 slot.val) 0 10 = slot.val := by rw [fld_w32]; omega
    refine congrArg Host.Outcome.next ((regCmd_ses (o := 0x78) (by decide) (by decide) hfree rfl).trans (congrArg regDone ?_))
    rw [hslot, closeWith_open 0xB hst]

end Sys2Proof.Machine
end

section
/-!
PROOFS. Fitting: slices, rounds, windows and demands (R522 to R532).
-/

namespace Sys2Proof.Machine

open Sys2Proof

section
variable {s : State}

/-! ### Slices (R522, R529, R531) -/

theorem sliceStart_first {r : FitRun} (hon : fitOn s = true)
    (hfirst : (fitOrder s).find? (fun r => fitPower s r.cls && fitSpace s r.cls r.unit) = some r) :
    sliceStart s = { s with fit := { s.fit with
      running := s.fit.running ++ [r]
      demand := if r.demanded then s.fit.demand.erase (r.cls, r.unit, r.slice) else s.fit.demand
      lastStart := some s.now } } := by
  unfold sliceStart
  rw [ite_not_of_true hon, hfirst]

/-- A slice that passes the first time. -/
def slicePasses (r : FitRun) (c u cycles : Nat) (t : State) : State :=
  fitPassed r (fitResult cycles c u r.slice 1 { t with fit := { t.fit with running := t.fit.running.erase r } })

/-- A slice that fails the first time is repeated at once. -/
def sliceRepeats (r : FitRun) (v : State) : State :=
  { v with fit := { v.fit with running := v.fit.running.map fun x => if x = r then { r with retry := true, start := v.now } else x } }

theorem sliceDone_first {c u cycles : Nat} {sig : DWord} {differs : Bool} {r : FitRun}
    (hrun : s.fit.running.find? (fun r => r.cls == c && r.unit == u) = some r) (hretry : r.retry = false) (hmeets : marchMeets r none s = none) :
    sliceDone c u cycles sig differs none s = if fitCode c u r.slice cycles sig differs = 1
      then slicePasses r c u cycles (s.wrg64 Reg.FIT_SIG (if (fitClass c).misr then sig.toNat else 0))
      else sliceRepeats r (fitResult cycles c u r.slice (fitCode c u r.slice cycles sig differs)
        (s.wrg64 Reg.FIT_SIG (if (fitClass c).misr then sig.toNat else 0))) := by
  simp only [sliceDone, hrun, hmeets, hretry, Option.isSome_none, Bool.and_false, Bool.or_false, Bool.false_eq_true, if_false, Bool.not_false,
    if_true]
  rfl

/-! ### Rounds (R528, R530) -/

/-- One unit as a round starts. -/
def roundUnit (s : State) (p : Nat × Nat) : State :=
  let x := fitUnit s p.1 p.2
  let late := x.force.isSome && !x.overdue
  let s := setFitUnit p.1 p.2 { x with passed := 0, overdue := x.overdue || late } s
  if late then irq FIT_PAGE 1 (raise 0x5002 s) else s

/-- The time of a round starts. -/
def roundBegins (t : State) : State := { t with fit := { t.fit with began := t.now, isDone := false } }

theorem roundStart_due (hon : fitOn s = true) (hmode : s.mode ≠ .safe) (hdue : s.fit.began + max 1 (s.rf Reg.FIT_CFG 0 16) * 60000000000 ≤ s.now) :
    roundStart s = roundBegins (fitAll.foldl roundUnit s) := by
  have hstarts : ¬ ((!fitOn s) = true ∨ s.mode = .safe ∨ s.now < s.fit.began + max 1 (s.rf Reg.FIT_CFG 0 16) * 60000000000) := by
    rw [hon]
    rintro (hc | hc | hc)
    · exact Bool.noConfusion hc
    · exact hmode hc
    · omega
  unfold roundStart
  generalize fitAll = l
  dsimp only
  rw [if_neg hstarts]
  rfl

theorem roundBegins_fit (t : State) :
    (roundBegins t).fit.began = t.now ∧ (roundBegins t).fit.isDone = false ∧ ∀ c u, fitUnit (roundBegins t) c u = fitUnit t c u :=
  ⟨rfl, rfl, fun _ _ => rfl⟩

theorem roundUnit_fit (p : Nat × Nat) :
    (roundUnit s p).fit = (setFitUnit p.1 p.2 { fitUnit s p.1 p.2 with
      passed := 0, overdue := (fitUnit s p.1 p.2).overdue || ((fitUnit s p.1 p.2).force.isSome && !(fitUnit s p.1 p.2).overdue) } s).fit := by
  unfold roundUnit
  dsimp only
  split
  · simp only [irq_frame, raise_frame]
  · rfl

theorem roundUnit_now (p : Nat × Nat) : (roundUnit s p).now = s.now := by
  have hreg : ∀ k, k = Reg.TIM_NOW ∨ k = Reg.TIM_NOW + 4 → (roundUnit s p).rg k = s.rg k := by
    intro k hk
    unfold roundUnit
    dsimp only
    split
    · obtain rfl | rfl := hk <;>
        rw [rg_irq_ne _ _ (by decide), rg_raise_ne _ (by decide) (by decide), rg_setFitUnit]
    · exact rg_setFitUnit _ _ _ _ _
  simp only [State.now, State.rg64, hreg _ (.inl rfl), hreg _ (.inr rfl)]

theorem roundUnit_clears (c u : Nat) : (fitUnit (roundUnit s (c, u)) c u).passed = 0 := by
  rw [fitUnit, roundUnit_fit, setFitUnit, sget_sset_self]

theorem roundUnit_cleared (p : Nat × Nat) {c u : Nat} (h : (fitUnit s c u).passed = 0) : (fitUnit (roundUnit s p) c u).passed = 0 := by
  rw [fitUnit, roundUnit_fit, setFitUnit]
  by_cases hsame : c * 256 + u = p.1 * 256 + p.2
  · rw [hsame, sget_sset_self]
  · rw [sget_sset_ne _ _ _ hsame, ← fitUnit, h]

/-- A round starts every unit afresh, and takes no time. -/
theorem roundUnits_afresh (l : List (Nat × Nat)) (s : State) :
    (l.foldl roundUnit s).now = s.now ∧ ∀ c u, (c, u) ∈ l ∨ (fitUnit s c u).passed = 0 → (fitUnit (l.foldl roundUnit s) c u).passed = 0 := by
  induction l generalizing s with
  | nil => exact ⟨rfl, fun c u h => h.resolve_left List.not_mem_nil⟩
  | cons p l ih =>
    obtain ⟨hnow, hunits⟩ := ih (roundUnit s p)
    refine ⟨hnow.trans (roundUnit_now p), fun c u h => hunits c u ?_⟩
    obtain h | h := h
    · obtain rfl | h := List.mem_cons.mp h
      · exact .inr (roundUnit_clears c u)
      · exact .inl h
    · exact .inr (roundUnit_cleared p h)

theorem mem_fitAll {c u : Nat} (hlow : 1 ≤ c) (hhigh : c ≤ 7) (hu : u < (fitClass c).units) : (c, u) ∈ fitAll := by
  have hc : c - 1 + 1 = c := Nat.sub_add_cancel hlow
  refine List.mem_flatMap.mpr ⟨c - 1, List.mem_range.mpr (by omega), List.mem_map.mpr ⟨u, ?_, by rw [hc]⟩⟩
  rw [hc]
  exact List.mem_range.mpr hu

/-! ### Windows and demands (R527, R532) -/

theorem windowClose_due {e : Nat} (h : s.fit.window = some e) (hdue : e ≤ s.now) :
    windowClose s = { s.wb Reg.FIT_WINDOW_LEN 31 false with fit := { s.fit with window := none } } := by
  unfold windowClose
  rw [h]
  exact if_pos hdue

/-- A write of FIT_CMD that nothing bars. -/
theorem regCmd_fit {a : Acc} (v : Word) (h : regFree a 0x50060 s = true) : regCmd a 0x50060 v s = regDone (fitCmd v s) :=
  regCmd_at (i := 0x50) (o := 0x60) (k := .fit) rfl (by decide) (by decide) h rfl

/-- The fields of FIT_CMD. -/
theorem fitCmd_fields {op c u k : Nat} (hop : op < 16) (hc : c < 16) (hu : u < 256) (hk : k < 256) :
    fld (w32 (op * 2 ^ 28 + c * 2 ^ 24 + u * 2 ^ 16 + k)) 28 4 = op ∧ fld (w32 (op * 2 ^ 28 + c * 2 ^ 24 + u * 2 ^ 16 + k)) 24 4 = c
    ∧ fld (w32 (op * 2 ^ 28 + c * 2 ^ 24 + u * 2 ^ 16 + k)) 16 8 = u ∧ fld (w32 (op * 2 ^ 28 + c * 2 ^ 24 + u * 2 ^ 16 + k)) 0 8 = k := by
  simp only [fld_w32]
  omega

theorem fitDemand_joins {c u : Nat} {ks : List Nat} (hen : fitEnabled s c = true) (hu : u < (fitClass c).units)
    (hks : ∀ k ∈ ks, k < (fitClass c).slices) :
    fitDemand c u ks s = { s with fit := { s.fit with demand := s.fit.demand ++ ks.map fun k => (c, u, k) } } := by
  have hany : ks.any ((fitClass c).slices ≤ ·) = false :=
    List.any_eq_false.mpr fun k hk => by rw [decide_eq_true_eq]; exact Nat.not_le_of_lt (hks k hk)
  refine ite_of_false ?_ _ _
  rw [hen, decide_eq_false (Nat.not_le_of_lt hu), hany]
  rfl

/-- The slice's result, and what Fitting keeps once it is aborted. -/
def abortResult (r : FitRun) (s : State) : State := fitResult (s.freeBelow (fitClass r.cls).cycles) r.cls r.unit r.slice 5 s.bump

def abortFit (r : FitRun) (f : Fit) : Fit :=
  { f with running := f.running.erase r, demand := if r.demanded then (r.cls, r.unit, r.slice) :: f.demand else f.demand }

theorem abortResult_fit (r : FitRun) : (abortResult r s).fit = s.fit := by
  simp only [abortResult, fitResult, State.wrg64_frame, State.bump_frame]

theorem abortOne_fit (r : FitRun) :
    abortOne r s = abortNoted r (abortFit r (abortResult r s).fit) s
    ∨ ∃ y, abortOne r s = (setFitUnit r.cls r.unit y (abortNoted r (abortFit r (abortResult r s).fit) s)).incSat Reg.FIT_COUNT 16 16 := by
  by_cases h : r.forced = true
  · exact .inl (if_pos h)
  · exact .inr ⟨_, if_neg h⟩

theorem abortNoted_fit (r : FitRun) (f : Fit) : (abortNoted r f s).fit = f := rfl

theorem setFitUnit_running (c u : Nat) (y : FitUnit) (s : State) : (setFitUnit c u y s).fit.running = s.fit.running := rfl

theorem abortOne_running (r : FitRun) : (abortOne r s).fit.running = s.fit.running.erase r := by
  obtain h | ⟨y, h⟩ := abortOne_fit r (s := s) <;> rw [h]
  · rw [abortNoted_fit, abortFit, abortResult_fit]
  · simp only [State.incSat_frame, setFitUnit_running, abortNoted_fit, abortFit, abortResult_fit]

theorem abortRuns_running (l : List FitRun) : (l.foldl (fun s r => abortOne r s) s).fit.running = l.foldl List.erase s.fit.running := by
  induction l generalizing s with
  | nil => rfl
  | cons r l ih => rw [List.foldl_cons, List.foldl_cons, ih, abortOne_running]

theorem fitAbortAll_idle : (fitAbortAll s).fit.demand = [] ∧ (fitAbortAll s).fit.running = [] := by
  refine ⟨by rw [fitAbortAll], (abortRuns_running s.fit.running).trans ?_⟩
  induction s.fit.running with
  | nil => rfl
  | cons r l ih => rw [List.foldl_cons, List.erase_cons_head, ih]

end

/-- Settles O59: slices by the order and their judgement, rounds unit by unit, demands as writes of FIT_CMD. -/
theorem fittingComplete : Obligations.FittingComplete := by
  refine fun s => ⟨fun r hon hfirst => ?_, fun cls unit cycles sig differs r t hrun hretry hmeets ht => ?_, fun hon hmode hdue => ?_,
    fun harm hclosed hdue => ?_, fun e hopen hdue => ?_, fun a cls unit slice hfree hen hu => ⟨fun hk => ?_, ?_⟩, fun a hfree => ?_⟩
  · exact congrArg Host.Outcome.next (sliceStart_first hon hfirst)
  · subst ht
    exact congrArg (fun u => Host.Outcome.next (settled u)) (sliceDone_first hrun hretry hmeets)
  · obtain ⟨hnow, hunits⟩ := roundUnits_afresh fitAll s
    obtain ⟨hbegan, hdone, hsame⟩ := roundBegins_fit (fitAll.foldl roundUnit s)
    exact ⟨_, congrArg Host.Outcome.next (roundStart_due hon hmode hdue), hbegan.trans hnow, hdone,
      fun c n hlow hhigh hn => (congrArg FitUnit.passed (hsame c n)).trans (hunits c n (.inl (mem_fitAll hlow hhigh hn)))⟩
  · exact congrArg Host.Outcome.next (if_pos ⟨harm, by rw [hclosed]; rfl, hdue⟩)
  · exact congrArg Host.Outcome.next (windowClose_due hopen hdue)
  · obtain ⟨hop, hc, hu', hk'⟩ := fitCmd_fields (op := 1) (by decide) cls.isLt unit.isLt slice.isLt
    refine congrArg Host.Outcome.next ((regCmd_fit _ hfree).trans (congrArg regDone ?_))
    rw [fitCmd, hop, hc, hu', hk']
    exact fitDemand_joins hen hu fun k hk1 => by rw [List.mem_singleton.mp hk1]; exact hk
  · obtain ⟨hop, hc, hu', -⟩ := fitCmd_fields (op := 2) (k := 0) (by decide) cls.isLt unit.isLt (by decide)
    refine congrArg Host.Outcome.next ((regCmd_fit _ hfree).trans (congrArg regDone ?_))
    rw [Nat.add_zero] at hop hc hu'
    rw [fitCmd, hop, hc, hu']
    exact fitDemand_joins hen hu fun k hk => List.mem_range.mp hk
  · exact ⟨fitAbortAll s, congrArg Host.Outcome.next (regCmd_fit _ hfree), fitAbortAll_idle⟩

end Sys2Proof.Machine
end

section
/-!
PROOFS. The monitors' samples, local supply faults, and the fault collector (R537 to R545).
-/

namespace Sys2Proof.Machine

open Sys2Proof

section
variable {s t u : State} {n : Nat}

/-! ### What the sample of one sensor does to it, and leaves of another (R537) -/

/-- The reading and the record of a sensor stand as before. -/
def SensorKept (n : Nat) (s t : State) : Prop := t.rg (Reg.MON_TEMP n) = s.rg (Reg.MON_TEMP n) ∧ sensorOf t n = sensorOf s n

/-- A sensor shows a reading. -/
def SensorReads (n : Nat) (v : BitVec 16) (s : State) : Prop := s.rf (Reg.MON_TEMP n) 0 16 = v.toNat ∧ (sensorOf s n).sampled = true

theorem SensorKept.trans (hst : SensorKept n s t) (htu : SensorKept n t u) : SensorKept n s u :=
  ⟨htu.1.trans hst.1, htu.2.trans hst.2⟩

theorem SensorReads.kept {v : BitVec 16} (h : SensorReads n v s) (hst : SensorKept n s t) : SensorReads n v t := by
  obtain ⟨hreg, hsensor⟩ := hst
  obtain ⟨hreads, hsampled⟩ := h
  exact ⟨by rw [State.rf, hreg, ← State.rf, hreads], by rw [hsensor, hsampled]⟩

theorem sensorOf_setSensor_ne {m : Nat} (x : Sensor) (s : State) (h : n ≠ m) : sensorOf (setSensor m x s) n = sensorOf s n :=
  sget_sset_ne _ _ x h

theorem rg_setSensor (m : Nat) (x : Sensor) (s : State) (k : Nat) : (setSensor m x s).rg k = s.rg k := rfl

theorem sensorOf_wf (s : State) (k lo len v : Nat) : sensorOf (s.wf k lo len v) n = sensorOf s n := by
  simp only [sensorOf, State.wf_frame]

theorem monTemp_ne {m : Nat} (h : n ≠ m) : Reg.MON_TEMP n ≠ Reg.MON_TEMP m := by unfold Reg.MON_TEMP; omega

/-- The registers of the sensors stand apart from those that a report writes. -/
theorem monTemp_apart (hn : n < 16) :
    Reg.MON_TEMP n ≠ irqRaw MON_PAGE ∧ Reg.MON_TEMP n ≠ faultInfo (0x5104 / 0x100) ∧ Reg.MON_TEMP n ≠ Reg.FLT_COUNT
    ∧ ∀ d, Reg.MON_TEMP n ≠ Reg.MON_VDD d := by
  unfold Reg.MON_TEMP irqRaw MON_PAGE faultInfo Reg.FLT_COUNT Reg.MON_VDD
  refine ⟨by omega, by omega, by omega, fun d => by omega⟩

theorem sensorFails_kept {m : Nat} (hn : n < 16) (h : n ≠ m) (s : State) : SensorKept n s (sensorFails m s) := by
  obtain ⟨hirq, hinfo, hcount, -⟩ := monTemp_apart hn
  unfold sensorFails
  dsimp only
  refine ⟨?_, ?_⟩
  · rw [rg_irq_ne _ _ hirq, rg_raise_ne _ hinfo hcount, rg_setSensor, State.rg_wf_ne _ _ _ _ (monTemp_ne h)]
  · rw [sensorOf, (irq_frame ..).2.2.2.2.2.2.2.2.1, (raise_frame ..).2.2.2.2.2.2.2.2.1, ← sensorOf, sensorOf_setSensor_ne _ _ h, sensorOf_wf]

/-- A sample leaves a sensor that has failed, fails one, or takes its reading. -/
theorem sampleOne_cases (m : Nat) (v : BitVec 16) (differ : Bool) (s : State) :
    sampleOne m v differ s = s ∨ sampleOne m v differ s = sensorFails m s
      ∨ ∃ x low peak, sampleOne m v differ s = setSensor m x ((s.wf (Reg.MON_TEMP m) 0 16 low).wf (Reg.MON_TEMP m) 16 16 peak) := by
  unfold sampleOne
  dsimp only
  obtain h | h := ite_eq_or_eq ((sensorOf s m).failed = true) s _ <;> rw [h]
  · exact .inl rfl
  · refine .inr ((ite_eq_or_eq _ _ _).imp id fun hreads => ⟨_, _, _, hreads⟩)

theorem sampleOne_kept {m : Nat} (hn : n < 16) (h : n ≠ m) (v : BitVec 16) (differ : Bool) (s : State) :
    SensorKept n s (sampleOne m v differ s) := by
  obtain hs | hs | ⟨x, low, peak, hs⟩ := sampleOne_cases m v differ s <;> rw [hs]
  · exact ⟨rfl, rfl⟩
  · exact sensorFails_kept hn h s
  · refine ⟨?_, ?_⟩
    · rw [rg_setSensor, State.rg_wf_ne _ _ _ _ (monTemp_ne h), State.rg_wf_ne _ _ _ _ (monTemp_ne h)]
    · rw [sensorOf_setSensor_ne _ _ h, sensorOf_wf, sensorOf_wf]

/-- A sensor that works takes its reading. -/
theorem sampleOne_reads {v : BitVec 16} (hworks : (sensorOf s n).failed = false) (hlow : -440 ≤ v.toInt) (hhigh : v.toInt ≤ 1200) :
    SensorReads n v (sampleOne n v false s) := by
  have hpaths : ¬ (v.toInt < -440 ∨ 1200 < v.toInt ∨ heldMs s.now none = true) := by
    rintro (hc | hc | hc)
    · omega
    · omega
    · exact Bool.noConfusion hc
  obtain ⟨peak, htakes⟩ : ∃ peak, sampleOne n v false s = setSensor n { sensorOf s n with badSince := none, sampled := true }
      ((s.wf (Reg.MON_TEMP n) 0 16 v.toNat).wf (Reg.MON_TEMP n) 16 16 peak) :=
    ⟨_, (ite_of_false hworks _ _).trans (if_neg hpaths)⟩
  refine ⟨?_, by rw [htakes, sensorOf_setSensor]⟩
  rw [State.rf, htakes, rg_setSensor, ← State.rf, State.rf_wf_apart _ _ _ (by decide) (.inl (by decide)), State.rf_wf_self _ _ _ (by decide),
    Nat.mod_eq_of_lt v.isLt]

theorem noteVdd_kept (hn : n < 16) (d mv : Nat) (s : State) : SensorKept n s (noteVdd d mv s) := by
  obtain ⟨-, -, -, hvdd⟩ := monTemp_apart hn
  unfold noteVdd
  exact ⟨by rw [State.rg_wf_ne _ _ _ _ (hvdd d), State.rg_wf_ne _ _ _ _ (hvdd d)], by rw [sensorOf_wf, sensorOf_wf]⟩

/-! ### The sample of all (R537 to R539) -/

/-- The sensors, in their order, and the local supplies. -/
def sampleSensors (ks : List Nat) (rs : List (BitVec 16 × Bool)) (s : State) : State :=
  (ks.zip rs).foldl (fun s p => sampleOne p.1 p.2.1 p.2.2 s) s

def sampleVdd (vdd : List Nat) (s : State) : State := ((List.range 12).zip vdd).foldl (fun s p => noteVdd p.1 p.2 s) s

theorem tempSample_on (readings : List (BitVec 16 × Bool)) (vdd : List Nat) (hon : monitorsOn s = true) :
    tempSample readings vdd s = (List.range 16).foldl tempRules (sampleVdd vdd (sampleSensors (List.range 16) readings s)) := if_pos hon

theorem sampleSensors_kept (hn : n < 16) {ks : List Nat} (hks : n ∉ ks) (rs : List (BitVec 16 × Bool)) (s : State) :
    SensorKept n s (sampleSensors ks rs s) := by
  refine List.foldlRecOn (motive := fun t : State => SensorKept n s t) _ _ ⟨rfl, rfl⟩ fun t ht p hp => ?_
  obtain ⟨k, r⟩ := p
  have hk : n ≠ k := fun hc => hks (hc ▸ (List.of_mem_zip hp).1)
  exact ht.trans (sampleOne_kept hn hk r.1 r.2 t)

theorem sampleVdd_kept (hn : n < 16) (vdd : List Nat) (s : State) : SensorKept n s (sampleVdd vdd s) :=
  List.foldlRecOn (motive := fun t : State => SensorKept n s t) _ _ ⟨rfl, rfl⟩ fun t ht p _ => ht.trans (noteVdd_kept hn p.1 p.2 t)

/-- Each sensor is sampled once: one that works keeps its reading to the end. -/
theorem sampleSensors_reads {v : BitVec 16} (hn : n < 16) (hlow : -440 ≤ v.toInt) (hhigh : v.toInt ≤ 1200) {ks : List Nat} (hks : ks.Nodup)
    {i : Nat} (hi : ks[i]? = some n) {rs : List (BitVec 16 × Bool)} (hr : rs[i]? = some (v, false)) (hworks : (sensorOf s n).failed = false) :
    SensorReads n v (sampleSensors ks rs s) := by
  induction ks generalizing i rs s with
  | nil => cases hi
  | cons k ks ih =>
    obtain ⟨hk, hks⟩ := List.nodup_cons.mp hks
    cases rs with
    | nil => cases hr
    | cons r rs =>
      have hfirst : sampleSensors (k :: ks) (r :: rs) s = sampleSensors ks rs (sampleOne k r.1 r.2 s) := rfl
      rw [hfirst]
      cases i with
      | zero =>
        cases hi
        cases hr
        exact (sampleOne_reads hworks hlow hhigh).kept (sampleSensors_kept hn hk rs _)
      | succ i =>
        have hne : n ≠ k := fun hc => hk (hc ▸ List.mem_of_getElem? hi)
        refine ih hks hi hr ?_
        rw [(sampleOne_kept hn hne r.1 r.2 s).2, hworks]

/-! ### Local supplies and the collector (R539 to R545) -/

/-- A local supply fault as it is noted and reported. -/
def localNoted (d mv : Nat) (s : State) : State :=
  let w := (noteVdd d mv s).wb Reg.MON_LOCAL d true
  irq MON_PAGE 2 (raiseIsolating 0x5103 (isolates w d) w)

theorem localFault_on {d mv : Nat} (hon : monitorsOn s = true) :
    localFault d mv s = if (if d < 8 then boltEn s else clusterEn s) = true then collect d (localNoted d mv s)
      else raiseSafe 0x5203 (localNoted d mv s) := ite_not_of_true hon _ _

/-- A cycle of the collector with one code waiting, and no loss to report. -/
theorem faultLog_one {x : Intake} (hx : s.flt.intake = [x]) (hloss : (logOne { s with flt := { s.flt with intake := [] } } x).flt.lossDue = false) :
    faultLog s = logOne { s with flt := { s.flt with intake := [] } } x := by
  unfold faultLog
  rw [hx]
  refine if_neg fun hc => ?_
  exact Bool.noConfusion (hloss.symm.trans hc.1)

end

/-- Settles O60: samples sensor by sensor, a local fault by where the collector may act, the log, FLT_ACK. -/
theorem monitorsAndFaultsComplete : Obligations.MonitorsAndFaultsComplete := by
  refine fun s => ⟨fun readings vdd hon => ?_, fun domain mv en w hon hen hw => ?_, fun x t hx ht hloss => ?_, fun a hfree => ?_⟩
  · refine ⟨sampleVdd vdd (sampleSensors (List.range 16) readings s),
      congrArg (fun u => Host.Outcome.next (settled u)) (tempSample_on readings vdd hon), fun n v hn hread hworks hlow hhigh => ?_⟩
    have hreads := sampleSensors_reads hn hlow hhigh List.nodup_range (List.getElem?_range hn) hread hworks
    exact hreads.kept (sampleVdd_kept hn vdd _)
  · subst hen hw
    exact congrArg (fun u => Host.Outcome.next (settled u)) (localFault_on hon)
  · subst ht
    exact congrArg (fun u => Host.Outcome.next (settled u)) (faultLog_one hx hloss)
  · exact congrArg Host.Outcome.next (regCmd_at (i := 0x52) (o := 0x44) (k := .flt) rfl (by decide) (by decide) hfree rfl)

end Sys2Proof.Machine
end
